-- ==== Sys2Proof/Word.lean ====
section
/-! DEFINITION. Word.lean: bytes, little-endian numbers, and the plain arithmetic of fields.
The manual numbers bits from 0, least significant first (R5), and every multi-byte field is little-endian (R6). -/
namespace Sys2Proof

/-- One byte of memory, of a packet or of an object's value. -/
abbrev Byte := BitVec 8

/-- The byte that holds `n mod 256`. -/
abbrev byte (n : Nat) : Byte := BitVec.ofNat 8 n

/-- Field `[lo + w - 1 : lo]` of a number. -/
def bits (n lo w : Nat) : Nat := n / 2 ^ lo % 2 ^ w

/-- Bit `i` of a number. -/
def bit (n i : Nat) : Bool := bits n i 1 == 1

/-- A Bool as a number. -/
def bnat (b : Bool) : Nat := if b then 1 else 0

/-- Set bit `i` of a number. -/
def setBit (n i : Nat) : Nat := if bit n i then n else n + 2 ^ i

/-- Clear bit `i` of a number. -/
def clearBit (n i : Nat) : Nat := if bit n i then n - 2 ^ i else n

/-- The number that little-endian bytes hold (R6). -/
def leNat : List Byte → Nat
  | [] => 0
  | b :: bs => b.toNat + 256 * leNat bs

/-- The `k` little-endian bytes of a number (R6). -/
def leBytes : Nat → Nat → List Byte
  | 0, _ => []
  | k + 1, n => byte n :: leBytes k (n / 256)

/-- A number of `w` bits read as two's complement. -/
def sext (w n : Nat) : Int := if n % 2 ^ w < 2 ^ (w - 1) then (n % 2 ^ w : Nat) else (n % 2 ^ w : Nat) - (2 ^ w : Nat)

/-- The two's complement of an integer in `w` bits. -/
def wrap (w : Nat) (i : Int) : Nat := (i % (2 ^ w : Nat)).toNat

/-- Rounded-up division. -/
def ceilDiv (a b : Nat) : Nat := (a + b - 1) / b

/-- `k` bytes of a list from offset `o`, zero where the list is shorter. -/
def slice (l : List Byte) (o k : Nat) : List Byte :=
  let p := (l.drop o).take k
  p ++ List.replicate (k - p.length) 0

end Sys2Proof
end

