-- ==== Sys2Proof/Syntax.lean ====
section
/-! DEFINITION. Syntax.lean: the commands the block takes, one constructor of `Instr` per row of the opcode table, and
the packets and messages they carry. Operands are what the row's event names; the table gives no bits to any row. -/
namespace Sys2Proof

/-- A facet, a compute or far die, a prism die, an optical engine, a hub or host die, a laser supply module, a copy
engine, a matrix array, a site (R15), a package link (R184). -/
abbrev Facet := Fin 4
abbrev Die := Fin 32
abbrev Pd := Fin 8
abbrev Oe := Fin 24
abbrev Hd := Fin 2
abbrev Lsm := Fin 12
abbrev Ce := Fin 4
abbrev Ma := Fin 2
abbrev SiteNo := Fin 100
abbrev LinkNo := Fin 140

/-- The management paths, with the journal codes of R392; `own` marks what the device does by itself. -/
inductive Path where
  | own | mgt0 | mgt1 | mctp | hd0 | hd1 | twn | svc
deriving DecidableEq, Repr

/-- The engines of a compute die (R38). -/
inductive Engine where
  | ma0 | ma1 | vu | ce0 | ce1 | ce2 | ce3 | nbc
deriving DecidableEq, Repr

/-- The two slots of a die's engines (R40). -/
inductive Slot where
  | primary | backfill
deriving DecidableEq, Repr

/-- The two scratchpad power domains (R114). -/
inductive SpDomain where
  | single | dual
deriving DecidableEq, Repr

/-- The two directions of a link: `fwd` from its lower-listed end in R184, `rev` the other way. -/
inductive Dir where
  | fwd | rev
deriving DecidableEq, Repr

/-- Kinds of memory unit (R328). -/
inductive UnitKind where
  | slot | stripe | block
deriving DecidableEq, Repr

/-- Transmit or receive side of an optical engine. -/
inductive Side where
  | tx | rx
deriving DecidableEq, Repr

/-- A package packet (R195): the 16-byte header's fields, and LEN x 32 bytes of payload. `dst` and `src` are strap
bytes. `mach` is the 32-byte machine header of an OP 0x20 to 0x2E packet (R272), empty otherwise. -/
structure Pkg where
  dst : Nat := 0
  src : Nat := 0
  op : Nat := 0
  pclass : Nat := 0
  rdClass : Nat := 1
  ctx : Nat := 0
  gen : Nat := 0
  len : Nat := 0
  origin : Nat := 0
  etype : Nat := 0
  status : Nat := 0
  posted : Bool := false
  setValid : Bool := false
  slot : Nat := 0
  srcEngine : Nat := 15
  tag : Nat := 0
  addr : Nat := 0
  data : List Byte := []
deriving DecidableEq, Repr

/-- Who sent a message (a source of R400), and where a datagram was sent: IPv6 address and UDP port (R393). -/
structure Sent where
  source : List Byte := []
  addr : List Byte := []
  port : Nat := 0
deriving DecidableEq, Repr

/-- A machine packet (R270): header fields and LEN x 32 bytes of data. -/
structure Mpk where
  op : Nat := 0
  tc : Nat := 0
  sub : Nat := 0
  port : Nat := 0
  striped : Bool := false
  flag : Bool := false
  ret : Bool := false
  ctx : Nat := 0
  gen : Nat := 0
  dstNode : Nat := 0
  srcNode : Nat := 0
  count : Nat := 0
  len : Nat := 0
  status : Nat := 0
  rdClass : Nat := 1
  atop : Nat := 0
  etype : Nat := 0
  srcEngine : Nat := 0
  srcDie : Nat := 0
  slot : Nat := 0
  arrEn : Bool := false
  arr : Nat := 0
  epoch : Nat := 0
  tag : Nat := 0
  addr : Nat := 0
  data : List Byte := []
deriving DecidableEq, Repr

/-- The collective header (R307). -/
structure CollHdr where
  offset : Nat := 0
  seq : Nat := 0
  collId : Nat := 0
  subtype : Nat := 0
  piece : Nat := 0
  srcRank : Nat := 0
  grant : Nat := 0
  reason : Nat := 0
  flow : Nat := 0
deriving DecidableEq, Repr

/-- A lane header as received (R229). -/
structure LaneHdr where
  sync : Nat := 0xC3A5
  srcOe : Nat := 0
  fibre : Nat := 0
  wave : Nat := 0
  lane : Nat := 0
  kind : Nat := 0
  nak : Bool := false
  keyEpoch : Nat := 0
  seq : Nat := 0
  ack : Nat := 0
  tagByte : Nat := 0
deriving DecidableEq, Repr

/-- An optical control message (R232). -/
structure OptMsg where
  type : Nat := 0
  fibre : Nat := 0
  line : Nat := 0
  lane : Nat := 0
  arg : Nat := 0
  body : List Byte := []
deriving DecidableEq, Repr

/-- A lane frame on a line of a fibre (R228, R229): its header, its 1,275 bytes of payload, and, where it was received, the most
symbol errors in one of its two codewords. -/
structure LaneFrame where
  fibre : Nat := 0
  line : Nat := 0
  hdr : LaneHdr := {}
  errs : Nat := 0
  payload : List Byte := []
deriving DecidableEq, Repr

/-- A link frame as received (R230, R233): the lane frames of it that arrived. -/
structure LinkFrameRx where
  lanes : List LaneFrame := []
deriving DecidableEq, Repr

/-- What one line of a receive fibre showed in a 1 ms window (R243, R249). -/
structure LineSeen where
  fibre : Nat := 0
  line : Nat := 0
  uncorrectable : Nat := 0
  ber10e8 : Nat := 0
  alignmentLost : Bool := false
  ringUnlocked : Bool := false
  dark : Bool := false
deriving DecidableEq, Repr

/-- What ALIGN measured beside identity and length, which IDENT and ECHO bring (R254, R256). -/
structure AlignSeen where
  skewNs : Nat := 0
  plantLossTenthDb : Nat := 0
deriving DecidableEq, Repr

/-- Kinds of host request on the endpoint (R352, R355). -/
inductive HostOp where
  | read | write | dmwr | atomic
deriving DecidableEq, Repr

/-- A host request: BAR, offset, length, written bytes; for an atomic, its operation (0 FetchAdd, 1 Swap, 2 CAS). -/
structure HostReq where
  op : HostOp := .read
  bar : Nat := 0
  off : Nat := 0
  len : Nat := 0
  data : List Byte := []
  atomic : Nat := 0
  tag : Nat := 0
deriving DecidableEq, Repr

/-- One temperature estimate: site and 0.01 degrees C (R436).
DESIGN CHOICE (log 22), safe. -/
structure TempEst where
  site : Nat := 0
  temp : Int := 0
deriving DecidableEq, Repr

/-- One sensor reading at a site, with the reference of R438 and the immediate re-read and its reference.
DESIGN CHOICE (log 22), safe. -/
structure SensorRead where
  site : Nat := 0
  sensor : Nat := 0
  reading : Int := 0
  reference : Int := 0
  reread : Int := 0
  rereadRef : Int := 0
deriving DecidableEq, Repr

/-- What is measured over a facet's closing frame (R430, R432, R436): the facet's power in W, the sum of all domains'
latest measurements, and the model's new estimates.
DESIGN CHOICE (log 22), safe. -/
structure TickMeasure where
  power : Nat := 0
  sumPower : Nat := 0
  temps : List TempEst := []
deriving DecidableEq, Repr

/-- The surroundings at power-up (R458): the two hubs' strap bytes as read, whether each hub can run, whether flash
reads without error, and whether VSTBY held the retained SRAM over the outage (R449). -/
structure PowerUpIn where
  strap0 : Nat := 0x80
  strap1 : Nat := 0x81
  flashReads0 : Bool := true
  flashReads1 : Bool := true
  vstbyHeld : Bool := true
deriving DecidableEq, Repr

/-- The commands: one constructor per row of the opcode table, in its order.
`errs` of a lane frame are the symbol errors of its codewords A and B (R228). `cycle` is the working cycle of the open frame
in which the event falls. `expectStalls`, `expectLost` and `expectCollides` are what the sender expects at the bank ports; no meaning
reads them: the meetings of R101 to R104 follow from the accesses themselves.
DESIGN CHOICE (log 20), safe. -/
inductive Instr where
  | powerUp (surroundings : PowerUpIn)
  | startupResume
  | facetPowerOn (f : Facet)
  | strapLatch (site : SiteNo) (strap : Nat)
  | dieAdmission (together : List SiteNo)
  | linkSelfTestDone (link : LinkNo) (end_ : Dir) (failingLanes redundant : Nat)
  | pkgLinkTrained (link : LinkNo) (modules repairs : Nat)
  | pkgLinkRetrainDone (link : LinkNo) (ok : Bool)
  | pkgLinkTest (path : Path) (link kind : Nat)
  | nearTrainingDone (die : Die) (failingLanes : List Nat)
  | nearZeroingDone (die : Die)
  | farTrainingDone (fd : Die) (failingLanes : List Nat)
  | farZeroingDone (fd : Die)
  | frameTick (f : Facet) (m : TickMeasure)
  | joinHold (f : Facet)
  | spDomainWake (die : Die) (dom : SpDomain)
  | spZeroingDone (die : Die) (dom : SpDomain)
  | descriptorFetch (die : Die) (engine : Engine) (slot : Slot) (cycle : Nat)
  | descriptorIssue (die : Die) (engine : Engine) (cycle expectStalls : Nat)
  | descriptorRetire (die : Die) (engine : Engine) (cycle : Nat)
  | frameOverrun (die : Die) (engine : Engine)
  | signalArrival (die : Die) (sem : Nat) (set : Bool) (code : Nat) (remote : Bool) (value : Nat)
  | sync (die : Die) (engine : Engine)
  | dmemSwap (die : Die) (engine : Engine)
  | swapRequest (hd : Hd) (die : Die) (tag : Nat)
  | swapRequestAccept (die : Die)
  | swapCancel (hd : Hd) (die : Die) (tag : Nat)
  | hostDmemWrite (hd : Hd) (offset : Nat) (data : List Byte) (tag : Nat)
  | mm (die : Die) (ma : Ma)
  | mmX3 (die : Die) (ma : Ma)
  | mmC3 (die : Die) (ma : Ma)
  | mmC4 (die : Die) (ma : Ma)
  | mmSlice (die : Die) (ma : Ma)
  | ewMul (die : Die) (ma : Ma)
  | vadd (die : Die)
  | vsub (die : Die)
  | vmul (die : Die)
  | vfma (die : Die)
  | vmax (die : Die)
  | vmin (die : Die)
  | vselect (die : Die)
  | vexp (die : Die)
  | vlog (die : Die)
  | vrecip (die : Die)
  | vrsqrt (die : Die)
  | vtanh (die : Die)
  | vsigmoid (die : Die)
  | vcvt (die : Die)
  | vquant (die : Die)
  | vdequant (die : Die)
  | vslice (die : Die)
  | vred (die : Die)
  | vhred (die : Die)
  | vgather (die : Die)
  | vscatter (die : Die)
  | copy (die : Die) (ce : Ce) (expectLost : List Nat)
  | fill (die : Die) (ce : Ce) (expectLost : List Nat)
  | atom (die : Die) (ce : Ce) (expectLost : List Nat)
  | nbLoad (die : Die)
  | nbStore (die : Die)
  | nbMv (die : Die)
  | nbReduce (die : Die)
  | nbAxpy (die : Die)
  | nbScale (die : Die)
  | nbSearch (die : Die)
  | nbTopk (die : Die)
  | put (die : Die) (ce : Ce)
  | putFlag (die : Die) (ce : Ce)
  | get (die : Die) (ce : Ce)
  | load (die : Die) (ce : Ce)
  | ratom (die : Die) (ce : Ce)
  | fence (die : Die) (ce : Ce)
  | fenceComplete (die : Die) (slot : Slot)
  | fenceTimeout (die : Die) (slot : Slot)
  | planLoad (die : Die) (ce : Ce)
  | collStart (die : Die) (ce : Ce)
  | bankAtomic (die : Die) (offset : Nat) (swap : Bool) (etype value : Nat) (expectCollides : Bool)
  | eccWriteback (addr : Nat)
  | refreshWindowStart (f : Facet) (marginal : List (Nat × Nat))
  | refreshDebtAccrue (die : Die)
  | rowGroupRefresh (die : Die)
  | farPriorityWindow (fd : Die)
  | farLaneMarginCheck (fd : Die) (channel : Fin 16) (below : List Nat)
  | updateBufferEvict (line : Nat)
  | farScrub (fd : Die)
  | rd (p : Pkg)
  | wr (p : Pkg) (expectCollides : Bool)
  | sigAdd (p : Pkg)
  | sigSet (p : Pkg)
  | atAdd (p : Pkg)
  | atMin (p : Pkg)
  | atMax (p : Pkg)
  | atSwap (p : Pkg)
  | atCas (p : Pkg)
  | rdRsp (p : Pkg)
  | wrAck (p : Pkg)
  | atRsp (p : Pkg)
  | arrAdd (p : Pkg)
  | host (p : Pkg)
  | mgmt (p : Pkg)
  | pkgReservedOp (router : SiteNo) (p : Pkg)
  | flitReceive (link : LinkNo) (dir : Dir) (flit : List Byte)
  | replay (link : LinkNo) (dir : Dir) (seq : Nat)
  | flitReplayTimeout (link : LinkNo) (dir : Dir)
  | hostAdmission (hd : Hd) (modules rate : Nat) (agreed : Bool) (identity : List Byte)
  | hostSidebandTimeout (hd : Hd)
  | hostRequest (hd : Hd) (r : HostReq)
  | fwTableWrite (path : Path) (hd : Hd) (value : List Byte)
  | semRing (hd : Hd) (ctx : Nat) (die : Die) (value : Nat)
  | xchTail (hd : Hd) (ctx value : Nat)
  | exchangeRequest (hd : Hd) (ctx : Nat)
  | exchangeComplete (hd : Hd)
  | hostReset (hd : Hd)
  | hostLinkLost (hd : Hd) (retrained : Bool)
  | msixHoldoffExpiry (hd : Hd) (vector : Fin 8)
  | go (hd : Hd)
  | ctxCreate (hd : Hd)
  | ctxAssign (hd : Hd) (ctx : Nat) (kind : Nat) (die first count : Nat)
  | ctxUnassign (hd : Hd) (ctx : Nat) (kind : Nat) (die first count : Nat)
  | ctxBind (hd : Hd) (ctx mask slot dumpHd dumpOff dumpSize : Nat) (maps : List Nat)
  | ctxReset (hd : Hd) (ctx dumpHd dumpOff dumpSize : Nat)
  | ctxRelease (hd : Hd) (ctx : Nat)
  | objRead (hd : Hd) (index sub : Nat)
  | objWrite (hd : Hd) (index sub : Nat) (value : List Byte)
  | teardownResume (ctx : Nat)
  | drainTimeout (ctx : Nat)
  | teardownClear (ctx : Nat)
  | unitZeroingDone (kind : UnitKind) (die : Die) (unit : Nat)
  | facetReset (path : Path) (f : Facet) (value : Nat)
  | facetResetOffEnd (f : Facet)
  | logDelivery (site : SiteNo) (n : Nat)
  | logEntryClose (seq : Nat)
  | logDropPoll
  | optLinkEnable (path : Path) (oe : Oe) (value : Nat)
  | optLsmEnable (path : Path) (m : Lsm) (value : Nat)
  | lsmInsert (m : Lsm)
  | lsmModuleReady (m : Lsm) (identity : List Byte)
  | lsmRemove (m : Lsm)
  | lsmFault (m : Lsm) (flag : Nat)
  | openFibreTimeout (oe : Oe)
  | laserProbe (oe : Oe)
  | rxLightReturn (oe : Oe)
  | feedsGood (oe : Oe)
  | feedsLost (oe : Oe)
  | ringLockDone (oe : Oe) (rxFibres : Nat)
  | alignDone (oe : Oe) (a : AlignSeen)
  | optSetupTimeout (oe : Oe)
  | relockTimeout (oe : Oe)
  | downRetry (oe : Oe)
  | laneFrame (oe : Oe) (fibre line : Nat) (h : LaneHdr) (errs : Nat × Nat)
  | linkFrame (oe : Oe) (x : LinkFrameRx)
  | nakRepeat (oe : Oe)
  | optReplayTimeout (oe : Oe)
  | keyEpochAdvance (oe : Oe) (side : Side)
  | mislockRelock (oe : Oe) (side : Side) (fibre line : Nat) (verified : Bool)
  | ringHoldTimeout (oe : Oe) (side : Side) (fibre line : Nat)
  | txRingUnlockTimeout (oe : Oe) (fibre line : Nat)
  | urgentRecentre (oe : Oe) (side : Side) (fibre line : Nat)
  | lineJudgeWindow (oe : Oe) (seen : List LineSeen)
  | calSlotStart (oe : Oe) (fibre : Fin 8)
  | calSlotFinish (oe : Oe) (fibre : Fin 8) (ok : Bool)
  | monitorWindow (oe : Oe) (laser pm fc ri : List Int)
  | ping (oe : Oe) (m : OptMsg)
  | echo (oe : Oe) (m : OptMsg)
  | ident (oe : Oe) (m : OptMsg)
  | moveToSpare (oe : Oe) (m : OptMsg)
  | moveBack (oe : Oe) (m : OptMsg)
  | lineFailed (oe : Oe) (m : OptMsg)
  | txSuspect (oe : Oe) (m : OptMsg)
  | monReport (oe : Oe) (m : OptMsg)
  | calBegin (oe : Oe) (m : OptMsg)
  | calEnd (oe : Oe) (m : OptMsg)
  | attestFrag (oe : Oe) (m : OptMsg)
  | keyShare (oe : Oe) (m : OptMsg) (signature : List Byte)
  | keyConfirm (oe : Oe) (m : OptMsg)
  | refuse (oe : Oe) (m : OptMsg)
  | width (oe : Oe) (m : OptMsg)
  | unknownControlType (oe : Oe) (m : OptMsg)
  | mPut (oe : Oe) (p : Mpk)
  | mGet (oe : Oe) (p : Mpk)
  | mLoad (oe : Oe) (p : Mpk)
  | mAtom (oe : Oe) (p : Mpk)
  | mTerminationComplete (term : Nat)
  | mData (oe : Oe) (p : Mpk)
  | mAck (oe : Oe) (p : Mpk)
  | ackCoalesceTimeout (pd : Pd)
  | mCredit (oe : Oe) (reserved : List Nat) (shared : Nat)
  | creditReturnTimer (oe : Oe)
  | mDrain (oe : Oe) (p : Mpk)
  | mMgmt (oe : Oe) (p : Mpk)
  | machineReservedOp (oe : Oe) (p : Mpk)
  | portDownDiscard (oe : Oe)
  | flaggedStoreRelease (pd : Pd)
  | portMask (path : Path) (value : Nat)
  | cUp (oe : Oe) (p : Mpk)
  | cDown (oe : Oe) (p : Mpk)
  | arrive (oe : Oe) (p : Mpk)
  | release (oe : Oe) (p : Mpk)
  | grant (oe : Oe) (p : Mpk)
  | abort (oe : Oe) (p : Mpk)
  | prune (oe : Oe) (p : Mpk)
  | collComplete (pd : Pd) (ctx collId : Nat)
  | collTimeout (pd : Pd) (ctx collId : Nat)
  | settleWindowClose (pd : Pd) (ctx collId : Nat)
  | collHoldRelease (path : Path) (value : Nat)
  | heartbeat
  | hubTakeover (fatal : Bool)
  | tamperWipe (flags : Nat)
  | fwImage (path : Path) (image : List Byte)
  | deviceCert (path : Path) (der : List Byte)
  | attest (path : Path) (nonce : List Byte)
  | sessionOpen (path : Path) (arg : List Byte)
  | keyProvision (path : Path) (arg : List Byte)
  | sessionTimeout (ctx : Nat)
  | keyRecover (path : Path) (arg : List Byte)
  | keyRecoverResponse (node : Nat) (report pub wrapped tag : List Byte)
  | keyRecoverTimeout
  | provision
  | deploy (path : Path)
  | enterService (path : Path)
  | leaveService (path : Path)
  | retire (path : Path)
  | svCommit (path : Path)
  | ioapMessage (path : Path) (by_ : Sent) (bytes : List Byte)
  | read (path : Path) (source : List Byte) (reqId index sub offset length : Nat)
  | write (path : Path) (source : List Byte) (reqId index sub offset : Nat) (last : Bool) (value : List Byte)
  | objectWrite (path : Path) (index sub : Nat) (value : List Byte)
  | describe (path : Path) (source : List Byte) (reqId index sub : Nat)
  | ioapPing (path : Path) (source : List Byte) (reqId : Nat)
  | bootStatus (path : Path) (source : List Byte) (reqId : Nat)
  | imageChunk (path : Path) (source : List Byte) (reqId offset : Nat) (value : List Byte)
  | commit (path : Path) (source : List Byte) (reqId : Nat)
  | stagedWriteTimeout (path : Path)
  | fragmentTimeout (node msgId : Nat)
  | icmpv6Echo (port : Fin 2) (dst payload : List Byte)
  | neighbourDiscovery (port : Fin 2) (target : List Byte)
  | multicastListenerQuery (port : Fin 2)
  | mctpAddressAssign (dynAddr eid : Nat)
  | coolantInletReport (tenthC : Int)
  | checkpointCommit
  | journalFlush (path : Path) (value : Nat)
  | twinPair (path : Path) (node : Nat) (twinId : List Byte)
  | twinReplace (path : Path) (node : Nat) (twinId : List Byte)
  | twinDetachRelease (path : Path)
  | twinDetachHandover (path : Path)
  | twinHeartbeat (node : Nat)
  | twinHeartbeatTimeout
  | twinPairingTimeout
  | reportExchange (node : Nat) (report pub : List Byte)
  | journalMirrorUnit (count : Nat) (sealed tag : List Byte)
  | persistentImagePart (count : Nat) (sealed tag : List Byte)
  | keyBlob (count : Nat) (sealed tag : List Byte)
  | mgmtAcknowledgement (count : Nat) (sealed tag : List Byte)
  | sagEnter (volts10mV : Nat)
  | sagExit (volts10mV : Nat)
  | sagTimeout
  | orderlyStop (high : Bool) (volts10mV : Nat)
  | stopComplete
  | powerCapWindow (energyMj : Nat)
  | sharedModelUpdate (inputPower : Nat) (temps : List TempEst)
  | thermalAnchor (reads : List SensorRead)
  | dieSensors (path : Path) (site : SiteNo) (reads : List SensorRead)
  | thermalTrip (site : SiteNo) (sensor : Option Nat) (temp : Int) (volts10mV : Nat)
  | powerDown (vstbyHeld : Bool)
  | standbyHubFailure
  | pkgLinkTrainingBoundExceeded (link : LinkNo)
  | mgtPortLinkChange (port : Fin 2) (up : Bool)
  | persistentWriteCommitted
  | grantReturnDeadline (pd : Pd)
deriving DecidableEq, Repr

end Sys2Proof
end

