-- ==== Sys2Proof/Config.lean ====
section
/-! DEFINITION. Config.lean: what an implementation or the surroundings fix, and the FREE VALUES: constants without a
body, so that nothing in Lean can evaluate them or prove a value of them. -/
namespace Sys2Proof.Config
open Sys2Proof

/-- Free value of `w` bits, the `n`-th one drawn (DESIGN CHOICE, log 6: safe): an undefined or unstated result. Reduce it to the width
needed. -/
opaque freeValue : Nat → Nat

/-! ## Functions fixed by published standards: DESIGN CHOICE (log 7), safe -/

/-- SHA-512 (64 bytes).
DESIGN CHOICE (log 7), safe. -/
opaque sha512 : List Byte → List Byte
/-- HKDF-SHA-512 (RFC 5869) extraction: salt, input key (64 bytes). -/
opaque hkdfExtract : List Byte → List Byte → List Byte
/-- HKDF-SHA-512 expansion: key, info (64 bytes of it). -/
opaque hkdfExpand : List Byte → List Byte → List Byte
/-- X25519 of a private and a public key (32 bytes). -/
opaque x25519 : List Byte → List Byte → List Byte
/-- The X25519 public key of a private key. -/
opaque x25519Pub : List Byte → List Byte
/-- The Ed25519 public key of a seed. -/
opaque ed25519Pub : List Byte → List Byte
/-- Ed25519 signature of a message under a seed (64 bytes). -/
opaque ed25519Sign : List Byte → List Byte → List Byte
/-- Whether an Ed25519 signature verifies: public key, message, signature. -/
opaque ed25519Verify : List Byte → List Byte → List Byte → Bool
/-- AES-256-GCM encryption: key, IV, AAD, plaintext; ciphertext. -/
opaque gcmEnc : List Byte → List Byte → List Byte → List Byte → List Byte
/-- AES-256-GCM tag (16 bytes): key, IV, AAD, ciphertext. -/
opaque gcmTag : List Byte → List Byte → List Byte → List Byte → List Byte
/-- AES-256-GCM decryption: key, IV, ciphertext. -/
opaque gcmDec : List Byte → List Byte → List Byte → List Byte
/-- Whether an X.509 certificate (DER) is well formed, and its Ed25519 subject key (R378). -/
opaque certKey : List Byte → List Byte
/-- Whether a device certificate chain endorses an identity key under Ndekor's authority (R378, R385, R416). -/
opaque endorsed : List Byte → Bool
/-- The `n`-th draw of the hub's random source (32 bytes). -/
opaque random32 : Nat → List Byte

/-! ## What an implementation fixes -/

/-- The two Ndekor release public keys in the mask ROM, by key slot (R370).
DESIGN CHOICE (log 48), safe. -/
opaque romKey : Nat → List Byte
/-- SERIAL, ORDERING_CODE, PACKAGE_REVISION, IANA_ENTERPRISE, MAC_BASE and UNIT strings (R422).
DESIGN CHOICE (log 48), safe. -/
opaque serial : List Byte
opaque orderingCode : List Byte
opaque packageRevision : Nat
opaque ianaEnterprise : Nat
opaque macBase : List Byte
/-- What an implementation adds to the exact result of a special function of the vector unit (R119), by function code
(0x48 to 0x4D) and FP32 code of the operand: taken as a number of steps that stays within 2 ulp, or, where the function
has no real value, as the result.
DESIGN CHOICE (log 48), safe. -/
opaque specialFn : Nat → Nat → Nat
/-- The canonical NaN of a format, by its R50 code (R85): the manual gives no bits but FP8 E4M3's 0x7F.
DESIGN CHOICE (log 48), safe. -/
opaque canonicalNaN : Nat → Nat
/-- The summand order under the fixed pairwise tree of `n` summands (R119, R150): a sort key per summand. The manual
fixes a tree and does not say which; every tree over a power of two is adjacent pairing after some ordering.
DESIGN CHOICE (log 48), safe. -/
opaque treeKey : Nat → Nat → Nat
/-- The free bits of a result that the manual makes bit-identical from run to run (R83, R119, R150, R154): a function of the
opcode, the operands' bytes, what the destination held, and the element. DESIGN CHOICE (log 6), safe. -/
opaque resultFree : Nat → List Byte → List Byte → Nat → Nat → Nat
/-- The 30 parity symbols of a codeword of RS(544,514) over GF(2^10) with these 514 data symbols (R228): the manual gives neither the
field's polynomial nor the code's generator. DESIGN CHOICE (log 48), safe. -/
opaque rsParity : List Nat → List Nat
/-- The bytes of the PRBS-31 pattern of ITU-T O.150 from a place of it on, as a calibration lane frame carries them (R246). DESIGN CHOICE
(log 7), safe. -/
opaque prbs31 : Nat → List Byte
/-- Bytes of response data for which a prism die or a hub, by its site, holds room (R202): the manual gives no size. DESIGN CHOICE (log 113),
safe. -/
opaque responseRoom : Nat → Nat
/-- Contents of a flit that its receiver never saw whole (256 bytes), by the number of the free value and the place after it (DESIGN
CHOICE, log 50: safe). -/
opaque lostFlit : Nat → Nat → List Byte
/-- A free value for element `col` of unit `row` of the descriptor that drew free value number `n` (DESIGN CHOICE, log 6: safe). -/
opaque freeAt : Nat → Nat → Nat → Nat
end Sys2Proof.Config
end

