-- ==== Sys2Proof/Machine/Tab.lean ====
section
/-! DEFINITION. Machine/Tab.lean: sparse tables in one canonical form. Every indexed piece of state (memory bytes,
semaphores, per-die records, object values) is such a table: keys strictly rising, and no entry equal to what an
unlisted key reads as. -/
namespace Sys2Proof

/-- A sparse table: pairs of key and value, keys strictly rising. -/
abbrev Tab (α : Type) := List (Nat × α)

/-- The value at a key; `d` where the key is not listed. -/
def tget {α : Type} (d : α) : Tab α → Nat → α
  | [], _ => d
  | (k, v) :: t, i => if i = k then v else if i < k then d else tget d t i

/-- Writes a value at a key that is not the default. -/
def tput {α : Type} : Tab α → Nat → α → Tab α
  | [], i, x => [(i, x)]
  | (k, v) :: t, i, x =>
    if i = k then (i, x) :: t else if i < k then (i, x) :: (k, v) :: t else (k, v) :: tput t i x

/-- Removes a key. -/
def tdel {α : Type} : Tab α → Nat → Tab α
  | [], _ => []
  | (k, v) :: t, i => if i = k then t else if i < k then (k, v) :: t else (k, v) :: tdel t i

/-- Writes a value at a key, keeping the canonical form: a default value removes the entry. -/
def tset {α : Type} [DecidableEq α] (d : α) (t : Tab α) (i : Nat) (x : α) : Tab α :=
  if x = d then tdel t i else tput t i x

/-- Every key of the first list lies above `n`, and keys rise strictly. -/
def rising {α : Type} : Option Nat → Tab α → Bool
  | _, [] => true
  | none, (k, _) :: t => rising (some k) t
  | some n, (k, _) :: t => decide (n < k) && rising (some k) t

/-- The canonical form of a table whose unlisted keys read as `d`. -/
def Tab.wf {α : Type} [DecidableEq α] (d : α) (t : Tab α) : Bool :=
  rising none t && t.all (fun p => decide (p.2 ≠ d))

/-- Keeps the entries whose key the test admits. -/
def tkeep {α : Type} (t : Tab α) (p : Nat → Bool) : Tab α := t.filter (fun e => p e.1)

/-- Removes every key in `[lo, hi)`. -/
def tclear {α : Type} (t : Tab α) (lo hi : Nat) : Tab α := tkeep t (fun k => !(decide (lo ≤ k) && decide (k < hi)))

end Sys2Proof
end

