-- ==== Sys2Proof/Machine/State.lean ====
section
/-! DEFINITION. Machine/State.lean: the state of the block as plain data, its faults and refusals, and its reset. Each
record groups what one chapter of the spec gives the machine; each field's default is its reset value. -/
namespace Sys2Proof.Machine
open Sys2Proof

/-! ## Facets and frames -/

/-- A frame record (R32), as fields; `FrameRec.bytes` in Machine/Frame.lean lays out its 32 bytes. -/
structure FrameRec where
  tickWall : Nat := 0
  number : Nat := 0
  first : Bool := false
  cap : Bool := false
  swap : Bool := false
  overrun : Bool := false
  hold : Bool := false
  div : Bool := false
  skip : Bool := false
  minSkip : Nat := 0
  join : Nat := 0
  base : Nat := 0
  skipped : Nat := 0
  holdPeriods : Nat := 0
  div2 : Nat := 0
  div4 : Nat := 0
deriving DecidableEq, Repr

/-- One facet: its frame sequencer (R20 to R34, R465), its throttle (R431 to R439) and its reset (R346). Times are in
thirds of a nanosecond of the wall counter. -/
structure FacetSt where
  state : Nat := 0
  /-- The frame being counted: its number, the exact time its opening tick fell, working cycles counted. -/
  frameNo : Nat := 0
  openT : Nat := 0
  openWall : Nat := 0
  cyc : Nat := 0
  /-- Working cycles of the frames closed since the facet's first tick. -/
  cycBase : Nat := 0
  /-- FRAME_CYCLES and the refresh length in force for the open frame (R27, R136). -/
  frameCycles : Nat := 12000
  skipped : Nat := 0
  hold : Nat := 0
  div2 : Nat := 0
  div4 : Nat := 0
  div1 : Nat := 0
  minSkip : Nat := 0
  fFirst : Bool := false
  fCap : Bool := false
  fSwap : Bool := false
  fOverrun : Bool := false
  /-- Joined facets (bit f each); 0 while not joined (R30). -/
  join : Nat := 0
  /-- The facet has reached FRAME_CYCLES and holds (R30). -/
  holding : Bool := false
  records : List FrameRec := []
  stretched : Nat := 0
  /-- Applied throttle level, power level, thermal level, ticks in succession below the R432 limits. -/
  level : Nat := 0
  powerLevel : Nat := 0
  thermLevel : Nat := 0
  lowTicks : Nat := 0
  sagFloor : Bool := false
  power : Nat := 0
  tripped : Bool := false
  /-- Working cycles since the skip pattern's restart (R465). -/
  pat : Nat := 0
  refreshOpen : Bool := false
  /-- Facet reset (R346): 0 none, 1 waits for teardowns, 2 held off, 3 powered again; with its stamps in ns. -/
  rstStep : Nat := 0
  rstT0 : Nat := 0
  offSince : Nat := 0
  /-- Power was withheld by a stop, a trip or power-down rather than by FACET_ENABLE (R346). -/
  offOther : Bool := false
  /-- Frames begun since the primary bound (R318); the exact time of a common tick that other members already took. -/
  primF : Nat := 0
  due : Option Nat := none
  /-- The facet has done steps 1 to 5 of its tick at this exact time, and waits for the facets that tick with it (R30);
  whether a swap took effect then. -/
  atTick : Option Nat := none
  tickSwap : Bool := false
  /-- Sites whose dies have left power-on reset again and have not read their strap bumps since (R12). -/
  relatch : List Nat := []
  /-- The contexts that the facet reset tore down. -/
  rstCtxs : List Nat := []
deriving DecidableEq, Repr

/-! ## Contexts -/

/-- The teardown of a context in progress (R338): next step not completed, its cause, stamps, dump area, what it has
recorded, and the ports whose markers are awaited. -/
structure Teardown where
  step : Nat := 0
  t0 : Nat := 0
  byRelease : Bool := false
  release : Bool := false
  facetCause : Bool := false
  bound : Bool := false
  dumpHd : Nat := 0
  dumpOff : Nat := 0
  dumpSize : Nat := 0
  flags : Nat := 0
  dumpBytes : Nat := 0
  oldGen : Nat := 0
  drainStart : Nat := 0
  marker : Nat := 0
  ports : Nat := 0
  missing : Nat := 0
deriving DecidableEq, Repr

/-- An entry of the context table (R323) and what its progress page holds (R344). -/
structure Ctx where
  state : Nat := 0
  gen : Nat := 0
  mask : Nat := 0
  slot : Nat := 0
  /-- The stamp at which the waiting CTX_BIND was accepted (R24, R30). -/
  bindAt : Nat := 0
  bindWall : Nat := 0
  fcDecl : Nat := 0
  dumpHd : Nat := 0
  dumpOff : Nat := 0
  dumpSize : Nat := 0
  maps : Tab (List Byte) := []
  injected : Bool := false
  frames : Nat := 0
  retired : Nat := 0
  faults : Nat := 0
  late : Nat := 0
  pubWall : Nat := 0
  pubFrames : Nat := 0
  pubRetired : Nat := 0
  pubLate : Nat := 0
  snapshot : Nat := 0
  ring : Tab (List Byte) := []
  resetRec : List Byte := []
  td : Option Teardown := none
deriving DecidableEq, Repr

/-! ## Error log -/

/-- A 24-byte report (R347). -/
structure Report where
  wall : Nat := 0
  event : Nat := 0
  site : Nat := 0
  unit : Nat := 0
  ctx : Nat := 0
  gen : Nat := 0
  dropped : Nat := 0
  detail : Nat := 0
deriving DecidableEq, Repr

/-- An error-log entry (R348). -/
structure LogEntry where
  seq : Nat := 0
  first : Report := {}
  last : Report := {}
  count : Nat := 0
  isOpen : Bool := false
deriving DecidableEq, Repr

/-- The error log (R347 to R349): per site the outbox, the cumulative drop count, the drops since the previous
delivered report and the deliveries of the running microsecond; at the hub the deliveries of the running microsecond,
the entries and reports waiting, the ring, the read marks and the counters. -/
structure LogSt where
  outbox : Tab (List Report) := []
  drops : Tab Nat := []
  since : Tab Nat := []
  dropsRead : Tab Nat := []
  dieWin : Tab Nat := []
  dieSent : Tab Nat := []
  hubWin : Nat := 0
  hubTaken : Nat := 0
  /-- When the drop counts were last read (R349). -/
  pollAt : Nat := 0
  waiting : List Report := []
  open_ : List LogEntry := []
  ring : Tab LogEntry := []
  readMark : Tab Nat := []
  head : Nat := 0
  overflow : Nat := 0
  overwritten : Nat := 0
deriving DecidableEq, Repr

/-! ## The journal -/

/-- A journal entry (R408). -/
structure JEntry where
  seq : Nat := 0
  wall : Nat := 0
  frame : Nat := 0
  path : Nat := 0
  kind : Nat := 0
  result : Nat := 0
  facet : Nat := 0
  object : Nat := 0
  digest : List Byte := []
  chain : List Byte := []
deriving DecidableEq, Repr

/-- A signed checkpoint (R410). -/
structure Checkpoint where
  seq : Nat := 0
  wall : Nat := 0
  chain : List Byte := []
  node : Nat := 0
  kind : Nat := 0
  boot : Nat := 0
  sig : List Byte := []
deriving DecidableEq, Repr

/-- A flush record: its checkpoint and its tail of entries (R411). -/
structure FlushRec where
  ckpt : Checkpoint := {}
  tail : List JEntry := []
deriving DecidableEq, Repr

/-- The command journal (R406 to R412): next SEQUENCE, CHAIN of the newest entry, the ring of 65,536, the newest
checkpoint, this power-up's BOOT entry, and whether a stop's or trip's flush has closed it. -/
structure JournalSt where
  next : Nat := 0
  chain : List Byte := []
  ring : Tab JEntry := []
  last : Option Checkpoint := none
  bootSeq : Nat := 0
  closed : Bool := false
deriving DecidableEq, Repr

/-- The standby-retained SRAM (R410, R427, R440, R449): it keeps its contents while VSTBY is present. -/
structure StandbySt where
  head : Option (Nat × List Byte) := none
  waiting : List Checkpoint := []
  dropped : Nat := 0
  flush : Option FlushRec := none
  trip : Option (List Byte) := none
deriving DecidableEq, Repr

/-- The configuration flash (R456), region by region. `images` holds the two copies of the persistent dictionary
image: IMAGE_SEQ and the entries (key, value).
DESIGN CHOICE (log 9), unsafe. -/
structure FlashSt where
  fw : List Byte := []
  /-- A firmware image being written over it (R372). -/
  fwNew : Option (List Byte) := none
  copyA : Option (Nat × Tab (List Byte)) := none
  copyB : Option (Nat × Tab (List Byte)) := none
  ckpts : Tab Checkpoint := []
  nCkpts : Nat := 0
  flushA : Option FlushRec := none
  flushB : Option FlushRec := none
  /-- The sector that holds the newest valid flush record: 0 none, 1 A, 2 B. -/
  flushNew : Nat := 0
  trips : Tab (List Byte) := []
  tripNext : Nat := 0
deriving DecidableEq, Repr

/-! ## Hubs, start-up, trust -/

/-- A context key's slot in secure SRAM (R374, R382). -/
structure KeySt where
  key : List Byte := []
  gen : Nat := 0
  recover : Bool := false
  sealer : Nat := 0
  sealCount : Nat := 0
  kcv : List Byte := []
deriving DecidableEq, Repr

/-- An open tenant session (R381). -/
structure Session where
  ctx : Nat := 0
  gen : Nat := 0
  key : List Byte := []
  since : Nat := 0
deriving DecidableEq, Repr

/-- A key recovery from a node in progress (R385). -/
structure Recovery where
  path : Nat := 0
  ctx : Nat := 0
  node : Nat := 0
  srcCtx : Nat := 0
  srcGen : Nat := 0
  sealer : Nat := 0
  kcv : List Byte := []
  priv : List Byte := []
  report : List Byte := []
  start : Nat := 0
deriving DecidableEq, Repr

/-- The hubs: power, start-up progress, straps, primary and standby, heartbeat, boot result (R367 to R372, R458 to
R463). -/
structure HubSt where
  on : Bool := false
  loader : Bool := false
  strapFault : Bool := false
  firmware : Bool := false
  resumed : Bool := false
  forwarding : Bool := false
  /-- The stamp at which a facet was last powered at start-up, and the lowest facet not dealt with yet (R458). -/
  lastFacetOn : Option Nat := none
  nextFacet : Nat := 0
  startup : Nat := 4
  fwRunning : Nat := 0
  powered : Tab Nat := []
  firstTick : Tab Nat := []
  hb1Primary : Bool := false
  hb0Failed : Bool := false
  hb1Failed : Bool := false
  lastBeat : Nat := 0
  /-- Both hubs have failed (R369). -/
  bothFailed : Bool := false
  devReady : Bool := false
  alertUntil : Nat := 0
  thermTrip : Bool := false
  /-- The firmware image being staged by IMAGE_CHUNK, and its length (R398). -/
  staged : Tab Byte := []
  stagedLen : Nat := 0
  mctpDyn : Nat := 0
  /-- The SEQUENCE up to which HB0 has copied changes to HB1 (R368). -/
  copied : Nat := 0
deriving DecidableEq, Repr

/-- Trust (R373 to R391): fuses, life cycle, secure SRAM, tamper latch, boot record, sessions, recoveries, the
recovered-key table and what this device holds for its twin.
DESIGN CHOICE (log 9), unsafe. -/
structure SecSt where
  secret : List Byte := []
  lc : Nat := 0
  svMin : Nat := 0
  revoke0 : Bool := false
  leavePending : Bool := false
  idSeed : List Byte := []
  fwMeasure : List Byte := []
  fwVersion : Nat := 0
  keys : Tab KeySt := []
  sessions : List Session := []
  pairKey : List Byte := []
  recovered : List (Nat × KeySt) := []
  recovery : Option Recovery := none
  tamper : Nat := 0
  tamperAt : Nat := 0
  boots : Nat := 0
  failCode : Nat := 0
  loaderEntries : Nat := 0
deriving DecidableEq, Repr

/-! ## Management -/

/-- A write accepted but not yet applied (R10, R464): object key, value, journal sequence, acceptance stamp, when it
takes effect (2 next frame tick, 3 next barrier, 4 next reset), and the facets that have yet to apply it. -/
structure PendWrite where
  key : Nat := 0
  value : List Byte := []
  seq : Nat := 0
  accepted : Nat := 0
  effect : Nat := 0
  facets : Nat := 0
  /-- Some governed facet has applied the write, and the value that the others still have in force (R10). -/
  begun : Bool := false
  old : List Byte := []
deriving DecidableEq, Repr

/-- A staged chunked write (R403). -/
structure Staged where
  source : List Byte := []
  key : Nat := 0
  bytes : List Byte := []
  last : Nat := 0
deriving DecidableEq, Repr

/-- A response message of the device on a management path (R397). -/
structure Resp where
  path : Nat := 0
  source : List Byte := []
  reqId : Nat := 0
  op : Nat := 0
  status : Nat := 0
  jseq : Nat := 0
  index : Nat := 0
  sub : Nat := 0
  offset : Nat := 0
  value : List Byte := []
  last : Bool := false
  loader : Bool := false
deriving DecidableEq, Repr

/-- A persistent write answered only after its commit (R407). -/
structure PersistWait where
  key : Nat := 0
  value : List Byte := []
  seq : Nat := 0
  path : Nat := 0
  resp : Option Resp := none
deriving DecidableEq, Repr

/-- An MCTP message being assembled: source EID, tag, the sequence number expected next, what came (R394). -/
structure MctpRx where
  eid : Nat := 0
  tag : Nat := 0
  seq : Nat := 0
  bytes : List Byte := []
deriving DecidableEq, Repr

/-- A management message being reassembled (R396). -/
structure Reasm where
  node : Nat := 0
  msgId : Nat := 0
  kind : Nat := 0
  total : Nat := 0
  parts : List (Nat × List Byte) := []
  first : Nat := 0
deriving DecidableEq, Repr

/-- Management (R392 to R407): object values by key (index x 256 + sub), pending and latest accepted writes, staged
writes, kept responses, receive buffers, reassembly, message numbers, persistent writes awaiting their commit. -/
structure MgmtSt where
  num : Tab Nat := []
  blob : Tab (List Byte) := []
  pend : List PendWrite := []
  staged : Tab Staged := []
  kept : List Resp := []
  rxDropWin : Option Nat := none
  reasm : List Reasm := []
  msgIds : Tab Nat := []
  persist : List PersistWait := []
  /-- Fragments of management messages on their way to the fabric (R396). -/
  outbox : List Mpk := []
  /-- MCTP messages being assembled, and the MCTP tags of requests not answered yet: source EID, REQ_ID, tag (R394). -/
  mctpRx : List MctpRx := []
  mctpTags : List (Nat × Nat × Nat) := []
deriving DecidableEq, Repr

/-- The twin pair (R415 to R421): state, peer, its ephemeral exchange, message counts, what the twin has acknowledged; the
mirror held for the twin (with the pair key that seals its key blob); the image being received; what a spare has pulled. -/
structure TwinSt where
  state : Nat := 0
  node : Nat := 0x8000
  twinId : List Byte := []
  pub : List Byte := []
  since : Nat := 0
  lastBeat : Nat := 0
  /-- Stamp of the last heartbeat that this device sent to its twin. -/
  beatSent : Nat := 0
  priv : List Byte := []
  report : List Byte := []
  txCount : Nat := 0
  rxCount : Nat := 0
  mirrorCount : Nat := 0
  blobAcked : Nat := 0
  journalAcked : Nat := 0
  ackedParts : Nat := 0
  sentParts : Nat := 0
  holdId : List Byte := []
  holdNode : Nat := 0x8000
  holdJournal : Tab JEntry := []
  holdCkpts : List Checkpoint := []
  holdImage : List Byte := []
  holdImageSeq : Nat := 0
  holdBlob : List Byte := []
  holdKey : List Byte := []
  rxImage : List Byte := []
  holdBlobCount : Nat := 0
  spare : Bool := false
  inhJournal : Tab JEntry := []
  inhCkpts : List Checkpoint := []
  pullStatus : Nat := 0
  handover : Option Nat := none
deriving DecidableEq, Repr

/-! ## Power and heat -/

/-- The supply monitor, the caps and the trip (R424 to R445). Voltages in 10 mV, energies in mJ, temperatures in
0.01 degrees C, stamps in ns.
DESIGN CHOICE (log 21), safe. -/
structure PowerSt where
  supply : Nat := 0
  volts : Nat := 5400
  sagStart : Nat := 0
  sags : Nat := 0
  sagNs : Nat := 0
  stops : Nat := 0
  /-- Input power of the latest 100 windows of 1 ms, oldest first; the ends of the last window, of the last 8 us update,
  and the stamp of the last anchor (R431, R436, R437). -/
  windows : List Nat := []
  winEnd : Nat := 0
  modelAt : Nat := 0
  anchorAt : Nat := 0
  shortOver : Nat := 0
  sustOver : Nat := 0
  lastCapReport : Option Nat := none
  inputPower : Nat := 0
  inputPower8 : Nat := 0
  temp : Tab Int := []
  sensorFailed : Tab Nat := []
  sensorValue : Tab Int := []
  coolant : Option Int := none
  tripped : Bool := false
  hubTrip : Bool := false
  tripRecord : List Byte := []
deriving DecidableEq, Repr

/-! ## Host path -/

/-- The configuration of a host die's PCIe endpoint (R352): vendor, device and class, one function, the largest payload, 10-bit tags,
MSI-X vectors, and the capabilities AER, DMWr, ATS, PASID and SR-IOV. The manual gives the vendor ID no number.
DESIGN CHOICE (log 130), unsafe. -/
structure Endpoint where
  vendor : Nat := 0
  device : Nat := 0x6400
  classCode : Nat := 0x120000
  functions : Nat := 1
  maxPayload : Nat := 512
  tags10 : Bool := true
  vectors : Nat := 8
  aer : Bool := true
  dmwr : Bool := true
  ats : Bool := false
  pasid : Bool := false
  sriov : Bool := false
deriving DecidableEq, Repr

/-- A host die's endpoint and its hub's side of it (R213 to R217, R352 to R365). -/
structure HostSt where
  link : Nat := 0
  /-- KEY_PROVISION's answer that waits for the twin: the mirror count it waits for, until when, JOURNAL_SEQ and response (R382). -/
  keyAns : Option (Nat × Nat × Nat × List Byte) := none
  cfg : Endpoint := {}
  /-- Requests that wait for room for their response at the hub, with their node offsets (R202). -/
  waitReqs : List (Nat × HostReq) := []
  width : Nat := 0
  admitted : Bool := false
  identity : List Byte := []
  /-- Firewall buckets per entry: what is spent of it, in 1/1,000 bytes, and the stamp of that level (R216). -/
  bucket : Tab Nat := []
  bucketAt : Tab Nat := []
  /-- Per refusal reason, 1 + the 1 ms window of the last journaled refusal (R216). -/
  refusedWin : Tab Nat := []
  busy : Bool := false
  busySeq : List Nat := []
  cmdSeq : Nat := 0
  xchRotor : Nat := 0
  msixLast : Tab Nat := []
  msixPend : Nat := 0
deriving DecidableEq, Repr
/-! ## Descriptors, sequencers, engines -/

/-- A wait word (R55), its threshold already shifted. -/
structure Wait where
  kind : Nat := 0
  obj : Nat := 0
  thr : Nat := 0
deriving DecidableEq, Repr

/-- A signal word (R57). -/
structure Sig where
  kind : Nat := 0
  die : Nat := 0
  obj : Nat := 0
  value : Nat := 0
deriving DecidableEq, Repr

/-- An operand's generator (R51, R53): base, and the byte stride of each level. -/
structure Opnd where
  en : Bool := false
  base : Nat := 0
  unit : Nat := 0
  strides : List Int := []
deriving DecidableEq, Repr

/-- A descriptor (R47 to R53) as decoded, with where it lies. `reserved` says that a field that must be zero by its
layout alone is not. -/
structure Desc where
  budget : Nat := 0
  notBefore : Nat := 0
  next : Int := 0
  engine : Nat := 0
  levels : Nat := 0
  opcode : Nat := 0
  imm : Nat := 0
  fmtA : Nat := 0
  fmtB : Nat := 0
  fmtD : Nat := 0
  round : Nat := 0
  order : Bool := false
  collHalt : Bool := false
  slotA : Bool := false
  slotB : Bool := false
  slotD : Bool := false
  consA : Bool := false
  consB : Bool := false
  scaleA : Nat := 0
  scaleB : Nat := 0
  waits : List Wait := []
  sigs : List Sig := []
  counts : List Nat := []
  tag : Nat := 0
  a : Opnd := {}
  b : Opnd := {}
  d : Opnd := {}
  reserved : Bool := false
  half : Nat := 0
  index : Nat := 0
deriving DecidableEq, Repr

/-- An entry of a ready window: the descriptor and the absolute working cycle from which it is eligible (R61). -/
structure WinEntry where
  desc : Desc := {}
  eligible : Nat := 0
deriving DecidableEq, Repr

/-- One stream of one engine (R40, R41): its window, oldest first, the index fetched next, its halt word (R70). -/
structure StreamSt where
  window : List WinEntry := []
  fetch : Option Nat := none
  haltWord : Nat := 0
deriving DecidableEq, Repr

/-- A descriptor in flight (R38, R58, R63). Cycles are absolute working cycles of the facet. `finish` is the cycle in
which its own work ends; `outstanding` counts package requests without their response; `stalls` are the cycles lost at
bank ports (R102). -/
structure InFlight where
  uid : Nat := 0
  slot : Nat := 0
  desc : Desc := {}
  ctx : Nat := 0
  gen : Nat := 0
  issue : Nat := 0
  deadline : Nat := 0
  executed : Bool := false
  finish : Nat := 0
  stalls : Nat := 0
  outstanding : Nat := 0
  /-- Units used of each resource counter (R267, R268). -/
  used : Tab Nat := []
  /-- A DMEM_SWAP whose request is not accepted yet (R66). -/
  waitsSwap : Bool := false
  /-- A copy's data that came before the data of earlier accesses, and the access to be written next (R126). -/
  got : Tab (List Byte) := []
  nextPut : Nat := 0
  /-- The same for the old values of a swap. -/
  old : Tab (List Byte) := []
  nextOld : Nat := 0
deriving DecidableEq, Repr

/-- What a transaction's response belongs to. -/
inductive Owner where
  /-- A descriptor: engine's die, engine, uid; data goes to `addr` (RD), or nowhere. -/
  | eng (die engine uid : Nat)
  | term (id : Nat)
  /-- A landing write of a remote answer: the requester's die and machine TAG. -/
  | land (die tag : Nat)
  | coll (pd ctx coll : Nat)
  | xch (hd : Nat)
  | host (hd tag : Nat)
  | hub
deriving DecidableEq, Repr

/-- An outstanding package request (R195, R202): requester's strap byte, tag, owner, context, operation, address, and the
node offset and length of what the returned data fills. -/
structure Txn where
  src : Nat := 0
  tag : Nat := 0
  owner : Owner := .hub
  ctx : Nat := 0
  gen : Nat := 0
  req : Nat := 0
  dst : Nat := 0
  len : Nat := 0
  reqAddr : Nat := 0
  /-- Slot flags at the other die (R112): a read checks them, and the slots it consumes, or a write produces. -/
  chk : Bool := false
  use : List Nat := []
  /-- The iteration of the descriptor, the chunk of a collective, or the piece of an exchange it belongs to. -/
  it : Nat := 0
deriving DecidableEq, Repr
/-- An engine (R38): its descriptors in flight, oldest first; for a matrix array, the cycles of the newest
descriptor's last pass (R92) and which context last loaded a tile (R97). -/
structure EngineSt where
  fly : List InFlight := []
  /-- 1 + the absolute working cycle of the latest issue, 0 for none: the engine issues once in a cycle (R62). -/
  lastIssue : Nat := 0
  lastPass : Nat := 0
  passEnd : Nat := 0
  tileCtx : Nat := 0
  /-- The array's weight registers, its shadow registers and its output stage: the tile streamed last, the tile loaded last,
  the D unit delivered last (R74, R97). -/
  weights : List Byte := []
  shadow : List Byte := []
  stage : List Byte := []
  /-- Package reads that wait for room in the landing area (R202). -/
  asks : List (Pkg × Txn) := []
  /-- The latest RATOM of each slot, for an answer that refuses its type after it retired (R172). -/
  ratom : Tab InFlight := []
deriving DecidableEq, Repr

/-- A set, add or take reaching a semaphore or counter in the current working cycle (R59). -/
structure SemEv where
  isArr : Bool := false
  obj : Nat := 0
  /-- 0 SET, 1 ADD, 2 take. -/
  kind : Nat := 0
  code : Nat := 15
  isRemote : Bool := false
  value : Nat := 0
deriving DecidableEq, Repr

/-- A slot-valid flag (R107): its value, and the absolute working cycle from whose start that value is seen (R110). -/
structure SlotFlag where
  valid : Bool := false
  since : Nat := 0
deriving DecidableEq, Repr

/-- A swap request waiting for acceptance (R66): from a descriptor (engine and its uid) or a host die's request. -/
structure SwapReq where
  fromHost : Bool := false
  hd : Nat := 0
  tag : Nat := 0
  engine : Nat := 0
  uid : Nat := 0
  /-- Source and tag of the writes to the inactive half that were on their way when the request came. -/
  before : List (Nat × Nat) := []
deriving DecidableEq, Repr

/-- An access to a die's scratchpad or near stack in the open frame: its absolute working cycle, its rank (R101, R133), the number
of its descriptor (0 for none), its bytes, for a write what they held before it, the slots whose flags it changed, and the
package packet that made it. -/
structure SpAcc where
  cyc : Nat := 0
  rank : Nat := 0
  uid : Nat := 0
  addr : Nat := 0
  len : Nat := 0
  write : Bool := false
  old : List Byte := []
  flags : List Nat := []
  pkt : Option Pkg := none
deriving DecidableEq, Repr

/-- A compute die: descriptor-memory control (R46), collision word (R105), FAR_CLASS word (R167), scratchpad domains
(0 off, 1 zeroing, 2 on), the near stack's bring-up and refresh (R136 to R143), the command sequence (R145). -/
structure CdSt where
  active : Nat := 0
  pendingSwap : Bool := false
  swapCount : Nat := 0
  swapReqs : List SwapReq := []
  /-- The pending swap was requested by a host path; the time (thirds of ns) and working cycle of its acceptance. -/
  swapHost : Bool := false
  swapAt : Nat := 0
  swapCyc : Nat := 0
  /-- Host-path writes of the open frame to descriptor memory: absolute working cycle, node offset, bytes (R65). -/
  hostWr : List (Nat × Nat × List Byte) := []
  collision : Nat := 0
  farClass : Nat := 0x5555
  spSingle : Nat := 0
  spDual : Nat := 0
  /-- When the zeroing of each domain ends, in thirds of ns, and the working cycle from which it serves accesses (R114). -/
  singleEnd : Nat := 0
  dualEnd : Nat := 0
  singleAt : Nat := 0
  dualAt : Nat := 0
  /-- The accesses of the open frame to the scratchpad and to the near stack's channels, those of the latest cycle first (R101 to
  R104, R133); rows that near-bank commands wrote, the latest first (R158). -/
  acc : List SpAcc := []
  rowLog : List SpAcc := []
  near : Nat := 0
  spareMap : Nat := 0
  band : Nat := 0
  debt : Int := 0
  /-- When the latest interval of the debt ended, in 1/24 ns (R138). -/
  debtAt : Nat := 0
  recheckGroup : Nat := 0
  recheckPend : Option Nat := none
  /-- When the row group being refreshed ends, in thirds of ns (R138). -/
  refreshEnd : Nat := 0
  cmdSeq : Nat := 0
  lastCmd : Tab Nat := []
  vecBuf : Tab (List Byte) := []
  /-- The first cycle in which each layer is free of the commands of descriptors in flight (R146). -/
  layerBusy : Tab Nat := []
  /-- Near-bank commands of the open frame: layer, first and last working cycle (R134). -/
  cmdRun : List (Nat × Nat × Nat) := []
  /-- The working cycle up to which the stack's cycles with a held access are counted (R160). -/
  heldTo : Nat := 0
  /-- Each unit's accumulator: the results of its latest command, by unit (R144). -/
  accum : Tab (List Byte) := []
  semEv : List SemEv := []
deriving DecidableEq, Repr

/-- A unit's top-k state for one slot (R155): the descriptor that wrote it last, and whether that one keeps it. -/
structure TopK where
  live : Bool := false
  uid : Nat := 0
  kept : Bool := false
  k : Nat := 0
  batch : Nat := 0
  lists : List (List (Nat × Nat)) := []
deriving DecidableEq, Repr

/-- A far die (R165 to R179). -/
structure FdSt where
  state : Nat := 0
  spareMap : Nat := 0
  band : Nat := 0
  winStart : Nat := 0
  winLen : Nat := 1000
  winShare : Nat := 25
  c0Served : Nat := 0
  /-- The weights in force in the window (R169); the class-0 reads demoted in it or before it that still wait, by source and tag
  (R168). -/
  weights : Nat := 0x10408
  demoted : List (Nat × Nat) := []
  /-- Granules served in the present round of the channels' weighted round robin, by 4 x channel + class (R168). -/
  robin : Tab Nat := []
  /-- 1 + the stamp since which the request queue is full, 0 where it is not (R173). -/
  fullAt : Nat := 0
  /-- When the last scrub of the stack ended, in ns (R179). -/
  scrubAt : Nat := 0
  /-- Lanes found below margin since the last training, as a mask (R176): the facet reset's training still knows them. -/
  marginal : Nat := 0
  marginGroup : Tab Nat := []
deriving DecidableEq, Repr

/-! ## The package network -/

/-- A package link (R207): state, entry stamp of the state, modules and lane repairs of the last training, lanes that the
loopback tests marked for repair (R211), loopback results of its two ends, failed retrainings in succession. -/
structure LinkSt where
  state : Nat := 0
  since : Nat := 0
  modules : Nat := 0
  repairs : Nat := 0
  marked : Nat := 0
  passFwd : Bool := false
  passRev : Bool := false
  failedRetrains : Nat := 0
deriving DecidableEq, Repr

/-- A machine packet waiting for a port (R280, R282): in transit or from this device's own injection buffer or
termination. For an injected one: compute die, slot and injection units. -/
structure QPkt where
  pkt : Mpk := {}
  inj : Bool := false
  die : Nat := 0
  slot : Nat := 0
  units : Nat := 0
  /-- The engine it came in by plus 1, the virtual channel it came in on, and the shared and reserved units it holds of that
  engine's buffer (R280). -/
  src : Nat := 0
  vc : Nat := 0
  shr : Nat := 0
  res : Nat := 0
  /-- Its number among the packets of the device's ports, in the order of their coming. -/
  no : Nat := 0
deriving DecidableEq, Repr

/-- A packet that waits for room in its injection partition of a prism die, or in it (R267, R268), with its descriptor: the
direction it came over plus 1, whose receive buffer it holds until it is accepted, and its number in the order of acceptance. -/
structure InjPkt where
  die : Nat := 0
  engine : Nat := 0
  uid : Nat := 0
  slot : Nat := 0
  units : Nat := 0
  oe : Nat := 0
  accepted : Bool := false
  came : Nat := 0
  no : Nat := 0
  pkt : Mpk := {}
deriving DecidableEq, Repr

/-- A machine packet on the package network (R272), and where it goes: to the prism die that queues it for an engine; from its
source die to the injection buffer of a prism die; from a prism die to SRC_DIE, the last piece with the whole answer (R204, R274). -/
inductive Cargo where
  | engine (oe : Nat) (q : QPkt)
  | inject (e : InjPkt)
  | answer (pd : Nat) (piece : Mpk) (whole : Option Mpk)
deriving DecidableEq, Repr

/-- A machine packet whose way over the package is over and that its end has not taken in: whether it came or was discarded on
the way, and the direction it came over plus 1, whose receive buffer it holds. -/
structure Landed where
  cargo : Cargo := .engine 0 {}
  ok : Bool := true
  came : Nat := 0
deriving DecidableEq, Repr

/-- A package packet at an output port (R203): the links it has still to cross, the port's own first; where it came from (0 the
die itself, else 1 + the index of the direction it came over, whose receive buffer it holds); when it came. -/
structure PortPkt where
  pkt : Pkg := {}
  /-- The machine packet that it carries behind its header (R272). -/
  cargo : Option Cargo := none
  rest : List (Nat × Bool) := []
  came : Nat := 0
  since : Nat := 0
deriving DecidableEq, Repr

/-- One direction of a link (R186 to R194): the transmitter's next SEQ and its oldest unacknowledged one, what it knows of the
unacknowledged flits' contents, the SEQ last resent from and how often, timeouts in succession, credits per pool that the
flits received from outside its own ports have used; and the receiver's expected SEQ, whether it discards, flits that came before their turn in the
rotation over the modules (R189), the packet-stream bytes received so far, and credits to return.
DESIGN CHOICE (log 50), safe. -/
structure LinkDir where
  nextSeq : Nat := 0
  oldest : Nat := 0
  unacked : List (Nat × List Byte) := []
  resendSeq : Nat := 0
  resends : Nat := 0
  timeouts : Nat := 0
  credits : Tab Nat := []
  expSeq : Nat := 0
  discarding : Bool := false
  early : Tab (List Byte) := []
  stream : List Byte := []
  returns : Tab Nat := []
  /-- SEQs of unacknowledged flits that came from outside the model's own ports. -/
  foreign : List Nat := []
  /-- Bytes of the packet stream that are not yet in a flit (R188). -/
  tx : List Byte := []
  /-- The output port (R203): packets that wait, the unscheduled class that goes next in rotation, and the PCLASS 3 unscheduled
  bytes of the last 1 us. -/
  port : List PortPkt := []
  turn : Nat := 0
  recent : List (Nat × Nat) := []
deriving DecidableEq, Repr

/-! ## Optical ports -/

/-- A laser supply module (R224, R225): CMIS state (0 absent, 1 low power, 2 powering up, 3 ready), outputs on,
fault flags raised, identity. -/
structure LsmSt where
  state : Nat := 0
  outputs : Nat := 0
  flags : Nat := 0
  identity : List Byte := []
deriving DecidableEq, Repr

/-- Calibration of a fibre (R245, R246): whether a slot runs, its line, the number of the next slot and its start (0:
at the entry to ACTIVE), the spare that carries the lane (0xFF none). -/
structure CalSt where
  running : Bool := false
  /-- The stamp at which the running slot began (R247). -/
  began : Nat := 0
  line : Nat := 0
  next : Nat := 0
  due : Nat := 0
  spare : Nat := 0xFF
deriving DecidableEq, Repr

/-- A receive line's wrong-lock watch (R248, R250): observed line, successive frames, failed verifications; and once a wrong
lock is declared, whether the ring has stepped, and the successive frames since that name the right line. -/
structure LockSt where
  seen : Nat := 0xFF
  run : Nat := 0
  stepped : Bool := false
  good : Nat := 0
  fails : Nat := 0
  declared : Bool := false
deriving DecidableEq, Repr

/-- A data link frame sent and not yet acknowledged (R234): its SEQ, key epoch number, frame count, fibres and payload;
its ciphertext is a function of these. -/
structure TxFrame where
  seq : Nat := 0
  epoch : Nat := 0
  count : Nat := 0
  fibres : Nat := 255
  payload : List Byte := []
  /-- How often it has been resent since the link became ACTIVE (R235). -/
  resent : Nat := 0
deriving DecidableEq, Repr

/-- An optical engine and its port: link state machine (R253), light, lines, replay (R233 to R235), encryption (R236
to R239), calibration (R245), wrong locks (R248), monitors (R251), virtual-channel credits and waiting packets of its
port (R280 to R283). Keys of `txMap` and the other per-line tables are 32 x fibre + line. -/
structure OeSt where
  state : Nat := 0
  since : Nat := 0
  feedsOff : Bool := false
  /-- The laser inputs have been read since the entry to LIGHT (R224, R253). -/
  liSeen : Bool := false
  probeAt : Nat := 0
  peerNode : Nat := 0
  peerOe : Nat := 0
  lengthM : Nat := 0
  /-- The peer has identified itself; it has in this ALIGN, with this session identifier, and ECHO has given the length (R254, R256,
  R339). -/
  peerKnown : Bool := false
  identSeen : Bool := false
  peerSession : List Byte := []
  echoSeen : Bool := false
  /-- The entry to RELOCK from which ACTIVE is due within 100 ms (R255). -/
  relockAt : Option Nat := none
  txFibres : Nat := 255
  rxFibres : Nat := 255
  /-- Transmit fibres that link frames use; `txFibres` are those not withdrawn, announced by WIDTH from a SEQ on (R230). -/
  txSaid : Nat := 255
  /-- The peer's transmit fibres that its link frames use, as it announced them; `rxFibres` are the receive fibres not withdrawn
  here. -/
  rxSaid : Nat := 255
  txWidthSeq : Option (Nat × Nat) := none
  rxWidthSeq : Option (Nat × Nat) := none
  txMap : Tab Nat := []
  rxMap : Tab Nat := []
  mon : Tab Int := []
  baseline : Bool := false
  /-- The peer's receiver inputs have their baselines (R251, R252). -/
  peerBase : Bool := false
  heater : Tab Int := []
  /-- Power in mW that a ring's steps have put on its heater (R241). -/
  power : Tab Int := []
  /-- What the temperature feed-forward has added to every heater shift, and the number of the free values at which the
  rings last locked (0: never). -/
  drift : Int := 0
  /-- An estimate of the engine's temperature has been taken; and for each ring the number of the free values that its last
  calibration or relock measured for its FSR and its heater efficiency (R246, R250). -/
  tempSeen : Bool := false
  meas : Tab Nat := []
  lockNo : Nat := 0
  ber : Tab Nat := []
  locks : Tab LockSt := []
  /-- Rings holding or unlocked since a stamp (R240, R243). -/
  ringHold : Tab Nat := []
  cal : Tab CalSt := []
  /-- Urgent moves of lanes made at the present link frame boundary: stamp, fibre, lane and the line it left (R247). -/
  urgents : List (Nat × Nat × Nat × Nat) := []
  activeAt : Nat := 0
  /-- SYNC of each line (R228): 0 no alignment yet, 1 to 3 matches in succession, 4 to 11 aligned with so many misses more than 4,
  12 to 15 alignment lost and matches since. -/
  align : Tab Nat := []
  slow : Bool := false
  nextSeq : Nat := 0
  buffer : List TxFrame := []
  /-- The last NAK that was answered with a resend: its acknowledgement and its stamp (R234). -/
  nakSeen : Option (Nat × Nat) := none
  timeouts : Nat := 0
  lastProgress : Nat := 0
  expSeq : Nat := 0
  discarding : Bool := false
  lastNak : Nat := 0
  tagRun : Nat := 0
  /-- Bytes of the packet stream that no link frame holds yet (R231). -/
  txTail : List Byte := []
  /-- How many of them belong to a packet that a link frame began; the received bytes of a packet not yet whole; and the packets
  and control messages of accepted link frames that have not been taken yet (R231, R233). -/
  txPart : Nat := 0
  rxTail : List Byte := []
  rxPkts : List Mpk := []
  rxMsgs : List OptMsg := []
  secret : List Byte := []
  session : List Byte := []
  txCount : Nat := 0
  rxCount : Nat := 0
  txEpoch : Nat := 0
  rxEpoch : Nat := 0
  priv : List Byte := []
  myReport : List Byte := []
  peerReport : List Byte := []
  peerReportLen : Nat := 0
  sentShare : Bool := false
  sentConfirm : Bool := false
  /-- Reserved credits held per VC, and shared credits (R280); 0 is a full count: what is stored is what is spent. -/
  resSpent : Tab Nat := []
  sharedSpent : Nat := 0
  /-- Shared credits that packets of each VC of the receive buffer hold; reserved and shared returns pending. -/
  rxShared : Nat := 0
  rxRes : Tab Nat := []
  pendRes : Tab Nat := []
  pendShared : Nat := 0
  pendSince : Nat := 0
  queue : List QPkt := []
  /-- The last packet sent was injected here (R282); what is left of the round's weights (R281). -/
  lastInj : Bool := false
  wrr : Tab Nat := []
  /-- TC3 packets sent in the last 10 us: stamp and bytes (R281). -/
  tc3Sent : List (Nat × Nat) := []
  /-- Bytes of a throttled TC sent since its throttling began: all at 2 x TC, injected ones at 2 x TC + 1 (R282). -/
  thrSent : Tab Nat := []
  throttled : Nat := 0
  throttleAt : Tab Nat := []
  /-- Drain markers that wait for the packets queued before them: ctx, gen, tag, and the packet number from which on
  packets were queued later (R339); returned markers that wait for the receive buffer in the same way. -/
  markers : List (Nat × Nat × Nat × Nat) := []
  returns : List (Nat × Mpk) := []
deriving DecidableEq, Repr

/-! ## Machine fabric -/

/-- A request being terminated (R273). -/
structure TermSt where
  id : Nat := 0
  pd : Nat := 0
  port : Nat := 0
  req : Mpk := {}
  waiting : Nat := 0
  status : Nat := 0
  failAddr : Nat := 0
  data : Tab Byte := []
  arrSent : Bool := false
  /-- For a held flagged store: the terminations it waits for (R286). -/
  heldFor : List Nat := []
  started : Bool := true
  /-- The room that the request holds in the receive buffer it came in by, until its package packets have left the prism die
  (R291). -/
  room : QPkt := {}
deriving DecidableEq, Repr

/-- Coalesced acknowledgements held at a prism die (R274). -/
structure AckHold where
  srcNode : Nat := 0
  srcDie : Nat := 0
  ctx : Nat := 0
  gen : Nat := 0
  slot : Nat := 0
  epoch : Nat := 0
  count : Nat := 0
  port : Nat := 0
  first : Nat := 0
deriving DecidableEq, Repr

/-- A latched status of a die and slot (R289). -/
structure Latch where
  status : Nat := 0
  addr : Nat := 0
  epoch : Nat := 0
deriving DecidableEq, Repr

/-- An armed fence (R289, R290). -/
structure Fence where
  arr : Nat := 0
  since : Nat := 0
  timeout : Nat := 0
  ctx : Nat := 0
  gen : Nat := 0
  desc : Nat := 0
  half : Nat := 0
  /-- The stamp at which every outstanding count was first zero behind the fence: its completion (R24, R289). -/
  clearAt : Option Nat := none
deriving DecidableEq, Repr

/-- Outstanding remote requests of the source, by machine TAG: where the answer belongs (R274). -/
structure MTxn where
  tag : Nat := 0
  die : Nat := 0
  engine : Nat := 0
  slot : Nat := 0
  uid : Nat := 0
  ctx : Nat := 0
  gen : Nat := 0
  epoch : Nat := 0
  dst : Nat := 0
  len : Nat := 0
  arrEn : Bool := false
  arr : Nat := 0
  landing : Nat := 0
  isLoad : Bool := false
  isGet : Bool := false
deriving DecidableEq, Repr

/-- A prism die: its injection partitions, held acknowledgements, and what its collective engine counts. -/
structure PdSt where
  inject : List InjPkt := []
  /-- Machine packets that have come over the package, or were lost on it, and wait to be taken in. -/
  landed : List Landed := []
  acks : List AckHold := []
  /-- Instances answered with a PRUNE: ctx, gen, COLL_ID, SEQ (R313). -/
  pruneSent : List (Nat × Nat × Nat × Nat) := []
  completed : Nat := 0
  aborts : Nat := 0
deriving DecidableEq, Repr

/-! ## Collectives -/

/-- A loaded plan (R297, R298). `grants` are chunks this member may send, keyed by neighbour x 2 + flow; `given` what
it has returned to give; `held` chunks of the next instance. -/
structure Plan where
  pd : Nat := 0
  ctx : Nat := 0
  gen : Nat := 0
  coll : Nat := 0
  seq : Nat := 0
  kind : Nat := 0
  shape : Nat := 0
  redOp : Nat := 0
  etype : Nat := 0
  hold : Bool := false
  die : Nat := 0
  arr : Nat := 0
  members : Nat := 0
  rank : Nat := 0
  root : Nat := 0
  window : Nat := 0
  chunk : Nat := 0
  timeout : Nat := 0
  bytes : Nat := 0
  src : Nat := 0
  dst : Nat := 0
  parent : Nat := 0x8000
  children : List Nat := []
  /-- CHILD0 as loaded: a ring's next member (R298). -/
  child0 : Nat := 0x8000
  slot : Nat := 0
  grants : Tab Nat := []
  returns : Tab Nat := []
  returnSince : Nat := 0
  held : List Mpk := []
  /-- ABORTs of instances not yet started: SEQ, reason and sender (R310, R311). -/
  early : List (Nat × Nat × Nat) := []
  /-- Window room granted to each neighbour's flow and not used yet (R295, R308), keyed as `grants`. -/
  room : Tab Nat := []
  /-- Increments of ARR that are to be applied, SEQ and amount, in order; the first is on its way (R302). -/
  incs : List (Nat × Nat) := []
  incWait : Bool := false
  aborted : Bool := false
deriving DecidableEq, Repr

/-- A running instance (R301). Chunks are keyed piece x 2^32 + chunk. `src` own chunks read and not yet used, `ups`
received ones by sender's child index x 2^64 + chunk, `owed` packets to send with their neighbour, `left` chunk packets
still to send, `writes` outstanding DST writes of a chunk plus 1, `wrote` chunks written and acknowledged, `arrDone`
increments handed over to be applied (R302), `down` the senders of C_DOWN chunks whose grant has not returned, `doneAt` the stamp
at which the instance completed (R301, R308, R310). -/
structure Inst where
  pd : Nat := 0
  ctx : Nat := 0
  gen : Nat := 0
  coll : Nat := 0
  seq : Nat := 0
  start : Nat := 0
  timeout : Nat := 0
  srcNext : Nat := 0
  srcWait : Nat := 0
  srcBuf : Tab (List Byte) := []
  src : Tab (List Byte) := []
  ups : Tab (List Byte) := []
  owed : List (Nat × Mpk) := []
  left : Nat := 0
  writes : Tab Nat := []
  wrote : Tab Nat := []
  arrDone : Nat := 0
  down : Tab Nat := []
  doneAt : Option Nat := none
  arrived : List Nat := []
  /-- A barrier that has sent its ARRIVE. -/
  released : Bool := false
  fenced : List Nat := []
  pruned : Bool := false
  aborting : Bool := false
  reason : Nat := 0
  settle : Nat := 0
deriving DecidableEq, Repr

/-- An increment to be applied at a facet's next tick (R316): die, counter, amount. -/
structure TickInc where
  die : Nat := 0
  arr : Nat := 0
  ctx : Nat := 0
  pd : Nat := 0
  coll : Nat := 0
  seq : Nat := 0
  /-- The stamp of the completion, or of the hold's release. -/
  stamp : Nat := 0
deriving DecidableEq, Repr

/-- An exchange request in progress (R362). -/
structure XchSt where
  hd : Nat := 0
  ctx : Nat := 0
  gen : Nat := 0
  entry : Nat := 0
  dir : Nat := 0
  signal : Bool := false
  die : Nat := 0
  sem : Nat := 0
  off : Nat := 0
  len : Nat := 0
  node : Nat := 0
  /-- Packets not yet answered, and the bytes whose packets have been sent. -/
  waiting : Nat := 0
  sent : Nat := 0
  /-- Import: the plaintext. -/
  plain : List Byte := []
  data : Tab Byte := []
deriving DecidableEq, Repr

/-- What the device sends to the outside: the model's own record of outputs (DESIGN CHOICE, log 3: safe). -/
inductive Output where
  /-- Host completion: host die, tag, 0 success, 1 Unsupported Request, 2 Completer Abort, data. -/
  | hostCpl (hd tag status : Nat) (data : List Byte)
  | msix (hd vector : Nat)
  | alert
  | resp (r : Resp)
  /-- The MCTP packets of a response (R394). -/
  | mctp (packets : List (List Byte))
  | opt (oe : Nat) (m : OptMsg)
  | mpkt (oe : Nat) (p : Mpk)
  /-- A link frame as its lane frames, for the first time or again. -/
  | linkFrame (oe : Nat) (again : Bool) (lanes : List LaneFrame)
  /-- A lane frame outside the link frames (R246). -/
  | laneFrame (oe : Nat) (x : LaneFrame)
  /-- A MGMT packet with which HB0 copies a change to HB1 (R368). -/
  | hubCopy (p : Pkg)
  /-- A flit on a module of a link's direction (R189). -/
  | flit (link dir module : Nat) (bytes : List Byte)
  | mgmtMsg (node kind id : Nat) (bytes : List Byte)
  | icmpReply (port : Nat) (payload : List Byte)
  | ndpReply (port : Nat) (target mac : List Byte)
  | mldReport (port : Nat) (groups : List (List Byte))
  | lsm (m op arg : Nat)
  | credit (oe : Nat) (reserved : List Nat) (shared : Nat)
deriving DecidableEq, Repr
/-! ## The machine -/

/-- Faults: none of the commands' meanings raises one (every failure the spec describes is state: a halt word, a
fault record, a refusal code, an error-log report). -/
inductive Fault where
  /-- Raised by no meaning. Kept so that the type of outcomes has a fault to name; safe, because nothing raises it. -/
  | none
deriving DecidableEq, Repr

/-- Refusals. -/
inductive Refusal where
  /-- A command that the model gives no meaning, by its mnemonic: raised by arms of Dispatch.lean alone. Safe: the
  model stops where the hardware goes on. -/
  | notModelled (mnemonic : String)
deriving DecidableEq, Repr

/-- The whole state of the block. Keys of the tables are the indices the spec gives (die, link, engine, CTX). -/
structure State where
  /-- Commands that wait, first in, first out. DESIGN CHOICE (log 90), safe. -/
  pending : List Instr := []
  /-- Wall time in thirds of a nanosecond since the hubs left cold power-on reset (R21). DESIGN CHOICE (log 12), safe.
  -/
  time : Nat := 0
  /-- The model's own: free values drawn so far. DESIGN CHOICE (logs 6 and 89), safe. -/
  free : Nat := 0
  /-- The model's own: random draws made so far. DESIGN CHOICE (logs 7 and 89), safe. -/
  rnd : Nat := 0
  /-- The model's own: the next number of a descriptor in flight or a termination. DESIGN CHOICE (log 89), safe. -/
  nextUid : Nat := 1
  /-- Both hubs: power, firmware, takeover, start-up, loader, staging (R368 to R372, R458, R459). -/
  hub : HubSt := {}
  /-- Secure SRAM and the fuses (R373 to R391). -/
  sec : SecSt := {}
  /-- The configuration flash (R370, R407, R411, R412, R441, R456). -/
  flash : FlashSt := {}
  /-- The standby-retained SRAM (R427, R440, R441, R449). -/
  standby : StandbySt := {}
  /-- The journal ring and its chain (R408, R409). -/
  jrnl : JournalSt := {}
  /-- Management: the dictionary, waiting writes, kept responses, staged writes, reassembly (R396 to R407). -/
  mg : MgmtSt := {}
  /-- The twin pair and what it holds (R415 to R421). -/
  twin : TwinSt := {}
  /-- Outboxes, drop counters and the error-log ring (R348, R349, R414). -/
  elog : LogSt := {}
  /-- Supply, power caps and windows, temperatures, sensors, trip (R424 to R446). -/
  pw : PowerSt := {}
  /-- Facets 0 to 3: state, frame, throttle, ticks, join, reset (R20 to R36, R346, R432 to R434). -/
  facets : Tab FacetSt := []
  /-- Latched strap bytes plus 1, 0 for none, by site (R12). -/
  straps : Tab Nat := []
  /-- Status byte of a site in the site table (R15). -/
  siteStatus : Tab Nat := []
  /-- Admitted sites: 1 now, 2 before the facet last lost power (R14, R346). DEDUCED (log 71), unsafe. -/
  admitted : Tab Nat := []
  /-- Sites held in test mode after a failed admission (R14). -/
  held : Tab Nat := []
  /-- Compute dies: memory states, swap, collision word, refresh, semaphore events (R45, R46, R105, R138 to R143). -/
  cds : Tab CdSt := []
  /-- Far dies: state, lane groups, priority window (R168, R175 to R177). -/
  fds : Tab FdSt := []
  /-- Prism dies: injection, held acknowledgements, collective counts (R274, R282, R294, R311). -/
  pds : Tab PdSt := []
  /-- Optical engines: link state, maps, keys, replay, credits, rings, calibration, monitors (R228 to R256, R280). -/
  oes : Tab OeSt := []
  /-- Laser supply modules (R224, R225). -/
  lsms : Tab LsmSt := []
  /-- Host dies: admission, link, buckets, mailbox, MSI-X (R213, R214, R353, R359, R364). -/
  hosts : Tab HostSt := []
  /-- Raw package links (R207, R211). -/
  links : Tab LinkSt := []
  /-- The two directions of each raw link: sequence, replay, stream (R188 to R194). -/
  dirs : Tab LinkDir := []
  /-- The context table (R323 to R345). -/
  ctxs : Tab Ctx := []
  /-- Owner tables, key (kind x 32 + die) x 32,768 + unit: 0 free, c owned by CTX c, 256 + c being zeroed (R328,
  R329). -/
  owner : Tab Nat := []
  /-- Near, far, scratchpad, descriptor, doorbell and exchange memory by node offset (R261). -/
  mem : List Host.Cell := []
  /-- Error marks by 8-byte word: 1 single-bit, 2 double-bit (R115, R131, R178). DESIGN CHOICE (log 82), unsafe. -/
  ecc : Tab Nat := []
  /-- Semaphores, by die and number (R45, R59, R60). -/
  sems : Tab Nat := []
  /-- Arrival counters, by die and number (R45, R60, R287). -/
  arrs : Tab Nat := []
  /-- Slot valid flags of the scratchpads (R107 to R113). -/
  slots : Tab SlotFlag := []
  /-- Streams: fetch index, window, halt word, by die, engine and slot (R40, R61, R69, R70). -/
  streams : Tab StreamSt := []
  /-- Engines: descriptors in flight and the array's passes, by die and engine (R38, R62, R63, R92). -/
  engines : Tab EngineSt := []
  /-- Top-k state of the near-bank units, by die, slot and unit (R144, R155). -/
  topk : Tab TopK := []
  /-- Lines in the update buffers of the far stacks, with the stamp of the last use (R173, R174). -/
  ubuf : Tab Nat := []
  /-- The model's own: packets in flight on the package network. DESIGN CHOICE (log 89), safe. -/
  net : List Pkg := []
  /-- The model's own record of the outstanding package requests (R202). DESIGN CHOICE (log 89), safe. -/
  txns : List Txn := []
  /-- The next TAG of each source (R195, R270). -/
  tags : Tab Nat := []
  /-- Outstanding counts of machine requests by die, slot and epoch (R288). -/
  outst : Tab Nat := []
  /-- The failure latched for the next fence, by die and slot (R289, R290). -/
  latches : Tab Latch := []
  /-- Armed fences, by die and slot, oldest first (R289). -/
  fences : Tab (List Fence) := []
  /-- Striped requests sent, by die and context (R277, R278). -/
  striped : Tab Nat := []
  /-- Requests that a terminating prism die holds (R273, R286). -/
  terms : List TermSt := []
  /-- Machine requests of this device that wait for their answer (R273). DESIGN CHOICE (log 89), safe. -/
  mtxns : List MTxn := []
  /-- Loaded collective plans (R297, R298). -/
  plans : List Plan := []
  /-- Running collective instances (R301). -/
  insts : List Inst := []
  /-- Control packets that wait for their plan, by prism die (R294, R307). -/
  ctrlTable : List (Nat × Mpk) := []
  /-- Counter increments of completed barriers for the next tick (R316). -/
  tickIncs : List TickInc := []
  /-- Increments of held barriers (R317). -/
  barrierHold : List TickInc := []
  /-- Idle-frame maps by die: the map bytes with PERIOD (R318). -/
  idle : Tab (List Byte) := []
  /-- Exchange requests in progress (R362, R363). -/
  xch : List XchSt := []
  /-- The model's own: what was sent outside, in order. DESIGN CHOICE (logs 3 and 89), safe. -/
  out : List Output := []
deriving DecidableEq, Repr

/-- The machine right after reset: unpowered, nothing latched, nothing stored, no command waiting. Every field is at
the value its rule gives, or at the value that log 9 names. -/
def State.reset : State := {}

end Sys2Proof.Machine
end

