-- ==== Sys2Proof/Machine/Objects.lean ====
section
/-! DEFINITION. Machine/Objects.lean: the object dictionary (R9, R401, R404), from the object tables of every chapter:
descriptors, defaults, and the values held in `num` (scalars) and `blob` (STR and BLOB). -/
namespace Sys2Proof.Machine
open Sys2Proof

/-- An object's descriptor (R401): index, first and last subindex, TYPE, ACCESS, EFFECT, persistent flag, MAX_LENGTH,
numeric default, UNIT. TYPE 10 marks I16, which R401 gives no code (log 40). -/
structure Obj where
  index : Nat
  lo : Nat
  hi : Nat
  type : Nat
  access : Nat
  effect : Nat
  persist : Bool
  maxLen : Nat
  dflt : Nat
  unit : String
deriving DecidableEq, Repr

/-- Rows objRows1.
PRESUMED (log 40), unsafe. -/
def objRows1 : List Obj := [
  ⟨0x1000, 1, 1, 8, 0x55, 0, false, 256, 0x0, ""⟩,
  ⟨0x1000, 2, 2, 8, 0x55, 0, false, 256, 0x0, ""⟩,
  ⟨0x1000, 3, 3, 8, 0x55, 0, false, 256, 0x0, ""⟩,
  ⟨0x1000, 4, 4, 8, 0x55, 0, false, 256, 0x0, ""⟩,
  ⟨0x1000, 5, 5, 2, 0x55, 0, false, 2, 0x0, ""⟩,
  ⟨0x1000, 6, 6, 3, 0x55, 0, false, 4, 0x0, ""⟩,
  ⟨0x1000, 7, 7, 9, 0x55, 0, false, 6, 0x0, "6 bytes; port p uses base + p"⟩,
  ⟨0x1001, 0, 0, 9, 0x55, 0, false, 65536, 0x0, "4 bytes per object"⟩,
  ⟨0x1100, 1, 2, 1, 0x45, 0, false, 1, 0x0, "0 down, 1 up"⟩,
  ⟨0x1101, 0, 0, 9, 0xD7, 4, true, 16, 0x0, "16 bytes"⟩,
  ⟨0x1102, 0, 0, 1, 0xD7, 4, true, 1, 0x40, "bits, 1–128"⟩,
  ⟨0x1103, 0, 0, 2, 0xD7, 4, true, 2, 0x11A8, "port, 1,024–65,535"⟩,
  ⟨0x1104, 0, 0, 1, 0x45, 0, false, 1, 0x0, "EID"⟩,
  ⟨0x1105, 1, 7, 9, 0x45, 0, false, 32, 0x0, "per path code: U64 requests, accepted, refused, malformed"⟩,
  ⟨0x1106, 0, 0, 4, 0x45, 0, false, 8, 0x0, "requests"⟩,
  ⟨0x2000, 1, 4, 2, 0xDF, 2, true, 2, 0x2EE0, "cycles"⟩,
  ⟨0x2001, 1, 4, 1, 0x45, 0, false, 1, 0x0, ""⟩,
  ⟨0x2002, 1, 4, 3, 0x45, 0, false, 4, 0x0, "frames"⟩,
  ⟨0x2003, 1, 4, 7, 0x45, 0, false, 8, 0x0, "ns"⟩,
  ⟨0x2004, 1, 4, 1, 0x45, 0, false, 1, 0x0, ""⟩,
  ⟨0x2005, 1, 4, 9, 0x45, 0, false, 8192, 0x0, "32-byte records"⟩,
  ⟨0x2006, 1, 4, 4, 0x45, 0, false, 8, 0x0, "frames"⟩,
  ⟨0x2007, 1, 4, 1, 0xD7, 4, true, 1, 0x1, "0 = off, 1 = on"⟩,
  ⟨0x2008, 1, 4, 1, 0x8A, 1, false, 1, 0x0, "1 starts R346"⟩,
  ⟨0x2010, 0, 0, 7, 0x45, 0, false, 8, 0x0, "ns"⟩,
  ⟨0x2011, 0, 0, 9, 0x45, 0, false, 200, 0x0, "200 bytes"⟩,
  ⟨0x2012, 0, 0, 1, 0x55, 0, false, 1, 0x4, "1 WAIT_SUPPLY, 2 WAIT_COOLANT, 3 WAIT_FLASH, 4 POWERING, 5 COMPLETE"⟩,
  ⟨0x2013, 0, 0, 9, 0x45, 0, false, 72, 0x0, "TIME64 each: firmware running, and per facet: powered, first tick"⟩]

/-- Rows objRows2.
PRESUMED (log 40), unsafe. -/
def objRows2 : List Obj := [
  ⟨0x2020, 1, 32, 3, 0x45, 0, false, 4, 0x0, "DMEM_CTRL image"⟩,
  ⟨0x2021, 1, 32, 3, 0x45, 0, false, 4, 0x0, "writes"⟩,
  ⟨0x2022, 1, 32, 3, 0x45, 0, false, 4, 0x0, "halts"⟩,
  ⟨0x2030, 1, 64, 4, 0x45, 0, false, 8, 0x0, "cycles in which an A unit entered"⟩,
  ⟨0x2031, 1, 64, 4, 0x45, 0, false, 8, 0x0, "stream cycles idle under step 2 of R91"⟩,
  ⟨0x2032, 1, 64, 3, 0x45, 0, false, 4, 0x0, "D elements whose result was NaN or ±∞, counted under R85"⟩,
  ⟨0x2033, 1, 64, 3, 0x45, 0, false, 4, 0x0, "D elements whose finite result lay beyond the range of FMT_D, counted under R85"⟩,
  ⟨0x2040, 1, 32, 3, 0x45, 0, false, 4, 0x0, "corrected words"⟩,
  ⟨0x2041, 1, 32, 3, 0x45, 0, false, 4, 0x0, "faulted accesses"⟩,
  ⟨0x2042, 1, 32, 3, 0x45, 0, false, 4, 0x0, "dropped port-B accesses"⟩,
  ⟨0x2043, 1, 32, 3, 0x45, 0, false, 4, 0x0, "stall cycles under R102"⟩,
  ⟨0x2044, 1, 32, 3, 0x45, 0, false, 4, 0x0, "elements"⟩,
  ⟨0x2045, 1, 32, 3, 0x45, 0, false, 4, 0x0, "elements"⟩,
  ⟨0x2046, 1, 32, 3, 0x45, 0, false, 4, 0x0, "values"⟩,
  ⟨0x2050, 1, 140, 1, 0x45, 0, false, 1, 0x0, "state code, R207"⟩,
  ⟨0x2051, 1, 140, 1, 0x45, 0, false, 1, 0x0, "modules trained"⟩,
  ⟨0x2052, 1, 140, 2, 0x45, 0, false, 2, 0x0, "lanes repaired at last training"⟩,
  ⟨0x2053, 1, 140, 4, 0x45, 0, false, 8, 0x0, "replays"⟩,
  ⟨0x2054, 1, 140, 3, 0x45, 0, false, 4, 0x0, "retrainings"⟩,
  ⟨0x2055, 1, 140, 9, 0x45, 0, false, 32, 0x0, "4 × U64: scheduled and unscheduled bytes, each direction"⟩,
  ⟨0x2056, 1, 140, 4, 0x45, 0, false, 8, 0x0, "ns"⟩,
  ⟨0x2057, 1, 140, 3, 0x45, 0, false, 4, 0x0, "events"⟩,
  ⟨0x2058, 1, 140, 3, 0x45, 0, false, 4, 0x0, "packets"⟩,
  ⟨0x2059, 0, 0, 9, 0x80, 1, false, 2, 0x0, "U8 link number, U8 kind: 1 near, 2 remote"⟩,
  ⟨0x2060, 1, 2, 9, 0xD7, 1, true, 1024, 0x0, "32 × 32 bytes"⟩,
  ⟨0x2061, 1, 2, 9, 0x45, 0, false, 24, 0x0, "3 × U64: window, operation, rate"⟩,
  ⟨0x2062, 1, 2, 1, 0x45, 0, false, 1, 0x0, "0 absent, 1 training, 2 admitted, 3 down, 4 refused"⟩,
  ⟨0x2063, 1, 2, 2, 0x45, 0, false, 2, 0x0, "[7:0] modules, [15:8] GT/s"⟩]

/-- Rows objRows3.
PRESUMED (log 40), unsafe. -/
def objRows3 : List Obj := [
  ⟨0x2064, 1, 2, 9, 0x45, 0, false, 8, 0x0, "8 bytes"⟩,
  ⟨0x2065, 1, 2, 9, 0x45, 0, false, 16, 0x0, "2 × U64: imported, exported"⟩,
  ⟨0x2066, 1, 2, 9, 0x45, 0, false, 32, 0x0, "8 × U32: requests per STATUS 2 to 8, and TAIL overruns"⟩,
  ⟨0x2067, 1, 2, 3, 0x45, 0, false, 4, 0x0, "writes"⟩,
  ⟨0x2068, 1, 2, 3, 0x45, 0, false, 4, 0x0, "writes"⟩,
  ⟨0x3000, 0, 0, 1, 0x55, 0, false, 1, 0x0, "R424"⟩,
  ⟨0x3001, 0, 0, 2, 0x45, 0, false, 2, 0x0, "10 mV, latest sample"⟩,
  ⟨0x3002, 0, 0, 3, 0x45, 0, false, 4, 0x0, "W, latest 1 ms window"⟩,
  ⟨0x3003, 0, 0, 2, 0xD7, 2, true, 2, 0x1C20, "W, 2,000–7,200"⟩,
  ⟨0x3004, 0, 0, 2, 0xD7, 2, true, 2, 0x1E78, "W, 2,000–7,800"⟩,
  ⟨0x3005, 1, 4, 2, 0xD7, 2, true, 2, 0x708, "W, 300–2,400"⟩,
  ⟨0x3006, 1, 4, 3, 0x45, 0, false, 4, 0x0, "W, last frame"⟩,
  ⟨0x3007, 1, 4, 1, 0x45, 0, false, 1, 0x0, "[3:0] level; [4] thermal, [5] power, [6] sag governs"⟩,
  ⟨0x3008, 0, 0, 9, 0x45, 0, false, 272, 0x0, "U16 in 0.1 W: sites in R15 order, N-0 to N-31, forwarding domains 0–3, conversion"⟩,
  ⟨0x3009, 0, 0, 9, 0x45, 0, false, 8, 0x0, "U32 short-cap windows, U32 sustained-cap windows"⟩,
  ⟨0x3010, 1, 100, 10, 0x45, 0, false, 2, 0x0, "0.01 °C"⟩,
  ⟨0x3011, 1, 100, 9, 0x45, 0, false, 18, 0x0, "per sensor: I16 0.01 °C, U8 0 valid, 1 failed, 2 unpowered; reading triggers a read"⟩,
  ⟨0x3012, 1, 100, 1, 0x45, 0, false, 1, 0x0, "bit n: sensor n failed"⟩,
  ⟨0x3013, 0, 0, 2, 0xD7, 2, true, 2, 0xA, "ms, 1–1,000"⟩,
  ⟨0x3014, 1, 4, 1, 0x55, 0, false, 1, 0x0, "R439"⟩,
  ⟨0x3015, 0, 0, 9, 0x55, 0, false, 64, 0x0, "64 bytes, R441"⟩,
  ⟨0x3016, 0, 0, 9, 0x45, 0, false, 16, 0x0, "U32 sags, U64 ns in SAG, U32 stops"⟩,
  ⟨0x3017, 0, 0, 1, 0xD7, 2, true, 1, 0x0, "0 off, 1 on"⟩,
  ⟨0x3018, 0, 0, 1, 0x55, 0, false, 1, 0x0, "R443"⟩,
  ⟨0x3019, 0, 0, 10, 0x55, 0, false, 2, 0x8000, "0.01 °C, last report; 0x8000 none received"⟩,
  ⟨0x4000, 0, 0, 1, 0x45, 0, false, 1, 0x0, "state code, R253"⟩,
  ⟨0x4001, 0, 0, 1, 0xD7, 1, true, 1, 0x1, "0 = off, 1 = on"⟩,
  ⟨0x4002, 0, 0, 9, 0x45, 0, false, 7, 0x0, "node U16, SRC_OE U8, TX and RX fibre masks U8 each, length U16 in m"⟩]

/-- Rows objRows4.
PRESUMED (log 40), unsafe. -/
def objRows4 : List Obj := [
  ⟨0x4003, 1, 8, 9, 0x45, 0, false, 18, 0x0, "18 bytes: lane on line k; 0xFD failed, 0xFE calibration, 0xFF none"⟩,
  ⟨0x4004, 1, 8, 9, 0x45, 0, false, 18, 0x0, "as above"⟩,
  ⟨0x4005, 1, 8, 9, 0x45, 0, false, 8, 0x0, "PM, FC: I16 average and baseline each, 0.01 dBm"⟩,
  ⟨0x4006, 1, 8, 9, 0x45, 0, false, 4, 0x0, "RI average and baseline"⟩,
  ⟨0x4007, 1, 2, 10, 0x45, 0, false, 2, 0x0, "0.01 dBm"⟩,
  ⟨0x4008, 1, 8, 6, 0x45, 0, false, 4, 0x0, "worst line, last window"⟩,
  ⟨0x4009, 1, 16, 9, 0x45, 0, false, 36, 0x0, "18 × U16 GHz shift; 01–08 TX, 09–10 RX"⟩,
  ⟨0x400A, 0, 0, 4, 0x45, 0, false, 8, 0x0, "lane frames"⟩,
  ⟨0x400B, 0, 0, 4, 0x45, 0, false, 8, 0x0, "replays"⟩,
  ⟨0x400C, 0, 0, 4, 0x45, 0, false, 8, 0x0, "link frames"⟩,
  ⟨0x400D, 0, 0, 3, 0x45, 0, false, 4, 0x0, "events"⟩,
  ⟨0x400E, 0, 0, 3, 0x45, 0, false, 4, 0x0, "events"⟩,
  ⟨0x400F, 0, 0, 3, 0x45, 0, false, 4, 0x0, "slots"⟩,
  ⟨0x4010, 0, 0, 3, 0x45, 0, false, 4, 0x0, "events"⟩,
  ⟨0x4011, 0, 0, 3, 0x45, 0, false, 4, 0x0, "epoch"⟩,
  ⟨0x4012, 0, 0, 1, 0x45, 0, false, 1, 0x0, "0 none, 1 peer, 2 length, 3 skew, 4 refused, 5 tags, 6 no fibre, 7 timeout"⟩,
  ⟨0x4300, 1, 12, 1, 0x45, 0, false, 1, 0x0, "CMIS module state"⟩,
  ⟨0x4301, 1, 12, 9, 0x45, 0, false, 48, 0x0, "CMIS vendor, part, serial"⟩,
  ⟨0x4302, 1, 12, 9, 0x45, 0, false, 10, 0x0, "temperature, 4 output powers"⟩,
  ⟨0x4303, 1, 12, 1, 0xD7, 1, true, 1, 0x1, "0 = outputs off"⟩,
  ⟨0x4310, 0, 0, 2, 0xD7, 2, true, 2, 0x1F4, "µs, 500–5,000 in steps of 100"⟩,
  ⟨0x4311, 0, 0, 1, 0xD7, 1, true, 1, 0xF, "0.1 dB"⟩,
  ⟨0x4312, 0, 0, 1, 0xD7, 1, true, 1, 0x28, "0.1 dB"⟩,
  ⟨0x4313, 0, 0, 9, 0xD7, 1, true, 1024, 0x0, "up to 16 × 64-byte digests"⟩,
  ⟨0x5000, 1, 32, 1, 0x45, 0, false, 1, 0x0, "state code, R143"⟩,
  ⟨0x5001, 1, 32, 9, 0x45, 0, false, 32, 0x0, "32 bytes, bit g: spare of group g in use"⟩,
  ⟨0x5002, 1, 32, 3, 0x45, 0, false, 4, 0x0, "words"⟩,
  ⟨0x5003, 1, 32, 3, 0x45, 0, false, 4, 0x0, "faulted accesses"⟩]

/-- Rows objRows5.
PRESUMED (log 40), unsafe. -/
def objRows5 : List Obj := [
  ⟨0x5004, 1, 32, 1, 0x45, 0, false, 1, 0x0, "band"⟩,
  ⟨0x5005, 1, 32, 5, 0x45, 0, false, 4, 0x0, "row groups, negative when ahead"⟩,
  ⟨0x5006, 1, 32, 3, 0x45, 0, false, 4, 0x0, "events"⟩,
  ⟨0x5007, 1, 4, 2, 0x45, 0, false, 2, 0x2EE, "working cycles"⟩,
  ⟨0x5008, 1, 32, 4, 0x45, 0, false, 8, 0x0, "commands"⟩,
  ⟨0x5009, 1, 32, 4, 0x45, 0, false, 8, 0x0, "stack cycles with a held access"⟩,
  ⟨0x500A, 1, 32, 1, 0xD7, 2, true, 1, 0x1, "0 = off, 1 = on"⟩,
  ⟨0x500B, 1, 32, 9, 0x45, 0, false, 128, 0x0, "8 × 16 bytes, layer order"⟩,
  ⟨0x500C, 1, 32, 3, 0x45, 0, false, 4, 0x0, "events"⟩,
  ⟨0x5020, 1, 32, 1, 0x45, 0, false, 1, 0x0, "state code, R177"⟩,
  ⟨0x5021, 1, 32, 9, 0x45, 0, false, 4, 0x0, "4 bytes, bit g: spare of group g in use"⟩,
  ⟨0x5022, 1, 32, 3, 0x45, 0, false, 4, 0x0, "words"⟩,
  ⟨0x5023, 1, 32, 3, 0x45, 0, false, 4, 0x0, "faulted accesses"⟩,
  ⟨0x5024, 1, 32, 1, 0xD7, 2, true, 1, 0x19, "%"⟩,
  ⟨0x5025, 1, 32, 2, 0xD7, 2, true, 2, 0x3E8, "ns"⟩,
  ⟨0x5026, 1, 32, 3, 0xD7, 2, true, 4, 0x10408, "W1 in [7:0], W2 in [15:8], W3 in [23:16]"⟩,
  ⟨0x5027, 1, 32, 4, 0x45, 0, false, 8, 0x0, "granules"⟩,
  ⟨0x5028, 1, 32, 9, 0x45, 0, false, 32, 0x0, "4 × U64, classes 0 to 3"⟩,
  ⟨0x5029, 1, 32, 4, 0x45, 0, false, 8, 0x0, "operations applied"⟩,
  ⟨0x502A, 1, 32, 4, 0x45, 0, false, 8, 0x0, "ns"⟩,
  ⟨0x502B, 1, 32, 2, 0xD7, 2, true, 2, 0x18, "hours, 1 to 168"⟩,
  ⟨0x502C, 1, 32, 1, 0x45, 0, false, 1, 0x0, "band"⟩,
  ⟨0x502D, 1, 32, 9, 0x45, 0, false, 144, 0x0, "144 bytes, bit n: lane n below margin"⟩,
  ⟨0x502E, 1, 32, 4, 0x45, 0, false, 8, 0x0, "operations applied"⟩,
  ⟨0x6000, 0, 0, 2, 0xD7, 3, true, 2, 0x8000, "node"⟩,
  ⟨0x6001, 0, 0, 9, 0xD7, 3, true, 3, 0x0, "3 × U8: SX, SY, SZ"⟩,
  ⟨0x6002, 0, 0, 1, 0xD7, 3, true, 1, 0x0, "0 PINNED, 1 STRIPED"⟩,
  ⟨0x6003, 0, 0, 1, 0xD7, 1, true, 1, 0xF, "bit p: port p used at injection; 0 refused"⟩]

/-- Rows objRows6.
PRESUMED (log 40), unsafe. -/
def objRows6 : List Obj := [
  ⟨0x6004, 0, 0, 2, 0x55, 0, false, 2, 0x1, "epoch"⟩,
  ⟨0x6005, 0, 0, 3, 0xD7, 2, true, 4, 0x40204, "TC0 [7:0], TC1 [15:8], TC2 [23:16], 1–255"⟩,
  ⟨0x6006, 0, 0, 1, 0xD7, 2, true, 1, 0x8, "1/256 of port rate, 1–64"⟩,
  ⟨0x6007, 0, 0, 3, 0xD7, 2, true, 4, 0x8001000, "KiB: high [15:0], low [31:16], low < high ≤ 8,192"⟩,
  ⟨0x6008, 0, 0, 1, 0xD7, 2, true, 1, 0x20, "1/256 of port rate, 8–255"⟩,
  ⟨0x6009, 0, 0, 3, 0xD7, 1, true, 4, 0x2710, "µs, 100–1,000,000"⟩,
  ⟨0x600A, 1, 24, 9, 0x45, 0, false, 96, 0x0, "per TC: 2 × U64 bytes out and in; U64 throttled ns"⟩,
  ⟨0x600B, 0, 0, 9, 0x45, 0, false, 32, 0x0, "U64 each: port down, unassigned node, reserved OP, context mismatch"⟩,
  ⟨0x600C, 0, 0, 9, 0x45, 0, false, 40, 0x0, "4 × (U16 epoch, U64 requests outstanding on the device)"⟩,
  ⟨0x600D, 0, 0, 3, 0x45, 0, false, 4, 0x0, "events"⟩,
  ⟨0x6100, 0, 0, 3, 0xD7, 1, true, 4, 0x32, "ms, 1–60,000"⟩,
  ⟨0x6102, 0, 0, 9, 0xD7, 1, true, 128, 0x0, "up to 64 × U16 nodes"⟩,
  ⟨0x6103, 0, 0, 1, 0x82, 1, false, 1, 0x0, "1 releases the hold"⟩,
  ⟨0x6104, 1, 8, 9, 0x45, 0, false, 24, 0x0, "U16 plans, U16 running, U32 free window KiB, U64 completed, U64 aborted"⟩,
  ⟨0x6105, 1, 8, 9, 0x45, 0, false, 16, 0x0, "U64 chunks, U64 bytes"⟩,
  ⟨0x6106, 1, 8, 4, 0x45, 0, false, 8, 0x0, "packets"⟩,
  ⟨0x6107, 0, 0, 1, 0x55, 0, false, 1, 0x0, "0 none, 1 held"⟩,
  ⟨0x6108, 1, 8, 9, 0x45, 0, false, 15, 0x0, "CTX, GEN, U16 COLL_ID, U16 SEQ, reason, TIME64"⟩,
  ⟨0x7000, 1, 255, 1, 0x45, 0, false, 1, 0x0, "state code, R324"⟩,
  ⟨0x7001, 1, 255, 1, 0x45, 0, false, 1, 0x0, "generation"⟩,
  ⟨0x7002, 1, 255, 9, 0x45, 0, false, 12, 0x0, "U8 facet mask, U8 slot, U16 FRAME_CYCLES_DECL, TIME64 bind"⟩,
  ⟨0x7003, 1, 255, 9, 0x45, 0, false, 16, 0x0, "4 × U32: slots, stripes, blocks owned; units zeroing"⟩,
  ⟨0x7004, 1, 255, 9, 0x45, 0, false, 80, 0x0, "bytes 0–79 of R344"⟩,
  ⟨0x7005, 1, 255, 9, 0x45, 0, false, 1024, 0x0, "16 × 64-byte records"⟩,
  ⟨0x7006, 1, 255, 9, 0x45, 0, false, 32, 0x0, "32-byte reset record, R344"⟩,
  ⟨0x7010, 0, 0, 1, 0x45, 0, false, 1, 0x0, "contexts not FREE"⟩,
  ⟨0x7011, 0, 0, 4, 0x45, 0, false, 8, 0x0, "teardowns completed"⟩,
  ⟨0x7800, 0, 0, 1, 0x55, 0, false, 1, 0x0, "[2:0] state, [7] leave pending"⟩]

/-- Rows objRows7.
PRESUMED (log 40), unsafe. -/
def objRows7 : List Obj := [
  ⟨0x7801, 0, 0, 1, 0x55, 0, false, 1, 0x18, "visits"⟩,
  ⟨0x7802, 0, 0, 1, 0x82, 1, false, 1, 0x0, "R389 codes 1–5"⟩,
  ⟨0x7803, 0, 0, 9, 0xD7, 1, true, 2048, 0x0, "DER, up to 2,048 bytes"⟩,
  ⟨0x7804, 0, 0, 9, 0x55, 0, false, 32, 0x0, "32 bytes"⟩,
  ⟨0x7805, 0, 0, 9, 0x55, 0, false, 64, 0x0, "64 bytes"⟩,
  ⟨0x7806, 0, 0, 9, 0x55, 0, false, 8, 0x0, "U32 image, U32 SV_MIN"⟩,
  ⟨0x7807, 0, 0, 1, 0x55, 0, false, 1, 0x0, "[0] HB1 primary, [7] no standby"⟩,
  ⟨0x7808, 0, 0, 9, 0x55, 0, false, 9, 0x0, "U8 mesh, voltage, clock flags; TIME64"⟩,
  ⟨0x7809, 0, 0, 9, 0x45, 0, false, 64, 0x0, "2 × 32 bytes: bit n key present, RECOVER set"⟩,
  ⟨0x780A, 0, 0, 9, 0x45, 0, false, 13, 0x0, "U64 boots, U8 last failure code, U32 loader entries"⟩,
  ⟨0x780B, 0, 0, 9, 0x82, 4, false, 8388864, 0x0, "image chunks, R372"⟩,
  ⟨0x780C, 0, 0, 9, 0xC3, 1, false, 512, 0x0, "write NONCE, read report"⟩,
  ⟨0x780D, 0, 0, 9, 0x0A, 1, false, 24, 0x0, "R385"⟩,
  ⟨0x780E, 0, 0, 9, 0x05, 0, false, 4590, 0x0, "up to 255 × (U8 CTX, U8 GEN, KCV)"⟩,
  ⟨0x7810, 0, 0, 9, 0x03, 1, false, 544, 0x0, "R380"⟩,
  ⟨0x7811, 0, 0, 9, 0x03, 1, false, 56, 0x0, "R380"⟩,
  ⟨0x8000, 0, 0, 4, 0x55, 0, false, 8, 0x0, "SEQUENCE"⟩,
  ⟨0x8001, 0, 0, 9, 0x55, 0, false, 4194304, 0x0, "65,536 × 64 bytes"⟩,
  ⟨0x8002, 0, 0, 9, 0x55, 0, false, 128, 0x0, "128 bytes"⟩,
  ⟨0x8003, 0, 0, 9, 0x55, 0, false, 524288, 0x0, "up to 4,096 × 128 bytes"⟩,
  ⟨0x8004, 0, 0, 4, 0x55, 0, false, 8, 0x0, "SEQUENCE"⟩,
  ⟨0x8005, 0, 0, 9, 0x45, 0, false, 5, 0x0, "U8 waiting, U32 dropped"⟩,
  ⟨0x8006, 0, 0, 1, 0x82, 1, false, 1, 0x0, "1 flushes; any other value is refused with 0x0002 (R405)"⟩,
  ⟨0x8007, 0, 0, 4, 0x55, 0, false, 8, 0x0, "SEQUENCE of this power-up's BOOT entry"⟩,
  ⟨0x8800, 0, 0, 1, 0x55, 0, false, 1, 0x0, "R418"⟩,
  ⟨0x8801, 0, 0, 2, 0x55, 0, false, 2, 0x8000, "node"⟩,
  ⟨0x8802, 0, 0, 9, 0x82, 1, false, 19, 0x0, "U16 node, U8 MODE (0 pair, 1 replace), 16-byte TWIN_ID"⟩,
  ⟨0x8803, 0, 0, 1, 0xA2, 1, false, 1, 0x0, "0 RELEASE, 1 HANDOVER"⟩]

/-- Rows objRows8.
PRESUMED (log 40), unsafe. -/
def objRows8 : List Obj := [
  ⟨0x8804, 0, 0, 9, 0x55, 0, false, 20, 0x0, "U64 twin journal SEQUENCE held, U64 image IMAGE_SEQ, U32 key mirror count"⟩,
  ⟨0x8805, 0, 0, 9, 0x45, 0, false, 34, 0x0, "U16 node, TWIN_ID, U64 lowest and highest SEQUENCE held"⟩,
  ⟨0x8806, 0, 0, 9, 0x45, 0, false, 4194304, 0x0, "64-byte entries"⟩,
  ⟨0x8807, 0, 0, 9, 0x45, 0, false, 32768, 0x0, "128-byte checkpoints"⟩,
  ⟨0x8808, 0, 0, 9, 0x45, 0, false, 9, 0x0, "U8 bit 0 image, bit 1 keys, bit 2 journal complete; U64 first missing SEQUENCE"⟩,
  ⟨0x9000, 0, 0, 9, 0x55, 0, false, 262144, 0x0, "4,096 × 64 bytes"⟩,
  ⟨0x9001, 0, 0, 4, 0x55, 0, false, 8, 0x0, "SEQ of newest entry, from 1; 0 while the log holds no entry (R348)"⟩,
  ⟨0x9002, 0, 0, 4, 0x45, 0, false, 8, 0x0, "reports"⟩,
  ⟨0x9003, 0, 0, 4, 0x45, 0, false, 8, 0x0, "entries"⟩,
  ⟨0x9004, 0, 0, 1, 0x45, 0, false, 1, 0x0, "open entries, 0–64"⟩]

/-- Every object of the dictionary, in ascending index.
DESIGN CHOICE (log 33), unsafe. -/
def objTable : List Obj :=
  objRows1 ++ objRows2 ++ objRows3 ++ objRows4 ++ objRows5 ++ objRows6 ++ objRows7 ++ objRows8

/-! ## Indices -/

abbrev oObjCatalogue : Nat := 0x1001
abbrev oMgtPortState : Nat := 0x1100
abbrev oMgtIpv6Address : Nat := 0x1101
abbrev oMgtPrefixLen : Nat := 0x1102
abbrev oMgtUdpPort : Nat := 0x1103
abbrev oMctpEid : Nat := 0x1104
abbrev oPathStats : Nat := 0x1105
abbrev oMgmtRxDrops : Nat := 0x1106
abbrev oFrameCycles : Nat := 0x2000
abbrev oFacetState : Nat := 0x2001
abbrev oFacetFrameNumber : Nat := 0x2002
abbrev oFacetLastTick : Nat := 0x2003
abbrev oFacetJoinMask : Nat := 0x2004
abbrev oFrameRecords : Nat := 0x2005
abbrev oStretchedFrames : Nat := 0x2006
abbrev oFacetEnable : Nat := 0x2007
abbrev oFacetReset : Nat := 0x2008
abbrev oWallTime : Nat := 0x2010
abbrev oSiteTable : Nat := 0x2011
abbrev oStartupState : Nat := 0x2012
abbrev oStartupTimes : Nat := 0x2013
abbrev oDmemStatus : Nat := 0x2020
abbrev oDmemRefusedWrites : Nat := 0x2021
abbrev oEngineHalts : Nat := 0x2022
abbrev oMaStreamCycles : Nat := 0x2030
abbrev oMaLoadBoundCycles : Nat := 0x2031
abbrev oMaNonfiniteWrites : Nat := 0x2032
abbrev oMaSaturatedWrites : Nat := 0x2033
abbrev oSpCorrected : Nat := 0x2040
abbrev oSpUncorrectable : Nat := 0x2041
abbrev oSpCollisions : Nat := 0x2042
abbrev oSpEngineStalls : Nat := 0x2043
abbrev oVuSaturatedWrites : Nat := 0x2044
abbrev oVuNonfiniteWrites : Nat := 0x2045
abbrev oVuSliceClamps : Nat := 0x2046
abbrev oPkgLinkState : Nat := 0x2050
abbrev oPkgLinkModules : Nat := 0x2051
abbrev oPkgLinkLaneRepairs : Nat := 0x2052
abbrev oPkgLinkReplays : Nat := 0x2053
abbrev oPkgLinkRetrains : Nat := 0x2054
abbrev oPkgLinkBytes : Nat := 0x2055
abbrev oPkgUnschedWaitNs : Nat := 0x2056
abbrev oPkgSchedConflicts : Nat := 0x2057
abbrev oPkgUnroutable : Nat := 0x2058
abbrev oPkgLinkTest : Nat := 0x2059
abbrev oFwTable : Nat := 0x2060
abbrev oFwRefused : Nat := 0x2061
abbrev oHostLinkState : Nat := 0x2062
abbrev oHostLinkWidth : Nat := 0x2063
abbrev oHostIdentity : Nat := 0x2064
abbrev oHostXchBytes : Nat := 0x2065
abbrev oHostXchFailed : Nat := 0x2066
abbrev oHostDoorbellDrops : Nat := 0x2067
abbrev oHostLockedWrites : Nat := 0x2068
abbrev oSupplyState : Nat := 0x3000
abbrev oSupplyVoltage : Nat := 0x3001
abbrev oInputPower : Nat := 0x3002
abbrev oPkgSustainedCap : Nat := 0x3003
abbrev oPkgShortCap : Nat := 0x3004
abbrev oFacetPowerShare : Nat := 0x3005
abbrev oFacetPower : Nat := 0x3006
abbrev oThrottleLevel : Nat := 0x3007
abbrev oDomainPower : Nat := 0x3008
abbrev oCapExceeded : Nat := 0x3009
abbrev oDieTempEst : Nat := 0x3010
abbrev oDieSensors : Nat := 0x3011
abbrev oSensorFailed : Nat := 0x3012
abbrev oThermalAnchorPeriod : Nat := 0x3013
abbrev oThermalState : Nat := 0x3014
abbrev oTripRecord : Nat := 0x3015
abbrev oSupplyEvents : Nat := 0x3016
abbrev oSpIdleGate : Nat := 0x3017
abbrev oFlashWritePermitted : Nat := 0x3018
abbrev oCoolantInlet : Nat := 0x3019
abbrev oOptLinkState : Nat := 0x4000
abbrev oOptLinkEnable : Nat := 0x4001
abbrev oOptPeer : Nat := 0x4002
abbrev oOptTxLaneMap : Nat := 0x4003
abbrev oOptRxLaneMap : Nat := 0x4004
abbrev oOptTxMon : Nat := 0x4005
abbrev oOptRxMon : Nat := 0x4006
abbrev oOptLaserIn : Nat := 0x4007
abbrev oOptPrefecBer : Nat := 0x4008
abbrev oOptHeater : Nat := 0x4009
abbrev oOptUncorrectable : Nat := 0x400A
abbrev oOptReplays : Nat := 0x400B
abbrev oOptTagFails : Nat := 0x400C
abbrev oOptMislocks : Nat := 0x400D
abbrev oOptRecentres : Nat := 0x400E
abbrev oOptCalSkipped : Nat := 0x400F
abbrev oOptRelocks : Nat := 0x4010
abbrev oOptKeyEpoch : Nat := 0x4011
abbrev oOptDownCause : Nat := 0x4012
abbrev oOptLsmState : Nat := 0x4300
abbrev oOptLsmIdentity : Nat := 0x4301
abbrev oOptLsmMon : Nat := 0x4302
abbrev oOptLsmEnable : Nat := 0x4303
abbrev oOptCalSlot : Nat := 0x4310
abbrev oOptLossWarnDb : Nat := 0x4311
abbrev oOptLossFailDb : Nat := 0x4312
abbrev oOptPeerMeasurements : Nat := 0x4313
abbrev oNearState : Nat := 0x5000
abbrev oNearSpareMap : Nat := 0x5001
abbrev oNearCorrected : Nat := 0x5002
abbrev oNearUncorrectable : Nat := 0x5003
abbrev oNearRefreshBand : Nat := 0x5004
abbrev oNearRefreshDebt : Nat := 0x5005
abbrev oNearRefreshLate : Nat := 0x5006
abbrev oNearRefreshCycles : Nat := 0x5007
abbrev oNbcCommands : Nat := 0x5008
abbrev oNearHeldCycles : Nat := 0x5009
abbrev oNearRecheck : Nat := 0x500A
abbrev oNbcLastCommand : Nat := 0x500B
abbrev oNearTopkRestarts : Nat := 0x500C
abbrev oFarState : Nat := 0x5020
abbrev oFarSpareMap : Nat := 0x5021
abbrev oFarCorrected : Nat := 0x5022
abbrev oFarUncorrectable : Nat := 0x5023
abbrev oFarC0Share : Nat := 0x5024
abbrev oFarPrioWindow : Nat := 0x5025
abbrev oFarClassWeights : Nat := 0x5026
abbrev oFarC0Demoted : Nat := 0x5027
abbrev oFarGranulesByClass : Nat := 0x5028
abbrev oFarAtomics : Nat := 0x5029
abbrev oFarQueueFullNs : Nat := 0x502A
abbrev oFarScrubPeriod : Nat := 0x502B
abbrev oFarRefreshBand : Nat := 0x502C
abbrev oFarLanesMarginal : Nat := 0x502D
abbrev oNearAtomics : Nat := 0x502E
abbrev oNodeId : Nat := 0x6000
abbrev oAxisSize : Nat := 0x6001
abbrev oOrderMode : Nat := 0x6002
abbrev oPortMask : Nat := 0x6003
abbrev oRouteEpoch : Nat := 0x6004
abbrev oTcWeights : Nat := 0x6005
abbrev oTc3Cap : Nat := 0x6006
abbrev oInjThresh : Nat := 0x6007
abbrev oInjRateMin : Nat := 0x6008
abbrev oFenceTimeout : Nat := 0x6009
abbrev oFabPortStats : Nat := 0x600A
abbrev oFabDiscards : Nat := 0x600B
abbrev oFabEpochOutstanding : Nat := 0x600C
abbrev oFabFenceTimeouts : Nat := 0x600D
abbrev oCollTimeout : Nat := 0x6100
abbrev oCollFenceList : Nat := 0x6102
abbrev oCollHoldRelease : Nat := 0x6103
abbrev oCollEngineStats : Nat := 0x6104
abbrev oCollPruned : Nat := 0x6105
abbrev oCollDiscards : Nat := 0x6106
abbrev oCollHoldState : Nat := 0x6107
abbrev oCollLastAbort : Nat := 0x6108
abbrev oCtxState : Nat := 0x7000
abbrev oCtxGen : Nat := 0x7001
abbrev oCtxBinding : Nat := 0x7002
abbrev oCtxMemory : Nat := 0x7003
abbrev oCtxProgress : Nat := 0x7004
abbrev oCtxFaults : Nat := 0x7005
abbrev oCtxLastReset : Nat := 0x7006
abbrev oCtxInUse : Nat := 0x7010
abbrev oCtxResets : Nat := 0x7011
abbrev oLcState : Nat := 0x7800
abbrev oLcServiceLeft : Nat := 0x7801
abbrev oLcCommand : Nat := 0x7802
abbrev oDeviceCert : Nat := 0x7803
abbrev oDeviceIdKey : Nat := 0x7804
abbrev oFwMeasurement : Nat := 0x7805
abbrev oFwSecurityVersion : Nat := 0x7806
abbrev oRootHub : Nat := 0x7807
abbrev oTamperState : Nat := 0x7808
abbrev oKeysPresent : Nat := 0x7809
abbrev oBootRecord : Nat := 0x780A
abbrev oFwImage : Nat := 0x780B
abbrev oAttest : Nat := 0x780C
abbrev oKeyRecover : Nat := 0x780D
abbrev oRecoveredKeys : Nat := 0x780E
abbrev oSessionOpen : Nat := 0x7810
abbrev oKeyProvision : Nat := 0x7811
abbrev oJournalHead : Nat := 0x8000
abbrev oJournalEntries : Nat := 0x8001
abbrev oJournalLastCheckpoint : Nat := 0x8002
abbrev oJournalCheckpoints : Nat := 0x8003
abbrev oJournalMirrorAcked : Nat := 0x8004
abbrev oJournalFlashPending : Nat := 0x8005
abbrev oJournalFlush : Nat := 0x8006
abbrev oJournalBootSeq : Nat := 0x8007
abbrev oTwinState : Nat := 0x8800
abbrev oTwinNode : Nat := 0x8801
abbrev oTwinPair : Nat := 0x8802
abbrev oTwinDetach : Nat := 0x8803
abbrev oTwinMirrorStatus : Nat := 0x8804
abbrev oTwinHeld : Nat := 0x8805
abbrev oInheritedJournal : Nat := 0x8806
abbrev oInheritedCheckpoints : Nat := 0x8807
abbrev oTwinPullStatus : Nat := 0x8808
abbrev oLogRing : Nat := 0x9000
abbrev oLogHead : Nat := 0x9001
abbrev oLogOverflow : Nat := 0x9002
abbrev oLogOverwritten : Nat := 0x9003
abbrev oLogOpen : Nat := 0x9004
/-- The engine objects' index (R257): 0x4000 + 0x20 x e + n, for the index `n` of engine 0's object. -/
abbrev oeObj (e base : Nat) : Nat := base + 0x20 * e

/-! ## Lookup -/

/-- The table's index of an object: the objects of every optical engine share the rows of engine 0 (R257). -/
def rowIndex (ix : Nat) : Nat :=
  if 0x4000 ≤ ix ∧ ix < 0x4000 + 0x20 * 24 then 0x4000 + (ix - 0x4000) % 0x20 else ix

/-- The descriptor of an object, if the object exists.
DESIGN CHOICE (log 33), unsafe. -/
def findObj (ix sub : Nat) : Option Obj :=
  objTable.find? fun o => o.index == rowIndex ix && decide (o.lo ≤ sub) && decide (sub ≤ o.hi)

/-- The key under which an object's value is held. -/
abbrev objKey (ix sub : Nat) : Nat := ix * 256 + sub

/-- The default of a scalar object. -/
def numDefault (key : Nat) : Nat :=
  match findObj (key / 256) (key % 256) with
  | some o => o.dflt
  | none => 0

/-- The default of a STR or BLOB object. -/
def blobDefault (key : Nat) : List Byte :=
  if key / 256 = oAxisSize then [4, 1, 1]
  else if key / 256 = oMgtIpv6Address then List.replicate 16 0
  else if key / 256 = oFwTable then List.replicate 1024 0
  else []

def numGet (s : State) (ix sub : Nat) : Nat := tget (numDefault (objKey ix sub)) s.mg.num (objKey ix sub)
def numSet (ix sub v : Nat) (s : State) : State :=
  { s with mg.num := tset (numDefault (objKey ix sub)) s.mg.num (objKey ix sub) v }
/-- The value in force on a facet: a device-wide write that another facet has applied is not in force there before the
facet's own tick (R10). For reads, and for what belongs to no facet, it is in force from its first application on.
DEDUCED (log 77), unsafe. -/
def numAt (s : State) (f ix sub : Nat) : Nat :=
  match s.mg.pend.find? (fun w => w.key == objKey ix sub && w.begun && bit w.facets f) with
  | some w => leNat w.old
  | none => numGet s ix sub
def blobGet (s : State) (ix sub : Nat) : List Byte := tget (blobDefault (objKey ix sub)) s.mg.blob (objKey ix sub)
def blobSet (ix sub : Nat) (v : List Byte) (s : State) : State :=
  { s with mg.blob := tset (blobDefault (objKey ix sub)) s.mg.blob (objKey ix sub) v }

/-- Bytes of a scalar object.
PRESUMED (log 40), unsafe. -/
def scalarSize (type : Nat) : Nat :=
  if type = 1 then 1 else if type = 2 ∨ type = 10 then 2 else if type = 3 ∨ type = 5 ∨ type = 6 then 4 else 8

/-- Adds to a statistics counter, which wraps at its width (PRESUMED, log 8: unsafe). -/
def bump (ix sub n : Nat) (s : State) : State :=
  match findObj ix sub with
  | some o => numSet ix sub ((numGet s ix sub + n) % 256 ^ o.maxLen) s
  | none => s

/-- Adds to the `i`-th U64 (width 8) or U32 (width 4) of a BLOB of counters.
PRESUMED (log 8), unsafe. -/
def bumpBlob (ix sub i w n : Nat) (s : State) : State :=
  let len := match findObj ix sub with | some o => o.maxLen | none => 0
  let b := blobGet s ix sub
  let full := b ++ List.replicate (len - b.length) 0
  let v := (leNat (slice full (i * w) w) + n) % 256 ^ w
  blobSet ix sub (full.take (i * w) ++ leBytes w v ++ full.drop (i * w + w)) s

/-- UTF-8 of a character below U+10000, and of a string (R402). -/
def charBytes (c : Char) : List Byte :=
  let n := c.toNat
  if n < 0x80 then [byte n]
  else if n < 0x800 then [byte (0xC0 + n / 64), byte (0x80 + n % 64)]
  else [byte (0xE0 + n / 4096), byte (0x80 + n / 64 % 64), byte (0x80 + n % 64)]
def utf8 (x : String) : List Byte := x.toList.flatMap charBytes

/-! ## Values in force that many rules read -/

/-- *NODE_ID* and *AXIS_SIZE* (R260, R262). -/
def nodeId (s : State) : Nat := numGet s oNodeId 0
def axis (s : State) (i : Nat) : Nat := ((blobGet s oAxisSize 0).getD i 1).toNat
/-- Coordinates of a node (R260): x, y, z for i = 0, 1, 2. -/
def coord (n i : Nat) : Nat := n / 32 ^ i % 32
/-- A node whose coordinates lie within *AXIS_SIZE*, and that is a node identity. -/
def nodeOk (s : State) (n : Nat) : Bool :=
  decide (n < 0x8000) && decide (coord n 0 < axis s 0) && decide (coord n 1 < axis s 1) && decide (coord n 2 < axis s 2)

end Sys2Proof.Machine
end

