-- ==== Sys2Proof/Machine/Ops.lean ====
section
/-! DEFINITION. Machine/Ops.lean: the named operations that every family shares: wall time, free values, records by
index, memory, owner tables, error-log reports, journal entries and checkpoints, MSI-X, transitions of facets and
contexts, faults charged to contexts. -/
namespace Sys2Proof.Machine
open Sys2Proof

/-- The outcome of a command. -/
abbrev Out := Host.Outcome State Fault Refusal

/-! ## Time and free values -/

/-- The wall counter's value (R21): whole nanoseconds. R22 lets the dies' copies differ by up to 1 ns; every die of the
model reads this one value.
DESIGN CHOICE (log 94), unsafe. -/
def wall (s : State) : Nat := s.time / 3

/-- An idle nanosecond (DESIGN CHOICE, log 1: unsafe). -/
def idleTick (s : State) : State := if s.hub.on then { s with time := s.time + 3 } else s

/-- Wall time is at least `t` ns: what happens at a deadline finds the wall counter there (DESIGN CHOICE, log 2: unsafe). -/
def advanceTo (t : Nat) (s : State) : State := if s.time < 3 * t then { s with time := 3 * t } else s

/-- Draws a free value (DESIGN CHOICE, log 6: safe). -/
def drawFree (s : State) : Nat × State := (Config.freeValue s.free, { s with free := s.free + 1 })

/-- Draws 32 random bytes of the hub's source (log 7). -/
def drawRandom (s : State) : List Byte × State := (Config.random32 s.rnd, { s with rnd := s.rnd + 1 })

/-! ## Records by index -/

def getFacet (s : State) (f : Nat) : FacetSt := tget {} s.facets f
def setFacet (s : State) (f : Nat) (x : FacetSt) : State := { s with facets := tset {} s.facets f x }
def updFacet (f : Nat) (g : FacetSt → FacetSt) (s : State) : State := setFacet s f (g (getFacet s f))
def getCd (s : State) (c : Nat) : CdSt := tget {} s.cds c
def setCd (s : State) (c : Nat) (x : CdSt) : State := { s with cds := tset {} s.cds c x }
def updCd (c : Nat) (g : CdSt → CdSt) (s : State) : State := setCd s c (g (getCd s c))
def getFd (s : State) (c : Nat) : FdSt := tget {} s.fds c
def updFd (c : Nat) (g : FdSt → FdSt) (s : State) : State := { s with fds := tset {} s.fds c (g (getFd s c)) }
def getPd (s : State) (c : Nat) : PdSt := tget {} s.pds c
def updPd (c : Nat) (g : PdSt → PdSt) (s : State) : State := { s with pds := tset {} s.pds c (g (getPd s c)) }
def getOe (s : State) (c : Nat) : OeSt := tget {} s.oes c
def updOe (c : Nat) (g : OeSt → OeSt) (s : State) : State := { s with oes := tset {} s.oes c (g (getOe s c)) }
def getLsm (s : State) (c : Nat) : LsmSt := tget {} s.lsms c
def updLsm (c : Nat) (g : LsmSt → LsmSt) (s : State) : State := { s with lsms := tset {} s.lsms c (g (getLsm s c)) }
def getHost (s : State) (c : Nat) : HostSt := tget {} s.hosts c
def updHost (c : Nat) (g : HostSt → HostSt) (s : State) : State := { s with hosts := tset {} s.hosts c (g (getHost s c)) }
def getLink (s : State) (c : Nat) : LinkSt := tget {} s.links c
def updLink (c : Nat) (g : LinkSt → LinkSt) (s : State) : State := { s with links := tset {} s.links c (g (getLink s c)) }
def getDir (s : State) (c : Nat) : LinkDir := tget {} s.dirs c
def updDir (c : Nat) (g : LinkDir → LinkDir) (s : State) : State := { s with dirs := tset {} s.dirs c (g (getDir s c)) }
def getCtx (s : State) (c : Nat) : Ctx := tget {} s.ctxs c
def updCtx (c : Nat) (g : Ctx → Ctx) (s : State) : State := { s with ctxs := tset {} s.ctxs c (g (getCtx s c)) }

/-- Appends to the record of outputs.
DESIGN CHOICE (log 3), safe. -/
def emit (o : Output) (s : State) : State := { s with out := s.out ++ [o] }

/-! ## Places (R13, R15, R42, R45, R261) -/

/-- Facet of a site (R13, R15), none for hubs and hosts. -/
def siteFacet (site : Nat) : Option Nat :=
  if site < 32 then some (site / 8) else if site < 64 then some ((site - 32) / 8)
  else if site < 72 then some ((site - 64) / 2) else if site < 96 then some ((site - 72) / 6) else none

/-- The strap byte the wiring expects at a site (R13, R15). -/
def siteStrap (site : Nat) : Nat :=
  if site < 32 then site else if site < 64 then 0x20 + (site - 32) else if site < 72 then 0x40 + (site - 64)
  else if site < 96 then 0x60 + (site - 72) else if site < 98 then 0x80 + (site - 96) else 0xA0 + (site - 98)

/-- The site whose die expects a strap byte, 255 for none. -/
def strapSite (b : Nat) : Nat :=
  let k := b / 32
  let i := b % 32
  if k = 0 then i else if k = 1 then 32 + i else if k = 2 ∧ i < 8 then 64 + i else if k = 3 ∧ i < 24 then 72 + i
  else if k = 4 ∧ i < 2 then 96 + i else if k = 5 ∧ i < 2 then 98 + i else 255

abbrev nearBase (c : Nat) : Nat := c * 0x600000000
abbrev nearSize : Nat := 0x600000000
abbrev farBase (k : Nat) : Nat := 0x010000000000 + k * 0xC00000000
abbrev farSize : Nat := 0xC00000000
abbrev spBase (c : Nat) : Nat := 0x0F0000000000 + c * 0x40000000
abbrev spSize : Nat := 0x4000000
abbrev dmemBase (c h : Nat) : Nat := 0x0FF000000000 + c * 0x400000 + h * 0x100000
abbrev ctrlBase (c : Nat) : Nat := 0x0FF100000000 + c * 0x10000
abbrev progBase : Nat := 0x0FF200000000
abbrev doorBase (h : Nat) : Nat := 0x0FF300000000 + h * 0x100000
abbrev mailBase (h : Nat) : Nat := 0x0FF400000000 + h * 0x1000
abbrev journalBase : Nat := 0x0FF500000000
abbrev xchBase (h : Nat) : Nat := 0x0FF800000000 + h * 0x100000000

/-- What a node offset names (R42, R45, R98, R99, R261, R354). -/
inductive Region where
  | near (die : Nat)
  | far (die : Nat)
  | scratch (die : Nat)
  | spHole (die : Nat)
  | dmem (die half off : Nat)
  | ctrl (die off : Nat)
  | hub
  | none
deriving DecidableEq, Repr

def region (o : Nat) : Region :=
  if o < 32 * nearSize then .near (o / nearSize)
  else if farBase 0 ≤ o ∧ o < farBase 32 then .far ((o - farBase 0) / farSize)
  else if spBase 0 ≤ o ∧ o < spBase 32 then
    if (o - spBase 0) % 0x40000000 < spSize then .scratch ((o - spBase 0) / 0x40000000)
    else .spHole ((o - spBase 0) / 0x40000000)
  else if dmemBase 0 0 ≤ o ∧ o < dmemBase 32 0 then
    let x := o - dmemBase 0 0
    if x % 0x400000 < 0x200000 then .dmem (x / 0x400000) (x % 0x400000 / 0x100000) (x % 0x100000) else .none
  else if ctrlBase 0 ≤ o ∧ o < ctrlBase 32 then .ctrl ((o - ctrlBase 0) / 0x10000) ((o - ctrlBase 0) % 0x10000)
  else if progBase ≤ o ∧ o < 0x100000000000 then .hub
  else .none

/-! ## Memory -/

/-- Byte at a node offset: what nothing has written reads zero, as R73, R114, R143, R177 and R361 zero it.
DESIGN CHOICE (log 10), unsafe. -/
def memGet (s : State) (a : Nat) : Byte := tget 0 s.mem a
def memSet (a : Nat) (b : Byte) (s : State) : State := { s with mem := tset 0 s.mem a b }

def readBytes (s : State) (a : Nat) : Nat → List Byte
  | 0 => []
  | n + 1 => memGet s a :: readBytes s (a + 1) n

/-- Bytes written into the table of memory. -/
def putBytes (m : List Host.Cell) (a : Nat) : List Byte → List Host.Cell
  | [] => m
  | b :: bs => putBytes (tset 0 m a b) (a + 1) bs

/-- A write clears the error marks of the 8-byte words it covers whole (R115, R131, R178). -/
def writeBytes (a : Nat) (bs : List Byte) (s : State) : State :=
  { s with mem := putBytes s.mem a bs, ecc := tclear s.ecc ((a + 7) / 8) ((a + bs.length) / 8) }

/-- Memory from `a` below `a + n` becomes zero, with valid check bits. -/
def zeroBytes (a n : Nat) (s : State) : State :=
  { s with mem := tclear s.mem a (a + n), ecc := tclear s.ecc (a / 8) ((a + n + 7) / 8) }

/-- Error marks of the words that `n` bytes at `a` touch: any double-bit, how many single-bit.
DESIGN CHOICE (log 82), unsafe. -/
def eccBad (s : State) (a n : Nat) : Bool :=
  s.ecc.any fun e => decide (a / 8 ≤ e.1) && decide (e.1 < (a + n + 7) / 8) && decide (2 ≤ e.2)
/-- DESIGN CHOICE (log 82), unsafe. -/
def eccSoft (s : State) (a n : Nat) : Nat :=
  (s.ecc.filter fun e => decide (a / 8 ≤ e.1) && decide (e.1 < (a + n + 7) / 8) && e.2 == 1).length

def read32 (s : State) (a : Nat) : Nat := leNat (readBytes s a 4)
def read64 (s : State) (a : Nat) : Nat := leNat (readBytes s a 8)

/-! ## Owner tables (R328) -/

def ownKey (kind die unit : Nat) : Nat := (kind * 32 + die) * 32768 + unit
def owner (s : State) (kind die unit : Nat) : Nat := tget 0 s.owner (ownKey kind die unit)
def setOwner (kind die unit v : Nat) (s : State) : State := { s with owner := tset 0 s.owner (ownKey kind die unit) v }
/-- Units of each kind on a die, and a unit's bytes (R328). -/
def unitCount (kind : Nat) : Nat := if kind = 0 then 16384 else if kind = 1 then 24576 else 768
def unitBytes (kind : Nat) : Nat := if kind = 0 then 0x1000 else if kind = 1 then 0x100000 else 0x4000000
def unitBase (kind die unit : Nat) : Nat :=
  (if kind = 0 then spBase die else if kind = 1 then nearBase die else farBase die) + unit * unitBytes kind

/-- The owner of the unit that holds a memory address; `none` outside near, far and scratchpad memory. -/
def addrOwner (s : State) (a : Nat) : Option Nat :=
  match region a with
  | .near c => some (owner s 1 c ((a - nearBase c) / 0x100000))
  | .far k => some (owner s 2 k ((a - farBase k) / 0x4000000))
  | .scratch c => some (owner s 0 c ((a - spBase c) / 0x1000))
  | _ => none

/-- Every unit that `[a, a + n)` touches is owned by the context (R328). Units are checked at the start of each unit
the range touches and at its last byte. -/
def ownsRange (s : State) (ctx a n : Nat) : Bool :=
  let step := match region a with | .near _ => 0x100000 | .far _ => 0x4000000 | _ => 0x1000
  let first := a / step
  let cnt := (a + n - 1) / step - first + 1
  (List.range cnt).all fun i => addrOwner s (max a ((first + i) * step)) == some ctx

/-- Keys of the units a context owns, of a kind on a die. -/
def unitsOf (s : State) (ctx kind die : Nat) : List Nat :=
  (s.owner.filter fun e => decide (ownKey kind die 0 ≤ e.1) && decide (e.1 < ownKey kind die 32768) && e.2 == ctx).map
    fun e => e.1 % 32768

/-! ## Outputs and interrupts (R364, R452) -/

/-- Raises a vector on one host die: at most once per 10 us, else pending; events in between go with the next message (R364).
DEDUCED (log 17), unsafe. -/
def raiseOn (hd v : Nat) (s : State) : State :=
  let h := getHost s hd
  if !h.admitted then s
  else match h.msixLast.find? (fun e => e.1 == v) with
    | some (_, t) =>
      if wall s < t + 10000 then updHost hd (fun h => { h with msixPend := setBit h.msixPend v }) s
      else emit (.msix hd v) (updHost hd (fun h =>
        { h with msixLast := tput h.msixLast v (wall s), msixPend := clearBit h.msixPend v }) s)
    | none => emit (.msix hd v) (updHost hd (fun h => { h with msixLast := tput h.msixLast v (wall s) }) s)

/-- An event of a vector (R364); vector 5 also pulls ALERT_N low for 10 us (R452).
DEDUCED (log 17), unsafe. -/
def msix (v : Nat) (s : State) : State :=
  let s := raiseOn 1 v (raiseOn 0 v s)
  if v = 5 then emit .alert { s with hub.alertUntil := wall s + 10000 } else s

/-! ## Error log (R347) -/

/-- A die places a report in its outbox of 16, or drops it. -/
def report (site event unit ctx gen detail : Nat) (s : State) : State :=
  let l := tget [] s.elog.outbox site
  if l.length < 16 then
    let r : Report := { wall := wall s, event := event, site := site, unit := unit, ctx := ctx, gen := gen,
                        detail := detail }
    { s with elog.outbox := tset [] s.elog.outbox site (l ++ [r]) }
  else { s with elog.drops := tset 0 s.elog.drops site (tget 0 s.elog.drops site + 1),
                elog.since := tset 0 s.elog.since site (min 65535 (tget 0 s.elog.since site + 1)) }

/-- The site of the primary hub, HB0 or HB1 (R15, R369). -/
def hubSite (s : State) : Nat := if s.hub.hb1Primary then 97 else 96

/-! ## The hubs' presence -/

/-- A hub that runs firmware answers: it is on, at least one hub works, and no trip of its own stopped it. -/
def hubUp (s : State) : Bool := s.hub.on && s.hub.firmware && !s.hub.bothFailed && !s.pw.hubTrip
/-- Every write is refused (R427, R440). -/
def allRefused (s : State) : Bool := s.pw.supply == 3 || s.pw.tripped

/-! ## Flash permission (R443) -/

/-- The primary hub's estimate lies within 0 to 95 degrees C. -/
def flashOk (s : State) : Bool :=
  let t := tget (0 : Int) s.pw.temp (hubSite s)
  decide (0 ≤ t) && decide (t ≤ 9500)

/-! ## The journal (R406 to R411) -/

/-- Bytes 0 to 43 of an entry (R408). -/
def JEntry.head (e : JEntry) : List Byte :=
  leBytes 8 e.seq ++ leBytes 8 e.wall ++ leBytes 4 e.frame ++
    [byte e.path, byte e.kind, byte e.result, byte e.facet] ++ leBytes 4 e.object ++ e.digest
/-- The 64 bytes of an entry. -/
def JEntry.bytes (e : JEntry) : List Byte := e.head ++ e.chain ++ [0, 0, 0, 0]

/-- Bytes 0 to 63 of a checkpoint, and its 128 bytes (R410). -/
def Checkpoint.head (c : Checkpoint) : List Byte :=
  leBytes 8 c.seq ++ leBytes 8 c.wall ++ c.chain ++ leBytes 2 c.node ++ leBytes 2 c.kind ++ leBytes 4 c.boot ++
    List.replicate 24 0
def Checkpoint.bytes (c : Checkpoint) : List Byte := c.head ++ c.sig

/-- The lowest-numbered facet not OFF (R408). -/
def lowestOn (s : State) : Option Nat := [0, 1, 2, 3].find? fun f => (getFacet s f).state != 0

/-- Signs a checkpoint over the newest entry (R410). -/
def signCkpt (kind : Nat) (s : State) : Checkpoint :=
  let c : Checkpoint := { seq := s.jrnl.next - 1, wall := wall s, chain := s.jrnl.chain, node := nodeId s, kind := kind,
                          boot := s.sec.boots % 2 ^ 32 }
  { c with sig := Config.ed25519Sign s.sec.idSeed c.head }

/-- A checkpoint goes to the flash ring of 4,096 (R410, R456). -/
def ckptToFlash (c : Checkpoint) (s : State) : State :=
  { s with flash.ckpts := tset {} s.flash.ckpts (s.flash.nCkpts % 4096) c, flash.nCkpts := s.flash.nCkpts + 1 }

/-- A checkpoint waits in the standby-retained SRAM, 64 at most (R410). -/
def ckptWait (c : Checkpoint) (s : State) : State :=
  if s.standby.waiting.length < 64 then { s with standby.waiting := s.standby.waiting ++ [c] }
  else { s with standby.waiting := s.standby.waiting.drop 1 ++ [c], standby.dropped := (s.standby.dropped + 1) % 2 ^ 32 }

/-- The M_MGMT packets of a management message: fragments of at most 208 bytes behind their 16-byte headers (R396). -/
def fragments (own node kind id : Nat) (m : List Byte) : List Mpk :=
  (List.range (ceilDiv m.length 208)).map fun i =>
    let b := slice m (208 * i) (min 208 (m.length - 208 * i))
    let n := ceilDiv (16 + b.length) 32
    { op := 0x2E, tc := 3, dstNode := node, srcNode := own, len := n,
      data := slice (leBytes 4 id ++ [byte kind, 0, 0, 0] ++ leBytes 4 m.length ++ leBytes 4 (208 * i) ++ b) 0 (32 * n) }
/-- A management message leaves, numbered per destination from 1 (R396), and its fragments go to the fabric.
DESIGN CHOICE (log 38), unsafe. -/
def sendMgmt (node kind : Nat) (m : List Byte) (s : State) : State :=
  let id := tget 1 s.mg.msgIds node
  emit (.mgmtMsg node kind id m)
    { s with mg.msgIds := tset 1 s.mg.msgIds node ((id + 1) % 2 ^ 32), mg.outbox := s.mg.outbox ++ fragments (nodeId s) node kind id m }
/-- A message to the twin, sealed under the pair key (R416): U32 4 and the message count as IV, both nodes as AAD. -/
def sealTwin (s : State) (m : List Byte) : List Byte :=
  let iv := leBytes 4 4 ++ leBytes 8 s.twin.txCount
  let aad := leBytes 2 (nodeId s) ++ leBytes 2 s.twin.node
  let c := Config.gcmEnc s.sec.pairKey iv aad m
  c ++ slice (Config.gcmTag s.sec.pairKey iv aad c) 0 16
def toTwin (kind : Nat) (m : List Byte) (s : State) : State :=
  sendMgmt s.twin.node kind (sealTwin s m) { s with twin.txCount := s.twin.txCount + 1 }

/-- The journal mirror unit (R417) that ends with a checkpoint: the checkpoint, the 256 entries it covers, and the
checkpoint before it. -/
def mirrorUnit (s : State) (c prev : Checkpoint) : List Byte :=
  slice c.bytes 0 128 ++ ((List.range 256).flatMap fun i =>
    slice (tget {} s.jrnl.ring ((c.seq + 1 - 256 + i) % 65536)).bytes 0 64) ++ slice prev.bytes 0 128

/-- After an entry whose SEQUENCE mod 256 is 255 a regular checkpoint is signed (R410); the one before it is the newest
waiting, or the newest in flash. -/
def checkpoint (s : State) : State :=
  let c := signCkpt 0 s
  let prev := (s.standby.waiting.getLast?).getD (tget {} s.flash.ckpts ((s.flash.nCkpts - 1) % 4096))
  let s : State := { s with jrnl.last := some c }
  let s := if flashOk s then ckptToFlash c s else ckptWait c s
  let s := if s.twin.state = 2 then toTwin 4 (mirrorUnit s c prev) s else s
  msix 3 s

/-- Makes a journal entry (R406, R408): it is chained, held in the ring and in the retained head, mirrored to a paired
twin, and closed by a checkpoint where due. None is made before the firmware resumed the journal, or after the flush
of a stop or a trip (R411).
DEDUCED (log 24), unsafe. -/
def journal (path kind result object : Nat) (arg : List Byte) (s : State) : State :=
  if s.jrnl.closed || !s.hub.resumed then s
  else
    let f := lowestOn s
    let e : JEntry :=
      { seq := s.jrnl.next, wall := wall s,
        frame := match f with | some f => (getFacet s f).frameNo | none => 0xFFFFFFFF,
        path := path, kind := kind, result := result % 256, facet := f.getD 0xFF, object := object,
        digest := slice (Config.sha512 arg) 0 16 }
    let e := { e with chain := slice (Config.sha512 (s.jrnl.chain ++ e.head)) 0 16 }
    let s : State :=
      { s with jrnl.ring := tset {} s.jrnl.ring (e.seq % 65536) e, jrnl.next := e.seq + 1, jrnl.chain := e.chain,
               standby.head := some (e.seq, e.chain) }
    let s := if s.twin.state = 2 then toTwin 4 e.bytes s else s
    if e.seq % 256 = 255 then checkpoint s else s

/-- The SEQUENCE of the newest entry. -/
def jseq (s : State) : Nat := s.jrnl.next - 1

/-- OBJECT words (R409). -/
def jObj (ix sub : Nat) : Nat := ix * 256 + sub
def jCtx (c gen : Nat) : Nat := 0x01000000 + c * 256 + gen
def jOther (code : Nat) : Nat := 0x02000000 + code

/-- The tail of a flush: every entry after the last regular checkpoint, at most 255 (R411).
DEDUCED (log 51), unsafe. -/
def flushTail (s : State) : List JEntry :=
  let n := s.jrnl.next
  (List.range (n % 256)).map fun i => tget {} s.jrnl.ring ((n - n % 256 + i) % 65536)

/-- A flush record goes to the flush sector that does not hold the newest valid one (R456).
DEDUCED (log 51), unsafe. -/
def flushToFlash (r : FlushRec) (s : State) : State :=
  if s.flash.flushNew = 1 then { s with flash.flushB := some r, flash.flushNew := 2 }
  else { s with flash.flushA := some r, flash.flushNew := 1 }

/-- The SEQ of the newest regular checkpoint in flash, and the cause (the argument of a FLUSH entry, R409).
DEDUCED (log 51), unsafe. -/
def flushArg (s : State) (cause : Nat) : List Byte :=
  leBytes 8 ((tget {} s.flash.ckpts ((s.flash.nCkpts - 1) % 4096)).seq) ++ [byte cause]

/-- A flush (R411): its FLUSH entry, a checkpoint of KIND 1 over it, and the record in flash, or held in the
standby-retained SRAM where R443 does not let it reach flash. None runs while no entry is made.
DEDUCED (log 51), unsafe. -/
def flush (cause : Nat) (s : State) : State :=
  if s.jrnl.closed || !s.hub.resumed then s
  else
    let s := journal 0 0x13 0 (jOther cause) (flushArg s cause) s
    let c := signCkpt 1 s
    let r : FlushRec := { ckpt := c, tail := flushTail s }
    let s := msix 3 { s with jrnl.last := some c }
    if flashOk s then flushToFlash r s else { s with standby.flush := some r }

/-! ## Facets and contexts -/

/-- DEV_READY (R452). -/
def devReady (s : State) : Bool :=
  s.hub.startup == 5 && [0, 1, 2, 3].any fun f => (getFacet s f).state == 2 || (getFacet s f).state == 3

/-- *FACET_JOIN_MASK* (R30). -/
def joinMask (s : State) (f : Nat) : Nat := if (getFacet s f).join = 0 then 2 ^ f else (getFacet s f).join

/-- A transition of FACET_STATE (R20): journaled, and an event of vector 5 (R364).
DEDUCED (log 60), unsafe. -/
def facetTo (f st : Nat) (s : State) : State :=
  let old := (getFacet s f).state
  if old = st then s
  else
    let s := journal 0 0x04 0 (jOther f) [byte old, byte st, byte (joinMask s f)] s
    let s := msix 5 (updFacet f (fun x => { x with state := st }) s)
    { s with hub.devReady := devReady s }

/-- A context's state transition, journaled (R325). -/
def ctxTo (c st : Nat) (s : State) : State :=
  let x := getCtx s c
  journal 0 0x05 0 (jCtx c x.gen) [byte x.state, byte st] (updCtx c (fun x => { x with state := st }) s)

/-- The context bound to a slot on a facet, 0 for none: states ACTIVE, FAULTED, and RESETTING until it is cleared. -/
def boundCtx (s : State) (f slot : Nat) : Nat :=
  match s.ctxs.find? (fun e => bit e.2.mask f && e.2.slot == slot &&
      (e.2.state == 3 || e.2.state == 4 || (e.2.state == 5 && (e.2.td.map (·.bound)).getD false))) with
  | some (c, _) => c
  | none => 0

/-- The context whose partition holds descriptor index `i` of a half (R43, R44), its slot. -/
def partSlot (s : State) (die half i : Nat) : Nat :=
  if i < leNat (readBytes s (dmemBase die half + 4) 2) then 0 else 1

/-- Acceptance by generation (R330). -/
def ctxAccepts (s : State) (c gen : Nat) : Bool :=
  c == 0 ||
    (let x := getCtx s c
     x.gen == gen && ((1 ≤ x.state && x.state ≤ 4) || (x.state == 5 && decide ((x.td.map (·.step)).getD 9 ≤ 4))))

/-- A packet that R330 does not accept is discarded and counted. -/
def discardGen (c : Nat) (s : State) : State :=
  let s := bumpBlob oFabDiscards 0 3 8 1 s
  if (getCtx s c).state = 0 then s else updCtx c (fun x => { x with late := x.late + 1 }) s

/-! ## Faults (R332 to R336) -/

/-- What a fault record says (R335). -/
structure FaultInfo where
  ctx : Nat := 0
  gen : Nat := 0
  reason : Nat := 0
  source : Nat := 0
  site : Nat := 0
  engine : Nat := 15
  slot : Nat := 0
  half : Nat := 0
  cycle : Nat := 0
  tag : Nat := 0
  status : Nat := 0
  desc : Nat := 0
  addr : Nat := 0
  srcNode : Nat := 0xFFFF
  collId : Nat := 0
  collSeq : Nat := 0
  wallAt : Option Nat := none
  frame : Option Nat := none
deriving DecidableEq, Repr

/-- The lowest facet of a mask. -/
def lowestFacet (mask : Nat) : Nat := ([0, 1, 2, 3].find? fun f => bit mask f).getD 0

/-- UNIT of a record, and of its report (R335).
DEDUCED (log 17), unsafe. -/
def faultUnit (i : FaultInfo) : Nat := i.engine * 16 + i.slot * 8 + i.half * 4

/-- The 64-byte record (R335). -/
def faultBytes (s : State) (i : FaultInfo) (seq : Nat) : List Byte :=
  let f := (siteFacet i.site).getD (lowestFacet (getCtx s i.ctx).mask)
  let node := if i.srcNode = 0xFFFF then nodeId s else i.srcNode
  leBytes 8 (i.wallAt.getD (wall s)) ++ leBytes 4 (i.frame.getD (getFacet s f).frameNo) ++
    leBytes 2 (if i.source = 0 then i.cycle else 0) ++ [byte i.ctx, byte i.gen, byte i.reason, byte i.source,
      byte i.site, byte (faultUnit i)] ++
    leBytes 2 (if i.source = 0 then i.tag else 0) ++ [byte i.status, 0] ++ leBytes 8 i.desc ++ leBytes 8 i.addr ++
    leBytes 2 node ++ leBytes 2 i.collId ++ leBytes 2 i.collSeq ++ [0, 0] ++ leBytes 8 seq ++ List.replicate 8 0

/-- The place of the `seq`-th fault in the ring of 16 (R336). -/
def faultPos (seq : Nat) : Nat := if seq ≤ 8 then seq - 1 else 8 + (seq - 9) % 8

/-- Charges a fault (R332, R333, R336). CTX 0 is never faulted; a fault of an old generation is discarded; one charged
to a FREE or RELEASING entry only enters the error log. -/
def chargeFault (i : FaultInfo) (s : State) : State :=
  let x := getCtx s i.ctx
  if i.ctx = 0 then s
  else if x.state = 0 ∨ x.state = 6 then report i.site 0x0701 (faultUnit i) i.ctx i.gen i.reason s
  else if x.gen ≠ i.gen then s
  else
    let seq := x.faults + 1
    let s := updCtx i.ctx (fun x => { x with faults := seq, ring := tset [] x.ring (faultPos seq) (faultBytes s i seq) }) s
    let s := msix 1 (report i.site 0x0701 (faultUnit i) i.ctx i.gen (i.reason + seq % 2 ^ 56 * 256) s)
    if x.state = 3 then ctxTo i.ctx 4 s else s

end Sys2Proof.Machine
end

