-- ==== Sys2Proof/Machine/Clock.lean ====
section
/-! DEFINITION. Machine/Clock.lean: a facet's working cycles and nominal periods (R26, R465), the throttle level in
force (R433, R434), semaphores and arrival counters with the order of one cycle's events (R56, R59, R287). -/
namespace Sys2Proof.Machine
open Sys2Proof

/-- Clock divisor and skipping N of a throttle level, 0 for no skipping (R433). -/
def levelDiv (l : Nat) : Nat := if l ≤ 6 then 1 else if l ≤ 9 then 2 else 4
def levelSkip (l : Nat) : Nat :=
  match l with
  | 1 => 64 | 2 => 32 | 3 => 16 | 4 => 8 | 5 => 4 | 6 => 2 | 8 => 4 | 9 => 2 | 11 => 2 | _ => 0

/-- Skips after `k` more working cycles from pattern position `p` under 1-in-N skipping (R465). -/
def skipsAfter (n p k : Nat) : Nat := if n ≤ 1 then 0 else (p + k) / (n - 1) - p / (n - 1)

/-- Nominal periods from the opening tick to the facet's present (R32). -/
def periods (x : FacetSt) : Nat := x.div1 + 2 * x.div2 + 4 * x.div4 + x.skipped + x.hold

/-- The facet's present, in thirds of a nanosecond: a nominal period lasts two.
DESIGN CHOICE (log 12), safe. -/
def facetTime (x : FacetSt) : Nat := x.openT + 2 * periods x

/-- REFRESH_CYCLES (R136). -/
def refreshCycles (fc : Nat) : Nat := 150 * ceilDiv fc 2500

/-- Facets whose frames tick (R20). -/
def ticking (x : FacetSt) : Bool := x.state == 2 || x.state == 3

/-- `k` more working cycles at the level in force, with the skips that follow them (R465). -/
def runCycles (k : Nat) (x : FacetSt) : FacetSt :=
  let d := levelDiv x.level
  let n := levelSkip x.level
  let sk := d * skipsAfter n x.pat k
  { x with cyc := x.cyc + k, pat := x.pat + k, skipped := x.skipped + sk,
           div1 := x.div1 + (if d = 1 then k else 0), div2 := x.div2 + (if d = 2 then k else 0),
           div4 := x.div4 + (if d = 4 then k else 0) }

/-- When the open frame ends at the level in force, with the skip after its last cycle (R26, R465). -/
def frameEnd (x : FacetSt) : Nat := facetTime (runCycles (x.frameCycles - x.cyc) x)

/-- Working cycles that fit into `u` clock units at a pattern position (R465). -/
def cyclesIn (n p u : Nat) : Nat := if n ≤ 1 then u else u - (u + p % (n - 1)) / n

/-- Marks what the frame record says of the level in force (R32). -/
def markLevel (x : FacetSt) : FacetSt :=
  let n := levelSkip x.level
  { x with minSkip := if n = 0 then x.minSkip else if x.minSkip = 0 then n else min x.minSkip n }

/-- The level in force changes between two working cycles; the pattern restarts (R465). -/
def setLevel (l : Nat) (x : FacetSt) : FacetSt := if l = x.level then x else markLevel { x with level := l, pat := 0 }

/-- The level that thermal, power and sag call for (R434). -/
def wantedLevel (s : State) (x : FacetSt) : Nat :=
  max (max x.thermLevel x.powerLevel) (if s.pw.supply = 1 ∨ x.sagFloor then 7 else 0)

/-! ## Semaphores and arrival counters (R45, R55 to R60) -/

def semKey (die i : Nat) : Nat := die * 512 + i
def arrKey (die i : Nat) : Nat := die * 256 + i
def semGet (s : State) (die i : Nat) : Nat := tget 0 s.sems (semKey die i)
def arrGet (s : State) (die i : Nat) : Nat := tget 0 s.arrs (arrKey die i)

/-- The slot an object belongs to (R60). -/
def objSlot (isArr : Bool) (i : Nat) : Nat := if isArr then (if i < 192 then 0 else 1) else (if i < 384 then 0 else 1)

/-- One event applied to its object. A semaphore stays at 0xFFFF_FFFF and a counter at 2^64 - 1 rather than pass it
(R59, R287). A take that the cycle's SETs left uncovered has no stated result: a free value (log 6).
PRESUMED (log 8), unsafe. -/
def applyEv (die : Nat) (e : SemEv) (s : State) : State :=
  let k := if e.isArr then arrKey die e.obj else semKey die e.obj
  let v := tget 0 (if e.isArr then s.arrs else s.sems) k
  let top := if e.isArr then 2 ^ 64 else 2 ^ 32
  let put (w : Nat) (s : State) : State :=
    if e.isArr then { s with arrs := tset 0 s.arrs k w } else { s with sems := tset 0 s.sems k w }
  if e.kind = 0 then put (e.value % top) s
  else if e.kind = 1 then
    if v + e.value < top then put (v + e.value) s
    else
      let c := boundCtx s (die / 8) (objSlot e.isArr e.obj)
      report die (if e.isArr then 0x0104 else 0x0103) 0 c (getCtx s c).gen e.obj (put (top - 1) s)
  else if e.value ≤ v then put (v - e.value) s
  else let (r, s) := drawFree s; put (r % top) s

/-- Rank of a SET among its cycle's SETs: ENGINE code, remote before local (R59). -/
def setRank (e : SemEv) : Nat := 2 * e.code + (if e.isRemote then 0 else 1)

/-- Inserts a SET behind every SET of no greater rank. -/
def insertSet (e : SemEv) : List SemEv → List SemEv
  | [] => [e]
  | x :: xs => if setRank e < setRank x then e :: x :: xs else x :: insertSet e xs

/-- The cycle's events in the order of R59: SETs by rank and arrival, then ADDs, then takes. -/
def orderEvents (l : List SemEv) : List SemEv :=
  (l.filter (·.kind == 0)).foldl (fun acc e => insertSet e acc) [] ++ l.filter (·.kind == 1) ++ l.filter (·.kind == 2)

/-- The working cycle ends: its events are applied, and seen from the next cycle. -/
def commitDie (die : Nat) (s : State) : State :=
  let evs := (getCd s die).semEv
  if evs.isEmpty then s
  else (orderEvents evs).foldl (fun s e => applyEv die e s) (updCd die (fun x => { x with semEv := [] }) s)

/-- The eight compute dies of a facet. -/
def facetDies (f : Nat) : List Nat := (List.range 8).map (fun k => 8 * f + k)

def commitFacet (f : Nat) (s : State) : State := (facetDies f).foldl (fun s d => commitDie d s) s

/-- An event reaches a semaphore or counter of a die in the present working cycle; a facet without working cycles
applies it at once. -/
def semEvent (die : Nat) (e : SemEv) (s : State) : State :=
  let s := updCd die (fun x => { x with semEv := x.semEv ++ [e] }) s
  if ticking (getFacet s (die / 8)) then s else commitDie die s

/-- Takes already granted in this cycle on one object (R56). -/
def taken (s : State) (die : Nat) (isArr : Bool) (i : Nat) : Nat :=
  ((getCd s die).semEv.filter (fun e => e.kind == 2 && e.isArr == isArr && e.obj == i)).foldl (fun n e => n + e.value) 0

/-! ## The facet's clock -/

/-- The facet's clock stands at working cycle `c` of its open frame (never past FRAME_CYCLES, never back); wall time is
at least the facet's present. Events of a cycle that ended are applied.
DESIGN CHOICE (log 12), safe. -/
def toCycle (f c : Nat) (s : State) : State :=
  let x := getFacet s f
  let k := min c x.frameCycles - x.cyc
  if !ticking x || k = 0 then s
  else
    let s := commitFacet f s
    let s := updFacet f (runCycles k) s
    let t := facetTime (getFacet s f)
    { s with time := max s.time t }

/-- The facet's clock reaches the present wall time, or the end of its frame, in which it then stands.
DESIGN CHOICE (log 12), safe. -/
def syncFacet (f : Nat) (s : State) : State :=
  let x := getFacet s f
  let u := (s.time - facetTime x) / 2 / levelDiv x.level
  toCycle f (x.cyc + cyclesIn (levelSkip x.level) x.pat u) s

/-- A facet takes a deeper level at once, in mid-frame (R434). -/
def raiseLevel (f : Nat) (s : State) : State :=
  let s := if ticking (getFacet s f) then syncFacet f s else s
  let x := getFacet s f
  if x.level < wantedLevel s x then updFacet f (setLevel (wantedLevel s x)) s else s

/-! ## The common tick (R26, R30) -/

/-- The wall counter's value that stamps a tick (R26, R27).
DEDUCED (log 15), unsafe. -/
def tickStamp (t : Nat) : Nat := (t + 2) / 3

/-- More than one facet. -/
def multi (mask : Nat) : Bool := decide (2 ≤ ([0, 1, 2, 3].filter (bit mask ·)).length)
def orMask (a b : Nat) : Nat := [0, 1, 2, 3].foldl (fun m i => if bit a i || bit b i then setBit m i else m) 0

/-- A multi-facet binding that was accepted before the facet's frame ends: the facet holds for it (R24, R30). -/
def holdsFor (s : State) (f : Nat) (c : Ctx) : Bool :=
  c.state == 2 && multi c.mask && bit c.mask f && decide (c.bindAt < tickStamp (frameEnd (getFacet s f)))

/-- One widening of a set of facets that tick together: by joins, and by bindings of several facets. -/
def widen (s : State) (g : Nat) : Nat :=
  let j := [0, 1, 2, 3].foldl (fun m f => if bit g f then orMask m (getFacet s f).join else m) g
  s.ctxs.foldl (fun m e => if [0, 1, 2, 3].any (fun f => bit m f && holdsFor s f e.2) then orMask m e.2.mask else m) j
/-- The other facets that a facet's tick waits for.
DEDUCED (log 13), safe. -/
def tickGroup (s : State) (f : Nat) : List Nat :=
  let m := widen s (widen s (widen s (2 ^ f)))
  [0, 1, 2, 3].filter fun g => g != f && bit m g && ticking (getFacet s g)

/-- When a facet has reached its tick on its own account: its frame's end, or a later stamp at which a hold ended. -/
def ownTick (x : FacetSt) : Nat := max (x.due.getD 0) (frameEnd x)
/-- The exact time of a facet's closing tick: the latest such time among the facets that tick with it.
DEDUCED (log 13), safe. -/
def tickTime (s : State) (f : Nat) : Nat :=
  (tickGroup s f).foldl (fun t g => max t (ownTick (getFacet s g))) (ownTick (getFacet s f))

/-- A facet that holds goes on at once: its tick falls now, or at the common tick `t` that is past (R30). -/
def stopHold (t f : Nat) (s : State) : State :=
  let u := min s.time t
  updFacet f (fun y =>
    { y with holding := false,
             due := if ticking y && y.atTick.isNone && decide (ownTick y < u) then some u else y.due }) s
/-- A facet, and those that wait with it for a common tick, hold no longer. -/
def stopHolds (f : Nat) (s : State) : State :=
  let t := tickTime s f
  (f :: tickGroup s f).foldl (fun s g => stopHold t g s) s

/-- A context is bound to the facet (in either slot). -/
def facetBound (s : State) (f : Nat) : Bool := boundCtx s f 0 != 0 || boundCtx s f 1 != 0

/-- READY or ACTIVE, as contexts are bound (R20). -/
def readyOrActive (f : Nat) (s : State) : State :=
  if ticking (getFacet s f) then facetTo f (if facetBound s f then 3 else 2) s else s

/-- A context has been removed: the facets of its mask without another one are READY (R20). -/
def unbound (mask : Nat) (s : State) : State :=
  [0, 1, 2, 3].foldl (fun s f => if bit mask f then readyOrActive f s else s) s

/-- The absolute working cycle of the facet's present: cycles of closed frames plus those of the open one. -/
def absCycle (s : State) (f : Nat) : Nat := (getFacet s f).cycBase + (getFacet s f).cyc

end Sys2Proof.Machine
end

