-- ==== Sys2Proof/Machine/Float.lean ====
section
/-! DEFINITION. Machine/Float.lean: values of the element formats of R50, exact arithmetic on them, rounding to
nearest-even and stochastic rounding (R86), conversion into a format with its saturation and non-finite handling (R85,
R119), and packed elements. A finite value is kept exactly, as sign, magnitude and exponent. -/
namespace Sys2Proof.Machine
open Sys2Proof

/-- A value: NaN, an infinity, or (-1)^neg x m x 2^e. Zero keeps its sign. -/
inductive Val where
  | nan
  | inf (neg : Bool)
  | num (neg : Bool) (m : Nat) (e : Int)
deriving DecidableEq, Repr

/-! ## Formats -/

/-- Stored significand bits and exponent bits of a float format (R50); code 12 stands for IEEE binary64 (R121). -/
def fmtMan (f : Nat) : Nat :=
  match f with
  | 0 => 23 | 1 => 7 | 2 => 10 | 3 => 3 | 4 => 2 | 6 => 2 | 7 => 3 | 8 => 1 | _ => 52
def fmtExp (f : Nat) : Nat :=
  match f with
  | 0 => 8 | 1 => 8 | 2 => 5 | 3 => 4 | 4 => 5 | 6 => 3 | 7 => 2 | 8 => 2 | _ => 11
def fmtBias (f : Nat) : Nat := 2 ^ (fmtExp f - 1) - 1
/-- Exponent of the least quantum, that of the subnormals. -/
def fmtQ0 (f : Nat) : Int := 1 - (fmtBias f : Int) - fmtMan f
/-- The top exponent code holds ∞ and NaN: not in FP8 E4M3, FP6 and FP4 (OCP). -/
def hasInf (f : Nat) : Bool := f == 0 || f == 1 || f == 2 || f == 4 || f == 12
/-- Greatest exponent code of a finite value, the significand of the greatest finite value, and its quantum. -/
def topCode (f : Nat) : Nat := 2 ^ fmtExp f - (if hasInf f then 2 else 1)
def topMan (f : Nat) : Nat := if f = 3 then 14 else 2 ^ (fmtMan f + 1) - 1
def topQ (f : Nat) : Int := (topCode f : Int) - fmtBias f - fmtMan f
/-- Integer formats and their widths. -/
def intWidth (f : Nat) : Nat := if f = 9 then 4 else if f = 5 then 8 else if f = 10 then 32 else 64
def isIntFmt (f : Nat) : Bool := f == 5 || f == 9 || f == 10 || f == 11

/-- The value of an integer. -/
def Val.ofInt (i : Int) (e : Int) : Val := .num (decide (i < 0)) i.natAbs e

/-- The plain value of an element's bits (R82). -/
def decFloat (f b : Nat) : Val :=
  let man := fmtMan f
  let sg := bit b (man + fmtExp f)
  let ex := bits b man (fmtExp f)
  let m := bits b 0 man
  if hasInf f && ex == 2 ^ fmtExp f - 1 then (if m = 0 then .inf sg else .nan)
  else if f = 3 ∧ ex = 15 ∧ m = 7 then .nan
  else if ex = 0 then .num sg m (fmtQ0 f)
  else .num sg (2 ^ man + m) ((ex : Int) - fmtBias f - man)
def decVal (f b : Nat) : Val := if isIntFmt f then .ofInt (sext (intWidth f) b) 0 else decFloat f b

/-! ## Exact arithmetic -/

def Val.neg : Val → Val
  | .nan => .nan
  | .inf n => .inf !n
  | .num n m e => .num (!n) m e

def Val.isFinite : Val → Bool
  | .num _ _ _ => true
  | _ => false

/-- Exact product; 0 x ∞ is NaN. -/
def Val.mul : Val → Val → Val
  | .nan, _ => .nan
  | _, .nan => .nan
  | .inf a, .inf b => .inf (a != b)
  | .inf a, .num b m _ => if m = 0 then .nan else .inf (a != b)
  | .num a m _, .inf b => if m = 0 then .nan else .inf (a != b)
  | .num a m e, .num b n g => .num (a != b) (m * n) (e + g)

/-- The signed integer of a finite value over the quantum 2^q, for q at most its exponent. -/
def scaled (n : Bool) (m : Nat) (e q : Int) : Int :=
  let x : Int := (m * 2 ^ (e - q).toNat : Nat)
  if n then -x else x

/-- Exact sum; ∞ - ∞ is NaN; a zero sum is -0 only of two negative operands. -/
def Val.add : Val → Val → Val
  | .nan, _ => .nan
  | _, .nan => .nan
  | .inf a, .inf b => if a = b then .inf a else .nan
  | .inf a, .num _ _ _ => .inf a
  | .num _ _ _, .inf b => .inf b
  | .num a m e, .num b n g =>
    let q := min e g
    let x := scaled a m e q + scaled b n g q
    if x = 0 then .num (a && b) 0 q else .ofInt x q
def Val.sub (x y : Val) : Val := x.add y.neg

/-- Scaling by a power of two. -/
def Val.scale (k : Int) : Val → Val
  | .num n m e => .num n m (e + k)
  | v => v

/-- Magnitude below, and order, of finite values or infinities; false where one is NaN. -/
def Val.lt (x y : Val) : Bool :=
  match x, y with
  | .nan, _ => false
  | _, .nan => false
  | .inf a, .inf b => a && !b
  | .inf a, .num _ _ _ => a
  | .num _ _ _, .inf b => !b
  | .num a m e, .num b n g => decide (scaled a m e (min e g) < scaled b n g (min e g))
def Val.abs : Val → Val
  | .num _ m e => .num false m e
  | .inf _ => .inf false
  | .nan => .nan
def Val.isZero : Val → Bool
  | .num _ m _ => m == 0
  | _ => false
def Val.isNeg : Val → Bool
  | .num n _ _ => n
  | .inf n => n
  | .nan => false
/-- floor(log2 |x|) of a finite value other than zero. -/
def Val.log2 : Val → Int
  | .num _ m e => (m.log2 : Int) + e
  | _ => 0

/-! ## Rounding -/

/-- The rounding of a write: nearest-even, or stochastic with the hash h of R86. -/
inductive Rnd where
  | rne
  | stoch (h : Nat)
deriving DecidableEq, Repr

/-- h of R86 for SEED, ROW, COL. -/
def stochHash (seed row col : Nat) : Nat :=
  let w := 2 ^ 32
  let h := Nat.xor (Nat.xor (seed * 0x9E3779B9 % w) (row * 0x85EBCA6B % w)) (col * 0xC2B2AE35 % w)
  let h := Nat.xor h (h / 2 ^ 16) * 0x7FEB352D % w
  let h := Nat.xor h (h / 2 ^ 15) * 0x846CA68B % w
  Nat.xor h (h / 2 ^ 16)

/-- Whether the magnitude rounds up: `t` the kept part, `fr` the `d` discarded bits (R86). -/
def Rnd.up (r : Rnd) (t fr d : Nat) : Bool :=
  match r with
  | .rne => decide (2 ^ d < 2 * fr) || (2 * fr == 2 ^ d && t % 2 == 1)
  | .stoch h =>
    if d ≤ 32 then decide (2 ^ d ≤ fr + h / 2 ^ (32 - d)) else decide (2 ^ 32 ≤ fr / 2 ^ (d - 32) + h)

/-- `m` x 2^e rounded to the quantum 2^q, as a multiple of it. -/
def roundAt (r : Rnd) (m : Nat) (e q : Int) : Nat :=
  if q ≤ e then m * 2 ^ (e - q).toNat
  else
    let d := (q - e).toNat
    m / 2 ^ d + bnat (r.up (m / 2 ^ d) (m % 2 ^ d) d)

/-- The quantum of a magnitude in a float format. -/
def quantum (f m : Nat) (e : Int) : Int := if m = 0 then fmtQ0 f else max ((m.log2 : Int) + e - fmtMan f) (fmtQ0 f)

/-- A finite magnitude exceeds the greatest finite value of a float format. -/
def beyond (f m : Nat) (e : Int) : Bool :=
  let q := min e (topQ f)
  decide (topMan f * 2 ^ (topQ f - q).toNat < m * 2 ^ (e - q).toNat)

/-- Rounds a value into a float format that has infinities. -/
def Val.round (f : Nat) (r : Rnd) : Val → Val
  | .num n m e =>
    let q := quantum f m e
    let m' := roundAt r m e q
    if beyond f m' q then .inf n else .num n m' q
  | v => v

/-- One rounding to FP32, nearest-even, subnormals kept (R83, R119). -/
def Val.r32 (v : Val) : Val := v.round 0 .rne
def add32 (x y : Val) : Val := (x.add y).r32

/-- A scaled product beyond the FP32 range becomes ±∞ (R83). -/
def Val.cap32 : Val → Val
  | .num n m e => if beyond 0 m e then .inf n else .num n m e
  | v => v

/-! ## Into a format (R85, R119) -/

/-- How an element counts (R85): neither, non-finite, saturated. -/
inductive Count where
  | none | nonfinite | saturated
deriving DecidableEq, Repr

/-- A NaN of a format that has infinities: a sign and a significand that the number `x` fixes. -/
def nanBits (f x : Nat) : Nat :=
  x % 2 * 2 ^ (fmtMan f + fmtExp f) + (2 ^ fmtExp f - 1) * 2 ^ fmtMan f + (1 + x / 2 % (2 ^ fmtMan f - 1))

def signBit (f : Nat) (n : Bool) : Nat := bnat n * 2 ^ (fmtMan f + fmtExp f)

/-- The bits of a finite magnitude of `m` quanta 2^q in a float format, where it fits. -/
def packFloat (f : Nat) (n : Bool) (m : Nat) (q : Int) : Nat :=
  let man := fmtMan f
  let (m, q) := if 2 ^ (man + 1) ≤ m then (m / 2, q + 1) else (m, q)
  signBit f n + (if m < 2 ^ man then m else (q - fmtQ0 f + 1).toNat * 2 ^ man + (m - 2 ^ man))

/-- Greatest finite value and infinity of a format, signed.
DEDUCED (log 41), unsafe. -/
def packTop (f : Nat) (n : Bool) : Nat := packFloat f n (topMan f) (topQ f)
def packInf (f : Nat) (n : Bool) : Nat := signBit f n + (2 ^ fmtExp f - 1) * 2 ^ fmtMan f

/-- What a NaN becomes (R85): 0x7F in FP8 E4M3; the format's canonical NaN in BF16, FP16 and FP8 E5M2; a NaN that the
free value fixes in FP32; a free value in FP6 and FP4, for which the manual states none. -/
def packNan (f fr : Nat) : Nat :=
  if f = 3 then 0x7F
  else if f = 0 then nanBits 0 fr
  else if hasInf f then nanBits f (Config.canonicalNaN f)
  else fr % 2 ^ (1 + fmtMan f + fmtExp f)

/-- Converts a value into a float format: its bits and how it counts. `fr` is the element's free value. Overflow
becomes ±∞ where the format has it, the greatest finite value in FP8 E4M3 (R85) and in FP6 and FP4 (DEDUCED, log 41: unsafe). -/
def encFloat (f : Nat) (r : Rnd) (fr : Nat) : Val → Nat × Count
  | .nan => (packNan f fr, .nonfinite)
  | .inf n =>
    (if hasInf f then packInf f n else if f = 3 then packTop f n else fr % 2 ^ (1 + fmtMan f + fmtExp f), .nonfinite)
  | .num n m e =>
    let q := quantum f m e
    let m' := roundAt r m e q
    (if beyond f m' q then (if hasInf f then packInf f n else packTop f n) else packFloat f n m' q,
     if beyond f m e then .saturated else .none)

/-- Clamps an integer to a signed width. -/
def clampInt (w : Nat) (i : Int) : Int := max (-(2 ^ (w - 1) : Nat)) (min i ((2 ^ (w - 1) : Nat) - 1))

/-- Converts a float value into an integer format: rounded, saturated, 0 for NaN (R119). -/
def encInt (f : Nat) (r : Rnd) : Val → Nat × Count
  | .nan => (0, .nonfinite)
  | .inf n => (wrap (intWidth f) (if n then -(2 ^ (intWidth f - 1) : Nat) else (2 ^ (intWidth f - 1) : Nat) - 1), .nonfinite)
  | .num n m e =>
    let x : Int := roundAt r m e 0
    let i := if n then -x else x
    let c := clampInt (intWidth f) i
    (wrap (intWidth f) c, if c = i then .none else .saturated)

/-- Converts a float result into any format. -/
def encVal (f : Nat) (r : Rnd) (fr : Nat) (v : Val) : Nat × Count :=
  if isIntFmt f then encInt f r v else encFloat f r fr v

/-- Writes an integer result (R119): INT32 wraps, INT8 saturates; into INT4, out of its range, no result is stated. R119 counts
as saturated what an INT8 D or a conversion from float saturates; a result out of INT4's range counts as saturated too.
DESIGN CHOICE (log 102), unsafe. -/
def encIntResult (f fr : Nat) (i : Int) : Nat × Count :=
  if f = 10 then (wrap 32 i, .none)
  else
    let c := clampInt (intWidth f) i
    if c = i then (wrap (intWidth f) i, .none)
    else if f = 5 then (wrap 8 c, .saturated) else (fr % 2 ^ intWidth f, .saturated)

/-! ## Elements in memory (R6, R81) -/

/-- Bits of an element of an R50 format. -/
def fmtBits (f : Nat) : Nat :=
  match f with
  | 0 => 32 | 1 => 16 | 2 => 16 | 6 => 6 | 7 => 6 | 8 => 4 | 9 => 4 | 10 => 32 | 11 => 64 | _ => 8

/-- `n` fields of `w` bits of a number, the lowest first (DEDUCED, log 42: unsafe). -/
def fields (w : Nat) : Nat → Nat → List Nat
  | 0, _ => []
  | n + 1, x => x % 2 ^ w :: fields w n (x / 2 ^ w)

/-- Fields of `w` bits as a number.
DEDUCED (log 42), unsafe. -/
def unfields (w : Nat) : List Nat → Nat
  | [] => 0
  | x :: xs => x % 2 ^ w + 2 ^ w * unfields w xs

/-- Elements of a format from bytes, and back.
DEDUCED (log 42), unsafe. -/
def elems (f n : Nat) (bs : List Byte) : List Nat := fields (fmtBits f) n (leNat bs)
/-- DEDUCED (log 42), unsafe. -/
def elemBytes (f : Nat) (xs : List Nat) : List Byte := leBytes (xs.length * fmtBits f / 8) (unfields (fmtBits f) xs)

/-- Values of the `n` elements of a unit under its scaling (R81, R82): elements first, then block scales, then
sub-scales. A block scale of 0xFF makes its elements NaN; INT8 carries 2^-6 where scaled, prism INT4 2^-2. -/
def unitVals (f n scale : Nat) (bs : List Byte) : List Val :=
  let xs := elems f n bs
  if scale = 0 then xs.map (decVal f)
  else
    let off := n * fmtBits f / 8
    let imp : Int := if f = 5 then -6 else if f = 9 then -2 else 0
    (List.range n).zip xs |>.map fun (i, x) =>
      let sc := (bs.getD (off + i / 32) 0).toNat
      let sub := if scale = 2 then bits ((bs.getD (off + n / 32 + i / 16) 0).toNat) (i / 8 % 2 * 4) 4 else 0
      if sc = 0xFF then .nan else (decVal f x).scale ((sc : Int) - 127 - sub + imp)

/-! ## Sums in a fixed pairwise tree (R119, R150) -/

/-- Inserts by key, behind equal keys. -/
def insertKey (k : Nat) (v : Val) : List (Nat × Val) → List (Nat × Val)
  | [] => [(k, v)]
  | (j, w) :: t => if k < j then (k, v) :: (j, w) :: t else (j, w) :: insertKey k v t

/-- Adjacent pairs combined. -/
def pairUp (op : Val → Val → Val) : List Val → List Val
  | x :: y :: t => op x y :: pairUp op t
  | t => t
/-- Combines level by level, `k` levels. -/
def treeFold (op : Val → Val → Val) : Nat → List Val → Val
  | 0, l => l.headD (.num false 0 0)
  | k + 1, l => treeFold op k (pairUp op l)

/-- The sum of a list in the fixed tree of its length, rounding to nearest-even in FP32 at each addition. -/
def treeSum (l : List Val) : Val :=
  let n := l.length
  let o := ((List.range n).zip l).foldl (fun acc p => insertKey (Config.treeKey n p.1) p.2 acc) []
  treeFold add32 (Nat.log2 n + 1) (o.map (·.2))

/-! ## Atomics (R106, R172) -/

/-- IEEE 754-2019 maximum and minimum: NaN where an operand is, -0 below +0. -/
def Val.maximum (x y : Val) : Val :=
  match x, y with
  | .nan, _ => .nan
  | _, .nan => .nan
  | x, y => if x.isZero && y.isZero then (if x.isNeg then y else x) else if x.lt y then y else x
def Val.minimum (x y : Val) : Val :=
  match x, y with
  | .nan, _ => .nan
  | _, .nan => .nan
  | x, y => if x.isZero && y.isZero then (if x.isNeg then x else y) else if y.lt x then y else x

/-- Element types that atomics know: FP32, BF16, FP16, INT32, INT64. -/
def atomType (f : Nat) : Bool := f == 0 || f == 1 || f == 2 || f == 10 || f == 11

/-- An atomic's new element: add 0, min 1, max 2, swap 3, of the element's old bits and the operand's (R106, R172). A
NaN result has the bits that `fr` fixes. -/
def atomElem (op f fr old x : Nat) : Nat :=
  if op = 3 then x
  else if isIntFmt f then
    let w := intWidth f
    let a := sext w old
    let b := sext w x
    wrap w (if op = 0 then a + b else if op = 1 then min a b else max a b)
  else
    let a := decVal f old
    let b := decVal f x
    let v := if op = 0 then (a.add b).round f .rne else if op = 1 then a.minimum b else a.maximum b
    match v with
    | .nan => nanBits f fr
    | v => (encFloat f .rne fr v).1

end Sys2Proof.Machine
end

