-- ==== Sys2Proof/Machine/Operands.lean ====
section
/-! DEFINITION. Machine/Operands.lean: descriptors from their 128 bytes (R47 to R53), their address generators (R51),
access units of every opcode (R76, R81, R116, R117, R125, R147, R156, R265), and the decode checks of R54 and R466 with
each engine's meaning for them (R79, R124, R137, R149, R266). -/
namespace Sys2Proof.Machine
open Sys2Proof

/-! ## Decoding -/

/-- Reads an operand from its base and stride block (R53); strides in bytes. -/
def Opnd.ofBytes (base blk : Nat) : Opnd :=
  let u := bits blk 124 4
  { en := bit blk 123, base := base, unit := u,
    strides := (List.range 6).map fun k => sext 20 (bits blk (20 * k) 20) * (2 ^ u : Nat) }

/-- Reads a wait word (R55). -/
def Wait.ofWord (w : Nat) : Wait := { kind := bits w 29 3, obj := bits w 20 9, thr := bits w 0 16 * 2 ^ bits w 16 4 }
/-- Reads a signal word (R57). -/
def Sig.ofWord (w : Nat) : Sig := { kind := bits w 30 2, die := bits w 25 5, obj := bits w 16 9, value := bits w 0 16 }

/-- Reads a descriptor (R47 to R49, R53). `reserved`: a reserved field, or a field that R52 or R53 require to be zero,
is not. -/
def Desc.ofBytes (b : List Byte) (half index : Nat) : Desc :=
  let c := leNat (slice b 0 8)
  let m := leNat (slice b 8 8)
  let lv := bits c 9 3
  let counts := (List.range 6).map fun k => leNat (slice b (40 + 2 * k) 2)
  let blk (o : Nat) := leNat (slice b (o + 8) 16)
  let base (o : Nat) := leNat (slice b o 8)
  let opBad (o : Nat) : Bool :=
    bits (blk o) 120 3 != 0 || bits (blk o) (20 * lv) (120 - 20 * lv) != 0 ||
      (!bit (blk o) 123 && (blk o != 0 || base o != 0))
  { budget := bits c 48 16, notBefore := bits c 32 16, next := sext 16 (bits c 16 16), engine := bits c 12 4,
    levels := lv, opcode := bits c 0 8, imm := bits m 32 32, fmtD := bits m 28 4, fmtB := bits m 24 4,
    fmtA := bits m 20 4, round := bits m 18 2, order := bit m 17, collHalt := bit m 16, slotA := bit m 15,
    slotB := bit m 14, slotD := bit m 13, consA := bit m 12, consB := bit m 11, scaleA := bits m 9 2,
    scaleB := bits m 7 2, waits := (List.range 4).map fun k => Wait.ofWord (leNat (slice b (16 + 4 * k) 4)),
    sigs := (List.range 2).map fun k => Sig.ofWord (leNat (slice b (32 + 4 * k) 4)), counts := counts,
    tag := leNat (slice b 52 2), a := Opnd.ofBytes (base 56) (blk 56), b := Opnd.ofBytes (base 80) (blk 80),
    d := Opnd.ofBytes (base 104) (blk 104),
    reserved := bit c 8 || bits m 0 7 != 0 || leNat (slice b 54 2) != 0 || (counts.drop lv).any (· != 0) ||
      opBad 56 || opBad 80 || opBad 104,
    half := half, index := index }

/-- The node offset of the descriptor (R42). -/
def Desc.addr (d : Desc) (die : Nat) : Nat := dmemBase die d.half + d.index * 128

/-! ## Address generators (R51) -/

/-- Iterations of the loop nest. -/
def Desc.iters (d : Desc) : Nat := (d.counts.take d.levels).foldl (· * ·) 1

/-- Loop indices of the `n`-th iteration, innermost first. -/
def indicesOf : Nat → List Nat → List Nat
  | _, [] => []
  | n, c :: cs => n % c :: indicesOf (n / c) cs

/-- Loop indices of a descriptor's `n`-th iteration. -/
def Desc.indices (d : Desc) (n : Nat) : List Nat := indicesOf n (d.counts.take d.levels)

/-- Sum of index times stride. -/
def dot : List Nat → List Int → Int
  | i :: is, t :: ts => (i : Int) * t + dot is ts
  | _, _ => 0

/-- The operand's address at the `n`-th iteration, node bits included, modulo 2^64. -/
def Desc.addrAt (d : Desc) (o : Opnd) (n : Nat) : Nat := wrap 64 ((o.base : Int) + dot (d.indices n) o.strides)

/-- The node offset of an address. -/
abbrev offset (a : Nat) : Nat := a % 2 ^ 48

/-- Lowest and highest start address of an operand, over the integers. -/
def extents : List Nat → List Int → Int × Int
  | c :: cs, t :: ts =>
    let (lo, hi) := extents cs ts
    let e := ((c - 1 : Nat) : Int) * t
    (lo + min 0 e, hi + max 0 e)
  | _, _ => (0, 0)
def Desc.low (d : Desc) (o : Opnd) : Int := (o.base : Int) + (extents (d.counts.take d.levels) o.strides).1
def Desc.high (d : Desc) (o : Opnd) : Int := (o.base : Int) + (extents (d.counts.take d.levels) o.strides).2

/-! ## Formats and access units -/

/-- Bytes of a unit of `n` elements: elements, block scales, sub-scales, padded to 32 (R81). -/
def unitSize (f n scale : Nat) : Nat :=
  let el := n * fmtBits f / 8
  if scale = 0 then el
  else ceilDiv (el + n / 32 + (if scale = 2 then n / 16 else 0)) 32 * 32

/-- Rate class of a format (R75): 2 for 2-MAC, 1 for 1-MAC, 0 for half. -/
def rateClass (f : Nat) : Nat := if 6 ≤ f ∧ f ≤ 9 then 2 else if 3 ≤ f ∧ f ≤ 5 then 1 else 0
def slower (a b : Nat) : Nat := min (rateClass a) (rateClass b)
/-- Tile depth and row time (R75). -/
def tileDepth (a b : Nat) : Nat := if slower a b = 2 then 512 else 256
def rowTime (a b : Nat) : Nat := if slower a b = 0 then 2 else 1

/-- DEPTH512, SCALE, RED_LEVEL, ACC_IN, OP and SEED of IMM (R78, R118). -/
def Desc.depth (d : Desc) : Nat := if bit d.imm 6 then 512 else 256
def Desc.qScale (d : Desc) : Nat := bits d.imm 4 2
def Desc.redLevel (d : Desc) : Nat := bits d.imm 0 3
def Desc.accIn (d : Desc) : Bool := bit d.imm 3
def Desc.seed (d : Desc) : Nat := bits d.imm 16 16
/-- NBC fields (R148). -/
def Desc.layerMask (d : Desc) : Nat := bits d.imm 24 8
def Desc.rows (d : Desc) : Nat := bits d.imm 16 8 + 1
def Desc.words (d : Desc) : Nat :=
  if d.opcode = 0xCC ∨ d.opcode = 0xCD then bits d.imm 10 6 + 1 else bits d.imm 8 8 + 1
def Desc.batch (d : Desc) : Nat :=
  if d.opcode = 0xC8 then bits d.imm 5 3 + 1 else if d.opcode = 0xCC then bits d.imm 7 3 + 1 else 1
def Desc.topkK (d : Desc) : Nat := bits d.imm 1 6 + 1
def Desc.keep (d : Desc) : Bool := bit d.imm 0
def popcount8 (n : Nat) : Nat := ((List.range 8).filter (bit n ·)).length
/-- Elements in one row of W words (R150). -/
def Desc.rowElems (d : Desc) : Nat :=
  if d.scaleA = 2 then 256 * d.words / (unitSize d.fmtA 256 2 / 32) else 32 * d.words * 8 / fmtBits d.fmtA

/-- Access unit of operand A, B, D in bytes. -/
def Desc.unitA (d : Desc) : Nat :=
  let o := d.opcode
  if o = 0x01 then unitSize d.fmtA (tileDepth d.fmtA d.fmtB) d.scaleA
  else if o = 0x02 then 1024
  else if o = 0x03 ∨ o = 0x04 then 64 * fmtBits d.fmtA
  else if o = 0x05 then 1792
  else if o = 0x52 then unitSize d.fmtA d.depth d.qScale
  else if o = 0x51 then d.depth * fmtBits d.fmtA / 8
  else if o = 0x60 then bits d.imm 8 24 * fmtBits d.fmtA / 8
  else if o < 0x80 then 32 * fmtBits d.fmtA
  else if o = 0x80 then 32 * 2 ^ bits d.imm 0 3
  else if o = 0x82 ∨ o = 0x94 then 32
  else if 0x90 ≤ o ∧ o ≤ 0x93 then 32 * 2 ^ bits d.imm 4 3
  else if o = 0xA0 then 128
  else if o = 0xC0 ∨ o = 0xC1 then 32 * 2 ^ bits d.imm 0 3
  else if o = 0xCA then d.rows * (ceilDiv (d.words * (256 / fmtBits d.fmtD) * fmtBits d.fmtA) 256 * 32)
  else d.rows * d.words * 32
def Desc.unitB (d : Desc) : Nat :=
  let o := d.opcode
  if o = 0x01 then 256 * unitSize d.fmtB (tileDepth d.fmtA d.fmtB) d.scaleB
  else if o = 0x02 then 262144
  else if o = 0x03 ∨ o = 0x04 then 256 * (64 * fmtBits d.fmtB)
  else if o = 0x05 then 458752
  else if o = 0x53 then 4
  else if o < 0x80 then 32 * fmtBits d.fmtB
  else if o = 0x82 ∨ o = 0x94 then 32
  else if o = 0xCA ∨ o = 0xCB then ceilDiv (4 * d.rows) 32 * 32
  else d.batch * d.rowElems * fmtBits d.fmtB / 8
def Desc.unitD (d : Desc) : Nat :=
  let o := d.opcode
  if o = 0x03 ∨ o = 0x04 ∨ o = 0x05 then 2048
  else if o = 0x51 then unitSize d.fmtD d.depth d.qScale
  else if o = 0x52 then d.depth * fmtBits d.fmtD / 8
  else if o = 0x53 then 1792
  else if o = 0x59 then fmtBits d.fmtD / 8
  else if o = 0x61 then bits d.imm 8 24 * fmtBits d.fmtD / 8
  else if o < 0x80 then 32 * fmtBits d.fmtD
  else if o = 0x80 then 32 * 2 ^ bits d.imm 0 3
  else if o = 0x81 ∨ o = 0x82 ∨ o = 0x94 then 32
  else if 0x90 ≤ o ∧ o ≤ 0x93 then 32 * 2 ^ bits d.imm 4 3
  else if o = 0xC0 ∨ o = 0xC1 then 32 * 2 ^ bits d.imm 0 3
  else if o = 0xC8 ∨ o = 0xC9 then 256 * d.rows * d.batch * popcount8 d.layerMask
  else if o = 0xCA ∨ o = 0xCB then d.rows * d.words * 32
  else d.batch * d.topkK * 8

/-- The operands an opcode uses: A, B, D (R39, R79, R117, R125, R147, R264, R300). -/
def Desc.uses (d : Desc) : Bool × Bool × Bool :=
  let o := d.opcode
  if o ≤ 0x3F then (true, true, true)
  else if o ≤ 0x46 ∨ o = 0x53 ∨ o = 0x60 ∨ o = 0x61 then (true, true, true)
  else if o ≤ 0x7F then (true, false, true)
  else if o = 0x80 then (true, false, true)
  else if o = 0x81 then (false, false, true)
  else if o = 0x82 then (true, bits d.imm 0 2 == 1, true)
  else if 0x90 ≤ o ∧ o ≤ 0x93 then (true, false, true)
  else if o = 0x94 then (true, bit d.imm 3, true)
  else if o = 0xA0 then (true, false, false)
  else if o = 0xC0 ∨ o = 0xC1 ∨ o = 0xC9 ∨ o = 0xCD then (true, false, true)
  else if o = 0xC8 ∨ o = 0xCA ∨ o = 0xCC then (true, true, true)
  else if o = 0xCB then (false, true, true)
  else (false, false, false)

/-! ## The checks (R54) -/

/-- Opcodes defined for an engine (R38, R39, R77, R117, R125, R147, R264, R300). -/
def opcodeOf (engine o : Nat) : Bool :=
  o == 0xF0 || o == 0xF1 ||
  (if engine ≤ 1 then [0x01, 0x02, 0x03, 0x04, 0x05, 0x10].contains o
   else if engine = 2 then (0x40 ≤ o && o ≤ 0x46) || (0x48 ≤ o && o ≤ 0x4D) || (0x50 ≤ o && o ≤ 0x53) || o == 0x58 ||
     o == 0x59 || o == 0x60 || o == 0x61
   else if engine ≤ 6 then (0x80 ≤ o && o ≤ 0x82) || (0x90 ≤ o && o ≤ 0x95) || o == 0xA0 || o == 0xA1
   else if engine = 7 then o == 0xC0 || o == 0xC1 || (0xC8 ≤ o && o ≤ 0xCD)
   else false)

/-- IMM holds no reserved bit or value (R466 with R78, R118, R125, R148, R265, R300). -/
def immOk (d : Desc) : Bool :=
  let o := d.opcode
  let m := d.imm
  if o = 0xF0 ∨ o = 0xF1 then m == 0
  else if o ≤ 0x3F then bits m 4 12 == 0
  else if o ≤ 0x50 then bits m 0 16 == 0
  else if o = 0x51 ∨ o = 0x52 then bits m 7 9 == 0 && bits m 0 4 == 0 && (d.qScale == 1 || d.qScale == 2)
  else if o = 0x53 then m == 0
  else if o = 0x58 then bits m 6 10 == 0 && bits m 4 2 != 3
  else if o = 0x59 then bits m 6 10 == 0 && bits m 0 4 == 0 && bits m 4 2 != 3
  else if o = 0x60 ∨ o = 0x61 then bits m 0 8 == 0 && bits m 8 24 != 0
  else if o = 0x80 then bits m 3 29 == 0
  else if o = 0x81 then true
  else if o = 0x82 then bits m 2 30 == 0 && bits m 0 2 ≤ 1
  else if o = 0x90 ∨ o = 0x91 then bits m 7 16 == 0 && bits m 0 4 == 0
  else if o = 0x92 ∨ o = 0x93 then bits m 22 1 == 0 && bits m 7 13 == 0 && bits m 0 4 == 0
  else if o = 0x94 then bits m 4 19 == 0 && bits m 0 3 ≤ 4
  else if o = 0x95 then bits m 0 24 == 0
  else if o = 0xA0 ∨ o = 0xA1 then bits m 15 17 == 0
  else if o = 0xC0 ∨ o = 0xC1 then bits m 3 29 == 0
  else if o = 0xC8 then bits m 0 5 == 0
  else if o = 0xC9 then bits m 0 6 == 0 && bits m 6 2 != 3
  else if o = 0xCA ∨ o = 0xCB then bits m 0 8 == 0
  else if o = 0xCD then bits m 7 3 == 0
  else true

def isFloat (f : Nat) : Bool := decide (f ≤ 4)
def isInt (f : Nat) : Bool := f == 5 || f == 10
/-- Formats that take a block scale (R80). -/
def isNarrow (f : Nat) : Bool := f == 3 || f == 4 || f == 5 || f == 6 || f == 7 || f == 8
def scaleFits (f sc : Nat) : Bool := sc == 0 || (sc == 1 && isNarrow f) || (sc == 2 && (isNarrow f || f == 9))

/-- Formats accepted by the opcode, and the formats and scalings that R466 requires to be zero. VQUANT and VDEQUANT take INT4
under MX scaling too: R80 gives INT4 a scale only in the prism format, R117 and R118 do not shut it out; its elements then have
the factor that R82 gives them there.
DEDUCED (log 73), unsafe; DESIGN CHOICE (log 124), unsafe. -/
def fmtOk (d : Desc) : Bool :=
  let o := d.opcode
  let (ua, ub, ud) := d.uses
  let a := d.fmtA
  let b := d.fmtB
  let f := d.fmtD
  let same := (isFloat a && isFloat f) || (isInt a && isInt f)
  let unscaled := d.scaleA == 0 && d.scaleB == 0
  (ua || a == 0) && (ub || b == 0) && (ud || f == 0) &&
  (if o = 0x01 then
     scaleFits a d.scaleA && scaleFits b d.scaleB && a ≤ 9 && b ≤ 9 && a != 0 && b != 0 &&
     (if (a == 5 || a == 9) && (b == 5 || b == 9) && unscaled then f == 10
      else !((a == 5 || a == 9) && d.scaleA == 0) && !((b == 5 || b == 9) && d.scaleB == 0) &&
        (f == 0 || (f ≤ 4 && d.redLevel == 7 && !d.accIn)))
   else if o = 0x02 then a == 0 && b == 0 && f == 0 && unscaled
   else if o = 0x03 then (a == 1 || a == 2) && (b == 1 || b == 2) && f == 0 && unscaled
   else if o = 0x04 then 1 ≤ a && a ≤ 4 && 1 ≤ b && b ≤ 4 && f == 0 && unscaled
   else if o = 0x05 then a == 5 && b == 5 && f == 11 && unscaled
   else if o = 0x10 then a == b && 1 ≤ a && a ≤ 4 && unscaled && f ≤ 2 && (!d.accIn || f == 0)
   else if o = 0xC8 ∨ o = 0xCC then
     d.scaleB == 0 &&
     (if a = 5 ∧ d.scaleA = 0 then o == 0xC8 && b == 5 && f == 10
      else ((d.scaleA == 0 && (a == 3 || a == 4)) || (d.scaleA == 2 && isNarrow a)) && (b == 3 || b == 4 || b == 1) &&
        f == 0)
   else unscaled &&
     (if o = 0x46 then b == 5 && same
      else if o = 0x43 then isFloat a && isFloat b && isFloat f
      else if o ≤ 0x45 ∧ 0x40 ≤ o then (isFloat a && isFloat b && isFloat f) || (isInt a && isInt b && isInt f)
      else if o ≤ 0x4D ∧ 0x48 ≤ o then isFloat a && isFloat f
      else if o = 0x50 then a ≤ 10 && f ≤ 10
      else if o = 0x51 then isFloat a && (isNarrow f || f == 9)
      else if o = 0x52 then (isNarrow a || a == 9) && f ≤ 1
      else if o = 0x53 then a == 11 && b == 10 && f == 5
      else if o = 0x58 ∨ o = 0x59 then same
      else if o = 0x60 ∨ o = 0x61 then same && a == f && b == 10
      else if o = 0x82 ∨ o = 0x94 then f ≤ 11 && (a == 0 || a == f) && (b == 0 || b == f)
      else if o = 0xC9 then
        (if a = 5 ∨ a = 10 then f == 10 else (a == 0 || a == 1 || a == 3 || a == 4) && f == 0)
      else if o = 0xCA then f ≤ 1 && (a == 0 || a == 1 || a == 3 || a == 4) && b == 0
      else if o = 0xCB then f ≤ 1 && b == 0
      else a == 0 && b == 0 && f == 0))

/-- The operand names this device (R51). -/
def namesHere (s : State) (a : Nat) : Bool :=
  let n := a / 2 ^ 48
  n == 0xFFFF || (n == nodeId s && nodeId s != 0x8000)

/-- Lowest and highest byte address stay in the base's node. -/
def Desc.inNode (d : Desc) (o : Opnd) : Bool :=
  decide (0 ≤ d.low o) && d.low o / (2 ^ 48 : Nat) == ((o.base / 2 ^ 48 : Nat) : Int) &&
    d.high o / (2 ^ 48 : Nat) == ((o.base / 2 ^ 48 : Nat) : Int)

/-- Low and end node offsets of an operand, widened by one unit. -/
def Desc.lowOff (d : Desc) (o : Opnd) : Nat := offset (wrap 64 (d.low o))
def Desc.endOff (d : Desc) (o : Opnd) (u : Nat) : Nat := offset (wrap 64 (d.high o)) + u

/-- Every start address lies in the window of a scratchpad of the given die. -/
def inOwnScratch (s : State) (die : Nat) (d : Desc) (o : Opnd) : Bool :=
  namesHere s o.base && d.inNode o && decide (spBase die ≤ d.lowOff o) && decide (offset (wrap 64 (d.high o)) < spBase (die + 1))

/-- Some scratchpad of this device holds the operand (R466). -/
def inSomeScratch (s : State) (d : Desc) (o : Opnd) : Bool :=
  namesHere s o.base && d.inNode o && decide (spBase 0 ≤ d.lowOff o) && decide (offset (wrap 64 (d.high o)) < spBase 32)

/-- Kinds of control-space object (R126): 0 semaphores, 1 arrival counters, 2 descriptor half, 3 collision word,
4 FAR_CLASS word, 9 none.
DEDUCED (log 73), unsafe. -/
def ctrlKind (o : Nat) : Nat :=
  match region o with
  | .dmem _ _ _ => 2
  | .ctrl _ x => if x < 0x800 then 0 else if 0x1000 ≤ x ∧ x < 0x1800 then 1 else if 0x2200 ≤ x ∧ x < 0x2300 then 3
      else if 0x2300 ≤ x ∧ x < 0x2400 then 4 else 9
  | _ => 9

/-- Memory kind and die of a node offset, for straddling (R126): near, far and scratchpad regions of one die. -/
def memPlace (o : Nat) : Option (Nat × Nat) :=
  match region o with
  | .near c => some (1, c)
  | .far k => some (2, k)
  | .scratch c => some (0, c)
  | .spHole c => some (0, c)
  | _ => none

/-- A copy engine's operand lies in spaces that R126 lets it reach. `write` says that it is D: only a read of the
active half is out of reach, since check 14 judges a write of it. -/
def copyReach (s : State) (die : Nat) (d : Desc) (o : Opnd) (u : Nat) (write : Bool) : Bool :=
  let lo := d.lowOff o
  let hi := d.endOff o u - 1
  namesHere s o.base && d.inNode o &&
  (match memPlace lo with
   | some _ => (memPlace hi).isSome &&
       ((memPlace lo == memPlace hi) ||
        (List.range d.iters).all fun n =>
          let a := offset (d.addrAt o n)
          (memPlace a).isSome && memPlace a == memPlace (a + u - 1))
   | none =>
     let k := ctrlKind lo
     k != 9 && ctrlKind hi == k &&
     (match region lo, region hi with
      | .dmem c h _, .dmem c' h' _ =>
        c == c' && h == h' && (write || (h != (getCd s c).active))
      | .ctrl c _, .ctrl c' _ => c == c' && ((k != 3 && k != 4) || c == die)
      | _, _ => false))

/-- The slot in which a context is bound on a facet, if it is. -/
def slotOn (s : State) (ctx f : Nat) : Option Nat :=
  if boundCtx s f 0 = ctx then some 0 else if boundCtx s f 1 = ctx then some 1 else none

/-- Every unit that exists between two node offsets is owned by the context (R328). -/
def ownsExtent (s : State) (ctx lo hi : Nat) : Bool :=
  let piece (kind die : Nat) : Bool :=
    let b := unitBase kind die 0
    let e := b + unitCount kind * unitBytes kind
    let l := max lo b
    let h := min hi e
    if h ≤ l then true
    else
      let u0 := (l - b) / unitBytes kind
      let u1 := (h - 1 - b) / unitBytes kind
      let k0 := ownKey kind die u0
      (s.owner.filter fun x => decide (k0 ≤ x.1) && decide (x.1 ≤ k0 + (u1 - u0)) && x.2 == ctx).length == u1 - u0 + 1
  (memPlace lo).isSome && (memPlace (hi - 1)).isSome &&
  (match region lo with | .spHole _ => false | _ => true) && (match region (hi - 1) with | .spHole _ => false | _ => true) &&
  [0, 1, 2].all fun kind => (List.range 32).all fun die => piece kind die

/-- An offset lies in a part of a scratchpad's window that is not backed (R99). -/
def inHole (a : Nat) : Bool := match region a with | .spHole _ => true | _ => false
/-- Some iteration's unit of an operand that runs across scratchpads reaches such a part (R99). -/
def reachesHole (d : Desc) (o : Opnd) (u lo hi : Nat) : Bool :=
  decide (spBase 0 < hi) && memPlace lo != memPlace (hi - 1) && (List.range d.iters).any fun n =>
    let a := offset (d.addrAt o n)
    inHole a || inHole (a + u - 1)

/-- A write to an inactive half stays in the partition of the context's slot (R65). -/
def inPartition (s : State) (die half off n slot : Nat) : Bool :=
  let base := leNat (readBytes s (dmemBase die half + 4) 2)
  if off < 256 then
    if slot = 0 then decide (off + n ≤ 24) || (decide (40 ≤ off) && decide (off + n ≤ max 256 (base * 128)))
    else decide (24 ≤ off) && decide (off + n ≤ 40)
  else if slot = 0 then decide (off + n ≤ base * 128) else decide (base * 128 ≤ off) && decide (off + n ≤ 0x100000)

/-- An operand lies wholly within the context's memory and objects (check 12; R44, R60, R65, R328). In descriptor memory it is
judged against the header of the half that is inactive now, whichever half it lies in: the partition's context is the one bound
in its slot on the die's facet. -/
def inMemory (s : State) (ctx : Nat) (d : Desc) (o : Opnd) (u : Nat) : Bool :=
  let lo := d.lowOff o
  let hi := d.endOff o u
  match region lo with
  | .dmem c _ x =>
    match slotOn s ctx (c / 8) with
    | some sl => inPartition s c (1 - (getCd s c).active) x (hi - lo) sl
    | none => false
  | .ctrl c x =>
    match slotOn s ctx (c / 8) with
    | some sl =>
      if ctrlKind lo = 0 then
        if sl = 0 then decide (x + (hi - lo) ≤ 384 * 4) else decide (384 * 4 ≤ x)
      else if ctrlKind lo = 1 then
        if sl = 0 then decide (x + (hi - lo) ≤ 0x1000 + 192 * 8) else decide (0x1000 + 192 * 8 ≤ x)
      else true
    | none => false
  | _ => ownsExtent s ctx lo hi && !reachesHole d o u lo hi

/-- The remote operand of a remote opcode: D, or A for GET and LOAD (R264). -/
def Desc.remote (d : Desc) : Opnd := if d.opcode = 0x92 ∨ d.opcode = 0x93 then d.a else d.d

/-- Its access unit (R265): the request's bytes, or one line for ATOM. -/
def Desc.remoteUnit (d : Desc) : Nat := if d.opcode = 0x92 ∨ d.opcode = 0x93 then d.unitA else d.unitD

/-- The node a remote operand names, the twin's node in place of 0xFFFE (R260). -/
def Desc.remoteNode (s : State) (d : Desc) : Nat :=
  let n := d.remote.base / 2 ^ 48
  if n = 0xFFFE then s.twin.node else n

/-- The offset lies in the near, far or scratchpad ranges (R266). -/
def remoteSpace (o : Nat) : Bool := (memPlace o).isSome

/-- Check 11 for the remote opcodes (R263, R266). -/
def remoteReach (s : State) (d : Desc) : Bool :=
  let r := d.remote
  let n := r.base / 2 ^ 48
  let m := d.remoteNode s
  (n != 0xFFFE || s.twin.state == 2) && n != 0xFFFF && m != nodeId s && nodeOk s m &&
    remoteSpace (d.lowOff r) && remoteSpace (d.endOff r d.remoteUnit - 1) &&
    (d.opcode != 0x93 || (m / 32 == nodeId s / 32 && coord m 0 / 4 == coord (nodeId s) 0 / 4))

/-- A local operand of a remote opcode: scratchpad, near or far of this device; for LOAD the own scratchpad (R264). -/
def localReach (s : State) (die : Nat) (d : Desc) (o : Opnd) (u : Nat) : Bool :=
  namesHere s o.base && d.inNode o && (memPlace (d.lowOff o)).isSome && (memPlace (d.endOff o u - 1)).isSome &&
    (d.opcode != 0x93 || inOwnScratch s die d o)

/-- A near-local operand's base and extents (R147, R149). -/
def nearLocal (d : Desc) (o : Opnd) (u : Nat) : Bool := decide (0 ≤ d.low o) && decide (d.high o + (u : Int) ≤ 0x3000000)

/-- A near global operand lies in the own stack (R149). -/
def inOwnNear (s : State) (die : Nat) (d : Desc) (o : Opnd) (u : Nat) : Bool :=
  namesHere s o.base && d.inNode o && decide (nearBase die ≤ d.lowOff o) && decide (d.endOff o u ≤ nearBase (die + 1))

/-- Check 11: each operand lies in a space that the opcode may reach for it. ATOM's D lies in memory, where an atomic unit
works: the spec gives no atomic on control space or descriptor memory.
DESIGN CHOICE (log 103), unsafe. -/
def spaceOk (s : State) (die : Nat) (d : Desc) : Bool :=
  let o := d.opcode
  let (ua, ub, ud) := d.uses
  if o ≤ 0x7F then (!ua || inOwnScratch s die d d.a) && (!ub || inOwnScratch s die d d.b) && (!ud || inOwnScratch s die d d.d)
  else if o ≤ 0x82 then
    (!ua || copyReach s die d d.a d.unitA false) && (!ub || copyReach s die d d.b d.unitB true) &&
      copyReach s die d d.d d.unitD true && (o != 0x82 || (memPlace (d.lowOff d.d)).isSome)
  else if o = 0x90 ∨ o = 0x91 then remoteReach s d && localReach s die d d.a d.unitA
  else if o = 0x92 ∨ o = 0x93 then remoteReach s d && localReach s die d d.d d.unitD
  else if o = 0x94 then remoteReach s d && localReach s die d d.a 32 && (!ub || localReach s die d d.b 32)
  else if o = 0xA0 then inOwnScratch s die d d.a
  else if o = 0xC0 then inOwnNear s die d d.a d.unitA && inOwnScratch s die d d.d
  else if o = 0xC1 then inOwnScratch s die d d.a && inOwnNear s die d d.d d.unitD
  else if o = 0xCA then nearLocal d d.a d.unitA && inOwnScratch s die d d.b && nearLocal d d.d d.unitD
  else if o = 0xCB then inOwnScratch s die d d.b && nearLocal d d.d d.unitD
  else if 0xC8 ≤ o ∧ o ≤ 0xCD then
    nearLocal d d.a d.unitA && (!ub || inOwnScratch s die d d.b) && inOwnScratch s die d d.d
  else true

/-- Stripes that a near-local operand's rows touch are the context's (R130, R149). -/
def localOwned (s : State) (ctx die : Nat) (d : Desc) (o : Opnd) (u : Nat) : Bool :=
  let lo := (d.low o).toNat / 2048
  let hi := ((d.high o).toNat + u - 1) / 2048
  (s.owner.filter fun x => decide (ownKey 1 die lo ≤ x.1) && decide (x.1 ≤ ownKey 1 die hi) && x.2 == ctx).length == hi - lo + 1

/-- Check 12. -/
def rangeOk (s : State) (die ctx : Nat) (d : Desc) : Bool :=
  let o := d.opcode
  let (ua, ub, ud) := d.uses
  if o = 0x90 ∨ o = 0x91 then inMemory s ctx d d.a d.unitA
  else if o = 0x92 ∨ o = 0x93 then inMemory s ctx d d.d d.unitD
  else if o = 0x94 then inMemory s ctx d d.a 32 && (!ub || inMemory s ctx d d.b 32)
  else if o = 0xCA then
    localOwned s ctx die d d.a d.unitA && inMemory s ctx d d.b d.unitB && localOwned s ctx die d d.d d.unitD
  else if o = 0xCB then inMemory s ctx d d.b d.unitB && localOwned s ctx die d d.d d.unitD
  else if 0xC8 ≤ o ∧ o ≤ 0xCD then
    localOwned s ctx die d d.a d.unitA && (!ub || inMemory s ctx d d.b d.unitB) &&
      inMemory s ctx d d.d d.unitD
  else (!ua || inMemory s ctx d d.a d.unitA) && (!ub || inMemory s ctx d d.b d.unitB) &&
    (!ud || inMemory s ctx d d.d d.unitD)

/-- Base and every stride in use are multiples of `n`. -/
def Opnd.aligned (o : Opnd) (n : Nat) : Bool := o.base % n == 0 && o.strides.all (fun t => t % (n : Int) == 0)

/-- Check 13. Element-sized units and tables align to the element (R124). -/
def alignOk (d : Desc) : Bool :=
  let o := d.opcode
  let (ua, ub, ud) := d.uses
  let na := if o = 0x60 then max 1 (fmtBits d.fmtA / 8) else if o = 0x80 then 8 else 32
  let nb := if o ≤ 0x3F then 256 else if o = 0x53 then 4 else 32
  let nd := if o = 0x59 ∨ o = 0x61 then max 1 (fmtBits d.fmtD / 8) else 32
  (!ua || d.a.aligned (if o = 0x80 then 32 else na)) && (!ub || d.b.aligned nb) && (!ud || d.d.aligned nd)

/-- Slot bits on operands that are not used or not in a scratchpad of this device (R466), and the opcode's own rules
for them (R109, R122, R124). -/
def slotBitsOk (s : State) (d : Desc) : Bool :=
  let (ua, ub, ud) := d.uses
  let nl := decide (0xC8 ≤ d.opcode) && decide (d.opcode ≤ 0xCD)
  let inA := ua && !nl && inSomeScratch s d d.a
  let inB := ub && inSomeScratch s d d.b
  let inD := ud && !(d.opcode == 0xCA || d.opcode == 0xCB) && inSomeScratch s d d.d
  (!(d.slotA || d.consA) || inA) && (!(d.slotB || d.consB) || inB) && (!d.slotD || inD) &&
    (!d.consA || d.slotA) && (!d.consB || d.slotB) &&
    (d.opcode != 0x60 || (!d.consA && !d.slotB && !d.consB)) &&
    (d.opcode != 0x61 || (!d.slotD && !d.slotB && !d.consB))

/-- Check 8: operand use and shapes (R39, R79, R124, R149, R266, R300, R466). -/
def shapeOk (s : State) (d : Desc) : Bool :=
  let o := d.opcode
  let (ua, ub, ud) := d.uses
  let red := d.redLevel
  let redOk := red == 7 || (decide (red < d.levels) && red != 6 && d.d.strides.getD red 0 == 0)
  let one := d.levels == 1 && d.counts.getD 0 0 == 1
  d.a.en == ua && d.b.en == ub && d.d.en == ud && slotBitsOk s d &&
  (if o ≤ 0x05 then redOk
   else if o = 0x10 then red == 7
   else if o = 0x58 then red != 7 && redOk
   else if o = 0xF0 ∨ o = 0xF1 ∨ o = 0xA0 ∨ o = 0xA1 then one
   else if 0x90 ≤ o ∧ o ≤ 0x94 then d.inNode d.remote
   else if 0xC8 ≤ o ∧ o ≤ 0xCD then
     d.layerMask != 0 && (d.scaleA != 2 || d.words % (unitSize d.fmtA 256 2 / 32) == 0) &&
     (!ub || d.unitB ≤ 32768) && ((o != 0xCC && o != 0xCD) || d.d.strides.all (· == 0))
   else true)

/-- The resource counters (R267). -/
def isResource (i : Nat) : Bool := (180 ≤ i && i ≤ 191) || (244 ≤ i && i ≤ 255)

/-- Check 9 (R54, R266). -/
def depOk (slot : Nat) (d : Desc) : Bool :=
  d.waits.all (fun w => w.kind ≤ 4 && (w.kind < 3 || w.obj < 256)) && d.sigs.all (fun g => g.kind != 3) &&
  (d.opcode != 0x92 || !bit d.imm 23 || !isResource (bits d.imm 24 8)) &&
  (d.opcode != 0x95 || (!isResource (bits d.imm 24 8) && objSlot true (bits d.imm 24 8) == slot))

/-- Check 10 (R60): waits in the own slot; signals in the slot where the context is bound on the target's facet; the
local counter of a GET. -/
def ownObjects (s : State) (ctx slot : Nat) (d : Desc) : Bool :=
  d.waits.all (fun w => w.kind == 0 || objSlot (decide (3 ≤ w.kind)) w.obj == slot) &&
  d.sigs.all (fun g => g.kind == 0 || slotOn s ctx (g.die / 8) == some (objSlot false g.obj)) &&
  (d.opcode != 0x92 || !bit d.imm 23 || objSlot true (bits d.imm 24 8) == slot)

/-- D lies in an active or sealed half (check 14). -/
def writesActive (s : State) (o : Opnd) (d : Desc) : Bool :=
  match region (d.lowOff o) with
  | .dmem c h _ => h == (getCd s c).active || (getCd s c).pendingSwap
  | _ => false

/-- The index range of a partition of a half (R43, R44). -/
def partLow (s : State) (die half slot : Nat) : Nat :=
  if slot = 0 then 2 else leNat (readBytes s (dmemBase die half + 4) 2)
def partHigh (s : State) (die half slot : Nat) : Nat :=
  if slot = 0 then leNat (readBytes s (dmemBase die half + 4) 2) else 8192
def inPart (s : State) (die half slot : Nat) (i : Int) : Bool :=
  decide ((partLow s die half slot : Int) ≤ i) && decide (i < (partHigh s die half slot : Int))

/-- The last working cycle in which work of an engine may stand, exclusive: the frame, less the refresh window for the
NBC (R137). -/
def frameRoom (fc engine : Nat) : Nat := if engine = 7 then fc - refreshCycles fc else fc

/-- The decode checks in order (R54): the reason code of the first that fails, 0 for none. -/
def decodeCheck (s : State) (die engine slot ctx fc : Nat) (d : Desc) : Nat :=
  let o := d.opcode
  let common := o == 0xF0 || o == 0xF1
  let one := o == 0xF0 || o == 0x95 || o == 0xA1
  if d.engine ≠ engine then 0x02
  else if !opcodeOf engine o then 0x01
  else if d.reserved || 2 ≤ d.round || d.scaleA == 3 || d.scaleB == 3 || !immOk d ||
      (common && (d.round != 0 || d.order || d.collHalt || d.slotA || d.slotB || d.slotD || d.consA || d.consB ||
        d.scaleA != 0 || d.scaleB != 0)) then 0x04
  else if d.levels = 0 ∨ d.levels = 7 then 0x09
  else if (d.counts.take d.levels).any (· == 0) then 0x22
  else if d.budget = 0 ∨ (one ∧ d.budget ≠ 1) ∨ fc ≤ d.notBefore ∨ frameRoom fc engine < d.notBefore + d.budget then 0x08
  else if !fmtOk d then 0x03
  else if !shapeOk s d then 0x06
  else if !depOk slot d then 0x05
  else if !ownObjects s ctx slot d then 0xA2
  else if !spaceOk s die d then 0x24
  else if !rangeOk s die ctx d then 0x20
  else if !alignOk d then 0x21
  else if (d.d.en && writesActive s d.d d) || (o == 0x82 && d.b.en && writesActive s d.b d) then 0x23
  else if d.next ≠ 0 ∧ !inPart s die d.half slot ((d.index : Int) + d.next) then 0x07
  else 0

end Sys2Proof.Machine
end

