-- ==== Sys2Proof/Machine/Flags.lean ====
section
/-! DEFINITION. Machine/Flags.lean: the slot-valid flags of a scratchpad with the timing of R110, which reads and
writes of a descriptor check, set and clear them (R108 to R112), the banks (R98) and the record of a frame's accesses (R101 to
R104), the collision word (R105), and the counters of results by R85. -/
namespace Sys2Proof.Machine
open Sys2Proof

/-! ## Slot-valid flags -/

def slotKey (die sl : Nat) : Nat := die * 16384 + sl

/-- The flag as it stands at the start of working cycle `c` (R110). -/
def slotSeen (s : State) (die sl c : Nat) : Bool :=
  let x := tget {} s.slots (slotKey die sl)
  if x.since ≤ c then x.valid else !x.valid

/-- A flag set in cycle `c` is seen from the next; set and cleared in one cycle, it ends set (R110). -/
def slotSet (die sl c : Nat) (s : State) : State :=
  { s with slots := tset {} s.slots (slotKey die sl) { valid := true, since := c + 1 } }
def slotClear (die sl c : Nat) (s : State) : State :=
  let x := tget {} s.slots (slotKey die sl)
  if x.valid && x.since == c + 1 then s
  else { s with slots := tset {} s.slots (slotKey die sl) { valid := false, since := c + 1 } }

/-- SLOT_VALID as the bitmap reads it (R107): the flags at the start of the die's present cycle. -/
def slotValid (s : State) (die sl : Nat) : Bool := slotSeen s die sl (absCycle s (die / 8))

/-- All flags of a die clear (R113), of slots in `[lo, hi)`. -/
def slotsReset (die lo hi : Nat) (s : State) : State :=
  { s with slots := tclear s.slots (slotKey die lo) (slotKey die hi) }

/-- The scratchpad of an address, and the slots that `n` bytes there touch (R107). -/
def scratchDie (a : Nat) : Option Nat :=
  match region a with
  | .scratch c => some c
  | _ => none
def slotOf (a : Nat) : Nat := (a - spBase 0) % 0x40000000 / 4096
def slotSpan (a n : Nat) : List Nat := (List.range (slotOf (a + n - 1) + 1 - slotOf a)).map (slotOf a + ·)

/-- A read in cycle `c` may be performed: every slot touched is valid (R109). -/
def readValid (s : State) (die a n c : Nat) : Bool := (slotSpan a n).all fun sl => slotSeen s die sl c

/-- A producing write in cycle `c` may be applied: no slot of `sls` is set (R108). -/
def writeClear (s : State) (die : Nat) (sls : List Nat) (c : Nat) : Bool := sls.all fun sl => !slotSeen s die sl c

def slotsSet (die : Nat) (sls : List Nat) (c : Nat) (s : State) : State := sls.foldl (fun s sl => slotSet die sl c s) s
def slotsClear (die : Nat) (sls : List Nat) (c : Nat) (s : State) : State := sls.foldl (fun s sl => slotClear die sl c s) s

/-- Slots of the unit that operand `o` has at iteration `n`. -/
def Desc.slotsAt (d : Desc) (o : Opnd) (u n : Nat) : List Nat := slotSpan (offset (d.addrAt o n)) u

/-- No later iteration of the descriptor touches the slot: the last read or write of it (R108, R109). -/
def Desc.lastUse (d : Desc) (o : Opnd) (u n sl : Nat) : Bool :=
  (List.range (d.iters - (n + 1))).all fun k => !(d.slotsAt o u (n + 1 + k)).contains sl

/-- No earlier iteration touches the slot. -/
def Desc.firstUse (d : Desc) (o : Opnd) (u n sl : Nat) : Bool :=
  (List.range n).all fun k => !(d.slotsAt o u k).contains sl

/-- Slots that iteration `n` uses for the last time. -/
def Desc.lastSlots (d : Desc) (o : Opnd) (u n : Nat) : List Nat := (d.slotsAt o u n).filter fun sl => d.lastUse o u n sl

/-! ## Banks (R98) -/

/-- An address's offset within its die's window. -/
def spOff (a : Nat) : Nat := (a - spBase 0) % 0x40000000
/-- Bank and row of an address: 480 single-port banks, then 32 dual-port ones. -/
def bankOf (a : Nat) : Nat := if spOff a < 0x3C00000 then spOff a / 128 % 480 else 480 + spOff a / 128 % 32
def rowOf (a : Nat) : Nat := if spOff a < 0x3C00000 then spOff a / 128 / 480 else spOff a / 4096 % 1024
/-- The bank words that `n` bytes touch, by number. -/
def spWords (a n : Nat) : List Nat := (List.range ((a + n - 1) / 128 + 1 - a / 128)).map (a / 128 + ·)

/-- A dual-port bank word (R98): slots 15,360 to 16,383. -/
def dualPort (a : Nat) : Bool := (scratchDie a).isSome && decide (15360 ≤ slotOf a)

/-! ## Bank ports and the accesses of a frame (R98, R101 to R104) -/

/-- Rank of an engine at a bank port: MA0, MA1, VU, NBC, then CE0 to CE3; inbound accesses come last (R101). -/
def portRank (engine : Nat) : Nat := if engine ≤ 2 then engine else if engine = 7 then 3 else engine + 1
abbrev inboundRank : Nat := 8
/-- The engine of a rank. -/
def rankEngine (rank : Nat) : Nat := if rank ≤ 2 then rank else if rank = 3 then 7 else rank - 1
/-- A scheduled engine's rank. -/
def scheduled (rank : Nat) : Bool := decide (rank ≤ 3)

/-- A dual-port bank serves copy engines, atomics and inbound accesses on port B, everything else on port A (R103). -/
def portB (rank a : Nat) : Bool := dualPort a && !scheduled rank

/-- Two accesses to a scratchpad want one bank port. -/
def samePort (rank a n : Nat) (w : SpAcc) : Bool :=
  (spWords a n).any fun i => (spWords w.addr w.len).any fun j =>
    bankOf (128 * i) == bankOf (128 * j) && portB rank (128 * i) == portB w.rank (128 * j)

/-- Inserts an access behind every one of a later cycle. -/
def insertAcc (w : SpAcc) : List SpAcc → List SpAcc
  | [] => [w]
  | x :: xs => if x.cyc ≤ w.cyc then w :: x :: xs else x :: insertAcc w xs

/-- Writes to bytes of `[a, a + n)` in cycle `c` or later, the earliest first. -/
def writesFrom (s : State) (die a n c : Nat) : List SpAcc :=
  (((getCd s die).acc.takeWhile fun w => decide (c ≤ w.cyc)).filter fun w =>
    w.write && decide (w.addr < a + n) && decide (a < w.addr + w.len)).reverse

/-- A byte as it was before a list of writes, the earliest first. -/
def byteBefore (s : State) (a : Nat) (l : List SpAcc) : Byte :=
  match l.find? (fun w => decide (w.addr ≤ a) && decide (a < w.addr + w.len)) with
  | some w => w.old.getD (a - w.addr) 0
  | none => memGet s a

/-- Bytes before a list of writes. -/
def bytesBefore (s : State) (a n : Nat) (l : List SpAcc) : List Byte :=
  if l.isEmpty then readBytes s a n else (List.range n).map fun i => byteBefore s (a + i) l
/-- Bytes of a scratchpad as an access of cycle `c` reads them: what was written before that cycle (R104, R110). -/
def spBytes (s : State) (die a n c : Nat) : List Byte := bytesBefore s a n (writesFrom s die a n c)
/-- Bytes as an engine finds them that adds to what it has written in the same cycle: its units come one after another (R93,
R119). -/
def ownBytes (s : State) (die rank a n c : Nat) : List Byte :=
  bytesBefore s a n ((writesFrom s die a n c).filter fun w => !(w.cyc == c && w.rank == rank))

/-- What later writes, the earliest first, found before them changes where an earlier write comes to be applied after them. -/
def patchAcc (c : Nat) : List (Nat × Byte) → List SpAcc → List SpAcc
  | _, [] => []
  | l, w :: ws =>
    if w.write && decide (c < w.cyc) then
      let under (p : Nat × Byte) : Bool := decide (w.addr ≤ p.1) && decide (p.1 < w.addr + w.len)
      { w with old := (l.filter under).foldl (fun o p => o.set (p.1 - w.addr) p.2) w.old } ::
        patchAcc c (l.filter fun p => !under p) ws
    else w :: patchAcc c l ws

/-- Bytes come into a scratchpad in cycle `c`: those that a later cycle has written already keep what it wrote. -/
def spStore (die a : Nat) (bs : List Byte) (c : Nat) (s : State) : State :=
  let later := writesFrom s die a bs.length (c + 1)
  if later.isEmpty then writeBytes a bs s
  else
    let free (i : Nat) : Bool := !later.any fun w => decide (w.addr ≤ a + i) && decide (a + i < w.addr + w.len)
    let cells := (List.range bs.length).zip bs
    let s := (cells.filter fun p => free p.1).foldl (fun s p => writeBytes (a + p.1) [p.2] s) s
    updCd die (fun x => { x with acc := (patchAcc c (cells.map fun p => (a + p.1, p.2)) x.acc.reverse).reverse }) s

/-- A change of a flag in cycle `c` has not been made. -/
def slotUndo (die c sl : Nat) (s : State) : State :=
  let x := tget {} s.slots (slotKey die sl)
  if x.since = c + 1 then { s with slots := tset {} s.slots (slotKey die sl) { valid := !x.valid, since := 0 } } else s

/-- An access has not been made: what it wrote is as before it, and so are the flags that it changed. -/
def undoAcc (die : Nat) (s : State) (w : SpAcc) : State :=
  let s := updCd die (fun x => { x with acc := x.acc.filter (· != w) }) s
  let s := if w.write then spStore die w.addr w.old w.cyc s else s
  w.flags.foldl (fun s sl => slotUndo die w.cyc sl s) s

/-- Accesses of abandoned descriptors after cycle `c` have not been made (R69), near-bank rows among them (R158). -/
def undoAfter (die : Nat) (uids : List Nat) (c : Nat) (s : State) : State :=
  let gone (w : SpAcc) : Bool := uids.contains w.uid && decide (c < w.cyc)
  let x := getCd s die
  let s := (x.acc.filter gone).foldl (undoAcc die) s
  (x.rowLog.filter gone).foldl (fun s w => writeBytes w.addr w.old s)
    (updCd die (fun x => { x with rowLog := x.rowLog.filter (fun w => !gone w) }) s)

/-! ## The collision word (R105) -/

/-- CEn is the ENGINE code 3 + n. -/
def setCe (die engine : Nat) (s : State) : State :=
  if 3 ≤ engine ∧ engine ≤ 6 then updCd die (fun x => { x with collision := setBit x.collision (engine - 3) }) s else s

/-- A collision at address `a` of a die: LAST_SLOT, and the counter. -/
def noteCollision (die a : Nat) (s : State) : State :=
  bump oSpCollisions (die + 1) 1
    (updCd die (fun x => { x with collision := x.collision % 2 ^ 50 + slotOf a * 2 ^ 50 }) s)

/-- A dropped write of a local copy engine (R105). -/
def collideLocal (die engine a : Nat) (s : State) : State := setCe die engine (noteCollision die a s)

/-- A dropped inbound write (R105). -/
def collideInbound (die a : Nat) (s : State) : State :=
  updCd die (fun x => { x with collision := setBit x.collision 4 }) (noteCollision die a s)

/-- Writing 1s to the collision word clears bits [4:0] (R105, R126). -/
def clearCollision (die v : Nat) (s : State) : State :=
  updCd die (fun x => { x with collision := x.collision - Nat.land (x.collision % 32) v }) s

/-! ## Counters of results (R85, R96, R119, R127) -/

def countOf (k : Count) (l : List Count) : Nat := (l.filter (· == k)).length

/-- Counts a unit's results for a matrix array or the vector unit. -/
def countResults (die engine : Nat) (l : List Count) (s : State) : State :=
  let nf := countOf .nonfinite l
  let sat := countOf .saturated l
  if engine ≤ 1 then
    bump oMaNonfiniteWrites (2 * die + engine + 1) nf (bump oMaSaturatedWrites (2 * die + engine + 1) sat s)
  else if engine = 2 then bump oVuNonfiniteWrites (die + 1) nf (bump oVuSaturatedWrites (die + 1) sat s)
  else s

end Sys2Proof.Machine
end

