-- ==== Sys2Proof/Machine/Halt.lean ====
section
/-! DEFINITION. Machine/Halt.lean: a stream halts (R69, R70): its halt word, its descriptors in flight, the fault charged
(R332); the reasons that responses give (R197). -/
namespace Sys2Proof.Machine
open Sys2Proof

def streamKey (die engine slot : Nat) : Nat := die * 16 + engine * 2 + slot
def engineKey (die engine : Nat) : Nat := die * 8 + engine
def getStream (s : State) (die engine slot : Nat) : StreamSt := tget {} s.streams (streamKey die engine slot)
def setStream (die engine slot : Nat) (x : StreamSt) (s : State) : State :=
  { s with streams := tset {} s.streams (streamKey die engine slot) x }
def getEngine (s : State) (die engine : Nat) : EngineSt := tget {} s.engines (engineKey die engine)
def setEngine (die engine : Nat) (x : EngineSt) (s : State) : State :=
  { s with engines := tset {} s.engines (engineKey die engine) x }
def updEngine (die engine : Nat) (g : EngineSt → EngineSt) (s : State) : State :=
  setEngine die engine (g (getEngine s die engine)) s

/-- An engine whose descriptors in flight are `fly` from now on: with the last its passes end, and requests that waited for
room go with their descriptors. -/
def EngineSt.keepFly (fly : List InFlight) (e : EngineSt) : EngineSt :=
  let asks := e.asks.filter fun a => match a.2.owner with | .eng _ _ u => fly.any (·.uid == u) | _ => true
  if fly.isEmpty then { e with fly := fly, asks := asks, lastPass := 0, passEnd := 0 } else { e with fly := fly, asks := asks }

/-- How a stream halts: at decode or during execution, in which absolute working cycle, on which descriptor; the
address and STATUS of its fault record; the stamp and frame number where R63 fixes them. -/
structure HaltInfo where
  reason : Nat := 0
  desc : Desc := {}
  ctx : Nat := 0
  gen : Nat := 0
  cyc : Nat := 0
  decode : Bool := false
  addr : Nat := 0
  status : Nat := 0
  wallAt : Option Nat := none
deriving DecidableEq, Repr

/-- The halt word (R70). -/
def haltWord (die engine : Nat) (h : HaltInfo) (cycle : Nat) : Nat :=
  h.reason * 2 ^ 56 + h.ctx * 2 ^ 48 + h.gen * 2 ^ 40 + die * 2 ^ 35 + engine * 2 ^ 31 + h.desc.half % 2 * 2 ^ 30 +
    h.desc.index * 2 ^ 17 + 2 ^ 16 + cycle

/-- A stream halts (R69). The first halt word stays; a halt during execution abandons the stream's descriptors in
flight: writes already made stay, and what they would have done in later cycles is not done. Each halt counts and is charged
to the context of the partition (R44, R332). The facet's clock stands at the halt's cycle. The request of a DMEM_SWAP that is
abandoned while it waits stays among the die's requests: the spec does not say whether it stands, so it may still seal the half,
or be logged with no context.
DESIGN CHOICE (log 118), unsafe. -/
def haltStream (die engine slot : Nat) (h : HaltInfo) (s : State) : State :=
  let f := die / 8
  let s := toCycle f (h.cyc - (getFacet s f).cycBase) s
  let cycle := h.cyc - (getFacet s f).cycBase
  let st := getStream s die engine slot
  let s := if st.haltWord = 0 then setStream die engine slot { st with haltWord := haltWord die engine h cycle } s else s
  let s := if h.decode then s
           else
             let gone := ((getEngine s die engine).fly.filter fun x => x.slot == slot).map (·.uid)
             undoAfter die gone h.cyc (updEngine die engine (fun e => e.keepFly (e.fly.filter fun x => x.slot != slot)) s)
  let s := bump oEngineHalts (die + 1) 1 s
  chargeFault { ctx := h.ctx, gen := h.gen, reason := h.reason, source := 0, site := die, engine := engine, slot := slot,
                half := h.desc.half, cycle := cycle, tag := h.desc.tag, status := h.status, desc := h.desc.addr die,
                addr := h.addr, wallAt := h.wallAt } s

/-- The halt reason of a response's STATUS, 0 for none (R197). -/
def statusReason (status : Nat) (collHalt : Bool) : Nat :=
  match status with
  | 1 => 0x20 | 2 => 0x60 | 3 => 0x61 | 4 => if collHalt then 0x43 else 0
  | 5 => 0x42 | 6 => 0x23 | 7 => 0xA1 | 8 => 0x80 | 9 => 0x41 | _ => 0

/-- The descriptor in flight with a number, on an engine. -/
def findFly (s : State) (die engine uid : Nat) : Option InFlight := (getEngine s die engine).fly.find? (·.uid == uid)
def updFly (die engine uid : Nat) (g : InFlight → InFlight) (s : State) : State :=
  updEngine die engine (fun e => { e with fly := e.fly.map (fun x => if x.uid == uid then g x else x) }) s

/-- A descriptor in flight halts its stream in a cycle. -/
def haltFly (die engine : Nat) (x : InFlight) (reason cyc addr status : Nat) (s : State) : State :=
  haltStream die engine x.slot { reason := reason, desc := x.desc, ctx := x.ctx, gen := x.gen, cyc := cyc, addr := addr,
                                 status := status } s

end Sys2Proof.Machine
end

