-- ==== Sys2Proof/Machine/Net.lean ====
section
/-! DEFINITION. Machine/Net.lean: the package network: the links' ends and routes over them (R184, R185, R199, R200), the
headers (R195, R270), credits and output ports (R193, R194, R203), request queues (R173), the unroutable (R198, R209), flits
(R186 to R190), tags and outstanding requests (R195, R202). -/
namespace Sys2Proof.Machine
open Sys2Proof

/-! ## Routes -/

/-- A link crossed, and whether from its lower-listed end of R184. -/
abbrev Hop := Nat × Bool

/-- Mesh position of a compute die, and the die at a position (R16). -/
def meshX (c : Nat) : Nat := 4 * (c / 8 % 2) + c % 4
def meshY (c : Nat) : Nat := 2 * (c / 16) + c % 8 / 4
def meshDie (x y : Nat) : Nat := 8 * (x / 4 + 2 * (y / 2)) + 4 * (y % 2) + x % 4

/-- Hops along x from `x0` to `x1` in row y, and along y in column x (R184). -/
def hopsX (y x0 x1 : Nat) : List Hop :=
  if x0 ≤ x1 then (List.range (x1 - x0)).map fun i => (7 * y + (x0 + i), true)
  else (List.range (x0 - x1)).map fun i => (7 * y + (x0 - 1 - i), false)
def hopsY (x y0 y1 : Nat) : List Hop :=
  if y0 ≤ y1 then (List.range (y1 - y0)).map fun i => (28 + 8 * (y0 + i) + x, true)
  else (List.range (y0 - y1)).map fun i => (28 + 8 * (y0 - 1 - i) + x, false)
/-- X first, then Y (R16). -/
def meshRoute (a b : Nat) : List Hop := hopsX (meshY a) (meshX a) (meshX b) ++ hopsY (meshX b) (meshY a) (meshY b)

/-- Kind and index of a site: 0 compute, 1 far, 2 prism, 3 optical, 4 hub, 5 host (R13, R15). -/
def siteKind (site : Nat) : Nat × Nat :=
  if site < 32 then (0, site) else if site < 64 then (1, site - 32) else if site < 72 then (2, site - 64)
  else if site < 96 then (3, site - 72) else if site < 98 then (4, site - 96) else (5, site - 98)

/-- The prism die of an optical engine (R185). -/
def oePd (e : Nat) : Nat := 2 * (e / 6) + e % 6 % 2
/-- Anchor a of a prism die (R185). -/
def pdAnchor (p a : Nat) : Nat := 8 * (p / 2) + (if p % 2 = 0 then 1 else 5) + a
/-- The anchor of hub h in facet f. -/
def hubAnchor (h f : Nat) : Nat := 8 * f + 7 * h

/-- The direct prism link of two prism dies (R184). -/
def prismLink (p q : Nat) : Option Hop :=
  let lo := min p q
  let hi := max p q
  let n := if lo % 2 = 0 ∧ hi = lo + 1 then some (100 + lo / 2)
           else if lo = 0 ∧ hi = 2 then some 104 else if lo = 4 ∧ hi = 6 then some 105
           else if lo = 1 ∧ hi = 5 then some 106 else if lo = 3 ∧ hi = 7 then some 107 else none
  if p = q then none else n.map fun n => (n, decide (p < q))

/-- The reference x of R200, doubled, of a route's other end: of an optical engine, whose anchor is a prism die, the centre of that
die's x half.
DESIGN CHOICE (log 127), unsafe. -/
def refX (site facet : Nat) : Nat :=
  match siteKind site with
  | (0, c) => 2 * meshX c
  | (1, k) => 2 * meshX k
  | (2, p) => if p / 2 % 2 = 0 then 3 else 11
  | (3, e) => if oePd e / 2 % 2 = 0 then 3 else 11
  | (_, h) => 2 * meshX (hubAnchor h facet)

/-- The anchor of a site towards another, and the links from the site up to it (R185, R200). -/
def climb (site other : Nat) : Nat × List Hop :=
  match siteKind site with
  | (0, c) => (c, [])
  | (1, k) => (k, [(52 + k, false)])
  | (4, h) => let f := (siteFacet other).getD 0; (hubAnchor h f, [(132 + 4 * h + f, true)])
  | (5, h) => let f := (siteFacet other).getD 0; (hubAnchor h f, [(132 + 4 * h + f, true)])
  | (k, i) =>
    let p := if k = 2 then i else oePd i
    let x := refX other (p / 2)
    let d (a : Nat) : Nat := (2 * meshX (pdAnchor p a) - x) + (x - 2 * meshX (pdAnchor p a))
    let a := if d 1 < d 0 then 1 else 0
    (pdAnchor p a, (if k = 2 then [] else [(108 + i, false)]) ++ [(84 + 2 * p + a, false)])

/-- The link two sites share (rule 1 of R199). -/
def sharedLink (a b : Nat) : Option Hop :=
  match siteKind a, siteKind b with
  | (1, k), (0, c) => if k = c then some (52 + k, false) else none
  | (0, c), (1, k) => if k = c then some (52 + k, true) else none
  | (2, p), (0, c) =>
    if c = pdAnchor p 0 then some (84 + 2 * p, false) else if c = pdAnchor p 1 then some (84 + 2 * p + 1, false) else none
  | (0, c), (2, p) =>
    if c = pdAnchor p 0 then some (84 + 2 * p, true) else if c = pdAnchor p 1 then some (84 + 2 * p + 1, true) else none
  | (2, p), (2, q) => prismLink p q
  | (2, p), (3, e) => if oePd e = p then some (108 + e, true) else none
  | (3, e), (2, p) => if oePd e = p then some (108 + e, false) else none
  | (4, h), (0, c) => if c % 8 = 7 * h then some (132 + 4 * h + c / 8, true) else none
  | (0, c), (4, h) => if c % 8 = 7 * h then some (132 + 4 * h + c / 8, false) else none
  | _, _ => none

/-- Over prism links alone (rule 2 of R199). -/
def prismRoute (a b : Nat) : Option (List Hop) :=
  let pd (site : Nat) : Option (Nat × List Hop × List Hop) :=
    match siteKind site with
    | (2, p) => some (p, [], [])
    | (3, e) => some (oePd e, [(108 + e, false)], [(108 + e, true)])
    | _ => none
  match pd a, pd b with
  | some (p, up, _), some (q, _, dn) =>
    if p = q then some (up ++ dn) else (prismLink p q).map fun h => up ++ [h] ++ dn
  | _, _ => none

/-- A hub and its host die share the one link that has no number (R184). -/
def hostPair (a b : Nat) : Bool :=
  match siteKind a, siteKind b with
  | (4, h), (5, i) => h == i
  | (5, h), (4, i) => h == i
  | _, _ => false

/-- The numbered links from a site to another (R199). -/
def route (op a b : Nat) : List Hop :=
  if a = b || hostPair a b then []
  else match sharedLink a b with
    | some h => [h]
    | none =>
      match (if 0x20 ≤ op ∧ op ≤ 0x2F then prismRoute a b else none) with
      | some r => r
      | none =>
        let (x, up) := climb a b
        let (y, dn) := climb b a
        up ++ meshRoute x y ++ dn.reverse.map fun h => (h.1, !h.2)

/-! ## Links and their facets (R184) -/

/-- The two ends of a numbered link as sites, lower-listed end first. -/
def linkEnds (n : Nat) : Nat × Nat :=
  if n < 28 then (meshDie (n % 7) (n / 7), meshDie (n % 7 + 1) (n / 7))
  else if n < 52 then (meshDie ((n - 28) % 8) ((n - 28) / 8), meshDie ((n - 28) % 8) ((n - 28) / 8 + 1))
  else if n < 84 then (n - 52, n - 20)
  else if n < 100 then (pdAnchor ((n - 84) / 2) ((n - 84) % 2), 64 + (n - 84) / 2)
  else if n < 104 then (64 + 2 * (n - 100), 65 + 2 * (n - 100))
  else if n = 104 then (64, 66) else if n = 105 then (68, 70) else if n = 106 then (65, 69) else if n = 107 then (67, 71)
  else if n < 132 then (64 + oePd (n - 108), 72 + (n - 108))
  else (96 + (n - 132) / 4, hubAnchor ((n - 132) / 4) ((n - 132) % 4))

/-- The facets at the ends of a link. -/
def linkFacets (n : Nat) : List Nat :=
  ((siteFacet (linkEnds n).1).toList ++ (siteFacet (linkEnds n).2).toList).eraseDups
/-- The links with an end in a facet. -/
def facetLinks (f : Nat) : List Nat := (List.range 140).filter fun n => (linkFacets n).contains f
/-- The facet's sites. -/
def facetSites (f : Nat) : List Nat := (List.range 96).filter fun x => siteFacet x == some f

/-- *PKG_LINK_STATE* changes. -/
def linkTo (n st : Nat) (s : State) : State := updLink n (fun l => { l with state := st, since := wall s }) s

/-! ## Packets on a link (R193 to R196) -/

/-- Requests that an unposted packet's sender waits for (R196, R202). -/
def isRequest (op : Nat) : Bool := op == 1 || op == 2 || op == 4 || op == 5 || (0x08 ≤ op && op ≤ 0x0C) || op == 0x2F
def awaited (p : Pkg) : Bool := (isRequest p.op || (p.op == 0x30 && p.pclass == 0)) && !p.posted

/-- The answer to a request, with a STATUS and data: RD_RSP, WR_ACK or AT_RSP (R196, R197). -/
def answer (p : Pkg) (status : Nat) (data : List Byte) : Pkg :=
  { dst := p.src, src := p.dst, op := if p.op = 1 then 0x10 else if 8 ≤ p.op ∧ p.op ≤ 0x0C then 0x12 else if p.op = 0x30 then 0x30 else 0x11,
    pclass := 1, ctx := p.ctx, gen := p.gen, len := ceilDiv data.length 32, origin := p.origin, status := status,
    slot := p.slot, srcEngine := p.srcEngine, tag := p.tag, addr := p.addr, data := data }

/-- The 16-byte header (R195), and the packet that one describes. -/
def pkgHeader (p : Pkg) : List Byte :=
  leBytes 16 (p.addr % 2 ^ 48 + 2 ^ 48 * (p.tag % 4096 + 2 ^ 12 * (p.srcEngine % 16 + 2 ^ 5 * (p.slot % 2 + 2 * (bnat p.setValid +
    2 * (bnat p.posted + 2 * (p.status % 16 + 16 * (p.etype % 16 + 16 * (p.origin % 4 + 4 * (p.len % 256 + 256 * (p.gen % 256 +
    256 * (p.ctx % 256 + 256 * (p.rdClass % 4 + 4 * (p.pclass % 4 + 4 * (p.op % 64 + 64 * (p.src % 256 +
    256 * (p.dst % 256)))))))))))))))))
def readHeader (b : List Byte) : Pkg :=
  let h := leNat (slice b 0 16)
  { dst := bits h 120 8, src := bits h 112 8, op := bits h 106 6, pclass := bits h 104 2, rdClass := bits h 102 2,
    ctx := bits h 94 8, gen := bits h 86 8, len := bits h 78 8, origin := bits h 76 2, etype := bits h 72 4,
    status := bits h 68 4, posted := bit h 67, setValid := bit h 66, slot := bits h 65 1, srcEngine := bits h 60 4,
    tag := bits h 48 12, addr := bits h 0 48 }

/-- Units of 32 bytes behind the header: RD and LINK_CTRL carry none (R196). -/
def payloadUnits (p : Pkg) : Nat := if p.op = 1 ∨ p.op = 0x3F then 0 else p.len
/-- A machine packet has a header of its own, 32 bytes, that LEN does not count (R272). -/
def isMachineOp (op : Nat) : Bool := 0x20 ≤ op && op ≤ 0x2E
/-- Bytes of a packet on a link (R195, R272), and its credits of 16 bytes (R193); LINK_CTRL takes none (R196). -/
def pkgBytes (p : Pkg) : Nat := 16 + (if isMachineOp p.op then 32 else 0) + 32 * payloadUnits p
def pkgCredits (p : Pkg) : Nat := if p.op = 0x3F then 0 else pkgBytes p / 16

/-- The 32-byte header (R270). -/
def mpkHeader (p : Mpk) : List Byte :=
  [byte p.op, byte (p.tc % 4 + 4 * (p.sub % 2) + 8 * (p.port % 4) + 32 * bnat p.striped + 64 * bnat p.flag + 128 * bnat p.ret),
    byte p.ctx, byte p.gen] ++ leBytes 2 p.dstNode ++ leBytes 2 p.srcNode ++ leBytes 2 p.count ++ List.replicate 7 0 ++
    [byte p.len] ++
    leBytes 3 (p.status % 16 + 16 * (p.rdClass % 4) + 64 * (p.atop % 8) + 512 * (p.etype % 16) + 8192 * (p.srcEngine % 16) +
      131072 * (p.srcDie % 32) + 4194304 * (p.slot % 2) + 8388608 * bnat p.arrEn) ++
    [byte p.arr] ++ leBytes 2 p.epoch ++ leBytes 2 p.tag ++ leBytes 6 p.addr
def mpkBytes (p : Mpk) : List Byte := mpkHeader p ++ p.data
def mpkSize (p : Mpk) : Nat := 32 + p.data.length

def mpkVc (p : Mpk) : Nat := 2 * p.tc + p.sub

/-- Modules of a link (R184). -/
def linkModules (n : Nat) : Nat :=
  if n < 52 then 2 else if n < 84 then 4 else if n < 104 then 8 else if n < 108 then 4 else if n < 132 then 8 else 1
/-- The links between prism dies and optical engines, whose pools are the machine virtual channels (R194). -/
def prismLinks (n : Nat) : Bool := 100 ≤ n && n < 132
/-- The pool of a package packet, and its credits over a link's modules: 1,024 a module for a scheduled pool, 512 for an
unscheduled one, as every pool of a prism link is (R193, R194, R204). -/
def pkgPool (p : Pkg) : Nat := 2 * p.pclass + (if p.origin = 0 then 0 else 1)
def poolSize (link pool : Nat) : Nat := linkModules link * (if prismLinks link || pool % 2 = 1 then 512 else 1024)

/-- Index of a link's direction, as a hop and by name. -/
def hopKey (h : Hop) : Nat := 2 * h.1 + (if h.2 then 0 else 1)
def dirKey_ (link : Nat) (d : Dir) : Nat := 2 * link + (if d = .fwd then 0 else 1)
def back : Dir → Dir | .fwd => .rev | .rev => .fwd
/-- The sites a direction leads from and to. -/
def keyFrom (k : Nat) : Nat := if k % 2 = 0 then (linkEnds (k / 2)).1 else (linkEnds (k / 2)).2
def keyTo (k : Nat) : Nat := if k % 2 = 0 then (linkEnds (k / 2)).2 else (linkEnds (k / 2)).1

/-! ## The network's state -/

/-- Whether a site is a route end: it is admitted and not under test (R14, R198, R211).
DEDUCED (log 71), unsafe. -/
def isAdmitted (s : State) (site : Nat) : Bool := tget 0 s.admitted site == 1
/-- A held die forwards nothing (R210). -/
def forwards (s : State) (site : Nat) : Bool := tget 0 s.held site == 0

/-- A packet's whole route; within one die, or between a hub and its host die, it crosses no numbered link. -/
def pkgRoute (p : Pkg) : List Hop := if strapSite p.dst < 100 then route p.op (strapSite p.src) (strapSite p.dst) else []

/-- The requests that stand at a home: at a far die, and at a compute die's near memory (R173). -/
def farWaiting (s : State) (k : Nat) : List Pkg := s.net.filter fun p => isRequest p.op && region p.addr == .far k
def nearWaiting (s : State) (c : Nat) : List Pkg := s.net.filter fun p => isRequest p.op && region p.addr == .near c
def isHomeRequest (p : Pkg) : Bool := isRequest p.op && (match region p.addr with | .far _ | .near _ => true | _ => false)
abbrev farDepth : Nat := 512
abbrev nearDepth : Nat := 128
/-- Packets that have come to a site and still lie in the receive buffer of the link they came by: requests in the home's queue
have left it (R173, R193). -/
def inBuffers (s : State) (site : Nat) : List Pkg :=
  (s.net.filter fun p => strapSite p.dst == site && !isHomeRequest p) ++
    (match siteKind site with
     | (0, c) => (nearWaiting s c).drop nearDepth
     | (1, k) => (farWaiting s k).drop farDepth
     | _ => [])
/-- The machine packet of a cargo as it crosses, and the prism die that sends or takes it. -/
def Cargo.mpk : Cargo → Mpk
  | .engine _ q => q.pkt
  | .inject e => e.pkt
  | .answer _ p _ => p
def Cargo.pd : Cargo → Nat
  | .engine oe _ => oePd oe
  | .inject e => oePd e.oe
  | .answer pd _ _ => pd
/-- The pool of a packet on a link: on prism links a machine packet's virtual channel (R194). -/
def linkPool (link : Nat) (p : Pkg) (c : Option Cargo) : Nat :=
  match c with
  | some c => if prismLinks link then mpkVc c.mpk else pkgPool p
  | none => pkgPool p
/-- The package packet that carries a machine packet between two sites (R272). -/
def carrier (p : Mpk) (origin a b : Nat) : Pkg :=
  { dst := siteStrap b, src := siteStrap a, op := p.op, pclass := p.tc, ctx := p.ctx, gen := p.gen, len := p.data.length / 32,
    origin := origin, slot := p.slot, srcEngine := p.srcEngine }
/-- Credits of a pool that machine packets at a prism die hold which came over a direction and have not been taken in. -/
def landedUsed (x : PdSt) (k pool : Nat) : Nat :=
  (x.landed.filter fun l => l.came == k + 1 && linkPool (k / 2) (carrier l.cargo.mpk 1 0 0) (some l.cargo) == pool).foldl
      (fun n l => n + pkgCredits (carrier l.cargo.mpk 1 0 0)) 0 +
    (x.inject.filter fun e => e.came == k + 1 && pool == 2 * e.pkt.tc).foldl (fun n e => n + pkgCredits (carrier e.pkt 0 0 0)) 0
/-- Credits in use of a direction's pool: by packets in the receiver's buffer, at its die or waiting there for the next link.
DESIGN CHOICE (log 109), unsafe. -/
def creditsUsed (s : State) (k pool : Nat) : Nat :=
  ((inBuffers s (keyTo k)).filter fun p => pkgPool p == pool && (pkgRoute p).getLast?.map hopKey == some k).foldl
      (fun n p => n + pkgCredits p) 0 +
    s.dirs.foldl (fun n e => (e.2.port.filter fun w => w.came == k + 1 && linkPool (k / 2) w.pkt w.cargo == pool).foldl
      (fun n w => n + pkgCredits w.pkt) n) 0 +
    s.pds.foldl (fun n e => n + landedUsed e.2 k pool) 0
/-- A transmitter holds the credits of a packet for its pool (R193): what the packets known here and the packets of received flits
leave. -/
def poolRoom (s : State) (k pool : Nat) (p : Pkg) : Bool :=
  decide (creditsUsed s k pool + tget 0 (getDir s k).credits pool + pkgCredits p ≤ poolSize (k / 2) pool)
def hasRoom (s : State) (k : Nat) (p : Pkg) : Bool := poolRoom s k (pkgPool p) p

/-- A far die's request queue becomes full, or has room again (R173). -/
def noteQueue (k : Nat) (s : State) : State :=
  let full := decide (farDepth ≤ (farWaiting s k).length)
  let at_ := (getFd s k).fullAt
  let now := wall s
  if full && at_ == 0 then updFd k (fun x => { x with fullAt := now + 1 }) s
  else if !full && at_ != 0 then bump oFarQueueFullNs (k + 1) (now + 1 - at_) (updFd k (fun x => { x with fullAt := 0 }) s)
  else s
/-- What the coming or going of a packet does to its home's queue. -/
def noteHome (p : Pkg) (s : State) : State :=
  match region p.addr with
  | .far k => if isRequest p.op then noteQueue k s else s
  | _ => s

/-! ## Output ports (R203) -/

/-- The oldest of the packets at a port; of those that came at once, the one from the lower-numbered input. -/
def oldest (ws : List PortPkt) : Option PortPkt :=
  ws.foldl (fun m w =>
    match m with
    | none => some w
    | some v => if w.since < v.since ∨ (w.since = v.since ∧ w.came < v.came) then some w else some v) none

/-- PCLASS 3's unscheduled share of the port in the last 1 us is below 1/16 of the flit rate, 256 bytes a ns and module. -/
def controlShare (s : State) (k : Nat) : Bool :=
  let sent := ((getDir s k).recent.filter fun e => decide (wall s < e.1 + 1000)).foldl (fun n e => n + e.2) 0
  decide (16 * sent < 256 * linkModules (k / 2) * 1000)

/-- The order in which the unscheduled classes are served: PCLASS 3 first within its share, then 1, 0 and 2 in rotation; beyond
its share PCLASS 3 goes where no other class can.
DEDUCED (log 110), unsafe. -/
def classOrder (s : State) (k : Nat) : List Nat :=
  let t := (getDir s k).turn
  let rot := [[1, 0, 2].getD (t % 3) 0, [1, 0, 2].getD ((t + 1) % 3) 0, [1, 0, 2].getD ((t + 2) % 3) 0]
  if controlShare s k then 3 :: rot else rot ++ [3]

/-- Flits sent and not acknowledged, and whether a SEQ is one of them (R190). -/
def LinkDir.outstanding (x : LinkDir) : Nat := (x.nextSeq + 4096 - x.oldest) % 4096
def LinkDir.isOut (x : LinkDir) (q : Nat) : Bool := decide ((q + 4096 - x.oldest) % 4096 < x.outstanding)

/-- The flits that a packet may need are within the 4,095 that may be unacknowledged (R190). -/
def LinkDir.flitRoom (x : LinkDir) (p : Pkg) : Bool := decide (x.outstanding + (x.tx.length + pkgBytes p) / 244 + 1 ≤ 4095)
/-- A packet at a port can go: its link carries flits, the die forwards, and the credits are there; a FAILED link takes it to
discard it (R207, R209, R210). -/
def canGo (s : State) (k : Nat) (w : PortPkt) : Bool :=
  let st := (getLink s (k / 2)).state
  (w.came == 0 || forwards s (keyFrom k)) &&
    (st == 5 || (st == 3 && poolRoom s k (linkPool (k / 2) w.pkt w.cargo) w.pkt && (getDir s k).flitRoom w.pkt))

/-- The next packet of a port (R203): the oldest scheduled one, and where none can go an unscheduled one. A packet that waits for its
full pool holds back its own traffic alone (R194), so no more than one unscheduled packet goes between two scheduled ones while a
scheduled one that could go waits. -/
def portNext (s : State) (k : Nat) (x : LinkDir) : Option PortPkt :=
  let go := x.port.filter (canGo s k)
  match oldest (go.filter (·.pkt.origin == 0)) with
  | some w => some w
  | none => (classOrder s k).findSome? fun c => oldest (go.filter fun w => w.pkt.origin != 0 && w.pkt.pclass == c)

/-- The bytes of a crossing count by direction and scheduling (R203, R218; log 43). -/
def countHop (p : Pkg) (h : Hop) (s : State) : State :=
  bumpBlob oPkgLinkBytes (h.1 + 1) ((if p.origin = 0 then 0 else 2) + (if h.2 then 0 else 1)) 8 (pkgBytes p) s

/-- A machine packet's way over the package is over: one for an injection buffer waits there for its room, any other until its end
takes it in, or the loss is answered for. -/
def land (c : Cargo) (ok : Bool) (came : Nat) (s : State) : State :=
  updPd c.pd (fun x =>
    match c, ok with
    | .inject e, true => { x with inject := x.inject ++ [{ e with came := came }] }
    | _, _ => { x with landed := x.landed ++ [{ cargo := c, ok := ok, came := came }] }) s

/-- A packet discarded as unroutable (R198, R209): counted at the link, logged at the router's site, answered with
STATUS 0x8 where it is an unposted request; its prism die answers for a machine packet. -/
def lose (p : Pkg) (c : Option Cargo) (link site : Nat) (s : State) : State :=
  let s := bump oPkgUnroutable (link + 1) 1 (report site 0x0303 0 p.ctx p.gen (p.op + p.dst * 256) s)
  match c with
  | some c => land c false 0 s
  | none => if awaited p then { s with net := s.net ++ [answer p 8 []] } else s
def unroutable (p : Pkg) (link site : Nat) (s : State) : State := lose p none link site s

/-- A packet comes to a die: it has arrived where no link is left to cross, and else waits at its next port. A scheduled one
that finds another there is a conflict (R206). -/
def place (p : Pkg) (c : Option Cargo) (came : Nat) (rest : List Hop) (s : State) : State :=
  match rest with
  | [] =>
    match c with
    | some c => land c true came s
    | none => noteHome p { s with net := s.net ++ [p] }
  | h :: _ =>
    let k := hopKey h
    let w : PortPkt := { pkt := p, cargo := c, rest := rest, came := came, since := wall s }
    let clash := p.origin == 0 && (getDir s k).port.any (·.pkt.origin == 0)
    let s := updDir k (fun x => { x with port := x.port ++ [w] }) s
    if clash then bump oPkgSchedConflicts (h.1 + 1) 1 s else s

/-! ## Flits: CRC-64 (R187) and header (R186) -/

/-- One bit of the reflected polynomial 0x42F0_E1EB_A9EA_3693. -/
def crcBit (c : Nat) : Nat := if c % 2 = 1 then Nat.xor (c / 2) 0xC96C5795D7870F42 else c / 2
def crcByte (c : Nat) (b : Byte) : Nat := crcBit (crcBit (crcBit (crcBit (crcBit (crcBit (crcBit (crcBit (Nat.xor c b.toNat))))))))
def crc64 (l : List Byte) : Nat := Nat.xor (l.foldl crcByte 0xFFFFFFFFFFFFFFFF) 0xFFFFFFFFFFFFFFFF


def flitHead (b : List Byte) : Nat := leNat (slice b 0 4)
def flitSeq (b : List Byte) : Nat := bits (flitHead b) 20 12
def flitAck (b : List Byte) : Nat := bits (flitHead b) 8 12
def flitPool (b : List Byte) : Nat := bits (flitHead b) 5 3
def flitCount (b : List Byte) : Nat := bits (flitHead b) 0 5
def flitGood (b : List Byte) : Bool := b.length == 256 && crc64 (b.take 248) == leNat (slice b 248 8)

/-! ## Packets into flits (R186 to R190) -/

/-- The bytes of a packet in the packet stream (R195, R272). -/
def PortPkt.bytes (w : PortPkt) : List Byte :=
  pkgHeader w.pkt ++ (match w.cargo with
    | some c => mpkBytes c.mpk
    | none => slice w.pkt.data 0 (32 * payloadUnits w.pkt))

/-- A flit: its header, the packet stream padded with zeros, its CRC (R186 to R188). -/
def flitBytes (seq ack pool count : Nat) (stream : List Byte) : List Byte :=
  let b := leBytes 4 (seq % 4096 * 2 ^ 20 + ack % 4096 * 2 ^ 8 + pool % 8 * 32 + count % 32) ++ slice stream 0 244
  b ++ leBytes 8 (crc64 b)

/-- The module that carries a flit: consecutive ones take the trained modules in rotation (R189). -/
def flitModule (s : State) (link seq : Nat) : Nat := seq % max 1 (getLink s link).modules

/-- The transmitter of a direction sends a flit and keeps it: it acknowledges what the other direction brought in order, and returns
up to 31 credits of one of its pools (R186, R190, R191, R193). -/
def keepFlit (k : Nat) (stream : List Byte) (s : State) : State :=
  let other := if k % 2 = 0 then k + 1 else k - 1
  let x := getDir s k
  let y := getDir s other
  let (pool, left) := (y.returns.find? fun e => e.2 != 0).getD (0, 0)
  let n := min 31 left
  let b := flitBytes x.nextSeq (y.expSeq + 4095) pool n stream
  updDir other (fun y => { y with returns := tset 0 y.returns pool (left - n) })
    (updDir k (fun x => { x with nextSeq := (x.nextSeq + 1) % 4096, unacked := x.unacked ++ [(x.nextSeq, b)] }) s)

/-- A direction's packet stream goes out in flits, the last one padded (R188). Where no earlier flit of the direction is
unacknowledged they are accepted and acknowledged as the packets cross; else each is kept until it is acknowledged.
DESIGN CHOICE (log 109), unsafe. -/
def packStream (k : Nat) (s : State) : State :=
  let x := getDir s k
  let n := ceilDiv x.tx.length 244
  let seqs (x : LinkDir) : LinkDir :=
    { x with tx := [], nextSeq := (x.nextSeq + n) % 4096, oldest := (x.oldest + n) % 4096, expSeq := (x.expSeq + n) % 4096 }
  if n = 0 then s
  else if x.outstanding = 0 ∧ !x.discarding then updDir k seqs s
  else (List.range n).foldl (fun s i => keepFlit k (slice x.tx (244 * i) (min 244 (x.tx.length - 244 * i))) s)
    (updDir k (fun x => { x with tx := [] }) s)

/-- A direction as training leaves it (R193): retry, sequence and credits begin anew, and packets that wait for the link go on
waiting (R19). -/
def LinkDir.fresh (x : LinkDir) : LinkDir := { port := x.port, turn := x.turn, recent := x.recent }

/-- What a port records of a packet it sends: its bytes join the packet stream. -/
def LinkDir.sent (x : LinkDir) (w : PortPkt) (now : Nat) : LinkDir :=
  let un := w.pkt.origin != 0
  { x with port := x.port.erase w, tx := x.tx ++ w.bytes,
           turn := if un && w.pkt.pclass != 3 then ([1, 0, 2].idxOf w.pkt.pclass + 1) % 3 else x.turn,
           recent := if un && w.pkt.pclass == 3 then (x.recent.filter fun e => decide (now < e.1 + 1000)) ++ [(now, pkgBytes w.pkt)]
                     else x.recent }

/-- A packet crosses the link of its port, or is discarded there where the link is FAILED (R209). -/
def crossLink (k : Nat) (w : PortPkt) (s : State) : State :=
  let now := wall s
  if (getLink s (k / 2)).state = 5 then
    lose w.pkt w.cargo (k / 2) (keyFrom k) (updDir k (fun x => { x with port := x.port.erase w }) s)
  else
    let s := countHop w.pkt (k / 2, k % 2 == 0) (updDir k (fun x => x.sent w now) s)
    let s := if w.pkt.origin ≠ 0 ∧ w.since < now then bump oPkgUnschedWaitNs (k / 2 + 1) (now - w.since) s else s
    place w.pkt w.cargo (k + 1) w.rest.tail s

/-- Packets move on while they can: a packet takes no time to cross. What crossed a link together shares its flits.
DESIGN CHOICE (log 109), unsafe. -/
def moveN : Nat → State → State
  | 0, s => s
  | n + 1, s =>
    match s.dirs.findSome? fun e => (portNext s e.1 e.2).map fun w => (e.1, w) with
    | some (k, w) => moveN n (crossLink k w s)
    | none => s
def packAll (s : State) : State := s.dirs.foldl (fun s e => if e.2.tx.isEmpty then s else packStream e.1 s) s
def moveNet (s : State) : State :=
  packAll (moveN (s.dirs.foldl (fun n e => e.2.port.foldl (fun n w => n + w.rest.length) n) 0) s)

/-- Requests that stand in the queues of homes are removed from them (R182); what waited for their room moves on. -/
def dropQueued (gone : Pkg → Bool) (s : State) : State :=
  moveNet ((List.range 32).foldl (fun s k => noteQueue k s) { s with net := s.net.filter fun p => !(isHomeRequest p && gone p) })

/-! ## Sending -/

/-- A packet enters the package network; one for a die that is no route end is discarded at the first router (R198). One without a
route counts at link 139.
DESIGN CHOICE (log 126), unsafe. -/
def sendPkg (p : Pkg) (s : State) : State :=
  let r := pkgRoute p
  if !isAdmitted s (strapSite p.dst) then unroutable p ((r.headD (139, true)).1) (strapSite p.src) s
  else moveNet (place p none 0 r s)

/-- A machine packet enters the package network at site `a` for site `b`, on behalf of a route end `fin` (R198, R272). -/
def sendCargo (c : Cargo) (origin a b fin : Nat) (s : State) : State :=
  let p := carrier c.mpk origin a fin
  let r := route p.op a b
  if !isAdmitted s fin then lose p (some c) ((r.headD (139, true)).1) a s else moveNet (place p (some c) 0 r s)

/-- A packet arrives: one copy of it leaves the network, and what waited for its room moves on.
DESIGN CHOICE (log 5), safe. -/
def arrive (p : Pkg) (s : State) : State := moveNet (noteHome p { s with net := s.net.erase p })

/-- The next tag of a source (12 bits, R195). -/
def takeTag (src : Nat) (s : State) : Nat × State :=
  let t := tget 0 s.tags src
  (t, { s with tags := tset 0 s.tags src ((t + 1) % 4096) })

/-- Issues a request that the owner of `t` waits for. -/
def request (p : Pkg) (t : Txn) (s : State) : State :=
  let (tag, s) := takeTag p.src s
  let p := { p with tag := tag }
  let s : State := { s with txns := s.txns ++ [{ t with src := p.src, tag := tag, ctx := p.ctx, gen := p.gen, req := p.op,
                                                        reqAddr := p.addr }] }
  sendPkg p s

/-- The outstanding request that a response answers; it is no longer outstanding. -/
def takeTxn (p : Pkg) (s : State) : Option Txn × State :=
  match s.txns.find? (fun t => t.src == p.dst && t.tag == p.tag) with
  | some t => (some t, { s with txns := s.txns.erase t })
  | none => (none, s)

/-- Answers a request unless it is posted. -/
def reply (p : Pkg) (status : Nat) (data : List Byte) (s : State) : State :=
  if p.posted then s else sendPkg (answer p status data) s

end Sys2Proof.Machine
end

