-- ==== Sys2Proof/Machine/Sequencer.lean ====
section
/-! DEFINITION. Machine/Sequencer.lean: streams, ready windows, issue, retirement, budgets, signals (R38 to R70),
SYNC, host writes to descriptor memory and the swap of its halves (R64 to R68). -/
namespace Sys2Proof.Machine
open Sys2Proof

/-- The ENGINE code (R38). -/
def engCode : Engine → Nat
  | .ma0 => 0 | .ma1 => 1 | .vu => 2 | .ce0 => 3 | .ce1 => 4 | .ce2 => 5 | .ce3 => 6 | .nbc => 7
def slotCode : Slot → Nat
  | .primary => 0 | .backfill => 1

/-- Descriptors in flight at most (R38). -/
def flyLimit (engine : Nat) : Nat := if engine ≤ 1 then 2 else if engine = 7 then 4 else 1

/-- The engine is free in the open frame of its facet: the idle-frame map's bit, or no primary bound (R41, R318). `primF` counts the
binding's first frame as 1, R318's F as 0.
DEDUCED (log 69), unsafe. -/
def freeFrame (s : State) (die engine : Nat) : Bool :=
  let c := boundCtx s (die / 8) 0
  if c = 0 then true
  else
    let m := tget [] s.idle die
    let period := leNat (m.take 2)
    period != 0 && bit ((m.getD (2 + ((getFacet s (die / 8)).primF - 1) % period) 0).toNat) engine

/-! ## Fetch (R40, R54, R61) -/

/-- The next descriptor of a stream is fetched in working cycle `cycle`, where its window has a free entry, and checked;
one that fails a check halts the stream. In which of the fetch's four cycles, as far as the frame has them, is not
stated: a free value (logs 6 and 95).
DEDUCED (log 73), unsafe. -/
def doFetch (die engine slot cycle : Nat) (s : State) : State :=
  let f := die / 8
  let s := toCycle f cycle s
  let x := getFacet s f
  let now := absCycle s f
  let st := getStream s die engine slot
  let ctx := boundCtx s f slot
  match st.fetch with
  | none => s
  | some i =>
    if !ticking x || ctx = 0 || (getCtx s ctx).state = 5 || st.haltWord ≠ 0 || 16 ≤ st.window.length ||
        x.frameCycles ≤ x.cyc || st.window.any (fun w => decide (now + 4 ≤ w.eligible)) then s
    else
      let half := (getCd s die).active
      let d := Desc.ofBytes (readBytes s (dmemBase die half + i * 128) 128) half i
      let why := decodeCheck s die engine slot ctx x.frameCycles d
      if why ≠ 0 then
        let (r, s) := drawFree s
        haltStream die engine slot { reason := why, desc := d, ctx := ctx, gen := (getCtx s ctx).gen,
                                     cyc := now + r % min 4 (x.frameCycles - x.cyc), decode := true } s
      else
        setStream die engine slot
          { st with window := st.window ++ [{ desc := d, eligible := now + 4 }],
                    fetch := if d.next = 0 then none else some ((i : Int) + d.next).toNat } s

/-! ## Issue (R56, R62) -/

/-- A wait's object is a counter, and whether it takes. -/
def Wait.isArr (w : Wait) : Bool := decide (3 ≤ w.kind)
def Wait.isTake (w : Wait) : Bool := w.kind == 2 || w.kind == 4

/-- Value of a wait's object at the start of the cycle. -/
def waitVal (s : State) (die : Nat) (w : Wait) : Nat := if w.isArr then arrGet s die w.obj else semGet s die w.obj

/-- The sum of a descriptor's takes on one object. -/
def takeSum (ws : List Wait) (w : Wait) : Nat :=
  (ws.filter (fun v => v.isTake && v.isArr == w.isArr && v.obj == w.obj)).foldl (fun n v => n + v.thr) 0

/-- Every wait is met (R55, R56): takes against what earlier takes of the cycle leave. A wait that takes nothing is judged by the
value at the start of the cycle, also where engines of lower code take from the object in the cycle: R56 does not say which value
counts then.
DESIGN CHOICE (log 119), unsafe. -/
def waitsMet (s : State) (die : Nat) (ws : List Wait) : Bool :=
  ws.all fun w =>
    w.kind == 0 || (decide (w.thr ≤ waitVal s die w) &&
      (!w.isTake || decide (takeSum ws w + taken s die w.isArr w.obj ≤ waitVal s die w)))

/-- An entry may issue now (R62, R137); `older` says that an older entry remains in the window.
DEDUCED (log 73), unsafe. -/
def mayIssue (s : State) (die engine : Nat) (older : Bool) (w : WinEntry) : Bool :=
  let x := getFacet s (die / 8)
  decide (w.eligible ≤ absCycle s (die / 8)) && waitsMet s die w.desc.waits && (!w.desc.order || !older) &&
    decide (w.desc.notBefore ≤ x.cyc) && decide (x.cyc + w.desc.budget ≤ frameRoom x.frameCycles engine)

/-- The oldest entry that may issue, and the rest of the window. -/
def pick (s : State) (die engine : Nat) : Bool → List WinEntry → Option (WinEntry × List WinEntry)
  | _, [] => none
  | older, w :: ws =>
    if mayIssue s die engine older w then some (w, ws)
    else (pick s die engine true ws).map fun (e, l) => (e, w :: l)

/-- Takes are applied together in the issue cycle (R56). -/
def applyTakes (die engine : Nat) (ws : List Wait) (s : State) : State :=
  ws.foldl (fun s w =>
    if w.isTake then semEvent die { isArr := w.isArr, obj := w.obj, kind := 2, code := engine, value := w.thr } s else s) s

/-- The stream an engine issues from in the open frame (R41). -/
def issueSlot (s : State) (die engine : Nat) : Nat := if freeFrame s die engine then 1 else 0

/-- What the engine issues in the present cycle, at most once in it, and the rest of its window (R62). Nothing issues once
both hubs have failed (R369). -/
def candidate (s : State) (die engine : Nat) : Option (WinEntry × List WinEntry) :=
  let f := die / 8
  let x := getFacet s f
  let slot := issueSlot s die engine
  let ctx := boundCtx s f slot
  let st := getStream s die engine slot
  let e := getEngine s die engine
  if !ticking x || (getCtx s ctx).state ≠ 3 || ctx = 0 || st.haltWord ≠ 0 || flyLimit engine ≤ e.fly.length ||
      x.frameCycles ≤ x.cyc || e.lastIssue == absCycle s f + 1 || s.hub.bothFailed then none
  else pick s die engine false st.window

/-- The takes of the engines with lower codes that issue in this cycle come first, whether or not their own commands have
come yet (R56). -/
def reserveLower (die engine : Nat) (s : State) : State :=
  (List.range engine).foldl (fun s e =>
    match candidate s die e with
    | some (w, _) => applyTakes die e w.desc.waits s
    | none => s) s

/-- The engine issues in working cycle `cycle` (R62). -/
def doIssue (die engine cycle : Nat) (s : State) : State :=
  let f := die / 8
  let s := toCycle f cycle s
  match candidate (reserveLower die engine s) die engine with
  | none => s
  | some (w, rest) =>
    let slot := issueSlot s die engine
    let ctx := boundCtx s f slot
    let now := absCycle s f
    let s := applyTakes die engine w.desc.waits
      (setStream die engine slot { getStream s die engine slot with window := rest } s)
    let y : InFlight := { uid := s.nextUid, slot := slot, desc := w.desc, ctx := ctx, gen := (getCtx s ctx).gen,
                          issue := now, deadline := now + w.desc.budget - 1 }
    updEngine die engine (fun e => { e with fly := e.fly ++ [y], lastIssue := now + 1 }) { s with nextUid := s.nextUid + 1 }

/-! ## Execution of a descriptor in flight -/

/-- The engine's oldest descriptor in flight that has not begun, where it carries the opcode.
DESIGN CHOICE (log 11), unsafe. -/
def nextExec (s : State) (die engine op : Nat) : Option InFlight :=
  match (getEngine s die engine).fly.find? (fun x => !x.executed) with
  | some x => if x.desc.opcode = op then some x else none
  | none => none

/-- Marks a descriptor as executed: its own work ends in cycle `fin`. -/
def markDone (die engine uid fin : Nat) (s : State) : State :=
  updFly die engine uid (fun x => { x with executed := true, finish := fin }) s

/-! ## Retirement and signals (R57, R58, R268) -/

/-- A signal goes out (R57, R58): into the own die's semaphore, or as a package packet. -/
def sendSignal (die engine : Nat) (x : InFlight) (g : Sig) (s : State) : State :=
  if g.kind = 0 then s
  else if g.die = die then
    semEvent die { obj := g.obj, kind := if g.kind = 2 then 0 else 1, code := engine, value := g.value } s
  else
    request { dst := g.die, src := die, op := if g.kind = 2 then 5 else 4, pclass := 3, ctx := x.ctx, gen := x.gen,
              len := 1, slot := x.slot, srcEngine := engine, addr := ctrlBase g.die + 4 * g.obj,
              data := leBytes 4 g.value } { owner := .eng die engine 0 } s

/-- The surplus of a descriptor's takes on a resource counter comes back (R268). -/
def giveSurplus (die : Nat) (x : InFlight) (s : State) : State :=
  let takes := x.desc.waits.filter fun w => w.kind == 4 && isResource w.obj
  (takes.map (·.obj)).eraseDups.foldl (fun s o =>
    let took := (takes.filter (·.obj == o)).foldl (fun n w => n + w.thr) 0
    let u := tget 0 x.used o
    if u < took then semEvent die { isArr := true, obj := o, kind := 1, value := took - u } s else s) s

/-- Top-k state of a slot is reset after a descriptor with KEEP = 0 retires (R155). -/
def topkKey (die slot u : Nat) : Nat := (die * 2 + slot) * 2048 + u
def endTopk (die : Nat) (x : InFlight) (s : State) : State :=
  if (x.desc.opcode = 0xCC ∨ x.desc.opcode = 0xCD) ∧ !x.desc.keep then
    { s with topk := tkeep s.topk fun k =>
        !(decide (topkKey die x.slot 0 ≤ k) && decide (k < topkKey die x.slot 2048) &&
          bit x.desc.layerMask (k % 2048 / 64) && (tget {} s.topk k).uid == x.uid) }
  else s

/-- A descriptor retires (R58): it leaves its engine, counts in its context, and its signals are sent. -/
def retire (die engine : Nat) (x : InFlight) (s : State) : State :=
  let s := updEngine die engine (fun e => { e with fly := e.fly.filter (fun y => y.uid != x.uid) }) s
  let s := updCtx x.ctx (fun c => { c with retired := c.retired + 1 }) s
  let s := endTopk die x (giveSurplus die x s)
  x.desc.sigs.foldl (fun s g => sendSignal die engine x g s) s

/-- May retire in cycle `c`: its work and every answer it waits for are done, within its budget (R58, R63). -/
def canRetire (x : InFlight) (c : Nat) : Bool :=
  x.executed && x.outstanding == 0 && !x.waitsSwap && decide (x.finish ≤ c) && decide (c ≤ x.deadline)

def doRetire (die engine cycle : Nat) (s : State) : State :=
  let s := toCycle (die / 8) cycle s
  match (getEngine s die engine).fly.find? (fun x => canRetire x (absCycle s (die / 8))) with
  | some x => retire die engine x s
  | none => s

/-- A descriptor in flight that cannot retire within its budget halts its stream in its last budgeted cycle (R63);
where that cycle ends the frame, the tick takes the halt. -/
def doOverrun (die engine : Nat) (s : State) : State :=
  let f := die / 8
  let x := getFacet s f
  let late (y : InFlight) : Bool := !canRetire y y.deadline && decide (y.deadline + 1 < x.cycBase + x.frameCycles)
  match (getEngine s die engine).fly.find? late with
  | some y => if ticking x then haltFly die engine y 0x40 y.deadline 0 0 s else s
  | none => s

/-- SYNC (R39): no work; it retires in its issue cycle. -/
def doSync (die engine : Nat) (s : State) : State :=
  match nextExec s die engine 0xF0 with
  | some x => if absCycle s (die / 8) = x.issue then retire die engine x s else s
  | none => s

/-! ## Swapping (R64 to R68) -/

/-- A write to descriptor memory is refused whole: the half is active, or sealed (R64, R66). -/
def dmemSealed (s : State) (die half : Nat) : Bool := half == (getCd s die).active || (getCd s die).pendingSwap

/-- A refused write is counted and logged (R73). -/
def dmemRefuse (die writer off ctx gen : Nat) (s : State) : State :=
  bump oDmemRefusedWrites (die + 1) 1 (report die 0x0102 writer ctx gen off s)

/-- An engine's write to descriptor memory lands in cycle `c`: a host-path write of the same cycle comes after it (R65). -/
def dmemPut (die c a : Nat) (bs : List Byte) (s : State) : State :=
  let later := ((getCd s die).hostWr.filter fun w => decide (c ≤ w.1)).reverse
  writeBytes a ((List.range bs.length).map fun i =>
    match later.find? fun w => decide (w.2.1 ≤ a + i) && decide (a + i < w.2.1 + w.2.2.length) with
    | some w => w.2.2.getD (a + i - w.2.1) 0
    | none => bs.getD i 0) s

/-- The first check of R66 that the inactive half's header fails, 0 for none. -/
def headerCheck (s : State) (die half : Nat) : Nat :=
  let h := readBytes s (dmemBase die half) 256
  let base := leNat (slice h 4 2)
  let entry (o lo hi : Nat) : Bool :=
    (List.range 8).all fun k => let i := leNat (slice h (o + 2 * k) 2); i == 0 || (decide (lo ≤ i) && decide (i < hi))
  let f := die / 8
  let bound := boundCtx s f 0 != 0 || boundCtx s f 1 != 0
  if (slice h 6 2 ++ h.drop 40).any (· != 0) then 1
  else if h.getD 2 0 ≠ 1 then 2
  else if base < 2 ∨ 8192 < base then 3
  else if !entry 8 2 base || !entry 24 base 8192 then 4
  else if bound && leNat (slice h 0 2) != (getFacet s f).frameCycles then 5
  else 0

/-! ## Host-path requests at their die (R355, R356) -/

/-- What a request does: 0 reads, 1 writes, 2 an atomic. -/
def opClass : HostOp → Nat
  | .read => 0
  | .write => 1
  | .dmwr => 1
  | .atomic => 2
/-- Its length in bytes. -/
def reqLen (r : HostReq) : Nat := if opClass r.op = 1 then r.data.length else r.len

/-- A request's header, as its digest takes it (the model's layout).
DEDUCED (log 64), unsafe. -/
def reqHeader (r : HostReq) : List Byte :=
  [byte (match r.op with | .read => 0 | .write => 1 | .dmwr => 2 | .atomic => 3 + r.atomic), byte r.bar] ++ leBytes 8 r.off ++
    leBytes 4 (reqLen r) ++ leBytes 2 r.tag
/-- A refusal: counted, the first per reason in each 1 ms journaled; a non-posted request gets Unsupported Request.
DEDUCED (log 64), unsafe. -/
def refuseHost (h reason : Nat) (r : HostReq) (s : State) : State :=
  let w := wall s / 1000000 + 1
  let s := bumpBlob oFwRefused (h + 1) reason 8 1 s
  let s := if tget 0 (getHost s h).refusedWin reason = w then s
    else journal (4 + h) 0x07 0 (jOther h) ([byte reason] ++ slice (Config.sha512 (reqHeader r)) 0 16)
      (updHost h (fun x => { x with refusedWin := tset 0 x.refusedWin reason w }) s)
  if r.op = .write then s else emit (.hostCpl h r.tag 1 []) s

/-- A request of a host die's hub is on its way: what its completion will answer. -/
def hostOpen (hd addr tag : Nat) (s : State) : State :=
  let (t, s) := takeTag (0x80 + hd) s
  { s with txns := s.txns ++ [{ src := 0x80 + hd, tag := t, owner := .host hd tag, req := 0x30, reqAddr := addr }] }

/-- The die answers a host-path request at its hub, which completes it (R66, R356): STATUS 0, 6 or 0xA. -/
def hostAnswer (hd die tag status : Nat) (s : State) : State :=
  match s.txns.find? (fun t => t.src == 0x80 + hd && t.owner == .host hd tag) with
  | some t => sendPkg { dst := 0x80 + hd, src := die, op := 0x30, pclass := 1, origin := 2, tag := t.tag, status := status,
                        addr := t.reqAddr } s
  | none => s

/-! ## Requests to swap (R66, R67) -/

/-- A packet on its way that writes descriptor memory of a die in a half. -/
def writesHalf (die half : Nat) (p : Pkg) : Bool :=
  (p.op == 2 || (p.op == 0x30 && !p.data.isEmpty && p.pclass != 1)) &&
    (match region p.addr with | .dmem d h _ => d == die && h == half | _ => false)
/-- The writes to the inactive half that have been accepted and not applied yet, by source and tag. -/
def halfWrites (s : State) (die : Nat) : List (Nat × Nat) :=
  (s.net.filter (writesHalf die (1 - (getCd s die).active))).map fun p => (p.src, p.tag)

/-- DMEM_SWAP (R39): the request waits for its acceptance, or has no effect while one is pending. -/
def doDmemSwap (die engine : Nat) (s : State) : State :=
  match nextExec s die engine 0xF1 with
  | some x =>
    let s := markDone die engine x.uid x.issue s
    if (getCd s die).pendingSwap then s
    else
      let s := updFly die engine x.uid (fun y => { y with waitsSwap := true }) s
      let before := halfWrites s die
      updCd die (fun c => { c with swapReqs := c.swapReqs ++ [{ engine := engine, uid := x.uid, before := before }] }) s
  | none => s

/-- DMEM_CTRL of a die (R46). -/
def dmemCtrlAt (die : Nat) : Nat := ctrlBase die + 0x2000
/-- A host die's write of 1 to SWAP_REQUEST reaches the die. -/
def doSwapRequest (hd die tag : Nat) (s : State) : State :=
  if (getCd s die).pendingSwap then hostAnswer hd die tag 0 s
  else
    let before := halfWrites s die
    updCd die (fun c => { c with swapReqs := c.swapReqs ++ [{ fromHost := true, hd := hd, tag := tag, before := before }] }) s

/-- The request's requester learns that it was taken, or had no effect. -/
def swapDone (die : Nat) (r : SwapReq) (s : State) : State :=
  if r.fromHost then hostAnswer r.hd die r.tag 0 s
  else updFly die r.engine r.uid (fun x => { x with waitsSwap := false, finish := max x.finish (absCycle s (die / 8)) }) s

/-- A refused request is logged (R66, R73); its descriptor halts with BAD_HEADER, or the hub learns STATUS 0xA. -/
def swapRefused (die n : Nat) (r : SwapReq) (s : State) : State :=
  if r.fromHost then hostAnswer r.hd die r.tag 0xA (report die 0x0106 0xF 0 0 n s)
  else match findFly s die r.engine r.uid with
    | some x =>
      haltFly die r.engine x 0x0A (absCycle s (die / 8)) 0 0 (report die 0x0106 r.engine x.ctx x.gen n s)
    | none => report die 0x0106 r.engine 0 0 n s

/-- The oldest swap request is judged (R66), once every write to the inactive half accepted before it has been applied. -/
def doSwapAccept (die : Nat) (s : State) : State :=
  match (getCd s die).swapReqs with
  | [] => s
  | r :: rest =>
    if (halfWrites s die).any (r.before.contains ·) then s
    else
      let s := updCd die (fun c => { c with swapReqs := rest }) (if r.fromHost then syncFacet (die / 8) s else s)
      if (getCd s die).pendingSwap then swapDone die r s
      else
        let n := headerCheck s die (1 - (getCd s die).active)
        if n ≠ 0 then swapRefused die n r s
        else
          let now := absCycle s (die / 8)
          let t := s.time
          swapDone die r (updCd die (fun c => { c with pendingSwap := true, swapHost := r.fromHost, swapAt := t,
                                                       swapCyc := now }) s)

/-- The tick at which a die's pending swap takes effect has its stamp at or before the present (R67). -/
def swapTaken (s : State) (die : Nat) : Bool :=
  let f := die / 8
  let c := getCd s die
  let t := 3 * tickStamp (tickTime s f)
  ticking (getFacet s f) && decide (t ≤ s.time) && (!c.swapHost || decide (c.swapAt < t))

/-- The pending request was accepted in the present cycle. -/
def sameCycle (s : State) (die : Nat) : Bool :=
  let x := getFacet s (die / 8)
  let c := getCd s die
  c.swapAt == s.time || (ticking x && decide (x.cyc < x.frameCycles) && c.swapCyc == absCycle s (die / 8))

/-- A host die's write of 1 to SWAP_CANCEL (R67): it comes too late at the stamp of the tick that takes the swap, and a
request accepted in the same cycle prevails. -/
def doSwapCancel (hd die tag : Nat) (s : State) : State :=
  let s := syncFacet (die / 8) s
  let s := if (getCd s die).pendingSwap && !swapTaken s die && !sameCycle s die then
      updCd die (fun c => { c with pendingSwap := false }) s
    else s
  hostAnswer hd die tag 0 s

/-- A host-path write at its die (R64, R65, R356): refused whole where any byte lies in an active or sealed half. -/
def hostDmem (hd offset : Nat) (data : List Byte) (tag : Nat) (s : State) : State :=
  match region offset, region (offset + data.length - 1) with
  | .dmem die h _, .dmem _ h' _ =>
    if dmemSealed s die h || dmemSealed s die h' then hostAnswer hd die tag 6 (dmemRefuse die 0xF offset 0 0 s)
    else
      let s := syncFacet (die / 8) s
      let x := getFacet s (die / 8)
      let s := if ticking x then
          let c := absCycle s (die / 8)
          updCd die (fun y => { y with hostWr := (y.hostWr.filter fun w => decide (x.cycBase ≤ w.1)) ++ [(c, offset, data)] }) s
        else s
      hostAnswer hd die tag 0 (writeBytes offset data s)
  | _, _ => s

/-- A write to descriptor memory that the host path lets through: a DMWr of 8 to 128 bytes in whole aligned 8-byte units of
one half of one die (R355, R356). -/
def dmemWhole (offset : Nat) (data : List Byte) : Bool :=
  let n := data.length
  decide (8 ≤ n) && decide (n ≤ 128) && offset % 8 == 0 && n % 8 == 0 &&
  (match region offset, region (offset + n - 1) with
   | .dmem d h _, .dmem d' h' _ => d == d' && h == h'
   | _, _ => false)

/-- HOST_DMEM_WRITE: refused at the hub as an operation refusal, or judged at its die. -/
def doHostDmem (hd offset : Nat) (data : List Byte) (tag : Nat) (s : State) : State :=
  if dmemWhole offset data then hostDmem hd offset data tag (hostOpen hd offset tag s)
  else refuseHost hd 1 { op := .dmwr, bar := 2, off := offset - dmemBase 0 0, data := data, tag := tag } s

/-- The index at which a stream starts in a half (R40, R43): none where SLOTS says that the slot has no streams, or the
entry is 0. -/
def entryOf (s : State) (die half engine slot : Nat) : Option Nat :=
  let i := leNat (readBytes s (dmemBase die half + 8 + 16 * slot + 2 * engine) 2)
  if i = 0 || !bit (leNat (readBytes s (dmemBase die half + 3) 1)) slot then none else some i

/-- Step 4 of a tick on one die (R67, R68): a pending swap accepted in the closing frame, or by the host path before
the stamp `t`, inverts the halves; windows empty, and streams start at the new half's entries. -/
def swapTick (die t : Nat) (s : State) : State × Bool :=
  let c := getCd s die
  if c.pendingSwap && (!c.swapHost || decide (c.swapAt < 3 * t)) then
    let h := 1 - c.active
    let s := updCd die (fun c => { c with active := h, pendingSwap := false, swapCount := (c.swapCount + 1) % 256,
                                          hostWr := [] }) s
    let s := (List.range 16).foldl (fun s k =>
      let st := getStream s die (k / 2) (k % 2)
      setStream die (k / 2) (k % 2) { st with window := [], fetch := entryOf s die h (k / 2) (k % 2) } s) s
    (s, true)
  else (s, false)

/-- DMEM_CTRL as it reads (R46). -/
def dmemCtrl (s : State) (die : Nat) : Nat :=
  let c := getCd s die
  c.active + 2 * bnat c.pendingSwap + c.swapCount * 2 ^ 16

/-! ## The commands -/

def execDescriptorFetch (die : Die) (engine : Engine) (slot : Slot) (cycle : Nat) (s : State) : Out :=
  .next (doFetch die (engCode engine) (slotCode slot) cycle s)
def execDescriptorIssue (die : Die) (engine : Engine) (cycle _expectStalls : Nat) (s : State) : Out :=
  .next (doIssue die (engCode engine) cycle s)
def execDescriptorRetire (die : Die) (engine : Engine) (cycle : Nat) (s : State) : Out :=
  .next (doRetire die (engCode engine) cycle s)
def execFrameOverrun (die : Die) (engine : Engine) (s : State) : Out := .next (doOverrun die (engCode engine) s)
/-- A signal or store reaches a semaphore (R59). -/
def execSignalArrival (die : Die) (sem : Nat) (set : Bool) (code : Nat) (remote : Bool) (value : Nat) (s : State) : Out :=
  .next (if sem < 512 then
    semEvent die { obj := sem, kind := if set then 0 else 1, code := code, isRemote := remote, value := value } s else s)
def execSync (die : Die) (engine : Engine) (s : State) : Out := .next (doSync die (engCode engine) s)
def execDmemSwap (die : Die) (engine : Engine) (s : State) : Out := .next (doDmemSwap die (engCode engine) s)
def execSwapRequest (hd : Hd) (die : Die) (tag : Nat) (s : State) : Out := .next (doSwapRequest hd die tag (hostOpen hd (dmemCtrlAt die) tag s))
def execSwapRequestAccept (die : Die) (s : State) : Out := .next (doSwapAccept die s)
def execSwapCancel (hd : Hd) (die : Die) (tag : Nat) (s : State) : Out := .next (doSwapCancel hd die tag (hostOpen hd (dmemCtrlAt die) tag s))
def execHostDmemWrite (hd : Hd) (offset : Nat) (data : List Byte) (tag : Nat) (s : State) : Out :=
  .next (doHostDmem hd offset data tag s)

end Sys2Proof.Machine
end

