-- ==== Sys2Proof/Machine/Access.lean ====
section
/-! DEFINITION. Machine/Access.lean: accesses to a scratchpad, cycle by cycle: bank ports and their order (R98, R101 to R104),
slot flags (R108 to R110), error correction (R115), merged writes (R100), and how a run of a descriptor's accesses stalls
and stops; channels of the near stack (R133). -/
namespace Sys2Proof.Machine
open Sys2Proof

/-! ## Homes of addresses, and who made an inbound access -/

/-- The site of an address's home, 255 for none. -/
def homeSite (a : Nat) : Nat :=
  match region a with
  | .near c => c
  | .far k => 32 + k
  | .scratch c => c
  | .spHole c => c
  | .dmem c _ _ => c
  | .ctrl c _ => c
  | _ => 255

/-- The strap byte of an address's home. -/
def homeStrap (a : Nat) : Nat := siteStrap (homeSite a)

/-- A global address of this device. -/
def gAddr (s : State) (o : Nat) : Nat := (if nodeId s = 0x8000 then 0xFFFF else nodeId s) * 2 ^ 48 + o

/-- The outstanding request that a package request belongs to. -/
def txnOf (s : State) (p : Pkg) : Option Txn := s.txns.find? (fun t => t.src == p.src && t.tag == p.tag)

/-- Source node of the machine request that a package request of a prism die belongs to. -/
def srcNodeOf (s : State) (p : Pkg) : Nat :=
  match txnOf s p with
  | some t => (match t.owner with
    | .term i => ((s.terms.find? (fun x => x.id == i)).map (fun x => x.req.srcNode)).getD 0xFFFF
    | _ => 0xFFFF)
  | none => 0xFFFF

/-- An inbound access of the machine that fails at its home faults the context it names (R332). -/
def inboundFault (p : Pkg) (reason status : Nat) (s : State) : State :=
  if p.origin = 1 then
    chargeFault { ctx := p.ctx, gen := p.gen, reason := reason, source := 1, site := homeSite p.addr, slot := p.slot,
                  status := status, addr := gAddr s p.addr, srcNode := srcNodeOf s p } s
  else s

/-- A dropped inbound access is flagged at its source (R105): the copy engine's bit on its own die, or for the machine fabric a
fault of the context that owns the destination. -/
def flagSource (c : Nat) (p : Pkg) (s : State) : State :=
  inboundFault p 0x43 4 (if p.origin = 0 then setCe p.src p.srcEngine s
                         else report c 0x0207 0 p.ctx p.gen (p.addr - spBase c) s)

/-! ## Bank ports and near channels (R101 to R104, R133) -/

/-- An address of near memory; the layers, each a channel, that `n` bytes there touch (R130). -/
def isNear (a : Nat) : Bool := match region a with | .near _ => true | _ => false
def nearLayers (a n : Nat) : List Nat := (List.range (min 8 ((a + n - 1) / 2048 - a / 2048 + 1))).map fun i => (a / 2048 + i) % 8
/-- The stack cycle of a working cycle (R135). -/
def stackCycle (c : Nat) : Nat := 8 * c / 15

/-- An access in cycle `c` wants what a recorded one has: a bank port in that cycle, or a near channel in that stack cycle. -/
def clash (rank a n c : Nat) (w : SpAcc) : Bool :=
  if isNear a then
    isNear w.addr && stackCycle w.cyc == stackCycle c && (nearLayers a n).any fun l => (nearLayers w.addr w.len).contains l
  else w.cyc == c && !isNear w.addr && samePort rank a n w

/-- The cycle from which the domain of an address serves accesses (R114). -/
def spFrom (s : State) (die a : Nat) : Nat := if slotOf a < 15360 then (getCd s die).singleAt else (getCd s die).dualAt

/-- A recorded access that goes before one of a rank has what it wants in cycle `c`. -/
def beaten (s : State) (die rank a n c : Nat) : Bool :=
  (getCd s die).acc.any fun w =>
    (decide (w.rank < rank) || (rank == inboundRank && w.rank == inboundRank)) && clash rank a n c w
/-- An access of a rank cannot have its bank ports in cycle `c`: an access that goes before it has one, or its domain does not
serve yet. Inbound accesses go in order of arrival. Several accesses of one engine that want one port in one cycle are served
together: the spec gives no stall for an engine that meets itself.
DESIGN CHOICE (log 122), unsafe. -/
def spBusy (s : State) (die rank a n c : Nat) : Bool :=
  decide (c < spFrom s die a) ||
    beaten s die rank a n c

/-- The earliest access from cycle `c` on that meets one which goes before it. -/
def firstLoser (s : State) (die c : Nat) : Option SpAcc :=
  let l := (getCd s die).acc.takeWhile fun w => decide (c ≤ w.cyc + 15)
  l.reverse.find? fun w => decide (c ≤ w.cyc) && l.any fun v => decide (v.rank < w.rank) && clash w.rank w.addr w.len w.cyc v

/-- An access that loses its port to one whose command came later goes one cycle later (R101, R102): an engine's with all that
follows in its pipeline, so that its descriptors end a cycle later; a scheduled engine's lost cycle is counted. What it read or
wrote stands.
DESIGN CHOICE (log 11), unsafe. -/
def pushOne (die : Nat) (w : SpAcc) (s : State) : State :=
  let late (v : SpAcc) : Bool := if w.rank = inboundRank then v == w else v.rank == w.rank && decide (w.cyc ≤ v.cyc)
  let s := updCd die (fun x =>
    { x with acc := (x.acc.reverse.map fun v => if late v then { v with cyc := v.cyc + 1 } else v).foldl (fun l v => insertAcc v l) [] }) s
  if w.rank = inboundRank then s
  else
    let s := updEngine die (rankEngine w.rank) (fun e =>
      { e with fly := e.fly.map fun y =>
                 if y.executed && decide (w.cyc ≤ y.finish) then { y with finish := y.finish + 1, stalls := y.stalls + 1 } else y,
               passEnd := if w.cyc ≤ e.passEnd then e.passEnd + 1 else e.passEnd }) s
    if scheduled w.rank then bump oSpEngineStalls (die + 1) 1 s else s

/-- Accesses that lose their ports go later until none meets another. -/
def pushAll (die c : Nat) : Nat → State → State
  | 0, s => s
  | k + 1, s =>
    match firstLoser s die c with
    | some w => pushAll die c k (pushOne die w s)
    | none => s

/-- Records an access; a facet without working cycles has none to order. Recorded accesses that go after it give way. -/
def noteAcc (die : Nat) (w : SpAcc) (s : State) : State :=
  if ticking (getFacet s (die / 8)) then
    let meets := (getCd s die).acc.any fun v => decide (w.rank < v.rank) && clash v.rank v.addr v.len v.cyc w
    let s := updCd die (fun x => { x with acc := insertAcc w x.acc }) s
    if meets then pushAll die w.cyc (4 * (getCd s die).acc.length) s else s
  else s

/-- A response that is on its way says STATUS 0x4 (R104). -/
def lateStatus (p : Pkg) (s : State) : State :=
  { s with net := s.net.map fun q => if q.dst = p.src ∧ q.tag = p.tag ∧ q.pclass = 1 ∧ q.status = 0 then { q with status := 4 } else q }

/-- A port-B write turns out to meet a port-A write of its cycle (R104): it is dropped whole and its source is flagged (R105). -/
def dropB (die : Nat) (s : State) (w : SpAcc) : State :=
  let s := undoAcc die s w
  if w.rank = inboundRank then
    let s := collideInbound die w.addr s
    match w.pkt with
    | some p => lateStatus p (flagSource die p s)
    | none => s
  else
    let engine := rankEngine w.rank
    let s := collideLocal die engine w.addr s
    match findFly s die engine w.uid with
    | some x => if x.desc.collHalt then haltFly die engine x 0x43 w.cyc (gAddr s w.addr) 4 s else s
    | none => s

/-- Port-B writes of cycle `c` to a bank word of `[a, a + n)`. -/
def bWrites (s : State) (die a n c : Nat) : List SpAcc :=
  (getCd s die).acc.filter fun w =>
    w.cyc == c && w.write && !scheduled w.rank && dualPort w.addr && (spWords a n).any fun i => (spWords w.addr w.len).contains i

/-- An access of cycle `c` by an engine or a packet, `who`: a read is recorded. -/
def spSee (die : Nat) (who : SpAcc) (a n c : Nat) (s : State) : State := noteAcc die { who with cyc := c, addr := a, len := n } s
/-- A write is stored and recorded; a port-A write drops what port B wrote in its cycle (R104). -/
def spPut (die : Nat) (who : SpAcc) (a : Nat) (bs : List Byte) (c : Nat) (s : State) : State :=
  let s := if scheduled who.rank && dualPort a then (bWrites s die a bs.length c).foldl (dropB die) s else s
  let old := spBytes s die a bs.length (c + 1)
  noteAcc die { who with cyc := c, addr := a, len := bs.length, write := true, old := old } (spStore die a bs c s)

/-- A port-A write to a bank word of `[a, a + n)` falls in cycle `c` (R104). -/
def portAWrites (s : State) (die a n c : Nat) : Bool :=
  dualPort a && (getCd s die).acc.any fun w =>
    w.cyc == c && w.write && scheduled w.rank && (spWords a n).any fun i => (spWords w.addr w.len).contains i

/-- The first cycle from `c` on, of `k`, in which nothing stands in the way. -/
def settle (busy : Nat → Bool) : Nat → Nat → Nat
  | 0, c => c
  | k + 1, c => if busy c then settle busy k (c + 1) else c

/-- The cycle in which an inbound access that arrives now is served (R101, R133). -/
def inboundCycle (s : State) (die a n : Nat) : Nat :=
  settle (if isNear a then beaten s die inboundRank a n else spBusy s die inboundRank a n)
    (15 * (getCd s die).acc.length + 1) (absCycle s (die / 8))

/-! ## Runs -/

/-- A run of a descriptor's accesses: the state so far; the engine's rank at the bank ports; how many cycles it has lost
there, and 1 + the scheduled cycle judged last; the halt reason that stopped it (0 while it goes on) with its cycle, address
and STATUS, and the kind of event that it stopped in; data captured by reads, by key; slots whose D the descriptor has consumed,
by cycle. -/
structure Run where
  s : State
  rank : Nat := 0
  uid : Nat := 0
  shift : Nat := 0
  seen : Nat := 0
  why : Nat := 0
  cyc : Nat := 0
  addr : Nat := 0
  status : Nat := 0
  kind : Nat := 0
  a : Tab (List Byte) := []
  b : Tab (List Byte) := []
  eaten : List (Nat × Nat) := []

/-- Who makes a run's accesses, and the slots whose flags one changes. -/
def Run.who (r : Run) (flags : List Nat) : SpAcc := { rank := r.rank, uid := r.uid, flags := flags }
/-- The run stops. -/
def Run.stop (r : Run) (why cyc addr : Nat) : Run := { r with why := why, cyc := cyc, addr := addr }

/-- An event of a run: its cycle, its rank within the cycle, which access it is, and the layers of a near-bank event. -/
structure Ev where
  cyc : Nat := 0
  kind : Nat := 0
  n : Nat := 0
  col : Nat := 0
  mask : Nat := 0
deriving DecidableEq, Repr

def Ev.key (e : Ev) : Nat := e.cyc * 4 + e.kind
def insertEv (e : Ev) : List Ev → List Ev
  | [] => [e]
  | x :: xs => if e.key < x.key then e :: x :: xs else x :: insertEv e xs
/-- Events in the order of cycles; reads before writes. -/
def sortEv (l : List Ev) : List Ev := l.foldl (fun acc e => insertEv e acc) []

/-- Accesses to `[lo, hi)` are forgotten: what lay there is zero. -/
def dropAcc (die lo hi : Nat) (s : State) : State :=
  updCd die (fun x => { x with acc := x.acc.filter fun w => decide (w.addr + w.len ≤ lo) || decide (hi ≤ w.addr) }) s

/-- The near stack serves no copy engine in cycle `c`: the facet's refresh window is open (R137), or a near-bank command runs
on a layer that the access touches (R134). -/
def nearBusy (s : State) (die a n c : Nat) : Bool :=
  let x := getFacet s (die / 8)
  (ticking x && decide (x.cycBase + (x.frameCycles - refreshCycles x.frameCycles) ≤ c)) ||
    (getCd s die).cmdRun.any fun w => decide (w.2.1 ≤ c) && decide (c ≤ w.2.2) && (nearLayers a n).contains w.1

/-- An access of an engine cannot be served in cycle `c`. -/
def accBusy (s : State) (die rank : Nat) (c : Nat) (f : Nat × Nat) : Bool :=
  match region f.1 with
  | .scratch d => d == die && spBusy s die rank f.1 f.2 c
  | .near d => d == die && !scheduled rank && (nearBusy s die f.1 f.2 c || beaten s die rank f.1 f.2 c)
  | _ => false

/-- Stack cycles of `[c0, c)` in which the near stack holds an access count once (R135, R160). -/
def holdNear (die c0 c : Nat) (s : State) : State :=
  let lo := max c0 (getCd s die).heldTo
  if lo < c then bump oNearHeldCycles (die + 1) (8 * c / 15 - 8 * lo / 15) (updCd die (fun x => { x with heldTo := c }) s) else s

/-- An access of a run's engine in cycle `c` is held by the near stack. -/
def nearHolds (s : State) (die rank c : Nat) (f : Nat × Nat) : Bool :=
  match region f.1 with
  | .near _ => accBusy s die rank c f
  | _ => false

/-- The first time that a run comes to a scheduled cycle, its pipeline waits until every access of that cycle can be served
(R101, R102, R114): a scheduled engine's lost cycles are counted. Near accesses held count at the stack (R160). -/
def runStall (feet : Ev → List (Nat × Nat)) (die deadline : Nat) (l : List Ev) (e : Ev) (r : Run) : Run :=
  if r.why ≠ 0 ∨ r.seen = e.cyc + 1 then r
  else
    let fs := ((e :: l).takeWhile (·.cyc == e.cyc)).flatMap feet
    let c0 := e.cyc + r.shift
    let c := settle (fun c => fs.any (accBusy r.s die r.rank c)) (deadline + 1 - c0) c0
    let s := if c = c0 || !scheduled r.rank then r.s else bump oSpEngineStalls (die + 1) (c - c0) r.s
    let s := if fs.any (nearHolds r.s die r.rank c0) then
        holdNear die c0 (settle (fun c => fs.any (nearHolds r.s die r.rank c)) (deadline + 1 - c0) c0) s else s
    { r with s := s, shift := r.shift + (c - c0), seen := e.cyc + 1 }

/-- Events in order until the deadline, or until one stops the run; each in its scheduled cycle plus those lost before it. -/
def runGo (act : Ev → Run → Run) (feet : Ev → List (Nat × Nat)) (die deadline : Nat) : List Ev → Run → Run
  | [], r => r
  | e :: es, r =>
    let r := runStall feet die deadline es e r
    runGo act feet die deadline es
      (if r.why ≠ 0 ∨ deadline < e.cyc + r.shift then r
       else
         let r' := act { e with cyc := e.cyc + r.shift } r
         if r'.why = 0 then r' else { r' with kind := e.kind })

/-- A run of an engine's events; `feet` are the bytes that an event's accesses touch.
DESIGN CHOICE (log 11), unsafe. -/
def runEvs (act : Ev → Run → Run) (feet : Ev → List (Nat × Nat)) (die engine : Nat) (x : InFlight) (l : List Ev) (s : State) : Run :=
  runGo act feet die x.deadline (sortEv l) { s := s, rank := portRank engine, uid := x.uid }

/-! ## Accesses -/

/-- A scratchpad's domain is on (R114). -/
def spOn (s : State) (die a : Nat) : Bool :=
  (if slotOf a < 15360 then (getCd s die).spSingle else (getCd s die).spDual) == 2

/-- An uncorrectable error touched by an access (R115, R337): counted and logged. -/
def spBad (die a ctx gen : Nat) (s : State) : State :=
  bump oSpUncorrectable (die + 1) 1 (report die 0x0201 0 ctx gen a s)
/-- Single-bit errors corrected in what a read of `n` bytes delivers (R115). -/
def spSoft (die a n : Nat) (s : State) : State :=
  let k := eccSoft s a n
  if k = 0 then s else bump oSpCorrected (die + 1) k s

/-- A read of `n` bytes at a scratchpad offset by a descriptor in flight; `chk` says that the slots are checked, `use`
which of them it consumes. -/
def spRead (die : Nat) (x : InFlight) (a n c : Nat) (chk : Bool) (use : List Nat) (r : Run) : List Byte × Run :=
  if chk && !readValid r.s die a n c then ([], r.stop 0x41 c a)
  else if eccBad r.s a n then ([], { r with s := spBad die a x.ctx x.gen r.s }.stop 0x60 c a)
  else (spBytes r.s die a n c, { r with s := slotsClear die use c (spSee die (r.who use) a n c (spSoft die a n r.s)) })

/-- A write at a scratchpad offset; `prod` are the slots it is the producing write of. -/
def spWrite (die : Nat) (a : Nat) (bs : List Byte) (c : Nat) (prod : List Nat) (r : Run) : Run :=
  if !writeClear r.s die prod c then r.stop 0x42 c a
  else { r with s := slotsSet die prod c (spPut die (r.who prod) a bs c r.s) }

/-- A write of an element narrower than 8 bytes merges into its 8-byte unit (R100): not into one with an uncorrectable
error, which faults. -/
def spMerge (die : Nat) (x : InFlight) (a : Nat) (bs : List Byte) (c : Nat) (prod : List Nat) (r : Run) : Run :=
  if eccBad r.s a bs.length && bs.length < 8 then { r with s := spBad die a x.ctx x.gen r.s }.stop 0x60 c a
  else
    let r := spWrite die a bs c prod r
    if r.why ≠ 0 || 8 ≤ bs.length then r
    else
      let s := spSoft die a bs.length r.s
      { r with s := { s with ecc := tclear s.ecc (a / 8) ((a + bs.length + 7) / 8) } }

/-- The flags of a D unit that is read and written in one cycle (R93, R109, R110): `first` are slots whose first read of
D this is, `last` those whose producing write it is. A slot that the descriptor consumes in this cycle, here or in another
unit, and produces in it, is one access. -/
def accFlags (die a c : Nat) (first last : List Nat) (r : Run) : Run :=
  if !first.all (fun sl => slotSeen r.s die sl c) then r.stop 0x41 c a
  else
    let r := { r with eaten := first.map (fun sl => (c, sl)) ++ r.eaten.filter (fun (p : Nat × Nat) => p.1 == c) }
    let prod := last.filter (fun sl => !r.eaten.contains (c, sl))
    if !writeClear r.s die prod c then r.stop 0x42 c a
    else { r with s := slotsSet die last c (slotsClear die (first.filter (fun sl => !last.contains sl)) c r.s) }

/-- What a run leaves: a stop halts the stream in its cycle; otherwise the descriptor's own work ends in cycle `fin`, later by
the cycles lost.
DESIGN CHOICE (log 11), unsafe. -/
def finishRun (die engine : Nat) (x : InFlight) (fin : Nat) (r : Run) : State :=
  if r.why ≠ 0 then haltFly die engine x r.why r.cyc (gAddr r.s (offset r.addr)) r.status r.s
  else markDone die engine x.uid (fin + r.shift) r.s

/-- Scratchpad operands of a descriptor whose domains are asleep or being zeroed hold it (R114). -/
def spHeld (s : State) (die : Nat) (d : Desc) : Bool :=
  [d.a, d.b, d.d].any fun o =>
    o.en && (scratchDie (offset o.base)).isSome && (scratchDie (offset o.base)).getD 0 == die &&
      (!spOn s die (d.lowOff o) || !spOn s die (offset (wrap 64 (d.high o))))

/-- What an operand's unit touches at an iteration, for the bank ports. -/
def Desc.foot (d : Desc) (o : Opnd) (u n : Nat) : Nat × Nat := (offset (d.addrAt o n), u)

/-! ## Port B (R103 to R105) -/

/-- A write cut into its bank words: address and bytes of each. -/
def wordParts (a : Nat) (bs : List Byte) : List (Nat × List Byte) :=
  (spWords a bs.length).map fun w =>
    let lo := max a (128 * w)
    (lo, (bs.drop (lo - a)).take (min (a + bs.length) (128 * w + 128) - lo))

/-- Slots of `prod` whose last bytes in `[a, a + n)` lie in a part of it. -/
def partSlots (prod : List Nat) (a n lo k : Nat) : List Nat :=
  prod.filter fun sl => (slotSpan lo k).contains sl && !(decide (lo + k < a + n) && (slotSpan (lo + k) (a + n - (lo + k))).contains sl)

end Sys2Proof.Machine
end

