-- ==== Sys2Proof/Machine/Home.lean ====
section
/-! DEFINITION. Machine/Home.lean: accesses at the home of an address (R261): held accesses, error correction of near and
far memory (R131, R178), read priority (R168), memory-side and bank atomics (R106, R171, R172) with the update buffers
(R174), control-space objects (R45, R126, R167), and the package requests RD, WR, AT_*, SIG_*, ARR_ADD (R196). -/
namespace Sys2Proof.Machine
open Sys2Proof

/-! ## Memory -/

/-- The memory of an address is ready (R114, R143, R177). -/
def memReady (s : State) (a : Nat) : Bool :=
  match region a with
  | .near c => (getCd s c).near == 3
  | .far k => (getFd s k).state == 3
  | .scratch c => spOn s c a
  | _ => true

/-- An access of `n` bytes that arrives now is held: its memory is not ready, or its near stack is in its facet's refresh
window (R137) or runs a command on a layer of the access (R134). -/
def homeHeld (s : State) (a n : Nat) : Bool :=
  !memReady s a ||
    (match region a with
     | .near c => (getFacet s (c / 8)).refreshOpen || nearBusy s c a n (absCycle s (c / 8))
     | _ => false)

/-- A held access of a near stack counts up to the cycle in which the stack serves again (R160). -/
def holdHere (a n : Nat) (s : State) : State :=
  match region a with
  | .near c =>
    if memReady s a then
      let x := getFacet s (c / 8)
      let now := absCycle s (c / 8)
      holdNear c now (settle (nearBusy s c a n) (x.cycBase + x.frameCycles - now) now) s
    else s
  | _ => s

/-- Granules of a far access (R162). -/
def granules (a n : Nat) : Nat := (a + n - 1) / 256 - a / 256 + 1
def farClass (k cls n : Nat) (s : State) : State := bumpBlob oFarGranulesByClass (k + 1) cls 8 n s

/-- The class-0 allowance of the window in progress (R168). -/
def allowance (x : FdSt) : Nat := x.winShare * x.winLen * 32 / 1000

/-- Channel of a far address (R163). -/
def farChannel (a : Nat) : Nat := a / 256 % 16
/-- The class in which a request is scheduled (R167, R168): class 0 only within the allowance; a demoted read stays in class 1. -/
def schedClass (x : FdSt) (p : Pkg) : Nat :=
  if p.op ≠ 1 then 1
  else if p.rdClass = 0 ∧ (allowance x ≤ x.c0Served ∨ x.demoted.contains (p.src, p.tag)) then 1
  else p.rdClass
/-- A class's weight, of the window in progress (R169). -/
def farWeight (s : State) (k cls : Nat) : Nat := bits (getFd s k).weights (8 * (cls - 1)) 8
/-- A class has served its weight in the round of a channel. -/
def spentRound (s : State) (k ch cls : Nat) : Bool := decide (farWeight s k cls ≤ tget 0 (getFd s k).robin (4 * ch + cls))

/-- Two requests touch one line. -/
def oneLine (p q : Pkg) : Bool :=
  decide (p.addr / 32 * 32 < q.addr / 32 * 32 + max 32 (32 * q.len)) && decide (q.addr / 32 * 32 < p.addr / 32 * 32 + max 32 (32 * p.len))

/-- A request at a far die is served next: it has a place in the queue (R173), none that arrived before it touches its line
(R166); a class-0 read within the allowance goes first, and classes 1 to 3 share the other slots of their channel by weighted
round robin (R168). The channel of its first granule judges it.
DESIGN CHOICE (log 106), safe. -/
def farTurn (s : State) (k : Nat) (p : Pkg) : Bool :=
  let x := getFd s k
  let ch := farChannel p.addr
  let all := farWaiting s k
  let here := all.take farDepth
  let others := ((here.erase p).filter fun q => farChannel q.addr == ch).map (schedClass x)
  let cls := schedClass x p
  (here.contains p || !all.contains p) && !(here.contains p && (here.takeWhile (· != p)).any (oneLine p)) &&
    (cls == 0 || (!others.contains 0 &&
      (!spentRound s k ch cls || others.all fun c => c == cls || spentRound s k ch c)))

/-- A served granule counts in its channel's round; where its class had served its weight a new round begins. -/
def granuleRound (k cls : Nat) (s : State) (ch : Nat) : State :=
  let full := spentRound s k ch cls
  updFd k (fun x =>
    let t := if full then tclear x.robin (4 * ch) (4 * ch + 4) else x.robin
    { x with robin := tset 0 t (4 * ch + cls) (tget 0 t (4 * ch + cls) + 1) }) s
/-- The `n` granules of a served request from an address on count, each in its channel (R163, R168). -/
def farRound (k a cls n : Nat) (s : State) : State :=
  if cls = 0 then s else ((List.range n).map fun i => farChannel (a + 256 * i)).foldl (granuleRound k cls) s

/-- A read of `n` granules is served (R168): class 0 within the allowance, the rest demoted to class 1. -/
def farServe (k a cls n : Nat) (s : State) : State :=
  if cls = 0 then
    let x := getFd s k
    let n0 := min n (allowance x - x.c0Served)
    let s := updFd k (fun x => { x with c0Served := x.c0Served + n0 }) (farClass k 0 n0 s)
    if n0 = n then s
    else farRound k (a + 256 * n0) 1 (n - n0) (farClass k 1 (n - n0) (bump oFarC0Demoted (k + 1) (n - n0) s))
  else farRound k a cls n (farClass k cls n s)

/-- The class that a read counts in when it is served: one demoted in an earlier window is of class 1 (R168). -/
def servedClass (p : Pkg) (n : Nat) (s : State) : Nat × State :=
  match region p.addr with
  | .far k =>
    if p.rdClass = 0 ∧ (getFd s k).demoted.contains (p.src, p.tag) then
      (1, bump oFarC0Demoted (k + 1) (granules p.addr n)
        (updFd k (fun x => { x with demoted := x.demoted.erase (p.src, p.tag) }) s))
    else (p.rdClass, s)
  | _ => (p.rdClass, s)

/-- Layer of a near address (R130). -/
def layerOf (a : Nat) : Nat := a / 2048 % 8

/-- The first word with an uncorrectable error that `n` bytes touch. -/
def badWord (s : State) (a n : Nat) : Nat :=
  match s.ecc.find? fun e => decide (a / 8 ≤ e.1) && decide (e.1 < (a + n + 7) / 8) && decide (2 ≤ e.2) with
  | some e => max a (8 * e.1)
  | none => a

/-- A read of near, far or scratchpad memory at its home, a scratchpad's in working cycle `cyc`: `none` where an
uncorrectable error is touched (R115, R131, R178), counted and logged. -/
def memRead (a n cls ctx gen cyc : Nat) (s : State) : Option (List Byte) × State :=
  match region a with
  | .near c =>
    if eccBad s a n then (none, bump oNearUncorrectable (c + 1) 1 (report c 0x0201 (layerOf (badWord s a n)) ctx gen a s))
    else
      let k := eccSoft s a n
      (some (readBytes s a n), if k = 0 then s else bump oNearCorrected (c + 1) k s)
  | .far k =>
    let s := farServe k a cls (granules a n) s
    if eccBad s a n then (none, bump oFarUncorrectable (k + 1) 1 (report (32 + k) 0x0201 0 ctx gen a s))
    else
      let j := eccSoft s a n
      (some (readBytes s a n),
       if j = 0 then s else bump oFarCorrected (k + 1) j { s with ecc := tclear s.ecc (a / 8) ((a + n + 7) / 8) })
  | .scratch c => if eccBad s a n then (none, spBad c a ctx gen s) else (some (spBytes s c a n cyc), spSoft c a n s)
  | _ => (some (readBytes s a n), s)

/-- Update buffers: the lines held, by line number, with 1 + the stamp of the latest update (R174). -/
def ubufChannel (line : Nat) : Nat × Nat :=
  match region (line * 32) with
  | .far k => (32 + k, line / 8 % 16)
  | _ => (homeSite (line * 32), line / 64 % 8)

/-- A store to a buffered line goes through the buffer (R173). -/
def ubufStore (a n : Nat) (s : State) : State :=
  { s with ubuf := s.ubuf.map fun e => if a / 32 ≤ e.1 ∧ e.1 ≤ (a + n - 1) / 32 then (e.1, wall s + 1) else e }

/-- An update enters the buffer of its channel, which holds 64 lines; the line longest without an update leaves.
DEDUCED (log 81), unsafe. -/
def ubufUpdate (a : Nat) (s : State) : State :=
  let line := a / 32
  let same := s.ubuf.filter fun e => ubufChannel e.1 == ubufChannel line
  let u := if tget 0 s.ubuf line = 0 ∧ 64 ≤ same.length then
      let oldest := same.foldl (fun m e => if e.2 < m.2 then e else m) (same.headD (0, 0))
      tdel s.ubuf oldest.1
    else s.ubuf
  { s with ubuf := tset 0 u line (wall s + 1) }

/-- A write of near or far memory at its home. Far writes are scheduled as class 1 (R167). -/
def memWrite (a : Nat) (bs : List Byte) (s : State) : State :=
  let s := writeBytes a bs s
  match region a with
  | .far k => ubufStore a bs.length (farRound k a 1 (granules a bs.length) (farClass k 1 (granules a bs.length) s))
  | .near _ => ubufStore a bs.length s
  | _ => s

/-- One bank word of an inbound write to a scratchpad in cycle `c`: dropped where a port-A write of the word falls in that
cycle (R104), not applied where a slot it produces is set (R108). -/
def landPart (die : Nat) (prod : List Nat) (a n c : Nat) (p : Option Pkg) (acc : Nat × State) (w : Nat × List Byte) : Nat × State :=
  let ps := partSlots prod a n w.1 w.2.length
  let s := acc.2
  if portAWrites s die w.1 w.2.length c then (if acc.1 = 0 then 4 else acc.1, collideInbound die w.1 s)
  else if !writeClear s die ps c then (if acc.1 = 0 then 5 else acc.1, s)
  else (acc.1, slotsSet die ps c (spPut die { rank := inboundRank, flags := ps, pkt := p } w.1 w.2 c s))

/-- An inbound write to a scratchpad, word by word: the first STATUS that is not zero. A port-A write of its cycle that is still to
come will drop it (R104). -/
def landBytes (die a : Nat) (bs : List Byte) (prod : List Nat) (p : Option Pkg) (s : State) : Nat × State :=
  let c := inboundCycle s die a bs.length
  (wordParts a bs).foldl (landPart die prod a bs.length c p) (0, s)

/-- An access to a near stack takes its channels in cycle `c` (R133). -/
def nearSee (who : SpAcc) (a n c : Nat) (s : State) : State :=
  match region a with
  | .near d => noteAcc d { who with cyc := c, addr := a, len := n } s
  | _ => s
/-- An inbound access to a near stack does so when its turn comes. -/
def nearInbound (a n : Nat) (s : State) : State :=
  match region a with
  | .near d => nearSee { rank := inboundRank } a n (inboundCycle s d a n) s
  | _ => s

/-! ## Near-bank command words (R145) -/

/-- The fields of a command word but its sequence number. -/
structure NbWord where
  cmd : Nat := 0
  mask : Nat := 0
  rows : Nat := 0
  words : Nat := 0
  batch : Nat := 0
  k : Nat := 0
  keep : Bool := false
  slot : Nat := 0
  fmtRow : Nat := 0
  fmtVec : Nat := 0
  prism : Bool := false
  op : Nat := 0
  round : Nat := 0
  seed : Nat := 0
  la : Nat := 0
  ly : Nat := 0
deriving DecidableEq, Repr

/-- The 128 bits (R145). Fields that a command does not use are 0.
DEDUCED (log 107), unsafe. -/
def NbWord.bits (w : NbWord) (seq : Nat) : Nat :=
  w.cmd * 2 ^ 124 + w.mask * 2 ^ 116 + w.rows * 2 ^ 108 + w.words * 2 ^ 100 + w.batch * 2 ^ 97 + w.k * 2 ^ 91 +
    bnat w.keep * 2 ^ 90 + w.slot * 2 ^ 89 + w.fmtRow * 2 ^ 85 + w.fmtVec * 2 ^ 81 + bnat w.prism * 2 ^ 80 + w.op * 2 ^ 78 +
    w.round * 2 ^ 76 + seq % 4096 * 2 ^ 64 + w.seed * 2 ^ 48 + w.la % 2 ^ 21 * 2 ^ 21 + w.ly % 2 ^ 21

/-- A command goes to the layers of its mask: counted, numbered, and held as the last command of each.
DEDUCED (log 107), unsafe. -/
def sendWord (die : Nat) (w : NbWord) (s : State) : State :=
  bump oNbcCommands (die + 1) 1 (updCd die (fun c =>
    { c with cmdSeq := (c.cmdSeq + 1) % 4096,
             lastCmd := ((List.range 8).filter (bit w.mask ·)).foldl (fun t l => tset 0 t l (w.bits c.cmdSeq)) c.lastCmd }) s)

/-! ## Atomics -/

/-- Operations: 0 add, 1 min, 2 max, 3 swap, 4 compare-and-swap. The types a home supports (R106, R171). -/
def atomOk (a op f : Nat) : Bool :=
  match region a with
  | .scratch _ => (op == 0 && (f == 0 || f == 10)) || (op == 3 && (f == 0 || f == 10 || f == 11))
  | _ => if op ≤ 2 then atomType f else op ≤ 4 && (f == 0 || f == 10 || f == 11)

/-- A line after an operation, element by element. -/
def atomLine (op f fr : Nat) (old x : List Byte) : List Byte :=
  let n := 256 / fmtBits f
  let l := (List.range n).zip ((elems f n old).zip (elems f n x))
  elemBytes f (l.map fun (i, o, v) => atomElem op f (Config.freeAt fr i 0) o v)

def atomCount (a : Nat) (s : State) : State :=
  match region a with
  | .far k => ubufUpdate a (farRound k a 1 1 (farClass k 1 1 (bump oFarAtomics (k + 1) 1 s)))
  | .near c => ubufUpdate a (bump oNearAtomics (c + 1) 1 s)
  | _ => s

/-- What an atomic at its home gives: the first STATUS that is not zero, the old bytes, and the last cycle of its port accesses. -/
structure AtomRes where
  status : Nat := 0
  old : List Byte := []
  cyc : Nat := 0

/-- One element of a bank atomic (R106): each bank applies one in a cycle, so it comes in the first cycle from the one before on in
which the bank's port is free, of those up to `lim`. A port-A write of its word in that cycle drops it (R104), an uncorrectable
word keeps it from being applied (R115). -/
def bankElem (die lim ctx gen op f fr a : Nat) (who : SpAcc) (acc : AtomRes × State) (e : Nat × List Byte) : AtomRes × State :=
  let r := acc.1
  let s := acc.2
  let n := fmtBits f / 8
  let b := a + e.1 * n
  let busy (c : Nat) : Bool := spBusy s die who.rank b n c || (getCd s die).acc.any fun w => decide (w.rank ≤ who.rank) && clash who.rank b n c w
  let c := settle busy (lim + 1 - r.cyc) r.cyc
  let first (st : Nat) : Nat := if r.status = 0 then st else r.status
  let old := spBytes s die b n c
  if lim < c then ({ r with status := first 0xF, cyc := c }, s)
  else if portAWrites s die b n c then
    ({ status := first 4, old := r.old ++ old, cyc := c },
     if who.rank = inboundRank then collideInbound die b s else collideLocal die (rankEngine who.rank) b s)
  else if eccBad s b n then ({ status := first 2, old := r.old ++ old, cyc := c }, spBad die b ctx gen s)
  else
    let s := spPut die who b (leBytes n (atomElem op f (Config.freeAt fr e.1 0) (leNat old) (leNat e.2))) c (spSoft die b n s)
    ({ r with old := r.old ++ old, cyc := c }, { s with ecc := tclear s.ecc (b / 8) ((b + n + 7) / 8) })
/-- Elements of a bank atomic one after another, from cycle `c` on. -/
def bankAtomics (die lim ctx gen op f a : Nat) (xs : List (List Byte)) (who : SpAcc) (c : Nat) (s : State) : AtomRes × State :=
  let fr := s.free
  ((List.range xs.length).zip xs).foldl (bankElem die lim ctx gen op f fr a who) ({ cyc := c }, { s with free := s.free + 1 })

/-- An atomic at its home (R106, R172): at a bank from cycle `c` on, up to `lim`. An unsupported type changes nothing and is
logged; in near and far memory an uncorrectable error anywhere in its line keeps it from being applied (R131, R178). Its read
and its write count as one granule each in *FAR_GRANULES_BY_CLASS*: the spec does not say how it counts.
DESIGN CHOICE (log 125), unsafe. -/
def homeAtomic (a op f : Nat) (x : List Byte) (ctx gen : Nat) (who : SpAcc) (c lim : Nat) (s : State) : AtomRes × State :=
  if !atomOk a op f then ({ status := 3, cyc := c }, report (homeSite a) 0x0206 0 ctx gen a s)
  else
    let line := a / 32 * 32
    let n := fmtBits f / 8
    match region a with
    | .scratch d => bankAtomics d lim ctx gen op f line ((List.range (32 / n)).map fun i => slice x (n * i) n) who c s
    | _ =>
      match memRead line 32 1 ctx gen c s with
      | (none, s) => ({ status := 2, cyc := c }, s)
      | (some whole, s) =>
        let s := atomCount a s
        if op = 4 then
          let old := slice whole (a % 32) n
          ({ old := old, cyc := c }, if old = slice x 0 n then writeBytes a (slice x 8 n) s else s)
        else
          let fr := s.free
          ({ old := whole, cyc := c }, writeBytes line (atomLine op f fr whole (slice x 0 32)) { s with free := s.free + 1 })

/-! ## Control space (R45, R105, R126, R167) -/

/-- Bytes of the control space of a die, by offset, as its objects hold them. -/
def ctrlWord (s : State) (die off : Nat) : Nat :=
  if off < 0x800 then semGet s die (off / 4)
  else if 0x1000 ≤ off ∧ off < 0x1800 then bits (arrGet s die ((off - 0x1000) / 8)) (off % 8 * 8) 32
  else if off / 4 = 0x800 then dmemCtrl s die
  else if 0x2100 ≤ off ∧ off < 0x2180 then
    let k := (off - 0x2100) / 8
    bits (getStream s die (k / 2) (k % 2)).haltWord (off % 8 * 8) 32
  else if 0x2200 ≤ off ∧ off < 0x2208 then bits (getCd s die).collision (off % 8 * 8) 32
  else if off / 4 = 0x8C0 then (getCd s die).farClass
  else if 0x4000 ≤ off ∧ off < 0x4800 then
    (List.range 32).foldl (fun n i => n + bnat (slotValid s die ((off - 0x4000) * 8 + i)) * 2 ^ i) 0
  else if 0x6000 ≤ off then leNat (slice (tget [] s.idle die) (off - 0x6000) 4)
  else 0

/-- `n` bytes of a die's control space from an offset (R6). -/
def ctrlRead (s : State) (die off n : Nat) : List Byte :=
  ((List.range (ceilDiv (off % 4 + n) 4)).flatMap fun i => leBytes 4 (ctrlWord s die (off / 4 * 4 + 4 * i))).drop (off % 4)
    |>.take n

/-- A store of an engine into control space (R59, R105, R126, R167): semaphores and counters are SET, the collision
word's bits are cleared, FAR_CLASS takes the fields of the storing context's slot.
DEDUCED (log 72), unsafe. -/
def ctrlWrite (die engine slot : Nat) (isRemote : Bool) (off : Nat) (bs : List Byte) (s : State) : State :=
  if off < 0x800 then
    (List.range (bs.length / 4)).foldl (fun s i =>
      semEvent die { obj := off / 4 + i, kind := 0, code := engine, isRemote := isRemote,
                     value := leNat (slice bs (4 * i) 4) } s) s
  else if 0x1000 ≤ off ∧ off < 0x1800 then
    (List.range (bs.length / 8)).foldl (fun s i =>
      semEvent die { isArr := true, obj := (off - 0x1000) / 8 + i, kind := 0, code := engine, isRemote := isRemote,
                     value := leNat (slice bs (8 * i) 8) } s) s
  else if off = 0x2200 then clearCollision die (leNat (slice bs 0 8)) s
  else if off = 0x2300 then
    let v := leNat (slice bs 0 4)
    updCd die (fun x => { x with farClass :=
      if slot = 0 then x.farClass / 256 * 256 + v % 256 else x.farClass % 256 + bits v 8 8 * 256 }) s
  else s

/-- The objects of a slot (R60) that `n` bytes of control space at an offset touch all belong to it. -/
def ctrlSlotOk (off n slot : Nat) : Bool :=
  if off < 0x800 then (if slot = 0 then decide (off + n ≤ 384 * 4) else decide (384 * 4 ≤ off) && decide (off + n ≤ 0x800))
  else if 0x1000 ≤ off ∧ off < 0x1800 then
    (if slot = 0 then decide (off + n ≤ 0x1000 + 192 * 8) else decide (0x1000 + 192 * 8 ≤ off) && decide (off + n ≤ 0x1800))
  else false

/-! ## Requests at their home -/

/-- The memory of the request is this home's, backed, and the context's own (R99, R328); else STATUS 0x1, logged where
the scratchpad is not backed. -/
def homeOwns (s : State) (p : Pkg) (n : Nat) : Bool :=
  memPlace p.addr == memPlace (p.addr + n - 1) && (match region (p.addr + n - 1) with | .spHole _ => false | _ => true) &&
    (match region p.addr with | .spHole _ => false | _ => true) && p.ctx != 0 && ownsRange s p.ctx p.addr n
def refuseAddr (p : Pkg) (s : State) : State :=
  let s := match region p.addr with
    | .spHole c => report c 0x0105 0 p.ctx p.gen (p.addr - spBase c) s
    | _ => s
  reply p 1 [] s

/-- A request reaches a die: it leaves the network; `none` where it is unroutable (R198) or not accepted by its
generation (R330).
DESIGN CHOICE (log 5), safe. -/
def takePkt (p : Pkg) (s : State) : Option State :=
  if isAdmitted s (strapSite p.dst) && ctxAccepts s p.ctx p.gen then some (arrive p s) else none
def turnAway (p : Pkg) (s : State) : State :=
  let s := arrive p s
  if !isAdmitted s (strapSite p.dst) then unroutable p 139 (strapSite p.src) s else discardGen p.ctx s

/-- A window of exchange memory that a firewall entry of another context fences from the device side (R217). -/
def fwFences (s : State) (ctx a n : Nat) : Bool :=
  [0, 1].any fun h =>
    let t := blobGet s oFwTable (h + 1)
    (List.range 32).any fun i =>
      let e := slice t (32 * i) 32
      let base := leNat (slice e 0 8)
      let size := leNat (slice e 8 8)
      let c := (e.getD 28 0).toNat
      c != 0 && c != ctx && size != 0 && decide (base < a + n) && decide (a < base + size)

/-- A request that its home does not serve now: memory not ready or held (R134, R137), no place in the queue (R173), or not its turn
(R166, R168). -/
def notNow (s : State) (p : Pkg) (n : Nat) : Bool :=
  homeHeld s p.addr n ||
    (match region p.addr with
     | .far k => !farTurn s k p
     | .near c => let l := nearWaiting s c; l.contains p && !(l.take nearDepth).contains p
     | _ => false)

/-- A write or atomic of a copy engine's descriptor or a terminated request, and one whose request is still on its way to its home. -/
def Txn.isWrite (t : Txn) : Bool :=
  (t.req == 2 || (0x08 ≤ t.req && t.req ≤ 0x0C)) && (match t.owner with | .eng _ _ _ | .term _ => true | _ => false)
def onWay (s : State) (t : Txn) : Bool :=
  let mine (q : Pkg) : Bool := q.src == t.src && q.tag == t.tag && q.op == t.req
  s.net.any mine || s.dirs.any fun e => e.2.port.any fun w => mine w.pkt
/-- Two writes of terminated requests whose order PINNED keeps at a home die: of one compute die and context of one node (R285). -/
def pinnedOrder (s : State) (t u : Txn) : Bool :=
  match t.owner, u.owner with
  | .term i, .term j =>
    (match s.terms.find? (·.id == i), s.terms.find? (·.id == j) with
     | some a, some b => !a.req.striped && !b.req.striped && a.req.srcNode == b.req.srcNode && a.req.srcDie == b.req.srcDie &&
         a.req.ctx == b.req.ctx && homeStrap t.reqAddr == homeStrap u.reqAddr
     | _, _ => false)
  | _, _ => false
/-- An earlier write that goes first is still on its way: writes of one descriptor are applied in iteration order (R126), those of a
remote compute die and context under PINNED in the order of their acceptance (R285). -/
def writeBehind (s : State) (p : Pkg) : Bool :=
  match txnOf s p with
  | some t => t.isWrite && (s.txns.takeWhile (· != t)).any fun u =>
      u.isWrite && (u.owner == t.owner || pinnedOrder s t u) && onWay s u
  | none => false

/-- RD at its destination (R196).
DEDUCED (log 72), unsafe. -/
def doRd (p : Pkg) (s0 : State) : State :=
  match takePkt p s0 with
  | none => turnAway p s0
  | some s =>
    let n := 32 * p.len
    let t := txnOf s p
    match region p.addr with
    | .dmem c h _ => if h = (getCd s c).active then reply p 1 [] s else reply p 0 (readBytes s p.addr n) s
    | .ctrl c x =>
      if (p.ctx = 0 ∨ slotOn s p.ctx (c / 8) = some p.slot) ∧ ctrlSlotOk x n p.slot then reply p 0 (ctrlRead s c x n) s
      else reply p 1 [] s
    | .hub => if p.ctx ≠ 0 ∧ fwFences s p.ctx p.addr n then reply p 7 [] s else reply p 0 (readBytes s p.addr n) s
    | .none => reply p 1 [] s
    | _ =>
      if notNow s0 p n then holdHere p.addr n s0
      else if !homeOwns s p n then refuseAddr p s
      else
        let c := (scratchDie p.addr).getD 0
        let now := inboundCycle s c p.addr n
        let chk := (t.map (·.chk)).getD false && (scratchDie p.addr).isSome
        if chk && !readValid s c p.addr n now then reply p 9 [] s
        else
        let (cls, s) := servedClass p n s
        match memRead p.addr n cls p.ctx p.gen now s with
          | (none, s) => reply p 2 [] (inboundFault p 0x60 2 s)
          | (some bs, s) =>
            reply p 0 bs (if (scratchDie p.addr).isSome then
              slotsClear c ((t.map (·.use)).getD []) now
                (spSee c { rank := inboundRank, flags := (t.map (·.use)).getD [] } p.addr n now s) else nearInbound p.addr n s)

/-- WR at its destination (R196). A write to descriptor memory that leaves its context's partition is answered with STATUS 0x1; it is no refused write of R73, and neither counts
nor is logged.
DESIGN CHOICE (log 96), unsafe. -/
def doWr (p : Pkg) (s0 : State) : State :=
  match takePkt p s0 with
  | none => turnAway p s0
  | some s =>
    let n := p.data.length
    if writeBehind s0 p then s0 else
    match region p.addr with
    | .dmem c h x =>
      if dmemSealed s c h then reply p 6 [] (dmemRefuse c p.srcEngine p.addr p.ctx p.gen s)
      else if p.ctx ≠ 0 ∧ !((slotOn s p.ctx (c / 8)).map (fun sl => inPartition s c h x n sl)).getD false then reply p 1 [] s
      else reply p 0 [] (dmemPut c (absCycle s (c / 8)) p.addr p.data s)
    | .ctrl c x =>
      if (p.ctx = 0 ∨ slotOn s p.ctx (c / 8) = some p.slot) ∧ ctrlSlotOk x n p.slot then
        reply p 0 [] (ctrlWrite c p.srcEngine p.slot (p.src != c) x p.data s)
      else reply p 1 [] s
    | .hub => if p.ctx ≠ 0 ∧ fwFences s p.ctx p.addr n then reply p 7 [] s else reply p 0 [] (writeBytes p.addr p.data s)
    | .none => reply p 1 [] s
    | _ =>
      if notNow s0 p n then holdHere p.addr n s0
      else if !homeOwns s p n then refuseAddr p s
      else match scratchDie p.addr with
        | none => reply p 0 [] (memWrite p.addr p.data (nearInbound p.addr n s))
        | some c =>
          let prod := if p.setValid then ((txnOf s p).map (·.use)).getD (slotSpan p.addr n) else []
          let (st, s) := landBytes c p.addr p.data prod (some p) s
          reply p st [] (if st = 4 then flagSource c p s else s)

/-- What a hub's host address answers to an access that is no plain read or write: a window fenced for another context is
refused first (R217). -/
def hubRefuses (p : Pkg) (n : Nat) (s : State) : State :=
  reply p (if p.ctx ≠ 0 ∧ fwFences s p.ctx p.addr n then 7 else 1) [] s

/-- An AT_* request at its home (R171): RET_OLD is bit [68], the low bit of a request's STATUS. At a bank it may lose to a
port-A write (R104, R106), and a copy engine's ATOM produces slots (R112). -/
def doAtomic (op : Nat) (p : Pkg) (s0 : State) : State :=
  match takePkt p s0 with
  | none => turnAway p s0
  | some s =>
    if writeBehind s0 p then s0 else
    match region p.addr with
    | .near _ | .far _ | .scratch _ | .spHole _ =>
      if notNow s0 p 32 then holdHere p.addr 32 s0
      else if !homeOwns s p 1 then refuseAddr p s
      else
        let c := (scratchDie p.addr).getD 0
        let a := p.addr / 32 * 32
        let now := inboundCycle s c a 32
        let prod := if p.setValid ∧ (scratchDie p.addr).isSome then ((txnOf s p).map (·.use)).getD [] else []
        if !writeClear s c prod now then reply p 5 [] s
        else
          let who : SpAcc := { rank := inboundRank, flags := prod, pkt := some p }
          let (r, s) := homeAtomic p.addr op p.etype p.data p.ctx p.gen who now (now + (getCd s c).acc.length + 16) (nearInbound a 32 s)
          let s := if r.status = 0 then slotsSet c prod r.cyc s
            else if r.status = 4 then flagSource c p s
            else inboundFault p (if r.status = 3 then 0x61 else 0x60) r.status s
          reply p r.status (if r.status = 0 ∧ p.status % 2 = 1 then r.old else []) s
    | .hub => hubRefuses p 32 s
    | _ => reply p 1 [] s

/-- SIG_ADD and SIG_SET at the semaphore's die (R57, R59). -/
def doSig (set : Bool) (p : Pkg) (s : State) : State :=
  match takePkt p s with
  | none => turnAway p s
  | some s =>
    match region p.addr with
    | .ctrl c x =>
      if x < 0x800 then
        reply p 0 [] (semEvent c { obj := x / 4, kind := if set then 0 else 1, code := p.srcEngine, isRemote := p.src != c,
                                   value := leNat (slice p.data 0 4) } s)
      else reply p 1 [] s
    | .hub => hubRefuses p 4 s
    | _ => reply p 1 [] s

/-- ARR_ADD at the counter's die (R272). -/
def doArrAdd (p : Pkg) (s : State) : State :=
  match takePkt p s with
  | none => turnAway p s
  | some s =>
    match region p.addr with
    | .ctrl c x =>
      if 0x1000 ≤ x ∧ x < 0x1800 then
        reply p 0 [] (semEvent c { isArr := true, obj := (x - 0x1000) / 8, kind := 1, isRemote := true,
                                   value := leNat (slice p.data 0 8) } s)
      else reply p 1 [] s
    | _ => reply p 1 [] s

end Sys2Proof.Machine
end

