-- ==== Sys2Proof/Machine/Copy.lean ====
section
/-! DEFINITION. Machine/Copy.lean: the copy engines' local forms COPY, FILL and ATOM (R125, R126), over the own die's
objects directly and over the package network elsewhere, room for responses (R202), and the bank atomics (R106). -/
namespace Sys2Proof.Machine
open Sys2Proof

/-- An address is an object of the engine's own die that it reaches without the package network (R205). -/
def ownDie (die a : Nat) : Bool :=
  match region a with
  | .near c => c == die
  | .scratch c => c == die
  | .dmem c _ _ => c == die
  | .ctrl c _ => c == die
  | _ => false

/-- The class of a far read by a copy engine (R167). -/
def copyClass (s : State) (die engine slot a : Nat) : Nat :=
  match region a with
  | .far _ => bits (getCd s die).farClass (8 * slot + 2 * (engine - 3)) 2
  | _ => 1

/-! ## Chunks (R126) -/

/-- A copy moves at most 256 bytes per cycle: the chunks of an iteration's unit of `u` bytes, and the bytes of chunk `j`. -/
def unitParts (u : Nat) : Nat := max 1 (ceilDiv u 256)
def chunkLen (u j : Nat) : Nat := min 256 (u - 256 * j)
/-- Address of chunk `j` of an operand's unit at iteration `n`. -/
def Desc.chunkAt (d : Desc) (o : Opnd) (n j : Nat) : Nat := offset (d.addrAt o n) + 256 * j

/-- Slots of D that iteration `n` writes last, where the descriptor produces. -/
def Desc.prodSlots (d : Desc) (n : Nat) : List Nat := if d.slotD then d.lastSlots d.d d.unitD n else []
/-- Slots of A that iteration `n` reads last, where the descriptor consumes. -/
def Desc.useSlots (d : Desc) (n : Nat) : List Nat := if d.consA then d.lastSlots d.a d.unitA n else []
/-- Those of a chunk. -/
def Desc.chunkProd (d : Desc) (n j : Nat) : List Nat :=
  partSlots (d.prodSlots n) (offset (d.addrAt d.d n)) d.unitD (d.chunkAt d.d n j) (chunkLen d.unitD j)
def Desc.chunkUse (d : Desc) (n j : Nat) : List Nat :=
  partSlots (d.useSlots n) (offset (d.addrAt d.a n)) d.unitA (d.chunkAt d.a n j) (chunkLen d.unitA j)

/-- One more answer is awaited by a descriptor in flight. -/
def oneMore (die engine uid : Nat) (s : State) : State :=
  updFly die engine uid (fun y => { y with outstanding := y.outstanding + 1 }) s

/-! ## Room for responses (R202) -/

/-- The landing area of a copy engine, and what the answers it waits for will fill of it (R202, R267).
DESIGN CHOICE (log 113), unsafe. -/
abbrev landingBytes : Nat := 0x40000
def landingUsed (s : State) (die engine : Nat) : Nat :=
  (s.txns.filter fun t => match t.owner with | .eng d e _ => d == die && e == engine | _ => false).foldl (fun n t => n + t.len) 0 +
    (s.mtxns.filter fun t => t.die == die && t.engine == engine).foldl (fun n t => n + 64 * t.landing) 0

/-- A request whose answer fills part of the landing area is issued only where that has room for it, and else waits (R202). -/
def askRoom (die engine : Nat) (p : Pkg) (t : Txn) (s : State) : State :=
  if !(getEngine s die engine).asks.isEmpty || decide (landingBytes < landingUsed s die engine + t.len) then
    updEngine die engine (fun e => { e with asks := e.asks ++ [(p, t)] }) s
  else request p t s

/-- Requests that waited for room are issued, oldest first; one whose descriptor is gone is dropped. -/
def sendAsksN : Nat → Nat → Nat → State → State
  | 0, _, _, s => s
  | n + 1, die, engine, s =>
    match (getEngine s die engine).asks with
    | [] => s
    | (p, t) :: _ =>
      let alive := match t.owner with | .eng d e u => (findFly s d e u).isSome | _ => true
      let next (s : State) : State := updEngine die engine (fun e => { e with asks := e.asks.tail }) s
      if !alive then sendAsksN n die engine (next s)
      else if landingBytes < landingUsed s die engine + t.len then s
      else sendAsksN n die engine (request p t (next s))
def sendAsks (die engine : Nat) (s : State) : State := sendAsksN (getEngine s die engine).asks.length die engine s

/-! ## Writes -/

/-- The first cycle from `c` on in which an access of the run's engine can be served, within its budget; later cycles stall the
run (R101, R137). -/
def accCycle (die deadline : Nat) (f : Nat × Nat) (c : Nat) (r : Run) : Nat :=
  settle (fun c => accBusy r.s die r.rank c f) (deadline + 1 - c) c

/-- One bank word of a copy engine's write to its own scratchpad (R104, R105): dropped where a port-A write of the word falls
in its cycle. -/
def copyWord (die engine : Nat) (x : InFlight) (prod : List Nat) (a n c : Nat) (r : Run) (w : Nat × List Byte) : Run :=
  if r.why ≠ 0 then r
  else if portAWrites r.s die w.1 w.2.length c then
    let r := { r with s := collideLocal die engine w.1 r.s }
    if x.desc.collHalt then { r.stop 0x43 c w.1 with status := 4 } else r
  else spWrite die w.1 w.2 c (partSlots prod a n w.1 w.2.length) r

/-- A write of a copy engine's data in cycle `c`: `prod` are the slots it is the producing write of. On the own die it is applied;
elsewhere a WR carries it. A write that has left its context's partition when it lands gives STATUS 0x1 (R65). -/
def copyPut (die engine : Nat) (x : InFlight) (a : Nat) (bs : List Byte) (c : Nat) (prod : List Nat) (r : Run) : Run :=
  if r.why ≠ 0 then r
  else if !ownDie die a then
    let p : Pkg := { dst := homeStrap a, src := die, op := 2, ctx := x.ctx, gen := x.gen, len := bs.length / 32,
                     setValid := !prod.isEmpty, slot := x.slot, srcEngine := engine, addr := a, data := bs }
    { r with s := request p { owner := .eng die engine x.uid, use := prod } (oneMore die engine x.uid r.s) }
  else
    let c' := accCycle die x.deadline (a, bs.length) c r
    let r := { r with shift := r.shift + (c' - c) }
    if x.deadline < c' then r.stop 0x40 x.deadline a
    else match region a with
    | .scratch _ => (wordParts a bs).foldl (copyWord die engine x prod a bs.length c') r
    | .dmem _ h o =>
      if dmemSealed r.s die h then { r with s := dmemRefuse die engine a x.ctx x.gen r.s }.stop 0x23 c' a
      else if !inPartition r.s die h o bs.length x.slot then { r.stop 0x20 c' a with status := 1 }
      else { r with s := dmemPut die c' a bs r.s }
    | .ctrl _ o => { r with s := ctrlWrite die engine x.slot false o bs r.s }
    | _ => { r with s := memWrite a bs (nearSee (r.who []) a bs.length c' r.s) }

/-- A part of a run that begins in a cycle of its own: the cycles it loses add to those lost before. -/
def Run.part (f : Run → Run) (r : Run) : Run :=
  let r' := f { r with shift := 0 }
  { r' with shift := r'.shift + r.shift }

/-- Old values of a swap go to B in iteration order, without slot checks: SLOT_B concerns reads (R106, R109, R126). -/
def oldStep (die engine : Nat) (x : InFlight) (c : Nat) (r : Run) (i : Nat) : Run :=
  match findFly r.s die engine x.uid with
  | none => r
  | some y =>
    match y.old.find? (fun e => e.1 == y.nextOld) with
    | none => r
    | some (n, bs) =>
      if r.why ≠ 0 then r
      else
        copyPut die engine x (offset (x.desc.addrAt x.desc.b n)) bs (c + r.shift + min i 1) []
          { r with shift := r.shift + min i 1, s := updFly die engine x.uid (fun y => { y with nextOld := n + 1, old := y.old.filter (·.1 != n) }) r.s }
def takeOld (die engine : Nat) (x : InFlight) (n c : Nat) (bs : List Byte) (r : Run) : Run :=
  if r.why ≠ 0 then r
  else
    let r := { r with s := updFly die engine x.uid (fun y => { y with old := tput y.old n bs }) r.s }
    let k := match findFly r.s die engine x.uid with | some y => y.old.length | none => 0
    r.part fun r => (List.range k).foldl (oldStep die engine x c) r

/-- Cycles that a line's elements after the first take at a bank of the own die: one each (R106). -/
def atomSpread (die : Nat) (d : Desc) : Nat :=
  if d.opcode = 0x82 ∧ scratchDie (d.lowOff d.d) = some die then 256 / fmtBits d.fmtD - 1 else 0

/-- Iteration `n` of ATOM with its operand line (R106, R125, R171). -/
def atomIter (die engine : Nat) (x : InFlight) (n c : Nat) (line : List Byte) (r : Run) : Run :=
  let d := x.desc
  let a := offset (d.addrAt d.d n)
  let swap := bits d.imm 0 2 == 1
  if r.why ≠ 0 then r
  else if !ownDie die a then
    let p : Pkg := { dst := homeStrap a, src := die, op := if swap then 0x0B else 0x08, ctx := x.ctx, gen := x.gen, len := 1,
                     etype := d.fmtD, status := bnat swap, setValid := !(d.prodSlots n).isEmpty, slot := x.slot,
                     srcEngine := engine, addr := a, data := line }
    { r with s := askRoom die engine p { owner := .eng die engine x.uid, len := 32 * bnat swap, it := n, use := d.prodSlots n }
                    (oneMore die engine x.uid r.s) }
  else
    let c' := accCycle die x.deadline (a, 32) c r
    let r := { r with shift := r.shift + (c' - c) }
    if x.deadline < c' then r.stop 0x40 x.deadline a
    else if !writeClear r.s die (d.prodSlots n) c' then r.stop 0x42 c' a
    else
      let (v, s) := homeAtomic a (if swap then 3 else 0) d.fmtD line x.ctx x.gen (r.who (d.prodSlots n)) c' x.deadline
        (nearSee (r.who []) a 32 c' r.s)
      let r := { r with s := s, shift := r.shift + (v.cyc - c' - atomSpread die d) }
      if v.status = 0xF then r.stop 0x40 x.deadline a
      else if v.status = 4 ∧ !d.collHalt then r
      else if v.status ≠ 0 then { r.stop (statusReason v.status d.collHalt) v.cyc a with status := v.status }
      else
        let r := { r with s := slotsSet die (d.prodSlots n) v.cyc r.s }
        if swap then takeOld die engine x n v.cyc v.old r else r

/-! ## Data in iteration order (R126) -/

/-- A part of a unit that goes elsewhere waits for the rest: a source hands over whole packets (R203). -/
def keepPart (die engine : Nat) (x : InFlight) (m : Nat) (bs : List Byte) (r : Run) : Run :=
  { r with s := updFly die engine x.uid (fun y => { y with old := tput y.old m bs }) r.s }
/-- The parts kept of the `k` chunks up to chunk `m`, with the last one's data; they are kept no longer. -/
def takeParts (die engine : Nat) (x : InFlight) (m k : Nat) (bs : List Byte) (r : Run) : List Byte × Run :=
  let parts := match findFly r.s die engine x.uid with | some y => y.old | none => []
  ((List.range (k - 1)).flatMap (fun j => tget [] parts (m + 1 - k + j)) ++ bs,
    { r with s := updFly die engine x.uid (fun y => { y with old := tclear y.old (m + 1 - k) m }) r.s })

/-- What a chunk's data does: chunk `m` counts through the iterations. -/
def chunkDo (die engine : Nat) (x : InFlight) (m c : Nat) (bs : List Byte) (r : Run) : Run :=
  let d := x.desc
  if d.opcode = 0x82 then atomIter die engine x m c bs r
  else
    let k := unitParts d.unitD
    let n := m / k
    let j := m % k
    let a := offset (d.addrAt d.d n)
    if ownDie die a then copyPut die engine x (d.chunkAt d.d n j) bs c (d.chunkProd n j) r
    else if r.why ≠ 0 then r
    else if j + 1 < k then keepPart die engine x m bs r
    else
      let (data, r) := takeParts die engine x m k bs r
      copyPut die engine x a data c (d.prodSlots n) r

/-- A write of a local descriptor to its own die waits while writes of earlier iterations are on their way to other dies (R126). -/
def putWaits (s : State) (die engine : Nat) (y : InFlight) : Bool :=
  decide (y.desc.opcode ≤ 0x82) && ownDie die (offset (y.desc.addrAt y.desc.d (y.nextPut / unitParts y.desc.unitD))) &&
    s.txns.any fun t => t.owner == .eng die engine y.uid && t.isWrite && onWay s t

/-- The next chunk in order whose data is there is written, one per cycle. -/
def giveStep (act : Nat → Nat → List Byte → Run → Run) (die engine uid c : Nat) (r : Run) (i : Nat) : Run :=
  match findFly r.s die engine uid with
  | none => r
  | some y =>
    match y.got.find? (fun e => e.1 == y.nextPut) with
    | none => r
    | some (m, bs) =>
      if r.why ≠ 0 || putWaits r.s die engine y then r
      else
        act m (c + r.shift + min i 1) bs
          { r with shift := r.shift + min i 1, s := updFly die engine uid (fun y => { y with nextPut := m + 1, got := y.got.filter (·.1 != m) }) r.s }

/-- The data of a chunk, or of the chunks of a whole unit, in pieces of 256 bytes. -/
def pieces (bs : List Byte) : List (List Byte) := (List.range (unitParts bs.length)).map fun j => slice bs (256 * j) (chunkLen bs.length j)

/-- Data has come, from chunk `m` on: what is next in order is used, the rest waits. -/
def giveData (act : Nat → Nat → List Byte → Run → Run) (die engine uid m c : Nat) (bs : List Byte) (r : Run) : Run :=
  if r.why ≠ 0 then r
  else
    let ps := pieces bs
    let r := { r with s := updFly die engine uid (fun y =>
      { y with got := (List.range ps.length).foldl (fun t i => tput t (m + i) (ps.getD i [])) y.got }) r.s }
    let k := match findFly r.s die engine uid with | some y => y.got.length | none => 0
    r.part fun r => (List.range k).foldl (giveStep act die engine uid c) r

/-- Data that waited for writes of earlier iterations elsewhere goes on (R126). -/
def resumePuts (die engine : Nat) (x : InFlight) (c : Nat) (r : Run) : Run :=
  let k := match findFly r.s die engine x.uid with | some y => y.got.length | none => 0
  if r.why ≠ 0 then r else r.part fun r => (List.range k).foldl (giveStep (chunkDo die engine x) die engine x.uid c) r

/-! ## Reads -/

/-- A read of the own die by a copy engine. -/
def copyGet (die : Nat) (x : InFlight) (a n c : Nat) (chk : Bool) (use : List Nat) (r : Run) : List Byte × Run :=
  match region a with
  | .scratch _ => spRead die x a n c chk use r
  | .near _ =>
    match memRead a n 1 x.ctx x.gen c r.s with
    | (none, s) => ([], { r with s := s }.stop 0x60 c a)
    | (some bs, s) => (bs, { r with s := nearSee (r.who []) a n c s })
  | .ctrl _ o => (ctrlRead r.s die o n, r)
  | _ => (readBytes r.s a n, r)

/-- Requests a read elsewhere of an iteration's whole unit, whose first chunk is `it`. -/
def copyAsk (die engine : Nat) (x : InFlight) (a n : Nat) (chk : Bool) (use : List Nat) (it : Nat) (s : State) : State :=
  askRoom die engine
    { dst := homeStrap a, src := die, op := 1, rdClass := copyClass s die engine x.slot a, ctx := x.ctx, gen := x.gen,
      len := n / 32, slot := x.slot, srcEngine := engine, addr := a }
    { owner := .eng die engine x.uid, len := n, chk := chk, use := use, it := it } (oneMore die engine x.uid s)

/-- Chunk `j` of iteration `n` of an operand A is read, here or elsewhere, and `act` gets its data in order. -/
def chunkRead (act : Nat → Nat → List Byte → Run → Run) (die engine : Nat) (x : InFlight) (n j c : Nat) (r : Run) : Run :=
  let d := x.desc
  let a := d.chunkAt d.a n j
  let len := chunkLen d.unitA j
  let m := n * unitParts d.unitA + j
  if ownDie die a then
    let (bs, r) := copyGet die x a len c d.slotA (d.chunkUse n j) r
    giveData act die engine x.uid m c bs r
  else if j = 0 then { r with s := copyAsk die engine x a d.unitA d.slotA (d.useSlots n) m r.s }
  else r

/-- The cycle in which chunk `j` of unit `n` is through: at most 256 bytes per working cycle (R126). -/
def copyCycle (t0 unit n j : Nat) : Nat := t0 + ceilDiv (n * unit + min unit (256 * (j + 1))) 256 - 1

/-- The own die's memory that a copy touches is not ready (R114, R143).
DEDUCED (log 72), unsafe. -/
def copyHeld (s : State) (die : Nat) (d : Desc) : Bool :=
  spHeld s die d || [d.a, d.b, d.d].any fun o => o.en && ownDie die (d.lowOff o) && !memReady s (d.lowOff o)

/-- One chunk in its cycle. -/
def copyStep (die engine : Nat) (x : InFlight) (e : Ev) (r : Run) : Run :=
  let d := x.desc
  if d.opcode = 0x81 then
    giveData (chunkDo die engine x) die engine x.uid e.n e.cyc ((List.range 8).flatMap fun _ => leBytes 4 d.imm) r
  else chunkRead (chunkDo die engine x) die engine x e.n e.col e.cyc r

/-- What a copy's chunk touches on its own die in its cycle: A, and D where the data is there. -/
def copyFeet (die : Nat) (d : Desc) (e : Ev) : List (Nat × Nat) :=
  let a := d.chunkAt d.a e.n e.col
  let fill := d.opcode == 0x81
  let here := fill || ownDie die a
  (if fill || !here then [] else [(a, chunkLen d.unitA e.col)]) ++
    (if here then [(d.chunkAt d.d e.n e.col, chunkLen d.unitD e.col)] else [])

/-- The chunks of a copy engine's descriptor, in iteration order. -/
def chunkEvs (t0 unit iters : Nat) : List Ev :=
  (List.range iters).flatMap fun n => (List.range (unitParts unit)).map fun j => { cyc := copyCycle t0 unit n j, n := n, col := j }

/-- COPY, FILL, ATOM (R125): chunks in order until the deadline or a halt. -/
def doCopy (die ce op : Nat) (s : State) : State :=
  let engine := 3 + ce
  match nextExec s die engine op with
  | none => s
  | some x =>
    if copyHeld s die x.desc then s
    else
      let d := x.desc
      finishRun die engine x (copyCycle x.issue d.unitD (d.iters - 1) (unitParts d.unitD - 1) + atomSpread die d)
        (runEvs (copyStep die engine x) (copyFeet die d) die engine x (chunkEvs x.issue d.unitD d.iters) s)

/-- A bank's atomic on one element (R106): add of INT32 or FP32, swap of 32 or 64 bits; a port-A write of its cycle drops it
(R104). Any other type raises ATOMIC_TYPE: nothing changes, and the refusal is logged. -/
def doBankAtomic (die off : Nat) (swap : Bool) (etype value : Nat) (s : State) : State :=
  let a := spBase die + off % spSize
  let op := if swap then 3 else 0
  if !atomOk a op etype then report die 0x0206 0 0 0 a s
  else if !memReady s a then s
  else
    let n := fmtBits etype / 8
    let a := a / n * n
    let c := inboundCycle s die a n
    (bankAtomics die (c + (getCd s die).acc.length + 1) 0 0 op etype a [leBytes n value] { rank := inboundRank } c s).2

def execCopy (die : Die) (ce : Ce) (_ : List Nat) (s : State) : Out := .next (doCopy die ce 0x80 s)
def execFill (die : Die) (ce : Ce) (_ : List Nat) (s : State) : Out := .next (doCopy die ce 0x81 s)
def execAtom (die : Die) (ce : Ce) (_ : List Nat) (s : State) : Out := .next (doCopy die ce 0x82 s)
def execBankAtomic (die : Die) (offset : Nat) (swap : Bool) (etype value : Nat) (_ : Bool) (s : State) : Out :=
  .next (doBankAtomic die offset swap etype value s)

end Sys2Proof.Machine
end

