-- ==== Sys2Proof/Machine/Port.lean ====
section
/-! DEFINITION. Machine/Port.lean: the transmit side of a torus port: machine packets and control messages as bytes
(R231, R232, R270), virtual channels, credits and the choice of the next packet (R280 to R282), link frames and their
encryption (R230, R234, R237, R238). -/
namespace Sys2Proof.Machine
open Sys2Proof

/-! ## Bytes on the link -/

/-- The 64 bytes of a control message (R231, R232). -/
def optBytes (m : OptMsg) : List Byte :=
  [0xF0, 0xFF, 0xFF, 0xFF, byte m.type, byte m.fibre, byte m.line, byte m.lane] ++ leBytes 8 m.arg ++ slice m.body 0 48

/-- Bytes of the packet or control message that begins here (R231, R270). -/
def streamSize (b : List Byte) : Nat :=
  if b.take 4 = [0xF0, 0xFF, 0xFF, 0xFF] then 64
  else if b.getD 0 0 = 0x21 ∨ b.getD 0 0 = 0x22 then 32 else 32 + 32 * (b.getD 17 0).toNat

/-- The machine packet and the control message that bytes hold. -/
def readMpk (b : List Byte) : Mpk :=
  let h := leNat (slice b 0 32)
  { op := bits h 0 8, tc := bits h 8 2, sub := bits h 10 1, port := bits h 11 2, striped := bit h 13, flag := bit h 14,
    ret := bit h 15, ctx := bits h 16 8, gen := bits h 24 8, dstNode := bits h 32 16, srcNode := bits h 48 16,
    count := bits h 64 16, len := bits h 136 8, status := bits h 144 4, rdClass := bits h 148 2, atop := bits h 150 3,
    etype := bits h 153 4, srcEngine := bits h 157 4, srcDie := bits h 161 5, slot := bits h 166 1, arrEn := bit h 167,
    arr := bits h 168 8, epoch := bits h 176 16, tag := bits h 192 16, addr := bits h 208 48,
    data := slice b 32 (streamSize b - 32) }
def readOptMsg (b : List Byte) : OptMsg :=
  { type := (b.getD 4 0).toNat, fibre := (b.getD 5 0).toNat, line := (b.getD 6 0).toNat, lane := (b.getD 7 0).toNat,
    arg := leNat (slice b 8 8), body := slice b 16 48 }

/-- Fibres in a mask, ascending, and a link frame's payload (R230). -/
def fibresOf (mask : Nat) : List Nat := (List.range 8).filter fun k => bit mask k
def frameRoomBytes (mask : Nat) : Nat := 20400 * (fibresOf mask).length

/-- How much of the stream a link frame takes: whole packets while 32 bytes of room are left at a packet boundary, and the beginning
of one that does not fit; and how much of that one is left (R188, R231).
DEDUCED (log 115), unsafe. -/
def cutAtN : Nat → Nat → Nat → List Byte → Nat × Nat
  | 0, _, pos, _ => (pos, 0)
  | n + 1, room, pos, b =>
    if b.isEmpty ∨ room < pos + 32 then (pos, 0)
    else if room < pos + streamSize b then (room, pos + streamSize b - room)
    else cutAtN n room (pos + streamSize b) (b.drop (streamSize b))
def cutAt (room part : Nat) (tail : List Byte) : Nat × Nat :=
  if room ≤ part then (room, part - room) else cutAtN (room / 32 + 1) room part (tail.drop part)

/-! ## Lines and lane frames (R222, R228 to R230) -/

abbrev lineKey (f k : Nat) : Nat := 32 * f + k
/-- What a line carries: a lane, 0xFD failed, 0xFE in calibration, 0xFF nothing. Lanes start on their home lines. -/
def onLine (m : Tab Nat) (f k : Nat) : Nat :=
  let v := tget 0 m (lineKey f k)
  if v = 0 then (if k < 16 then k else 0xFF) else v - 1
def putLine (f k v : Nat) (m : Tab Nat) : Tab Nat :=
  tset 0 m (lineKey f k) (if v = (if k < 16 then k else 0xFF) then 0 else v + 1)
/-- The line that carries a lane. -/
def lineOf (m : Tab Nat) (f lane : Nat) : Option Nat := (List.range 18).find? fun k => onLine m f k == lane

/-- The 10-byte lane header (R229). -/
def laneHeader (h : LaneHdr) : List Byte :=
  leBytes 10 (h.tagByte % 256 + 2 ^ 8 * (h.ack % 65536 + 2 ^ 16 * (h.seq % 65536 + 2 ^ 16 * (h.keyEpoch % 16 + 2 ^ 4 * (bnat h.nak +
    2 * (h.kind % 4 + 4 * (h.lane % 16 + 16 * (h.wave % 32 + 32 * (h.fibre % 8 + 8 * (h.srcOe % 32 + 32 * (h.sync % 65536)))))))))))
/-- The 1,088 symbols of a lane frame on its line (R228): the header and the payload in symbols of 10 bits, dealt to codewords A
and B in turn, each followed by its parity, and the two interleaved symbol by symbol.
DEDUCED (log 114), safe. -/
def laneSymbols (x : LaneFrame) : List Nat :=
  let n := leNat (laneHeader x.hdr ++ slice x.payload 0 1275)
  let word (i : Nat) : List Nat :=
    let data := (List.range 514).map fun j => bits n (10 * (2 * j + i)) 10
    data ++ Config.rsParity data
  (List.range 544).flatMap fun j => [(word 0).getD j 0, (word 1).getD j 0]

/-! ## Link frames -/

/-- KEY_EPOCH of an epoch number (R237). -/
def keyEpochOf (n : Nat) : Nat := (n - 1) % 15 + 1

/-- The key of a direction and epoch: sender's node and engine (R237). -/
def dirKey (secret : List Byte) (node oe n : Nat) : List Byte :=
  (Config.hkdfExpand secret (utf8 "isk-opt" ++ leBytes 2 node ++ [byte oe] ++ leBytes 4 n)).take 32

/-- DEDUCED (log 74), unsafe. -/
def segIv (fibre count : Nat) : List Byte := leBytes 4 fibre ++ leBytes 8 count
def segAad (oe fibre n : Nat) : List Byte := [byte oe, byte fibre, byte (keyEpochOf n), 0]

/-- The header that every lane of a link frame carries: the SEQ, and the acknowledgement of the other direction (R229). -/
def frameHdr (oe kind : Nat) (nak : Bool) (epoch seq : Nat) (o : OeSt) : LaneHdr :=
  { srcOe := oe, kind := kind, nak := nak, keyEpoch := epoch, seq := seq, ack := (o.expSeq + 65535) % 65536 }
/-- The line that carries a lane of a transmit fibre. -/
def laneLine (o : OeSt) (f lane : Nat) : Nat := (lineOf o.txMap f lane).getD lane

/-- The lane frames of a fibre's encrypted segment: lane j carries bytes 1,275j on and byte j of the tag (R230, R238). -/
def segLanes (oe : Nat) (f : TxFrame) (o : OeSt) (k : Nat) (cipher tag : List Byte) : List LaneFrame :=
  (List.range 16).map fun j =>
    { fibre := k, line := laneLine o k j, payload := slice cipher (1275 * j) 1275,
      hdr := { frameHdr oe 0 false (keyEpochOf f.epoch) f.seq o with
               fibre := k, wave := laneLine o k j, lane := j, tagByte := (tag.getD j 0).toNat } }
/-- A buffered link frame on the lines of its fibres (R230, R238). -/
def frameLanes (s : State) (oe : Nat) (f : TxFrame) : List LaneFrame :=
  let o := getOe s oe
  let fs := fibresOf f.fibres
  let key := dirKey o.secret (nodeId s) oe f.epoch
  (List.range fs.length).flatMap fun i =>
    let k := fs.getD i 0
    let c := Config.gcmEnc key (segIv k f.count) (segAad oe k f.epoch) (slice f.payload (20400 * i) 20400)
    segLanes oe f o k c (Config.gcmTag key (segIv k f.count) (segAad oe k f.epoch) c)

/-- Sends a buffered link frame, for the first time or again (R234). -/
def emitFrame (oe : Nat) (again : Bool) (f : TxFrame) (s : State) : State := emit (.linkFrame oe again (frameLanes s oe f)) s

/-- An idle link frame: the next unused SEQ, no payload; it carries the acknowledgement, and a NAK (R231, R234). -/
def idleLanes (oe : Nat) (nak : Bool) (o : OeSt) : List LaneFrame :=
  (fibresOf o.txSaid).flatMap fun k => (List.range 16).map fun j =>
    { fibre := k, line := laneLine o k j,
      hdr := { frameHdr oe 1 nak (keyEpochOf o.txEpoch) o.nextSeq o with fibre := k, wave := laneLine o k j } }
def emitIdle (oe : Nat) (nak : Bool) (s : State) : State := emit (.linkFrame oe false (idleLanes oe nak (getOe s oe))) s

/-- The next epoch is due, and no frame is sent before it begins (R237).
DEDUCED (log 74), unsafe. -/
def epochDue (o : OeSt) : Bool := decide (o.txEpoch ≤ o.txCount / 2 ^ 32)

/-- The fibres of the next link frame: a width announced for its SEQ takes effect with it (R230). -/
def OeSt.width (o : OeSt) : Nat :=
  match o.txWidthSeq with
  | some (q, m) => if q = o.nextSeq then m else o.txSaid
  | none => o.txSaid

/-- A link frame takes the head of the packet stream (R230, R231). -/
def cutFrame (oe : Nat) (s : State) : State :=
  let o := getOe s oe
  let mask := o.width
  let (n, part) := cutAt (frameRoomBytes mask) o.txPart o.txTail
  let f : TxFrame := { seq := o.nextSeq, epoch := o.txEpoch, count := o.txCount, fibres := mask, payload := o.txTail.take n }
  let now := wall s
  emitFrame oe false f (updOe oe (fun o =>
    { o with txTail := o.txTail.drop n, txPart := part, nextSeq := (o.nextSeq + 1) % 65536, txCount := o.txCount + 1,
             txSaid := mask, txWidthSeq := match o.txWidthSeq with | some (q, m) => if q = o.nextSeq then none else some (q, m) | none => none,
             lastProgress := if o.buffer.isEmpty then now else o.lastProgress, buffer := o.buffer ++ [f] }) s)

/-! ## Credits (R280) -/

abbrev sharedUnits : Nat := 196608
abbrev reservedUnits : Nat := 8192
def mpkUnits (p : Mpk) : Nat := ceilDiv (mpkSize p) 64

/-- The transmitter holds the credits of a packet. -/
def hasCredit (o : OeSt) (p : Mpk) : Bool :=
  decide (mpkUnits p ≤ (sharedUnits - o.sharedSpent) + (reservedUnits - tget 0 o.resSpent (mpkVc p)))

/-- It takes them, from its shared count first. -/
def takeCredit (p : Mpk) (o : OeSt) : OeSt :=
  let a := min (mpkUnits p) (sharedUnits - o.sharedSpent)
  { o with sharedSpent := o.sharedSpent + a,
           resSpent := tset 0 o.resSpent (mpkVc p) (tget 0 o.resSpent (mpkVc p) + (mpkUnits p - a)) }

/-- Room of a received packet in the receive buffer, as its transmitter counted it: shared and reserved units. -/
def rxUnits (o : OeSt) (p : Mpk) : Nat × Nat :=
  let a := min (mpkUnits p) (sharedUnits - o.rxShared)
  (a, mpkUnits p - a)
def takeRoom (p : Mpk) (o : OeSt) : OeSt :=
  let (a, b) := rxUnits o p
  { o with rxShared := o.rxShared + a, rxRes := tset 0 o.rxRes (mpkVc p) (tget 0 o.rxRes (mpkVc p) + b) }

/-- Returns pending in bytes. -/
def pendBytes (o : OeSt) : Nat := 64 * (o.pendShared + o.pendRes.foldl (fun n e => n + e.2) 0)

/-- An M_CREDIT (R280): it returns what is pending, takes no credit and goes before every packet.
DEDUCED (log 75), unsafe. -/
def sendCredit (oe : Nat) (s : State) : State :=
  let o := getOe s oe
  let res := (List.range 8).map fun v => tget 0 o.pendRes v
  let sh := min 65535 o.pendShared
  if pendBytes o = 0 then s
  else
    let p : Mpk := { op := 0x26, port := oe / 6, srcNode := nodeId s, len := 1,
                     data := slice (res.flatMap (leBytes 2 ·) ++ leBytes 2 sh) 0 32 }
    emit (.credit oe res sh) (updOe oe (fun o =>
      { o with txTail := o.txTail ++ mpkBytes p, rxShared := o.rxShared - sh, pendShared := o.pendShared - sh,
               rxRes := (List.range 8).foldl (fun t v => tset 0 t v (tget 0 t v - res.getD v 0)) o.rxRes, pendRes := [] }) s)

/-- A received packet leaves the buffer of the engine it came in by: the credits of the virtual channel it came in on become
returns, sent at once beyond 1 MiB.
DEDUCED (log 74), unsafe. -/
def giveRoom (q : QPkt) (s : State) : State :=
  if q.src = 0 then s
  else
    let oe := q.src - 1
    let now := wall s
    let v := q.vc
    let s := updOe oe (fun o =>
      { o with pendSince := if pendBytes o = 0 then now else o.pendSince, pendShared := o.pendShared + q.shr,
               pendRes := tset 0 o.pendRes v (tget 0 o.pendRes v + q.res) }) s
    if 2 ^ 20 < pendBytes (getOe s oe) then sendCredit oe s else s

/-! ## The next packet (R281, R282) -/

/-- Waiting bytes of a traffic class at a port. -/
def waitingBytes (o : OeSt) (tc : Nat) : Nat :=
  (o.queue.filter fun q => q.pkt.tc == tc).foldl (fun n q => n + mpkSize q.pkt) 0

/-- Throttling of a class begins at the high threshold and ends below the low one. -/
def judgeThrottle (oe tc : Nat) (s : State) : State :=
  let o := getOe s oe
  let w := waitingBytes o tc
  let th := numAt s (oe / 6) oInjThresh 0
  let now := wall s
  if !bit o.throttled tc && decide (1024 * bits th 0 16 ≤ w) then
    updOe oe (fun o => { o with throttled := setBit o.throttled tc, throttleAt := tset 0 o.throttleAt tc now,
                                thrSent := tdel o.thrSent tc }) s
  else if bit o.throttled tc && decide (w < 1024 * bits th 16 16) then
    bumpBlob oFabPortStats (oe + 1) (3 * tc + 2) 8 (now - tget 0 o.throttleAt tc)
      (updOe oe (fun o => { o with throttled := clearBit o.throttled tc }) s)
  else s

/-- A port's rate: 240 bytes per ns and fibre (R230). -/
def portRate (o : OeSt) : Nat := 240 * (fibresOf o.txSaid).length
/-- A throttled class may inject a packet: since it was throttled it has injected no more than *INJ_RATE_MIN* 256ths of the port's rate
(R282).
DEDUCED (log 74), unsafe. -/
def injAllowed (s : State) (oe : Nat) (o : OeSt) (tc : Nat) : Bool :=
  decide (256 * tget 0 o.thrSent tc ≤ numAt s (oe / 6) oInjRateMin 0 * (portRate o * (wall s - tget 0 o.throttleAt tc)))

/-- The packet of a virtual channel to go next: injected ones and ones in transit alternate; those that a throttled class injects
stay within its rate. -/
def pickVc (s : State) (oe : Nat) (o : OeSt) (tc sub : Nat) : Option QPkt :=
  let t := o.queue.find? fun q => q.pkt.tc == tc && q.pkt.sub == sub && !q.inj
  let i := o.queue.find? fun q => q.pkt.tc == tc && q.pkt.sub == sub && q.inj && (!bit o.throttled tc || injAllowed s oe o tc)
  let c := match t, i with
    | some t, some i =>
      if bit o.throttled tc || !o.lastInj then some i else some t
    | some t, none => some t
    | none, i => i
  c.bind fun q => if hasCredit o q.pkt then some q else none

/-- Within a class, sub-channel b goes before a. -/
def pickTc (s : State) (oe : Nat) (o : OeSt) (tc : Nat) : Option QPkt :=
  match pickVc s oe o tc 1 with
  | some q => some q
  | none => pickVc s oe o tc 0

/-- TC3's share of the port over the last 10 us lies below *TC3_CAP*: 240 bytes per ns and fibre (R230, R281). -/
def tc3Below (s : State) (oe : Nat) (o : OeSt) : Bool :=
  let sent := (o.tc3Sent.filter fun e => decide (wall s < e.1 + 10000)).foldl (fun n e => n + e.2) 0
  decide (256 * sent < numAt s (oe / 6) oTc3Cap 0 * (portRate o * 10000))

/-- A class's weight: TC3 beyond its cap has 1. -/
def tcWeight (s : State) (oe : Nat) (tc : Nat) : Nat := if tc = 3 then 1 else bits (numAt s (oe / 6) oTcWeights 0) (8 * tc) 8

/-- Weighted round robin: the first class that has a packet and has not used up its weight in this round; a new round
begins where none has.
DEDUCED (log 74), unsafe. -/
def pickRobin (s : State) (oe : Nat) (o : OeSt) (classes : List Nat) : Option (QPkt × Tab Nat) :=
  let ready := classes.filter fun c => (pickTc s oe o c).isSome
  match ready.find? (fun c => decide (tget 0 o.wrr c < tcWeight s oe c)) with
  | some c => (pickTc s oe o c).map fun q => (q, tset 0 o.wrr c (tget 0 o.wrr c + 1))
  | none =>
    match ready with
    | c :: _ => (pickTc s oe o c).map fun q => (q, [(c, 1)])
    | [] => none

/-- The engine's next packet, and the round robin after it. -/
def pickNext (s : State) (oe : Nat) (o : OeSt) : Option (QPkt × Tab Nat) :=
  if tc3Below s oe o then
    match pickTc s oe o 3 with
    | some q => some (q, o.wrr)
    | none => pickRobin s oe o [0, 1, 2]
  else pickRobin s oe o [0, 1, 2, 3]

/-- Injection units come back to the source's counter (R267). -/
def giveInjection (oe : Nat) (q : QPkt) (s : State) : State :=
  if q.inj then
    semEvent q.die { isArr := true, obj := (if q.slot = 0 then 184 else 248) + oePd oe, kind := 1, value := q.units } s
  else s

/-- Packets that hold room in a receive buffer outside the ports' queues: on the package, at its ends, and being terminated. -/
def roomHolders (s : State) : List QPkt :=
  let q (c : Cargo) : List QPkt := match c with | .engine _ q => [q] | _ => []
  (s.dirs.flatMap fun e => e.2.port.flatMap fun w => (w.cargo.toList).flatMap q) ++
    (s.pds.flatMap fun e => e.2.landed.flatMap fun l => q l.cargo) ++ s.terms.map (·.room)
/-- Returned drain markers go back once every packet that came in before them has left the receive buffer (R339). -/
def sendReturns (oe : Nat) (s : State) : State :=
  let free (n : Nat) : Bool := ((List.range 24).all fun e => (getOe s e).queue.all fun q => q.src != oe + 1 || decide (n ≤ q.no)) &&
    (roomHolders s).all fun q => q.src != oe + 1
  let due := (getOe s oe).returns.filter fun r => free r.1
  let n := s.nextUid
  updOe oe (fun o => { o with returns := o.returns.filter (fun r => !free r.1),
                              queue := o.queue ++ due.map fun r => { pkt := r.2, no := n } }) s

/-- A packet leaves the queue of a port: its injection units and its room in the buffer it came from are free.
DEDUCED (log 43), unsafe. -/
def dequeue (oe : Nat) (q : QPkt) (s : State) : State :=
  let s := updOe oe (fun o => { o with queue := o.queue.erase q }) s
  let s := judgeThrottle oe q.pkt.tc (giveRoom q (giveInjection oe q s))
  if q.src = 0 then s else sendReturns (q.src - 1) s

/-- A packet whose engine's link has FAILED is discarded at the prism die (R209). -/
def loseQ (oe : Nat) (q : QPkt) (s : State) : State :=
  let s := updOe oe (fun o => { o with queue := o.queue.erase q }) s
  judgeThrottle oe q.pkt.tc
    (lose (carrier q.pkt 1 (64 + oePd oe) (72 + oe)) (some (.engine oe q)) (108 + oe) (64 + oePd oe) s)

/-- Sends a packet over the link from its prism die to its engine, and into the stream. -/
def sendQ (oe : Nat) (q : QPkt) (wrr : Tab Nat) (s : State) : State :=
  let n := mpkSize q.pkt
  let tc := q.pkt.tc
  let now := wall s
  let s := updOe oe (fun o =>
    let o := takeCredit q.pkt o
    { o with wrr := wrr, lastInj := q.inj, txTail := o.txTail ++ mpkBytes q.pkt,
             tc3Sent := if tc = 3 then (o.tc3Sent.filter fun e => decide (now < e.1 + 10000)) ++ [(now, n)] else o.tc3Sent,
             thrSent := if bit o.throttled tc && q.inj then tset 0 o.thrSent tc (tget 0 o.thrSent tc + n) else o.thrSent }) s
  let s := countHop (carrier q.pkt 1 (64 + oePd oe) (72 + oe)) (108 + oe, true) s
  dequeue oe q (bumpBlob oFabPortStats (oe + 1) (3 * tc) 8 n (emit (.mpkt oe q.pkt) s))

/-- Drain markers whose turn has come go out after what was queued before them (R339). -/
def markerPkt (s : State) (oe : Nat) (m : Nat × Nat × Nat × Nat) : Mpk :=
  { op := 0x27, tc := 3, ctx := m.1, gen := m.2.1, dstNode := (getOe s oe).peerNode, rdClass := 0, tag := m.2.2.1 }
def releaseMarkers (oe : Nat) (s : State) : State :=
  let o := getOe s oe
  let wait (m : Nat × Nat × Nat × Nat) : Bool := o.queue.any fun q => decide (q.no < m.2.2.2)
  let n := s.nextUid
  updOe oe (fun o => { o with markers := o.markers.filter wait,
                              queue := o.queue ++ (o.markers.filter (fun m => !wait m)).map fun m =>
                                { pkt := markerPkt s oe m, no := n } }) s

/-- The link from an engine's prism die: packets cross it, or are discarded before it. -/
def engineOpen (s : State) (oe : Nat) : Bool := isAdmitted s (72 + oe) && (getLink s (108 + oe)).state == 3
def engineShut (s : State) (oe : Nat) : Bool := (getLink s (108 + oe)).state == 5
/-- The port sends while it may: in ACTIVE, with room in the replay buffer, under the epoch in force; its packets come from its prism
die over their link. -/
def pumpN : Nat → Nat → State → State
  | 0, _, s => s
  | n + 1, oe, s =>
    let s := releaseMarkers oe s
    let s := if engineShut s oe then (getOe s oe).queue.foldl (fun s q => loseQ oe q s) s else s
    let o := getOe s oe
    if o.state ≠ 5 ∨ 96 ≤ o.buffer.length ∨ epochDue o then s
    else if frameRoomBytes o.width ≤ o.txTail.length then pumpN n oe (cutFrame oe s)
    else match (if engineOpen s oe then pickNext s oe o else none) with
      | some (q, w) => pumpN n oe (sendQ oe q w s)
      | none => if o.txTail.isEmpty then s else cutFrame oe s

def pump (oe : Nat) (s : State) : State :=
  let o := getOe s oe
  pumpN (2 * (o.queue.length + o.markers.length + o.returns.length) + o.txTail.length / 20400 + 2) oe s

/-- A packet waits for a port. -/
def enqueue (oe : Nat) (q : QPkt) (s : State) : State :=
  let n := s.nextUid
  let s := updOe oe (fun o => { o with queue := o.queue ++ [{ q with no := n }] }) { s with nextUid := n + 1 }
  pump oe (judgeThrottle oe q.pkt.tc s)

/-- Types that travel before a session (R236). -/
def setupType (t : Nat) : Bool := [0x01, 0x02, 0x03, 0x40, 0x41, 0x42, 0x43].contains t
/-- A control message of setup travels without a data link frame (R236, R238): at the head of a training lane frame, with KEY_EPOCH 0,
on the line of lane 0 of the lowest fibre in use.
DEDUCED (log 129), unsafe. -/
def setupLane (oe : Nat) (m : OptMsg) (o : OeSt) : LaneFrame :=
  let k := (fibresOf o.txFibres).headD 0
  { fibre := k, line := laneLine o k 0, payload := optBytes m,
    hdr := { frameHdr oe 3 false 0 o.nextSeq o with fibre := k, wave := laneLine o k 0 } }
/-- A control message goes ahead of waiting packets (R231); in ALIGN and KEY_AGREE those of setup alone travel (R236). -/
def sendOpt (oe : Nat) (m : OptMsg) (s : State) : State :=
  let st := (getOe s oe).state
  if st = 5 then pump oe (updOe oe (fun o => { o with txTail := o.txTail ++ optBytes m }) (emit (.opt oe m) s))
  else if (st = 3 ∨ st = 4) ∧ setupType m.type then emit (.laneFrame oe (setupLane oe m (getOe s oe))) (emit (.opt oe m) s)
  else s

end Sys2Proof.Machine
end

