-- ==== Sys2Proof/Machine/Fabric.lean ====
section
/-! DEFINITION. Machine/Fabric.lean: the machine fabric (R260 to R293): routes, injection, transit, termination at the
destination, answers at the source, flagged stores, fences, route epochs. -/
namespace Sys2Proof.Machine
open Sys2Proof

/-! ## Routes (R275 to R277) -/

/-- In a ring of `size`, from `a` to another coordinate `b`, the shorter way is +; ties leave an even coordinate +. -/
def ringPlus (size a b : Nat) : Bool :=
  let up := (b + size - a) % size
  let dn := size - up
  decide (up < dn) || (up == dn && a % 2 == 0)

/-- The dateline link of a ring leaves coordinate `a` this way (R276). -/
def dateline (size a : Nat) (plus : Bool) : Bool := if plus then a + 1 == size else a == 0

/-- The direction code in which a packet for a node leaves this device, and whether it crosses a dateline; none for
this device itself. -/
def nextDir (s : State) (dst : Nat) : Option (Nat × Bool) :=
  let me := nodeId s
  ([0, 1, 2].find? fun i => coord dst i != coord me i).map fun i =>
    let p := ringPlus (axis s i) (coord me i) (coord dst i)
    (2 * i + (if p then 0 else 1), dateline (axis s i) (coord me i) p)

/-- The sub-channel on which a packet leaves: it keeps b within an axis, and returns to a at the next (R276). `from` is
the direction code of the engine it came in by, 6 for none.
DEDUCED (log 74), unsafe. -/
def nextSub (p : Mpk) (came d : Nat) (cross : Bool) : Nat :=
  if cross then 1 else if came / 2 = d / 2 then p.sub else 0

/-- Ports set in *PORT_MASK*, ascending, and the port of the `j`-th packet to a node (R277). -/
def portOf (s : State) (dst j : Nat) : Nat :=
  let ps := [0, 1, 2, 3].filter fun p => bit (numGet s oPortMask 0) p
  ps.getD ((if numGet s oOrderMode 0 = 1 then j else dst) % max 1 ps.length) 0

/-! ## Discards -/

/-- A machine packet is discarded: field `i` of *FAB_DISCARDS*, and the error log (R283, R292).
DEDUCED (log 77), unsafe. -/
def discardMpk (i : Nat) (pd : Nat) (p : Mpk) (s : State) : State :=
  bumpBlob oFabDiscards 0 i 8 1 (report (64 + pd) 0x0501 p.port p.ctx p.gen (i + p.op * 256) s)

/-- A packet that R330 does not accept. -/
def discardOld (pd : Nat) (p : Mpk) (s : State) : State :=
  discardGen p.ctx (report (64 + pd) 0x0501 p.port p.ctx p.gen (3 + p.op * 256) s)

/-! ## Counts of the source (R288) -/

def outKey (die slot e : Nat) : Nat := (die * 2 + slot) * 4 + e % 4
def outCount (s : State) (die slot e : Nat) : Nat := tget 0 s.outst (outKey die slot e)
def addOut (die slot e n : Nat) (s : State) : State :=
  { s with outst := tset 0 s.outst (outKey die slot e) (outCount s die slot e + n) }
/-- Every count of a die and slot is zero. -/
def outClear (s : State) (die slot : Nat) : Bool := [0, 1, 2, 3].all fun e => outCount s die slot e == 0
/-- Key of a die's and slot's fences and latched status. -/
def fenceKey (die slot : Nat) : Nat := die * 2 + slot
/-- Fences armed before every count is zero complete at that stamp (R24, R289). -/
def stampFences (die slot : Nat) (s : State) : State :=
  if outClear s die slot then
    { s with fences := tset [] s.fences (fenceKey die slot) ((tget [] s.fences (fenceKey die slot)).map fun f =>
      if f.clearAt.isNone then { f with clearAt := some (wall s) } else f) }
  else s
def subOut (die slot e n : Nat) (s : State) : State :=
  stampFences die slot { s with outst := tset 0 s.outst (outKey die slot e) (outCount s die slot e - n) }

/-- *ROUTE_EPOCH*. -/
def routeEpoch (s : State) : Nat := numGet s oRouteEpoch 0
/-- The next epoch may open: no count of the epoch four before it is non-zero (R288). -/
def epochFree (s : State) : Bool :=
  (List.range 64).all fun k => outCount s (k / 2) (k % 2) (routeEpoch s + 1) == 0
/-- *AXIS_SIZE* and *ORDER_MODE*, as a FABRIC entry's argument carries them.
DEDUCED (log 77), unsafe. -/
def geometry (s : State) : List Byte := slice (blobGet s oAxisSize 0) 0 3 ++ [byte (numGet s oOrderMode 0)]
/-- A new route epoch opens; `old` is the geometry before it (R288).
DEDUCED (log 77), unsafe. -/
def openEpoch (old : List Byte) (s : State) : State :=
  let s := numSet oRouteEpoch 0 ((routeEpoch s + 1) % 65536) s
  journal 0 0x09 0 (jOther (routeEpoch s)) (old ++ geometry s ++ [byte (numGet s oPortMask 0)]) s

/-! ## Latches (R289) -/

/-- A non-zero status is latched for the die and slot, the first one only.
DEDUCED (log 76), unsafe. -/
def latch (die slot status addr epoch : Nat) (s : State) : State :=
  if (tget {} s.latches (fenceKey die slot)).status = 0 then
    { s with latches := tset {} s.latches (fenceKey die slot) { status := status, addr := addr, epoch := epoch } }
  else s

/-! ## Answers at the source (R274, R287 to R289) -/

/-- One answer less is awaited by a descriptor in flight. -/
def oneLess (die engine uid : Nat) (s : State) : State :=
  let now := absCycle s (die / 8)
  updFly die engine uid (fun y => { y with outstanding := y.outstanding - 1, finish := max y.finish now }) s

/-- The outstanding answer with a die's machine TAG. -/
def findMTxn (s : State) (die tag : Nat) : Option MTxn := s.mtxns.find? fun t => t.die == die && t.tag == tag

/-- The landing counter of a copy engine is refilled (R267). -/
def refillLanding (t : MTxn) (s : State) : State :=
  if t.landing = 0 then s
  else semEvent t.die { isArr := true, obj := (if t.slot = 0 then 180 else 244) + (t.engine - 3), kind := 1,
                        value := t.landing } s

/-- Returned data lies in D: the landing area is free for what waits for it, a GET's counter counts its bytes, a waiting descriptor has its
answer. -/
def landDone (t : MTxn) (s : State) : State :=
  let s := sendAsks t.die t.engine (refillLanding t { s with mtxns := s.mtxns.erase t })
  let s := if t.isGet && t.arrEn then semEvent t.die { isArr := true, obj := t.arr, kind := 1, value := t.len } s else s
  if t.isLoad then oneLess t.die t.engine t.uid s else s

/-- An answer with a non-zero status, or a landing write that fails: latched, and a descriptor that waits for it halts
(R197, R289).
DEDUCED (log 76), unsafe. -/
def landFail (t : MTxn) (status addr : Nat) (s : State) : State :=
  let s := sendAsks t.die t.engine (refillLanding t (latch t.die t.slot status addr t.epoch { s with mtxns := s.mtxns.erase t }))
  if !t.isLoad then s
  else match findFly s t.die t.engine t.uid with
    | some x =>
      let why := statusReason status x.desc.collHalt
      if why = 0 then oneLess t.die t.engine t.uid s
      else haltFly t.die t.engine x why (absCycle s (t.die / 8)) addr status s
    | none => s

/-- Returned data is written into D (R274): on the own die at once, elsewhere by a WR. It never sets a slot's flag (R112). -/
def landWrite (t : MTxn) (bs : List Byte) (s : State) : State :=
  if !ownDie t.die t.dst then
    request { dst := homeStrap t.dst, src := t.die, op := 2, ctx := t.ctx, gen := t.gen, len := bs.length / 32,
              slot := t.slot, srcEngine := t.engine, addr := t.dst, data := bs }
      { owner := .land t.die t.tag } s
  else
    match scratchDie t.dst with
    | some c =>
      let (st, s) := landBytes c t.dst bs [] none s
      if st = 0 then landDone t s else landFail t st (gAddr s t.dst) s
    | none => landDone t (memWrite t.dst bs (nearInbound t.dst bs.length s))

/-- M_DATA at its source: data, or a STATUS that is not zero. -/
def dataLands (p : Mpk) (s : State) : State :=
  let s := subOut p.srcDie p.slot p.epoch 1 s
  match findMTxn s p.srcDie p.tag with
  | none => s
  | some t => landWrite t (slice p.data 0 t.len) s
def dataRefused (p : Mpk) (s : State) : State :=
  let s := subOut p.srcDie p.slot p.epoch 1 s
  match findMTxn s p.srcDie p.tag with
  | none => s
  | some t => landFail t p.status (p.srcNode * 2 ^ 48 + p.addr) s
def dataHere (p : Mpk) (s : State) : State := if p.status = 0 then dataLands p s else dataRefused p s

/-- M_DATA or M_ACK on its way to SRC_DIE in machine packets of at most 7 data units, each with a header of its own (R204, R274).
DEDUCED (log 111), unsafe. -/
def diePieces (p : Mpk) : List Mpk :=
  (List.range (max 1 (ceilDiv p.data.length 224))).map fun i =>
    let d := slice p.data (224 * i) (min 224 (p.data.length - 224 * i))
    { p with addr := p.addr + 224 * i, len := d.length / 32, data := d }
/-- The memory that an answer's landing write needs on its die is not ready (R114). -/
def answerWaits (s : State) (p : Mpk) : Bool :=
  match findMTxn s p.srcDie p.tag with
  | some t => p.op == 0x24 && p.status == 0 && ownDie t.die t.dst && homeHeld s t.dst t.len
  | none => false

/-- A RATOM whose type its home refuses halts its stream when the answer comes (R172), also after it has retired: the halt names
the slot's latest RATOM.
DEDUCED (log 108), unsafe. -/
def atomRefused (p : Mpk) (s : State) : State :=
  match (getEngine s p.srcDie p.srcEngine).ratom.find? (fun e => e.1 == p.slot) with
  | some (_, x) =>
    if x.ctx = p.ctx ∧ x.gen = p.gen then
      haltFly p.srcDie p.srcEngine x 0x61 (absCycle s (p.srcDie / 8)) (p.srcNode * 2 ^ 48 + p.addr) 3 s
    else s
  | none => s

/-- M_ACK at its source: COUNT requests of its epoch are back; a non-zero status is latched, and a refused type halts the stream
(R172, R289). -/
def ackHere (p : Mpk) (s : State) : State :=
  let s := subOut p.srcDie p.slot p.epoch p.count s
  if p.status = 0 then s
  else
    let s := latch p.srcDie p.slot p.status (p.srcNode * 2 ^ 48 + p.addr) p.epoch s
    if p.status = 3 then atomRefused p s else s

/-- An answer at SRC_DIE. -/
def answerHere (p : Mpk) (s : State) : State := if p.op = 0x24 then dataHere p s else ackHere p s

/-! ## What the package network brings a prism die -/

/-- A landed machine packet can be taken in: an answer when its memory is ready. -/
def Landed.ready (s : State) (l : Landed) : Bool :=
  match l.cargo with
  | .answer _ _ (some p) => !l.ok || !answerWaits s p
  | _ => true
/-- Takes in what came: a packet joins its engine's queue, an answer acts at SRC_DIE with its last piece. -/
def takeOne (pd : Nat) (l : Landed) (s : State) : State :=
  let s := updPd pd (fun x => { x with landed := x.landed.erase l }) s
  match l.cargo, l.ok with
  | .engine oe q, true => enqueue oe q s
  | .answer _ _ (some p), true => answerHere p s
  | _, _ => s
/-- What came to a prism die is taken in; what was lost on the way is left, to be answered for. -/
def takeCame (pd : Nat) (s : State) : State :=
  ((getPd s pd).landed.filter fun l => l.ok && l.ready s).foldl (fun s l => takeOne pd l s) s

/-! ## Sending from this device -/

/-- A packet goes from a site to the prism die that queues it for an engine. -/
def sendTo (a out origin : Nat) (q : QPkt) (s : State) : State :=
  takeCame (oePd out) (sendCargo (.engine out q) origin a (64 + oePd out) (72 + out) s)

/-- M_DATA or M_ACK goes from a prism die to SRC_DIE, in machine packets of at most 7 data units (R204, R274); it is lost with its
last piece. -/
def toDie (pd : Nat) (p : Mpk) (s : State) : State :=
  let l := diePieces p
  takeCame pd ((List.range l.length).foldl (fun s i =>
    sendCargo (.answer pd (l.getD i p) (if i + 1 = l.length then some p else none)) 1 (64 + pd) p.srcDie p.srcDie s) s)

/-- A packet of this device that needs no injection buffer (an answer, a marker, a collective or management packet)
goes to its port's queue from a prism die. -/
def routeOut (pd : Nat) (p : Mpk) (s : State) : State :=
  match nextDir s p.dstNode with
  | none => discardMpk 0 pd p s
  | some (d, x) =>
    let oe := 6 * p.port + d
    let p := { p with sub := nextSub p 6 d x }
    if !nodeOk s (nodeId s) || !nodeOk s p.dstNode then discardMpk 0 pd p s
    else sendTo (64 + pd) oe 1 { pkt := p } s

/-- The answer to a machine request (R271, R273). -/
def mAnswer (s : State) (q : Mpk) (status addr : Nat) (data : List Byte) : Mpk :=
  let isData := q.op == 0x21 || q.op == 0x22 || (q.op == 0x23 && q.ret)
  { op := if isData then 0x24 else 0x25, tc := 1, port := q.port, striped := q.striped, ctx := q.ctx, gen := q.gen,
    dstNode := q.srcNode, srcNode := nodeId s, count := if isData then 0 else 1, len := data.length / 32, status := status,
    srcEngine := q.srcEngine, srcDie := q.srcDie, slot := q.slot, arrEn := q.arrEn, arr := q.arr, epoch := q.epoch,
    tag := q.tag, addr := addr, data := data }

/-- A request's answer takes its own reverse route; one of this device's own comes straight back. -/
def sendAnswer (pd : Nat) (a : Mpk) (s : State) : State :=
  if a.dstNode = nodeId s then toDie pd a s else routeOut pd a s

/-- A request that goes no further is answered with STATUS 0x8 (R198, R209, R283). -/
def bounce (pd : Nat) (p : Mpk) (s : State) : State :=
  if 0x20 ≤ p.op ∧ p.op ≤ 0x23 then sendAnswer pd (mAnswer s p 8 p.addr []) s else s
/-- A packet whose port is DOWN or OFF (R283). -/
def portDown (pd : Nat) (p : Mpk) (s : State) : State := bounce pd p (discardMpk 0 pd p s)

/-- What was lost on the package is answered for: its room and its injection units are free, a descriptor does not wait for a
request that no prism die accepts (R198, R209). -/
def lostOne (pd : Nat) (l : Landed) (s : State) : State :=
  let s := updPd pd (fun x => { x with landed := x.landed.erase l }) s
  match l.cargo with
  | .engine oe q => bounce pd q.pkt (giveRoom q (giveInjection oe q s))
  | .inject e =>
    let q : QPkt := { pkt := e.pkt, inj := true, die := e.die, slot := e.slot, units := e.units }
    bounce pd e.pkt (oneLess e.die e.engine e.uid (giveInjection e.oe q s))
  | .answer _ _ _ => s
def takeLost (pd : Nat) (s : State) : State :=
  ((getPd s pd).landed.filter (!·.ok)).foldl (fun s l => lostOne pd l s) s

/-! ## Injection (R267, R268, R277, R286) -/

/-- Units a die's slot uses of its partition in a prism die's injection buffer. -/
def partUsed (s : State) (pd die slot : Nat) : Nat :=
  ((getPd s pd).inject.filter fun e => e.accepted && e.die == die && e.slot == slot).foldl (fun n e => n + e.units) 0 +
    ((List.range 24).filter (fun e => oePd e == pd)).foldl (fun n e =>
      n + ((getOe s e).queue.filter fun q => q.inj && q.die == die && q.slot == slot).foldl (fun n q => n + q.units) 0) 0

/-- A request has not been accepted by its prism die. -/
def notAccepted (s : State) (t : MTxn) : Bool :=
  (s.pds.any fun e => e.2.inject.any fun e => !e.accepted && e.die == t.die && e.pkt.tag == t.tag) ||
    s.dirs.any fun e => e.2.port.any fun w => match w.cargo with | some (.inject e) => e.die == t.die && e.pkt.tag == t.tag | _ => false
/-- The slot's share of a copy engine's landing area has room for the answer of a packet's request (R267, R268). -/
def landingRoom (s : State) (e : InjPkt) : Bool :=
  match findMTxn s e.die e.pkt.tag with
  | none => true
  | some t =>
    let used := (s.mtxns.filter fun x => x.die == t.die && x.engine == t.engine && x.slot == t.slot && !notAccepted s x).foldl
      (fun n x => n + x.landing) 0
    decide (used + t.landing ≤ if t.slot = 0 then 3072 else 1024)

/-- A prism die accepts a packet: the device injects, the partition and the landing area have room, and no earlier one waits. -/
def canAccept (s : State) (pd : Nat) (earlier : List InjPkt) (e : InjPkt) : Bool :=
  !e.accepted && nodeOk s (nodeId s) && landingRoom s e && earlier.all (fun x => x.accepted || x.die != e.die || x.slot != e.slot) &&
    decide (partUsed s pd e.die e.slot + e.units ≤ if e.slot = 0 then 3072 else 1024)

/-- Packets of a die, slot and epoch in injection buffers that were not accepted before a packet: it and those after it.
DEDUCED (log 75), unsafe. -/
def unsent (s : State) (e : InjPkt) : Nat :=
  s.pds.foldl (fun n p => n + (p.2.inject.filter fun x =>
    x.die == e.die && x.slot == e.slot && x.pkt.epoch % 4 == e.pkt.epoch % 4 && (!x.accepted || decide (e.no ≤ x.no))).length) 0 +
  s.dirs.foldl (fun n d => n + (d.2.port.filter fun w => match w.cargo with
    | some (.inject x) => x.die == e.die && x.slot == e.slot && x.pkt.epoch % 4 == e.pkt.epoch % 4
    | _ => false).length) 0

/-- The source holds a flagged packet (R286): a count of an earlier epoch, or under STRIPED of its own, is not zero.
DEDUCED (log 75), unsafe. -/
def sourceHeld (s : State) (e : InjPkt) : Bool :=
  let own := e.pkt.epoch
  let back := 3 - (routeEpoch s + 65536 - own) % 65536
  e.pkt.flag &&
    ((List.range back).any (fun i => outCount s e.die e.slot (own + 3 - i) != 0) ||
      (e.pkt.striped && decide (unsent s e < outCount s e.die e.slot own)))

/-- A packet may leave its partition: no earlier one of its die and context waits in it. -/
def canLeave (s : State) (earlier : List InjPkt) (e : InjPkt) : Bool :=
  e.accepted && earlier.all (fun x => x.die != e.die || x.pkt.ctx != e.pkt.ctx) && !sourceHeld s e

/-- The first packet of a prism die that can be accepted or leave. -/
def nextInj (s : State) (pd : Nat) : List InjPkt → List InjPkt → Option InjPkt
  | _, [] => none
  | earlier, e :: es =>
    if canAccept s pd earlier e || canLeave s earlier e then some e else nextInj s pd (earlier ++ [e]) es

/-- Acceptance: the packet has left the receive buffer it came to, and its descriptor need not wait for it.
DEDUCED (log 75), unsafe. -/
def acceptInj (pd : Nat) (e : InjPkt) (s : State) : State :=
  let n := s.nextUid
  let s := updPd pd (fun x => { x with inject := x.inject.map fun y =>
    if y = e then { y with accepted := true, came := 0, no := n } else y }) { s with nextUid := n + 1 }
  let s := updCtx e.pkt.ctx (fun c => { c with injected := true }) s
  moveNet (oneLess e.die e.engine e.uid s)

/-- A packet leaves its partition for its port's queue. -/
def leaveInj (pd : Nat) (e : InjPkt) (s : State) : State :=
  enqueue e.oe { pkt := e.pkt, inj := true, die := e.die, slot := e.slot, units := e.units }
    (updPd pd (fun x => { x with inject := x.inject.erase e }) s)

/-- Packets move on while they can. -/
def flowN : Nat → Nat → State → State
  | 0, _, s => s
  | n + 1, pd, s =>
    match nextInj s pd [] (getPd s pd).inject with
    | some e => flowN n pd (if e.accepted then leaveInj pd e s else acceptInj pd e s)
    | none => s

/-- A package packet of a terminated request has not left its prism die. -/
def termUnsent (s : State) (t : TermSt) : Bool :=
  s.dirs.any fun e => e.2.port.any fun w => w.came == 0 &&
    s.txns.any fun x => x.src == w.pkt.src && x.tag == w.pkt.tag && x.owner == .term t.id
/-- Terminated requests whose package packets have left the prism die leave the receive buffers they came by (R291). -/
def freeTerms (pd : Nat) (s : State) : State :=
  (s.terms.filter fun t => t.pd == pd && t.room.src != 0 && t.started && !termUnsent s t).foldl (fun s t =>
    let s : State := { s with terms := s.terms.map fun x => if x.id = t.id then { x with room := {} } else x }
    sendReturns (t.room.src - 1) (giveRoom t.room s)) s

/-- A prism die takes in what has come to it, answers for what was lost, and moves on what it holds. -/
def flow (pd : Nat) (s : State) : State :=
  let s := freeTerms pd (takeLost pd (takeCame pd s))
  flowN (2 * (getPd s pd).inject.length) pd s

/-- The fragments of management messages go from the primary hub to their ports (R396); an unassigned device injects nothing
(R260). -/
def sendOutbox (s : State) : State :=
  let ps := s.mg.outbox
  if ps.isEmpty then s
  else ps.foldl (fun s p =>
    let p := { p with port := portOf s p.dstNode p.dstNode }
    match nextDir s p.dstNode with
    | some (d, x) =>
      if !nodeOk s (nodeId s) || !nodeOk s p.dstNode then s
      else sendTo (hubSite s) (6 * p.port + d) 3 { pkt := { p with sub := nextSub p 6 d x } } s
    | none => s) { s with mg.outbox := [] }

/-- A port sends, and its prism die's partitions follow. -/
def runPort (oe : Nat) (s : State) : State := flow (oePd oe) (pump oe s)

/-- Units of a resource counter used by a descriptor in flight. -/
def useRes (die engine uid obj n : Nat) (s : State) : State :=
  updFly die engine uid (fun y => { y with used := tset 0 y.used obj (tget 0 y.used obj + n) }) s

/-- Iteration `n` of a remote descriptor injects its packet (R264, R265, R277), with the data of A for PUT and RATOM: its port, its epoch
and the outstanding count are those of this moment (R288).
DEDUCED (log 75), unsafe. -/
def remoteReq (die engine : Nat) (x : InFlight) (n : Nat) (data : List Byte) (s : State) : State :=
  let d := x.desc
  let o := d.opcode
  let node := d.remoteNode s
  let u := if o = 0x94 then 32 else d.unitD
  let ret := o == 0x94 && bit d.imm 3
  let isGet := o == 0x92
  let isLoad := o == 0x93 || ret
  let sk := die * 256 + x.ctx
  let ep := routeEpoch s
  let port := portOf s node (tget 0 s.striped sk)
  let oe := 6 * port + (match nextDir s node with | some (k, _) => k | none => 0)
  let pd := oePd oe
  let tk := 256 + die
  let tag := tget 0 s.tags tk
  let units := if o = 0x90 ∨ o = 0x91 then ceilDiv (32 + u) 64 else 1
  let landing := if isGet || o == 0x93 then ceilDiv u 64 else if ret then 1 else 0
  let p : Mpk :=
    { op := if o = 0x92 then 0x21 else if o = 0x93 then 0x22 else if o = 0x94 then 0x23 else 0x20, tc := 0,
      sub := match nextDir s node with | some (k, c) => nextSub {} 6 k c | none => 0, port := port,
      striped := numGet s oOrderMode 0 == 1, flag := o == 0x91 && n + 1 == d.iters, ret := ret, ctx := x.ctx, gen := x.gen,
      dstNode := node, srcNode := nodeId s, len := u / 32,
      rdClass := if isGet || o == 0x93 then bits d.imm 20 2 else 1, atop := if o = 0x94 then bits d.imm 0 3 else 0,
      etype := if o = 0x94 then d.fmtD else 0, srcEngine := engine, srcDie := die, slot := x.slot,
      arrEn := bit d.imm 23 && o != 0x93, arr := bits d.imm 24 8, epoch := ep, tag := tag, addr := offset (d.addrAt d.remote n),
      data := data }
  let dst := if ret then offset (d.addrAt d.b n) else offset (d.addrAt d.d n)
  let t : MTxn := { tag := tag, die := die, engine := engine, slot := x.slot, uid := x.uid, ctx := x.ctx, gen := x.gen,
                    dst := dst, len := u, arrEn := p.arrEn, arr := p.arr, landing := landing, isLoad := isLoad,
                    isGet := isGet }
  let s : State := { s with tags := tset 0 s.tags tk ((tag + 1) % 65536),
                            striped := tset 0 s.striped sk (tget 0 s.striped sk + 1),
                            mtxns := if isGet || isLoad then s.mtxns ++ [t] else s.mtxns }
  let s := useRes die engine x.uid ((if x.slot = 0 then 184 else 248) + pd) units
    (useRes die engine x.uid ((if x.slot = 0 then 180 else 244) + (engine - 3)) landing s)
  let s := oneMore die engine x.uid (if isLoad then oneMore die engine x.uid s else s)
  flow pd (sendCargo (.inject { die := die, engine := engine, uid := x.uid, slot := x.slot, units := units, oe := oe, pkt := p })
    0 die (64 + pd) (72 + oe) (addOut die x.slot ep 1 s))

/-- Local operands of a remote descriptor (R264). -/
def Desc.localOps (d : Desc) : List Opnd :=
  if d.opcode = 0x90 ∨ d.opcode = 0x91 then [d.a] else if d.opcode = 0x94 then [d.a, d.b] else [d.d]

/-- Its own die's memory that a remote descriptor reads or writes holds it (R114, R137, R143). -/
def remoteHeld (s : State) (die : Nat) (d : Desc) : Bool :=
  d.localOps.any fun o => o.en && ownDie die (d.lowOff o) && !memReady s (d.lowOff o)

/-- Chunk `m` of A of a PUT or RATOM: the last of an iteration injects its packet with the whole unit. -/
def remoteDo (die engine : Nat) (x : InFlight) (m _c : Nat) (bs : List Byte) (r : Run) : Run :=
  let k := unitParts x.desc.unitA
  if r.why ≠ 0 then r
  else if m % k + 1 < k then keepPart die engine x m bs r
  else
    let (data, r) := takeParts die engine x m k bs r
    { r with s := remoteReq die engine x (m / k) data r.s }

/-- One chunk of a remote descriptor in its cycle. -/
def remoteStep (die engine : Nat) (x : InFlight) (e : Ev) (r : Run) : Run :=
  if x.desc.opcode = 0x92 ∨ x.desc.opcode = 0x93 then { r with s := remoteReq die engine x e.n [] r.s }
  else chunkRead (remoteDo die engine x) die engine x e.n e.col e.cyc r

/-- What it touches on its own die. -/
def remoteFeet (d : Desc) (e : Ev) : List (Nat × Nat) :=
  if d.opcode = 0x92 ∨ d.opcode = 0x93 then [] else [(d.chunkAt d.a e.n e.col, chunkLen d.unitA e.col)]

/-- The events of a remote descriptor: its data moves at most 256 bytes per cycle (R126); a request without data takes a
cycle. -/
def remoteEvs (x : InFlight) : List Ev :=
  if x.desc.opcode = 0x92 ∨ x.desc.opcode = 0x93 then (List.range x.desc.iters).map fun n => { cyc := x.issue + n, n := n }
  else chunkEvs x.issue x.desc.unitA x.desc.iters

/-- PUT, PUT_FLAG, GET, LOAD, RATOM (R264). -/
def doRemote (die ce op : Nat) (s : State) : State :=
  let engine := 3 + ce
  match nextExec s die engine op with
  | none => s
  | some x =>
    if remoteHeld s die x.desc then s
    else
      let evs := remoteEvs x
      let s := if op = 0x94 then updEngine die engine (fun e => { e with ratom := tput e.ratom x.slot x }) s else s
      finishRun die engine x (evs.foldl (fun c e => max c e.cyc) x.issue)
        (runEvs (remoteStep die engine x) (remoteFeet x.desc) die engine x evs s)

/-! ## Fences (R289, R290) -/

/-- FENCE arms a fence and retires in its issue cycle. -/
def doFence (die ce : Nat) (s : State) : State :=
  let engine := 3 + ce
  match nextExec s die engine 0x95 with
  | none => s
  | some x =>
    let k := fenceKey die x.slot
    let f : Fence := { arr := bits x.desc.imm 24 8, since := wall s, timeout := numGet s oFenceTimeout 0,
                       ctx := x.ctx, gen := x.gen, desc := x.desc.addr die, half := x.desc.half }
    retire die engine x (stampFences die x.slot { s with fences := tset [] s.fences k (tget [] s.fences k ++ [f]) })

/-- The fault of a fence (R332).
DEDUCED (log 76), unsafe. -/
def fenceFault (die slot : Nat) (f : Fence) (reason status addr : Nat) (s : State) : State :=
  chargeFault { ctx := f.ctx, gen := f.gen, reason := reason, source := 2, site := die, slot := slot, half := f.half,
                status := status, desc := f.desc, addr := addr } s

/-- A fence completes: its counter takes 1, or the first latched status faults its context and the latch clears. -/
def completeFence (die slot : Nat) (f : Fence) (s : State) : State :=
  let k := fenceKey die slot
  let l := tget {} s.latches k
  if l.status = 0 then semEvent die { isArr := true, obj := f.arr, kind := 1, value := 1 } s
  else fenceFault die slot f (statusReason l.status true) l.status l.addr { s with latches := tdel s.latches k }

/-- The stamp at which a fence expires (R25, R290). -/
def Fence.expiry (f : Fence) : Nat := f.since + 1000 * f.timeout
/-- Every count was zero before the fence expired. -/
def Fence.inTime (f : Fence) : Bool := match f.clearAt with | some t => decide (t < f.expiry) | none => false

/-- A fence expires (R290): counts of each epoch, oldest first, go into the log. -/
def expireFence (die slot : Nat) (f : Fence) (s : State) : State :=
  let s := advanceTo f.expiry s
  let counts := (List.range 4).flatMap fun i => leBytes 2 (min 65535 (outCount s die slot (routeEpoch s + 1 + i)))
  fenceFault die slot f 0x81 0 0 (bump oFabFenceTimeouts 0 1 (report die 0x0502 slot f.ctx f.gen (leNat counts) s))

/-- The fences behind which every count has been zero end: those in time complete, and the others have expired (R25). -/
def doFenceComplete (die slot : Nat) (s : State) : State :=
  let k := fenceKey die slot
  let fs := tget [] s.fences k
  (fs.filter (·.clearAt.isSome)).foldl
    (fun s f => if f.inTime then completeFence die slot f s else expireFence die slot f s)
    { s with fences := tset [] s.fences k (fs.filter (·.clearAt.isNone)) }

/-- The fence that expires first among those armed expires, unless it was complete before. -/
def firstExpiry (f : Fence) : List Fence → Fence
  | [] => f
  | g :: l => firstExpiry (if g.expiry < f.expiry then g else f) l
def doFenceTimeout (die slot : Nat) (s : State) : State :=
  let k := fenceKey die slot
  match (tget [] s.fences k).filter (!·.inTime) with
  | [] => s
  | f :: l =>
    let g := firstExpiry f l
    expireFence die slot g { s with fences := tset [] s.fences k ((tget [] s.fences k).erase g) }

/-! ## Termination (R273, R286, R287) -/

/-- The compute die of an address's home (R273). -/
def homeDie (a : Nat) : Nat :=
  match region a with
  | .near c => c | .far k => k | .scratch c => c | .spHole c => c | _ => 0

def updTerm (id : Nat) (g : TermSt → TermSt) (s : State) : State :=
  { s with terms := s.terms.map fun t => if t.id = id then g t else t }

/-- The package packets of a request (R273): at most 256 bytes each.
DEDUCED (log 76), unsafe. -/
def termPkgs (t : TermSt) : List (Pkg × Nat) :=
  let q := t.req
  let base : Pkg := { src := 0x40 + t.pd, ctx := q.ctx, gen := q.gen, origin := 1, slot := q.slot, srcEngine := q.srcEngine }
  if q.op = 0x23 then
    [({ base with dst := homeStrap q.addr, op := 0x08 + q.atop, len := 1, etype := q.etype, status := bnat q.ret,
                  addr := q.addr, data := q.data }, 0)]
  else
    (List.range (ceilDiv q.len 8)).map fun i =>
      let a := q.addr + 256 * i
      let k := min 8 (q.len - 8 * i)
      (if q.op = 0x20 then
         { base with dst := homeStrap a, op := 2, len := k, addr := a, data := slice q.data (256 * i) (32 * k) }
       else { base with dst := homeStrap a, op := 1, rdClass := q.rdClass, len := k, addr := a }, 256 * i)

/-- A terminated request's package traffic starts; an offset without a home is answered with STATUS 0x1. -/
def startTerm (t : TermSt) (s : State) : State :=
  let n := if t.req.op = 0x23 then 32 else max 1 (32 * t.req.len)
  if !remoteSpace t.req.addr || !remoteSpace (t.req.addr + n - 1) || 4 < t.req.atop then
    updTerm t.id (fun t => { t with started := true, status := 1, failAddr := t.req.addr }) s
  else
    let ps := termPkgs t
    let s := updTerm t.id (fun t => { t with started := true, waiting := ps.length }) s
    ps.foldl (fun s (p, o) => request p { owner := .term t.id, dst := o, len := 32 * p.len } s) s

/-- A store or atomic of the request's context whose package writes are not all acknowledged (R286). -/
def isStore (q : Mpk) : Bool := q.op == 0x20 || q.op == 0x23
def openStore (t : TermSt) : Bool := isStore t.req && !t.arrSent && (!t.started || t.waiting != 0)

/-- Response data that a request brings back to its prism die. -/
def respBytesOf (q : Mpk) : Nat := if q.op = 0x21 ∨ q.op = 0x22 then 32 * q.len else if q.op = 0x23 ∧ q.ret then 32 else 0
/-- The prism die holds room for the whole response (R202); it has room for one request's at least.
DESIGN CHOICE (log 113), safe. -/
def respRoom (s : State) (t : TermSt) : Bool :=
  let used := (s.terms.filter fun u => u.pd == t.pd && u.started && u.id != t.id).foldl (fun n u => n + respBytesOf u.req) 0
  respBytesOf t.req == 0 || used == 0 || decide (used + respBytesOf t.req ≤ Config.responseRoom (64 + t.pd))
/-- Under PINNED a store or atomic waits while an earlier one of its compute die and context has not started (R285). -/
def behindOwn (s : State) (t : TermSt) : Bool :=
  isStore t.req && !t.req.striped && (s.terms.takeWhile (·.id != t.id)).any fun u =>
    u.pd == t.pd && !u.started && isStore u.req && !u.req.striped && u.req.srcNode == t.req.srcNode &&
      u.req.srcDie == t.req.srcDie && u.req.ctx == t.req.ctx
/-- A request's package traffic may start: the stores that a flagged one waits for are acknowledged (R286), none of its source is
before it, and there is room for the response. -/
def termReady (s : State) (t : TermSt) : Bool :=
  t.heldFor.all (fun i => !(s.terms.any fun x => x.id == i && openStore x)) && !behindOwn s t && respRoom s t

/-- A request reaches its terminating prism die; it holds its room in the receive buffer it came by until its package packets have
left (R291). -/
def terminate (oe : Nat) (q : QPkt) (s : State) : State :=
  let p := q.pkt
  let pd := oePd oe
  let earlier := s.terms.filter fun t => t.pd == pd && t.req.ctx == p.ctx && openStore t
  let hold := p.op == 0x20 && p.flag && !p.striped
  let t : TermSt := { id := s.nextUid, pd := pd, port := p.port, req := p, started := false, room := q,
                      heldFor := if hold then earlier.map (·.id) else [] }
  let s : State := { s with nextUid := s.nextUid + 1, terms := s.terms ++ [t] }
  freeTerms pd (if termReady s t then startTerm t s else s)

/-- A package answer to a terminated request. -/
def termAnswer (id : Nat) (x : Txn) (p : Pkg) (s : State) : State :=
  updTerm id (fun t =>
    { t with waiting := t.waiting - 1, status := if t.status = 0 then p.status else t.status,
             failAddr := if t.status = 0 ∧ p.status ≠ 0 then x.reqAddr else t.failAddr,
             data := if p.status = 0 then
               (List.range p.data.length).foldl (fun d i => tset 0 d (x.dst + i) (p.data.getD i 0)) t.data else t.data }) s

/-- Requests that wait at a prism die start where they may, in order: all of them, or those that are not flagged. -/
def releaseTerms (pd : Nat) (all : Bool) (s : State) : State :=
  freeTerms pd ((s.terms.filter fun t => t.pd == pd && !t.started && (all || !t.req.flag)).foldl
    (fun s t => if termReady s t then startTerm t s else s) s)

/-! ## Acknowledgements (R274) -/

def AckHold.same (h : AckHold) (a : Mpk) : Bool :=
  h.srcNode == a.dstNode && h.srcDie == a.srcDie && h.ctx == a.ctx && h.gen == a.gen && h.slot == a.slot && h.epoch == a.epoch
/-- The M_ACK of a hold.
DEDUCED (log 76), unsafe. -/
def holdAck (s : State) (h : AckHold) : Mpk :=
  { op := 0x25, tc := 1, port := h.port, ctx := h.ctx, gen := h.gen, dstNode := h.srcNode, srcNode := nodeId s,
    count := h.count, srcDie := h.srcDie, slot := h.slot, epoch := h.epoch }
/-- An answer goes out: an M_ACK with STATUS 0 joins its hold. -/
def giveAnswer (pd : Nat) (a : Mpk) (s : State) : State :=
  if a.op ≠ 0x25 ∨ a.status ≠ 0 then sendAnswer pd a s
  else match (getPd s pd).acks.find? (·.same a) with
    | some h =>
      let h' := { h with count := h.count + 1 }
      if 65535 ≤ h'.count then
        sendAnswer pd (holdAck s h') (updPd pd (fun x => { x with acks := x.acks.erase h }) s)
      else updPd pd (fun x => { x with acks := x.acks.map fun y => if y = h then h' else y }) s
    | none =>
      let h : AckHold := { srcNode := a.dstNode, srcDie := a.srcDie, ctx := a.ctx, gen := a.gen, slot := a.slot,
                           epoch := a.epoch, count := 1, port := a.port, first := wall s }
      updPd pd (fun x => { x with acks := x.acks ++ [h] }) s

/-- The oldest hold of a prism die is 1 us old: holds of that age go out. -/
def doAckTimeout (pd : Nat) (s : State) : State :=
  match (getPd s pd).acks with
  | [] => s
  | h :: hs =>
    let first := hs.foldl (fun n x => min n x.first) h.first
    let s := advanceTo (first + 1000) s
    let now := wall s
    let due := (h :: hs).filter fun x => decide (x.first + 1000 ≤ now)
    due.foldl (fun s x => sendAnswer pd (holdAck s x) s)
      (updPd pd (fun x => { x with acks := x.acks.filter fun y => decide (now < y.first + 1000) }) s)

/-- The home's answers are in (R273): a non-zero status ends the request; a store's increment comes before its answer, and
one outside the range of the context's slot is answered with STATUS 0x1 (R287). -/
def doTermComplete (id : Nat) (s : State) : State :=
  match s.terms.find? (fun t => t.id == id) with
  | none => s
  | some t =>
    let q := t.req
    let c := homeDie q.addr
    let finished (status addr : Nat) (data : List Byte) (s : State) : State :=
      let s := giveRoom t.room s
      releaseTerms t.pd false (giveAnswer t.pd (mAnswer s q status addr data) { s with terms := s.terms.filter fun x => x.id != id })
    if !t.started || t.waiting ≠ 0 then s
    else if t.status ≠ 0 then finished t.status t.failAddr [] s
    else if q.op = 0x20 ∧ q.arrEn ∧ !t.arrSent then
      if q.ctx ≠ 0 ∧ slotOn s q.ctx (c / 8) = some (objSlot true q.arr) then
        request { dst := c, src := 0x40 + t.pd, op := 0x2F, pclass := 0, ctx := q.ctx, gen := q.gen, len := 1, origin := 1,
                  slot := q.slot, srcEngine := q.srcEngine, addr := ctrlBase c + 0x1000 + 8 * q.arr,
                  data := slice (leBytes 8 (32 * q.len)) 0 32 } { owner := .term id, dst := 2 ^ 20 }
          (updTerm id (fun t => { t with arrSent := true, waiting := 1 }) s)
      else finished 1 q.addr [] s
    else
      let n := if q.op = 0x20 then 0 else if q.op = 0x23 then (if q.ret then 32 else 0) else 32 * q.len
      finished 0 q.addr ((List.range n).map fun i => tget 0 t.data i) s

/-! ## Arrival at an engine -/

/-- A packet for this device crosses from the engine to its prism die, or is discarded before their link. -/
def ejects (s : State) (oe : Nat) : Bool := isAdmitted s (64 + oePd oe) && (getLink s (108 + oe)).state == 3
/-- A packet arrives at an optical engine (R260, R276, R277, R280, R330): one for this device is handed to `here` at the prism die, or
waits in the receive buffer while the link there does not carry packets; one for another device goes on by its port, holding its
room in the receive buffer. `check`: R330 judges it here.
DEDUCED (log 43), unsafe. -/
def receiveQ (check : Bool) (oe : Nat) (p : Mpk) (here : QPkt → State → State) (s : State) : State :=
  let pd := oePd oe
  let own := nodeId s != 0x8000 && p.dstNode == nodeId s
  let st := (getLink s (108 + oe)).state
  if own && isAdmitted s (64 + pd) && st != 3 && st != 5 then s
  else
    let s := bumpBlob oFabPortStats (oe + 1) (3 * p.tc + 1) 8 (mpkSize p) s
    let (a, b) := rxUnits (getOe s oe) p
    let q : QPkt := { pkt := p, src := oe + 1, vc := mpkVc p, shr := a, res := b }
    let s := updOe oe (fun o => { takeRoom p o with rxPkts := o.rxPkts.erase p }) s
    let c := carrier p 1 (72 + oe) (64 + pd)
    if nodeId s = 0x8000 then giveRoom q (discardMpk 1 pd p s)
    else if own then
      if !ejects s oe then giveRoom q (bounce pd p (lose c none (108 + oe) (72 + oe) s))
      else
        let s := countHop c (108 + oe, false) s
        if !check || ctxAccepts s p.ctx p.gen then here q s else giveRoom q (discardOld pd p s)
    else match nextDir s p.dstNode with
      | some (d, x) =>
        let out := 6 * p.port + d
        if !nodeOk s p.dstNode then giveRoom q (portDown pd p s)
        else flow (oePd out) (sendTo (72 + oe) out 1 { q with pkt := { p with sub := nextSub p (oe % 6) d x } } s)
      | none => giveRoom q (portDown pd p s)
/-- One whose room in the receive buffer is free as soon as its prism die has it. -/
def receive (check : Bool) (oe : Nat) (p : Mpk) (here : Mpk → State → State) (s : State) : State :=
  receiveQ check oe p (fun q s => giveRoom q (here q.pkt s)) s

/-- A reserved OP is discarded where it is found (R271). -/
def knownMop (op : Nat) : Bool := (0x20 ≤ op && op ≤ 0x2A) || op == 0x2E
def doReservedMop (oe : Nat) (p : Mpk) (s : State) : State :=
  if knownMop p.op then s
  else
    let s := bumpBlob oFabPortStats (oe + 1) (3 * p.tc + 1) 8 (mpkSize p) s
    let (a, b) := rxUnits (getOe s oe) p
    giveRoom { pkt := p, src := oe + 1, vc := mpkVc p, shr := a, res := b } (discardMpk 2 (oePd oe) p
      (updOe oe (fun o => { takeRoom p o with rxPkts := o.rxPkts.erase p }) s))

/-- M_CREDIT returns credits (R280). -/
def doCredit (oe : Nat) (reserved : List Nat) (shared : Nat) (s : State) : State :=
  runPort oe (updOe oe (fun o =>
    { o with rxPkts := o.rxPkts.eraseP (·.op == 0x26), sharedSpent := o.sharedSpent - shared,
             resSpent := (List.range 8).foldl (fun t v => tset 0 t v (tget 0 t v - reserved.getD v 0)) o.resSpent }) s)

/-- Pending returns go out within 1 us. -/
def doCreditTimer (oe : Nat) (s : State) : State :=
  let o := getOe s oe
  if pendBytes o = 0 then s else runPort oe (sendCredit oe (advanceTo (o.pendSince + 1000) s))

/-- The head of a DOWN or OFF port's queue is discarded (R283). -/
def doPortDown (oe : Nat) (s : State) : State :=
  let o := getOe s oe
  match o.queue with
  | [] => s
  | q :: _ => if o.state = 7 ∨ o.state = 0 then flow (oePd oe) (portDown (oePd oe) q.pkt (dequeue oe q s)) else s

/-- Held flagged stores of a prism die go on where they may, at the source and at the destination (R286). -/
def doFlaggedRelease (pd : Nat) (s : State) : State := releaseTerms pd true (flow pd s)

/-! ## The commands -/

def execPut (die : Die) (ce : Ce) (s : State) : Out := .next (doRemote die ce 0x90 s)
def execPutFlag (die : Die) (ce : Ce) (s : State) : Out := .next (doRemote die ce 0x91 s)
def execGet (die : Die) (ce : Ce) (s : State) : Out := .next (doRemote die ce 0x92 s)
def execLoad (die : Die) (ce : Ce) (s : State) : Out := .next (doRemote die ce 0x93 s)
def execRatom (die : Die) (ce : Ce) (s : State) : Out := .next (doRemote die ce 0x94 s)
def execFence (die : Die) (ce : Ce) (s : State) : Out := .next (doFence die ce s)
def execFenceComplete (die : Die) (slot : Slot) (s : State) : Out := .next (doFenceComplete die (slotCode slot) s)
def execFenceTimeout (die : Die) (slot : Slot) (s : State) : Out := .next (doFenceTimeout die (slotCode slot) s)
def execMPut (oe : Oe) (p : Mpk) (s : State) : Out := .next (receiveQ true oe { p with op := 0x20 } (terminate oe) s)
def execMGet (oe : Oe) (p : Mpk) (s : State) : Out := .next (receiveQ true oe { p with op := 0x21 } (terminate oe) s)
def execMLoad (oe : Oe) (p : Mpk) (s : State) : Out := .next (receiveQ true oe { p with op := 0x22 } (terminate oe) s)
def execMAtom (oe : Oe) (p : Mpk) (s : State) : Out := .next (receiveQ true oe { p with op := 0x23 } (terminate oe) s)
def execMTerminationComplete (term : Nat) (s : State) : Out := .next (doTermComplete term s)
/-- M_DATA and M_ACK: those for this device go on to SRC_DIE. -/
def execMData (oe : Oe) (p : Mpk) (s : State) : Out := .next (receive true oe { p with op := 0x24 } (toDie (oePd oe)) s)
def execMAck (oe : Oe) (p : Mpk) (s : State) : Out := .next (receive true oe { p with op := 0x25 } (toDie (oePd oe)) s)
def execAckCoalesceTimeout (pd : Pd) (s : State) : Out := .next (doAckTimeout pd s)
def execMCredit (oe : Oe) (reserved : List Nat) (shared : Nat) (s : State) : Out := .next (doCredit oe reserved shared s)
def execCreditReturnTimer (oe : Oe) (s : State) : Out := .next (doCreditTimer oe s)
def execMachineReservedOp (oe : Oe) (p : Mpk) (s : State) : Out := .next (doReservedMop oe p s)
def execPortDownDiscard (oe : Oe) (s : State) : Out := .next (doPortDown oe s)
def execFlaggedStoreRelease (pd : Pd) (s : State) : Out := .next (doFlaggedRelease pd s)

end Sys2Proof.Machine
end

