-- ==== Sys2Proof/Machine/Apply.lean ====
section
/-! DEFINITION. Machine/Apply.lean: pending writes of the dictionary and when they take effect (R10, R11, R464, R279,
R316, R406). -/
namespace Sys2Proof.Machine
open Sys2Proof

/-- The value of an object, as its bytes give it (R402). -/
def setValue (key : Nat) (v : List Byte) (s : State) : State :=
  match findObj (key / 256) (key % 256) with
  | some o => if 8 ≤ o.type ∧ o.type ≤ 9 then blobSet (key / 256) (key % 256) v s
              else numSet (key / 256) (key % 256) (leNat v) s
  | none => s

/-- An accepted write is applied, with its APPLIED entry (R406, R409); `f` the facet whose tick applies it.
DEDUCED (log 77), unsafe. -/
def applyWrite (f : Nat) (w : PendWrite) (s : State) : State :=
  journal 0 0x0C 0 w.key (leBytes 8 w.seq ++ [byte f]) (setValue w.key w.value s)

/-- NODE_ID, AXIS_SIZE and ORDER_MODE (R279). -/
def isGeometry (key : Nat) : Bool := key == objKey oNodeId 0 || key == objKey oAxisSize 0 || key == objKey oOrderMode 0

/-- Applies the writes that `due` names, in ascending journal sequence; a geometry change opens a new epoch, on an
unassigned device only with the write that assigns it. `keep` is what stays pending of a write. -/
def applyDue (f : Nat) (due : PendWrite → Bool) (keep : PendWrite → Option PendWrite) (s : State) : State :=
  let ws := s.mg.pend.filter due
  let old := geometry s
  let was := nodeId s
  let rest := s.mg.pend.filterMap fun w => if due w then keep w else some w
  let s := ws.foldl (fun s w => applyWrite f w s) { s with mg.pend := rest }
  if ws.any (fun w => isGeometry w.key) && (was != 0x8000 || nodeId s != 0x8000) then openEpoch old s else s

/-- Step 5 of a tick stamped `t` on facet `f` (R10, R26). -/
def tickApply (f t : Nat) (s : State) : State :=
  applyDue f (fun w => (if w.effect = 5 then lowestOn s == some f else w.effect == 2 && bit w.facets f) && decide (w.accepted < t))
    (fun w =>
      if clearBit w.facets f = 0 then none
      else some { w with facets := clearBit w.facets f, begun := true,
                         old := if w.begun then w.old else leBytes 8 (numGet s (w.key / 256) (w.key % 256)) }) s

/-- Geometry writes that waited for a tick of an unassigned device take effect at once when every facet is OFF (R279). -/
def offApply (s : State) : State :=
  if lowestOn s = none then applyDue 0xFF (fun w => w.effect == 5) (fun _ => none) s else s

/-- A completed barrier's writes (R316). -/
def barrierApply (s : State) : State := applyDue 0xFF (fun w => w.effect == 3) (fun _ => none) s

/-- A reset's writes: those of the objects named. -/
def resetApply (f : Nat) (keys : Nat → Bool) (s : State) : State :=
  applyDue f (fun w => w.effect == 4 && keys w.key) (fun _ => none) s

/-- The latest accepted value of an object, pending or in force (R464). -/
def latestNum (s : State) (ix sub : Nat) : Nat :=
  match s.mg.pend.reverse.find? (fun w => w.key == objKey ix sub) with
  | some w => leNat w.value
  | none => numGet s ix sub
def latestBlob (s : State) (ix sub : Nat) : List Byte :=
  match s.mg.pend.reverse.find? (fun w => w.key == objKey ix sub) with
  | some w => w.value
  | none => blobGet s ix sub

end Sys2Proof.Machine
end

