-- ==== Sys2Proof/Machine/Collective.lean ====
section
/-! DEFINITION. Machine/Collective.lean: the collective engines (R294 to R317, R322): plans, instances, the order of
reduction, grants, aborts, pruning, barriers and holds. -/
namespace Sys2Proof.Machine
open Sys2Proof

/-! ## Records -/

def Plan.is (p : Plan) (pd ctx coll : Nat) : Bool := p.pd == pd && p.ctx == ctx && p.coll == coll
def Inst.is (p : Inst) (pd ctx coll : Nat) : Bool := p.pd == pd && p.ctx == ctx && p.coll == coll
/-- DEDUCED (log 79), unsafe. -/
def findPlan (s : State) (pd ctx coll : Nat) : Option Plan := s.plans.find? (·.is pd ctx coll)
def findInst (s : State) (pd ctx coll : Nat) : Option Inst := s.insts.find? (·.is pd ctx coll)
def updPlan (pd ctx coll : Nat) (g : Plan → Plan) (s : State) : State :=
  { s with plans := s.plans.map fun p => if p.is pd ctx coll then g p else p }
def updInst (pd ctx coll : Nat) (g : Inst → Inst) (s : State) : State :=
  { s with insts := s.insts.map fun p => if p.is pd ctx coll then g p else p }
def dropInst (pd ctx coll : Nat) (s : State) : State := { s with insts := s.insts.filter fun p => !p.is pd ctx coll }

/-! ## Plans (R297 to R299) -/

/-- Reads a plan record (R298); a tree of one member has no neighbours (R299). -/
def Plan.ofBytes (b : List Byte) : Plan :=
  let n (o k : Nat) : Nat := leNat (slice b o k)
  let alone := n 1 1 == 1 && n 8 2 == 1
  { kind := n 0 1, shape := n 1 1, redOp := n 2 1, etype := n 3 1, hold := bit (n 4 1) 0, pd := n 5 1, die := n 6 1,
    arr := n 7 1, members := n 8 2, rank := n 10 2, root := n 12 2, window := n 14 2, chunk := n 16 2, timeout := n 18 2,
    bytes := n 24 8, src := n 32 8, dst := n 40 8, parent := if alone then 0x8000 else n 48 2, child0 := n 50 2,
    children := if alone then [] else ((List.range 6).map fun i => n (50 + 2 * i) 2).filter (· != 0x8000) }

def Plan.ring (p : Plan) : Bool := p.shape == 0 && p.kind ≤ 3
def Plan.reduces (p : Plan) : Bool := p.kind == 1 || p.kind == 2
def Plan.moves (p : Plan) : Bool := p.kind != 6
/-- The tree root; a ring's next member is CHILD0 (R298); and the neighbours. -/
def Plan.isRoot (p : Plan) : Bool := p.parent == 0x8000
def Plan.next (p : Plan) : Nat := p.child0
def Plan.neighbours (p : Plan) : List Nat :=
  (if p.ring then [p.parent, p.next] else (if p.isRoot then [] else [p.parent]) ++ p.children).eraseDups

/-- Flows in which neighbours send chunks here: neighbour and flow, 0 C_UP, 1 C_DOWN (R303, R304). -/
def Plan.inbound (p : Plan) : List (Nat × Nat) :=
  if p.ring then
    if p.members = 1 then [] else
    (if p.kind = 3 then [] else [(p.parent, 0)]) ++ (if p.kind = 2 then [] else [(p.parent, 1)])
  else if p.kind = 1 then p.children.map (fun c => (c, 0)) ++ (if p.isRoot then [] else [(p.parent, 1)])
  else if p.kind = 4 ∨ p.kind = 5 then (if p.isRoot then [] else [(p.parent, 1)])
  else []
/-- Window buffer reserved: per inbound neighbour (R299). -/
def Plan.reserve (p : Plan) : Nat := p.window * p.chunk * (p.inbound.map (·.1)).eraseDups.length

/-- The record's reserved bytes and flags are zero (R298). -/
def planClean (b : List Byte) : Bool :=
  bits (leNat (slice b 4 1)) 1 7 == 0 && (slice b 20 4).all (· == 0) && (slice b 62 66).all (· == 0)

/-- The shape allowed and the values in range (first row of R299).
DEDUCED (log 78), unsafe. -/
def Plan.valid (p : Plan) : Bool :=
  1 ≤ p.kind && p.kind ≤ 6 && p.shape ≤ 1 && p.redOp ≤ 2 && p.pd ≤ 7 && p.die ≤ 31 &&
    (if p.reduces then p.etype == 0 || p.etype == 1 || p.etype == 10 else p.redOp == 0 && p.etype == 0) &&
    (!p.hold || p.kind == 6) &&
    (if p.kind = 1 then true else if p.kind = 2 ∨ p.kind = 3 then p.shape == 0 else p.shape == 1) &&
    1 ≤ p.members && p.members ≤ 32768 && p.rank < p.members && p.root < p.members &&
    (p.kind == 6 || (16 ≤ p.window && p.window ≤ 4096)) && 256 ≤ p.chunk && p.chunk ≤ 4032 && p.chunk % 32 == 0 &&
    p.timeout ≤ 60000 && p.bytes % (if p.kind = 1 && p.shape == 0 then 32 * p.members else 32) == 0 &&
    (if p.moves then p.bytes != 0 else p.bytes == 0)

/-- Bytes of SRC and DST (R299). -/
def Plan.srcBytes (p : Plan) : Nat :=
  if p.kind = 2 then p.members * p.bytes
  else if p.kind = 4 ∨ p.kind = 5 then (if p.rank = p.root then p.bytes else 0) else p.bytes
def Plan.dstBytes (p : Plan) : Nat := if p.kind = 3 then p.members * p.bytes else p.bytes

/-- SRC or DST lies in the scratchpad or near tier of LOCAL_DIE. -/
def collPlace (die a n : Nat) : Bool :=
  n == 0 || (memPlace a == memPlace (a + n - 1) && (memPlace a == some (0, die) || memPlace a == some (1, die)) &&
    (match region (a + n - 1) with | .spHole _ => false | _ => true))

/-- An instance runs, that has not completed (R301). -/
def isRunning (s : State) (pd ctx coll : Nat) : Bool :=
  match findInst s pd ctx coll with
  | some i => i.doneAt.isNone
  | none => false
/-- The code with which the engine refuses a plan, 0 for none (R299), in the order of its table.
DEDUCED (log 78), unsafe. -/
def planRefused (s : State) (die slot : Nat) (clean : Bool) (hostPd : Nat) (p : Plan) : Nat :=
  let others := s.plans.filter fun q => q.pd == p.pd && !q.is p.pd p.ctx p.coll
  let entries := (others.filter fun q => q.slot == slot).length
  let used := others.foldl (fun n q => n + q.reserve) 0
  let sn := p.srcBytes
  let dn := p.dstBytes
  if !clean || !p.valid || p.pd != hostPd || objSlot true p.arr != slot then 0x06
  else if p.die ≠ die then 0x06
  else if (if slot = 0 then 384 else 128) ≤ entries || 48 * 2 ^ 20 < used + p.reserve ||
      isRunning s p.pd p.ctx p.coll then 0x06
  else if p.neighbours.any (fun n => n == nodeId s || !nodeOk s n) || !collPlace die p.src sn || !collPlace die p.dst dn then 0x24
  else if (sn != 0 && !ownsRange s p.ctx p.src sn) || (dn != 0 && !ownsRange s p.ctx p.dst dn) then 0x20
  else if p.src % 32 != 0 || p.dst % 32 != 0 then 0x21
  else 0

/-! ## Chunks (R303, R304) -/

/-- Bytes of a piece, chunks in it, bytes of a chunk. -/
def Plan.pieceBytes (p : Plan) : Nat := if p.ring && p.kind == 1 then p.bytes / p.members else p.bytes
def Plan.chunks (p : Plan) : Nat := ceilDiv p.pieceBytes p.chunk
def Plan.chunkBytes (p : Plan) (c : Nat) : Nat := min p.chunk (p.pieceBytes - c * p.chunk)
def chunkKey (piece c : Nat) : Nat := piece * 2 ^ 32 + c
/-- Node offset of a chunk of SRC and of DST. -/
def Plan.srcAt (p : Plan) (piece c : Nat) : Nat :=
  p.src + (if p.kind = 3 then 0 else piece * p.pieceBytes) + c * p.chunk
def Plan.dstAt (p : Plan) (piece c : Nat) : Nat :=
  p.dst + (if p.kind = 2 then 0 else piece * p.pieceBytes) + c * p.chunk

/-- (rank - k) modulo N. -/
def Plan.back (p : Plan) (k : Nat) : Nat := (p.rank + p.members - k % p.members) % p.members

/-- Pieces of its own source that a member reads, in the order in which they are needed. -/
def Plan.ownPieces (p : Plan) : List Nat :=
  if p.kind = 3 then [p.rank]
  else if p.ring then (List.range p.members).map fun k => p.back (k + 1)
  else if p.kind = 1 then [0]
  else if p.moves && p.rank == p.root then [0]
  else []

/-- Chunks that the member sends during an instance. -/
def Plan.sends (p : Plan) : Nat :=
  let c := p.chunks
  if p.ring then (if p.kind = 1 then 2 else 1) * (p.members - 1) * c
  else if p.kind = 1 then (if p.isRoot then 0 else c) + c * p.children.length
  else if p.moves then c * p.children.length
  else 0

/-- Increments of ARR (R302): how many, and of the `k`-th its chunks and its amount. -/
def Plan.incCount (p : Plan) : Nat :=
  if !p.moves then 0 else if p.ring then (if p.kind = 2 then 1 else p.members) else p.chunks
def Plan.incOf (p : Plan) (k : Nat) : List Nat × Nat :=
  if p.ring then
    let piece := p.back k
    ((List.range p.chunks).map fun c => chunkKey piece c, p.pieceBytes)
  else ([chunkKey 0 k], p.chunkBytes k)

/-- One combination (R305): the value so far, then the next. The bits of a NaN are open, and the same on every run. -/
def combine (f op : Nat) (a b : List Byte) : List Byte :=
  let n := a.length * 8 / fmtBits f
  elemBytes f (((List.range n).zip ((elems f n a).zip (elems f n b))).map fun (i, x, y) =>
    atomElem op f (Config.resultFree 0xA1 a b op i) x y)

/-! ## Packets (R306, R307) -/

def collHdrBytes (h : CollHdr) : List Byte :=
  leBytes 32 ((h.flow % 2) * 2 ^ 103 + (h.reason % 256) * 2 ^ 104 + (h.grant % 65536) * 2 ^ 112 +
    (h.srcRank % 65536) * 2 ^ 128 + (h.piece % 65536) * 2 ^ 144 + (h.subtype % 16) * 2 ^ 160 + (h.collId % 4096) * 2 ^ 164 +
    (h.seq % 65536) * 2 ^ 176 + h.offset * 2 ^ 192)
def collHdrOf (b : List Byte) : CollHdr :=
  let n := leNat (slice b 0 32)
  { offset := bits n 192 64, seq := bits n 176 16, collId := bits n 164 12, subtype := bits n 160 4, piece := bits n 144 16,
    srcRank := bits n 128 16, grant := bits n 112 16, reason := bits n 104 8, flow := bits n 103 1 }

/-- A collective packet to a neighbour. -/
def collPkt (s : State) (pd ctx gen slot node op : Nat) (h : CollHdr) (data : List Byte) : Mpk :=
  { op := op, tc := if op = 0x2A then 3 else 2, port := pd / 2, ctx := ctx, gen := gen, dstNode := node, srcNode := nodeId s,
    len := data.length / 32 + 1, slot := slot, data := collHdrBytes h ++ data }
def Plan.ctrl (p : Plan) (s : State) (node seq : Nat) (h : CollHdr) : Mpk :=
  collPkt s p.pd p.ctx p.gen p.slot node 0x2A { h with collId := p.coll, seq := seq, srcRank := p.rank } []

/-- COLL_DISCARDS of an engine. -/
def collDiscard (pd : Nat) (s : State) : State := bump oCollDiscards (pd + 1) 1 s

/-! ## Fences and aborts (R310 to R314) -/

/-- A neighbour is fenced for every instance: by *COLL_FENCE_LIST*, or by its port (R313). -/
def fencedNow (s : State) (pd node : Nat) : Bool :=
  let l := blobGet s oCollFenceList 0
  (List.range (l.length / 2)).any (fun k => leNat (slice l (2 * k) 2) == node) ||
    (match nextDir s node with
     | some (d, _) => let st := (getOe s (6 * (pd / 2) + d)).state; st == 7 || st == 0
     | none => false)
/-- A neighbour is fenced for an instance (R313); a child once pruned stays so (R314). -/
def isFenced (s : State) (pd : Nat) (i : Inst) (node : Nat) : Bool := fencedNow s pd node || i.fenced.contains node

/-- A neighbour that the collective needs whatever chunk goes next (R314): the parent, and both members of a ring. -/
def fencedNeed (s : State) (p : Plan) (i : Inst) : Bool :=
  (p.ring && p.neighbours.any (isFenced s p.pd i)) || (!p.isRoot && isFenced s p.pd i p.parent)

/-- An instance aborts at this member (R310, R311): no more data, ABORT to every neighbour but the one it came from, and
the settle window of 1 ms opens; a later reason inside it counts where it has precedence. An instance that has completed does not
abort. -/
def abortInst (pd ctx coll reason cause : Nat) (s : State) : State :=
  match findPlan s pd ctx coll, findInst s pd ctx coll with
  | some p, some i =>
    if i.doneAt.isSome then s
    else if i.aborting then
      if reason = 0xC1 ∧ wall s < i.settle + 1000000 then updInst pd ctx coll (fun i => { i with reason := 0xC1 }) s else s
    else
      let s := updInst pd ctx coll (fun i => { i with aborting := true, reason := reason, settle := wall s, owed := [],
                                                      ups := [], src := [], srcBuf := [] }) s
      let s := updPlan pd ctx coll (fun p =>
        { p with held := [], incs := if p.incWait then p.incs.take 1 ++ (p.incs.drop 1).filter (·.1 != i.seq)
                                     else p.incs.filter (·.1 != i.seq) }) s
      (p.neighbours.filter (· != cause)).foldl (fun s n =>
        routeOut pd (p.ctrl s n i.seq { subtype := 3, reason := reason }) s) s
  | _, _ => s

/-! ## Sending chunks (R308, R314) -/

/-- A chunk for a fenced child of a MULTICAST is dropped and counted; the first of the instance is logged.
DEDUCED (log 79), unsafe. -/
def pruneChunk (p : Plan) (i : Inst) (node : Nat) (m : Mpk) (s : State) : State :=
  let s := bumpBlob oCollPruned (p.pd + 1) 0 8 1 (bumpBlob oCollPruned (p.pd + 1) 1 8 (m.data.length - 32) s)
  let s := if i.pruned then s else report (64 + p.pd) 0x0601 0 p.ctx p.gen (node + p.coll * 65536) s
  updInst p.pd p.ctx p.coll (fun i =>
    { i with pruned := true, left := i.left - 1, fenced := if i.fenced.contains node then i.fenced else i.fenced ++ [node] }) s

/-- Flow of a packet's OP. -/
def opFlow (op : Nat) : Nat := if op = 0x28 then 0 else 1

/-- Sends what an instance owes its neighbours, in order for each, while it holds grants. -/
def flushN : Nat → Nat → Nat → Nat → State → State
  | 0, _, _, _, s => s
  | n + 1, pd, ctx, coll, s =>
    match findPlan s pd ctx coll, findInst s pd ctx coll with
    | some p, some i =>
      let stuck (e : Nat × Mpk) : Bool :=
        e.2.op != 0x2A && tget 0 p.grants (e.1 * 2 + opFlow e.2.op) == 0 && !isFenced s pd i e.1
      match i.owed.find? (fun e => !stuck e) with
      | none => s
      | some e =>
        let s' := updInst pd ctx coll (fun i => { i with owed := i.owed.erase e }) s
        if isFenced s pd i e.1 then
          if p.kind = 5 ∧ e.1 ≠ p.parent then flushN n pd ctx coll (if e.2.op = 0x2A then s' else pruneChunk p i e.1 e.2 s')
          else abortInst pd ctx coll 0xC1 0x8000 s'
        else
          let k := e.1 * 2 + opFlow e.2.op
          let s' := if e.2.op = 0x2A then s'
            else updInst pd ctx coll (fun i => { i with left := i.left - 1 })
              (updPlan pd ctx coll (fun p => { p with grants := tset 0 p.grants k (tget 0 p.grants k - 1) }) s')
          flushN n pd ctx coll (routeOut pd e.2 s')
    | _, _ => s

def flush_ (pd ctx coll : Nat) (s : State) : State :=
  match findPlan s pd ctx coll, findInst s pd ctx coll with
  | some p, some i =>
    if fencedNeed s p i then abortInst pd ctx coll 0xC1 0x8000 s else flushN (i.owed.length + 1) pd ctx coll s
  | _, _ => s

/-- An instance owes a chunk to a neighbour. -/
def owe (p : Plan) (i : Inst) (node op piece c : Nat) (data : List Byte) (s : State) : State :=
  let m := collPkt s p.pd p.ctx p.gen p.slot node op
    { offset := c * p.chunk, seq := i.seq, collId := p.coll, piece := piece, srcRank := p.rank } data
  updInst p.pd p.ctx p.coll (fun i => { i with owed := i.owed ++ [(node, m)] }) s

/-- A chunk of a neighbour's flow has been combined, forwarded or written: a grant for it may return (R308). -/
def giveGrant (p : Plan) (node flow : Nat) (s : State) : State :=
  let now := wall s
  updPlan p.pd p.ctx p.coll (fun p =>
    { p with returnSince := if p.returns.isEmpty then now else p.returnSince,
             returns := tset 0 p.returns (node * 2 + flow) (tget 0 p.returns (node * 2 + flow) + 1) }) s

/-- A chunk is written to DST: WR packets of at most 256 bytes from the engine's prism die (R295). -/
def writeChunk (p : Plan) (piece c : Nat) (data : List Byte) (s : State) : State :=
  let n := ceilDiv data.length 256
  let s := updInst p.pd p.ctx p.coll (fun i => { i with writes := tset 0 i.writes (chunkKey piece c) (n + 1) }) s
  (List.range n).foldl (fun s k =>
    let bs := slice data (256 * k) (min 256 (data.length - 256 * k))
    let a := p.dstAt piece c + 256 * k
    request { dst := homeStrap a, src := 0x40 + p.pd, op := 2, ctx := p.ctx, gen := p.gen, len := bs.length / 32, origin := 1,
              slot := p.slot, addr := a, data := bs } { owner := .coll p.pd p.ctx p.coll, it := 1, dst := chunkKey piece c } s) s

/-- A final chunk: written, and sent on: down a tree, or around a ring until the piece is back at its first member. -/
def finalChunk (p : Plan) (i : Inst) (piece c : Nat) (data : List Byte) (s : State) : State :=
  let s := writeChunk p piece c data s
  if !p.ring then p.children.foldl (fun s n => owe p i n 0x29 0 c data s) s
  else if p.kind = 2 ∨ piece = (p.rank + 1) % p.members then s
  else owe p i p.next 0x29 piece c data s

/-! ## Combining (R303 to R305) -/

/-- A tree member combines a chunk once it has its own and every child's, in that order. -/
def tryTree (p : Plan) (i : Inst) (c : Nat) (s : State) : State :=
  let own := tget [] i.src c
  let kids := (List.range p.children.length).map fun k => tget [] i.ups (k * 2 ^ 64 + c)
  if own.isEmpty || kids.any (·.isEmpty) then s
  else
    let sum := kids.foldl (combine p.etype p.redOp) own
    let s := updInst p.pd p.ctx p.coll (fun i =>
      { i with src := tdel i.src c,
               ups := (List.range p.children.length).foldl (fun t k => tdel t (k * 2 ^ 64 + c)) i.ups }) s
    let s := p.children.foldl (fun s n => giveGrant p n 0 s) s
    if p.isRoot then finalChunk p i 0 c sum s else owe p i p.parent 0x28 0 c sum s

/-- A ring member adds its own contribution to a received partial. -/
def tryRing (p : Plan) (i : Inst) (piece c : Nat) (s : State) : State :=
  let k := chunkKey piece c
  let own := tget [] i.src k
  let part := tget [] i.ups k
  if own.isEmpty || part.isEmpty then s
  else
    let sum := combine p.etype p.redOp part own
    let s := updInst p.pd p.ctx p.coll (fun i => { i with src := tdel i.src k, ups := tdel i.ups k }) s
    let s := giveGrant p p.parent 0 s
    if piece = p.rank then finalChunk p i piece c sum s else owe p i p.next 0x28 piece c sum s

/-! ## Source reads -/

/-- Reads the next chunk of SRC (R295).
DEDUCED (log 79), unsafe. -/
def readNext (pd ctx coll : Nat) (s : State) : State :=
  match findPlan s pd ctx coll, findInst s pd ctx coll with
  | some p, some i =>
    let ps := p.ownPieces
    if i.aborting || i.srcWait ≠ 0 || p.chunks * ps.length ≤ i.srcNext then s
    else
      let piece := ps.getD (i.srcNext / p.chunks) 0
      let c := i.srcNext % p.chunks
      let len := p.chunkBytes c
      let n := ceilDiv len 256
      let s := updInst pd ctx coll (fun i => { i with srcWait := n }) s
      (List.range n).foldl (fun s k =>
        let a := p.srcAt piece c + 256 * k
        request { dst := homeStrap a, src := 0x40 + pd, op := 1, ctx := ctx, gen := p.gen, len := min 256 (len - 256 * k) / 32,
                  origin := 1, slot := p.slot, addr := a } { owner := .coll pd ctx coll, it := 0, dst := k } s) s
  | _, _ => s

/-- An own chunk is in. A ring of one member has no steps: its contribution is the result (R303). -/
def ownChunk (p : Plan) (i : Inst) (piece c : Nat) (data : List Byte) (s : State) : State :=
  if p.kind = 3 ∨ p.kind = 4 ∨ p.kind = 5 ∨ (p.ring ∧ p.members = 1) then finalChunk p i piece c data s
  else if p.ring && piece == p.back 1 then owe p i p.next 0x28 piece c data s
  else
    let s := updInst p.pd p.ctx p.coll (fun i => { i with src := tset [] i.src (chunkKey piece c) data }) s
    match findInst s p.pd p.ctx p.coll with
    | some i => if p.ring then tryRing p i piece c s else tryTree p i c s
    | none => s

/-! ## Increments and completion (R301, R302) -/

/-- The first increment that waits goes out, one at a time (R302). -/
def sendInc (pd ctx coll : Nat) (s : State) : State :=
  match findPlan s pd ctx coll with
  | some p =>
    match p.incs with
    | e :: _ =>
      if p.incWait then s
      else
        request { dst := p.die, src := 0x40 + pd, op := 0x2F, ctx := ctx, gen := p.gen, len := 1, origin := 1, slot := p.slot,
                  addr := ctrlBase p.die + 0x1000 + 8 * p.arr, data := slice (leBytes 8 e.2) 0 32 }
          { owner := .coll pd ctx coll, it := 2 } (updPlan pd ctx coll (fun p => { p with incWait := true }) s)
    | [] => s
  | none => s
/-- Increments whose writes are all acknowledged are handed over, in their order. -/
def nextIncN : Nat → Nat → Nat → Nat → State → State
  | 0, _, _, _, s => s
  | n + 1, pd, ctx, coll, s =>
    match findPlan s pd ctx coll, findInst s pd ctx coll with
    | some p, some i =>
      if i.aborting || p.incCount ≤ i.arrDone then s
      else
        let (ks, k) := p.incOf i.arrDone
        if ks.all fun k => tget 0 i.wrote k == 1 then
          nextIncN n pd ctx coll (updPlan pd ctx coll (fun p => { p with incs := p.incs ++ [(i.seq, k)] })
            (updInst pd ctx coll (fun i => { i with arrDone := i.arrDone + 1 }) s))
        else s
    | _, _ => s
def nextInc (pd ctx coll : Nat) (s : State) : State :=
  match findPlan s pd ctx coll with
  | some p => sendInc pd ctx coll (nextIncN p.incCount pd ctx coll s)
  | none => s

/-- Grants of C_DOWN chunks that are written and forwarded may return (R308). -/
def returnDown (pd ctx coll : Nat) (s : State) : State :=
  match findPlan s pd ctx coll, findInst s pd ctx coll with
  | some p, some i =>
    let owes (k : Nat) : Bool := i.owed.any fun e =>
      e.2.op == 0x29 && (let h := collHdrOf e.2.data; chunkKey h.piece (h.offset / p.chunk) == k)
    let due := i.down.filter fun e => tget 0 i.wrote e.1 == 1 && !owes e.1
    due.foldl (fun s e => giveGrant p (e.2 - 1) 1 s)
      (updInst pd ctx coll (fun i => { i with down := due.foldl (fun t e => tdel t e.1) i.down }) s)
  | _, _ => s

/-- Every write is acknowledged, and with them every increment handed over; every packet owed is sent (R301). -/
def instDone (p : Plan) (i : Inst) : Bool :=
  p.moves && !i.aborting && i.left == 0 && i.owed.isEmpty && i.arrDone == p.incCount && i.writes.isEmpty

/-- The stamp at which an instance expires (R25, R310), and whether it has passed. -/
def Inst.expiry (i : Inst) : Nat := i.start + 1000000 * i.timeout
def expired (s : State) (i : Inst) : Bool := decide (i.expiry ≤ wall s)
/-- The completion of an instance is stamped, where it is in time (R301, R310). -/
def stampDone (pd ctx coll : Nat) (s : State) : State :=
  match findPlan s pd ctx coll, findInst s pd ctx coll with
  | some p, some i =>
    let now := wall s
    if instDone p i && i.doneAt.isNone && !expired s i then updInst pd ctx coll (fun i => { i with doneAt := some now }) s else s
  | _, _ => s
/-- What an instance may do goes on: packets, increments, grants, its completion. -/
def tend (pd ctx coll : Nat) (s : State) : State :=
  stampDone pd ctx coll (returnDown pd ctx coll (nextInc pd ctx coll (flush_ pd ctx coll s)))
/-- The same for every instance, where a neighbour has been fenced (R313, R314). -/
def tendAll (s : State) : State := s.insts.foldl (fun s i => tend i.pd i.ctx i.coll s) s

/-- A package answer to an engine: a part of a source chunk, a write's acknowledgement, or an increment's. One with a
non-zero STATUS leaves the instance to its timeout.
DEDUCED (log 79), unsafe. -/
def collAnswer (pd ctx coll : Nat) (x : Txn) (q : Pkg) (s : State) : State :=
  if x.it = 2 then
    if q.status ≠ 0 then s
    else sendInc pd ctx coll (updPlan pd ctx coll (fun p => { p with incs := p.incs.drop 1, incWait := false }) s)
  else match findPlan s pd ctx coll, findInst s pd ctx coll with
  | some p, some i =>
    if q.status ≠ 0 || i.aborting then s
    else if x.it = 0 then
      let buf := tset [] i.srcBuf x.dst q.data
      if 1 < i.srcWait then updInst pd ctx coll (fun i => { i with srcBuf := buf, srcWait := i.srcWait - 1 }) s
      else
        let ps := p.ownPieces
        let piece := ps.getD (i.srcNext / p.chunks) 0
        let c := i.srcNext % p.chunks
        let s := updInst pd ctx coll (fun i => { i with srcBuf := [], srcWait := 0, srcNext := i.srcNext + 1 }) s
        readNext pd ctx coll (tend pd ctx coll (ownChunk p i piece c (buf.flatMap (·.2)) s))
    else
      let n := tget 0 i.writes x.dst
      tend pd ctx coll (updInst pd ctx coll (fun i =>
        if n ≤ 2 then { i with writes := tdel i.writes x.dst, wrote := tset 0 i.wrote x.dst 1 }
        else { i with writes := tset 0 i.writes x.dst (n - 1) }) s)
  | _, _ => s

/-- An instance that has completed ends (R301). -/
def endInst (pd ctx coll : Nat) (s : State) : State :=
  updPd pd (fun x => { x with completed := x.completed + 1 }) (dropInst pd ctx coll s)
/-- COLL_COMPLETE: a completion stamped at the expiry or later is late, and the instance aborts. -/
def doCollComplete (pd ctx coll : Nat) (s : State) : State :=
  match findPlan s pd ctx coll, findInst s pd ctx coll with
  | some p, some i =>
    if i.doneAt.isSome then endInst pd ctx coll s
    else if instDone p i then (if expired s i then abortInst pd ctx coll 0xC0 0x8000 s else endInst pd ctx coll s) else s
  | _, _ => s

/-! ## Barriers (R315 to R317) -/

/-- A barrier completes at this device: writes due then, the increment or its hold, and the RELEASE to the children. One
that would complete at its expiry or later aborts (R310). -/
def barrierDone (p : Plan) (i : Inst) (s : State) : State :=
  if expired s i then abortInst p.pd p.ctx p.coll 0xC0 0x8000 s
  else
    let s := p.children.foldl (fun s n => routeOut p.pd (p.ctrl s n i.seq { subtype := 1 }) s) s
    let s := updPd p.pd (fun x => { x with completed := x.completed + 1 }) (dropInst p.pd p.ctx p.coll s)
    let s := barrierApply s
    let t : TickInc := { die := p.die, arr := p.arr, ctx := p.ctx, pd := p.pd, coll := p.coll, seq := i.seq, stamp := wall s }
    if p.hold then
      journal 0 0x0B 0 (jOther p.pd) (leBytes 2 p.coll ++ leBytes 2 i.seq ++ [1])
        { s with barrierHold := s.barrierHold ++ [t] }
    else { s with tickIncs := s.tickIncs ++ [t] }

/-- ARRIVE goes up once the own start and every child's ARRIVE are in; at the root the RELEASE goes down. An unassigned device takes
part in no barrier (R279). -/
def tryBarrier (pd ctx coll : Nat) (s : State) : State :=
  match findPlan s pd ctx coll, findInst s pd ctx coll with
  | some p, some i =>
    if i.aborting || i.released || nodeId s == 0x8000 || !p.children.all (fun n => i.arrived.contains n) then s
    else if p.children.any (fun n => isFenced s pd i n) || (!p.isRoot && isFenced s pd i p.parent) then
      abortInst pd ctx coll 0xC1 0x8000 s
    else if p.isRoot then barrierDone p i s
    else routeOut pd (p.ctrl s p.parent i.seq { subtype := 0 }) (updInst pd ctx coll (fun i => { i with released := true }) s)
  | _, _ => s

/-- A write of 1 to *COLL_HOLD_RELEASE* (R317). -/
def releaseHolds (s : State) : State :=
  s.barrierHold.foldl (fun s t =>
    journal 0 0x0B 0 (jOther t.pd) (leBytes 2 t.coll ++ leBytes 2 t.seq ++ [0])
      { s with tickIncs := s.tickIncs ++ [{ t with stamp := wall s }] }) { s with barrierHold := [] }

/-- Increments of barriers completed before a facet's tick, before the new frame's first cycle (R24, R35, R316). -/
def tickIncApply (f stamp : Nat) (s : State) : State :=
  let isDue (t : TickInc) : Bool := t.die / 8 == f && decide (t.stamp < stamp)
  let due := s.tickIncs.filter isDue
  due.foldl (fun s t => applyEv t.die { isArr := true, obj := t.arr, kind := 1, value := 1 } s)
    { s with tickIncs := s.tickIncs.filter fun t => !isDue t }

/-! ## Packets in -/

/-- A chunk of the running instance, from an inbound neighbour. -/
def chunkIn (p : Plan) (i : Inst) (up : Bool) (h : CollHdr) (src : Nat) (data : List Byte) (s : State) : State :=
  let c := h.offset / p.chunk
  let s :=
    if up then
      let k := if p.ring then 0 else p.children.findIdx (· == src)
      let s := updInst p.pd p.ctx p.coll (fun i => { i with ups := tset [] i.ups (k * 2 ^ 64 + chunkKey h.piece c) data }) s
      match findInst s p.pd p.ctx p.coll with
      | some i => if p.ring then tryRing p i h.piece c s else tryTree p i c s
      | none => s
    else
      let k := chunkKey h.piece c
      finalChunk p i h.piece c data (updInst p.pd p.ctx p.coll (fun i => { i with down := tset 0 i.down k (src + 1) }) s)
  tend p.pd p.ctx p.coll s

/-- A control packet of an instance. -/
def ctrlIn (p : Plan) (i : Inst) (h : CollHdr) (src : Nat) (s : State) : State :=
  if h.subtype = 0 then
    tryBarrier p.pd p.ctx p.coll (updInst p.pd p.ctx p.coll (fun i => { i with arrived := i.arrived ++ [src] }) s)
  else if h.subtype = 1 then (if i.aborting then s else barrierDone p i s)
  else if h.subtype = 3 then
    if p.kind = 5 ∧ isFenced s p.pd i src ∧ src ≠ p.parent then s else abortInst p.pd p.ctx p.coll h.reason src s
  else
    let s := updInst p.pd p.ctx p.coll (fun i => { i with fenced := i.fenced ++ [src] }) s
    if p.kind = 5 ∧ src ≠ p.parent then tend p.pd p.ctx p.coll s else abortInst p.pd p.ctx p.coll 0xC1 src s

/-- An instance not yet started: its SEQ lies less than half the count ahead of the last one started. -/
def isAhead (seq q : Nat) : Bool := decide (0 < (q + 65536 - seq) % 65536 ∧ (q + 65536 - seq) % 65536 < 32768)

/-- A packet of the running instance; one of another instance is discarded (R308). -/
def takeIn (p : Plan) (m : Mpk) (s : State) : State :=
  let h := collHdrOf m.data
  match findInst s p.pd p.ctx p.coll with
  | some i =>
    if h.seq ≠ i.seq ∨ i.doneAt.isSome then (if m.op = 0x2A then s else collDiscard p.pd s)
    else if m.op = 0x2A then ctrlIn p i h m.srcNode s
    else if i.aborting then s
    else chunkIn p i (m.op == 0x28) h m.srcNode (m.data.drop 32) s
  | none => if m.op = 0x2A then s else collDiscard p.pd s

/-- A collective packet for a plan held here (R307, R308, R310): grants count for the plan; an ABORT of an instance not
yet started is recorded, but from a fenced child of a MULTICAST (R314); a chunk is taken only into room that was granted (R295); the
next instance's packets wait. -/
def planIn (p : Plan) (m : Mpk) (s : State) : State :=
  let h := collHdrOf m.data
  let i := findInst s p.pd p.ctx p.coll
  let key := m.srcNode * 2 + opFlow m.op
  let room := m.op == 0x2A || (p.inbound.contains (m.srcNode, opFlow m.op) && tget 0 p.room key != 0)
  let use (s : State) : State :=
    if m.op = 0x2A then s else updPlan p.pd p.ctx p.coll (fun p => { p with room := tset 0 p.room key (tget 0 p.room key - 1) }) s
  if m.op = 0x2A ∧ h.subtype = 2 then
    let fencedChild := match i with | some i => p.kind == 5 && m.srcNode != p.parent && isFenced s p.pd i m.srcNode | none => false
    if fencedChild then s
    else
      let k := m.srcNode * 2 + h.flow
      tend p.pd p.ctx p.coll
        (updPlan p.pd p.ctx p.coll (fun p => { p with grants := tset 0 p.grants k (tget 0 p.grants k + h.grant) }) s)
  else if m.op = 0x2A ∧ h.subtype = 3 ∧ isAhead p.seq h.seq then
    if p.kind = 5 ∧ m.srcNode ≠ p.parent ∧ fencedNow s p.pd m.srcNode then s
    else updPlan p.pd p.ctx p.coll (fun p => { p with early := p.early ++ [(h.seq, h.reason, m.srcNode)] }) s
  else if !room then collDiscard p.pd s
  else if h.seq = (p.seq + 1) % 65536 then
    use (updPlan p.pd p.ctx p.coll (fun p => { p with held := p.held ++ [m] }) s)
  else if (i.map (·.seq)) = some h.seq then takeIn p m (use s)
  else takeIn p m s

/-- A collective packet at this device: a PRUNE answers the first of an instance whose context is not bound (R313), as one is that is
RESETTING and has not left its slot (R338); a control packet for a plan not held waits in the pending control table (R307). -/
def collHere (pd : Nat) (m : Mpk) (s : State) : State :=
  let h := collHdrOf m.data
  let c := getCtx s m.ctx
  let boundHere := (c.state == 3 || c.state == 4 || c.state == 5) && c.gen == m.gen
  let plan := s.plans.find? fun p => p.pd / 2 == pd / 2 && p.ctx == m.ctx && p.gen == m.gen && p.coll == h.collId
  if m.op = 0x2A ∧ 4 < h.subtype then collDiscard pd s
  else if !boundHere then
    let id := (m.ctx, m.gen, h.collId, h.seq)
    let s := collDiscard pd s
    if (getPd s pd).pruneSent.contains id then s
    else
      let r := collPkt s pd m.ctx m.gen m.slot m.srcNode 0x2A { collId := h.collId, seq := h.seq, subtype := 4 } []
      routeOut pd { r with port := m.port } (updPd pd (fun x => { x with pruneSent := x.pruneSent ++ [id] }) s)
  else match plan with
    | some p => planIn p m s
    | none =>
      if m.op = 0x2A ∧ (s.ctrlTable.filter fun e => e.1 == pd).length < 1024 then
        { s with ctrlTable := s.ctrlTable ++ [(pd, m)] }
      else
        collDiscard pd (if m.op = 0x2A then report (64 + pd) 0x0602 0 m.ctx m.gen h.collId s else s)

/-- C_UP, C_DOWN and the C_CTRL subtypes arrive at an engine. -/
def collReceive (oe op : Nat) (sub : Option Nat) (m : Mpk) (s : State) : State :=
  let m := { m with op := op }
  match sub with
  | some k =>
    let h := { collHdrOf m.data with subtype := k }
    receive false oe { m with data := collHdrBytes h } (collHere (oePd oe)) s
  | none => receive false oe m (collHere (oePd oe)) s

/-! ## Starts (R300) -/

/-- PLAN_LOAD: the record is read and judged; a loaded plan grants its window to each inbound flow, and control packets
that waited for it are applied.
DEDUCED (log 78), unsafe. -/
def doPlanLoad (die ce : Nat) (s : State) : State :=
  let engine := 3 + ce
  match nextExec s die engine 0xA0 with
  | none => s
  | some x =>
    if copyHeld s die x.desc then s
    else
      let d := x.desc
      let a := offset (d.addrAt d.a 0)
      let r : Run := { s := s, rank := portRank engine, uid := x.uid }
      let c := accCycle die x.deadline (a, 128) x.issue r
      let (bs, r) := if x.deadline < c then ([], r.stop 0x40 x.deadline a) else copyGet die x a 128 c d.slotA (d.useSlots 0) r
      let p := { Plan.ofBytes bs with ctx := x.ctx, gen := x.gen, coll := bits d.imm 0 12, slot := x.slot }
      let why := if r.why ≠ 0 then 0 else planRefused r.s die x.slot (planClean bs) (bits d.imm 12 3) p
      let r := if why ≠ 0 then r.stop why c d.a.base else r
      if r.why ≠ 0 then finishRun die engine x c r
      else
        let s := r.s
        let s := match findInst s p.pd p.ctx p.coll with | some _ => endInst p.pd p.ctx p.coll s | none => s
        let p := { p with room := p.inbound.foldl (fun t (n, fl) => tset 0 t (2 * n + fl) p.window) [] }
        let s : State := { s with plans := (s.plans.filter fun q => !q.is p.pd p.ctx p.coll) ++ [p] }
        let s := p.inbound.foldl (fun s (n, fl) =>
          routeOut p.pd (p.ctrl s n 0 { subtype := 2, grant := p.window, flow := fl }) s) s
        let mine (e : Nat × Mpk) : Bool :=
          e.1 / 2 == p.pd / 2 && e.2.ctx == p.ctx && e.2.gen == p.gen && (collHdrOf e.2.data).collId == p.coll
        let wait := s.ctrlTable.filter mine
        let s : State := { s with ctrlTable := s.ctrlTable.filter fun e => !mine e }
        let s := wait.foldl (fun s e => match findPlan s p.pd p.ctx p.coll with | some p => planIn p e.2 s | none => s) s
        markDone die engine x.uid c s

/-- COLL_START: the plan's next instance starts, with what was held for it. An ABORT received before has the effect of one received
then: the reason of highest precedence, and no ABORT to the neighbour the first came from (R310, R311).
DEDUCED (log 78), unsafe. -/
def doCollStart (die ce : Nat) (s : State) : State :=
  let engine := 3 + ce
  match nextExec s die engine 0xA1 with
  | none => s
  | some x =>
    let coll := bits x.desc.imm 0 12
    let pd := bits x.desc.imm 12 3
    let bad := haltFly die engine x 0x06 x.issue 0 0 s
    match findPlan s pd x.ctx coll with
    | none => bad
    | some p =>
      if p.gen ≠ x.gen || p.die ≠ die || isRunning s pd x.ctx coll || p.aborted ||
          64 ≤ (s.insts.filter fun i => i.pd == pd && i.doneAt.isNone).length then bad
      else
        let s := match findInst s pd x.ctx coll with | some _ => endInst pd x.ctx coll s | none => s
        let q := (p.seq + 1) % 65536
        let i : Inst := { pd := pd, ctx := x.ctx, gen := x.gen, coll := coll, seq := q, start := wall s,
                          timeout := if p.timeout = 0 then numGet s oCollTimeout 0 else p.timeout, left := p.sends }
        let early := p.early.filter (fun e => e.1 == q)
        let held := p.held
        let s := retire die engine x s
        let s := updPlan pd x.ctx coll (fun p =>
          { p with seq := q, held := [], early := p.early.filter (·.1 != q) }) { s with insts := s.insts ++ [i] }
        match early with
        | e :: _ => abortInst pd x.ctx coll (if early.any (·.2.1 == 0xC1) then 0xC1 else e.2.1) e.2.2 s
        | [] =>
          let s := held.foldl (fun s m => match findPlan s pd x.ctx coll with | some p => takeIn p m s | none => s) s
          if p.moves then readNext pd x.ctx coll (tend pd x.ctx coll s) else tryBarrier pd x.ctx coll s

/-! ## Timers -/

/-- An instance's timeout expires before completion; a completion stamped then is late (R310). One that completed before it ends. -/
def doCollTimeout (pd ctx coll : Nat) (s : State) : State :=
  match findInst s pd ctx coll with
  | some i => if i.doneAt.isSome then endInst pd ctx coll s else if i.aborting then s else abortInst pd ctx coll 0xC0 0x8000 (advanceTo i.expiry s)
  | none => s

/-- An abort is counted and recorded (R321). -/
def noteAbort (i : Inst) (s : State) : State :=
  blobSet oCollLastAbort (i.pd + 1)
    ([byte i.ctx, byte i.gen] ++ leBytes 2 i.coll ++ leBytes 2 i.seq ++ [byte i.reason] ++ leBytes 8 (wall s))
    (updPd i.pd (fun x => { x with aborts := x.aborts + 1 }) s)

/-- The settle window closes: the context is faulted, and the plan starts no more (R312). -/
def doSettle (pd ctx coll : Nat) (s : State) : State :=
  match findPlan s pd ctx coll, findInst s pd ctx coll with
  | some p, some i =>
    if !i.aborting then s
    else
      let s := advanceTo (i.settle + 1000000) s
      let s := updPlan pd ctx coll (fun p => { p with aborted := true }) (dropInst pd ctx coll s)
      let s := noteAbort i s
      chargeFault { ctx := ctx, gen := i.gen, reason := i.reason, source := 3, site := 64 + pd, slot := p.slot,
                    collId := coll, collSeq := i.seq } s
  | _, _ => s

/-- GRANT packets for `n` chunks of one neighbour's flow, of at most 4,096 each (R307). -/
def sendGrants (p : Plan) (node flow n : Nat) (s : State) : State :=
  (List.range (ceilDiv n 4096)).foldl (fun s k =>
    routeOut p.pd (p.ctrl s node p.seq { subtype := 2, grant := min 4096 (n - 4096 * k), flow := flow }) s)
    (updPlan p.pd p.ctx p.coll (fun p =>
      { p with room := tset 0 p.room (node * 2 + flow) (tget 0 p.room (node * 2 + flow) + n) }) s)

/-- Grants that can return go out, 1 us after the first (R308). -/
def doGrantDeadline (pd : Nat) (s : State) : State :=
  let due := s.plans.filter fun p => p.pd == pd && !p.returns.isEmpty
  match due with
  | [] => s
  | p :: ps =>
    let first := ps.foldl (fun n q => min n q.returnSince) p.returnSince
    let s := advanceTo (first + 1000) s
    due.foldl (fun s p =>
      let s := updPlan pd p.ctx p.coll (fun p => { p with returns := [] }) s
      p.returns.foldl (fun s e => sendGrants p (e.1 / 2) (e.1 % 2) e.2 s) s) s

/-- A context's instances abort when it is removed, counted then, and its plans, grants and held chunks go (R310, R322). -/
def purgeColl (ctx : Nat) (s : State) : State :=
  let s := (s.insts.filter fun i => i.ctx == ctx).foldl (fun s i =>
    if i.doneAt.isSome then endInst i.pd i.ctx i.coll s else noteAbort { i with reason := 0xC1 } (abortInst i.pd i.ctx i.coll 0xC1 0x8000 s)) s
  { s with insts := s.insts.filter (fun i => i.ctx != ctx), plans := s.plans.filter (fun p => p.ctx != ctx),
           ctrlTable := s.ctrlTable.filter (fun e => e.2.ctx != ctx),
           tickIncs := s.tickIncs.filter (fun t => t.ctx != ctx), barrierHold := s.barrierHold.filter (fun t => t.ctx != ctx) }

/-! ## The commands -/

def execPlanLoad (die : Die) (ce : Ce) (s : State) : Out := .next (doPlanLoad die ce s)
def execCollStart (die : Die) (ce : Ce) (s : State) : Out := .next (doCollStart die ce s)
def execCUp (oe : Oe) (p : Mpk) (s : State) : Out := .next (collReceive oe 0x28 none p s)
def execCDown (oe : Oe) (p : Mpk) (s : State) : Out := .next (collReceive oe 0x29 none p s)
def execArrive (oe : Oe) (p : Mpk) (s : State) : Out := .next (collReceive oe 0x2A (some 0) p s)
def execRelease (oe : Oe) (p : Mpk) (s : State) : Out := .next (collReceive oe 0x2A (some 1) p s)
def execGrant (oe : Oe) (p : Mpk) (s : State) : Out := .next (collReceive oe 0x2A (some 2) p s)
def execAbort (oe : Oe) (p : Mpk) (s : State) : Out := .next (collReceive oe 0x2A (some 3) p s)
def execPrune (oe : Oe) (p : Mpk) (s : State) : Out := .next (collReceive oe 0x2A (some 4) p s)
def execCollComplete (pd : Pd) (ctx collId : Nat) (s : State) : Out := .next (doCollComplete pd ctx collId s)
def execCollTimeout (pd : Pd) (ctx collId : Nat) (s : State) : Out := .next (doCollTimeout pd ctx collId s)
def execSettleWindowClose (pd : Pd) (ctx collId : Nat) (s : State) : Out := .next (doSettle pd ctx collId s)
def execGrantReturnDeadline (pd : Pd) (s : State) : Out := .next (doGrantDeadline pd s)

end Sys2Proof.Machine
end

