-- ==== Sys2Proof/Machine/Exchange.lean ====
section
/-! DEFINITION. Machine/Exchange.lean: the exchange engines (R361 to R363): a request's checks, its packets, its
completion, and what ends one early; the keys and seal counts that they and dumps use (R382). -/
namespace Sys2Proof.Machine
open Sys2Proof

/-! ## Context keys (R382) -/

def getKey (s : State) (c : Nat) : KeySt := tget {} s.sec.keys c
def setKey (c : Nat) (k : KeySt) (s : State) : State := { s with sec.keys := tset {} s.sec.keys c k }
/-- A key is present. -/
def hasKey (s : State) (c : Nat) : Bool := !(getKey s c).key.isEmpty
/-- The IV of an export (kind 2) or a dump (kind 3); the seal count moves on. -/
def sealIv (s : State) (c kind : Nat) : List Byte :=
  leBytes 2 kind ++ leBytes 2 (getKey s c).sealer ++ leBytes 8 (getKey s c).sealCount
def countSeal (c : Nat) (s : State) : State := setKey c { getKey s c with sealCount := (getKey s c).sealCount + 1 } s

/-! ## Doorbell pages (R357) -/

def doorPage (h c : Nat) : Nat := doorBase h + c * 0x1000
def xchTail (s : State) (h c : Nat) : Nat := read32 s (doorPage h c + 0x100)
def xchHead (s : State) (h c : Nat) : Nat := read32 s (doorPage h c + 0x108)
/-- Requests posted and not completed. -/
def xchWaiting (s : State) (h c : Nat) : Nat := (xchTail s h c + 2 ^ 32 - xchHead s h c) % 2 ^ 32
/-- Where the request with a count lies. -/
def xchEntry (h c n : Nat) : Nat := doorPage h c + 0x800 + 64 * (n % 16)
/-- A doorbell page becomes zero, on both host dies. -/
def zeroDoor (c : Nat) (s : State) : State := zeroBytes (doorPage 1 c) 0x1000 (zeroBytes (doorPage 0 c) 0x1000 s)

/-! ## The end of a request -/

/-- A request ends with a STATUS: written to its entry, counted, XCH_HEAD moves on, and vector 2 fires (R362, R365). -/
def xchEnd (h c gen status : Nat) (s : State) : State :=
  let n := xchHead s h c
  let s := writeBytes (doorPage h c + 0x108) (leBytes 4 ((n + 1) % 2 ^ 32)) (writeBytes (xchEntry h c n + 52) (leBytes 4 status) s)
  let s := if 2 ≤ status then bumpBlob oHostXchFailed (h + 1) (status - 2) 4 1 s else s
  let s := if status = 2 ∨ status = 4 ∨ status = 8 then report (hubSite s) 0x0801 0 c gen status s else s
  raiseOn h 2 s

/-- The request in progress of a host die leaves; its outstanding packets have no owner any more. -/
def xchDrop (h : Nat) (s : State) : State :=
  { s with xch := s.xch.filter (fun x => x.hd != h), txns := s.txns.filter (fun t => t.owner != .xch h) }

/-- Ends the request in progress. -/
def xchStop (x : XchSt) (status : Nat) (s : State) : State := xchEnd x.hd x.ctx x.gen status (xchDrop x.hd s)

/-- Every request not started ends with ABORTED. -/
def xchFlush : Nat → Nat → Nat → Nat → State → State
  | 0, _, _, _, s => s
  | n + 1, h, c, gen, s => xchFlush n h c gen (xchEnd h c gen 7 s)

/-- Step 1 of a teardown (R363): the context's exchange requests end with ABORTED. -/
def xchAbort (c gen : Nat) (s : State) : State :=
  let s := (s.xch.filter (·.ctx == c)).foldl (fun s x => xchStop x 7 s) s
  [0, 1].foldl (fun s h => xchFlush (min 16 (xchWaiting s h c)) h c gen s) s

/-! ## A request -/

/-- One *FW_TABLE* entry of the host die, owned by the context, holds the buffer. -/
def inWindow (s : State) (h c a n : Nat) : Bool :=
  let t := blobGet s oFwTable (h + 1)
  (List.range 32).any fun i =>
    let e := slice t (32 * i) 32
    let base := leNat (slice e 0 8)
    let size := leNat (slice e 8 8)
    (e.getD 28 0).toNat == c && size != 0 && decide (base ≤ a) && decide (a + n ≤ base + size)

/-- A semaphore belongs to a slot (R60). -/
def semInSlot (i slot : Nat) : Bool := decide (i < 512) && objSlot false i == slot

/-- Step 1 of R362: the STATUS of the first failing check, 0 for none. -/
def xchCheck (s : State) (h c : Nat) (e : List Byte) : Nat :=
  let b (i : Nat) : Nat := (e.getD i 0).toNat
  let dir := b 0
  let off := leNat (slice e 8 4)
  let len := leNat (slice e 12 4)
  let node := leNat (slice e 16 8)
  let x := getCtx s c
  let zero (o k : Nat) : Bool := (slice e o k).all (· == 0)
  if (dir ≠ 1 ∧ dir ≠ 2) ∨ 2 ≤ b 1 ∨ !zero 3 1 ∨ !zero 6 2 ∨ !zero 56 8 ∨ off % 256 ≠ 0 ∨ len % 32 ≠ 0 ∨ len < 32 ∨
      16777216 < len ∨ node % 32 ≠ 0 ∨ (dir = 1 ∧ leNat (slice e 24 4) ≠ 1) then 5
  else if !((1 ≤ x.state ∧ x.state ≤ 3) ∨ (x.state = 4 ∧ dir = 2)) then 6
  else if !hasKey s c then 3
  else if 0x4000000 < off + len ∨ !inWindow s h c (xchBase h + off) len ∨ 2 ^ 48 ≤ node + len ∨
      (memPlace node).isNone ∨ (memPlace (node + len - 1)).isNone ∨ !ownsRange s c node len then 4
  else if bit (b 1) 0 ∧ !(decide (b 2 < 32) && (x.state == 3 || x.state == 4) && bit x.mask (b 2 / 8) &&
      semInSlot (leNat (slice e 4 2)) x.slot) then 5
  else 0

/-- AAD of an exchange (R361). -/
def xchAad (c dir len node : Nat) : List Byte := [byte c, byte dir, 0, 0] ++ leBytes 4 len ++ leBytes 8 node

/-- Response data that a hub's outstanding requests bring back, and whether there is room for `n` bytes more (R202); there is room for
one request's at least.
DESIGN CHOICE (log 113), safe. -/
def hubUsed (s : State) (h : Nat) : Nat := (s.txns.filter fun t => t.src == 0x80 + h).foldl (fun n t => n + t.len) 0
def hubRoom (s : State) (h n : Nat) : Bool :=
  n == 0 || hubUsed s h == 0 || decide (hubUsed s h + n ≤ Config.responseRoom (96 + h))

/-- Packets of an exchange: of at most 256 bytes, none across a 256-byte boundary of the target. -/
def xchPieces (node len : Nat) : Nat := (node % 256 + len + 255) / 256
/-- The next packet of an exchange goes, once there is room for its response; it is the only one on its way (R362, R363: a request that
ends early stops after its current packet).
DEDUCED (log 87), unsafe. -/
def xchSend (h : Nat) (s : State) : State :=
  match s.xch.find? (·.hd == h) with
  | none => s
  | some x =>
    let a := x.node + x.sent
    let n := min (256 - a % 256) (x.len - x.sent)
    let back := if x.dir = 2 then n else 0
    if n = 0 || !hubRoom s h back || s.txns.any (fun t => t.owner == .xch h) then s
    else
      let q : Pkg := { dst := homeStrap a, src := 0x80 + h, op := if x.dir = 1 then 2 else 1, pclass := 0, ctx := x.ctx,
                       gen := x.gen, len := n / 32, origin := 2, slot := (getCtx s x.ctx).slot, addr := a,
                       data := if x.dir = 1 then slice x.plain x.sent n else [] }
      request q { owner := .xch h, it := x.sent, dst := xchBase h + x.off + x.sent, len := back }
        { s with xch := s.xch.map fun y => if y.hd == h then { y with sent := y.sent + n } else y }

/-- The next page in rotation with a request posted (R362).
DEDUCED (log 87), unsafe. -/
def xchNext (s : State) (h : Nat) : Option Nat :=
  ((List.range 255).map fun i => ((getHost s h).xchRotor + i) % 255 + 1).find? fun c => xchWaiting s h c != 0

/-- EXCHANGE_REQUEST: the request at the head of the page whose turn it is.
DEDUCED (log 87), unsafe. -/
def doXchRequest (h c : Nat) (s : State) : State :=
  if s.xch.any (·.hd == h) || xchNext s h != some c then s
  else
    let n := xchHead s h c
    let e := readBytes s (xchEntry h c n) 64
    let gen := (getCtx s c).gen
    let s := updHost h (fun x => { x with xchRotor := c % 255 }) s
    let why := xchCheck s h c e
    if why ≠ 0 then xchEnd h c gen why s
    else
      let dir := (e.getD 0 0).toNat
      let len := leNat (slice e 12 4)
      let node := leNat (slice e 16 8)
      let off := leNat (slice e 8 4)
      let key := (getKey s c).key
      let ct := readBytes s (xchBase h + off) len
      let iv := slice e 24 12
      let aad := xchAad c dir len node
      if dir = 1 ∧ Config.gcmTag key iv aad ct ≠ slice e 36 16 then xchEnd h c gen 2 s
      else
        let data := slice (Config.gcmDec key iv ct) 0 len
        let x : XchSt := { hd := h, ctx := c, gen := gen, entry := n, dir := dir, signal := bit (e.getD 1 0).toNat 0,
                           die := (e.getD 2 0).toNat, sem := leNat (slice e 4 2), off := off, len := len, node := node,
                           waiting := xchPieces node len, plain := if dir = 1 then data else [] }
        xchSend h { s with xch := s.xch ++ [x] }

/-- An answer to a packet of an exchange: its data kept, or the request ended, with the fault of R362.
DEDUCED (log 87), unsafe. -/
def xchAnswer (h : Nat) (t : Txn) (p : Pkg) (s : State) : State :=
  match s.xch.find? (·.hd == h) with
  | none => s
  | some x =>
    if p.status = 0 then
      let g (y : XchSt) : XchSt :=
        if y.hd == h then { y with waiting := y.waiting - 1,
                                   data := if y.dir = 2 then putBytes y.data t.it (slice p.data 0 t.len) else y.data }
        else y
      xchSend h { s with xch := s.xch.map g }
    else
      let s := chargeFault { ctx := x.ctx, gen := x.gen, reason := if p.status = 1 then 0x20 else 0x60, source := 1,
                             site := hubSite s, status := p.status, addr := gAddr s t.reqAddr } s
      xchStop x (if p.status = 1 then 4 else 8) s

/-- EXCHANGE_COMPLETE (R362): after the last acknowledgement an export is sealed into the buffer, and the signal sent. -/
def doXchComplete (h : Nat) (s : State) : State :=
  match s.xch.find? (fun x => x.hd == h && x.waiting == 0) with
  | none => s
  | some x =>
    if !hasKey s x.ctx then xchStop x 3 s
    else
      let entry := xchEntry h x.ctx x.entry
      let s :=
        if x.dir = 2 then
          let iv := sealIv s x.ctx 2
          let plain := (List.range x.len).map fun i => tget 0 x.data i
          let key := (getKey s x.ctx).key
          let ct := slice (Config.gcmEnc key iv (xchAad x.ctx 2 x.len x.node) plain) 0 x.len
          let tag := slice (Config.gcmTag key iv (xchAad x.ctx 2 x.len x.node) ct) 0 16
          countSeal x.ctx (writeBytes (entry + 36) tag (writeBytes (entry + 24) iv (writeBytes (xchBase h + x.off) ct s)))
        else s
      let s := if x.signal then
          sendPkg { dst := x.die, src := 0x80 + h, op := 4, pclass := 3, ctx := x.ctx, gen := x.gen, len := 1, origin := 2,
                    posted := true, slot := (getCtx s x.ctx).slot, addr := ctrlBase x.die + 4 * x.sem,
                    data := leBytes 4 1 } s
        else s
      xchStop x 1 (bumpBlob oHostXchBytes (h + 1) (x.dir - 1) 8 x.len s)

/-- A write of XCH_TAIL (R362). -/
def doXchTail (h c v : Nat) (s : State) : State :=
  if c = 0 ∨ 255 < c then s
  else if 16 < (v % 2 ^ 32 + 2 ^ 32 - xchHead s h c) % 2 ^ 32 then bumpBlob oHostXchFailed (h + 1) 7 4 1 s
  else writeBytes (doorPage h c + 0x100) (leBytes 4 (v % 2 ^ 32)) s

def execXchTail (hd : Hd) (ctx value : Nat) (s : State) : Out := .next (doXchTail hd ctx value s)
def execExchangeRequest (hd : Hd) (ctx : Nat) (s : State) : Out := .next (doXchRequest hd ctx s)
def execExchangeComplete (hd : Hd) (s : State) : Out := .next (doXchComplete hd s)

end Sys2Proof.Machine
end

