-- ==== Sys2Proof/Machine/Teardown.lean ====
section
/-! DEFINITION. Machine/Teardown.lean: the key mirror (R383), and the teardown of a context (R338 to R343): stop, abandon,
sample and dump, bump, purge, drain, clear. -/
namespace Sys2Proof.Machine
open Sys2Proof

/-! ## The key mirror (R382, R383) -/

/-- The keys with RECOVER set, as the blob's plaintext: CTX, GEN, key, KCV each (log 62). -/
def recoverSet (s : State) : List Byte :=
  s.sec.keys.flatMap fun e =>
    if e.2.recover then [byte e.1, byte e.2.gen] ++ slice e.2.key 0 32 ++ slice e.2.kcv 0 16 else []

/-- A new sealed blob goes to a paired twin, and to one in pairing once the pair key is there (R383).
DESIGN CHOICE (log 62), unsafe. -/
def mirrorKeys (s : State) : State :=
  if s.twin.state = 2 ∨ (s.twin.state = 1 ∧ !s.sec.pairKey.isEmpty) then
    let n := s.twin.mirrorCount
    let iv := leBytes 4 3 ++ leBytes 8 n
    let aad := leBytes 2 (nodeId s) ++ leBytes 2 s.twin.node
    let c := Config.gcmEnc s.sec.pairKey iv aad (recoverSet s)
    toTwin 6 (leBytes 8 n ++ c ++ slice (Config.gcmTag s.sec.pairKey iv aad c) 0 16)
      { s with twin.mirrorCount := n + 1, twin.sentParts := if s.twin.state = 1 then s.twin.sentParts + 1 else s.twin.sentParts }
  else s

/-- A context key is erased, and the mirror follows. -/
def eraseKey (c : Nat) (s : State) : State :=
  let k := getKey s c
  let s := setKey c {} s
  if k.recover then mirrorKeys s else s

/-! ## Parts of a context -/

/-- Compute dies of a facet mask, ascending. -/
def maskDies (mask : Nat) : List Nat := (List.range 32).filter fun d => bit mask (d / 8)

/-- The teardown of a context, or an empty one. -/
def tearOf (s : State) (c : Nat) : Teardown := ((getCtx s c).td).getD {}
def updTd (c : Nat) (g : Teardown → Teardown) (s : State) : State :=
  updCtx c (fun x => { x with td := x.td.map g }) s
/-- The context is at a step of its teardown. -/
def atStep (s : State) (c n : Nat) : Bool := (getCtx s c).state == 5 && (tearOf s c).step == n && (getCtx s c).td.isSome

/-- A context's descriptors in flight leave their engines (R69), and with them their swap requests not accepted. -/
def abandon (c : Nat) (s : State) : State :=
  (maskDies (getCtx s c).mask).foldl (fun s d =>
    let mine : List (Nat × Nat) := (List.range 8).flatMap fun e =>
      ((getEngine s d e).fly.filter (·.ctx == c)).map fun x => (e, x.uid)
    let s := (List.range 8).foldl (fun s e =>
      updEngine d e (fun y => y.keepFly (y.fly.filter fun x => x.ctx != c)) s) s
    updCd d (fun y => { y with swapReqs := y.swapReqs.filter fun r => r.fromHost || !mine.contains (r.engine, r.uid) }) s) s

/-! ## Sample and dump (R342, R343) -/

/-- Scratchpad slots that a context owns on a die, ascending. -/
def ctxSlots (s : State) (c d : Nat) : List Nat := unitsOf s c 0 d

/-- Offsets of a die's 64 samples in its scratchpad window. -/
def sampleOffs (s : State) (c d : Nat) : List Nat :=
  let sl := ctxSlots s c d
  let first := tget [] (getCtx s c).ring 0
  let g := leNat (slice first 32 8)
  let a := g % 2 ^ 48
  let special := !first.isEmpty && (first.getD 18 0).toNat == d && g == gAddr s a && scratchDie a == some d
  (List.range 64).map fun i =>
    if i = 0 ∧ special then (a - spBase d) / 256 * 256 else sl.getD (i * sl.length / 64) 0 * 4096 + 256 * (i % 16)

/-- One sample; a word that cannot be corrected is not delivered (R337): its sample is a free value (log 6). -/
def sampleAt (s : State) (d i off : Nat) : List Byte :=
  if eccBad s (spBase d + off) 256 then (List.range 256).map fun j => byte (Config.freeAt s.free (64 * d + i) j)
  else readBytes s (spBase d + off) 256

/-- The block of a die: its header, offsets and samples; a die without a slot of the context gives none.
DEDUCED (log 68), unsafe. -/
def dieBlock (s : State) (c d : Nat) : List Byte :=
  let has := !(ctxSlots s c d).isEmpty
  let offs := sampleOffs s c d
  [byte d, if has then 64 else 0] ++ List.replicate 14 0 ++
    (if has then (offs.flatMap (leBytes 4 ·)) ++ (List.range 64).flatMap (fun i => sampleAt s d i (offs.getD i 0))
     else List.replicate (64 * 4 + 64 * 256) 0)

/-- Uncorrectable words met by the samples fault the context (R332, R337).
DEDUCED (log 68), unsafe. -/
def sampleFaults (c : Nat) (s : State) : State :=
  (maskDies (getCtx s c).mask).foldl (fun s d =>
    if (ctxSlots s c d).isEmpty then s
    else match (sampleOffs s c d).find? (fun o => eccBad s (spBase d + o) 256) with
      | some o => chargeFault { ctx := c, gen := (getCtx s c).gen, reason := 0x60, source := 1, site := d,
                                slot := (getCtx s c).slot, status := 2, addr := gAddr s (spBase d + o) } s
      | none => s) s

/-- Bytes of a dump of `n` dies. -/
def dumpSize (n : Nat) : Nat := 80 + 16656 * n

/-- The dump area of a teardown: its start in the host die's exchange memory, and the bytes that lie within it. -/
def dumpRoom (t : Teardown) : Nat := if 2 ≤ t.dumpHd then 0 else min t.dumpSize (0x4000000 - t.dumpOff)

/-- The reset flags of a dump that is not written (R343, R344). -/
def dumpFlags (s : State) (c : Nat) (t : Teardown) : Nat :=
  (if hasKey s c then 0 else 2) + (if t.dumpSize = 0 then 4 else 0) +
    (if t.dumpSize ≠ 0 ∧ dumpRoom t < dumpSize (maskDies (getCtx s c).mask).length then 8 else 0)

/-- A request in progress uses the dump area (R363). -/
def dumpWaits (s : State) (t : Teardown) (n : Nat) : Bool :=
  s.xch.any fun x => x.hd == t.dumpHd && decide (x.off < t.dumpOff + n) && decide (t.dumpOff < x.off + x.len)

/-- Step 3: the samples are sealed under the context key and written, or the reasons flagged. -/
def writeDump (c : Nat) (s : State) : State :=
  let t := tearOf s c
  let dies := maskDies (getCtx s c).mask
  let n := dumpSize dies.length
  let why := dumpFlags s c t
  if why ≠ 0 then report (hubSite s) 0x0703 0 c t.oldGen why (updTd c (fun t => { t with flags := t.flags + why }) s)
  else
    let iv := sealIv s c 3
    let head := leBytes 2 1 ++ [byte c, byte t.oldGen, byte dies.length, 0, 0, 0] ++ leBytes 8 (wall s) ++ iv ++
      List.replicate 36 0
    let plain := dies.flatMap (dieBlock s c ·)
    let key := (getKey s c).key
    let ct := slice (Config.gcmEnc key iv head plain) 0 plain.length
    let tag := slice (Config.gcmTag key iv head ct) 0 16
    let s := sampleFaults c (countSeal c { s with free := s.free + 1 })
    let s := writeBytes (xchBase t.dumpHd + t.dumpOff) (head ++ ct ++ tag) s
    updTd c (fun t => { t with flags := t.flags + 1, dumpBytes := n }) s

/-! ## Start (steps 1 and 2) -/

/-- A context waiting to bind waits no longer; facets that hold for it go on (R30, R326).
DEDUCED (log 67), unsafe. -/
def cancelBind (c : Nat) (s : State) : State :=
  if (getCtx s c).state = 2 then
    let m := (getCtx s c).mask
    [0, 1, 2, 3].foldl (fun s f => if bit m f && holdsFor s f (getCtx s c) then stopHolds f s else s) s
  else s

/-- The generation is bumped (step 4). -/
def bumpGen (c : Nat) (s : State) : State := updCtx c (fun x => { x with gen := (x.gen + 1) % 256 }) s

/-- A teardown starts (R338): a bound context stops, and its descriptors are abandoned; one not bound passes at once to
step 7 with its generation bumped.
DEDUCED (log 67), unsafe. -/
def startTear (c : Nat) (release facetCause : Bool) (hd off size : Nat) (s : State) : State :=
  let x := getCtx s c
  let bound := x.state == 3 || x.state == 4
  let t : Teardown := { step := if bound then 3 else 7, t0 := wall s, byRelease := release, release := release,
                        facetCause := facetCause, bound := bound, dumpHd := hd, dumpOff := off, dumpSize := size,
                        oldGen := x.gen, flags := if facetCause then 64 else 0 }
  let s := cancelBind c s
  let s := ctxTo c 5 (updCtx c (fun x => { x with td := some t }) s)
  let s := xchAbort c x.gen s
  if bound then abandon c s else bumpGen c s

/-! ## Purge and drain (steps 5 and 6) -/

/-- Requests that the removal of others leaves room for are issued. -/
def sendAllAsks (s : State) : State :=
  (List.range 32).foldl (fun s d => [3, 4, 5, 6].foldl (fun s e => sendAsks d e s) s) s

/-- A context's work is removed (R73, R97, R182, R293, R322).
DEDUCED (log 68), unsafe. -/
def purge (c gen : Nat) (s : State) : State :=
  let x := getCtx s c
  let s := (maskDies x.mask).foldl (fun s d =>
    let s := (List.range 8).foldl (fun s e => setStream d e x.slot {} s) s
    [0, 1].foldl (fun s e => updEngine d e (fun y => if y.tileCtx = c then { y with tileCtx := 0, weights := [], shadow := [], stage := [] } else y) s) s) s
  let s := purgeColl c s
  let s := (List.range 8).foldl (fun s p =>
    updPd p (fun y => { y with inject := y.inject.filter (fun i => i.pkt.ctx != c),
                               acks := y.acks.filter (fun h => h.ctx != c) }) s) s
  let s := (List.range 24).foldl (fun s o =>
    updOe o (fun y => { y with queue := y.queue.filter fun q => !(q.inj && q.pkt.ctx == c && q.pkt.gen == gen) }) s) s
  let s := (List.range 32).foldl (fun s d => [3, 4, 5, 6].foldl (fun s e =>
    updEngine d e (fun y => { y with asks := y.asks.filter fun q => q.1.ctx != c }) s) s) s
  let s := (List.range 280).foldl (fun s k => if (getDir s k).port.isEmpty then s else updDir k (fun x =>
    { x with port := x.port.filter fun w => match w.cargo with | some (.inject e) => e.pkt.ctx != c | _ => true }) s) s
  let s := dropQueued (fun p => p.ctx == c && p.gen == gen) s
  let s := (s.terms.filter fun t => t.req.ctx == c).foldl (fun s t => giveRoom t.room s) s
  sendAllAsks { s with terms := s.terms.filter (fun t => t.req.ctx != c), mtxns := s.mtxns.filter (fun t => t.ctx != c),
                       txns := s.txns.filter (fun t => t.ctx != c) }

/-- Ports whose markers a drain exchanges (R339). -/
def drainPorts (s : State) : List Nat :=
  (List.range 24).filter fun e => let o := getOe s e; o.state != 0 && o.state != 7 && o.peerKnown && decide (o.peerNode < 0x8000)

/-- TAG of the markers: the low 16 bits of *CTX_RESETS*. -/
def markerTag (s : State) : Nat := numGet s oCtxResets 0 % 65536

/-- The drain begins, or is skipped. -/
def startDrain (c : Nat) (s : State) : State :=
  let t := tearOf s c
  if !(getCtx s c).injected then updTd c (fun t => { t with step := 7, flags := t.flags + 16 }) s
  else
    let ps := drainPorts s
    let tag := markerTag s
    let no := s.nextUid
    let s := updTd c (fun t => { t with step := if ps.isEmpty then 7 else 6, drainStart := wall s, marker := tag,
                                        ports := ps.foldl (fun m e => setBit m e) 0 }) s
    ps.foldl (fun s e => runPort e (updOe e (fun o => { o with markers := o.markers ++ [(c, t.oldGen, tag, no)] }) s)) s

/-- TEARDOWN_RESUME: every answer to the abandoned descriptors has come; steps 3 to 5 run, and step 6 begins. -/
def doTearResume (c : Nat) (s : State) : State :=
  let t := tearOf s c
  let waits := s.txns.any fun x => x.ctx == c && x.gen == t.oldGen && (match x.owner with | .eng _ _ _ => true | _ => false)
  let n := dumpSize (maskDies (getCtx s c).mask).length
  if !atStep s c 3 || waits || (dumpFlags s c t == 0 && dumpWaits s t n) then s
  else startDrain c (purge c t.oldGen (bumpGen c (writeDump c s)))

/-- A port's marker is back, or its port is dropped; the drain ends with the last (R339). -/
def portDrained (c e : Nat) (s : State) : State :=
  updTd c (fun t =>
    let p := clearBit t.ports e
    { t with ports := p, step := if t.step = 6 ∧ p = 0 then 7 else t.step }) s

/-- A port that goes DOWN or OFF is dropped from every drain. -/
def dropDrain (e : Nat) (s : State) : State :=
  let s := updOe e (fun o => { o with markers := [] }) s
  s.ctxs.foldl (fun s x => if atStep s x.1 6 then portDrained x.1 e s else s) s

/-- The drain is over 15 ms after it began, without the markers still missing. -/
def drainOver (c : Nat) (s : State) : State :=
  let t := tearOf s c
  let s := report (hubSite s) 0x0702 0 c t.oldGen t.ports s
  let s := (List.range 24).foldl (fun s e =>
    updOe e (fun o => { o with markers := o.markers.filter fun m => !(m.1 == c && m.2.2.1 == t.marker) }) s) s
  updTd c (fun t => { t with step := 7, missing := t.ports, flags := t.flags + 32 }) s
/-- DRAIN_TIMEOUT (R339): 15 ms after it began. -/
def doDrainTimeout (c : Nat) (s : State) : State :=
  if !atStep s c 6 then s else drainOver c (advanceTo ((tearOf s c).drainStart + 15000000) s)

/-- M_DRAIN (R339): an outbound marker goes back over the reverse link behind what it came after; a returned one closes
its port, unless it comes when the drain's 15 ms are over (R25). -/
def drainHere (oe : Nat) (p : Mpk) (s : State) : State :=
  if p.count = 0 then
    let n := s.nextUid
    let back : Mpk := { op := 0x27, tc := 3, ctx := p.ctx, gen := p.gen, dstNode := (getOe s oe).peerNode, count := 1,
                        rdClass := 0, tag := p.tag }
    let s := updOe oe (fun o => { o with returns := o.returns ++ [(n, back)] }) { s with nextUid := n + 1 }
    runPort oe (sendReturns oe s)
  else
    let t := tearOf s p.ctx
    if atStep s p.ctx 6 && t.oldGen == p.gen && t.marker == p.tag && bit t.ports oe then
      if t.drainStart + 15000000 ≤ wall s then drainOver p.ctx s else portDrained p.ctx oe s
    else s
def doMDrain (oe : Nat) (p : Mpk) (s : State) : State :=
  receive false oe { p with op := 0x27, dstNode := nodeId s } (drainHere oe) s

/-! ## Clear (step 7) -/

/-- Semaphores, counters, top-k states, FAR_CLASS fields, latches and counts of a slot of a die. -/
def clearSlot (d slot : Nat) (s : State) : State :=
  let s := commitDie d s
  let (s0, s1) := if slot = 0 then (0, 384) else (384, 512)
  let (a0, a1) := if slot = 0 then (0, 192) else (192, 256)
  let k := fenceKey d slot
  let s : State :=
    { s with sems := tclear s.sems (semKey d s0) (semKey d s1), arrs := tclear s.arrs (arrKey d a0) (arrKey d a1),
             topk := tclear s.topk (topkKey d slot 0) (topkKey d slot 2048),
             outst := tclear s.outst (outKey d slot 0) (outKey d slot 0 + 4),
             latches := tdel s.latches k, fences := tdel s.fences k }
  updCd d (fun x => { x with farClass := if slot = 0 then x.farClass / 256 * 256 + 0x55 else x.farClass % 256 + 0x5500 }) s

/-- Slot flags of every scratchpad slot the context owns (R113). -/
def clearFlags (c : Nat) (s : State) : State :=
  (List.range 32).foldl (fun s d => (ctxSlots s c d).foldl (fun s u => slotsReset d u (u + 1) s) s) s

/-- The 32-byte reset record (R344). -/
def resetRecord (t : Teardown) (now : Nat) : List Byte :=
  leBytes 8 t.t0 ++ leBytes 8 now ++ [byte (t.flags + if t.release then 128 else 0), 0, 0, 0] ++ leBytes 4 t.missing ++
    leBytes 4 t.dumpBytes ++ [0, 0, 0, 0]

/-- Every unit of the context begins to be zeroed (R329). -/
def zeroUnits (c : Nat) (s : State) : State := { s with owner := s.owner.map fun e => if e.2 = c then (e.1, 256 + c) else e }
/-- Units of a context still being zeroed. -/
def zeroing (s : State) (c : Nat) : Nat := (s.owner.filter fun e => e.2 == 256 + c).length

/-- A releasing context without units left is FREE; its entry keeps its generation (R324, R325). -/
def freeIfDone (c : Nat) (s : State) : State :=
  if (getCtx s c).state = 6 ∧ zeroing s c = 0 then ctxTo c 0 s else s

/-- Step 7, for a context at it: what its slot held is cleared, and it enters LOADED or RELEASING.
DEDUCED (log 68), unsafe. -/
def clearCtx (c : Nat) (s : State) : State :=
  let t := tearOf s c
  let x := getCtx s c
  let s := if t.bound then
      let s := (maskDies x.mask).foldl (fun s d => clearSlot d x.slot s) s
      let s := (maskDies x.mask).foldl (fun s d => { s with striped := tdel s.striped (256 * d + c) }) s
      if x.slot = 0 then (maskDies x.mask).foldl (fun s d => { s with idle := tdel s.idle d }) s else s
    else s
  let s := clearFlags c s
  let now := wall s
  let s := updCtx c (fun x => { x with td := none, mask := 0, slot := 0, fcDecl := 0, bindWall := 0, dumpHd := 0, dumpOff := 0,
                                       dumpSize := 0, maps := [], injected := false,
                                       late := if t.facetCause then 0 else x.late,
                                       pubLate := if t.facetCause then 0 else x.pubLate, resetRec := resetRecord t now }) s
  let s := bump oCtxResets 0 1 s
  let s := if t.facetCause || t.release then zeroDoor c s else s
  unbound x.mask (if t.release then freeIfDone c (ctxTo c 6 (zeroUnits c (eraseKey c s))) else ctxTo c 1 s)

end Sys2Proof.Machine
end

