-- ==== Sys2Proof/Machine/Facet.lean ====
section
/-! DEFINITION. Machine/Facet.lean: joins (R30), facets that fail, go off, or lose their state (R20, R334, R346 and the resets of every chapter), and the facet reset (R346). -/
namespace Sys2Proof.Machine
open Sys2Proof

/-! ## Joins (R30) -/

/-- A facet's join is formed (a mask) or released (0), journaled as a FACET entry whose states are equal (R36, log 60). -/
def setJoin (f mask : Nat) (s : State) : State :=
  let x := getFacet s f
  let s := updFacet f (fun x => { x with join := mask }) s
  journal 0 0x04 0 (jOther f) [byte x.state, byte x.state, byte (joinMask s f)] s

/-- A join is released for all its members. -/
def releaseJoin (mask : Nat) (s : State) : State :=
  let s := stopHolds (lowestFacet mask) s
  [0, 1, 2, 3].foldl (fun s f => if bit mask f && (getFacet s f).join == mask then setJoin f 0 s else s) s

/-- A context bound to some facet of a mask (R333). -/
def boundIn (x : Ctx) (mask : Nat) : Bool :=
  (x.state == 3 || x.state == 4 || (x.state == 5 && (x.td.map (·.bound)).getD false)) &&
    [0, 1, 2, 3].any fun f => bit mask f && bit x.mask f

/-- FACET_LOST is charged to a context (R332, R334). -/
def chargeLost (c addr : Nat) (s : State) : State :=
  chargeFault { ctx := c, gen := (getCtx s c).gen, reason := 0x82, source := 4, site := hubSite s, addr := addr } s

/-- Every context bound to a facet or its join is charged FACET_LOST. -/
def loseBound (mask : Nat) (s : State) : State :=
  s.ctxs.foldl (fun s e => if boundIn e.2 mask then chargeLost e.1 0 s else s) s

/-- A facet leaves its join through fault or reset (R30). -/
def leaveJoin (f : Nat) (s : State) : State :=
  let m := (getFacet s f).join
  if m = 0 then s else releaseJoin m (loseBound m s)

/-- *STARTUP_STATE* reads COMPLETE when every enabled facet has left RESETTING (R458). -/
def startupDone (s : State) : State :=
  if s.hub.resumed && [0, 1, 2, 3].all (fun f =>
      numGet s oFacetEnable (f + 1) != 1 || ((getFacet s f).state != 1 && (getFacet s f).state != 0)) then
    let s : State := { s with hub.startup := 5 }
    { s with hub.devReady := devReady s }
  else s

/-- A facet enters FAILED (R20, R209, R332). -/
def failFacet (f : Nat) (s : State) : State :=
  let x := getFacet s f
  if x.state = 0 ∨ x.state = 4 then s
  else
    let s := if x.join = 0 then loseBound (2 ^ f) (stopHolds f s) else leaveJoin f s
    startupDone (updFacet f (fun x => { x with rstStep := 0 }) (facetTo f 4 s))

/-! ## What a facet loses with its power -/

/-- Objects of a table range that are not persistent return to their defaults. -/
def clearObjs (ixs : List Nat) (lo hi : Nat) (s : State) : State :=
  ixs.foldl (fun s ix =>
    match findObj ix lo with
    | some o => if o.persist then s
                else { s with mg.num := tclear s.mg.num (objKey ix lo) (objKey ix hi),
                              mg.blob := tclear s.mg.blob (objKey ix lo) (objKey ix hi) }
    | none => s) s

/-- The objects of every link with an end in the facet (R218, R219). -/
def clearLinkObjs (f : Nat) (s : State) : State :=
  (facetLinks f).foldl (fun s n =>
    clearObjs [0x2050, 0x2051, 0x2052, 0x2053, 0x2054, 0x2055, 0x2056, 0x2057, 0x2058] (n + 1) (n + 2) s) s

/-- Counters of the facet's dies and engines (R72, R96, R127, R160, R181, R257, R321). -/
def clearCounters (f : Nat) (s : State) : State :=
  let s := clearObjs [0x2020, 0x2021, 0x2022, 0x2040, 0x2041, 0x2042, 0x2043, 0x2044, 0x2045, 0x2046, 0x5000, 0x5001,
    0x5002, 0x5003, 0x5004, 0x5005, 0x5006, 0x5008, 0x5009, 0x500A, 0x500B, 0x500C, 0x5020, 0x5021, 0x5022, 0x5023, 0x5027,
    0x5028, 0x5029, 0x502A, 0x502C, 0x502D, 0x502E] (8 * f + 1) (8 * f + 9) s
  let s := clearObjs [0x2030, 0x2031, 0x2032, 0x2033] (16 * f + 1) (16 * f + 17) s
  let s := clearObjs [0x5007] (f + 1) (f + 2) s
  let s := clearObjs [0x6104, 0x6105, 0x6106, 0x6108] (2 * f + 1) (2 * f + 3) s
  (List.range 6).foldl (fun s i =>
    (List.range 19).foldl (fun s n =>
      if n = 1 then s
      else
        let ix := oeObj (6 * f + i) (0x4000 + n)
        { s with mg.num := tclear s.mg.num (objKey ix 0) (objKey ix 32), mg.blob := tclear s.mg.blob (objKey ix 0) (objKey ix 32) }) s) s

/-- A key of a table that packs a die in its upper part lies in the facet. -/
def ofFacet (f per k : Nat) : Bool := k / per / 8 == f

/-- What a facet that loses its state leaves of a machine packet on the package: those of its dies are gone, and those in transit hold
no room in its engines any more (R293). -/
def Cargo.left (f : Nat) : Cargo → Option Cargo
  | .engine oe q => some (.engine oe (if (q.src - 1) / 6 = f then { q with src := 0, shr := 0, res := 0 } else q))
  | .inject e => if e.die / 8 = f then none else some (.inject e)
  | .answer pd p w => some (.answer pd p w)
/-- The same at the ports of every link. -/
def stripPorts (f : Nat) (s : State) : State :=
  (List.range 280).foldl (fun s k => if (getDir s k).port.isEmpty then s else updDir k (fun x =>
    { x with port := x.port.filterMap fun w => match w.cargo with
        | some c => (c.left f).map fun c => { w with cargo := some c }
        | none => some w }) s) s

/-- An optical engine after its facet reset: keys, replay buffer, lines and monitors are gone; traffic in transit waits, and the
lasers stay as they are, also where open fibre has them off (R225, R259, R293). -/
def blankOe (st now : Nat) (o : OeSt) : OeSt :=
  { state := st, since := now, feedsOff := o.feedsOff, probeAt := o.probeAt, queue := (o.queue.filter (!·.inj)).map (fun q => { q with src := 0, shr := 0, res := 0 }),
    markers := o.markers }

/-- The state of the facet's dies is lost (R73, R97, R113, R128, R161, R182, R219, R259, R293, R322).
DEDUCED (log 70), unsafe. -/
def eraseFacet (f : Nat) (s : State) : State :=
  let dies := facetDies f
  let s := dies.foldl (fun s d =>
    zeroBytes (nearBase d) nearSize (zeroBytes (farBase d) farSize (zeroBytes (spBase d) spSize
      (zeroBytes (dmemBase d 0) 0x200000 (zeroBytes (ctrlBase d) 0x10000 s))))) s
  let pds := [2 * f, 2 * f + 1]
  let here (site : Nat) : Bool := siteFacet (strapSite site) == some f
  let s : State :=
    { s with cds := tclear s.cds (8 * f) (8 * f + 8), 
             fds := dies.foldl (fun t k => tset {} t k { marginal := (tget {} t k).marginal }) s.fds,
             pds := pds.foldl (fun t k => tset {} t k
               { landed := (tget {} t k).landed.filterMap fun l => (l.cargo.left f).map fun c => { l with cargo := c } }) s.pds,
             admitted := s.admitted.map fun e => if siteFacet e.1 = some f then (e.1, 2) else e,
             held := tkeep s.held fun k => siteFacet k != some f,
             sems := tkeep s.sems fun k => !ofFacet f 512 k, arrs := tkeep s.arrs fun k => !ofFacet f 256 k,
             slots := tkeep s.slots fun k => !ofFacet f 16384 k, streams := tkeep s.streams fun k => !ofFacet f 16 k,
             engines := tkeep s.engines fun k => !ofFacet f 8 k, topk := tkeep s.topk fun k => !ofFacet f 4096 k,
             ubuf := tkeep s.ubuf fun k => !(match region (k * 32) with | .near c => c / 8 == f | .far c => c / 8 == f | _ => false),
             outst := tkeep s.outst fun k => !ofFacet f 8 k, latches := tkeep s.latches fun k => !ofFacet f 2 k,
             fences := tkeep s.fences fun k => !ofFacet f 2 k, striped := tkeep s.striped fun k => !ofFacet f 256 k,
             idle := tkeep s.idle fun k => !ofFacet f 1 k,
             terms := s.terms.filter fun t => !pds.contains t.pd, mtxns := s.mtxns.filter fun t => t.die / 8 != f,
             txns := s.txns.filter fun t => !here t.src, plans := s.plans.filter fun p => !pds.contains p.pd,
             insts := s.insts.filter fun i => !pds.contains i.pd, ctrlTable := s.ctrlTable.filter fun e => !pds.contains e.1,
             tickIncs := s.tickIncs.filter fun t => t.pd / 2 != f,
             barrierHold := s.barrierHold.filter fun t => t.pd / 2 != f }
  let now := wall s
  let s := stripPorts f ((List.range 6).foldl (fun s i => updOe (6 * f + i) (blankOe 0 now) s) s)
  let s := updFacet f (fun x => { state := x.state, rstStep := x.rstStep, rstT0 := x.rstT0, offSince := x.offSince,
                                  offOther := x.offOther, rstCtxs := x.rstCtxs, tripped := x.tripped,
                                  relatch := x.relatch }) s
  dropQueued (fun p => siteFacet (strapSite p.dst) == some f) (clearCounters f s)

/-- The units of the facet's dies have no owner any more; a releasing context that waited for them is done (R351). -/
def loseUnits (f : Nat) (s : State) : State :=
  let mine (k : Nat) : Bool := k / 32768 % 32 / 8 == f
  let gone := ((s.owner.filter fun e => mine e.1).map (·.2)).eraseDups
  let s : State := { s with owner := tkeep s.owner fun k => !mine k }
  gone.foldl (fun s v => if 256 ≤ v then freeIfDone (v - 256) s else s) s

/-- The lowest address among the units that a context owns on the facet's dies. -/
def lowestUnit (s : State) (f c : Nat) : Option Nat :=
  ((s.owner.filter fun e => e.1 / 32768 % 32 / 8 == f && e.2 == c).map fun e =>
    unitBase (e.1 / 32768 / 32) (e.1 / 32768 % 32) (e.1 % 32768)).foldl (fun m a => some (min (m.getD a) a)) none

/-- Contexts that own units on the facet's dies and lie outside it are charged FACET_LOST (R332, R346). -/
def chargeOwners (f : Nat) (torn : List Nat) (s : State) : State :=
  (List.range 255).foldl (fun s i =>
    let c := i + 1
    if bit (getCtx s c).mask f || torn.contains c then s
    else match lowestUnit s f c with
      | some a => chargeLost c (gAddr s a) s
      | none => s) s

/-! ## Off, and powered -/

/-- A facet's dies have power: it is not OFF, and not in step 2 of its reset. -/
def facetPowered (s : State) (f : Nat) : Bool := (getFacet s f).state != 0 && (getFacet s f).rstStep != 2

/-- Links whose two ends have no power are OFF (R207): compute and prism dies forward while any facet has power (R19), so links go
OFF with the last facet, those to a hub with the hub. What waited there is lost. -/
def linksOff (s : State) : State :=
  if [0, 1, 2, 3].any (facetPowered s) then s
  else
    let now := wall s
    s.links.foldl (fun s e =>
      if e.2.state != 0 && (e.1 < 132 || !s.hub.on) then
        updDir (2 * e.1) (fun _ => {}) (updDir (2 * e.1 + 1) (fun _ => {}) (updLink e.1 (fun _ => { since := now }) s))
      else s) s

/-- A facet enters OFF (R20): its dies lose their state; `other` says that *FACET_ENABLE* is not the reason (R346). -/
def facetOff (f : Nat) (other : Bool) (s : State) : State :=
  if (getFacet s f).state = 0 then s
  else
    let s := releaseJoin (joinMask s f) s
    let s := eraseFacet f s
    let s : State := { s with admitted := tkeep s.admitted fun k => siteFacet k != some f }
    let s := (List.range 6).foldl (fun s i => dropDrain (6 * f + i) s) s
    offApply (linksOff (updFacet f (fun x => { x with rstStep := 0, offOther := other, rstCtxs := [] }) (facetTo f 0 s)))

/-- *OPT_LINK_ENABLE* of an engine (R257). -/
def oeEnabled (s : State) (e : Nat) : Bool := numGet s (oeObj e oOptLinkEnable) 0 == 1

/-- Zeroing a scratchpad domain: 1,024 periods of 1.5 GHz, in thirds of ns (R114). -/
abbrev spZeroing : Nat := 2048

/-- The facet's enabled optical links leave OFF for LIGHT (R254), after its first frame has begun (step 8 of R458, step 6 of
R346).
DEDUCED (log 70), unsafe. -/
def lightFacet (f : Nat) (s : State) : State :=
  let now := wall s
  (List.range 6).foldl (fun s i =>
    if oeEnabled s (6 * f + i) && (getOe s (6 * f + i)).state == 0 then
      updOe (6 * f + i) (fun o => { o with state := 1, since := now }) s
    else s) s

/-- Links of the forwarding domain alone (R19): those between mesh routers, from a mesh router to a prism die, between prism
dies, and to a hub. -/
def forwardLink (n : Nat) : Bool := decide (n < 52) || (decide (84 ≤ n) && decide (n < 108)) || decide (132 ≤ n)
/-- A facet's dies leave power-on reset (R458, R346): links to be tested, stacks to be trained, scratchpads zeroed. `all`:
every link with an end here is taken through R207 (R219). The forwarding domain of the other facets has power from then on,
also where such a facet is OFF (R19): its links that are OFF leave it too.
DEDUCED (log 70), unsafe. -/
def powerFacet (f : Nat) (all : Bool) (s : State) : State :=
  let now := wall s
  let s := if all then clearLinkObjs f s else s
  let s := (List.range 140).foldl (fun s n =>
    let st := (getLink s n).state
    if if (linkFacets n).contains f then all || st == 0 || st == 5 else forwardLink n && st == 0 then
      updDir (2 * n) LinkDir.fresh (updDir (2 * n + 1) LinkDir.fresh (updLink n (fun _ => { state := 1, since := now }) s))
    else s) s
  let t := s.time + spZeroing
  let s := (facetDies f).foldl (fun s d =>
    updFd d (fun x => { x with state := 1 })
      (updCd d (fun x => { x with near := 1, spSingle := 1, spDual := 1, singleEnd := t, dualEnd := t }) s)) s
  let s := updFacet f (fun x => { x with relatch := (facetSites f).filter fun k => tget 0 s.straps k != 0 }) s
  { s with hub.powered := tset 0 s.hub.powered f now }

/-! ## The facet reset (R346) -/

/-- A write of 1 to *FACET_RESET* is refused. -/
def facetResetRefused (s : State) (f : Nat) : Bool :=
  let x := getFacet s f
  x.state == 1 || s.pw.supply != 0 || s.pw.tripped || (x.state == 0 && x.offOther)

/-- The key of a facet's *FACET_ENABLE*, whose writes take effect at its reset (R37). -/
def enableKey (f : Nat) (k : Nat) : Bool := k == objKey oFacetEnable (f + 1)

/-- Step 1: every context whose mask includes the facet is torn down, also one that has bound since the sequence began. -/
def tearFacet (f : Nat) (s : State) : State :=
  let cs := (s.ctxs.filter fun e => bit e.2.mask f && e.2.state != 0 && e.2.state != 6).map (·.1)
  let s := updFacet f (fun x => { x with rstCtxs := x.rstCtxs ++ cs.filter fun c => !x.rstCtxs.contains c }) s
  cs.foldl (fun s c =>
    let x := getCtx s c
    if x.state = 5 then s else startTear c false true x.dumpHd x.dumpOff x.dumpSize s) s
/-- Step 2: once no teardown of the facet's contexts runs, the facet is RESETTING and its power goes.
DEDUCED (log 67), unsafe; DEDUCED (log 70), unsafe. -/
def facetResetGo (f : Nat) (s : State) : State :=
  let s := if (getFacet s f).rstStep = 1 then tearFacet f s else s
  let x := getFacet s f
  if x.rstStep ≠ 1 ∨ s.ctxs.any (fun e => e.2.state == 5 && bit e.2.mask f) then s
  else
    let s := resetApply f (enableKey f) s
    let s := leaveJoin f (stopHolds f s)
    let s := facetTo f 1 s
    let s := loseUnits f (chargeOwners f x.rstCtxs s)
    let s := x.rstCtxs.foldl (fun s c => zeroDoor c (updCtx c (fun y => { y with late := 0, pubLate := 0 }) s)) s
    let s := eraseFacet f s
    linksOff (updFacet f (fun x => { x with rstStep := 2, offSince := wall s, rstCtxs := [] }) s)

/-- The sequence starts. A facet held OFF by its *FACET_ENABLE* is powered where that object now reads 1, and else stays
OFF.
DEDUCED (log 70), unsafe. -/
def facetResetStart (f : Nat) (s : State) : State :=
  let now := wall s
  if (getFacet s f).rstStep = 1 then s
  else if (getFacet s f).state = 0 then
    let s := resetApply f (enableKey f) s
    if numGet s oFacetEnable (f + 1) = 1 then
      powerFacet f true (updFacet f (fun x => { x with rstT0 := now }) (facetTo f 1 s))
    else s
  else
    facetResetGo f (updFacet f (fun x => { x with rstStep := 1, rstT0 := now, rstCtxs := [] }) s)

/-- FACET_RESET_OFF_END: 2,300 ms after the power went, the facet is powered, or stays OFF. -/
def doFacetOffEnd (f : Nat) (s : State) : State :=
  let x := getFacet s f
  if x.rstStep ≠ 2 then s
  else
    let s := advanceTo (x.offSince + 2300000000) s
    if numGet s oFacetEnable (f + 1) = 0 then facetOff f false s
    else powerFacet f true (updFacet f (fun x => { x with rstStep := 3 }) s)

def execFacetResetOffEnd (f : Facet) (s : State) : Out := .next (doFacetOffEnd f s)

end Sys2Proof.Machine
end

