-- ==== Sys2Proof/Machine/Context.lean ====
section
/-! DEFINITION. Machine/Context.lean: the firmware mailbox's answers (R359), the context commands (R326 to R329, R341), the
events of a teardown, and the zeroing of units. -/
namespace Sys2Proof.Machine
open Sys2Proof

/-! ## Life cycle (R387, R388) -/

/-- The life-cycle state: of the fuses, or SERVICE while a LEAVE_SERVICE waits for power-up (R389). -/
def lcOfFuses (lc : Nat) : Nat :=
  if bit lc 63 then 4
  else if bit lc 1 then (if ((List.range 48).filter fun i => bit lc (2 + i)).length % 2 = 1 then 3 else 2)
  else if bit lc 0 then 1 else 0
/-- DESIGN CHOICE (log 25), unsafe. -/
def lcState (s : State) : Nat := if s.sec.leavePending && !bit s.sec.lc 63 then 3 else lcOfFuses s.sec.lc

/-! ## The mailbox (R359) -/

def mailSeq (s : State) (h : Nat) : Nat := read32 s (mailBase h + 4)

/-- Writes a response: RSP_SEQ, RESULT, RSP_LEN, JOURNAL_SEQ, RSP. -/
def mailRespond (h seq result jn : Nat) (rsp : List Byte) (s : State) : State :=
  let r := rsp.take 2024
  writeBytes (mailBase h + 0x800)
    (leBytes 4 seq ++ leBytes 2 result ++ leBytes 2 r.length ++ leBytes 8 jn ++ r) s

/-- A request of a path is counted in *PATH_STATS*: 1 accepted, 2 refused, 3 malformed (R422). -/
def countPath (p how : Nat) (s : State) : State := bumpBlob oPathStats p how 8 1 (bumpBlob oPathStats p 0 8 1 s)

/-- HB0 copies to HB1 what has changed since the last answer, a MGMT packet of PCLASS 3 for each journal entry made; the layout of the
copies is not stated (R368).
DESIGN CHOICE (log 59), unsafe. -/
def copyOver (s : State) : State :=
  let n := s.jrnl.next
  let a := max s.hub.copied s.jrnl.bootSeq
  if !s.hub.resumed || s.hub.hb0Failed || s.hub.hb1Failed || decide (n ≤ a) then s
  else (List.range (n - a)).foldl (fun s i =>
    emit (.hubCopy { dst := 0x81, src := 0x80, op := 0x31, pclass := 3, origin := 2, posted := true, len := 2,
                     data := (tget {} s.jrnl.ring ((a + i) % 65536)).bytes }) s) { s with hub.copied := n }

/-- The command in progress is answered: the response is written whole, BUSY returns to 0, vector 0 fires. -/
def mailDone (h result jn : Nat) (rsp : List Byte) (s : State) : State :=
  let s := copyOver (countPath (4 + h) (if result = 0 then 1 else 2) s)
  let s := mailRespond h (getHost s h).cmdSeq result jn rsp s
  let s := updHost h (fun x => { x with busy := false }) s
  raiseOn h 0 (writeBytes (mailBase h + 0xFFC) [0, 0, 0, 0] s)
/-- A GO that came while a command was in progress is answered with RESULT 0x0003 once that command has been answered.
DEDUCED (log 66), safe. -/
def answerBusy (h : Nat) (s : State) : State :=
  match (getHost s h).busySeq with
  | q :: rest =>
    if (getHost s h).busy then s
    else raiseOn h 0 (mailRespond h q 3 0 [] (updHost h (fun x => { x with busySeq := rest }) s))
  | [] => s

/-- The HST path of a host die is live (R392), and a mailbox command submitted over it is carried out, also when the path has been lost
since (R363). -/
def hostLive (s : State) (h : Nat) : Bool := hubUp s && s.hub.resumed && (getHost s h).admitted
def mailLive (s : State) (h : Nat) : Bool := hubUp s && s.hub.resumed && ((getHost s h).admitted || (getHost s h).busy)

/-- Runs a mailbox command: journaled first with its result (R326, R406, R409), then carried out, then answered. While
STOPPED or after a trip every command is refused in state (R427, R440).
DEDUCED (log 66), safe. -/
def mailRun (h result object : Nat) (arg rsp : List Byte) (act : State → State) (s : State) : State :=
  if !mailLive s h then s
  else
    let result := if allRefused s then 1 else result
    let s := journal (4 + h) 0x03 result object arg s
    let jn := jseq s
    if result = 0 then mailDone h 0 jn rsp (act s) else mailDone h result jn [] s

/-- OBJECT of a MAILBOX entry: the context named, with its GEN after the command, else CMD (R409). -/
def mailObj (cmd c gen : Nat) : Nat := if 1 ≤ c ∧ c ≤ 255 then jCtx c gen else jOther cmd

/-! ## CTX_CREATE -/

def freeCtx (s : State) : Option Nat := ((List.range 255).map (· + 1)).find? fun c => (getCtx s c).state == 0
def doCtxCreate (h : Nat) (s : State) : State :=
  match (if lcState s = 2 then freeCtx s else none) with
  | none => mailRun h 1 (jOther 0x0101) [] [] id s
  | some c =>
    let g := ((getCtx s c).gen + 1) % 256
    mailRun h 0 (jCtx c g) [] [byte c, byte g] (fun s => ctxTo c 1 (updCtx c (fun x => { x with gen := g }) s)) s

/-! ## CTX_ASSIGN and CTX_UNASSIGN (R328, R329) -/

/-- Domain of a scratchpad slot: dual-port from 15,360 on (R100, R114). -/
def slotDual (u : Nat) : Bool := decide (15360 ≤ u)

/-- A scratchpad domain that is off in a powered facet wakes and is zeroed; its flags clear (R113, R114, R435). -/
def wakeDomain (d : Nat) (dual : Bool) (s : State) : State :=
  let c := getCd s d
  let st := (getFacet s (d / 8)).state
  if st = 0 ∨ st = 4 ∨ (if dual then c.spDual else c.spSingle) ≠ 0 then s
  else
    let (lo, hi) := if dual then (15360, 16384) else (0, 15360)
    let s := slotsReset d lo hi (zeroBytes (spBase d + lo * 4096) ((hi - lo) * 4096) s)
    let s := dropAcc d (spBase d + lo * 4096) (spBase d + hi * 4096) s
    let t := s.time + spZeroing
    updCd d (fun c => if dual then { c with spDual := 1, dualEnd := t } else { c with spSingle := 1, singleEnd := t }) s

/-- Zeroing of a woken domain completes: from the present cycle on it serves accesses (R114). -/
def doSpZeroed (d : Nat) (dual : Bool) (s : State) : State :=
  let c := getCd s d
  if (if dual then c.spDual else c.spSingle) ≠ 1 then s
  else
    let s := syncFacet (d / 8) { s with time := max s.time (if dual then c.dualEnd else c.singleEnd) }
    let now := absCycle s (d / 8)
    updCd d (fun c => if dual then { c with spDual := 2, dualAt := now } else { c with spSingle := 2, singleAt := now }) s

/-- ARG of CTX_ASSIGN and CTX_UNASSIGN (R360). -/
def unitArg (c kind d first count : Nat) : List Byte := [byte c, byte kind, byte d, 0] ++ leBytes 4 first ++ leBytes 4 count
/-- The range names units of a die. -/
def unitRange (kind d first count : Nat) : Bool := decide (kind < 3) && decide (d < 32) && decide (first + count ≤ unitCount kind)
def unitList (first count : Nat) : List Nat := (List.range count).map (first + ·)

def doCtxAssign (h c kind d first count : Nat) (s : State) : State :=
  let x := getCtx s c
  let arg := unitArg c kind d first count
  let obj := mailObj 0x0102 c x.gen
  let units := unitList first count
  if c = 0 ∨ 255 < c then mailRun h 2 obj arg [] id s
  else if x.state = 0 ∨ 5 ≤ x.state then mailRun h 1 obj arg [] id s
  else if !unitRange kind d first count then mailRun h 2 obj arg [] id s
  else if units.any (fun u => owner s kind d u != 0 && owner s kind d u != c) then mailRun h 1 obj arg [] id s
  else mailRun h 0 obj arg [] (fun s =>
    let s := units.foldl (fun s u => setOwner kind d u c s) s
    if kind = 0 then
      let s := if units.any (fun u => !slotDual u) then wakeDomain d false s else s
      if units.any slotDual then wakeDomain d true s else s
    else s) s

def doCtxUnassign (h c kind d first count : Nat) (s : State) : State :=
  let x := getCtx s c
  let arg := unitArg c kind d first count
  let obj := mailObj 0x0103 c x.gen
  let units := unitList first count
  if c = 0 ∨ 255 < c then mailRun h 2 obj arg [] id s
  else if x.state ≠ 1 then mailRun h 1 obj arg [] id s
  else if !unitRange kind d first count then mailRun h 2 obj arg [] id s
  else if units.any (fun u => owner s kind d u != c) then mailRun h 1 obj arg [] id s
  else mailRun h 0 obj arg [] (fun s => units.foldl (fun s u => setOwner kind d u (256 + c) s) s) s

/-- UNIT_ZEROING_DONE (R329): the unit is zero, with its slot flag clear, and free. -/
def doUnitZeroed (kind d u : Nat) (s : State) : State :=
  let v := owner s kind d u
  if v < 256 then s
  else
    let s := setOwner kind d u 0 (zeroBytes (unitBase kind d u) (unitBytes kind) s)
    let s := if kind = 0 then dropAcc d (unitBase 0 d u) (unitBase 0 d (u + 1)) (slotsReset d u (u + 1) s) else s
    freeIfDone (v - 256) s

/-! ## CTX_BIND (R326, R327) -/

/-- The idle-frame maps named, from exchange memory; `none` where one lies outside it or its PERIOD is not 1 to 2,048
(R318, R360).
DEDUCED (log 69), unsafe. -/
def readMaps (s : State) (h : Nat) (maps : List Nat) : List Nat → Option (Tab (List Byte))
  | [] => some []
  | d :: ds =>
    match readMaps s h maps ds with
    | none => none
    | some t =>
      let off := maps.getD d 0xFFFFFFFF
      if off = 0xFFFFFFFF then some t
      else
        let per := leNat (readBytes s (xchBase h + off) 2)
        if 0x4000000 < off + 2 ∨ per = 0 ∨ 2048 < per ∨ 0x4000000 < off + 2 + per then none
        else some (tput t d (readBytes s (xchBase h + off) (2 + per)))

def bindArg (c mask slot hd off size : Nat) (maps : List Nat) : List Byte :=
  [byte c, byte mask, byte slot, byte hd] ++ leBytes 4 off ++ leBytes 4 size ++
    (List.range 32).flatMap fun d => leBytes 4 (maps.getD d 0xFFFFFFFF)

/-- DEDUCED (log 69), unsafe. -/
def doCtxBind (h c mask slot hd off size : Nat) (maps : List Nat) (s : State) : State :=
  let x := getCtx s c
  let arg := bindArg c mask slot hd off size maps
  let obj := mailObj 0x0104 c x.gen
  if c = 0 ∨ 255 < c then mailRun h 2 obj arg [] id s
  else if x.state ≠ 1 then mailRun h 1 obj arg [] id s
  else match (if mask = 0 ∨ 15 < mask ∨ 1 < slot ∨ 1 < hd then none
              else if slot = 0 then readMaps s h maps (maskDies mask) else some []) with
    | none => mailRun h 2 obj arg [] id s
    | some t => mailRun h 0 obj arg [] (fun s =>
        let s := updCtx c (fun x => { x with mask := mask, slot := slot, dumpHd := hd, dumpOff := off, dumpSize := size,
                                             maps := t, bindAt := wall s }) s
        (maskDies mask).foldl (fun s d => wakeDomain d true (wakeDomain d false s)) (ctxTo c 2 s)) s

/-! ## CTX_RESET and CTX_RELEASE (R326, R341) -/

/-- GEN after a command that starts a teardown: bumped at once where the context is not bound (R325).
DEDUCED (log 66), safe. -/
def genAfter (x : Ctx) : Nat := if x.state = 1 ∨ x.state = 2 then (x.gen + 1) % 256 else x.gen

def doCtxReset (h c hd off size : Nat) (s : State) : State :=
  let x := getCtx s c
  let arg := [byte c, byte hd, 0, 0] ++ leBytes 4 off ++ leBytes 4 size
  let ok := decide (1 ≤ x.state) && decide (x.state ≤ 4)
  if c = 0 ∨ 255 < c then mailRun h 2 (mailObj 0x0105 c x.gen) arg [] id s
  else if !ok then mailRun h 1 (mailObj 0x0105 c x.gen) arg [] id s
  else if 1 < hd then mailRun h 2 (mailObj 0x0105 c x.gen) arg [] id s
  else mailRun h 0 (mailObj 0x0105 c (genAfter x)) arg [] (fun s =>
    if size = 0 then startTear c false false x.dumpHd x.dumpOff x.dumpSize s
    else startTear c false false hd off size s) s

def doCtxRelease (h c : Nat) (s : State) : State :=
  let x := getCtx s c
  let t := tearOf s c
  if c = 0 ∨ 255 < c then mailRun h 2 (mailObj 0x0106 c x.gen) [byte c] [] id s
  else if x.state = 0 ∨ x.state = 6 ∨ (x.state = 5 ∧ (t.byRelease ∨ t.release)) then
    mailRun h 1 (mailObj 0x0106 c x.gen) [byte c] [] id s
  else if x.state = 5 then
    mailRun h 0 (mailObj 0x0106 c x.gen) [byte c] [] (updTd c (fun t => { t with release := true })) s
  else mailRun h 0 (mailObj 0x0106 c (genAfter x)) [byte c] []
    (startTear c true false x.dumpHd x.dumpOff x.dumpSize) s

/-! ## Teardown events -/

/-- TEARDOWN_CLEAR: step 7; a facet reset that waited for this teardown goes on (R341, R346).
DEDUCED (log 67), unsafe. -/
def doTearClear (c : Nat) (s : State) : State :=
  if atStep s c 7 then [0, 1, 2, 3].foldl (fun s f => facetResetGo f s) (clearCtx c s) else s

def execCtxCreate (hd : Hd) (s : State) : Out := .next (doCtxCreate hd s)
def execCtxAssign (hd : Hd) (ctx : Nat) (kind : Nat) (die first count : Nat) (s : State) : Out :=
  .next (doCtxAssign hd ctx kind die first count s)
def execCtxUnassign (hd : Hd) (ctx : Nat) (kind : Nat) (die first count : Nat) (s : State) : Out :=
  .next (doCtxUnassign hd ctx kind die first count s)
def execCtxBind (hd : Hd) (ctx mask slot dumpHd dumpOff dumpSize : Nat) (maps : List Nat) (s : State) : Out :=
  .next (doCtxBind hd ctx mask slot dumpHd dumpOff dumpSize maps s)
def execCtxReset (hd : Hd) (ctx dumpHd dumpOff dumpSize : Nat) (s : State) : Out :=
  .next (doCtxReset hd ctx dumpHd dumpOff dumpSize s)
def execCtxRelease (hd : Hd) (ctx : Nat) (s : State) : Out := .next (doCtxRelease hd ctx s)
def execTeardownResume (ctx : Nat) (s : State) : Out := .next (doTearResume ctx s)
def execDrainTimeout (ctx : Nat) (s : State) : Out := .next (doDrainTimeout ctx s)
def execTeardownClear (ctx : Nat) (s : State) : Out := .next (doTearClear ctx s)
def execMDrain (oe : Oe) (p : Mpk) (s : State) : Out := .next (doMDrain oe p s)
def unitCode : UnitKind → Nat | .slot => 0 | .stripe => 1 | .block => 2
def execUnitZeroingDone (kind : UnitKind) (die : Die) (unit : Nat) (s : State) : Out :=
  .next (doUnitZeroed (unitCode kind) die unit s)
def execSpDomainWake (die : Die) (dom : SpDomain) (s : State) : Out := .next (wakeDomain die (dom == .dual) s)
def execSpZeroingDone (die : Die) (dom : SpDomain) (s : State) : Out := .next (doSpZeroed die (dom == .dual) s)

end Sys2Proof.Machine
end

