-- ==== Sys2Proof/Machine/Heat.lean ====
section
/-! DEFINITION. Machine/Heat.lean: the thermal model's estimates and what follows them at once: refresh bands (R138, R165),
thermal levels (R434, R439), the ring heaters' feed-forward (R240); power events (R444). -/
namespace Sys2Proof.Machine
open Sys2Proof

/-- *THERMAL_STATE* of a facet (R439). -/
def thermState (s : State) (f : Nat) : Nat :=
  let x := getFacet s f
  if s.pw.tripped then 3 else if x.thermLevel = 0 then 0 else if x.thermLevel ≤ 6 then 1 else 2

/-- The power event record (R444). -/
def powerRec (s : State) (code : Nat) : List Byte :=
  leBytes 8 (wall s) ++ leBytes 2 code ++ leBytes 2 s.pw.volts ++ leBytes 4 s.pw.inputPower ++
    [0, 1, 2, 3].map (fun f => byte (getFacet s f).level) ++ [0, 1, 2, 3].map (fun f => byte (thermState s f)) ++
    List.replicate 8 0

/-- A power event: journaled, logged, and vector 5 raised as R444 lists it. -/
def powerEvent (code detail : Nat) (jr lg : Bool) (site : Nat) (s : State) : State :=
  let s := if jr then journal 0 0x0A 0 (jOther code) (powerRec s code) s else s
  let s := if lg then report site code 0 0 0 detail s else s
  if (0x0B01 ≤ code ∧ code ≤ 0x0B05) ∨ code = 0x0B07 ∨ code = 0x0B0A then msix 5 s else s

/-- Thresholds of the thermal levels, in 0.01 degrees C (R439). -/
def levelAt (l : Nat) : Int :=
  [9500, 9500, 9650, 9800, 9950, 10100, 10250, 10500, 10700, 10900, 11100, 11300].getD l 11300
/-- The highest level whose threshold a temperature has reached. -/
def levelOf (t : Int) : Nat := ((List.range 11).filter fun k => decide (levelAt (k + 1) ≤ t)).length

/-- The hottest estimate among a facet's dies; a die without an estimate yet has none. -/
def facetTemp (s : State) (f : Nat) : Int :=
  (facetSites f).foldl (fun m site => max m (tget 0 s.pw.temp site)) 0

/-- A facet's thermal level changes: vector 5 fires, and a change of its state is journaled (R364, R444). -/
def setTherm (f l : Nat) (s : State) : State :=
  if (getFacet s f).thermLevel = l then s
  else
    let old := thermState s f
    let s := updFacet f (fun x => { x with thermLevel := l }) s
    if thermState s f ≠ old then powerEvent 0x0B07 0 true false (hubSite s) s else msix 5 s

/-- A thermal level rises as soon as its threshold is reached, and the applied level with it (R434, R439). -/
def raiseTherm (f : Nat) (s : State) : State :=
  let l := levelOf (facetTemp s f)
  if (getFacet s f).state ≠ 0 ∧ (getFacet s f).thermLevel < l then raiseLevel f (setTherm f l s) else s

/-- Refresh band of an estimate, near (85 and 95 degrees) and far (85 degrees): R138, R165. -/
def nearBand (t : Int) : Nat := if 9500 ≤ t then 2 else if 8500 ≤ t then 1 else 0
def farBand (t : Int) : Nat := if 8500 ≤ t then 1 else 0

/-- Bands rise at the model update that crosses a threshold. -/
def riseBand (site : Nat) (t : Int) (s : State) : State :=
  if site < 32 then updCd site (fun x => { x with band := max x.band (nearBand t) }) s
  else if site < 64 then updFd (site - 32) (fun x => { x with band := max x.band (farBand t) }) s
  else s
/-- Bands fall at a tick at which the estimate lies 3 K below the threshold, or lower. -/
def fallBand (f : Nat) (s : State) : State :=
  (facetDies f).foldl (fun s d =>
    let s := updCd d (fun x => { x with band := min x.band (nearBand (tget 0 s.pw.temp d + 299)) }) s
    updFd d (fun x => { x with band := min x.band (farBand (tget 0 s.pw.temp (32 + d) + 299)) }) s) s

/-- An estimate is published (R436): the ring loops of an optical engine take its change as feed-forward, 12 GHz per K
the other way, from the first one on (R240); `drift` is in 0.01 GHz. -/
def setTemp (e : TempEst) (s : State) : State :=
  if 100 ≤ e.site then s
  else
    let old := tget 0 s.pw.temp e.site
    let s : State := { s with pw.temp := tset 0 s.pw.temp e.site e.temp }
    let s := riseBand e.site e.temp s
    if 72 ≤ e.site ∧ e.site < 96 then
      updOe (e.site - 72) (fun o =>
        { o with drift := if o.tempSeen then o.drift - 12 * (e.temp - old) else o.drift, tempSeen := true }) s
    else s

/-- Estimates are published, and the thermal levels rise where they must.
DESIGN CHOICE (log 22), safe. -/
def setTemps (l : List TempEst) (s : State) : State :=
  [0, 1, 2, 3].foldl (fun s f => raiseTherm f s) (l.foldl (fun s e => setTemp e s) s)

/-! ## Caps (R426, R431, R432) -/

def sustainedCap (s : State) : Nat := numGet s oPkgSustainedCap 0 * (if s.pw.supply = 1 then 1 else 2) / 2
def shortCap (s : State) : Nat := if s.pw.supply = 1 then sustainedCap s else numGet s oPkgShortCap 0
/-- The caps that a facet's tick judges by (R10). -/
def sustainedAt (s : State) (f : Nat) : Nat := numAt s f oPkgSustainedCap 0 * (if s.pw.supply = 1 then 1 else 2) / 2
def shortAt (s : State) (f : Nat) : Nat := if s.pw.supply = 1 then sustainedAt s f else numAt s f oPkgShortCap 0
/-- Mean input power of the most recent windows of 1 ms, in W.
DESIGN CHOICE (log 16), unsafe. -/
def meanPower (s : State) : Nat := s.pw.windows.foldl (· + ·) 0 / max 1 s.pw.windows.length

/-- The power level at a tick (R432): `p` the facet's power over the closing frame, `sum` of all domains.
DESIGN CHOICE (log 16), unsafe. -/
def powerTick (f p sum : Nat) (s : State) : State :=
  let share := numGet s oFacetPowerShare (f + 1)
  if share < p ∨ 98 * shortAt s f < 100 * sum ∨ sustainedAt s f < meanPower s then
    updFacet f (fun x => { x with power := p, powerLevel := min 11 (x.powerLevel + 1), lowTicks := 0 }) s
  else
    let low := decide (100 * p < 95 * share) && decide (100 * sum < 95 * sustainedAt s f)
    updFacet f (fun x =>
      let n := if low then x.lowTicks + 1 else 0
      if n = 16 then { x with power := p, powerLevel := x.powerLevel - 1, lowTicks := 0 }
      else { x with power := p, lowTicks := n }) s

/-- The applied level at a tick: it rises at once and falls by one at most (R434). -/
def levelTick (f : Nat) (s : State) : State :=
  let x := getFacet s f
  let s := if x.thermLevel ≠ 0 ∧ facetTemp s f + 300 ≤ levelAt x.thermLevel then setTherm f (x.thermLevel - 1) s else s
  let s := updFacet f (fun x => { x with sagFloor := s.pw.supply == 1 }) s
  let x := getFacet s f
  let w := wantedLevel s x
  updFacet f (fun x => { x with level := if x.level ≤ w then w else x.level - 1 }) s

end Sys2Proof.Machine
end

