-- ==== Sys2Proof/Machine/Frame.lean ====
section
/-! DEFINITION. Machine/Frame.lean: the frame tick and its seven steps (R26, R30 to R34, R327, R344, R435), and holding for
a join (R30). -/
namespace Sys2Proof.Machine
open Sys2Proof

/-! ## Records (R32) -/

/-- The 32 bytes of a frame record, bit 0 in the first byte. -/
def FrameRec.bytes (r : FrameRec) : List Byte :=
  leBytes 2 r.div4 ++ leBytes 2 r.div2 ++ leBytes 4 r.holdPeriods ++ leBytes 4 r.skipped ++ leBytes 4 r.base ++
    [byte (16 * r.join), byte r.minSkip,
     byte (bnat r.skip + 2 * bnat r.div + 4 * bnat r.hold + 8 * bnat r.overrun + 16 * bnat r.swap + 32 * bnat r.cap +
       64 * bnat r.first), 0] ++ leBytes 4 r.number ++ leBytes 8 r.tickWall

/-- The closing frame's record. -/
def closeRec (s : State) (f : Nat) (x : FacetSt) : FrameRec :=
  { tickWall := x.openWall, number := x.frameNo, first := x.fFirst, cap := x.fCap, swap := x.fSwap, overrun := x.fOverrun,
    hold := decide (0 < x.hold), div := decide (0 < x.div2 + x.div4), skip := x.minSkip != 0, minSkip := x.minSkip,
    join := joinMask s f, base := periods x, skipped := x.skipped, holdPeriods := x.hold, div2 := x.div2, div4 := x.div4 }

/-- Step 3: the record joins the ring of 256; a stretched frame counts (R34). -/
def writeRec (f : Nat) (s : State) : State :=
  let r := closeRec s f (getFacet s f)
  updFacet f (fun x =>
    { x with records := (x.records ++ [r]).drop (x.records.length - 255),
             stretched := if x.frameCycles < r.base then (x.stretched + 1) % 2 ^ 64 else x.stretched }) s

/-! ## Step 2: overrun (R63) -/

/-- Everything of the facet that could retire in the last cycle retires; the rest halts with FRAME_OVERRUN. -/
def overrunEngine (d e stamp : Nat) (s : State) : State :=
  let f := d / 8
  let x := getFacet s f
  let last := x.cycBase + x.frameCycles - 1
  let s := ((getEngine s d e).fly.filter (canRetire · last)).foldl (fun s y => retire d e y s) s
  [0, 1].foldl (fun s slot =>
    match (getEngine s d e).fly.find? (·.slot == slot) with
    | some y =>
      updFacet f (fun x => { x with fOverrun := true })
        (haltStream d e slot { reason := 0x40, desc := y.desc, ctx := y.ctx, gen := y.gen, cyc := last,
                               wallAt := some stamp } s)
    | none => s) s
def overrunFacet (f stamp : Nat) (s : State) : State :=
  (facetDies f).foldl (fun s d => (List.range 8).foldl (fun s e => overrunEngine d e stamp s) s) s

/-! ## Step 6: binding and joins (R28, R30, R31, R267, R327) -/

/-- The slot is free on every facet of the mask. -/
def slotFree (s : State) (mask slot : Nat) : Bool := [0, 1, 2, 3].all fun f => !bit mask f || boundCtx s f slot == 0
/-- A backfill lies within one join, or one facet not joined (R31). -/
def inOneJoin (s : State) (mask : Nat) : Bool :=
  let j := joinMask s (lowestFacet mask)
  [0, 1, 2, 3].all fun f => !bit mask f || bit j f
/-- Every compute die's active half is valid and declares its facet's FRAME_CYCLES. -/
def halvesOk (s : State) (mask : Nat) : Bool :=
  (maskDies mask).all fun d =>
    let h := (getCd s d).active
    let k := headerCheck s d h
    (k == 0 || k == 5) && leNat (readBytes s (dmemBase d h) 2) == numGet s oFrameCycles (d / 8 + 1)

/-- May bind now (R327). -/
def mayBind (s : State) (x : Ctx) : Bool :=
  [0, 1, 2, 3].all (fun f => !bit x.mask f || ticking (getFacet s f)) && slotFree s x.mask x.slot &&
    (x.slot == 0 || inOneJoin s x.mask) && halvesOk s x.mask

/-- A die's resource counters at binding (R267). -/
def setShares (d slot : Nat) (s : State) : State :=
  let (lo, n) := if slot = 0 then (180, 3072) else (244, 1024)
  (List.range 12).foldl (fun s i => { s with arrs := tset 0 s.arrs (arrKey d (lo + i)) n }) s

/-- The streams of a slot start at the entries of the active half (R40, R61). -/
def startStreams (d slot : Nat) (s : State) : State :=
  let h := (getCd s d).active
  (List.range 8).foldl (fun s e =>
    setStream d e slot { getStream s d e slot with window := [], fetch := entryOf s d h e slot } s) s

/-- The join that a binding forms: its facets with the joins they are in. -/
def formJoin (mask : Nat) (s : State) : State :=
  if !multi mask then s
  else
    let j := [0, 1, 2, 3].foldl (fun m f => if bit mask f then orMask m (getFacet s f).join else m) mask
    [0, 1, 2, 3].foldl (fun s f => if bit j f && (getFacet s f).join != j then setJoin f j s else s) s

/-- The binding succeeds. -/
def bindCtx (c stamp : Nat) (s : State) : State :=
  let x := getCtx s c
  let fc := numGet s oFrameCycles (lowestFacet x.mask + 1)
  let s := updCtx c (fun x => { x with frames := 0, retired := 0, faults := 0, ring := [], injected := false, bindWall := stamp,
                                       fcDecl := fc, pubFrames := 0, pubRetired := 0 }) s
  let s := (maskDies x.mask).foldl (fun s d => startStreams d x.slot (setShares d x.slot s)) s
  let s := if x.slot = 0 then
      let s := (maskDies x.mask).foldl (fun s d => { s with idle := tset [] s.idle d (tget [] x.maps d) }) s
      [0, 1, 2, 3].foldl (fun s f => if bit x.mask f then updFacet f (fun y => { y with primF := 0 }) s else s) s
    else s
  formJoin x.mask (ctxTo c 3 s)

/-- The binding is refused: back to LOADED. -/
def refuseBind (c : Nat) (s : State) : State :=
  ctxTo c 1 (updCtx c (fun x => { x with mask := 0, slot := 0, maps := [] }) s)

/-- A context due on facets that stand at a tick: it waits while another ticking facet of its mask does not stand there,
or while a woken domain is being zeroed (R435). -/
def tryBind (c stamp : Nat) (s : State) : State :=
  let x := getCtx s c
  let away := [0, 1, 2, 3].any fun f => bit x.mask f && ticking (getFacet s f) && (getFacet s f).atTick.isNone
  let waking := (maskDies x.mask).any fun d => (getCd s d).spSingle == 1 || (getCd s d).spDual == 1
  if away || waking then s else if mayBind s x then bindCtx c stamp s else refuseBind c s

/-- A join without a context that spans it any more is released (R30). -/
def endJoin (f : Nat) (s : State) : State :=
  let j := (getFacet s f).join
  if j = 0 ∨ s.ctxs.any (fun e => multi e.2.mask && boundIn e.2 j) then s else releaseJoin j s

/-- Step 6 for the facets that tick together: joins end, contexts whose CTX_BIND was accepted before the tick's stamp are
bound or refused, joins are formed, and a facet with a context is ACTIVE (R20, R24, R26).
DEDUCED (log 14), safe. -/
def bindStep (fs : List Nat) (stamp : Nat) (s : State) : State :=
  let s := fs.foldl (fun s f => endJoin f s) s
  let due := (s.ctxs.filter fun e => e.2.state == 2 && fs.any (bit e.2.mask ·) && decide (e.2.bindAt < stamp)).map (·.1)
  fs.foldl (fun s g => readyOrActive g s) (due.foldl (fun s c => tryBind c stamp s) s)

/-! ## Progress and scratchpad power -/

/-- Contexts bound whose lowest facet this is. -/
def leadCtxs (f : Nat) (s : State) : List Nat :=
  (s.ctxs.filter fun e => boundIn e.2 15 && lowestFacet e.2.mask == f).map (·.1)
/-- A frame closed while such a context was ACTIVE or FAULTED.
DEDUCED (log 18), unsafe. -/
def countFrame (f : Nat) (s : State) : State :=
  (leadCtxs f s).foldl (fun s c => updCtx c (fun x =>
    if x.state = 3 ∨ x.state = 4 then { x with frames := x.frames + 1 } else x) s) s
/-- Their counters are published (R344): also at the tick that binds them.
DEDUCED (log 18), unsafe. -/
def publish (f stamp : Nat) (s : State) : State :=
  (leadCtxs f s).foldl (fun s c => updCtx c (fun x =>
    { x with pubWall := stamp, pubFrames := x.frames, pubRetired := x.retired, pubLate := x.late,
             snapshot := (x.snapshot + 2) % 2 ^ 32 }) s) s

/-- Some unit of a scratchpad domain is owned or zeroing. -/
def domainUsed (s : State) (d : Nat) (dual : Bool) : Bool :=
  s.owner.any fun e => decide (ownKey 0 d 0 ≤ e.1) && decide (e.1 < ownKey 0 d 32768) && slotDual (e.1 % 32768) == dual
/-- With *SP_IDLE_GATE* set, unused domains of a READY facet switch off (R435). -/
def gateDomains (f : Nat) (s : State) : State :=
  let wanted (d : Nat) : Bool := s.ctxs.any fun e => e.2.state == 2 && bit e.2.mask (d / 8)
  if numAt s f oSpIdleGate 0 = 1 ∧ (getFacet s f).state = 2 then
    (facetDies f).foldl (fun s d =>
      if wanted d then s
      else
        let s := if domainUsed s d false then s else updCd d (fun c => { c with spSingle := 0 }) s
        if domainUsed s d true then s else updCd d (fun c => { c with spDual := 0 }) s) s
  else s

/-! ## The tick -/

/-- Step 7: the new frame opens. -/
def openFrame (f t stamp n : Nat) (first : Bool) (s : State) : State :=
  let x := getFacet s f
  let x : FacetSt :=
    { x with frameNo := n, openT := t, openWall := stamp, cycBase := x.cycBase + x.cyc, cyc := 0,
             frameCycles := numGet s oFrameCycles (f + 1), skipped := 0, hold := 0, div1 := 0, div2 := 0, div4 := 0,
             minSkip := 0, fFirst := first, fCap := s.pw.supply == 1, fSwap := x.tickSwap, fOverrun := false, pat := 0,
             holding := false, due := none, refreshOpen := false, primF := x.primF + 1, atTick := none, tickSwap := false,
             rstStep := if x.rstStep = 3 then 0 else x.rstStep }
  setFacet s f (markLevel x)

/-- Steps 4 and 5, common to the first tick and the others; the facet then stands at its tick (R26).
DEDUCED (log 18), unsafe. -/
def tickSteps (f t stamp : Nat) (first : Bool) (m : TickMeasure) (s : State) : State :=
  let r := (facetDies f).foldl (fun r d =>
    let (s, b) := if first then (r.1, false) else swapTick d stamp r.1
    let s := updCd d (fun c => { c with acc := [], rowLog := [], cmdRun := [] }) s
    (s, r.2 || b)) (s, false)
  let s := tickApply f stamp r.1
  let s := if first then s else powerTick f m.power m.sumPower s
  let s := fallBand f (levelTick f s)
  let s := if first then s else countFrame f s
  updFacet f (fun x => { x with atTick := some t, tickSwap := r.2 }) s

/-- Step 7 of one facet, and what comes before its first working cycle (R316, R344, R435). -/
def openNext (f t stamp : Nat) (first : Bool) (s : State) : State :=
  let n := if first then 0 else ((getFacet s f).frameNo + 1) % 2 ^ 32
  gateDomains f (tickIncApply f stamp (publish f stamp (openFrame f t stamp n first s)))

/-- Steps 6 and 7 of the facets that tick together, once each has done steps 1 to 5 (R26, R30).
DEDUCED (log 13), safe. -/
def finishTick (f t stamp : Nat) (s : State) : State :=
  let fs := [0, 1, 2, 3].filter fun g => g == f || (tickGroup s f).contains g
  if fs.all (fun g => (getFacet s g).atTick.isSome) then
    fs.foldl (fun s g => openNext g t stamp false s) (bindStep fs stamp s)
  else s

/-- All dies of a facet are admitted and trained, and its own links are up (R20, R458).
DEDUCED (log 71), unsafe. -/
def facetReady (s : State) (f : Nat) : Bool :=
  (facetSites f).all (fun x => tget 0 s.admitted x == 1) &&
    (facetDies f).all (fun d => (getCd s d).near == 3 && (getFd s d).state == 3) &&
    (facetLinks f).all (fun n => linkFacets n != [f] || (getLink s n).state == 3 || (getLink s n).state == 4)

/-- The facet's first tick (R26); its optical links come up after it (R458). -/
def firstTick (f : Nat) (m : TickMeasure) (s : State) : State :=
  let t := s.time
  let stamp := tickStamp t
  let s := facetTo f 2 { s with time := 3 * stamp }
  let s := openNext f t stamp true (bindStep [f] stamp (tickSteps f t stamp true m s))
  lightFacet f (startupDone (setTemps m.temps { s with hub.firstTick := tset 0 s.hub.firstTick f stamp }))

/-- A tick that closes a frame.
DEDUCED (log 13), safe. -/
def closingTick (f : Nat) (m : TickMeasure) (s : State) : State :=
  let t := tickTime s f
  let stamp := tickStamp t
  let group := tickGroup s f
  let end_ := frameEnd (getFacet s f)
  let s := commitFacet f (toCycle f (getFacet s f).frameCycles s)
  let s := updFacet f (fun x => { x with hold := (t - end_ + 1) / 2 }) { s with time := max s.time (3 * stamp) }
  let s := group.foldl (fun s g => updFacet g (fun x => { x with due := some t }) s) s
  let s := writeRec f (commitFacet f (overrunFacet f stamp s))
  setTemps m.temps (finishTick f t stamp (tickSteps f t stamp false m s))

/-- Some facet that would tick with this one has its own tick before: it comes first (R24, R30). -/
def tickLater (s : State) (f : Nat) : Bool := (tickGroup s f).any fun g => !(tickGroup s g).contains f

/-- FRAME_TICK: a facet that stands at a common tick does not tick twice; where the facets it waited for are gone, its
frame opens now. After both hubs failed the facet goes OFF at its tick (R369). -/
def doFrameTick (f : Nat) (m : TickMeasure) (s : State) : State :=
  let x := getFacet s f
  if s.hub.bothFailed && ticking x then
    facetOff f true { s with time := max s.time (3 * tickStamp (tickTime s f)) }
  else if x.state = 1 then (if facetReady s f then firstTick f m s else s)
  else if !ticking x || tickLater s f then s
  else match x.atTick with
    | some t => finishTick f t (tickStamp t) s
    | none => closingTick f m s

/-- JOIN_HOLD (R30): the facet stands at the end of its frame, its engines idle. -/
def doJoinHold (f : Nat) (s : State) : State :=
  let x := getFacet s f
  if !ticking x || x.atTick.isSome || (tickGroup s f).isEmpty then s
  else updFacet f (fun x => { x with holding := true }) (toCycle f x.frameCycles s)

def execFrameTick (f : Facet) (m : TickMeasure) (s : State) : Out := .next (doFrameTick f m s)
def execJoinHold (f : Facet) (s : State) : Out := .next (doJoinHold f s)

end Sys2Proof.Machine
end

