-- ==== Sys2Proof/Machine/PkgLink.lean ====
section
/-! DEFINITION. Machine/PkgLink.lean: package links: flits, retry, credits (R186 to R194), training, failure and tests (R207
to R212). -/
namespace Sys2Proof.Machine
open Sys2Proof

/-! ## Flits (R186) -/

/-- The pool of a packet of a stream (R194): by class and scheduling, or the machine virtual channel, 2 × TC + sub-channel, of the
machine header behind the package header. -/
def streamPool (link : Nat) (b : List Byte) : Nat :=
  let p := readHeader b
  let m := (b.getD 17 0).toNat
  if prismLinks link && isMachineOp p.op then 2 * (m % 4) + m / 4 % 2 else pkgPool p

/-- The whole packets of a stream: the pool and credits of each, and what is left of a packet not yet whole. Padding ends the flit
(R188).
DESIGN CHOICE (log 49), unsafe. -/
def cutStream (link : Nat) : Nat → List Byte → List (Nat × Nat) × List Byte
  | 0, b => ([], b)
  | n + 1, b =>
    if b.length < 16 ∨ leNat (slice b 0 16) = 0 then ([], [])
    else
      let p := readHeader b
      if b.length < pkgBytes p then ([], b)
      else
        let (l, r) := cutStream link n (b.drop (pkgBytes p))
        ((streamPool link b, pkgCredits p) :: l, r)

/-- The transmitter of a direction sends a flit on the module whose turn it is. It never has more than 4,095 flits unacknowledged
(R189, R190). -/
def sendFlit (link : Nat) (d : Dir) (stream : List Byte) (s : State) : State :=
  let k := dirKey_ link d
  if 4095 ≤ (getDir s k).outstanding then s
  else
    let t := keepFlit k stream s
    match (getDir t k).unacked.getLast? with
    | some e => emit (.flit link (k % 2) (flitModule s link e.1) e.2) t
    | none => t

/-- The REPLAY that names the SEQ a direction's receiver expects, as a LINK_CTRL header (R196): a packet without payload that is
never forwarded and takes no credit.
DESIGN CHOICE (log 112), safe. -/
def replayHeader (link : Nat) (d : Dir) (q : Nat) : List Byte :=
  let k := dirKey_ link (back d)
  pkgHeader { dst := siteStrap (keyTo k), src := siteStrap (keyFrom k), op := 0x3F, pclass := 3, origin := 3, posted := true,
              addr := 0x1000 + q }

/-- The receiver discards: at its first discard it asks for the expected SEQ (R190). -/
def dropFlit (link : Nat) (d : Dir) (s : State) : State :=
  let me := dirKey_ link d
  let x := getDir s me
  if x.discarding then s
  else sendFlit link (back d) (replayHeader link d x.expSeq) (updDir me (fun x => { x with discarding := true, early := [] }) s)

/-- Every unacknowledged flit from a SEQ on, with its original contents. -/
def resend (link : Nat) (d : Dir) (q : Nat) (s : State) : State :=
  let x := getDir s (dirKey_ link d)
  let l := x.unacked.filter fun e => x.isOut q && decide ((q + 4096 - x.oldest) % 4096 ≤ (e.1 + 4096 - x.oldest) % 4096)
  let s := l.foldl (fun s e => emit (.flit link (dirKey_ link d % 2) (flitModule s link e.1) e.2) s) s
  bump oPkgLinkReplays (link + 1) 1 s

/-- A link enters RETRAIN (R192). -/
def retrain (link : Nat) (s : State) : State :=
  if (getLink s link).state ≠ 3 then s
  else
    let s := report (linkEnds link).1 0x0301 link 0 0 link (bump oPkgLinkRetrains (link + 1) 1 (linkTo link 4 s))
    let clear (x : LinkDir) : LinkDir := { x with resends := 0, timeouts := 0 }
    updDir (2 * link + 1) clear (updDir (2 * link) clear s)

/-- A cumulative acknowledgement applied to the direction it acknowledges (R191). -/
def takeAck (a : Nat) (x : LinkDir) : LinkDir :=
  if x.isOut a then
    let y := { x with oldest := (a + 1) % 4096, timeouts := 0 }
    { y with unacked := x.unacked.filter (fun e => y.isOut e.1), foreign := x.foreign.filter y.isOut, resends := if y.isOut x.resendSeq then x.resends else 0 }
  else x

/-- What the transmitter is known to have sent once a good flit of SEQ `q` came: that flit, and every one before it. It keeps the
flits of its own port with their contents; of others, those that the receiver did not see are free values.
DESIGN CHOICE (log 50), safe. -/
def noteSent (k q : Nat) (b : List Byte) (s : State) : State :=
  let x := getDir s k
  let gap := (q + 4096 - x.nextSeq) % 4096
  if x.isOut q then
    if x.foreign.contains q then updDir k (fun x => { x with unacked := x.unacked.map fun e => if e.1 = q then (q, b) else e }) s else s
  else if x.outstanding + gap < 4095 then
    let lost := (List.range gap).map fun i => ((x.nextSeq + i) % 4096, Config.lostFlit s.free i)
    updDir k (fun x => { x with nextSeq := (q + 1) % 4096, unacked := x.unacked ++ lost ++ [(q, b)],
                                foreign := x.foreign ++ lost.map (·.1) ++ [q] })
      { s with free := s.free + bnat (gap != 0) }
  else s

/-- The receiver accepts a flit in order: its credits come back to the other direction's transmitter, and its packets go to their
router, which returns theirs (R191, R193). Those of the model's own ports crossed before, and hold their credits where they
stand. -/
def acceptFlit (link : Nat) (d : Dir) (b : List Byte) (s : State) : State :=
  let me := dirKey_ link d
  let (all, rest) := cutStream link 17 ((getDir s me).stream ++ slice b 4 244)
  let pk := if (getDir s me).foreign.contains (getDir s me).expSeq then all else []
  let s := updDir me (fun x =>
    { x with expSeq := (x.expSeq + 1) % 4096, discarding := false, stream := rest,
             early := tdel x.early x.expSeq,
             credits := pk.foldl (fun t p => tset 0 t p.1 (tget 0 t p.1 + p.2)) x.credits,
             returns := pk.foldl (fun t p => tset 0 t p.1 (tget 0 t p.1 + p.2)) x.returns }) s
  updDir (dirKey_ link (back d)) (fun x =>
    { x with credits := tset 0 x.credits (flitPool b) (tget 0 x.credits (flitPool b) - flitCount b) }) s

/-- Flits that came before their turn follow. -/
def acceptEarlyN : Nat → Nat → Dir → State → State
  | 0, _, _, s => s
  | n + 1, link, d, s =>
    let x := getDir s (dirKey_ link d)
    match x.early.find? (fun e => e.1 == x.expSeq) with
    | some (_, b) => acceptEarlyN n link d (acceptFlit link d b s)
    | none => s

/-- FLIT_RECEIVE (R189 to R194). Consecutive flits come over the link's modules in rotation: one that is ahead by less than a
rotation waits for those before it, unless the receiver discards. What is accepted is acknowledged by an idle flit of the other direction, which has nothing
else to send.
DESIGN CHOICE (log 49), unsafe; DESIGN CHOICE (log 50), safe. -/
def doFlit (link : Nat) (d : Dir) (b : List Byte) (s : State) : State :=
  let me := dirKey_ link d
  if (getLink s link).state ≠ 3 then s
  else if !flitGood b then dropFlit link d s
  else
    let q := flitSeq b
    let s := noteSent me q b (updDir (dirKey_ link (back d)) (takeAck (flitAck b)) s)
    let ahead := (q + 4096 - (getDir s me).expSeq) % 4096
    let m := max 1 (getLink s link).modules
    if ahead = 0 then sendFlit link (back d) [] (acceptEarlyN m link d (acceptFlit link d b s))
    else if ahead < m ∧ !(getDir s me).discarding then updDir me (fun x => { x with early := tput x.early q b }) s
    else dropFlit link d s

/-- REPLAY: the transmitter of a direction resends from a SEQ; the eighth time from one SEQ retrains the link (R192). -/
def doReplay (link : Nat) (d : Dir) (q : Nat) (s : State) : State :=
  if (getLink s link).state ≠ 3 then s
  else
    let s := resend link d q s
    let s := updDir (dirKey_ link d) (fun x =>
      { x with resendSeq := q, resends := if x.resendSeq = q then x.resends + 1 else 1 }) s
    if 8 ≤ (getDir s (dirKey_ link d)).resends then retrain link s else s

/-- FLIT_REPLAY_TIMEOUT: 1 us without progress; the fourth in succession retrains the link. -/
def doFlitTimeout (link : Nat) (d : Dir) (s : State) : State :=
  let x := getDir s (dirKey_ link d)
  if x.outstanding = 0 ∨ (getLink s link).state ≠ 3 then s
  else
    let s := doReplay link d x.oldest s
    let s := updDir (dirKey_ link d) (fun x => { x with timeouts := x.timeouts + 1 }) s
    if 4 ≤ (getDir s (dirKey_ link d)).timeouts then retrain link s else s

/-! ## Training and failure (R207 to R211) -/

/-- What waits for links, for room or for the fabric moves on where it can: package packets, management messages, and machine packets
at prism dies and ports. -/
def settleNet (s : State) : State :=
  (List.range 24).foldl (fun s e => if (getOe s e).queue.isEmpty then s else runPort e s)
    ((List.range 8).foldl (fun s pd => flow pd s) (sendOutbox (moveNet s)))

/-- A link enters FAILED, and with it the facets of its ends; packets that still have to cross it are discarded as they come to it
(R209). -/
def failLink (link : Nat) (s : State) : State :=
  let s := report (linkEnds link).1 0x0302 link 0 0 link (linkTo link 5 s)
  let s := (linkFacets link).foldl (fun s f => failFacet f s) s
  settleNet s

/-- Site status of R15. -/
def setStatus (site st : Nat) (s : State) : State := { s with siteStatus := tset 0 s.siteStatus site st }

/-- LINK_SELF_TEST_DONE (R211): a port passes where the redundant lanes cover every failing one; a failing lane is marked for the
repair at training.
DEDUCED (log 88), safe. -/
def doSelfTest (link : Nat) (e : Dir) (failing redundant : Nat) (s : State) : State :=
  if (getLink s link).state ≠ 1 then s
  else if redundant < failing then
    failLink link (setStatus (if e = .fwd then (linkEnds link).1 else (linkEnds link).2) 5 s)
  else
    updLink link (fun l =>
      let l := if e = .fwd then { l with passFwd := true } else { l with passRev := true }
      { l with marked := l.marked + failing, state := if l.passFwd && l.passRev then 2 else 1 }) s

/-- PKG_LINK_TRAINED: every module trained, and each transmitter holds every pool whole (R193); fewer modules are a lane beyond
repair, and the link fails, as it does where the 4 ms of R208 are over (R25, R207).
DEDUCED (log 70), unsafe. -/
def doTrained (link modules repairs : Nat) (s : State) : State :=
  if (getLink s link).state ≠ 2 then s
  else if modules ≠ linkModules link ∨ (getLink s link).since + 4000000 ≤ wall s then failLink link s
  else
    let s := updLink link (fun l => { l with modules := modules, repairs := repairs, failedRetrains := 0 }) (linkTo link 3 s)
    let s := updDir (2 * link + 1) LinkDir.fresh (updDir (2 * link) LinkDir.fresh s)
    settleNet (if repairs = 0 then s else report (linkEnds link).1 0x0304 link 0 0 (link + repairs * 256) s)

/-- A retraining failed: the third in succession fails the link. -/
def retrainFailed (link : Nat) (s : State) : State :=
  let n := (getLink s link).failedRetrains + 1
  let s := updLink link (fun l => { l with failedRetrains := n, since := wall s }) s
  if 3 ≤ n then failLink link s else s

/-- PKG_LINK_RETRAIN_DONE; one that comes when the 10 us of R208 are over is late (R25). -/
def doRetrainDone (link : Nat) (ok : Bool) (s : State) : State :=
  if (getLink s link).state ≠ 4 then s
  else if ok && decide (wall s < (getLink s link).since + 10000) then
    let s := updLink link (fun l => { l with failedRetrains := 0 }) (linkTo link 3 s)
    settleNet ([Dir.fwd, Dir.rev].foldl (fun s d =>
      let x := getDir s (dirKey_ link d)
      if x.outstanding = 0 then s else resend link d x.oldest s) s)
  else retrainFailed link s

/-- The bounds of R208: 4 ms from the start of TEST, 10 us from entry to RETRAIN. -/
def doTrainingBound (link : Nat) (s : State) : State :=
  let l := getLink s link
  if l.state = 1 ∨ l.state = 2 then failLink link (advanceTo (l.since + 4000000) s)
  else if l.state = 4 then retrainFailed link (advanceTo (l.since + 10000) s)
  else s

/-- A link test is refused unless the facet of every end is OFF, RESETTING or FAILED (R212). -/
def linkTestRefused (s : State) (link : Nat) : Bool := (linkFacets link).any fun f => ticking (getFacet s f)
/-- A link test starts.
DEDUCED (log 70), unsafe. -/
def startLinkTest (link : Nat) (s : State) : State :=
  updLink link (fun l => { l with passFwd := false, passRev := false, marked := 0 }) (linkTo link 1 s)

def execFlitReceive (link : LinkNo) (dir : Dir) (flit : List Byte) (s : State) : Out := .next (doFlit link dir flit s)
def execReplay (link : LinkNo) (dir : Dir) (seq : Nat) (s : State) : Out := .next (doReplay link dir seq s)
def execFlitReplayTimeout (link : LinkNo) (dir : Dir) (s : State) : Out := .next (doFlitTimeout link dir s)
def execLinkSelfTestDone (link : LinkNo) (end_ : Dir) (failingLanes redundant : Nat) (s : State) : Out :=
  .next (doSelfTest link end_ failingLanes redundant s)
def execPkgLinkTrained (link : LinkNo) (modules repairs : Nat) (s : State) : Out := .next (doTrained link modules repairs s)
def execPkgLinkRetrainDone (link : LinkNo) (ok : Bool) (s : State) : Out := .next (doRetrainDone link ok s)
def execPkgLinkTrainingBoundExceeded (link : LinkNo) (s : State) : Out := .next (doTrainingBound link s)

end Sys2Proof.Machine
end

