-- ==== Sys2Proof/Machine/MemTiers.lean ====
section
/-! DEFINITION. Machine/MemTiers.lean: the near and far stacks by themselves: training and zeroing (R141, R143, R175, R177),
refresh (R136 to R140, R142), far priority windows (R168), lane margins (R176), error write-back and scrub (R115, R131,
R179), eviction from the update buffers (R174). -/
namespace Sys2Proof.Machine
open Sys2Proof

/-! ## Training and zeroing -/

/-- Failing lanes of a group.
DEDUCED (log 80), unsafe. -/
def lanesOf (size g : Nat) (l : List Nat) : List Nat := (l.filter fun n => n / size == g).eraseDups
/-- Groups with a failing lane. -/
def lameGroups (size n : Nat) (l : List Nat) : List Nat := (List.range n).filter fun g => !(lanesOf size g l).isEmpty
/-- Groups with two failing lanes or more. -/
def badGroups (size n : Nat) (l : List Nat) : List Nat := (List.range n).filter fun g => decide (2 ≤ (lanesOf size g l).length)
def bitsOf (l : List Nat) : Nat := l.foldl (fun m g => setBit m g) 0

/-- A stack's training fails: logged with channel and lane group, and the facet fails (R20).
DEDUCED (log 80), unsafe. -/
def failTraining (site perChannel : Nat) (bad : List Nat) (s : State) : State :=
  let s := bad.foldl (fun s g => report site 0x0209 0 0 0 (g / perChannel + 256 * g) s) s
  failFacet ((siteFacet site).getD 0) s
/-- Lanes replaced at training go into the log (R161, R182).
DEDUCED (log 80), unsafe. -/
def logSpares (site : Nat) (l : List Nat) (s : State) : State :=
  l.foldl (fun s g => report site 0x0203 (if site < 32 then g / 32 else 0) 0 0 g s) s

def doNearTrained (d : Nat) (lanes : List Nat) (s : State) : State :=
  if (getCd s d).near ≠ 1 then s
  else
    let bad := badGroups 18 256 lanes
    let lame := lameGroups 18 256 lanes
    if bad.isEmpty then logSpares d lame (updCd d (fun c => { c with near := 2, spareMap := bitsOf lame }) s)
    else failTraining d 32 bad (updCd d (fun c => { c with near := 4 }) s)

def doNearZeroed (d : Nat) (s : State) : State :=
  if (getCd s d).near ≠ 2 then s
  else
    let t := 8 * s.time
    updCd d (fun c => { c with near := 3, debt := 0, debtAt := t, band := nearBand (tget 0 s.pw.temp d) }) s

/-- A group's spare replaces its failing lane, or where none fails a lane found below margin before (R175, R176). -/
def doFarTrained (k : Nat) (lanes : List Nat) (s : State) : State :=
  if (getFd s k).state ≠ 1 then s
  else
    let bad := badGroups 36 32 lanes
    let lame := lameGroups 36 32 (lanes ++ (List.range 1152).filter (bit (getFd s k).marginal ·))
    if bad.isEmpty then
      logSpares (32 + k) lame (updFd k (fun c => { c with state := 2, spareMap := bitsOf lame, marginal := 0 }) s)
    else failTraining (32 + k) 2 bad (updFd k (fun c => { c with state := 4 }) s)

/-- A priority window starts with the objects' values (R168, R169). Where the window before it reached its allowance, the class-0
reads that still wait were demoted in it, and stay so until served. -/
def openWindow (k t : Nat) (s : State) : State :=
  let len := numGet s oFarPrioWindow (k + 1)
  let share := numGet s oFarC0Share (k + 1)
  let weights := numGet s oFarClassWeights (k + 1)
  let reads := (farWaiting s k).filter fun p => p.op == 1 && p.rdClass == 0
  updFd k (fun x =>
    let spent := decide (allowance x ≤ x.c0Served)
    { x with winStart := t, winLen := len, winShare := share, weights := weights, c0Served := 0,
             demoted := (reads.filter fun p => spent || x.demoted.contains (p.src, p.tag)).map fun p => (p.src, p.tag) }) s

def doFarZeroed (k : Nat) (s : State) : State :=
  if (getFd s k).state ≠ 2 then s
  else
    let b := farBand (tget 0 s.pw.temp (32 + k))
    let now := wall s
    openWindow k now (updFd k (fun c => { c with state := 3, band := b, scrubAt := now }) s)

def doFarWindow (k : Nat) (s : State) : State :=
  let x := getFd s k
  if x.state ≠ 3 then s else openWindow k (x.winStart + x.winLen) (advanceTo (x.winStart + x.winLen) s)

/-! ## Refresh -/

/-- The spare that the last window found due comes into use (R142). -/
def takeSpare (d : Nat) (s : State) : State :=
  match (getCd s d).recheckPend with
  | none => s
  | some g => report d 0x0203 (g / 32) 0 0 g (updCd d (fun c => { c with spareMap := setBit c.spareMap g, recheckPend := none }) s)

/-- A window's recheck of one lane group: the first lane below margin takes a free spare at the next window; any other
is logged (R142). -/
def recheck (d : Nat) (lanes : List Nat) (s : State) : State :=
  let c := getCd s d
  let g := c.recheckGroup
  let low := lanesOf 18 g lanes
  let free := !bit c.spareMap g
  let rest := if free then low.drop 1 else low
  let s := updCd d (fun c => { c with recheckGroup := (g + 1) % 256,
                                      recheckPend := if free && !low.isEmpty then some g else none }) s
  rest.foldl (fun s n => report d 0x0204 (g / 32) 0 0 n s) (sendWord d { cmd := 0xF, mask := 2 ^ (g / 32) } s)

/-- REFRESH_WINDOW_START; `marginal`: die and lane of every lane found below margin. -/
def doRefreshWindow (f : Nat) (marginal : List (Nat × Nat)) (s : State) : State :=
  let x := getFacet s f
  if !ticking x || x.refreshOpen then s
  else
    let s := toCycle f (x.frameCycles - refreshCycles x.frameCycles) s
    let s := updFacet f (fun x => { x with refreshOpen := true }) s
    (facetDies f).foldl (fun s d =>
      if (getCd s d).near ≠ 3 then s
      else
        let s := takeSpare d s
        if numGet s oNearRecheck (d + 1) = 1 then recheck d ((marginal.filter fun m => m.1 == d).map (·.2)) s else s) s

/-- The interval of a band, in 1/24 ns (R138). -/
def debtInterval (band : Nat) : Nat := if band = 0 then 187500 else if band = 1 then 93750 else 46875

/-- REFRESH_DEBT_ACCRUE: one row group per interval of the band in force; a debt that comes to exceed 4 is late (R138).
DEDUCED (log 81), unsafe. -/
def doDebt (d : Nat) (s : State) : State :=
  let c := getCd s d
  if c.near ≠ 3 then s
  else
    let t := c.debtAt + debtInterval c.band
    let s := updCd d (fun c => { c with debt := c.debt + 1, debtAt := t }) { s with time := max s.time (ceilDiv t 8) }
    if (getCd s d).debt = 5 then bump oNearRefreshLate (d + 1) 1 (report d 0x0205 0 0 0 5 s) else s

/-- Working cycles left in a facet's frame. -/
def cyclesLeft (x : FacetSt) : Nat := x.frameCycles - x.cyc
/-- A row group may start: in the window with 150 cycles left, or in a hold while every other member of the join has 150
cycles left (R138, R140). -/
def mayRefresh (s : State) (d : Nat) : Bool :=
  let f := d / 8
  let x := getFacet s f
  (getCd s d).near == 3 && decide (-8 < (getCd s d).debt) &&
    ((x.refreshOpen && decide (150 ≤ cyclesLeft x)) ||
      (x.holding && (tickGroup s f).all fun g => decide (150 ≤ cyclesLeft (getFacet s g))))

/-- ROW_GROUP_REFRESH: the group before it has ended; it takes 100 ns.
DEDUCED (log 81), unsafe. -/
def doRowGroup (d : Nat) (s0 : State) : State :=
  let s : State := { s0 with time := max s0.time (getCd s0 d).refreshEnd }
  let s := (d / 8 :: tickGroup s (d / 8)).foldl (fun s f => syncFacet f s) s
  if mayRefresh s d then
    let t := s.time
    sendWord d { cmd := 0xE, mask := 0xFF } (updCd d (fun c => { c with debt := c.debt - 1, refreshEnd := t + 300 }) s)
  else s0

/-! ## Far margins, errors, update buffers -/

/-- FAR_LANE_MARGIN_CHECK: the channel's two lane groups in rotation; a lane found below margin is recorded and logged (R176).
DEDUCED (log 80), unsafe. -/
def doMargin (k ch : Nat) (below : List Nat) (s : State) : State :=
  let x := getFd s k
  if x.state ≠ 3 then s
  else
    let g := 2 * ch + tget 0 x.marginGroup ch
    let seen := slice (blobGet s oFarLanesMarginal (k + 1)) 0 144
    let low := lanesOf 36 g below
    let map := (List.range 144).map fun i =>
      byte (low.foldl (fun m n => if n / 8 = i then setBit m (n % 8) else m) (seen.getD i 0).toNat)
    let s := updFd k (fun x =>
      { x with marginGroup := tset 0 x.marginGroup ch (1 - tget 0 x.marginGroup ch), marginal := low.foldl setBit x.marginal }) s
    if low.isEmpty then s
    else low.foldl (fun s n => report (32 + k) 0x0204 0 0 0 n s) (blobSet oFarLanesMarginal (k + 1) map s)

/-- ECC_WRITEBACK: the word with the corrected single-bit error is written back.
DESIGN CHOICE (log 82), unsafe. -/
def doWriteback (a : Nat) (s : State) : State :=
  if tget 0 s.ecc (a / 8) = 1 then { s with ecc := tdel s.ecc (a / 8) } else s

/-- UPDATE_BUFFER_EVICT: 1 us after the line's last update it is written back. -/
def doEvict (line : Nat) (s : State) : State :=
  let t := tget 0 s.ubuf line
  if t = 0 then s else advanceTo (t - 1 + 1000) { s with ubuf := tdel s.ubuf line }

/-- Error marks of a far die. -/
def farMarks (s : State) (k : Nat) : Tab Nat := s.ecc.filter fun e => decide (farBase k / 8 ≤ e.1) && decide (e.1 < farBase (k + 1) / 8)
/-- FAR_SCRUB: once per *FAR_SCRUB_PERIOD* hours every word is read as class 3; single-bit errors are corrected, double-bit ones
logged (R179).
DEDUCED (log 81), unsafe; DESIGN CHOICE (log 82), unsafe. -/
def doScrub (k : Nat) (s : State) : State :=
  if (getFd s k).state ≠ 3 then s
  else
    let s := advanceTo ((getFd s k).scrubAt + numGet s oFarScrubPeriod (k + 1) * 3600000000000) s
    let now := wall s
    let s := updFd k (fun x => { x with scrubAt := now }) s
    let l := farMarks s k
    let soft := l.filter (·.2 == 1)
    let s := farClass k 3 (farSize / 256) s
    let s := if soft.isEmpty then s else bump oFarCorrected (k + 1) soft.length s
    let s : State := { s with ecc := soft.foldl (fun t e => tdel t e.1) s.ecc }
    (l.filter fun e => decide (2 ≤ e.2)).foldl (fun s e => report (32 + k) 0x0202 0 0 0 (8 * e.1) s) s

def execNearTrainingDone (die : Die) (failingLanes : List Nat) (s : State) : Out := .next (doNearTrained die failingLanes s)
def execNearZeroingDone (die : Die) (s : State) : Out := .next (doNearZeroed die s)
def execFarTrainingDone (fd : Die) (failingLanes : List Nat) (s : State) : Out := .next (doFarTrained fd failingLanes s)
def execFarZeroingDone (fd : Die) (s : State) : Out := .next (doFarZeroed fd s)
def execEccWriteback (addr : Nat) (s : State) : Out := .next (doWriteback addr s)
def execRefreshWindowStart (f : Facet) (marginal : List (Nat × Nat)) (s : State) : Out := .next (doRefreshWindow f marginal s)
def execRefreshDebtAccrue (die : Die) (s : State) : Out := .next (doDebt die s)
def execRowGroupRefresh (die : Die) (s : State) : Out := .next (doRowGroup die s)
def execFarPriorityWindow (fd : Die) (s : State) : Out := .next (doFarWindow fd s)
def execFarLaneMarginCheck (fd : Die) (channel : Fin 16) (below : List Nat) (s : State) : Out :=
  .next (doMargin fd channel below s)
def execUpdateBufferEvict (line : Nat) (s : State) : Out := .next (doEvict line s)
def execFarScrub (fd : Die) (s : State) : Out := .next (doScrub fd s)

end Sys2Proof.Machine
end

