-- ==== Sys2Proof/Machine/PkgPacket.lean ====
section
/-! DEFINITION. Machine/PkgPacket.lean: package packets as they arrive (R196): requests at their home, responses at their
requester by what they belong to, host and management packets, reserved operations. -/
namespace Sys2Proof.Machine
open Sys2Proof

/-! ## Responses (R197) -/

/-- An answered chunk of a descriptor goes on with the data that came, in iteration order (R126). -/
def engData (die engine : Nat) (x : InFlight) (t : Txn) (data : List Byte) (now : Nat) (s : State) : Run :=
  let d := x.desc
  let r : Run := { s := s, rank := portRank engine, uid := x.uid }
  if t.req = 1 then
    giveData (if d.opcode = 0x90 ∨ d.opcode = 0x91 ∨ d.opcode = 0x94 then remoteDo die engine x
              else chunkDo die engine x) die engine x.uid t.it now data r
  else
    let r := if d.opcode = 0x82 ∧ !data.isEmpty then takeOld die engine x t.it now data r else r
    if d.opcode ≤ 0x82 then resumePuts die engine x now r else r

/-- A response for a descriptor in flight: one that comes after its budget finds its stream halted (R63), a non-zero
STATUS halts it (R197).
DEDUCED (log 72), unsafe. -/
def engAnswer (die engine uid : Nat) (t : Txn) (p : Pkg) (s : State) : State :=
  match findFly s die engine uid with
  | none => s
  | some x =>
    let now := absCycle s (die / 8)
    if x.deadline < now then haltFly die engine x 0x40 x.deadline 0 0 s
    else if p.status ≠ 0 then
      let why := statusReason p.status x.desc.collHalt
      if why = 0 then oneLess die engine uid s else haltFly die engine x why now (gAddr s t.reqAddr) p.status s
    else
      let r := engData die engine x t (slice p.data 0 (if p.op = 0x11 then 0 else p.data.length)) now s
      if r.why ≠ 0 then haltFly die engine x r.why r.cyc (gAddr r.s (offset r.addr)) r.status r.s
      else updFly die engine uid (fun y => { y with finish := max y.finish (now + r.shift) }) (oneLess die engine uid r.s)

/-- What a response would write on the requester's die is held (R114, R137, R143). -/
def answerHeld (s : State) (p : Pkg) : Bool :=
  match s.txns.find? (fun t => t.src == p.dst && t.tag == p.tag) with
  | some t =>
    (match t.owner with
     | .eng die engine uid =>
       (match findFly s die engine uid with
        | some x =>
          p.status == 0 && [x.desc.d, x.desc.b].any fun o =>
            o.en && ownDie die (x.desc.lowOff o) && !memReady s (x.desc.lowOff o)
        | none => false)
     | _ => false)
  | none => false

/-- A response reaches its requester. -/
def respond (p : Pkg) (s : State) : State :=
  match takeTxn p s with
  | (none, s) => s
  | (some t, s) =>
    match t.owner with
    | .eng die engine uid => sendAsks die engine (engAnswer die engine uid t p s)
    | .term id => termAnswer id t p s
    | .land die tag =>
      (match findMTxn s die tag with
       | some m => if p.status = 0 then landDone m s else landFail m p.status (gAddr s t.reqAddr) s
       | none => s)
    | .coll pd ctx coll => collAnswer pd ctx coll t p s
    | .xch h => xchAnswer h t p s
    | .host hd tag => emit (.hostCpl hd tag (if p.status = 0 then 0 else 2) (if p.status = 0 then slice p.data 0 t.len else [])) s
    | .hub => s

def doResponse (p : Pkg) (s : State) : State :=
  match takePkt p s with
  | none => turnAway p s
  | some s1 => if answerHeld s p then s else respond p s1

/-! ## Host packets (R355, R356) -/

/-- The host die and its request's tag behind a HOST packet. -/
def hostTag (s : State) (p : Pkg) : Nat × Nat :=
  match txnOf s p with
  | some { owner := .host hd tag, .. } => (hd, tag)
  | _ => (p.src % 2, p.tag)

/-- A write of DMEM_CTRL by the host path (R46, R66, R67). -/
def hostCtrl (hd die v tag : Nat) (s : State) : State :=
  if bit v 2 then doSwapRequest hd die tag s
  else if bit v 3 then doSwapCancel hd die tag s
  else hostAnswer hd die tag 0 s

/-- A host access at its die: a read is answered; a write to descriptor memory or DMEM_CTRL completes as the die decides. -/
def hostHere (p : Pkg) (s : State) : State :=
  let (hd, tag) := hostTag s p
  match region p.addr with
  | .dmem _ _ _ => if p.data.isEmpty then reply p 1 [] s else hostDmem hd p.addr p.data tag s
  | .ctrl c o =>
    if p.data.isEmpty then reply p 0 (ctrlRead s c o (32 * p.len)) s
    else if o = 0x2000 then hostCtrl hd c (leNat (slice p.data 0 4)) tag s
    else reply p 1 [] s
  | _ => reply p 1 [] s

def doHost (p : Pkg) (s : State) : State :=
  match takePkt p s with
  | none => turnAway p s
  | some s => if p.pclass = 1 then respond p s else hostHere p s

/-- MGMT: hub state copies reach a hub that holds the same state (R368). -/
def doMgmtPkg (p : Pkg) (s : State) : State := if isAdmitted s (strapSite p.dst) then arrive p s else turnAway p s

/-- Operations of R196. -/
def knownPop (op : Nat) : Bool :=
  op == 1 || op == 2 || op == 4 || op == 5 || (0x08 ≤ op && op ≤ 0x0C) || (0x10 ≤ op && op ≤ 0x12) ||
    (0x20 ≤ op && op ≤ 0x31) || op == 0x3F
/-- PKG_RESERVED_OP: the router discards the packet and logs it. -/
def doReservedPop (router : Nat) (p : Pkg) (s : State) : State :=
  if knownPop p.op then s else report router 0x0303 0 p.ctx p.gen (p.op + p.dst * 256) (arrive p s)

def execRd (p : Pkg) (s : State) : Out := .next (doRd { p with op := 1 } s)
def execWr (p : Pkg) (_ : Bool) (s : State) : Out := .next (doWr { p with op := 2 } s)
def execSigAdd (p : Pkg) (s : State) : Out := .next (doSig false { p with op := 4 } s)
def execSigSet (p : Pkg) (s : State) : Out := .next (doSig true { p with op := 5 } s)
def execAtAdd (p : Pkg) (s : State) : Out := .next (doAtomic 0 { p with op := 0x08 } s)
def execAtMin (p : Pkg) (s : State) : Out := .next (doAtomic 1 { p with op := 0x09 } s)
def execAtMax (p : Pkg) (s : State) : Out := .next (doAtomic 2 { p with op := 0x0A } s)
def execAtSwap (p : Pkg) (s : State) : Out := .next (doAtomic 3 { p with op := 0x0B } s)
def execAtCas (p : Pkg) (s : State) : Out := .next (doAtomic 4 { p with op := 0x0C } s)
def execRdRsp (p : Pkg) (s : State) : Out := .next (doResponse { p with op := 0x10 } s)
def execWrAck (p : Pkg) (s : State) : Out := .next (doResponse { p with op := 0x11 } s)
def execAtRsp (p : Pkg) (s : State) : Out := .next (doResponse { p with op := 0x12 } s)
def execArrAdd (p : Pkg) (s : State) : Out := .next (doArrAdd { p with op := 0x2F } s)
def execHost (p : Pkg) (s : State) : Out := .next (doHost { p with op := 0x30 } s)
def execMgmt (p : Pkg) (s : State) : Out := .next (doMgmtPkg { p with op := 0x31 } s)
def execPkgReservedOp (router : SiteNo) (p : Pkg) (s : State) : Out := .next (doReservedPop router p s)

end Sys2Proof.Machine
end

