-- ==== Sys2Proof/Machine/ErrLog.lean ====
section
/-! DEFINITION. Machine/ErrLog.lean: the error log (R347 to R349): deliveries from the dies' outboxes, matching and opening of
entries at the hub, their closing, and the poll of drop counts. -/
namespace Sys2Proof.Machine
open Sys2Proof

/-- The 24 bytes of a report and the 64 bytes of an entry (R347, R348). -/
def Report.bytes (r : Report) : List Byte :=
  leBytes 8 r.wall ++ leBytes 2 r.event ++ [byte r.site, byte r.unit, byte r.ctx, byte r.gen] ++ leBytes 2 r.dropped ++
    leBytes 8 r.detail
def LogEntry.bytes (e : LogEntry) : List Byte :=
  leBytes 8 e.seq ++ e.first.bytes ++ e.last.bytes ++ leBytes 4 e.count ++ leBytes 4 (bnat e.isOpen)

/-- A report matches an open entry (R348). -/
def LogEntry.takes (e : LogEntry) (r : Report) : Bool :=
  e.first.event == r.event && e.first.site == r.site && e.first.unit == r.unit && e.first.ctx == r.ctx &&
    e.first.gen == r.gen && decide (e.first.wall ≤ r.wall) && decide (r.wall < e.first.wall + 1000000)

/-- A new entry: its SEQ, its place in the ring, and the loss of an unread entry there (R349); vector 4 fires. -/
def openEntry (r : Report) (s : State) : State :=
  let q := s.elog.head + 1
  let k := q % 4096
  let old := tget {} s.elog.ring k
  let lost := old.seq != 0 && tget 0 s.elog.readMark k == 0
  let e : LogEntry := { seq := q, first := r, last := r, count := 1, isOpen := true }
  msix 4 { s with elog.head := q, elog.open_ := s.elog.open_ ++ [e], elog.ring := tset {} s.elog.ring k e,
                  elog.readMark := tdel s.elog.readMark k,
                  elog.overwritten := if lost then (s.elog.overwritten + 1) % 2 ^ 64 else s.elog.overwritten }

/-- A report at the hub: matched, opened, or kept waiting. -/
def takeReport (r : Report) (s : State) : State :=
  match s.elog.open_.find? (·.takes r) with
  | some e =>
    { s with elog.open_ := s.elog.open_.map fun x =>
        if x.seq = e.seq then { x with last := r, count := (x.count + 1) % 2 ^ 32 } else x }
  | none => if s.elog.open_.length < 64 then openEntry r s else { s with elog.waiting := s.elog.waiting ++ [r] }

/-- Reports a die may deliver now: 8 in each microsecond from one die, 64 from all. -/
def deliverable (s : State) (site n : Nat) : Nat :=
  let w := wall s / 1000
  let sent := if tget 0 s.elog.dieWin site = w + 1 then tget 0 s.elog.dieSent site else 0
  let taken := if s.elog.hubWin = w + 1 then s.elog.hubTaken else 0
  min (min n (8 - sent)) (min (64 - taken) (tget [] s.elog.outbox site).length)

/-- LOG_DELIVERY: the first report delivered after drops carries their number in DROPPED. -/
def doDelivery (site n : Nat) (s : State) : State :=
  let k := deliverable s site n
  if k = 0 ∨ !s.hub.on then s
  else
    let w := wall s / 1000
    let box := tget [] s.elog.outbox site
    let since := tget 0 s.elog.since site
    let sent := if tget 0 s.elog.dieWin site = w + 1 then tget 0 s.elog.dieSent site else 0
    let taken := if s.elog.hubWin = w + 1 then s.elog.hubTaken else 0
    let rs := match box.take k with | r :: t => { r with dropped := since } :: t | [] => []
    let s : State :=
      { s with elog.outbox := tset [] s.elog.outbox site (box.drop k), elog.since := tdel s.elog.since site,
               elog.dieWin := tset 0 s.elog.dieWin site (w + 1), elog.dieSent := tset 0 s.elog.dieSent site (sent + k),
               elog.hubWin := w + 1, elog.hubTaken := taken + k }
    rs.foldl (fun s r => takeReport r s) s

/-- LOG_ENTRY_CLOSE: 1 ms after its first report; the entry is rewritten unless a newer one holds its place, and waiting
reports find a free entry. -/
def doClose (q : Nat) (s : State) : State :=
  match s.elog.open_.find? (·.seq == q) with
  | none => s
  | some e =>
    let s := advanceTo (e.first.wall + 1000000) s
    let e := { e with isOpen := false }
    let ring := if (tget {} s.elog.ring (q % 4096)).seq = q then tset {} s.elog.ring (q % 4096) e else s.elog.ring
    let ws := s.elog.waiting
    let s : State := { s with elog.open_ := s.elog.open_.filter (·.seq != q), elog.ring := ring, elog.waiting := [] }
    ws.foldl (fun s r => takeReport r s) s

/-- LOG_DROP_POLL, 1 ms after the one before: each die's new drops join *LOG_OVERFLOW*. -/
def doDropPoll (s : State) : State :=
  let s := advanceTo (s.elog.pollAt + 1000000) s
  let s : State := { s with elog.pollAt := wall s }
  let n := (List.range 100).foldl (fun n k => n + (tget 0 s.elog.drops k - tget 0 s.elog.dropsRead k)) 0
  { s with elog.overflow := (s.elog.overflow + n) % 2 ^ 64, elog.dropsRead := s.elog.drops }

/-- Marks what a read of *LOG_RING* returned whole as read (R349). -/
def markRead (off n : Nat) (s : State) : State :=
  let lo := (off + 63) / 64
  let hi := (off + n) / 64
  { s with elog.readMark := (List.range (hi - lo)).foldl (fun t i =>
      if (tget {} s.elog.ring (lo + i)).seq = 0 then t else tset 0 t (lo + i) 1) s.elog.readMark }

def execLogDelivery (site : SiteNo) (n : Nat) (s : State) : Out := .next (doDelivery site n s)
def execLogEntryClose (seq : Nat) (s : State) : Out := .next (doClose seq s)
def execLogDropPoll (s : State) : Out := .next (doDropPoll s)

end Sys2Proof.Machine
end

