-- ==== Sys2Proof/Machine/Attest.lean ====
section
/-! DEFINITION. Machine/Attest.lean: the persistent dictionary image in its stored form (R407), attestation reports and what
a device checks in a peer's (R377 to R379, R236, R385, R416). -/
namespace Sys2Proof.Machine
open Sys2Proof

/-! ## The persistent image (R407) -/

/-- Zero bytes up to a multiple of 8. -/
def pad8 (b : List Byte) : List Byte := b ++ List.replicate ((8 - b.length % 8) % 8) 0
def imageEntry (e : Nat × List Byte) : List Byte :=
  leBytes 2 (e.1 / 256) ++ [byte (e.1 % 256), byte (((findObj (e.1 / 256) (e.1 % 256)).map (·.type)).getD 0)] ++
    leBytes 4 e.2.length ++ pad8 e.2
/-- "ISKD", version, count, byte length, IMAGE_SEQ, 40 reserved bytes, then the entries in ascending order. -/
def imageBytes (seq : Nat) (t : Tab (List Byte)) : List Byte :=
  let body := t.flatMap imageEntry
  [0x49, 0x53, 0x4B, 0x44] ++ leBytes 4 1 ++ leBytes 4 t.length ++ leBytes 4 (64 + body.length) ++ leBytes 8 seq ++
    List.replicate 40 0 ++ body

/-- The copy in force: the one with the higher IMAGE_SEQ; an empty image where none was committed. -/
def liveImage (s : State) : Nat × Tab (List Byte) :=
  match s.flash.copyA, s.flash.copyB with
  | some a, some b => if a.1 ≤ b.1 then b else a
  | some a, none => a
  | none, some b => b
  | none, none => (0, [])
/-- A new image goes to the older copy. -/
def commitImage (seq : Nat) (t : Tab (List Byte)) (s : State) : State :=
  match s.flash.copyA, s.flash.copyB with
  | none, _ => { s with flash.copyA := some (seq, t) }
  | some _, none => { s with flash.copyB := some (seq, t) }
  | some a, some b =>
    if a.1 ≤ b.1 then { s with flash.copyA := some (seq, t) } else { s with flash.copyB := some (seq, t) }

/-! ## Reports -/

/-- Test access is live in BLANK and SERVICE (R386). -/
def testAccess (s : State) : Bool := lcState s == 0 || lcState s == 3
/-- Reports are refused (R379); and after a transition's wipe none can be signed until the ROM derives the identity key again (R371,
R375, R389).
DESIGN CHOICE (log 25), unsafe. -/
def noReports (s : State) : Bool :=
  lcState s == 0 || lcState s == 4 || s.hub.loader || s.sec.tamper != 0 || s.sec.idSeed.isEmpty

/-- HOST_MEASUREMENT's bytes: *HOST_IDENTITY* and *FW_TABLE* of HD0, then HD1. -/
def hostBytes (s : State) : List Byte :=
  [0, 1].flatMap fun h => slice (getHost s h).identity 0 8 ++ slice (blobGet s oFwTable (h + 1)) 0 1024

/-- A report of 512 bytes, signed by the identity key. -/
def makeReport (s : State) (purpose ctx gen : Nat) (nonce binding : List Byte) : List Byte :=
  let paired := s.twin.state == 2
  let body := leBytes 2 1 ++ leBytes 2 512 ++
    [byte (lcState s), byte (bnat s.hub.hb1Primary + 2 * bnat paired + 4 * bnat (s.sec.tamper != 0) + 8 * bnat (testAccess s))] ++
    leBytes 2 (nodeId s) ++ leBytes 8 (wall s) ++ leBytes 8 s.sec.boots ++ leBytes 4 s.sec.fwVersion ++
    leBytes 4 s.sec.svMin ++ slice (Config.ed25519Pub s.sec.idSeed) 0 32 ++ slice s.sec.fwMeasure 0 64 ++
    slice (Config.sha512 (imageBytes (liveImage s).1 (liveImage s).2)) 0 64 ++ slice (Config.sha512 (hostBytes s)) 0 64 ++
    leBytes 2 (if paired then s.twin.node else 0x8000) ++
    (if paired then slice (Config.sha512 s.twin.pub) 0 16 else List.replicate 16 0) ++ List.replicate 14 0 ++
    slice nonce 0 32 ++ slice binding 0 64 ++ [byte purpose, byte ctx, byte gen] ++ List.replicate 61 0
  body ++ slice (Config.ed25519Sign s.sec.idSeed body) 0 64

/-! ## A peer's report -/

def repLc (r : List Byte) : Nat := (r.getD 4 0).toNat
def repTamper (r : List Byte) : Bool := bit (r.getD 5 0).toNat 2
def repNode (r : List Byte) : Nat := leNat (slice r 6 2)
def repPub (r : List Byte) : List Byte := slice r 32 32
def repMeasure (r : List Byte) : List Byte := slice r 64 64
def repBinding (r : List Byte) : List Byte := slice r 320 64
def repPurpose (r : List Byte) : Nat := (r.getD 384 0).toNat
/-- Version and length, the certificate behind the identity key, and the signature. -/
def repOk (purpose : Nat) (r : List Byte) : Bool :=
  r.length == 512 && leNat (slice r 0 2) == 1 && leNat (slice r 2 2) == 512 && repPurpose r == purpose &&
    Config.endorsed (repPub r) && Config.ed25519Verify (repPub r) (r.take 448) (slice r 448 64)

end Sys2Proof.Machine
end

