-- ==== Sys2Proof/Machine/Lanes.lean ====
section
/-! DEFINITION. Machine/Lanes.lean: the optical link's states and what follows an entry to each (R253, R254), lanes on lines,
spares and withdrawn fibres (R243, R244, R247), ring heaters (R240, R241, R250). -/
namespace Sys2Proof.Machine
open Sys2Proof

/-! ## States (R253, R254) -/

/-- A line's entry of a map once no calibration runs. -/
def uncal (v : Nat) : Nat := if v = 0xFE + 1 then 0xFF + 1 else v
/-- Calibration stops with the link (R247): a lane on its spare goes back to its line, and no line is in calibration. -/
def OeSt.stopCal (o : OeSt) : OeSt :=
  let back (m : Tab Nat) (e : Nat × CalSt) : Tab Nat :=
    let c := e.2
    if !c.running || decide (8 ≤ e.1) || decide (18 ≤ c.line) then m
    else if 18 ≤ c.spare then putLine e.1 c.line 0xFF m
    else putLine e.1 c.line (onLine m e.1 c.spare) (putLine e.1 c.spare 0xFF m)
  { o with txMap := o.cal.foldl back o.txMap, rxMap := o.rxMap.map fun e => (e.1, uncal e.2), cal := [] }

/-- An engine's link state: outside ACTIVE no calibration runs (R247); laser inputs are read anew in LIGHT, an engine that is OFF
has no feeds that open fibre disabled (R225), and the time of R255 from an entry to RELOCK runs in ALIGN and KEY_AGREE too. -/
def oeTo (e st : Nat) (s : State) : State :=
  let now := wall s
  updOe e (fun o =>
    { (if st = 5 then o else o.stopCal) with
      state := st, since := now, liSeen := o.liSeen && st != 1, feedsOff := o.feedsOff && st != 0,
      relockAt := if st = 6 then some now else if st = 3 ∨ st = 4 then o.relockAt else none }) s
/-- An entry to ACTIVE or DOWN is journaled with the peer's node and engine (R259).
DEDUCED (log 60), unsafe. -/
def linkEntry (e : Nat) (s : State) : State :=
  let o := getOe s e
  journal 0 0x06 0 (jOther e) ([0, byte o.state] ++ leBytes 2 o.peerNode ++ [byte o.peerOe]) s

/-- DOWN, with its cause; `slow` where it is retried after 60 s. -/
def goDown (e cause : Nat) (slow : Bool) (s : State) : State :=
  let s := updOe e (fun o => { o with slow := slow }) (oeTo e 7 s)
  let s := report (72 + e) 0x040B 0 0 0 cause (numSet (oeObj e oOptDownCause) 0 cause s)
  dropDrain e (linkEntry e s)

/-- RELOCK from ACTIVE. -/
def goRelock (e cause : Nat) (s : State) : State :=
  if (getOe s e).state ≠ 5 then s
  else
    let s := updOe e (fun o => { o with timeouts := 0 }) (oeTo e 6 s)
    report (72 + e) 0x040A 0 0 0 cause (bump (oeObj e oOptRelocks) 0 1 s)

/-- The rings lock anew, each at an order with a headroom of 360 GHz or more, at shifts the manual leaves open (R241). -/
def relockRings (e : Nat) (s : State) : State :=
  let n := s.free + 1
  updOe e (fun o => { o with locks := [], ringHold := [], heater := [], power := [], drift := 0, lockNo := n }) { s with free := n }
/-- RING_LOCK: every failed line is usable again, and alignment begins anew (R228, R243). -/
def goRingLock (e : Nat) (s : State) : State :=
  updOe e (fun o => { o with txMap := [], rxMap := [], align := [], txFibres := 255, rxFibres := 255 }) (oeTo e 2 (relockRings e s))

/-- Room that the receive buffer of an engine gave out before a new session is no longer owed (R280).
DEDUCED (log 84), unsafe. -/
def forgetRoom (e : Nat) (s : State) : State :=
  (List.range 24).foldl (fun s k =>
    updOe k (fun o => { o with queue := o.queue.map fun q => if q.src = e + 1 then { q with src := 0, shr := 0, res := 0 } else q }) s) s

/-! ## Rings (R240, R241, R250) -/

abbrev sideIx : Side → Nat | .tx => 0 | .rx => 1
/-- Number of a ring: transmit fibres 0 to 7, receive fibres 8 to 15, 18 lines each (subindexes of *OPT_HEATER*). -/
abbrev ringKey (side f k : Nat) : Nat := 32 * (8 * side + f) + k
/-- The free spectral range in GHz that a ring's last calibration measured, 3.8 THz ± 4 % and so until then; and the heater
efficiency, in GHz per W, that its last calibration or relock measured and the power of a step is computed from (R240, R241, R246,
R250).
DESIGN CHOICE (log 85), safe. -/
def ringFsr (o : OeSt) (side f k : Nat) : Int :=
  let n := tget 0 o.meas (ringKey side f k)
  if n = 0 then 3800 else (3648 + Config.freeAt n 0 0 % 305 : Nat)
def ringEff (o : OeSt) (side f k : Nat) : Nat := Config.freeAt (tget 0 o.meas (512 + ringKey side f k)) 1 0
/-- Power in mW of a heater step. -/
def stepPower (o : OeSt) (side f k : Nat) (d : Int) : Int := 1000 * d / (ringEff o side f k + 1)
/-- A ring's heater efficiency is measured, from a step (R250). -/
def measureEff (e side f k : Nat) (s : State) : State :=
  let n := s.free + 1
  updOe e (fun o => { o with meas := tset 0 o.meas (512 + ringKey side f k) n }) { s with free := n }
/-- A ring's FSR and heater efficiency are measured, in its calibration (R246). -/
def measureRing (e side f k : Nat) (s : State) : State :=
  let n := s.free + 1
  measureEff e side f k (updOe e (fun o => { o with meas := tset 0 o.meas (ringKey side f k) n }) { s with free := n })

/-- The heater shift in GHz: where the ring locked (left open, with a headroom of 360 GHz or more), its steps, and the
feed-forward.
DESIGN CHOICE (log 85), safe. -/
def heaterAt (o : OeSt) (side f k : Nat) : Int :=
  let base : Int := if o.lockNo = 0 then 0 else (360 + Config.freeAt o.lockNo (8 * side + f) k % 4081 : Nat)
  max 0 (min 4800 (base + tget 0 o.heater (ringKey side f k) + o.drift / 100))
/-- A heater step, applied as the power that the measured efficiency gives for it (R241). -/
def OeSt.step (side f k : Nat) (d : Int) (o : OeSt) : OeSt :=
  let i := ringKey side f k
  { o with heater := tset 0 o.heater i (tget 0 o.heater i + d), power := tset 0 o.power i (tget 0 o.power i + stepPower o side f k d) }
def stepHeater (e side f k : Nat) (d : Int) (s : State) : State := updOe e (OeSt.step side f k d) s
def headroom (o : OeSt) (side f k : Nat) : Int := let h := heaterAt o side f k; min h (4800 - h)

/-- The step of a re-centre: one FSR up where the shift is low, down where it is high.
DESIGN CHOICE (log 85), safe. -/
def recentreStep (o : OeSt) (side f k : Nat) : Int :=
  let fsr := ringFsr o side f k
  if heaterAt o side f k < 2400 then fsr else -fsr
def recentre (e side f k : Nat) (s : State) : State :=
  bump (oeObj e oOptRecentres) 0 1 (stepHeater e side f k (recentreStep (getOe s e) side f k) s)
/-- At the entry to ACTIVE a ring with less headroom than 360 GHz has its order changed (R241). -/
def OeSt.centre (side f k : Nat) (o : OeSt) : OeSt :=
  if headroom o side f k < 360 then o.step side f k (recentreStep o side f k) else o
def OeSt.centreAll (o : OeSt) : OeSt :=
  (List.range 288).foldl (fun o i => o.centre (i / 144) (i / 18 % 8) (i % 18)) o

/-! ## ACTIVE (R254 to R256) -/

/-- ACTIVE; `fresh` without a resumed session: new epochs, counts, widths and credits. Every ring has a headroom of 360 GHz (R241).
DEDUCED (log 84), unsafe. -/
def goActive (e : Nat) (fresh : Bool) (s : State) : State :=
  let now := wall s
  let s := updOe e (fun o => { o.centreAll with
    activeAt := now, cal := [], urgents := [], baseline := false, peerBase := false, mon := [], lastProgress := now,
    buffer := o.buffer.map fun f => { f with resent := 0 }, nakSeen := none, timeouts := 0, discarding := false, tagRun := 0 }) (oeTo e 5 s)
  let s := if fresh then
      let s := updOe e (fun o =>
        { o with txEpoch := 1, rxEpoch := 1, txCount := 0, rxCount := 0, nextSeq := 0, expSeq := 0, buffer := [], txTail := [],
                 txPart := 0, rxTail := [], rxPkts := [], rxMsgs := [], txSaid := 255, rxSaid := 255, txWidthSeq := none,
                 rxWidthSeq := none,
                 resSpent := [], sharedSpent := 0, rxShared := 0, rxRes := [], pendRes := [], pendShared := 0 }) s
      numSet (oeObj e oOptKeyEpoch) 0 1 (forgetRoom e s)
    else s
  let s := linkEntry e s
  let o := getOe s e
  let s := if o.txFibres = o.txSaid then s
           else sendOpt e { type := 0x50, arg := o.nextSeq, body := [byte o.txFibres] }
                  (updOe e (fun o => { o with txWidthSeq := some (o.nextSeq, o.txFibres) }) s)
  runPort e s

/-! ## Lanes on lines (R222, R244) -/

/-- The first idle spare in an order. -/
def freeSpare (m : Tab Nat) (f : Nat) (order : List Nat) : Option Nat := order.find? fun k => onLine m f k == 0xFF

def setTx (e f k v : Nat) (s : State) : State := updOe e (fun o => { o with txMap := putLine f k v o.txMap }) s
def setRx (e f k v : Nat) (s : State) : State := updOe e (fun o => { o with rxMap := putLine f k v o.rxMap }) s
def txOn (s : State) (e f k : Nat) : Nat := onLine (getOe s e).txMap f k
def calOf (s : State) (e f : Nat) : CalSt := tget {} (getOe s e).cal f
def setCal (e f : Nat) (c : CalSt) (s : State) : State := updOe e (fun o => { o with cal := tset {} o.cal f c }) s

/-- A lane of a fibre takes a spare; the line it leaves shows `left`. Logged as a spare swap. -/
def takeLine (e f lane from_ onto left : Nat) (s : State) : State :=
  report (72 + e) 0x0402 f 0 0 (f + 256 * lane + 65536 * onto) (setTx e f onto lane (setTx e f from_ left s))

/-- The running calibration of a fibre ends; its line shows `left`, and a lane on its spare goes back to it. -/
def endCal (e f left : Nat) (s : State) : State :=
  let c := calOf s e f
  let s := if c.spare = 0xFF then setTx e f c.line left s
           else
             let lane := txOn s e f c.spare
             setTx e f c.line (if lane < 16 then lane else left) (setTx e f c.spare 0xFF s)
  sendOpt e { type := 0x31, fibre := f, line := c.line } (setCal e f { c with running := false, spare := 0xFF } s)
/-- Calibration aborts (R247).
DEDUCED (log 86), unsafe. -/
def abortCal (e f : Nat) (s : State) : State := if (calOf s e f).running then endCal e f 0xFF s else s

/-- The data link frame boundary at which moves made at a time take effect: link frames last 85 ns (R230, R247).
DEDUCED (log 86), unsafe. -/
def frameBoundary (o : OeSt) (t : Nat) : Nat := (t - o.activeAt) / 85
/-- The urgent moves of a fibre that fall due at the boundary of the present time. -/
def urgentsNow (s : State) (e f : Nat) : List (Nat × Nat × Nat × Nat) :=
  let o := getOe s e
  o.urgents.filter fun u => u.2.1 == f && onLine o.txMap f u.2.2.2 == 0xFF && frameBoundary o u.1 == frameBoundary o (wall s)
/-- A spare that calibration holds is freed; a slot that would begin at this same boundary is skipped (R246, R247). -/
def yieldCal (e f : Nat) (s : State) : State :=
  let o := getOe s e
  let c := calOf s e f
  if c.running ∧ c.spare ≠ 0xFF ∧ frameBoundary o c.began = frameBoundary o (wall s)
  then bump (oeObj e oOptCalSkipped) 0 1 (abortCal e f s) else abortCal e f s
/-- A failure goes before an urgent move due at the same boundary: that lane stays on its line (R247). -/
def yieldUrgent (e f : Nat) (s : State) : State :=
  match urgentsNow s e f with
  | [] => s
  | u :: _ =>
    let s := match lineOf (getOe s e).txMap f u.2.2.1 with
      | some k => setTx e f u.2.2.2 u.2.2.1 (setTx e f k 0xFF s)
      | none => s
    updOe e (fun o => { o with urgents := o.urgents.filter (· != u) }) s

/-- A transmit fibre is withdrawn (R244): RELOCK, or DOWN where none is left. -/
def withdrawTx (e f : Nat) (s : State) : State :=
  let o := getOe s e
  if !bit o.txFibres f || (o.state != 5 && o.state != 6) then s
  else
    let s := report (72 + e) 0x0403 f 0 0 f (updOe e (fun o => { o with txFibres := clearBit o.txFibres f }) s)
    if (getOe s e).txFibres = 0 then goDown e 6 false s else goRelock e 4 s
/-- A receive fibre is withdrawn. -/
def withdrawRx (e f : Nat) (s : State) : State :=
  let o := getOe s e
  if !bit o.rxFibres f || (o.state != 5 && o.state != 6) then s
  else
    let s := report (72 + e) 0x0403 f 0 0 (f + 8) (updOe e (fun o => { o with rxFibres := clearBit o.rxFibres f }) s)
    if (getOe s e).rxFibres = 0 then goDown e 6 false s else goRelock e 4 s

/-- Where no spare of a fibre is free, one is made free by `f`. -/
def spareBy (e f : Nat) (free : State → State) (s : State) : State :=
  if (freeSpare (getOe s e).txMap f [17, 16]).isNone then free s else s
/-- A lane without a line takes a free spare, λ17 before λ16; one that calibration or an urgent move of this boundary holds is freed
first (R247); with none the fibre is withdrawn. -/
def rehome (e f lane from_ : Nat) (s : State) : State :=
  let s := spareBy e f (yieldUrgent e f) (spareBy e f (yieldCal e f) s)
  match freeSpare (getOe s e).txMap f [17, 16] with
  | some k => takeLine e f lane from_ k 0xFD s
  | none => withdrawTx e f s
/-- A lane moves to a free spare for an urgent re-centre or a wrong lock, one that calibration holds being freed first (R241,
R247). -/
def moveUrgent (e f lane from_ : Nat) (s : State) : State :=
  let s := spareBy e f (yieldCal e f) s
  match freeSpare (getOe s e).txMap f [17, 16] with
  | some k =>
    let now := wall s
    updOe e (fun o => { o with urgents := (o.urgents.filter fun u => frameBoundary o u.1 == frameBoundary o now) ++ [(now, f, lane, from_)] })
      (takeLine e f lane from_ k 0xFF s)
  | none => s

/-- A transmit line fails (R243, R244, R247). -/
def failTxLine (e f k : Nat) (s : State) : State :=
  let c := calOf s e f
  let lane := txOn s e f k
  if lane = 0xFD ∨ 18 ≤ k ∨ 8 ≤ f then s
  else
    let s := report (72 + e) 0x0401 f 0 0 (f + 256 * k) s
    if c.running ∧ c.line = k then
      sendOpt e { type := 0x31, fibre := f, line := k } (setCal e f { c with running := false, spare := 0xFF } (setTx e f k 0xFD s))
    else if c.running ∧ c.spare = k then setTx e f k 0xFD (endCal e f 0xFF s)
    else if lane < 16 then rehome e f lane k (setTx e f k 0xFD s)
    else setTx e f k 0xFD s

/-! ## Wrong locks (R250) -/

/-- The step from observed line `m` to assigned line `n`, by one FSR the other way where it would leave the range.
DESIGN CHOICE (log 85), safe. -/
def lockStep (o : OeSt) (side f n m : Nat) : Int :=
  let d : Int := ((n : Int) - m) * 200
  let h := heaterAt o side f n + d
  if h < 0 then d + ringFsr o side f n else if 4800 < h then d - ringFsr o side f n else d

/-- A wrong lock is counted and logged: side, fibre, assigned and observed line, step (R250). -/
def logMislock (e side f n m : Nat) (s : State) : State :=
  let st := lockStep (getOe s e) side f n m
  report (72 + e) 0x0404 f 0 0 (side + 2 ^ 8 * f + 2 ^ 16 * n + 2 ^ 24 * m + 2 ^ 32 * wrap 32 st)
    (bump (oeObj e oOptMislocks) 0 1 s)

end Sys2Proof.Machine
end

