-- ==== Sys2Proof/Machine/Light.lean ====
section
/-! DEFINITION. Machine/Light.lean: laser supply modules and feeds (R224, R225), the link's setup from LIGHT to ACTIVE (R254 to
R256) with its key agreement (R236, R237), and the control messages of ALIGN and KEY_AGREE (R232). -/
namespace Sys2Proof.Machine
open Sys2Proof

/-! ## Modules (R224, R225, R258) -/

/-- Outputs of a module that feed an engine, as a mask; the module of an engine. -/
def feedMask (e : Nat) : Nat := if e % 2 = 0 then 3 else 12
abbrev feedModule (e : Nat) : Nat := e / 2
/-- An engine's feeds switched on or off at its module. -/
def setFeeds (e : Nat) (on : Bool) (s : State) : State :=
  let m := feedModule e
  let lo := if e % 2 = 0 then 0 else 2
  let s := updLsm m (fun x =>
    { x with outputs := if on then setBit (setBit x.outputs lo) (lo + 1) else clearBit (clearBit x.outputs lo) (lo + 1) }) s
  emit (.lsm m (bnat on) (feedMask e)) s
/-- A ready, enabled module may feed an engine whose *OPT_LINK_ENABLE* is set. -/
def mayFeed (s : State) (e : Nat) : Bool :=
  (getLsm s (feedModule e)).state == 3 && numGet s oOptLsmEnable (feedModule e + 1) == 1 && oeEnabled s e
/-- A module's outputs follow that; feeds that open fibre disabled stay off (R225). -/
def lightModule (m : Nat) (s : State) : State :=
  [2 * m, 2 * m + 1].foldl (fun s e => setFeeds e (mayFeed s e && !(getOe s e).feedsOff) s) s

/-- *OPT_LSM_ENABLE* takes effect. -/
def setLsmEnable (m : Nat) (s : State) : State := lightModule m s

def doLsmInsert (m : Nat) (s : State) : State :=
  if !s.hub.on || (getLsm s m).state != 0 then s
  else if !s.hub.resumed then report (hubSite s) 0x0408 m 0 0 m (updLsm m (fun x => { x with state := 1 }) s)
  else emit (.lsm m 2 0) (report (hubSite s) 0x0408 m 0 0 m (updLsm m (fun x => { x with state := 2 }) s))
/-- Links of an inserted module's engines restart from LIGHT, and open fibre holds no feed off any more (R225). -/
def restartLink (e : Nat) (s : State) : State :=
  let s := updOe e (fun o => { o with feedsOff := false }) s
  if (getOe s e).state = 0 ∨ !oeEnabled s e then s else oeTo e 1 s
def doLsmReady (m : Nat) (identity : List Byte) (s : State) : State :=
  if !hubUp s || allRefused s || !((getLsm s m).state == 1 || (getLsm s m).state == 2) then s
  else
    let s := updLsm m (fun x => { x with state := 3, identity := identity }) s
    lightModule m (restartLink (2 * m + 1) (restartLink (2 * m) s))

/-- Both feeds of an engine are lost (R254). -/
def loseFeeds (e : Nat) (s : State) : State :=
  if (getOe s e).state = 5 then oeTo e 1 s else s

def doLsmRemove (m : Nat) (s : State) : State :=
  if (getLsm s m).state = 0 then s
  else
    let s := report (hubSite s) 0x0408 m 0 0 m (updLsm m (fun _ => {}) s)
    loseFeeds (2 * m + 1) (loseFeeds (2 * m) s)
def doLsmFault (m flag : Nat) (s : State) : State :=
  if (getLsm s m).state = 0 then s
  else report (hubSite s) 0x0408 m 0 0 (m + 256 * flag) (updLsm m (fun x => { x with flags := setBit x.flags flag }) s)

/-! ## Open fibres (R225) -/

def doOpenFibre (e : Nat) (s : State) : State :=
  let o := getOe s e
  if o.state ≠ 2 ∨ o.feedsOff then s
  else
    let s := advanceTo (o.since + 100000000) s
    let now := wall s
    updOe e (fun o => { o with feedsOff := true, probeAt := now }) (setFeeds e false s)
/-- A probe: 2 ms of light in every second.
DEDUCED (log 86), unsafe. -/
def doProbe (e : Nat) (s : State) : State :=
  let o := getOe s e
  if !o.feedsOff || !mayFeed s e then s
  else
    let s := advanceTo (o.probeAt + 1000000000) s
    let now := wall s
    let s := updOe e (fun o => { o with probeAt := now }) (setFeeds e true s)
    setFeeds e false (advanceTo (now + 2000000) s)
def doRxLight (e : Nat) (s : State) : State :=
  if (getOe s e).feedsOff && mayFeed s e then setFeeds e true (updOe e (fun o => { o with feedsOff := false }) s) else s

/-- A control message is taken from those that link frames brought (R233).
DESIGN CHOICE (log 49), unsafe. -/
def hear (e : Nat) (m : OptMsg) (s : State) : State := updOe e (fun o => { o with rxMsgs := o.rxMsgs.erase m }) s

/-! ## Setup -/

/-- *OPT_LINK_ENABLE* takes effect (R254). -/
def setLinkEnable (e v : Nat) (s : State) : State :=
  let o := getOe s e
  let s := if v = 0 then (if o.state = 0 then s else dropDrain e (oeTo e 0 s))
           else if o.state = 0 ∧ facetPowered s (e / 6) then oeTo e 1 s
           else s
  if (getLsm s (feedModule e)).state = 3 then lightModule (feedModule e) s else s

/-- A laser feed is lost where its monitored total lies below +23 dBm (R224); in 0.01 dBm. -/
def feedLow (li : Int) : Bool := decide (li < 2300)
/-- FEEDS_GOOD: the module is ready, and no reading taken in LIGHT shows a feed below +23 dBm (R224, R253). -/
def doFeedsGood (e : Nat) (s : State) : State :=
  let o := getOe s e
  let low := o.liSeen && (feedLow (tget 0 o.mon 0) || feedLow (tget 0 o.mon 1))
  if o.state = 1 ∧ (getLsm s (feedModule e)).state = 3 ∧ !low then goRingLock e s else s

/-- The IDENT of this side (R232). -/
def identMsg (s : State) (e : Nat) : OptMsg :=
  { type := 0x03, body := leBytes 2 (nodeId s) ++ [byte e] ++ slice (getOe s e).session 0 16 }
/-- RING_LOCK_DONE: into ALIGN, with the receive fibres whose home lines are received, and so aligned; a withdrawn fibre stays
withdrawn in RELOCK, where the rings have locked anew (R241, R254), and one that is not received there is withdrawn (R259). The
width of the peer's link frames stays as it announced it (R230). What a peer sent before does not count (R236, R256). -/
def doRingLock (e rx : Nat) (s : State) : State :=
  let o := getOe s e
  let keep := (List.range 8).foldl (fun m k => if bit rx k && bit o.rxFibres k then setBit m k else m) 0
  if (o.state ≠ 2 ∧ o.state ≠ 6) ∨ keep = 0 then s
  else
    let s := doRxLight e s
    let s := if o.state = 6 then
        ((fibresOf o.rxFibres).filter fun f => !bit keep f).foldl (fun s f => report (72 + e) 0x0403 f 0 0 (f + 8) s) (relockRings e s)
      else s
    let s := updOe e (fun o =>
      { o with rxFibres := keep, peerReport := [], peerReportLen := 0, identSeen := false, echoSeen := false, peerSession := [],
               align := (fibresOf keep).foldl (fun t f => (List.range 16).foldl (fun t k => tset 0 t (lineKey f k) 4) t) o.align })
      (oeTo e 3 s)
    sendOpt e (identMsg s e) (sendOpt e { type := 0x01, arg := wall s } s)

/-- The pairing is one that R223 allows: the facing engine; where neither device is without a node (0x8000), that of the neighbour
on the axis, the device itself only on a Y or Z axis of size 1.
DEDUCED (log 83), unsafe. -/
def pairingOk (s : State) (e node peer : Nat) : Bool :=
  let d := e % 6
  let i := d / 2
  let me := nodeId s
  let step := if d % 2 = 0 then 1 else axis s i - 1
  peer == e / 6 * 6 + (d + 1 - 2 * (d % 2)) &&
    (me == 0x8000 || node == 0x8000 || (nodeOk s me && nodeOk s node &&
      if node = me then axis s i == 1 && i != 0
       else coord node i == (coord me i + step) % axis s i && [0, 1, 2].all fun j => j == i || coord node j == coord me j))

/-- KEY_AGREE begins: the replay buffer is lost (R256), and the report goes out in fragments (R236). After a tamper no
report is made, and the link is refused (R376, R379). -/
def sendReport (e : Nat) (r : List Byte) (s : State) : State :=
  (List.range 11).foldl (fun s i =>
    sendOpt e { type := 0x40, arg := 48 * i * 2 ^ 32 + 512, body := slice (r.take 512) (48 * i) (min 48 (512 - 48 * i)) } s) s
/-- DEDUCED (log 86), unsafe. -/
def refuseLink (e : Nat) (s : State) : State :=
  goDown e 4 true (report (72 + e) 0x0409 0 0 0 4 (sendOpt e { type := 0x43 } s))

/-- No link key is derived: outside DEPLOYED (R387), and after a tamper until power-up (R376). -/
def noLinkKey (s : State) : Bool := noReports s || lcState s != 2
/-- The lower (node, SRC_OE) first. -/
def lowerFirst (a b : Nat × List Byte) : List Byte := if a.1 ≤ b.1 then a.2 ++ b.2 else b.2 ++ a.2
/-- KEY_SHARE goes out once the peer's report is whole and passes (R236 steps 2 and 3). -/
def tryShare (e : Nat) (s : State) : State :=
  let o := getOe s e
  if o.state ≠ 4 ∨ o.sentShare ∨ o.peerReportLen = 0 ∨ o.peerReport.length ≠ o.peerReportLen then s
  else if noLinkKey s then refuseLink e s
  else
    let list := blobGet s oOptPeerMeasurements 0
    let listed := list.isEmpty || (List.range (list.length / 64)).any fun i => slice list (64 * i) 64 == repMeasure o.peerReport
    if !repOk 3 o.peerReport || !listed then refuseLink e s
    else
      let pub := slice (Config.x25519Pub o.priv) 0 32
      let sig := slice (Config.ed25519Sign s.sec.idSeed (pub ++ Config.sha512 o.myReport)) 0 64
      sendOpt e { type := 0x41, body := pub ++ sig } (updOe e (fun o => { o with sentShare := true }) s)

def startKeys (e : Nat) (s : State) : State :=
  let s := updOe e (fun o => { o with buffer := [], txTail := [], txPart := 0, rxTail := [], secret := [], session := [], sentShare := false,
                                      sentConfirm := false }) (oeTo e 4 s)
  if noLinkKey s then refuseLink e s
  else
    let (k, s) := drawRandom s
    let r := makeReport s 3 0 0 [] []
    tryShare e (sendReport e r (updOe e (fun o => { o with priv := k, myReport := r }) s))

/-- When ALIGN or KEY_AGREE has taken too long: 500 ms after its entry, and 100 ms after the entry to RELOCK that led to it (R254,
R255). -/
def OeSt.setupDue (o : OeSt) : Nat :=
  let t := o.since + 500000000
  match o.relockAt with
  | some r => min t (r + 100000000)
  | none => t
/-- What ends ALIGN or KEY_AGREE at that time or later comes too late (R25). -/
def inSetup (e : Nat) (f : State → State) (s : State) : State :=
  if (getOe s e).setupDue ≤ wall s then goDown e 7 false s else f s
/-- ALIGN_DONE, once the peer's IDENT and ECHO have come: the checks of R254; then a resumed session, or KEY_AGREE.
DEDUCED (log 83), unsafe. -/
def doAlign (e : Nat) (a : AlignSeen) (s : State) : State :=
  let o := getOe s e
  if o.state ≠ 3 ∨ !o.identSeen ∨ !o.echoSeen then s
  else inSetup e (fun s =>
    let s := if 30 < a.plantLossTenthDb then report (72 + e) 0x040D 0 0 0 (256 * a.plantLossTenthDb) s else s
    if !pairingOk s e o.peerNode o.peerOe then goDown e 1 true s
    else if 500 < o.lengthM then goDown e 2 false s
    else if 200 < a.skewNs then goDown e 3 false s
    else if !o.session.isEmpty ∧ o.session.any (· != 0) ∧ o.peerSession = o.session then goActive e false s
    else startKeys e s) s

def doSetupTimeout (e : Nat) (s : State) : State :=
  let o := getOe s e
  if o.state = 3 ∨ o.state = 4 then goDown e 7 false (advanceTo o.setupDue s) else s
/-- RELOCK_TIMEOUT: 100 ms after the entry to RELOCK the link is not ACTIVE (R254, R255). -/
def doRelockTimeout (e : Nat) (s : State) : State :=
  match (getOe s e).relockAt with
  | some t => goDown e 7 false (advanceTo (t + 100000000) s)
  | none => s
def doRetry (e : Nat) (s : State) : State :=
  let o := getOe s e
  if o.state = 7 then oeTo e 1 (advanceTo (o.since + if o.slow then 60000000000 else 1000000000) s) else s

/-! ## Control messages of setup (R232, R236) -/

/-- States in which the link carries the messages of setup. -/
def hears (s : State) (e : Nat) (states : List Nat) : Bool := states.contains (getOe s e).state

/-- PING is echoed; the model answers within the same nanosecond.
DEDUCED (log 83), unsafe. -/
def doPing (e : Nat) (m : OptMsg) (s : State) : State :=
  if hears s e [3, 4, 5] then sendOpt e { type := 0x02, arg := m.arg, body := leBytes 8 0 } s else s
/-- ECHO gives the length: half the round trip less the turnaround, at 4.9 ns/m (R256). -/
def doEcho (e : Nat) (m : OptMsg) (s : State) : State :=
  let rtt := wall s - m.arg - leNat (slice m.body 0 8)
  if hears s e [3] then updOe e (fun o => { o with lengthM := rtt * 10 / 98, echoSeen := true }) s else s
/-- IDENT: the peer's node, engine and session identifier (R232). -/
def doIdent (e : Nat) (m : OptMsg) (s : State) : State :=
  if hears s e [3] then updOe e (fun o =>
    { o with peerNode := leNat (slice m.body 0 2), peerOe := leNat (slice m.body 2 1), peerSession := slice m.body 3 16,
             peerKnown := true, identSeen := true }) s
  else s

/-- ATTEST_FRAG: fragments come in order; offset 0 begins a report.
DEDUCED (log 83), unsafe. -/
def doFrag (e : Nat) (m : OptMsg) (s : State) : State :=
  let off := m.arg / 2 ^ 32
  let total := m.arg % 2 ^ 32
  if !hears s e [3, 4] then s
  else
    let s := if off = 0 then updOe e (fun o => { o with peerReport := [], peerReportLen := total }) s else s
    let o := getOe s e
    if off ≠ o.peerReport.length ∨ total ≠ o.peerReportLen then s
    else
      let part := slice m.body 0 (min 48 (total - off))
      tryShare e (updOe e (fun o => { o with peerReport := o.peerReport ++ part }) s)

/-- Confirmation of a side (R236 step 4). -/
def confirmOf (secret : List Byte) (node oe : Nat) : List Byte :=
  slice (Config.hkdfExpand secret (utf8 "isk-opt-confirm" ++ leBytes 2 node ++ [byte oe])) 0 16

/-- KEY_SHARE: its signature checked, the link secret and the session identifier derived, KEY_CONFIRM sent.
DEDUCED (log 83), unsafe. -/
def doShare (e : Nat) (m : OptMsg) (sig : List Byte) (s : State) : State :=
  let o := getOe s e
  let pub := slice m.body 0 32
  if o.state ≠ 4 ∨ !o.sentShare ∨ !o.secret.isEmpty then s
  else if noLinkKey s then refuseLink e s
  else if !Config.ed25519Verify (repPub o.peerReport) (pub ++ Config.sha512 o.peerReport) sig then refuseLink e s
  else
    let salt := Config.sha512 (lowerFirst (256 * nodeId s + e, o.myReport) (256 * o.peerNode + o.peerOe, o.peerReport))
    let secret := slice (Config.hkdfExtract salt (Config.x25519 o.priv pub)) 0 64
    let s := updOe e (fun o => { o with secret := secret, session := slice (Config.sha512 secret) 0 16,
                                        sentConfirm := true, priv := [] }) s
    sendOpt e { type := 0x42, body := confirmOf secret (nodeId s) e } s

def doConfirm (e : Nat) (m : OptMsg) (s : State) : State :=
  let o := getOe s e
  if o.state ≠ 4 ∨ !o.sentConfirm then s
  else if noLinkKey s then refuseLink e s
  else if slice m.body 0 16 ≠ confirmOf o.secret o.peerNode o.peerOe then refuseLink e s
  else inSetup e (goActive e true) s

def doRefuse (e : Nat) (_m : OptMsg) (s : State) : State :=
  if hears s e [3, 4] then goDown e 4 true (report (72 + e) 0x0409 0 0 0 4 s) else s

def execLsmInsert (m : Lsm) (s : State) : Out := .next (doLsmInsert m s)
def execLsmModuleReady (m : Lsm) (identity : List Byte) (s : State) : Out := .next (doLsmReady m identity s)
def execLsmRemove (m : Lsm) (s : State) : Out := .next (doLsmRemove m s)
def execLsmFault (m : Lsm) (flag : Nat) (s : State) : Out := .next (doLsmFault m flag s)
def execOpenFibreTimeout (oe : Oe) (s : State) : Out := .next (doOpenFibre oe s)
def execLaserProbe (oe : Oe) (s : State) : Out := .next (doProbe oe s)
def execRxLightReturn (oe : Oe) (s : State) : Out := .next (doRxLight oe s)
def execFeedsGood (oe : Oe) (s : State) : Out := .next (doFeedsGood oe s)
def execFeedsLost (oe : Oe) (s : State) : Out := .next (loseFeeds oe s)
def execRingLockDone (oe : Oe) (rxFibres : Nat) (s : State) : Out := .next (doRingLock oe rxFibres s)
def execAlignDone (oe : Oe) (a : AlignSeen) (s : State) : Out := .next (doAlign oe a s)
def execOptSetupTimeout (oe : Oe) (s : State) : Out := .next (doSetupTimeout oe s)
def execRelockTimeout (oe : Oe) (s : State) : Out := .next (doRelockTimeout oe s)
def execDownRetry (oe : Oe) (s : State) : Out := .next (doRetry oe s)
def execPing (oe : Oe) (m : OptMsg) (s : State) : Out := .next (doPing oe m (hear oe m s))
def execEcho (oe : Oe) (m : OptMsg) (s : State) : Out := .next (doEcho oe m (hear oe m s))
def execIdent (oe : Oe) (m : OptMsg) (s : State) : Out := .next (doIdent oe m (hear oe m s))
def execAttestFrag (oe : Oe) (m : OptMsg) (s : State) : Out := .next (doFrag oe m (hear oe m s))
def execKeyShare (oe : Oe) (m : OptMsg) (signature : List Byte) (s : State) : Out := .next (doShare oe m signature (hear oe m s))
def execKeyConfirm (oe : Oe) (m : OptMsg) (s : State) : Out := .next (doConfirm oe m (hear oe m s))
def execRefuse (oe : Oe) (m : OptMsg) (s : State) : Out := .next (doRefuse oe m (hear oe m s))

end Sys2Proof.Machine
end

