-- ==== Sys2Proof/Machine/Optical.lean ====
section
/-! DEFINITION. Machine/Optical.lean: the optical link at run time: lane frames and acknowledgements (R228, R229, R234), link
frames (R233, R238, R239), replay and key epochs (R234, R235, R237), line judgement (R243), calibration (R245 to R247),
wrong locks (R248 to R250), monitors (R251, R252), and the control messages that go with them (R232). -/
namespace Sys2Proof.Machine
open Sys2Proof

/-! ## Replay (R234, R235) -/

/-- Every buffered frame goes out again; one that has now gone again eight times takes the link into RELOCK. -/
def resendAll (e : Nat) (s : State) : State :=
  let o := getOe s e
  if o.buffer.isEmpty then s
  else
    let s := o.buffer.foldl (fun s x => emitFrame e true x s) s
    let s := updOe e (fun o => { o with buffer := o.buffer.map fun f => { f with resent := f.resent + 1 } })
      (bump (oeObj e oOptReplays) 0 1 s)
    if o.buffer.any (fun f => decide (7 ≤ f.resent)) then goRelock e 1 s else s

/-- Frames up to and with a SEQ leave the replay buffer. -/
def dropTo (q : Nat) : List TxFrame → Option (List TxFrame)
  | [] => none
  | f :: fs => if f.seq = q then some fs else dropTo q fs

/-- A NAK repeats one that was answered: every lane header of a reverse link frame carries it, and the next is due 12 us later
(R234).
DEDUCED (log 84), unsafe. -/
def nakAgain (o : OeSt) (ack now : Nat) : Bool :=
  match o.nakSeen with
  | some (a, t) => a == ack && decide (now < t + 12000)
  | none => false

/-- An acknowledgement that a decodable lane header carried (R229, R233, R234). -/
def takeOptAck (e ack : Nat) (nak : Bool) (s : State) : State :=
  let o := getOe s e
  let now := wall s
  let s := match dropTo ack o.buffer with
    | some rest => updOe e (fun o => { o with buffer := rest, lastProgress := now, timeouts := 0 }) s
    | none => s
  let s := if nak && !nakAgain o ack now then resendAll e (updOe e (fun o => { o with nakSeen := some (ack, now) }) s) else s
  runPort e s

def doOptTimeout (e : Nat) (s : State) : State :=
  let o := getOe s e
  if o.state ≠ 5 ∨ o.buffer.isEmpty then s
  else
    let s := advanceTo (o.lastProgress + 12000) s
    let now := wall s
    let s := updOe e (fun o => { o with timeouts := o.timeouts + 1, lastProgress := now }) (resendAll e s)
    if 4 ≤ (getOe s e).timeouts then goRelock e 2 s else s

/-! ## Lane frames (R228, R229, R248) -/

/-- SYNC of a line after one frame: four matches in succession align it, eight misses in succession lose the alignment (R228). -/
def alignStep (hit : Bool) (n : Nat) : Nat :=
  if n < 4 then (if hit then n + 1 else 0)
  else if n < 12 then (if hit then 4 else n + 1)
  else if hit then (if n = 15 then 4 else n + 1) else 12
def lineAligned (o : OeSt) (f k : Nat) : Bool := let n := tget 0 o.align (lineKey f k); decide (4 ≤ n) && decide (n < 12)
/-- A line has lost its alignment. -/
def lineLost (o : OeSt) (f k : Nat) : Bool := decide (12 ≤ tget 0 o.align (lineKey f k))

/-- The receive map follows the lane field (R244); a failed line stays failed (R243). -/
def followLane (e f k lane : Nat) (s : State) : State :=
  let m := (getOe s e).rxMap
  if lane < 16 ∧ onLine m f k ≠ lane ∧ onLine m f k ≠ 0xFD then
    let s := match lineOf m f lane with
      | some j => setRx e f j 0xFF s
      | none => s
    setRx e f k lane s
  else s

/-- Where a ring's wrong-lock watch is kept. -/
def lockKey (side f line : Nat) : Nat := (if side = 0 then 256 else 0) + lineKey f line

/-- A wrong lock is over (R250): the relock is verified, the ring's efficiency measured anew from the step, and a receive ring calls
its lane home. -/
def relocked (e side f line : Nat) (s : State) : State :=
  let s := measureEff e side f line (updOe e (fun o => { o with locks := tdel o.locks (lockKey side f line) }) s)
  if side = 1 ∧ line < 16 ∧ onLine (getOe s e).rxMap f line ≠ line then
    sendOpt e { type := 0x11, fibre := f, line := line, lane := line } s
  else s

/-- A receive ring's line as its frames name it: four in succession with another line are a wrong lock, and a lane that
has not moved is asked onto a spare (R248); after the step 16 in succession with its own line verify the relock (R250). -/
def watchLock (e f line wave : Nat) (s : State) : State :=
  let o := getOe s e
  let l := tget { seen := 0xFF } o.locks (lineKey f line)
  let put (l : LockSt) (s : State) : State := updOe e (fun o => { o with locks := tset {} o.locks (lineKey f line) l }) s
  if wave = line then
    if l.stepped then (if 15 ≤ l.good then relocked e 1 f line s else put { l with run := 0, good := l.good + 1 } s)
    else if l.run = 0 then s else put { l with run := 0 } s
  else
    let n := if l.seen = wave ∧ l.run ≠ 0 then l.run + 1 else 1
    let l := { l with seen := wave, run := n, good := 0 }
    if n < 4 ∨ l.declared then put l s
    else
      let s := logMislock e 1 f line wave (put { l with declared := true } s)
      let lane := onLine o.rxMap f line
      if lane < 16 then sendOpt e { type := 0x10, fibre := f, lane := lane } s else s

/-- A codeword corrects up to 15 symbol errors (R228). -/
def decodes (errs : Nat) : Bool := decide (errs ≤ 15)

/-- LANE_FRAME: `errs` are the symbol errors of its two codewords. A line is heard once it is aligned. -/
def doLaneFrame (e f line : Nat) (h : LaneHdr) (errs : Nat × Nat) (s : State) : State :=
  let o := getOe s e
  if o.state < 2 ∨ o.state = 7 ∨ 8 ≤ f ∨ 18 ≤ line then s
  else
    let n := alignStep (h.sync == 0xC3A5) (tget 0 o.align (lineKey f line))
    let s := updOe e (fun o => { o with align := tset 0 o.align (lineKey f line) n }) s
    let lost := (List.range 16).all fun lane =>
      match lineOf (getOe s e).rxMap f lane with
      | some k => lineLost (getOe s e) f k
      | none => true
    if lost && bit o.rxFibres f && o.state == 5 then goRelock e 3 s
    else if !lineAligned (getOe s e) f line then s
    else if !decodes (max errs.1 errs.2) then bump (oeObj e oOptUncorrectable) 0 1 s
    else
      let s := if h.wave = line then updOe e (fun o => { o with ringHold := tdel o.ringHold (ringKey 1 f line) }) s else s
      let s := watchLock e f line h.wave s
      let s := if h.kind = 0 ∧ h.wave < 18 then followLane e f h.wave h.lane s else s
      if o.state = 5 then takeOptAck e h.ack h.nak s else s

/-! ## Link frames (R233, R234, R238, R239) -/

/-- A NAK goes with the next reverse link frame, an idle one, and names the last frame accepted (R234).
DEDUCED (log 84), unsafe. -/
def sendNak (e : Nat) (s : State) : State :=
  let now := wall s
  emitIdle e true (updOe e (fun o => { o with discarding := true, lastNak := now }) s)
/-- A frame is discarded. -/
def dropFrame (e : Nat) (s : State) : State := if (getOe s e).discarding then s else sendNak e s

/-- The peer's fibres that the frame expected next uses, as the peer announced them (R230). -/
def OeSt.rxWidth (o : OeSt) : Nat :=
  match o.rxWidthSeq with
  | some (q, m) => if q = o.expSeq then m else o.rxSaid
  | none => o.rxSaid

/-- The lane frame of a fibre and lane among those that arrived, where it belongs to the data link frame expected next, from the
peer's engine, and is correctable. -/
def laneOf (o : OeSt) (x : LinkFrameRx) (f lane : Nat) : Option LaneFrame :=
  x.lanes.find? fun l => l.fibre == f && l.hdr.fibre == f && l.hdr.lane == lane && l.hdr.kind == 0 && l.hdr.seq == o.expSeq &&
    l.hdr.srcOe == o.peerOe && decodes l.errs
/-- Every lane frame of the link frame expected next has arrived and none is uncorrectable (R233); a withdrawn fibre brings none. -/
def allLanes (o : OeSt) (x : LinkFrameRx) : Bool :=
  (fibresOf o.rxWidth).all fun f => bit o.rxFibres f && (List.range 16).all fun j => (laneOf o x f j).isSome
/-- A fibre's segment and tag from its lanes: lane j carries bytes 1,275j on, and byte j of the tag (R230, R238). -/
def rxSegment (o : OeSt) (x : LinkFrameRx) (f : Nat) : List Byte :=
  (List.range 16).flatMap fun j => slice ((laneOf o x f j).getD {}).payload 0 1275
def rxTag (o : OeSt) (x : LinkFrameRx) (f : Nat) : List Byte :=
  (List.range 16).map fun j => byte ((laneOf o x f j).getD {}).hdr.tagByte

/-- Every fibre's tag verifies under the current key (R238). -/
def tagsOk (o : OeSt) (x : LinkFrameRx) : Bool :=
  let key := dirKey o.secret o.peerNode o.peerOe o.rxEpoch
  !o.secret.isEmpty && x.lanes.all (fun l => l.hdr.kind != 0 || l.hdr.keyEpoch == keyEpochOf o.rxEpoch) &&
    (fibresOf o.rxWidth).all fun f =>
      decide (slice (Config.gcmTag key (segIv f o.rxCount) (segAad o.peerOe f o.rxEpoch) (rxSegment o x f)) 0 16 = rxTag o x f)
/-- The payload: the decrypted segments of the fibres in use, in ascending order (R230, R238). -/
def rxPayload (o : OeSt) (x : LinkFrameRx) : List Byte :=
  let key := dirKey o.secret o.peerNode o.peerOe o.rxEpoch
  (fibresOf o.rxWidth).flatMap fun f => slice (Config.gcmDec key (segIv f o.rxCount) (rxSegment o x f)) 0 20400

/-- The packets and control messages that a stream holds whole, and what is left of one that goes on in the next frame (R231). -/
def readStream : Nat → List Byte → List Mpk × List OptMsg × List Byte
  | 0, b => ([], [], b)
  | n + 1, b =>
    if b.length < 32 ∨ (b.take 32).all (· == 0) then ([], [], [])
    else if b.length < streamSize b then ([], [], b)
    else
      let (ps, ms, rest) := readStream n (b.drop (streamSize b))
      if b.take 4 = [0xF0, 0xFF, 0xFF, 0xFF] then (ps, readOptMsg b :: ms, rest) else (readMpk b :: ps, ms, rest)

/-- A link frame is accepted: its payload is passed on, and it is acknowledged by an idle frame (R231, R233). -/
def acceptFrame (e : Nat) (x : LinkFrameRx) (s : State) : State :=
  let o := getOe s e
  let (ps, ms, rest) := readStream 5101 (o.rxTail ++ rxPayload o x)
  emitIdle e false (updOe e (fun o =>
    { o with expSeq := (o.expSeq + 1) % 65536, rxCount := o.rxCount + 1, tagRun := 0, discarding := false, rxSaid := o.rxWidth,
             rxFibres := o.rxFibres &&& o.rxWidth,
             rxWidthSeq := match o.rxWidthSeq with | some (q, m) => if q = o.expSeq then none else some (q, m) | none => none,
             rxTail := rest, rxPkts := o.rxPkts ++ ps, rxMsgs := o.rxMsgs ++ ms }) s)

/-- The control messages of setup that training lane frames with KEY_EPOCH 0 bring (R236).
DEDUCED (log 129), unsafe. -/
def setupMsgs (x : LinkFrameRx) : List OptMsg :=
  ((x.lanes.filter fun l => l.hdr.kind == 3 && l.hdr.keyEpoch == 0 && decodes l.errs && l.payload.take 4 == [0xF0, 0xFF, 0xFF, 0xFF]).map
    fun l => readOptMsg l.payload).filter fun m => setupType m.type
/-- LINK_FRAME: its lane frames; one of idle lanes alone carries no data, and in ALIGN and KEY_AGREE messages of setup come.
DESIGN CHOICE (log 49), unsafe; DEDUCED (log 84), unsafe. -/
def doLinkFrame (e : Nat) (x : LinkFrameRx) (s : State) : State :=
  let o := getOe s e
  if o.state = 3 ∨ o.state = 4 then updOe e (fun o => { o with rxMsgs := o.rxMsgs ++ setupMsgs x }) s
  else if o.state ≠ 5 ∨ x.lanes.all (fun l => l.hdr.kind != 0) then s
  else if !allLanes o x then dropFrame e s
  else if !tagsOk o x then
    let n := o.tagRun + 1
    let s := dropFrame e (bump (oeObj e oOptTagFails) 0 1 (updOe e (fun o => { o with tagRun := n }) s))
    if n = 16 then goDown e 5 true (report (72 + e) 0x0407 0 0 0 16 s) else s
  else acceptFrame e x s

def doNakRepeat (e : Nat) (s : State) : State :=
  let o := getOe s e
  if o.state = 5 ∧ o.discarding then sendNak e (advanceTo (o.lastNak + 12000) s) else s

/-- KEY_EPOCH_ADVANCE (R237). -/
def doEpoch (e : Nat) (tx : Bool) (s : State) : State :=
  let o := getOe s e
  if tx then
    if epochDue o ∧ o.txEpoch ≠ 0 then
      runPort e (numSet (oeObj e oOptKeyEpoch) 0 (o.txEpoch + 1) (updOe e (fun o => { o with txEpoch := o.txEpoch + 1 }) s))
    else s
  else if o.rxEpoch ≤ o.rxCount / 2 ^ 32 ∧ o.rxEpoch ≠ 0 then updOe e (fun o => { o with rxEpoch := o.rxEpoch + 1 }) s
  else s

/-- WIDTH (R230, R254): the peer's fibres from a SEQ on; a width announced again, for its SEQ, is no change.
DEDUCED (log 84), unsafe. -/
def doWidth (e : Nat) (m : OptMsg) (s : State) : State :=
  let o := getOe s e
  let mask := (m.body.getD 0 0).toNat
  if o.state ≠ 5 then s
  else if mask = 0 then goDown e 6 false s
  else if mask = o.rxSaid then s
  else
    let s := updOe e (fun o => { o with rxWidthSeq := some (m.arg % 65536, mask) }) s
    if (o.rxWidthSeq.map (·.2)) = some mask then s else goRelock e 5 s

/-! ## Wrong locks and rings (R240, R241, R243, R248 to R250) -/

/-- A receive line fails: reported to the transmitter (R243). -/
def failRxLine (e f k : Nat) (s : State) : State :=
  if onLine (getOe s e).rxMap f k = 0xFD then s
  else sendOpt e { type := 0x12, fibre := f, line := k } (setRx e f k 0xFD (report (72 + e) 0x0401 f 0 0 (f + 256 * k) s))

/-- TX_SUSPECT: this side's ring for LINE sits on line ARG (R249). -/
def doSuspect (e : Nat) (m : OptMsg) (s : State) : State :=
  let l := tget {} (getOe s e).locks (lockKey 0 m.fibre m.line)
  if (getOe s e).state ≠ 5 ∨ 8 ≤ m.fibre ∨ 18 ≤ m.line ∨ 18 ≤ m.arg ∨ l.declared then s
  else
    logMislock e 0 m.fibre m.line m.arg
      (updOe e (fun o => { o with locks := tset {} o.locks (lockKey 0 m.fibre m.line) { l with seen := m.arg, declared := true } }) s)

/-- MISLOCK_RELOCK: the ring steps back and relocks, verified or not; a receive ring's relock is verified by 16 of its LANE_FRAMEs
(`watchLock`), for which it waits. The second failure fails the line. -/
def doMislock (e side f line : Nat) (verified : Bool) (s : State) : State :=
  let o := getOe s e
  let k := lockKey side f line
  let l := tget {} o.locks k
  if !l.declared ∨ 8 ≤ f ∨ 18 ≤ line then s
  else
    let s := if l.stepped then s else stepHeater e side f line (lockStep o side f line l.seen) s
    let put (l : LockSt) (s : State) : State := updOe e (fun o => { o with locks := tset {} o.locks k l }) s
    if verified then
      if side = 0 then relocked e side f line s else if l.stepped then s else put { l with stepped := true, good := 0 } s
    else if l.fails = 0 then put { l with fails := 1, stepped := false, good := 0 } s
    else
      let s := updOe e (fun o => { o with locks := tdel o.locks k }) s
      if side = 1 then failRxLine e f line s else failTxLine e f line s

/-- RING_HOLD_TIMEOUT: the loop searches again from its held value; its ring is unlocked since then. -/
def doRingHold (e side f line : Nat) (s : State) : State :=
  let now := wall s
  updOe e (fun o => { o with ringHold := tset 0 o.ringHold (ringKey side f line) (now + 1) }) s

/-- URGENT_RECENTRE: of a ring whose headroom lies below 60 GHz, also by a temperature step (R241, R242); the lane moves to a spare
first, by this side's own move or by MOVE_TO_SPARE. -/
def doUrgent (e side f line : Nat) (s : State) : State :=
  let o := getOe s e
  if o.state ≠ 5 ∨ 8 ≤ f ∨ 18 ≤ line ∨ 60 ≤ headroom o side f line then s
  else
    let s := report (72 + e) 0x0405 f 0 0 (f + 256 * line) s
    let s :=
      if side = 1 then
        let lane := onLine o.rxMap f line
        if lane < 16 then sendOpt e { type := 0x10, fibre := f, lane := lane } s else s
      else
        let lane := txOn s e f line
        if lane < 16 then moveUrgent e f lane line s else s
    recentre e side f line s

/-- MOVE_TO_SPARE: the lane goes on a free spare, one that calibration holds being freed first. -/
def doMoveSpare (e : Nat) (m : OptMsg) (s : State) : State :=
  if (getOe s e).state ≠ 5 ∨ 8 ≤ m.fibre ∨ 16 ≤ m.lane then s
  else match lineOf (getOe s e).txMap m.fibre m.lane with
    | some j => if 16 ≤ j then s else moveUrgent e m.fibre m.lane j s
    | none => s
/-- MOVE_BACK: the lane returns to its home line, unless that has failed. -/
def doMoveBack (e : Nat) (m : OptMsg) (s : State) : State :=
  if (getOe s e).state ≠ 5 ∨ 8 ≤ m.fibre ∨ 16 ≤ m.lane ∨ txOn s e m.fibre m.lane ≠ 0xFF then s
  else match lineOf (getOe s e).txMap m.fibre m.lane with
    | some j => setTx e m.fibre m.lane m.lane (setTx e m.fibre j 0xFF s)
    | none => s

/-! ## Line judgement (R243, R249) -/

/-- A line fails in its window. -/
def lineFails (o : OeSt) (now : Nat) (l : LineSeen) : Bool :=
  let t := tget 0 o.ringHold (ringKey 1 l.fibre l.line)
  decide (4 ≤ l.uncorrectable) || decide (10000 < l.ber10e8) || l.alignmentLost || lineLost o l.fibre l.line || l.ringUnlocked ||
    (t != 0 && decide (t - 1 + 50000 < now))

/-- One fibre's window. -/
def judgeFibre (e f : Nat) (seen : List LineSeen) (s : State) : State :=
  let l := seen.filter fun x => x.fibre == f && decide (x.line < 18)
  let o := getOe s e
  let now := wall s
  let worst := l.foldl (fun n x => max n x.ber10e8) 0
  let s := if l.isEmpty then s else updOe e (fun o => { o with ber := tset 0 o.ber f worst }) s
  let fails := l.filter (lineFails o now ·)
  match l.filter (·.dark), l.filter (fun x => decide (4 ≤ x.uncorrectable) && !x.dark) with
  | [n], [m] =>
    (fails.filter fun x => x.line != n.line && x.line != m.line).foldl (fun s x => failRxLine e f x.line s)
      (sendOpt e { type := 0x13, fibre := f, line := n.line, arg := m.line } s)
  | _, _ => fails.foldl (fun s x => failRxLine e f x.line s) s

def doJudge (e : Nat) (seen : List LineSeen) (s : State) : State :=
  if (getOe s e).state ≠ 5 then s else (List.range 8).foldl (fun s f => judgeFibre e f seen s) s

def doTxUnlock (e f line : Nat) (s : State) : State := if (getOe s e).state = 5 then failTxLine e f line s else s

/-! ## Calibration (R245, R246) -/

/-- Calibration begins on a line: CAL_BEGIN, and lane frames of KIND 0b10 with the PRBS-31 pattern, of which the first is named. -/
def beginCal (e f p : Nat) (s : State) : State :=
  let s := sendOpt e { type := 0x30, fibre := f, line := p } s
  let o := getOe s e
  emit (.laneFrame e { fibre := f, line := p, payload := slice (Config.prbs31 0) 0 1275,
                       hdr := { frameHdr e 2 false (keyEpochOf o.txEpoch) o.nextSeq o with fibre := f, wave := p } }) s

/-- CAL_SLOT_START: a failed line's slot is skipped; a lane without a free spare skips it too, and counts.
DEDUCED (log 86), unsafe. -/
def doCalStart (e f : Nat) (s : State) : State :=
  let o := getOe s e
  let c := calOf s e f
  if o.state ≠ 5 ∨ !bit o.txFibres f ∨ c.running then s
  else
    let start := if c.next = 0 then o.activeAt else c.due
    let s := advanceTo start s
    let p := c.next % 18
    let c := { c with line := p, next := c.next + 1, due := start + 1000 * numAt s (e / 6) oOptCalSlot 0, spare := 0xFF }
    let lane := txOn s e f p
    if lane = 0xFD then setCal e f c s
    else if lane < 16 then
      match freeSpare o.txMap f [16, 17] with
      | none => bump (oeObj e oOptCalSkipped) 0 1 (setCal e f c s)
      | some k => beginCal e f p (setTx e f k lane (setTx e f p 0xFE (setCal e f { c with running := true, began := wall s, spare := k } s)))
    else beginCal e f p (setTx e f p 0xFE (setCal e f { c with running := true, began := wall s } s))

/-- The routine part of a ring's slot: FSR and heater efficiency are measured, and a headroom below 360 GHz is re-centred (R241,
R246). -/
def tendRing (e side f k : Nat) (s : State) : State :=
  let s := measureRing e side f k s
  if headroom (getOe s e) side f k < 360 then recentre e side f k s else s

/-- CAL_SLOT_FINISH: the lane returns, at least 20 us before the slot ends; a line that failed calibration leaves its lane on the
spare. A slot that is not done by then, or whose line is locked wrongly, aborts, and the wrongly locked line fails (R246, R247).
DEDUCED (log 86), unsafe. -/
def doCalFinish (e f : Nat) (ok : Bool) (s : State) : State :=
  let c := calOf s e f
  if (getOe s e).state ≠ 5 ∨ !c.running then s
  else if (tget {} (getOe s e).locks (lockKey 0 f c.line)).declared then failTxLine e f c.line (endCal e f 0xFF s)
  else if c.due < wall s + 20000 then endCal e f 0xFF s
  else if ok then endCal e f 0xFF (tendRing e 0 f c.line s)
  else failTxLine e f c.line s

/-- CAL_BEGIN and CAL_END: the receive side calibrates for the same line (R245, R246); where its ring is still locked wrongly at the
end, the line fails (R247). -/
def doCalBegin (e : Nat) (m : OptMsg) (s : State) : State :=
  if (getOe s e).state ≠ 5 ∨ 8 ≤ m.fibre ∨ 18 ≤ m.line ∨ onLine (getOe s e).rxMap m.fibre m.line = 0xFD then s
  else tendRing e 1 m.fibre m.line (setRx e m.fibre m.line 0xFE s)
def doCalEnd (e : Nat) (m : OptMsg) (s : State) : State :=
  let o := getOe s e
  if o.state ≠ 5 ∨ 8 ≤ m.fibre ∨ 18 ≤ m.line ∨ onLine o.rxMap m.fibre m.line ≠ 0xFE then s
  else
    let s := setRx e m.fibre m.line 0xFF s
    if (tget {} o.locks (lockKey 1 m.fibre m.line)).declared then failRxLine e m.fibre m.line s else s

/-! ## Monitors (R251, R252) -/

/-- Numbers of the monitors: LI 0 and 1, PM 2 to 9, FC 10 to 17, RI 18 to 25, the peer's RI 26 to 33; the baseline of a
monitor stands 64 above its average. -/
def monPut (base : Nat) (l : List Int) (t : Tab Int) : Tab Int :=
  (List.range l.length).foldl (fun t i => tset 0 t (base + i) (l.getD i 0)) t
def monFall (o : OeSt) (i : Nat) : Int := tget 0 o.mon (64 + i) - tget 0 o.mon i
/-- The monitor at which a loss is located: the first stage on the way of the light that is low. -/
def lossAt (o : OeSt) (low : Int) (i : Nat) : Nat :=
  let is (k : Nat) : Bool := decide (low ≤ monFall o k)
  let feed (k : Nat) : Nat := if k < 4 then 0 else 1
  if 10 ≤ i ∧ i < 18 then (if is (feed (i - 10)) then feed (i - 10) else if is (i - 8) then i - 8 else i)
  else if 2 ≤ i ∧ i < 10 then (if is (feed (i - 2)) then feed (i - 2) else i)
  else if 26 ≤ i then
    (let k := i - 26; if is (feed k) then feed k else if is (2 + k) then 2 + k else if is (10 + k) then 10 + k else i)
  else i
/-- What a monitor serves is withdrawn. -/
def withdrawAt (e i : Nat) (s : State) : State :=
  if i < 2 then (List.range 4).foldl (fun s k => withdrawTx e (4 * i + k) s) s
  else if i < 10 then withdrawTx e (i - 2) s
  else if i < 18 then withdrawTx e (i - 10) s
  else if i < 26 then withdrawRx e (i - 18) s
  else withdrawTx e (i - 26) s
/-- Plant loss in 0.1 dB: the local coupler's reading less the peer's receiver input (R252). -/
def plantLoss (o : OeSt) (k : Nat) : Nat := ((tget 0 o.mon (10 + k) - tget 0 o.mon (26 + k)) / 10).toNat
/-- A warning names the stage at which the loss is located, the fall in 0.1 dB and, for the fibre plant, its loss (R252, R259).
DEDUCED (log 116), unsafe. -/
def warnLoss (e i : Nat) (s : State) : State :=
  let o := getOe s e
  let stage := lossAt o (10 * (numGet s oOptLossWarnDb 0 : Nat)) i
  report (72 + e) 0x0406 i 0 0
    (stage + 2 ^ 8 * (monFall o i / 10).toNat + (if 26 ≤ stage then 2 ^ 32 * plantLoss o (stage - 26) else 0)) s
/-- A monitor's average in ACTIVE is judged: warned of, or its fibres withdrawn; a laser input below +23 dBm is a feed lost (R224). -/
def judgeMon (e i : Nat) (s : State) : State :=
  let d := monFall (getOe s e) i
  let s := if 10 * (numGet s oOptLossWarnDb 0 : Nat) ≤ d then warnLoss e i s else s
  if 10 * (numGet s oOptLossFailDb 0 : Nat) ≤ d ∨ (i < 2 ∧ feedLow (tget 0 (getOe s e).mon i)) then withdrawAt e i s else s

/-- LINE_FAILED: the line fails here too; where no monitor on its way is low, the loss is at the peer's receiver (R252), stage 34 and
on. -/
def doLineFailed (e : Nat) (m : OptMsg) (s : State) : State :=
  let o := getOe s e
  let k := m.fibre
  let low : Int := 10 * (numGet s oOptLossWarnDb 0 : Nat)
  if o.state ≠ 5 then s
  else
    let normal := [if k < 4 then 0 else 1, 2 + k, 10 + k, 26 + k].all fun i => decide (monFall o i < low)
    let s := if k < 8 ∧ o.baseline ∧ normal then report (72 + e) 0x0406 (34 + k) 0 0 (34 + k) s else s
    failTxLine e k m.line s

def i16s (l : List Int) : List Byte := (List.range 8).flatMap fun i => leBytes 2 (wrap 16 (l.getD i 0))
/-- A feed below +23 dBm in the first window is lost too (R224). -/
def judgeFeed (e i : Nat) (s : State) : State := if feedLow (tget 0 (getOe s e).mon i) then withdrawAt e i s else s
/-- MONITOR_WINDOW: the first one in ACTIVE sets the baselines; two lost feeds take the link to LIGHT (R224, R254). -/
def doMonitor (e : Nat) (laser pm fc ri : List Int) (s : State) : State :=
  let o := getOe s e
  let put (b : Nat) (t : Tab Int) : Tab Int :=
    monPut (b + 18) (ri.take 8) (monPut (b + 10) (fc.take 8) (monPut (b + 2) (pm.take 8) (monPut b (laser.take 2) t)))
  let s := updOe e (fun o => { o with mon := put 0 o.mon, liSeen := true }) s
  if o.state ≠ 5 then s
  else if feedLow (laser.getD 0 0) && feedLow (laser.getD 1 0) then loseFeeds e s
  else
    let s := sendOpt e { type := 0x20, body := i16s fc ++ i16s ri } s
    if o.baseline then (List.range 26).foldl (fun s i => judgeMon e i s) s
    else judgeFeed e 1 (judgeFeed e 0 (updOe e (fun o => { o with mon := put 64 o.mon, baseline := true }) s))

/-- MON_REPORT: the peer's receiver inputs show the loss of the fibre plant. -/
def doMonReport (e : Nat) (m : OptMsg) (s : State) : State :=
  let o := getOe s e
  let l := (List.range 8).map fun k => sext 16 (leNat (slice m.body (16 + 2 * k) 2))
  if o.state ≠ 5 then s
  else
    let s := updOe e (fun o =>
      { o with mon := monPut 26 l (if o.peerBase then o.mon else monPut (64 + 26) l o.mon), peerBase := true }) s
    (List.range 8).foldl (fun s k => judgeMon e (26 + k) s) s

/-! ## Unknown types (R232) -/

def knownType (t : Nat) : Bool :=
  [0x01, 0x02, 0x03, 0x10, 0x11, 0x12, 0x13, 0x20, 0x30, 0x31, 0x40, 0x41, 0x42, 0x43, 0x50].contains t
def doUnknownType (e : Nat) (m : OptMsg) (s : State) : State :=
  if knownType m.type then s else report (72 + e) 0x040C 0 0 0 m.type s

def execLaneFrame (oe : Oe) (fibre line : Nat) (h : LaneHdr) (errs : Nat × Nat) (s : State) : Out :=
  .next (doLaneFrame oe fibre line h errs s)
def execLinkFrame (oe : Oe) (x : LinkFrameRx) (s : State) : Out := .next (doLinkFrame oe x s)
def execNakRepeat (oe : Oe) (s : State) : Out := .next (doNakRepeat oe s)
def execOptReplayTimeout (oe : Oe) (s : State) : Out := .next (doOptTimeout oe s)
def execKeyEpochAdvance (oe : Oe) (side : Side) (s : State) : Out := .next (doEpoch oe (side == .tx) s)
def execMislockRelock (oe : Oe) (side : Side) (fibre line : Nat) (verified : Bool) (s : State) : Out :=
  .next (doMislock oe (sideIx side) fibre line verified s)
def execRingHoldTimeout (oe : Oe) (side : Side) (fibre line : Nat) (s : State) : Out :=
  .next (doRingHold oe (sideIx side) fibre line s)
def execTxRingUnlockTimeout (oe : Oe) (fibre line : Nat) (s : State) : Out := .next (doTxUnlock oe fibre line s)
def execUrgentRecentre (oe : Oe) (side : Side) (fibre line : Nat) (s : State) : Out :=
  .next (doUrgent oe (sideIx side) fibre line s)
def execLineJudgeWindow (oe : Oe) (seen : List LineSeen) (s : State) : Out := .next (doJudge oe seen s)
def execCalSlotStart (oe : Oe) (fibre : Fin 8) (s : State) : Out := .next (doCalStart oe fibre s)
def execCalSlotFinish (oe : Oe) (fibre : Fin 8) (ok : Bool) (s : State) : Out := .next (doCalFinish oe fibre ok s)
def execMonitorWindow (oe : Oe) (laser pm fc ri : List Int) (s : State) : Out := .next (doMonitor oe laser pm fc ri s)
def execMoveToSpare (oe : Oe) (m : OptMsg) (s : State) : Out := .next (doMoveSpare oe m (hear oe m s))
def execMoveBack (oe : Oe) (m : OptMsg) (s : State) : Out := .next (doMoveBack oe m (hear oe m s))
def execLineFailed (oe : Oe) (m : OptMsg) (s : State) : Out := .next (doLineFailed oe m (hear oe m s))
def execTxSuspect (oe : Oe) (m : OptMsg) (s : State) : Out := .next (doSuspect oe m (hear oe m s))
def execMonReport (oe : Oe) (m : OptMsg) (s : State) : Out := .next (doMonReport oe m (hear oe m s))
def execCalBegin (oe : Oe) (m : OptMsg) (s : State) : Out := .next (doCalBegin oe m (hear oe m s))
def execCalEnd (oe : Oe) (m : OptMsg) (s : State) : Out := .next (doCalEnd oe m (hear oe m s))
def execWidth (oe : Oe) (m : OptMsg) (s : State) : Out := .next (doWidth oe m (hear oe m s))
def execUnknownControlType (oe : Oe) (m : OptMsg) (s : State) : Out := .next (doUnknownType oe m (hear oe m s))

end Sys2Proof.Machine
end

