-- ==== Sys2Proof/Machine/Read.lean ====
section
/-! DEFINITION. Machine/Read.lean: what a read of each object returns (R402 and the object tables of every chapter), object
descriptors (R401), and the pages that hosts read from the hubs (R344, R354, R357). -/
namespace Sys2Proof.Machine
open Sys2Proof

/-! ## Small encodings -/

def u8 (n : Nat) : List Byte := [byte n]
def u16 (n : Nat) : List Byte := leBytes 2 n
def u32 (n : Nat) : List Byte := leBytes 4 n
def u64 (n : Nat) : List Byte := leBytes 8 n
def i16 (i : Int) : List Byte := leBytes 2 (wrap 16 i)
/-- Binary32 nearest to `n / 10^8`. -/
def f32Ratio (n : Nat) : Nat :=
  if n = 0 then 0
  else
    let l := Nat.log2 (n * 2 ^ 60 / 10 ^ 8)
    let num := n * 2 ^ (83 - l)
    let q := num / 10 ^ 8
    let r := num % 10 ^ 8
    let m := if 2 * r < 10 ^ 8 ∨ (2 * r = 10 ^ 8 ∧ q % 2 = 0) then q else q + 1
    (l + 67) * 2 ^ 23 + (m - 2 ^ 23)
/-- Bytes that the manual leaves to the surroundings or to timing: free values (log 6). -/
def freeBytes (s : State) (row n : Nat) : List Byte := (List.range n).map fun j => byte (Config.freeAt s.free row j)

/-! ## The progress page (R344) -/

/-- Bytes 0 to 79. -/
def progHead (x : Ctx) : List Byte :=
  u64 x.pubWall ++ u64 x.pubFrames ++ u64 x.pubRetired ++ u64 x.faults ++ u64 x.pubLate ++ u32 x.snapshot ++
    [byte x.state, byte x.gen, byte (x.mask + 16 * x.slot), 0] ++ slice x.resetRec 0 32
def faultRing (x : Ctx) : List Byte := (List.range 16).flatMap fun i => slice (tget [] x.ring i) 0 64
def progPage (x : Ctx) : List Byte := progHead x ++ List.replicate 944 0 ++ faultRing x ++ List.replicate 2048 0

/-! ## Identity and paths (R422) -/

/-- The rows of the dictionary, with every optical engine's own indices (R257). -/
def allRows : List Obj :=
  let lo := objTable.filter fun o => o.index < 0x4000
  let oe := objTable.filter fun o => decide (0x4000 ≤ o.index) && decide (o.index < 0x4020)
  let hi := objTable.filter fun o => 0x4020 ≤ o.index
  lo ++ (List.range 24).flatMap (fun e => oe.map fun o => { o with index := oeObj e o.index }) ++ hi
/-- *OBJ_CATALOGUE*. -/
def catalogue : List Byte :=
  allRows.flatMap fun o => (List.range (o.hi + 1 - o.lo)).flatMap fun i => u16 o.index ++ [byte (o.lo + i), 0]

def readIdentity (ix sub : Nat) : Option (List Byte) :=
  if ix = 0x1000 then
    some (if sub = 1 then utf8 "Ndekor Microsystems" else if sub = 2 then utf8 "ISK-6400"
          else if sub = 3 then Config.orderingCode.take 256 else if sub = 4 then Config.serial.take 256
          else if sub = 5 then u16 Config.packageRevision else if sub = 6 then u32 Config.ianaEnterprise
          else slice Config.macBase 0 6)
  else if ix = oObjCatalogue then some catalogue
  else none

/-! ## Facets, links, hosts (R36, R72, R218, R463) -/

def siteTable (s : State) : List Byte :=
  (List.range 100).flatMap fun k => [byte (tget 0 s.straps k - 1), byte (tget 0 s.siteStatus k)]
def startupTimes (s : State) : List Byte :=
  u64 s.hub.fwRunning ++ (List.range 4).flatMap fun f => u64 (tget 0 s.hub.powered f) ++ u64 (tget 0 s.hub.firstTick f)

def readFacet (s : State) (ix sub : Nat) : Option (List Byte) :=
  let f := getFacet s (sub - 1)
  if ix = oFacetState then some (u8 f.state)
  else if ix = oFacetFrameNumber then some (u32 f.frameNo)
  else if ix = oFacetLastTick then some (u64 f.openWall)
  else if ix = oFacetJoinMask then some (u8 (joinMask s (sub - 1)))
  else if ix = oFrameRecords then some (f.records.flatMap FrameRec.bytes)
  else if ix = oStretchedFrames then some (u64 f.stretched)
  else if ix = oWallTime then some (u64 (wall s))
  else if ix = oSiteTable then some (siteTable s)
  else if ix = oStartupState then some (u8 s.hub.startup)
  else if ix = oStartupTimes then some (startupTimes s)
  else if ix = oDmemStatus then some (u32 (dmemCtrl s (sub - 1)))
  else if ix = oPkgLinkState then some (u8 (getLink s (sub - 1)).state)
  else if ix = oPkgLinkModules then some (u8 (getLink s (sub - 1)).modules)
  else if ix = oPkgLinkLaneRepairs then some (u16 (getLink s (sub - 1)).repairs)
  else if ix = oFwTable then some (slice (blobGet s ix sub) 0 1024)
  else if ix = oHostLinkState then some (u8 (getHost s (sub - 1)).link)
  else if ix = oHostLinkWidth then some (u16 (getHost s (sub - 1)).width)
  else if ix = oHostIdentity then some (slice (getHost s (sub - 1)).identity 0 8)
  else none

/-! ## Power and heat (R445) -/

/-- Sensors of a site's die (R437), and whether it is powered. -/
def sensorCount (site : Nat) : Nat := if site < 32 then 6 else 2
def sitePowered (s : State) (site : Nat) : Bool :=
  match siteFacet site with
  | some f => (getFacet s f).state != 0 && (getFacet s f).rstStep != 2
  | none => site < 98 || (getHost s (site - 98)).admitted
def readSensors (s : State) (site : Nat) : List Byte :=
  (List.range (sensorCount site)).flatMap fun i =>
    i16 (tget 0 s.pw.sensorValue (8 * site + i)) ++
      u8 (if bit (tget 0 s.pw.sensorFailed site) i then 1 else if sitePowered s site then 0 else 2)
/-- *THROTTLE_LEVEL*: the level, and which of heat, power and sag it stems from.
DEDUCED (log 29), unsafe. -/
def throttleByte (s : State) (f : Nat) : Nat :=
  let x := getFacet s f
  let g (n : Nat) : Nat := bnat (x.level != 0 && n == x.level)
  x.level + 16 * g x.thermLevel + 32 * g x.powerLevel + 64 * g (if s.pw.supply = 1 then 7 else 0)

def readPower (s : State) (ix sub : Nat) : Option (List Byte) :=
  if ix = oSupplyState then some (u8 s.pw.supply)
  else if ix = oSupplyVoltage then some (u16 s.pw.volts)
  else if ix = oInputPower then some (u32 s.pw.inputPower)
  else if ix = oFacetPower then some (u32 (getFacet s (sub - 1)).power)
  else if ix = oThrottleLevel then some (u8 (throttleByte s (sub - 1)))
  else if ix = oDomainPower then some (freeBytes s 0 272)
  else if ix = oCapExceeded then some (u32 s.pw.shortOver ++ u32 s.pw.sustOver)
  else if ix = oDieTempEst then some (i16 (tget 0 s.pw.temp (sub - 1)))
  else if ix = oDieSensors then some (readSensors s (sub - 1))
  else if ix = oSensorFailed then some (u8 (tget 0 s.pw.sensorFailed (sub - 1)))
  else if ix = oThermalState then some (u8 (thermState s (sub - 1)))
  else if ix = oTripRecord then some (slice s.pw.tripRecord 0 64)
  else if ix = oSupplyEvents then some (u32 s.pw.sags ++ u64 s.pw.sagNs ++ u32 s.pw.stops)
  else if ix = oFlashWritePermitted then some (u8 (bnat (flashOk s)))
  else if ix = oCoolantInlet then some (match s.pw.coolant with | some t => i16 t | none => u16 0x8000)
  else none

/-! ## Optical ports (R257, R258) -/

/-- A monitor's average and its baseline. -/
def monPair (o : OeSt) (i : Nat) : List Byte := i16 (tget 0 o.mon i) ++ i16 (tget 0 o.mon (64 + i))

def readOpt (s : State) (ix sub : Nat) : Option (List Byte) :=
  let e := (ix - 0x4000) / 0x20
  let o := getOe s e
  let r := rowIndex ix
  if r = oOptLinkState then some (u8 o.state)
  else if r = oOptPeer then
    some (if o.lockNo = 0 then List.replicate 7 0
          else u16 o.peerNode ++ [byte o.peerOe, byte o.txFibres, byte o.rxFibres] ++ u16 o.lengthM)
  else if r = oOptTxLaneMap then some ((List.range 18).map fun k => byte (onLine o.txMap (sub - 1) k))
  else if r = oOptRxLaneMap then some ((List.range 18).map fun k => byte (onLine o.rxMap (sub - 1) k))
  else if r = oOptTxMon then some (monPair o (1 + sub) ++ monPair o (9 + sub))
  else if r = oOptRxMon then some (monPair o (17 + sub))
  else if r = oOptLaserIn then some (i16 (tget 0 o.mon (sub - 1)))
  else if r = oOptPrefecBer then some (u32 (f32Ratio (tget 0 o.ber (sub - 1))))
  else if r = oOptHeater then
    some ((List.range 18).flatMap fun k => u16 (heaterAt o ((sub - 1) / 8) ((sub - 1) % 8) k).toNat)
  else none

def readLsm (s : State) (ix sub : Nat) : Option (List Byte) :=
  if ix = oOptLsmState then some (u8 (getLsm s (sub - 1)).state)
  else if ix = oOptLsmIdentity then some (slice (getLsm s (sub - 1)).identity 0 48)
  else if ix = oOptLsmMon then some (freeBytes s sub 10)
  else none

/-! ## Memory tiers (R160, R181) -/

def readMemory (s : State) (ix sub : Nat) : Option (List Byte) :=
  let c := getCd s (sub - 1)
  let x := getFd s (sub - 1)
  if ix = oNearState then some (u8 c.near)
  else if ix = oNearSpareMap then some (leBytes 32 c.spareMap)
  else if ix = oNearRefreshBand then some (u8 c.band)
  else if ix = oNearRefreshDebt then some (leBytes 4 (wrap 32 c.debt))
  else if ix = oNearRefreshCycles then some (u16 (refreshCycles (getFacet s (sub - 1)).frameCycles))
  else if ix = oNbcLastCommand then some ((List.range 8).flatMap fun l => leBytes 16 (tget 0 c.lastCmd l))
  else if ix = oFarState then some (u8 x.state)
  else if ix = oFarSpareMap then some (leBytes 4 x.spareMap)
  else if ix = oFarQueueFullNs then
    some (u64 (numGet s oFarQueueFullNs sub + (if x.fullAt = 0 then 0 else wall s + 1 - x.fullAt)))
  else if ix = oFarRefreshBand then some (u8 x.band)
  else none

/-! ## Fabric, collectives, contexts (R292, R321, R350) -/

/-- Requests outstanding on the device in an epoch (R288). -/
def epochOut (s : State) (e : Nat) : Nat :=
  (List.range 32).foldl (fun n d => n + outCount s d 0 e + outCount s d 1 e) 0
/-- The four latest epochs, by their number modulo 4.
DEDUCED (log 29), unsafe. -/
def epochTable (s : State) : List Byte :=
  let now := numGet s oRouteEpoch 0
  (List.range 4).flatMap fun i =>
    let e := now + 65536 - (now + 4 - i) % 4
    u16 e ++ u64 (epochOut s e)
def collStats (s : State) (pd : Nat) : List Byte :=
  let ps := s.plans.filter (·.pd == pd)
  let ended := (s.insts.filter fun i => i.pd == pd && i.doneAt.isSome).length
  u16 ps.length ++ u16 (s.insts.filter fun i => i.pd == pd && i.doneAt.isNone).length ++
    u32 ((48 * 2 ^ 20 - ps.foldl (fun n p => n + p.reserve) 0) / 1024) ++ u64 ((getPd s pd).completed + ended) ++ u64 (getPd s pd).aborts

def ownedBy (s : State) (c kind : Nat) : Nat :=
  (s.owner.filter fun e => decide (ownKey kind 0 0 ≤ e.1) && decide (e.1 < ownKey kind 32 0) && e.2 == c).length

def readFabric (s : State) (ix sub : Nat) : Option (List Byte) :=
  let x := getCtx s sub
  if ix = oFabEpochOutstanding then some (epochTable s)
  else if ix = oCollEngineStats then some (collStats s (sub - 1))
  else if ix = oCollHoldState then some (u8 (bnat !s.barrierHold.isEmpty))
  else if ix = oCtxState then some (u8 x.state)
  else if ix = oCtxGen then some (u8 x.gen)
  else if ix = oCtxBinding then some ([byte x.mask, byte x.slot] ++ u16 x.fcDecl ++ u64 x.bindWall)
  else if ix = oCtxMemory then
    some (u32 (ownedBy s sub 0) ++ u32 (ownedBy s sub 1) ++ u32 (ownedBy s sub 2) ++ u32 (zeroing s sub))
  else if ix = oCtxProgress then some (progHead x)
  else if ix = oCtxFaults then some (faultRing x)
  else if ix = oCtxLastReset then some (slice x.resetRec 0 32)
  else if ix = oCtxInUse then some (u8 (s.ctxs.filter fun e => e.2.state != 0).length)
  else none

/-! ## Security (R390) -/

/-- Visits to SERVICE left (R388). -/
def visitsLeft (s : State) : Nat :=
  24 - (((List.range 48).filter fun i => bit s.sec.lc (2 + i)).length + 1) / 2
/-- *BOOT_RECORD*. -/
def bootRecord (s : State) : List Byte := u64 s.sec.boots ++ u8 s.sec.failCode ++ u32 s.sec.loaderEntries
def tamperState (s : State) : List Byte := u8 s.sec.tamper ++ u64 s.sec.tamperAt
def rootHub (s : State) : Nat := bnat s.hub.hb1Primary + 128 * bnat (s.hub.hb0Failed || s.hub.hb1Failed)
/-- The first 16 bytes of HKDF(key, info "isk-kcv") (R374). -/
def kcvOf (key : List Byte) : List Byte := slice (Config.hkdfExpand (Config.hkdfExtract [] key) (utf8 "isk-kcv")) 0 16
def keyBits (s : State) (p : KeySt → Bool) : List Byte :=
  (List.range 32).map fun i => byte ((List.range 8).foldl (fun n j => n + bnat (p (getKey s (8 * i + j))) * 2 ^ j) 0)

/-- Objects that read fuses, the boot record and secure SRAM. -/
def readSec (s : State) (ix : Nat) : Option (List Byte) :=
  if ix = oLcState then some (u8 (lcState s + 128 * bnat s.sec.leavePending))
  else if ix = oLcServiceLeft then some (u8 (visitsLeft s))
  else if ix = oDeviceIdKey then
    some (if s.sec.idSeed.isEmpty then [] else slice (Config.ed25519Pub s.sec.idSeed) 0 32)
  else if ix = oFwMeasurement then some (slice s.sec.fwMeasure 0 64)
  else if ix = oFwSecurityVersion then some (u32 s.sec.fwVersion ++ u32 s.sec.svMin)
  else if ix = oRootHub then some (u8 (rootHub s))
  else if ix = oTamperState then some (tamperState s)
  else if ix = oKeysPresent then some (keyBits s (fun k => !k.key.isEmpty) ++ keyBits s (·.recover))
  else if ix = oBootRecord then some (bootRecord s)
  else if ix = oRecoveredKeys then
    some (s.sec.recovered.flatMap fun e => [byte e.1, byte e.2.gen] ++ slice e.2.kcv 0 16)
  else none

/-! ## Journal, twin, error log (R422) -/

/-- The entry at a ring position, 64 bytes; zero where none was written. -/
def ringEntry (t : Tab JEntry) (k : Nat) : List Byte := slice (tget {} t k).bytes 0 64
def ckptBytes (c : Checkpoint) : List Byte := slice c.bytes 0 128
/-- Lowest and highest SEQUENCE of a held journal, 0 where it is empty. -/
def heldLow (t : Tab JEntry) : Nat := (t.head?.map (·.2.seq)).getD 0
def heldHigh (t : Tab JEntry) : Nat := (t.getLast?.map (·.2.seq)).getD 0
/-- The first number from `k` on that a journal lacks below its newest entry; none where it lacks none. -/
def gapFrom (k : Nat) : Tab JEntry → Option Nat
  | [] => none
  | (a, _) :: t => if a < k then gapFrom k t else if a = k then gapFrom (k + 1) t else some k
/-- The lowest SEQUENCE lacking among the 65,536 that end with the newest entry held (R421). -/
def firstGap (t : Tab JEntry) : Option Nat := gapFrom (heldHigh t + 1 - 65536) t

def readJournal (s : State) (ix : Nat) : Option (List Byte) :=
  if ix = oJournalHead then some (u64 (jseq s))
  else if ix = oJournalEntries then some ((List.range 65536).flatMap (ringEntry s.jrnl.ring ·))
  else if ix = oJournalLastCheckpoint then some (ckptBytes (s.jrnl.last.getD {}))
  else if ix = oJournalCheckpoints then
    some ((List.range (min 4096 s.flash.nCkpts)).flatMap fun k => ckptBytes (tget {} s.flash.ckpts k))
  else if ix = oJournalMirrorAcked then some (u64 s.twin.journalAcked)
  else if ix = oJournalFlashPending then some (u8 s.standby.waiting.length ++ u32 s.standby.dropped)
  else if ix = oJournalBootSeq then some (u64 s.jrnl.bootSeq)
  else if ix = oTwinState then some (u8 s.twin.state)
  else if ix = oTwinNode then some (u16 s.twin.node)
  else if ix = oTwinMirrorStatus then
    some (u64 (heldHigh s.twin.holdJournal) ++ u64 s.twin.holdImageSeq ++ u32 s.twin.holdBlobCount)
  else if ix = oTwinHeld then
    some (if s.twin.holdId.isEmpty then List.replicate 34 0
          else u16 s.twin.holdNode ++ slice s.twin.holdId 0 16 ++ u64 (heldLow s.twin.holdJournal) ++
            u64 (heldHigh s.twin.holdJournal))
  else if ix = oInheritedJournal then some (s.twin.inhJournal.flatMap fun e => slice e.2.bytes 0 64)
  else if ix = oInheritedCheckpoints then some (s.twin.inhCkpts.flatMap ckptBytes)
  else if ix = oTwinPullStatus then some (u8 s.twin.pullStatus ++ u64 ((firstGap s.twin.inhJournal).getD 0))
  else if ix = oLogRing then some ((List.range 4096).flatMap fun k => (tget {} s.elog.ring k).bytes)
  else if ix = oLogHead then some (u64 s.elog.head)
  else if ix = oLogOverflow then some (u64 s.elog.overflow)
  else if ix = oLogOverwritten then some (u64 s.elog.overwritten)
  else if ix = oLogOpen then some (u8 s.elog.open_.length)
  else none

/-! ## The value of an object -/

/-- BLOB objects of counters, whose default is zero bytes at their full length. -/
def zeroBlobs : List Nat :=
  [0x1105, 0x2055, 0x2061, 0x2065, 0x2066, 0x5028, 0x502D, 0x600A, 0x600B, 0x6105, 0x6108]

/-- A value held in the dictionary: a scalar at its size, or the bytes of a BLOB. -/
def storedValue (s : State) (o : Obj) (ix sub : Nat) : List Byte :=
  if 8 ≤ o.type ∧ o.type ≤ 9 then
    (if zeroBlobs.contains ix then slice (blobGet s ix sub) 0 o.maxLen else blobGet s ix sub)
  else leBytes (scalarSize o.type) (numGet s ix sub)

/-- The value in force of an object that exists (R402, R464). -/
def objValue (s : State) (o : Obj) (ix sub : Nat) : List Byte :=
  let v := if ix < 0x2000 then readIdentity ix sub
    else if ix < 0x3000 then readFacet s ix sub
    else if ix < 0x4000 then readPower s ix sub
    else if ix < 0x4300 then readOpt s ix sub
    else if ix < 0x5000 then readLsm s ix sub
    else if ix < 0x6000 then readMemory s ix sub
    else if ix < 0x7800 then readFabric s ix sub
    else if ix < 0x8000 then readSec s ix
    else readJournal s ix
  v.getD (storedValue s o ix sub)

/-! ## Descriptors (R401) -/

/-- A refusal of a write is journaled: FLAGS bit 1 (R288, R351, R381, R391; log 63). -/
def refusalLogged (ix : Nat) : Bool :=
  [oFacetReset, oPortMask, oNodeId, oAxisSize, oOrderMode, oLcCommand, oFwImage, oKeyRecover, oSessionOpen, oKeyProvision].contains ix

/-- The default's bytes.
DESIGN CHOICE (log 30), unsafe. -/
def defaultBytes (o : Obj) (sub : Nat) : List Byte :=
  if o.index = 0x1000 ∧ sub ≤ 2 then (readIdentity 0x1000 sub).getD []
  else if 8 ≤ o.type ∧ o.type ≤ 9 then
    (if zeroBlobs.contains o.index then List.replicate o.maxLen 0 else blobDefault (objKey o.index sub))
  else if o.index = oFacetJoinMask then u8 (2 ^ (sub - 1))
  else leBytes (scalarSize o.type) o.dflt
/-- The TYPE code; I16, which has no code, is shown as 0x0A (log 40).
DESIGN CHOICE (log 30), unsafe; DEDUCED (log 63), unsafe. -/
def descriptor (o : Obj) (sub : Nat) : List Byte :=
  [byte o.type, byte o.access, byte o.effect, byte (bnat o.persist + 2 * bnat (refusalLogged o.index))] ++ u32 o.maxLen ++
    slice (utf8 o.unit) 0 32 ++ defaultBytes o sub

/-! ## Access (R392, R401, R405) -/

/-- Journal codes of the paths (R392). -/
def pathCode : Path → Nat
  | .own => 0 | .mgt0 => 1 | .mgt1 => 2 | .mctp => 3 | .hd0 => 4 | .hd1 => 5 | .twn => 6 | .svc => 7
def codePath (n : Nat) : Path :=
  match n with | 1 => .mgt0 | 2 => .mgt1 | 3 => .mctp | 4 => .hd0 | 5 => .hd1 | 6 => .twn | 7 => .svc | _ => .own
/-- The two ACCESS bits of a path: 1 read, 2 write. -/
def access (o : Obj) (p : Path) : Nat :=
  match p with
  | .own => 3
  | .mgt0 | .mgt1 | .mctp => bits o.access 0 2
  | .hd0 | .hd1 => bits o.access 2 2
  | .twn => bits o.access 4 2
  | .svc => bits o.access 6 2

/-- A read by a path (R405): its STATUS (R399) and the value.
DEDUCED (log 36), unsafe. -/
def objRead (s : State) (p : Path) (ix sub : Nat) : Nat × List Byte :=
  match findObj ix sub with
  | none => (5, [])
  | some o => if bit (access o p) 0 then (0, objValue s o ix sub) else (4, [])

/-! ## Pages read by the hosts (R354, R357) -/

/-- `n` bytes of the hubs' space from a node offset: progress pages, the journal window, doorbell pages with the seal
count of the context's key in place, else what memory holds. -/
def hubRead (s : State) (a n : Nat) : List Byte :=
  if a < doorBase 0 then
    let c := (a - progBase) / 0x1000
    let k := (a - progBase) % 0x1000
    slice ((List.range ((k + n + 0xFFF) / 0x1000)).flatMap fun i => progPage (getCtx s (c + i))) k n
  else if a < mailBase 0 then
    let c := (a - doorBase 0) % 0x100000 / 0x1000
    let cnt := u64 (getKey s c).sealCount
    (List.range n).map fun i =>
      let o := (a - doorBase 0 + i) % 0x1000
      if 0x110 ≤ o ∧ o < 0x118 then cnt.getD (o - 0x110) 0
      else if o < 0x100 then 0 else memGet s (a + i)
  else if journalBase ≤ a ∧ a < xchBase 0 then
    let k := (a - journalBase) / 64
    slice ((List.range ((n + 127) / 64)).flatMap fun i => ringEntry s.jrnl.ring ((k + i) % 65536)) ((a - journalBase) % 64) n
  else readBytes s a n

end Sys2Proof.Machine
end

