-- ==== Sys2Proof/Machine/Power.lean ====
section
/-! DEFINITION. Machine/Power.lean: the supply monitor and the orderly stop (R424 to R429), the caps (R431), the thermal
model's own updates and its sensors (R436 to R438), the trip (R440, R441), and the failure of both hubs (R369, R429). -/
namespace Sys2Proof.Machine
open Sys2Proof

/-! ## Everything off -/

/-- Every descriptor in flight is abandoned as R69 abandons it; no context changes state (R427 step 1). -/
def stopStreams (s : State) : State := s.ctxs.foldl (fun s e => abandon e.1 s) s
/-- Every laser supply output is disabled, and the modules go to low power (R427, R440, R457). -/
def darkModule (m : Nat) (s : State) : State :=
  if (getLsm s m).state = 0 then s
  else emit (.lsm m 0 15) (updLsm m (fun x => { x with outputs := 0, state := 1 }) s)
def darkLasers (s : State) : State := (List.range 12).foldl (fun s m => darkModule m s) s
/-- Every facet enters OFF with its forwarding domain; the links without a powered end are OFF (R207, R427 step 3). -/
def allOff (s : State) : State :=
  let s := [0, 1, 2, 3].foldl (fun s f => facetOff f true s) s
  { s with hub.forwarding := false, links := tkeep s.links (fun n => 132 ≤ n), dirs := tkeep s.dirs (fun n => 264 ≤ n) }

/-! ## Sag (R425, R426) -/

/-- SAG_ENTER: below 40.0 V for 5 us. -/
def doSagEnter (v : Nat) (s : State) : State :=
  if !s.hub.on ∨ s.pw.supply ≠ 0 ∨ 4000 ≤ v then s
  else
    let now := wall s
    let s : State := { s with pw.supply := 1, pw.volts := v, pw.sagStart := now, pw.sags := (s.pw.sags + 1) % 2 ^ 32 }
    let s := [0, 1, 2, 3].foldl (fun s f =>
      if (getFacet s f).state = 0 then s else raiseLevel f (updFacet f (fun x => { x with fCap := true }) s)) s
    powerEvent 0x0B01 0 true true (hubSite s) s

/-- The time in SAG is added up. -/
def leaveSag (s : State) : State :=
  if s.pw.supply = 1 then { s with pw.sagNs := (s.pw.sagNs + (wall s - s.pw.sagStart)) % 2 ^ 64 } else s

/-! ## The orderly stop (R427) -/

/-- Steps 1 to 4: streams stop, buffers are written back, light and facets go off, and the journal is flushed and closed.
A trip that came before it has left nothing but the flush to do (R440). -/
def startStop (code : Nat) (s : State) : State :=
  let s := leaveSag s
  let s := powerEvent code 0 true true (hubSite s) { s with pw.supply := 2, pw.stops := (s.pw.stops + 1) % 2 ^ 32 }
  let s := allOff (darkLasers { stopStreams s with ubuf := [] })
  let s := flush 0 (powerEvent 0x0B05 0 true false (hubSite s) s)
  { s with jrnl.closed := true }

/-- ORDERLY_STOP: below 36.0 V or above 60.0 V for 200 us. -/
def doStop (high : Bool) (v : Nat) (s : State) : State :=
  if !s.hub.on ∨ 2 ≤ s.pw.supply ∨ (if high then v ≤ 6000 else 3600 ≤ v) then s
  else startStop (if high then 0x0B04 else 0x0B03) { s with pw.volts := v }
/-- SAG_TIMEOUT: 10 ms in SAG. -/
def doSagTimeout (s : State) : State :=
  if s.pw.supply = 1 then startStop 0x0B03 (advanceTo (s.pw.sagStart + 10000000) s) else s
/-- SAG_EXIT: at or above 40.5 V for 1 ms; one that comes 10 ms after the sag began, or later, finds the stop begun (R25,
R425). -/
def doSagExit (v : Nat) (s : State) : State :=
  if s.pw.supply ≠ 1 ∨ v < 4050 ∨ 6000 < v then s
  else if s.pw.sagStart + 10000000 ≤ wall s then doSagTimeout { s with pw.volts := v }
  else
    let s := leaveSag (advanceTo (s.pw.sagStart + 1000000) s)
    powerEvent 0x0B02 0 true true (hubSite s) { s with pw.supply := 0, pw.volts := v }
/-- STOP_COMPLETE: step 5; THERMTRIP_N is low while STOPPED (R452). -/
def doStopComplete (s : State) : State :=
  if s.pw.supply = 2 then { s with pw.supply := 3, hub.thermTrip := true } else s

/-- Both hubs have failed: steps 1 and 2 of a stop at once, and every facet OFF at its next tick; one that does not tick
is OFF now (R369, R429). No hub is left to make a journal entry.
DEDUCED (log 59), unsafe. -/
def hubsGone (s : State) : State :=
  let s := darkLasers { stopStreams s with ubuf := [], hub.bothFailed := true, jrnl.closed := true }
  [0, 1, 2, 3].foldl (fun s f => if ticking (getFacet s f) then s else facetOff f true s) s

/-! ## Caps (R431) -/

/-- POWER_CAP_WINDOW: a window of 1 ms ended with an energy in mJ, which is its mean power in W. -/
def doCapWindow (mj : Nat) (s : State) : State :=
  if !s.hub.on then s
  else
    let s := advanceTo (s.pw.winEnd + 1000000) s
    let ws := s.pw.windows ++ [mj]
    let s : State := { s with pw.windows := ws.drop (ws.length - 100), pw.winEnd := s.pw.winEnd + 1000000, pw.inputPower := mj }
    let short := decide (shortCap s < mj)
    let sust := decide (sustainedCap s < meanPower s)
    let s : State := { s with pw.shortOver := (s.pw.shortOver + bnat short) % 2 ^ 32,
                              pw.sustOver := (s.pw.sustOver + bnat sust) % 2 ^ 32 }
    let sec := wall s / 1000000000
    if (short || sust) && s.pw.lastCapReport != some sec then
      powerEvent 0x0B06 mj false true (hubSite s) { s with pw.lastCapReport := some sec }
    else s

/-! ## The thermal model (R436 to R438) -/

/-- SHARED_MODEL_UPDATE: every 8 us the hubs' and host dies' estimates. -/
def doSharedModel (p : Nat) (l : List TempEst) (s : State) : State :=
  if !s.hub.on then s
  else
    let s := advanceTo (s.pw.modelAt + 8000) s
    let s : State := { s with pw.modelAt := wall s / 8000 * 8000, pw.inputPower8 := p }
    setTemps (l.filter fun e => decide (96 ≤ e.site)) s

/-- A reading deviates from its reference by more than 5 K (R438). -/
def deviates (a b : Int) : Bool := decide (500 < a - b) || decide (500 < b - a)
/-- A sensor is marked failed; a die whose sensors have all failed is logged too. -/
def failSensor (site k : Nat) (s : State) : State :=
  let m := setBit (tget 0 s.pw.sensorFailed site) k
  let s := powerEvent 0x0B08 k false true site { s with pw.sensorFailed := tset 0 s.pw.sensorFailed site m }
  if m = 2 ^ sensorCount site - 1 then powerEvent 0x0B09 0 false true site s else s
/-- One sensor is read: a reading that deviates is read again, and the second deviation fails the sensor. -/
def readSensor (r : SensorRead) (s : State) : State :=
  if 100 ≤ r.site || sensorCount r.site ≤ r.sensor || !sitePowered s r.site ||
      bit (tget 0 s.pw.sensorFailed r.site) r.sensor then s
  else
    let again := deviates r.reading r.reference
    if again && deviates r.reread r.rereadRef then failSensor r.site r.sensor s
    else { s with pw.sensorValue := tset 0 s.pw.sensorValue (8 * r.site + r.sensor) (if again then r.reread else r.reading) }

/-- THERMAL_ANCHOR: every *THERMAL_ANCHOR_PERIOD*. The model's nodes at the sensors take the readings.
DESIGN CHOICE (log 22), safe. -/
def doAnchor (l : List SensorRead) (s : State) : State :=
  if !s.hub.resumed then s
  else
    let s := advanceTo (s.pw.anchorAt + 1000000 * numGet s oThermalAnchorPeriod 0) s
    let now := wall s
    l.foldl (fun s r => readSensor r s) { s with pw.anchorAt := now }
/-- A read of *DIE_SENSORS* on a path that may read it. -/
def doDieSensors (p : Path) (site : Nat) (l : List SensorRead) (s : State) : State :=
  match findObj oDieSensors (site + 1) with
  | some o => if bit (access o p) 0 && s.hub.firmware then (l.filter (·.site == site)).foldl (fun s r => readSensor r s) s else s
  | none => s

/-! ## The trip (R440, R441) -/

/-- The 64 bytes of a trip record; `commit` its COMMIT code. -/
def tripBytes (s : State) (site : Nat) (sensor : Option Nat) (temp : Int) (commit : Nat) : List Byte :=
  u64 (wall s) ++ [byte site, byte (bnat sensor.isSome), byte (sensor.getD 0xFF), byte commit] ++ i16 temp ++
    i16 (tget 0 s.pw.temp site) ++ u32 (10 * s.pw.volts) ++ u32 s.pw.inputPower8 ++
    [0, 1, 2, 3].flatMap (fun f => u32 (getFacet s f).frameNo) ++ [0, 1, 2, 3].map (fun f => byte (getFacet s f).level) ++
    u64 s.sec.boots ++ List.replicate 12 0
/-- A record's COMMIT byte. -/
def withCommit (r : List Byte) (n : Nat) : List Byte := r.take 11 ++ [byte n] ++ r.drop 12
/-- A trip record is written to the next slot of its ring in flash (R456), and read as *TRIP_RECORD*. -/
def commitTrip (r : List Byte) (s : State) : State :=
  let k := s.flash.tripNext % 2048
  let old := if k % 1024 = 0 then tclear s.flash.trips k (k + 1024) else s.flash.trips
  { s with flash.trips := tset [] old k r, flash.tripNext := s.flash.tripNext + 1,
           standby.trip := none, pw.tripRecord := r }

/-- Steps 1 and 2 of a trip: facets OFF, lasers dark, the record in the retained SRAM. -/
def tripStop (r : List Byte) (s : State) : State :=
  let s := allOff (darkLasers { s with pw.tripped := true, hub.thermTrip := true })
  { s with standby.trip := some r, pw.tripRecord := r }
/-- Step 3: the entry, the record's commit where R443 permits it, the flush. -/
def tripJournal (site : Nat) (r : List Byte) (s : State) : State :=
  let s := powerEvent 0x0B0A 0 true true site s
  let s := if flashOk s then commitTrip (withCommit r 1) s else s
  { flush 3 s with jrnl.closed := true }
/-- A hub's own estimate has reached 115.0 degrees: the hubs stop after step 2 (R440).
DEDUCED (log 23), safe. -/
def hubHot (s : State) : Bool := decide (11500 ≤ tget 0 s.pw.temp 96) || decide (11500 ≤ tget 0 s.pw.temp 97)
/-- A reading that cannot trip the package: below 115.0 degrees, or of a sensor that is absent or failed (R438, R440). -/
def tripIdle (site : Nat) (sensor : Option Nat) (temp : Int) (s : State) : Bool :=
  !s.hub.on || s.pw.tripped || decide (temp < 11500) ||
    (match sensor with | some k => decide (sensorCount site ≤ k) || bit (tget 0 s.pw.sensorFailed site) k | none => false)
/-- THERMAL_TRIP: an estimate (no sensor) or a valid sensor at 115.0 degrees or more.
DEDUCED (log 23), safe. -/
def doTrip (site : Nat) (sensor : Option Nat) (temp : Int) (v : Nat) (s : State) : State :=
  if tripIdle site sensor temp s then s
  else
    let s : State := { s with pw.volts := v, pw.temp := if sensor.isNone then tset 0 s.pw.temp site temp else s.pw.temp }
    let r := tripBytes s site sensor temp 0
    if hubHot s then let s := tripStop r s; { s with pw.hubTrip := true, jrnl.closed := true }
    else tripJournal site r (tripStop r s)

/-! ## The coolant -/

/-- COOLANT_INLET_REPORT, in 0.1 degrees C (R455). -/
def doCoolant (t : Int) (s : State) : State := if hubUp s then { s with pw.coolant := some (10 * t) } else s

def execSagEnter (volts10mV : Nat) (s : State) : Out := .next (doSagEnter volts10mV s)
def execSagExit (volts10mV : Nat) (s : State) : Out := .next (doSagExit volts10mV s)
def execSagTimeout (s : State) : Out := .next (doSagTimeout s)
def execOrderlyStop (high : Bool) (volts10mV : Nat) (s : State) : Out := .next (doStop high volts10mV s)
def execStopComplete (s : State) : Out := .next (doStopComplete s)
def execPowerCapWindow (energyMj : Nat) (s : State) : Out := .next (doCapWindow energyMj s)
def execSharedModelUpdate (inputPower : Nat) (temps : List TempEst) (s : State) : Out :=
  .next (doSharedModel inputPower temps s)
def execThermalAnchor (reads : List SensorRead) (s : State) : Out := .next (doAnchor reads s)
def execDieSensors (path : Path) (site : SiteNo) (reads : List SensorRead) (s : State) : Out :=
  .next (doDieSensors path site reads s)
def execThermalTrip (site : SiteNo) (sensor : Option Nat) (temp : Int) (volts10mV : Nat) (s : State) : Out :=
  .next (doTrip site sensor temp volts10mV s)
def execCoolantInletReport (tenthC : Int) (s : State) : Out := .next (doCoolant tenthC s)

end Sys2Proof.Machine
end

