-- ==== Sys2Proof/Machine/Secure.lean ====
section
/-! DEFINITION. Machine/Secure.lean: secure SRAM and its wipe (R375, R376), firmware images (R370, R371), certificates
(R378), sessions and context keys (R380 to R382), key recovery (R385), and the life cycle (R386 to R389). -/
namespace Sys2Proof.Machine
open Sys2Proof

/-! ## Derivations (R374) -/

/-- The first 32 bytes of HKDF(salt, key, info). -/
def hkdf32 (salt key info : List Byte) : List Byte := slice (Config.hkdfExpand (Config.hkdfExtract salt key) info) 0 32
def ivZero : List Byte := List.replicate 12 0
/-- SHA-512 of two reports, the lower node's first (R385, R416). -/
def bothReports (a b : List Byte) : List Byte :=
  Config.sha512 (if repNode a ≤ repNode b then a ++ b else b ++ a)

/-- A security event's entry: the object it concerns and its record (R391, R409). -/
def secEvent (result ix : Nat) (arg : List Byte) (s : State) : State := journal 0 0x08 result (jOther ix) arg s
/-- A flash or fuse write that the hub's temperature forbids is logged (R443, R444). -/
def coldRefusal (s : State) : State := powerEvent 0x0B0C 0 false true (hubSite s) s

/-! ## The wipe (R375) -/

/-- Secure SRAM is wiped whole; the twin's mirror follows while the pair key is still held (R382).
DESIGN CHOICE (log 25), unsafe; DEDUCED (log 28), unsafe. -/
def wipeSecure (s : State) : State :=
  let had := s.sec.keys.any fun e => e.2.recover
  let s : State := { s with sec.keys := [] }
  let s := if had then mirrorKeys s else s
  let s : State := { s with sec.sessions := [], sec.pairKey := [], sec.idSeed := [], sec.recovered := [],
                            sec.recovery := none, twin.priv := [],
                            twin.holdKey := [] }
  (List.range 24).foldl (fun s e => updOe e (fun o => { o with secret := [], session := [], priv := [] }) s) s

/-- TAMPER_WIPE: a detector fires; flags: mesh, voltage, clock (R375, R376).
DEDUCED (log 28), unsafe. -/
def doTamper (flags : Nat) (s : State) : State :=
  if !s.hub.on ∨ flags % 8 = 0 then s
  else
    let held := (s.ctxs.filter fun e => e.2.state == 3 && hasKey s e.1).map (·.1)
    let now := wall s
    let s := wipeSecure s
    let f := [0, 1, 2].foldl (fun m i => if bit flags i then setBit m i else m) s.sec.tamper
    let s : State := { s with sec.tamper := f, sec.tamperAt := if s.sec.tamper = 0 then now else s.sec.tamperAt }
    let s := secEvent 0 oTamperState (tamperState s) (report (hubSite s) 0x0901 0 0 0 f s)
    held.foldl (fun s c =>
      let x := getCtx s c
      let s := chargeFault { ctx := c, gen := x.gen, reason := 0xA0, source := 4, site := hubSite s, slot := x.slot } s
      startTear c false false x.dumpHd x.dumpOff x.dumpSize s) s

/-! ## Firmware images (R370, R371) -/

/-- The failure code of the first check of R371 that an image fails, 0 for none (the flash's own check, 6, aside). -/
def imageCheck (s : State) (img : List Byte) : Nat :=
  let len := leNat (slice img 16 8)
  let slot := leNat (slice img 12 4)
  if img.length < 4 || slice img 0 4 != [0x49, 0x53, 0x4B, 0x46] || leNat (slice img 4 4) != 1 || len < 4096 ||
      8388608 < len || img.length != 256 + len || !(slice img 96 32 ++ slice img 192 64).all (· == 0) then 1
  else if slice (Config.sha512 (img.drop 256)) 0 64 ≠ slice img 32 64 then 2
  else if 1 < slot || !Config.ed25519Verify (Config.romKey slot) (slice img 0 128) (slice img 128 64) then 3
  else if leNat (slice img 8 4) < s.sec.svMin then 4
  else if slot = 0 ∧ s.sec.revoke0 then 5
  else 0
/-- The write of a verified image to the one slot of the flash begins (R370, R372).
DEDUCED (log 31), unsafe. -/
def writeImage (img : List Byte) (s : State) : State := { s with flash.fwNew := some img }

/-! ## Certificates (R378) -/

def certStatus (s : State) (der : List Byte) : Nat :=
  if lcState s ≠ 1 ∧ lcState s ≠ 3 then 1
  else if Config.certKey der ≠ slice (Config.ed25519Pub s.sec.idSeed) 0 32 then 2
  else 0

/-! ## Sessions and keys (R379 to R382) -/

/-- ATTEST: STATUS, and the report (R379). -/
def attestStatus (s : State) (nonce : List Byte) : Nat := if nonce.length ≠ 32 then 2 else if noReports s then 1 else 0
def plainReport (s : State) (nonce : List Byte) : List Byte := makeReport s 1 0 0 nonce []

/-- SESSION_OPEN: STATUS (R381). -/
def sessionStatus (s : State) (arg : List Byte) : Nat :=
  let c := (arg.getD 0 0).toNat
  let x := getCtx s c
  if arg.length ≠ 68 ∨ c = 0 then 2
  else if lcState s ≠ 2 ∨ s.sec.tamper ≠ 0 ∨ noReports s then 1
  else if x.state = 0 ∨ 3 < x.state ∨ x.gen ≠ (arg.getD 1 0).toNat then 1
  else 0
/-- The device's ephemeral key is drawn, and the report binds both public keys; 544 bytes of response (R380).
DEDUCED (log 27), unsafe. -/
def sessionOpen (arg : List Byte) (s : State) : List Byte × State :=
  let c := (arg.getD 0 0).toNat
  let g := (arg.getD 1 0).toNat
  let theirs := slice arg 4 32
  let (k, s) := drawRandom s
  let mine := slice (Config.x25519Pub k) 0 32
  let r := makeReport s 2 c g (slice arg 36 32) (Config.sha512 (theirs ++ mine))
  let key := hkdf32 (Config.sha512 r) (Config.x25519 k theirs) (utf8 "isk-session" ++ [byte c, byte g])
  let rest := s.sec.sessions.filter fun y => y.ctx != c
  let rest := if 16 ≤ rest.length then rest.drop 1 else rest
  (mine ++ r, { s with sec.sessions := rest ++ [{ ctx := c, gen := g, key := key, since := wall s }] })

/-- The open session for CTX and GEN; one of 60 s or more is discarded (R381). -/
def sessionFor (s : State) (arg : List Byte) : Option Session :=
  s.sec.sessions.find? fun y =>
    y.ctx == (arg.getD 0 0).toNat && y.gen == (arg.getD 1 0).toNat && decide (wall s < y.since + 60000000000)
def dropSession (c : Nat) (s : State) : State :=
  { s with sec.sessions := s.sec.sessions.filter fun y => y.ctx != c }
/-- KEY_PROVISION: STATUS (R381). -/
def provisionStatus (s : State) (arg : List Byte) : Nat :=
  let c := (arg.getD 0 0).toNat
  if arg.length ≠ 56 then 2
  else if lcState s ≠ 2 ∨ s.sec.tamper ≠ 0 then 1
  else match sessionFor s arg with
    | none => 1
    | some y =>
      if hasKey s c ∨ (getCtx s c).gen ≠ y.gen then 1
      else if slice (Config.gcmTag y.key ivZero (slice arg 0 8) (slice arg 8 32)) 0 16 ≠ slice arg 40 16 then 2
      else 0
/-- A refused KEY_PROVISION whose tag failed discards its session (R381). -/
def provisionRefused (arg : List Byte) (status : Nat) (s : State) : State :=
  if status = 2 ∧ arg.length = 56 then dropSession (arg.getD 0 0).toNat s else s

/-- A context key is installed in both hubs, its seal count 0; the twin's mirror follows a key with RECOVER (R382, R383).
DEDUCED (log 27), unsafe. -/
def installKey (c gen sealer : Nat) (recover : Bool) (key : List Byte) (s : State) : State :=
  let s := setKey c { key := key, gen := gen, recover := recover, sealer := sealer, sealCount := 0, kcv := kcvOf key } s
  if recover then mirrorKeys s else s
/-- KEY_PROVISION accepted: the response, its MIRRORED byte 0 as before an acknowledgement (R382). -/
def keyProvision (arg : List Byte) (s : State) : List Byte × State :=
  let c := (arg.getD 0 0).toNat
  match sessionFor s arg with
  | none => ([], s)
  | some y =>
    let key := slice (Config.gcmDec y.key ivZero (slice arg 8 32)) 0 32
    (kcvOf key ++ List.replicate 8 0,
      installKey c y.gen (leNat (slice arg 4 2)) (bit (arg.getD 2 0).toNat 0) key (dropSession c s))

/-- SESSION_TIMEOUT: 60 s after it opened. -/
def doSessionTimeout (c : Nat) (s : State) : State :=
  match s.sec.sessions.find? (·.ctx == c) with
  | some y => dropSession c (advanceTo (y.since + 60000000000) s)
  | none => s

/-! ## Recovery of a key (R385) -/

def recoverEntry (s : State) (kcv : List Byte) : Option (Nat × KeySt) := s.sec.recovered.find? fun e => e.2.kcv == kcv
/-- KEY_RECOVER: STATUS.
DEDUCED (log 27), unsafe. -/
def recoverStatus (s : State) (arg : List Byte) : Nat :=
  let c := (arg.getD 0 0).toNat
  let src := (arg.getD 1 0).toNat
  if arg.length ≠ 24 ∨ c = 0 ∨ 1 < src ∨ (src = 1 ∧ 0x8000 ≤ leNat (slice arg 2 2)) then 2
  else if s.sec.tamper ≠ 0 ∨ lcState s ≠ 2 ∨ (getCtx s c).state ≠ 1 ∨ hasKey s c then 1
  else if src = 0 then (if (recoverEntry s (slice arg 8 16)).isNone then 1 else 0)
  else if s.sec.recovery.isSome ∨ noReports s then 1
  else 0

/-- A message to a node's hub: KIND 3, a report of PURPOSE 4 with its ephemeral public key and what follows (R385, R396). -/
def sendReport4 (node : Nat) (r pub more : List Byte) (s : State) : State :=
  sendMgmt node 3 (r ++ slice pub 0 32 ++ more) s
/-- KEY_RECOVER accepted: a key of the table is installed, or the request goes to the node, its report naming the source
context and, as nonce, the KCV.
DEDUCED (log 27), unsafe. -/
def keyRecover (path : Nat) (arg : List Byte) (s : State) : State :=
  let c := (arg.getD 0 0).toNat
  let sealer := leNat (slice arg 6 2)
  let kcv := slice arg 8 16
  if arg.getD 1 0 = 0 then
    match recoverEntry s kcv with
    | some e => installKey c (getCtx s c).gen sealer true e.2.key s
    | none => s
  else
    let node := leNat (slice arg 2 2)
    let sc := (arg.getD 4 0).toNat
    let sg := (arg.getD 5 0).toNat
    let (k, s) := drawRandom s
    let pub := Config.x25519Pub k
    let r := makeReport s 4 sc sg (kcv ++ List.replicate 16 0) (Config.sha512 (slice pub 0 32))
    let x : Recovery := { path := path, ctx := c, node := node, srcCtx := sc, srcGen := sg, sealer := sealer, kcv := kcv,
                          priv := k, report := r, start := wall s }
    sendReport4 node r pub [] { s with sec.recovery := some x }

/-- The wrapping key of a transfer. -/
def recoverKey (mine theirs priv pub : List Byte) (c g : Nat) : List Byte :=
  hkdf32 (bothReports mine theirs) (Config.x25519 priv pub) (utf8 "isk-recover" ++ [byte c, byte g])
/-- A report of PURPOSE 4 that binds the key sent with it, made by a DEPLOYED device without TAMPER.
DEDUCED (log 52), unsafe. -/
def goodPeer (r pub : List Byte) : Bool :=
  repOk 4 r && repBinding r == slice (Config.sha512 (slice pub 0 32)) 0 64 && repLc r == 2 && !repTamper r

/-- KEY_RECOVER_RESPONSE: the key is installed if its KCV matches, or the recovery is refused. -/
def doRecoverResponse (node : Nat) (r pub wrapped tag : List Byte) (s : State) : State :=
  match s.sec.recovery with
  | none => s
  | some x =>
    if x.node ≠ node ∨ x.start + 1000000000 ≤ wall s then s
    else
      let key := recoverKey x.report r x.priv pub x.srcCtx x.srcGen
      let k := slice (Config.gcmDec key ivZero wrapped) 0 32
      let ok := goodPeer r pub && slice (Config.gcmTag key ivZero [] wrapped) 0 16 == slice tag 0 16 && kcvOf k == x.kcv &&
        (getCtx s x.ctx).state == 1 && !hasKey s x.ctx
      let rec_ := [byte x.ctx] ++ u16 node ++ x.kcv
      let s : State := { s with sec.recovery := none }
      if ok then secEvent 0 oKeyRecover rec_ (installKey x.ctx (getCtx s x.ctx).gen x.sealer true k s)
      else secEvent 1 oKeyRecover rec_ s
/-- KEY_RECOVER_TIMEOUT: 1 s without a key. -/
def doRecoverTimeout (s : State) : State :=
  match s.sec.recovery with
  | none => s
  | some x =>
    secEvent 1 oKeyRecover ([byte x.ctx] ++ u16 x.node ++ x.kcv)
      { (advanceTo (x.start + 1000000000) s) with sec.recovery := none }

/-- A recovery request reaches this device as the source: the checks of R385 step 2, then its own report and the key
wrapped; both outcomes are journaled. -/
def recoverServe (node : Nat) (r pub : List Byte) (s : State) : State :=
  let c := (r.getD 385 0).toNat
  let g := (r.getD 386 0).toNat
  let kcv := slice r 288 16
  let x := getKey s c
  let rec_ := [byte c] ++ u16 node ++ kcv
  if !goodPeer r pub || repMeasure r != slice s.sec.fwMeasure 0 64 || x.key.isEmpty || !x.recover || x.kcv != kcv ||
      noReports s || lcState s != 2 then secEvent 1 oKeyRecover rec_ s
  else
    let (k, s) := drawRandom s
    let mine := slice (Config.x25519Pub k) 0 32
    let own := makeReport s 4 c g (kcv ++ List.replicate 16 0) (Config.sha512 mine)
    let key := recoverKey own r k pub c g
    let w := slice (Config.gcmEnc key ivZero [] x.key) 0 32
    sendReport4 node own mine (w ++ slice (Config.gcmTag key ivZero [] w) 0 16) (secEvent 0 oKeyRecover rec_ s)

/-! ## The life cycle (R388, R389) -/

/-- Toggle bits burned. -/
def toggles (lc : Nat) : Nat := ((List.range 48).filter fun i => bit lc (2 + i)).length
/-- Every context FREE. -/
def noContexts (s : State) : Bool := s.ctxs.all fun e => e.2.state == 0
/-- No unit is being zeroed. -/
def noZeroing (s : State) : Bool := s.owner.all fun e => decide (e.2 < 256)
/-- *LC_COMMAND*: STATUS of a code, fuse writes aside. -/
def lcStatus (s : State) (code : Nat) : Nat :=
  let lc := lcState s
  if code = 0 ∨ 5 < code then 2
  else
    let ok :=
      if code = 1 then lc == 1 && !(blobGet s oDeviceCert 0).isEmpty
      else if code = 2 then lc == 2 && noContexts s && noZeroing s && decide (toggles s.sec.lc < 48)
      else if code = 3 then lc == 3 && !s.sec.leavePending
      else if code = 4 then (lc == 1 || lc == 2 || lc == 3) && noContexts s
      else true
    if !ok then 1 else if flashOk s then 0 else 1
/-- A transition's fuses are burned, secure SRAM is wiped, and the change is journaled.
DESIGN CHOICE (log 25), unsafe. -/
def lcBurn (lc : Nat) (wipe : Bool) (s : State) : State :=
  let old := lcState s
  let s : State := { s with sec.lc := lc }
  let s := if wipe then wipeSecure s else s
  secEvent 0 oLcState [byte old, byte (lcState s)] s
/-- *LC_COMMAND* accepted. LEAVE_SERVICE takes effect at the next power-up, which loses secure SRAM; RETIRE takes effect at once also
while it waits. SV_MIN has 32 bits to burn (R373).
DESIGN CHOICE (log 25), unsafe. -/
def lcApply (code : Nat) (s : State) : State :=
  let next := setBit s.sec.lc (2 + toggles s.sec.lc)
  if code = 1 then lcBurn (setBit s.sec.lc 1) true s
  else if code = 2 then lcBurn next true s
  else if code = 3 then lcBurn next false { s with sec.leavePending := true }
  else if code = 4 then lcBurn (setBit s.sec.lc 63) true { s with sec.leavePending := false }
  else { s with sec.svMin := max s.sec.svMin (min 32 s.sec.fwVersion) }

/-- PROVISION, by test access: the secret is drawn, bit 0 and SV_MIN are burned; what SV_MIN is burned to is not stated
(log 6). Counting of power-ups begins. A refusal is journaled (R391).
DESIGN CHOICE (log 26), safe. -/
def doProvision (s : State) : State :=
  if !hubUp s then s
  else if lcState s ≠ 0 then secEvent 1 oLcState [byte (lcState s), byte (lcState s)] s
  else if !flashOk s then secEvent 1 oLcState [byte (lcState s), byte (lcState s)] (coldRefusal s)
  else
    let (k, s) := drawRandom s
    let (v, s) := drawFree s
    lcBurn (setBit s.sec.lc 0) true { s with sec.secret := k, sec.svMin := v % 33, sec.boots := 0 }

def execTamperWipe (flags : Nat) (s : State) : Out := .next (doTamper flags s)
def execSessionTimeout (ctx : Nat) (s : State) : Out := .next (doSessionTimeout ctx s)
def execKeyRecoverResponse (node : Nat) (report pub wrapped tag : List Byte) (s : State) : Out :=
  .next (doRecoverResponse node report pub wrapped tag s)
def execKeyRecoverTimeout (s : State) : Out := .next (doRecoverTimeout s)
def execProvision (s : State) : Out := .next (doProvision s)

end Sys2Proof.Machine
end

