-- ==== Sys2Proof/Machine/Write.lean ====
section
/-! DEFINITION. Machine/Write.lean: the write of an object (R403 to R407): its checks in the order of R405, its journal
entry, and its effect, at once or pending. The twin's own objects are added in Machine/Twin.lean. -/
namespace Sys2Proof.Machine
open Sys2Proof

/-! ## The objects' own rules (R405 step 4) -/

/-- Lowest and highest value of scalar objects, from the Unit columns of the object tables. -/
def scalarRanges : List (Nat × Nat × Nat) := [
  (0x1102, 1, 128), (0x1103, 1024, 65535), (0x2000, 4000, 48000), (0x2007, 0, 1), (0x2008, 1, 1), (0x3003, 2000, 7200),
  (0x3004, 2000, 7800), (0x3005, 300, 2400), (0x3013, 1, 1000), (0x3017, 0, 1), (0x4001, 0, 1), (0x4303, 0, 1),
  (0x4310, 500, 5000), (0x500A, 0, 1), (0x5024, 0, 40), (0x5025, 250, 10000), (0x502B, 1, 168), (0x6002, 0, 1),
  (0x6003, 1, 15), (0x6006, 1, 64), (0x6008, 8, 255), (0x6009, 100, 1000000), (0x6100, 1, 60000), (0x6103, 1, 1),
  (0x7802, 1, 5), (0x8006, 1, 1), (0x8803, 0, 1)]
def inScalarRange (ix n : Nat) : Bool :=
  match scalarRanges.find? fun e => e.1 == rowIndex ix with
  | some (_, lo, hi) => decide (lo ≤ n) && decide (n ≤ hi)
  | none => true

/-- A firewall entry's BASE, SIZE, OPS, RATE, BURST and CTX (R214). -/
def fwBase (e : List Byte) : Nat := leNat (slice e 0 8)
def fwSize (e : List Byte) : Nat := leNat (slice e 8 8)
def fwOps (e : List Byte) : Nat := leNat (slice e 16 4)
def fwRate (e : List Byte) : Nat := leNat (slice e 20 4)
def fwBurst (e : List Byte) : Nat := leNat (slice e 24 4)
def fwEntries (t : List Byte) : List (List Byte) := (List.range 32).map fun i => slice t (32 * i) 32
/-- An entry that R214 accepts; BURST counts only where the entry is used. -/
def fwEntryOk (e : List Byte) : Bool :=
  fwBase e % 4096 == 0 && fwSize e % 4096 == 0 && decide (fwOps e < 8) && leNat (slice e 29 3) == 0 &&
    (fwSize e == 0 || (decide (4096 ≤ fwBurst e) && decide (fwBurst e ≤ 16777216)))
def fwTableOk (t : List Byte) : Bool := t.length == 1024 && (fwEntries t).all fwEntryOk

/-- The low three bytes are weights, none of them 0 (R169, R281). -/
def weightsOk (n : Nat) : Bool := [0, 8, 16].all fun i => bits n i 8 != 0
/-- Not one facet would be enabled (R37). -/
def allDisabled (s : State) (sub : Nat) : Bool :=
  [1, 2, 3, 4].all fun k => k == sub || latestNum s oFacetEnable k == 0
def axisOk (v : List Byte) : Bool :=
  v.length == 3 && v.all (fun b => decide (1 ≤ b.toNat) && decide (b.toNat ≤ 32)) && (v.getD 0 0).toNat % 4 == 0

/-- SX x SY x SZ, and the product that PINNED admits (R278). -/
def axisProduct (v : List Byte) : Nat := v.foldl (fun n b => n * b.toNat) 1
/-- *ORDER_MODE* and *AXIS_SIZE* together, by the latest accepted value of the other one (R278, R464). -/
def pinnedTooBig (mode : Nat) (size : List Byte) : Bool := mode == 0 && decide (1024 < axisProduct size)

/-- A test: STATUS `n` where the rule is broken, else what follows. -/
def refuseIf (c : Bool) (n : Nat) (rest : Nat) : Nat := if c then n else rest

/-- STATUS of the range rules of objects that are values (R27, R37, R169, R214, R258, R260, R262, R281, R292, R321,
R445). -/
def valueStatus (s : State) (ix sub : Nat) (v : List Byte) : Nat :=
  let n := leNat v
  let bad :=
    if ix = oFrameCycles then n % 500 != 0
    else if ix = oFacetEnable then n == 0 && allDisabled s sub
    else if ix = oPkgSustainedCap then decide (latestNum s oPkgShortCap 0 < n)
    else if ix = oPkgShortCap then decide (n < latestNum s oPkgSustainedCap 0)
    else if ix = oFwTable then !fwTableOk v
    else if ix = oMgtIpv6Address then v.length != 16
    else if ix = oOptCalSlot then n % 100 != 0
    else if ix = oOptPeerMeasurements then v.length % 64 != 0
    else if ix = oFarPrioWindow then n % 50 != 0
    else if ix = oFarClassWeights ∨ ix = oTcWeights then !weightsOk n
    else if ix = oNodeId then decide (0x8000 < n)
    else if ix = oAxisSize then !axisOk v || pinnedTooBig (latestNum s oOrderMode 0) v
    else if ix = oOrderMode then pinnedTooBig n (slice (latestBlob s oAxisSize 0) 0 3)
    else if ix = oInjThresh then decide (n % 65536 ≤ n / 65536) || decide (8192 < n % 65536)
    else if ix = oCollFenceList then v.length % 2 != 0
    else false
  if bad then 2
  else if ix = oFrameCycles ∧ ((getFacet s (sub - 1)).state = 3 ∨ (getFacet s (sub - 1)).join ≠ 0) then 1
  else 0

/-- STATUS of commands given by a write (R212, R288, R346, R371, R378 to R389). -/
def commandStatus (s : State) (ix sub : Nat) (v : List Byte) : Nat :=
  if ix = oFacetReset then bnat (facetResetRefused s (sub - 1))
  else if ix = oPkgLinkTest then
    let l := (v.getD 0 0).toNat
    let k := (v.getD 1 0).toNat
    if v.length ≠ 2 ∨ 140 ≤ l ∨ k = 0 ∨ 2 < k then 2 else bnat (linkTestRefused s l)
  else if ix = oPortMask then bnat (!epochFree s)
  else if ix = oNodeId ∨ ((ix = oAxisSize ∨ ix = oOrderMode) ∧ nodeId s ≠ 0x8000) then bnat (!epochFree s)
  else if ix = oLcCommand then lcStatus s (leNat v)
  else if ix = oDeviceCert then certStatus s v
  else if ix = oFwImage then (if imageCheck s v ≠ 0 then 2 else bnat (!flashOk s))
  else if ix = oAttest then attestStatus s v
  else if ix = oSessionOpen then sessionStatus s v
  else if ix = oKeyProvision then provisionStatus s v
  else if ix = oKeyRecover then recoverStatus s v
  else 0

/-- Step 4. A refusal that the device's state imposes on every write comes first: STOPPED, a trip, no firmware yet, or a
journal that has not resumed. -/
def ownStatus (s : State) (ix sub : Nat) (v : List Byte) : Nat :=
  if allRefused s || !s.hub.resumed then 1
  else if !inScalarRange ix (leNat v) then 2
  else
    let a := valueStatus s ix sub v
    if a ≠ 0 then a else commandStatus s ix sub v

/-! ## The checks in order (R405) -/

/-- Step 3. -/
def lengthOk (o : Obj) (v : List Byte) : Bool :=
  if 8 ≤ o.type ∧ o.type ≤ 9 then decide (v.length ≤ o.maxLen) else v.length == scalarSize o.type
/-- Step 5. -/
def flashStatus (s : State) (o : Obj) : Nat := if o.persist && !flashOk s then 1 else 0
/-- Steps 1 to 3; `p` the path whose rights count. -/
def formStatus (p : Path) (o : Obj) (v : List Byte) : Nat :=
  if !bit (access o p) 1 then 4 else if !lengthOk o v then 2 else 0

/-! ## Values in force, at once or later -/

/-- Reserved bits read as zero (R7). -/
def maskValue (ix : Nat) (v : List Byte) : List Byte :=
  if ix = oFarClassWeights ∨ ix = oTcWeights then v.take 3 ++ [0] else v

/-- Facets that govern an object (R10): its own, or all. -/
def governing (ix sub : Nat) : Nat :=
  if ix = oFrameCycles ∨ ix = oFacetPowerShare then 2 ^ (sub - 1)
  else if ix = oNearRecheck ∨ ix = oFarC0Share ∨ ix = oFarPrioWindow ∨ ix = oFarClassWeights ∨ ix = oFarScrubPeriod then
    2 ^ ((sub - 1) / 8)
  else 15

/-- A write that takes effect later (R464); geometry on an unassigned device takes effect at the next tick of the lowest
facet that is not OFF then, or now where every facet is OFF (R279). -/
def addPend (o : Obj) (ix sub : Nat) (v : List Byte) (s : State) : State :=
  let key := objKey ix sub
  let w : PendWrite := { key := key, value := v, seq := jseq s, accepted := wall s, effect := o.effect,
                         facets := if o.effect = 2 then governing ix sub else 0 }
  if isGeometry key && nodeId s == 0x8000 then
    match lowestOn s with
    | some _ => { s with mg.pend := s.mg.pend ++ [{ w with effect := 5 }] }
    | none =>
      let old := geometry s
      let s := setValue key v s
      if nodeId s = 0x8000 then s else openEpoch old s
  else { s with mg.pend := s.mg.pend ++ [w] }

/-- An object's value changes at once, with what the change does (R215, R254, R258, R288, R313). A new firewall table starts with every
bucket full.
DESIGN CHOICE (log 128), unsafe. -/
def setNow (ix sub : Nat) (v : List Byte) (s : State) : State :=
  let old := geometry s
  let s := setValue (objKey ix sub) v s
  if ix = oPortMask then openEpoch old s
  else if rowIndex ix = oOptLinkEnable then tendAll (setLinkEnable ((ix - 0x4000) / 0x20) (leNat v) s)
  else if ix = oOptLsmEnable then setLsmEnable (sub - 1) s
  else if ix = oCollFenceList then tendAll s
  else if ix = oFwTable then updHost (sub - 1) (fun h => { h with bucket := [], bucketAt := [] }) s
  else s

/-- A persistent write waits for its commit (R407); the answer follows it.
DEDUCED (log 37), unsafe. -/
def addPersist (path : Nat) (ix sub : Nat) (v : List Byte) (s : State) : State :=
  { s with mg.persist := s.mg.persist ++ [{ key := objKey ix sub, value := v, seq := jseq s, path := path }] }

/-- Does a write issue a command (R409)? -/
def isCommand (o : Obj) : Bool :=
  o.access &&& 0x55 == 0 || [oAttest, oSessionOpen, oKeyProvision].contains o.index

/-- What an accepted command does. ATTEST, SESSION_OPEN and KEY_PROVISION leave their answer to be read. -/
def runCommand (path ix sub : Nat) (v : List Byte) (s : State) : State :=
  if ix = oFacetReset then facetResetStart (sub - 1) s
  else if ix = oPkgLinkTest then startLinkTest (v.getD 0 0).toNat s
  else if ix = oCollHoldRelease then releaseHolds s
  else if ix = oLcCommand then lcApply (leNat v) s
  else if ix = oFwImage then writeImage v s
  else if ix = oAttest then blobSet ix sub (plainReport s v) s
  else if ix = oSessionOpen then
    let (r, s) := sessionOpen v s
    blobSet ix sub r s
  else if ix = oKeyProvision then
    let (r, s) := keyProvision v s
    blobSet ix sub r s
  else if ix = oKeyRecover then keyRecover path v s
  else if ix = oJournalFlush then flush 2 s
  else s

/-- An accepted write: journaled, then applied or made pending (R406); a persistent one is to be committed. -/
def applyWriteOf (o : Obj) (path ix sub : Nat) (v : List Byte) (s : State) : State :=
  let s := journal path (if isCommand o then 2 else 1) 0 (jObj ix sub) v s
  if isCommand o then runCommand path ix sub v s
  else
    let v := maskValue ix v
    let s := if o.persist then addPersist path ix sub v s else s
    if o.effect = 1 then setNow ix sub v s else addPend o ix sub v s

/-! ## Refusals -/

/-- The mailbox paths. -/
def isHst (path : Nat) : Bool := path == 4 || path == 5
/-- The machine with a primary hub at 25 degrees: what it would accept, but for R443. -/
def warmed (s : State) : State := { s with pw.temp := tset 0 s.pw.temp (hubSite s) 2500 }
/-- A refused write: journaled where R406 asks for it; one that the temperature alone refuses is logged (R443). `cold`
says that it alone did. -/
def refuseWrite (path ix sub : Nat) (v : List Byte) (status : Nat) (cold : Bool) (s : State) : State :=
  let kind := match findObj ix sub with | some o => if isCommand o then 2 else 1 | none => 1
  let s := if cold then coldRefusal s else s
  let s := if ix = oKeyProvision then provisionRefused v status s else s
  if refusalLogged ix || isHst path then journal path kind (if isHst path && 5 ≤ status then 2 else status) (jObj ix sub) v s
  else s

end Sys2Proof.Machine
end

