-- ==== Sys2Proof/Machine/Twin.lean ====
section
/-! DEFINITION. Machine/Twin.lean: the twin pair (R383, R384, R415 to R421): pairing, mirrors, loss and detach, and a
spare's pull of a held mirror. -/
namespace Sys2Proof.Machine
open Sys2Proof

/-! ## IOAP messages (R397) -/

/-- The header and the value. -/
def ioapBytes (op req ix sub flags off status jseq : Nat) (v : List Byte) : List Byte :=
  [0x49, 0x4F, 1, byte op] ++ u32 req ++ u16 ix ++ [byte sub, byte flags] ++ u32 off ++ u16 v.length ++ u16 status ++
    u64 jseq ++ [0, 0, 0, 0] ++ v

/-! ## States (R418) -/

/-- A device's TWIN_ID: the first 16 bytes of SHA-512 of its identity key (R377). -/
def idOf (pub : List Byte) : List Byte := slice (Config.sha512 pub) 0 16
/-- A transition, journaled with the twin's node and TWIN_ID. -/
def twinTo (st : Nat) (s : State) : State :=
  let old := s.twin.state
  journal 0 0x12 0 (jOther s.twin.node) ([byte old, byte st] ++ slice s.twin.twinId 0 16) { s with twin.state := st }
/-- The key mirror last sent is not acknowledged, and no twin is left to do it: event 0x0903 (R391, R414).
DESIGN CHOICE (log 38), unsafe. -/
def mirrorLost (s : State) : State :=
  if !s.sec.pairKey.isEmpty ∧ s.twin.blobAcked + 1 < s.twin.mirrorCount then
    report (hubSite s) 0x0903 0 0 0 (s.twin.mirrorCount - 1) s
  else s
/-- Into NONE: the pair key and what was held for the twin are gone; what a spare has pulled stays. -/
def twinNone (s : State) : State :=
  let s := twinTo 0 (mirrorLost s)
  { s with twin := { inhJournal := s.twin.inhJournal, inhCkpts := s.twin.inhCkpts, pullStatus := s.twin.pullStatus },
           sec.pairKey := [] }
/-- What is held is for the present twin, and nothing is held yet. -/
def freshHold (s : State) : State :=
  { s with twin.holdId := s.twin.twinId, twin.holdNode := s.twin.node, twin.holdJournal := [], twin.holdCkpts := [],
           twin.holdImage := [], twin.holdImageSeq := 0, twin.holdBlob := [], twin.holdBlobCount := 0,
           twin.holdKey := [], twin.rxImage := [] }

/-- The next message from the twin opens: its count is not below the one expected, and its tag is right (R416).
DEDUCED (log 53), unsafe. -/
def openTwin (s : State) (count : Nat) (c tag : List Byte) : Option (List Byte) :=
  let iv := leBytes 4 4 ++ leBytes 8 count
  let aad := leBytes 2 s.twin.node ++ leBytes 2 (nodeId s)
  if s.sec.pairKey.isEmpty || decide (count < s.twin.rxCount) then none
  else if slice (Config.gcmTag s.sec.pairKey iv aad c) 0 16 = slice tag 0 16 then
    some ((Config.gcmDec s.sec.pairKey iv c).take c.length)
  else none
/-- A message that does not open, or does not verify, is discarded and counted. -/
def twinBad (s : State) : State := countPath 6 3 s
/-- A message from the twin: it is opened, its count is taken, and `g` acts on it. -/
def fromTwin (count : Nat) (c tag : List Byte) (g : List Byte → State → State) (s : State) : State :=
  match openTwin s count c tag with
  | none => twinBad s
  | some m => g m { s with twin.rxCount := count + 1 }

/-- An acknowledgement: KIND of the message, and the highest number held (the model's layout).
DEDUCED (log 53), unsafe. -/
def ackTwin (kind n : Nat) (s : State) : State := toTwin 7 ([byte kind] ++ List.replicate 7 0 ++ u64 n) s

/-! ## Sending the mirrors (R416, R417, R420) -/

/-- The parts of an image, each with its offset and length. -/
def imageParts (fuel off : Nat) (img : List Byte) : List (List Byte) :=
  match fuel with
  | 0 => []
  | k + 1 =>
    let p := img.take 65512
    (u32 off ++ u32 p.length ++ p) :: (if img.length ≤ 65512 then [] else imageParts k (off + 65512) (img.drop 65512))
def sendImage (img : List Byte) (s : State) : State :=
  (imageParts (img.length + 1) 0 img).foldl (fun s p => toTwin 5 p s) s
/-- A set of keys sealed for the twin under the pair key, by the next mirror count. -/
def sendBlob (plain : List Byte) (s : State) : State :=
  let n := s.twin.mirrorCount
  let iv := leBytes 4 3 ++ leBytes 8 n
  let aad := leBytes 2 (nodeId s) ++ leBytes 2 s.twin.node
  let c := Config.gcmEnc s.sec.pairKey iv aad plain
  toTwin 6 (u64 n ++ c ++ slice (Config.gcmTag s.sec.pairKey iv aad c) 0 16) { s with twin.mirrorCount := n + 1 }

/-- The 64 bytes of entry `n`, zero where it is not held. -/
def heldBytes (e : JEntry) (n : Nat) : List Byte := if e.seq = n ∧ !e.chain.isEmpty then slice e.bytes 0 64 else List.replicate 64 0
/-- Units of a journal that ends with entry `next - 1`, newest first: the tail, then every checkpoint's; `ent` gives an
entry's bytes, `ck` a checkpoint's by its SEQ, `close` what closes the tail. -/
def journalUnits (ent ck : Nat → List Byte) (close : List Byte) (next : Nat) : List (List Byte) :=
  let base := next - next % 256
  let zero := List.replicate 128 (0 : Byte)
  let prev (b : Nat) : List Byte := if b = 0 then zero else ck (b - 1)
  let tail := if next = base then [] else
    [close ++ ((List.range (next % 256)).flatMap fun i => ent (base + i)) ++ prev base]
  tail ++ (List.range (min 256 (base / 256))).filterMap fun k =>
    let b := base - 256 * (k + 1)
    let c := ck (b + 255)
    if c.all (· == 0) then none else some (c ++ ((List.range 256).flatMap fun i => ent (b + i)) ++ prev b)
def findCkpt (l : List Checkpoint) (n : Nat) : List Byte :=
  match l.find? fun c => c.seq == n && !c.sig.isEmpty with
  | some c => slice c.bytes 0 128
  | none => List.replicate 128 0
/-- This device's own units. -/
def ownUnits (s : State) : List (List Byte) :=
  let cks := s.standby.waiting ++ s.flash.ckpts.map (·.2)
  journalUnits (fun n => heldBytes (tget {} s.jrnl.ring (n % 65536)) n) (findCkpt cks) [] s.jrnl.next
/-- The units of the mirror held; the holder's own checkpoint of KIND 2 closes their tail (R421). -/
def heldUnits (s : State) : List (List Byte) :=
  let t := s.twin.holdJournal
  let close := match s.twin.holdCkpts.find? fun c => c.kind == 2 with | some c => slice c.bytes 0 128 | none => []
  journalUnits (fun n => heldBytes (tget {} t n) n) (findCkpt (s.twin.holdCkpts.filter (·.kind == 0))) close (heldHigh t + 1)

/-- Sends and counts what is to be acknowledged. -/
def sendAll (g : State → State) (s : State) : State :=
  let n := s.twin.txCount
  let s := g s
  { s with twin.sentParts := s.twin.txCount - n, twin.ackedParts := 0 }
/-- Image, key blob, and journal, newest unit first. -/
def sendMirrors (s : State) : State :=
  sendAll (fun s =>
    let img := liveImage s
    let s := sendBlob (recoverSet s) (sendImage (imageBytes img.1 img.2) s)
    (ownUnits s).foldl (fun s u => toTwin 4 u s) s) s
/-- What this device holds for the device that a spare replaces; its key blob is unwrapped and wrapped anew (R384). -/
def sendHeld (s : State) : State :=
  sendAll (fun s =>
    let s := if s.twin.holdImage.isEmpty then s else sendImage s.twin.holdImage s
    let b := s.twin.holdBlob
    let iv := leBytes 4 3 ++ b.take 8
    let s := if b.length < 24 ∨ s.twin.holdKey.isEmpty then s
      else sendBlob ((Config.gcmDec s.twin.holdKey iv ((b.drop 8).take (b.length - 24))).take (b.length - 24)) s
    (heldUnits s).foldl (fun s u => toTwin 4 u s) s) s

/-! ## Pairing (R416) -/

/-- A device's tray (R262). -/
def tray (n : Nat) : Nat × Nat × Nat := (coord n 0 / 4, coord n 1, coord n 2)
/-- *TWIN_PAIR*: STATUS.
DEDUCED (log 56), unsafe. -/
def twinPairStatus (s : State) (v : List Byte) : Nat :=
  let node := leNat (slice v 0 2)
  if v.length ≠ 19 ∨ 0x8000 ≤ node ∨ 1 < (v.getD 2 0).toNat ∨
      tray node = tray (latestNum s oNodeId 0) then 2
  else if lcState s ≠ 2 ∨ s.sec.tamper ≠ 0 ∨ s.twin.state ≠ 0 then 1
  else 0
/-- *TWIN_PAIR* accepted: PAIRING or PULLING, and the report leaves. A spare's report names the TWIN_ID that it replaces as
its nonce.
DEDUCED (log 52), unsafe. -/
def twinPair (v : List Byte) (s : State) : State :=
  let node := leNat (slice v 0 2)
  let spare := (v.getD 2 0).toNat = 1
  let id := slice v 3 16
  let (k, s) := drawRandom s
  let pub := slice (Config.x25519Pub k) 0 32
  let r := makeReport s 4 0 0 (if spare then id else []) (Config.sha512 pub)
  let now := wall s
  let tw : TwinSt := { state := s.twin.state, node := node, twinId := id, since := now, lastBeat := now, priv := k, report := r }
  let tw := if spare then tw else
    { tw with inhJournal := s.twin.inhJournal, inhCkpts := s.twin.inhCkpts, pullStatus := s.twin.pullStatus }
  sendReport4 node r pub [] (twinTo (if spare then 4 else 1) { s with twin := tw })

/-- The pair key, from both reports and the exchange; the counts of messages and mirrors start. -/
def pairKeys (r pub : List Byte) (s : State) : State :=
  let key := hkdf32 (bothReports s.twin.report r) (Config.x25519 s.twin.priv pub) (utf8 "isk-pair")
  { s with sec.pairKey := key, twin.pub := repPub r, twin.txCount := 0, twin.rxCount := 0, twin.mirrorCount := 1,
           twin.priv := [] }
/-- A report's nonce, as the TWIN_ID it may name. -/
def repNonce (r : List Byte) : List Byte := slice r 288 16
/-- The holder takes in a spare for the device whose mirror it holds (R384, R420). -/
def spareOk (s : State) (r pub : List Byte) : Bool :=
  goodPeer r pub && repNonce r == slice s.twin.holdId 0 16 &&
    (idOf (repPub r) == slice s.twin.holdId 0 16 || repMeasure r == slice s.sec.fwMeasure 0 64) && !noReports s

/-- A report of PURPOSE 4 that names no context: of the peer in pairing, of the holder, or of a spare. The peer that came
first sends its report again, since the other may not have been waiting for it. After a tamper, and outside DEPLOYED, no pair key is
derived (R376, R387).
DEDUCED (log 52), unsafe. -/
def twinReport (node : Nat) (r pub : List Byte) (s : State) : State :=
  let t := s.twin
  if t.state = 1 ∧ t.node = node ∧ s.sec.pairKey.isEmpty then
    if t.since + 10000000000 ≤ wall s then s
    else if s.sec.tamper ≠ 0 ∨ lcState s ≠ 2 ∨ !goodPeer r pub then twinNone s
    else
      let own := slice (Config.x25519Pub t.priv) 0 32
      let s := pairKeys r pub (sendReport4 node t.report own [] s)
      sendMirrors (freshHold { s with twin.twinId := idOf (repPub r) })
  else if t.state = 4 ∧ t.node = node ∧ s.sec.pairKey.isEmpty then
    if s.sec.tamper = 0 ∧ lcState s = 2 ∧ goodPeer r pub then pairKeys r pub s else twinNone s
  else if t.state = 3 ∧ lcState s = 2 ∧ spareOk s r pub then
    let (k, s) := drawRandom s
    let mine := slice (Config.x25519Pub k) 0 32
    let own := makeReport s 4 0 0 [] (Config.sha512 mine)
    let s : State := { s with twin.node := node, twin.priv := k, twin.report := own, twin.spare := true, twin.lastBeat := wall s }
    sendHeld (pairKeys r pub (sendReport4 node own mine [] s))
  else s
/-- REPORT_EXCHANGE: for the recovery of a key it names a context (R385). -/
def doReportExchange (node : Nat) (r pub : List Byte) (s : State) : State :=
  if !s.hub.resumed then s
  else if (r.getD 385 0).toNat ≠ 0 then recoverServe node r pub s else twinReport node r pub s

/-- All three mirrors are acknowledged both ways (R418).
DEDUCED (log 54), unsafe. -/
def tryPaired (s : State) : State :=
  let t := s.twin
  if t.state = 1 ∧ wall s < t.since + 30000000000 ∧ !s.sec.pairKey.isEmpty ∧ t.sentParts ≤ t.ackedParts ∧ !t.holdImage.isEmpty ∧ 1 ≤ t.holdBlobCount ∧
      !t.holdJournal.isEmpty then
    let s := twinTo 2 { s with twin.lastBeat := wall s }
    ((ownUnits s).take 1).foldl (fun s u => toTwin 4 u s) s
  else s
/-- The pair forms afresh when a pull is complete (R420). -/
def pullDone (s : State) : State :=
  let s : State := { s with twin.twinId := idOf s.twin.pub, twin.spare := false, twin.lastBeat := wall s }
  sendMirrors (freshHold (twinTo 2 s))

/-! ## Receiving (R413, R417, R420) -/

def parseEntry (b : List Byte) : JEntry :=
  { seq := leNat (slice b 0 8), wall := leNat (slice b 8 8), frame := leNat (slice b 16 4), path := (b.getD 20 0).toNat,
    kind := (b.getD 21 0).toNat, result := (b.getD 22 0).toNat, facet := (b.getD 23 0).toNat, object := leNat (slice b 24 4),
    digest := slice b 28 16, chain := slice b 44 16 }
def parseCkpt (b : List Byte) : Checkpoint :=
  { seq := leNat (slice b 0 8), wall := leNat (slice b 8 8), chain := slice b 16 16, node := leNat (slice b 32 2),
    kind := leNat (slice b 34 2), boot := leNat (slice b 36 4), sig := slice b 64 64 }
def chunks (n : Nat) : Nat → List Byte → List (List Byte)
  | 0, _ => []
  | k + 1, b => if b.isEmpty then [] else b.take n :: chunks n k (b.drop n)

def ckptOk (pub : List Byte) (c : Checkpoint) : Bool := Config.ed25519Verify pub c.head c.sig
/-- An entry's CHAIN recomputes from a CHAIN before it. -/
def chainsFrom (chain : List Byte) (e : JEntry) : Bool := slice (Config.sha512 (chain ++ e.head)) 0 16 == e.chain
/-- The entries of a unit chain one from another, the first of them and any BOOT entry from the preceding checkpoint; an
entry that is not there is zero.
DEDUCED (log 55), unsafe. -/
def runOk (first : List Byte) : Option (List Byte) → List (List Byte) → Bool
  | _, [] => true
  | c, b :: bs =>
    if b.all (· == 0) then runOk first none bs
    else
      let e := parseEntry b
      ((match c with | some c => chainsFrom c e | none => false) || (e.kind == 0x10 && chainsFrom first e)) &&
        runOk first (some e.chain) bs
/-- A unit's entries and checkpoints, if it verifies: `closed` begins with the checkpoint that closes it. A checkpoint is
checked under the identity key `pub` of the journal's device, where that is known; one of KIND 2 under the holder's.
DEDUCED (log 55), unsafe. -/
def openUnit (pub holder : List Byte) (closed : Bool) (m : List Byte) : Option (List JEntry × List Checkpoint) :=
  let body := if closed then m.drop 128 else m
  let n := (body.length - 128) / 64
  let es := chunks 64 n (body.take (64 * n))
  let prev := parseCkpt (body.drop (64 * n))
  let c := parseCkpt (m.take 128)
  let signed (c : Checkpoint) : Bool := if c.kind = 2 then ckptOk holder c else pub.isEmpty || ckptOk pub c
  let none_ := (body.drop (64 * n)).all (· == 0)
  let last := (es.getLast?.map parseEntry).getD {}
  let entries := (es.filter fun b => !b.all (· == 0)).map parseEntry
  if body.length < 192 ∨ body.length % 64 ≠ 0 then none
  else if !(none_ || signed prev) || !runOk prev.chain (some prev.chain) es then none
  else if closed && !(signed c && c.seq == last.seq && c.chain == last.chain) then none
  else some (entries, (if none_ then [] else [prev]) ++ (if closed then [c] else []))

/-- Entries join a held journal of the last 65,536, and checkpoints a held list of 256, each in order. -/
def addEntries (t : Tab JEntry) (es : List JEntry) : Tab JEntry :=
  let t := es.foldl (fun t e => tset {} t e.seq e) t
  tkeep t fun k => decide (heldHigh t < k + 65536)
def insCkpt (c : Checkpoint) : List Checkpoint → List Checkpoint
  | [] => [c]
  | d :: l => if c.seq < d.seq then c :: d :: l else if c.seq = d.seq ∧ c.kind = d.kind then c :: l else d :: insCkpt c l
def addCkpts (l cs : List Checkpoint) : List Checkpoint :=
  let l := cs.foldl (fun l c => insCkpt c l) l
  l.drop (l.length - 256)

/-- Journal entries and checkpoints are kept: as the twin's mirror, or as a spare's inheritance.
DEDUCED (log 55), unsafe. -/
def keepUnit (u : List JEntry × List Checkpoint) (s : State) : State :=
  if s.twin.state = 4 then
    { s with twin.inhJournal := addEntries s.twin.inhJournal u.1, twin.inhCkpts := addCkpts s.twin.inhCkpts u.2 }
  else { s with twin.holdJournal := addEntries s.twin.holdJournal u.1, twin.holdCkpts := addCkpts s.twin.holdCkpts u.2 }

/-- JOURNAL_MIRROR_UNIT: a unit, or one entry, which chains from the one held before it.
DEDUCED (log 54), unsafe. -/
def takeUnit (m : List Byte) (s : State) : State :=
  let t := if s.twin.state = 4 then s.twin.inhJournal else s.twin.holdJournal
  let pub := if s.twin.state = 4 then [] else s.twin.pub
  let u :=
    if m.length = 64 then
      let e := parseEntry m
      let before := tget {} t (e.seq - 1)
      if e.seq = 0 ∨ before.chain.isEmpty ∨ e.kind = 0x10 ∨ chainsFrom before.chain e then some ([e], []) else none
    else match openUnit pub s.twin.pub true m with
      | some u => some u
      | none => openUnit pub s.twin.pub false m
  match u with
  | none => twinBad s
  | some u => tryPaired (ackTwin 4 ((u.1.getLast?.map (·.seq)).getD 0) (keepUnit u s))
/-- A device that takes its twin's mirrors. -/
def mirroring (s : State) : Bool := s.twin.state == 1 || s.twin.state == 2 || s.twin.state == 4
def doMirrorUnit (count : Nat) (c tag : List Byte) (s : State) : State :=
  if mirroring s then fromTwin count c tag takeUnit s else twinBad s

/-- The entries of an image (R407). -/
def parseImage : Nat → List Byte → List (Nat × List Byte)
  | 0, _ => []
  | k + 1, b =>
    let n := leNat (slice b 4 4)
    if b.length < 8 + n then []
    else (objKey (leNat (slice b 0 2)) (b.getD 2 0).toNat, (b.drop 8).take n) :: parseImage k (b.drop (8 + (n + 7) / 8 * 8))
/-- One object of a pulled image: written with MGT's rights, journaled with PATH 0x06; `none` where it is refused (R420).
DEDUCED (log 57), unsafe. -/
def inheritOne (e : Nat × List Byte) (s : State) : Option State :=
  let ix := e.1 / 256
  let sub := e.1 % 256
  match findObj ix sub with
  | none => none
  | some o =>
    if ix = oDeviceCert then some s
    else if formStatus .mgt0 o e.2 ≠ 0 ∨ ownStatus s ix sub e.2 ≠ 0 ∨ flashStatus s o ≠ 0 then none
    else some (applyWriteOf o 6 ix sub e.2 s)
/-- Whole or not at all.
DEDUCED (log 57), unsafe. -/
def inheritImage (img : List Byte) (s : State) : State :=
  let es := parseImage (leNat (slice img 8 4)) (img.drop 64)
  match es.foldl (fun a e => match a with | none => none | some s => inheritOne e s) (some s) with
  | some s => { s with twin.pullStatus := setBit s.twin.pullStatus 0 }
  | none => s

/-- PERSISTENT_IMAGE_PART: parts come in order; a whole image is kept for the twin, or applied by a spare.
DEDUCED (log 54), unsafe. -/
def takePart (m : List Byte) (s : State) : State :=
  let off := leNat (slice m 0 4)
  let data := m.drop 8
  let old := if off = 0 then [] else s.twin.rxImage
  if off ≠ old.length ∨ leNat (slice m 4 4) ≠ data.length then twinBad s
  else
    let img := old ++ data
    let len := leNat (slice img 12 4)
    let seq := leNat (slice img 16 8)
    if img.length < 64 ∨ img.length < len then ackTwin 5 0 { s with twin.rxImage := img }
    else if slice img 0 8 ≠ [0x49, 0x53, 0x4B, 0x44, 1, 0, 0, 0] ∨ img.length ≠ len then twinBad { s with twin.rxImage := [] }
    else
      let s : State := { s with twin.rxImage := [] }
      let s := if s.twin.state = 4 then inheritImage img s
        else { s with twin.holdImage := img, twin.holdImageSeq := seq }
      tryPaired (ackTwin 5 seq s)
def doImagePart (count : Nat) (c tag : List Byte) (s : State) : State :=
  if mirroring s then fromTwin count c tag takePart s else twinBad s

/-- The keys of a blob's plaintext (log 62). -/
def blobKeys : Nat → List Byte → List (Nat × KeySt)
  | 0, _ => []
  | k + 1, b =>
    if b.length < 50 then []
    else ((b.getD 0 0).toNat, { key := slice b 2 32, gen := (b.getD 1 0).toNat, recover := true, kcv := slice b 34 16 }) ::
      blobKeys k (b.drop 50)
/-- KEY_BLOB: kept sealed for the twin; a spare unwraps it into *RECOVERED_KEYS* (R384), if its tag verifies.
DEDUCED (log 54), unsafe. -/
def takeBlob (m : List Byte) (s : State) : State :=
  let n := leNat (slice m 0 8)
  if m.length < 24 then twinBad s
  else if s.twin.state ≠ 4 then
    tryPaired (ackTwin 6 n { s with twin.holdBlob := m, twin.holdBlobCount := n % 2 ^ 32 })
  else
    let c := (m.drop 8).take (m.length - 24)
    let iv := leBytes 4 3 ++ leBytes 8 n
    let aad := leBytes 2 s.twin.node ++ leBytes 2 (nodeId s)
    if slice (Config.gcmTag s.sec.pairKey iv aad c) 0 16 ≠ slice m (m.length - 16) 16 then twinBad s
    else ackTwin 6 n { s with sec.recovered := blobKeys 255 ((Config.gcmDec s.sec.pairKey iv c).take c.length),
                              twin.pullStatus := setBit s.twin.pullStatus 1 }
/-- DESIGN CHOICE (log 62), unsafe. -/
def doKeyBlob (count : Nat) (c tag : List Byte) (s : State) : State :=
  if mirroring s then fromTwin count c tag takeBlob s else twinBad s

/-! ## Acknowledgements -/

/-- MGMT_ACKNOWLEDGEMENT: a mirror is held by the twin as far as it says. A holder whose spare has everything closes the
pull with an acknowledgement of KIND 0, and the pair forms; the acknowledgement of a handover's final unit ends it. -/
def takeTwinAck (m : List Byte) (s : State) : State :=
  let kind := (m.getD 0 0).toNat
  let n := leNat (slice m 8 8)
  if s.twin.state = 4 then
    if kind = 0 then pullDone { s with twin.pullStatus := setBit s.twin.pullStatus 2 } else s
  else
    let s : State := { s with twin.ackedParts := s.twin.ackedParts + 1 }
    let s : State := if kind = 4 then { s with twin.journalAcked := max s.twin.journalAcked n }
      else if kind = 6 then { s with twin.blobAcked := n } else s
    if s.twin.state = 3 then
      (if s.twin.spare && decide (s.twin.sentParts ≤ s.twin.ackedParts) then pullDone (ackTwin 0 0 s) else s)
    else match s.twin.handover with
      | some q => if kind = 4 ∧ q ≤ n then twinNone s else s
      | none => tryPaired s
/-- DEDUCED (log 53), unsafe. -/
def doTwinAck (count : Nat) (c tag : List Byte) (s : State) : State :=
  if s.twin.state = 0 then twinBad s else fromTwin count c tag takeTwinAck s

/-! ## Loss and detach (R418, R419, R421) -/

/-- The holder's own checkpoint over the unsigned tail of what it holds. -/
def signHeld (s : State) : State :=
  match s.twin.holdJournal.getLast? with
  | none => s
  | some (n, e) =>
    if s.twin.holdCkpts.any (fun c => c.seq == n && c.kind == 0) then s
    else
      let c : Checkpoint := { seq := n, wall := wall s, chain := e.chain, node := nodeId s, kind := 2,
                              boot := s.sec.boots % 2 ^ 32 }
      let c := { c with sig := Config.ed25519Sign s.sec.idSeed c.head }
      { s with twin.holdCkpts := insCkpt c s.twin.holdCkpts }
/-- PAIRED to HOLDING. -/
def enterHolding (s : State) : State :=
  let key := s.sec.pairKey
  let s := signHeld (twinTo 3 (mirrorLost s))
  { s with twin.holdKey := key, sec.pairKey := [], twin.spare := false, twin.handover := none }

/-- The highest number lacking below the newest entry held. -/
def gapTop (k : Nat) (acc : Option Nat) : Tab JEntry → Option Nat
  | [] => acc
  | (a, _) :: t => if a < k then gapTop k acc t else if a = k then gapTop (k + 1) acc t else gapTop (a + 1) (some (a - 1)) t
/-- The holder is lost while this spare pulls (R421).
DEDUCED (log 55), unsafe. -/
def holderLost (s : State) : State :=
  let t := s.twin.inhJournal
  let s := match firstGap t, gapTop (heldHigh t + 1 - 65536) none t with
    | some a, some b => journal 0 0x11 0 (jOther 1) (u64 a ++ u64 b) s
    | _, _ => s
  twinNone (report (hubSite s) 0x0A03 0 0 0 ((firstGap t).getD 0) s)

/-- TWIN_HEARTBEAT_TIMEOUT: 100 ms. -/
def doTwinLost (s : State) : State :=
  if s.twin.state = 2 then
    let s := advanceTo (s.twin.lastBeat + 100000000) s
    enterHolding (report (hubSite s) 0x0A02 0 0 0 s.twin.node s)
  else if s.twin.state = 4 then holderLost (advanceTo (s.twin.lastBeat + 100000000) s)
  else s
/-- TWIN_HEARTBEAT: one that comes 100 ms after the last, or later, finds the twin lost (R25).
DESIGN CHOICE (log 38), unsafe. -/
def doTwinBeat (node : Nat) (s : State) : State :=
  if s.twin.state = 0 ∨ s.twin.node ≠ node then s
  else if (s.twin.state = 2 ∨ s.twin.state = 4) ∧ s.twin.lastBeat + 100000000 ≤ wall s then doTwinLost s
  else { s with twin.lastBeat := wall s }
/-- TWIN_PAIRING_TIMEOUT: 30 s. -/
def doPairingTimeout (s : State) : State :=
  if s.twin.state = 1 then twinNone (advanceTo (s.twin.since + 30000000000) s) else s

/-- *TWIN_DETACH*: STATUS.
DEDUCED (log 56), unsafe. -/
def detachStatus (s : State) (v : List Byte) : Nat :=
  let n := leNat v
  if 1 < n then 2
  else if n = 0 then bnat (s.twin.state != 2 && s.twin.state != 3)
  else bnat (s.twin.state != 2 || s.twin.handover.isSome)
/-- *TWIN_DETACH* accepted; the write of the other device comes on TWN. HANDOVER flushes the journal and sends the final
unit, whose acknowledgement ends it.
DEDUCED (log 56), unsafe. -/
def detach (path : Nat) (v : List Byte) (s : State) : State :=
  let tell (s : State) : State := toTwin 1 (ioapBytes 2 0 oTwinDetach 0 2 0 0 0 v) s
  if leNat v = 0 then
    let s := if path ≠ 6 ∧ s.twin.state = 2 then tell s else s
    twinNone s
  else if path = 6 then enterHolding s
  else
    let s := flush 1 s
    let s := ((ownUnits s).take 1).foldl (fun s u => toTwin 4 u s) s
    tell { s with twin.handover := some (jseq s) }

/-! ## All writes -/

/-- Step 4 of R405 for every object.
DEDUCED (log 24), unsafe. -/
def stepFour (s : State) (ix sub : Nat) (v : List Byte) : Nat :=
  let n := ownStatus s ix sub v
  if n ≠ 0 then n
  else if ix = oTwinPair then twinPairStatus s v
  else if ix = oTwinDetach then detachStatus s v
  else 0
/-- The STATUS of a write (R405).
DEDUCED (log 24), unsafe. -/
def writeStatus (s : State) (p : Path) (ix sub : Nat) (v : List Byte) : Nat :=
  match findObj ix sub with
  | none => 5
  | some o =>
    let a := formStatus p o v
    if a ≠ 0 then a
    else
      let b := stepFour s ix sub v
      if b ≠ 0 then b else flashStatus s o
/-- A write, accepted or refused (R405 to R407).
DEDUCED (log 36), unsafe; DEDUCED (log 37), unsafe. -/
def writeObj (p : Path) (ix sub : Nat) (v : List Byte) (s : State) : State :=
  let st := writeStatus s p ix sub v
  let path := pathCode p
  match findObj ix sub with
  | some o =>
    if st ≠ 0 then refuseWrite path ix sub v st (decide (st = 1) && writeStatus (warmed s) p ix sub v == 0) s
    else if ix = oTwinPair then twinPair v (journal path 2 0 (jObj ix sub) v s)
    else if ix = oTwinDetach then detach path v (journal path 2 0 (jObj ix sub) v s)
    else applyWriteOf o path ix sub v s
  | none => refuseWrite path ix sub v st false s

def execTwinHeartbeat (node : Nat) (s : State) : Out := .next (doTwinBeat node s)
def execTwinHeartbeatTimeout (s : State) : Out := .next (doTwinLost s)
def execTwinPairingTimeout (s : State) : Out := .next (doPairingTimeout s)
def execReportExchange (node : Nat) (report pub : List Byte) (s : State) : Out := .next (doReportExchange node report pub s)
def execJournalMirrorUnit (count : Nat) (sealed tag : List Byte) (s : State) : Out := .next (doMirrorUnit count sealed tag s)
def execPersistentImagePart (count : Nat) (sealed tag : List Byte) (s : State) : Out :=
  .next (doImagePart count sealed tag s)
def execKeyBlob (count : Nat) (sealed tag : List Byte) (s : State) : Out := .next (doKeyBlob count sealed tag s)
def execMgmtAcknowledgement (count : Nat) (sealed tag : List Byte) (s : State) : Out := .next (doTwinAck count sealed tag s)

end Sys2Proof.Machine
end

