-- ==== Sys2Proof/Machine/Boot.lean ====
section
/-! DEFINITION. Machine/Boot.lean: power-up and the hubs' boot (R371, R372, R458, R462), the journal's resume (R412), the
powering of facets (R459), straps and admission (R12, R14), power-down, and the failure of a hub (R368, R369). -/
namespace Sys2Proof.Machine
open Sys2Proof

/-! ## The hubs' boot (R371) -/

/-- A hub strap fault: in every case a strap differs from the one its site expects (R14, R458). -/
def strapBad (a b : Nat) : Bool := a != 0x80 || b != 0x81
/-- The identity key (R374), in the states that derive it (R387). -/
def identityKey (s : State) : List Byte :=
  if lcState s = 0 ∨ lcState s = 4 then [] else hkdf32 [] s.sec.secret (utf8 "isk-identity")
/-- Both hubs check the image; a hub whose check fails enters the recovery loader. `c0`, `c1` are their failure codes.
DEDUCED (log 58), unsafe. -/
def bootWith (c0 c1 : Nat) (s : State) : State :=
  let n := bnat (c0 != 0) + bnat (c1 != 0)
  let code := if c0 ≠ 0 then c0 else if c1 ≠ 0 then c1 else s.sec.failCode
  let s : State := { s with sec.failCode := code, sec.loaderEntries := (s.sec.loaderEntries + n) % 2 ^ 32 }
  if n = 2 then
    report 97 0x0902 0 0 0 c1 <| report 96 0x0902 0 0 0 c0
      { s with hub.loader := true, hub.firmware := false, hub.staged := [], hub.stagedLen := 0, sec.idSeed := [] }
  else
    let s : State :=
      { s with hub.loader := false, hub.firmware := true, hub.hb1Primary := c0 != 0, hub.hb0Failed := c0 != 0,
               hub.hb1Failed := c1 != 0, hub.staged := [], hub.stagedLen := 0, sec.idSeed := identityKey s,
               sec.fwMeasure := slice s.flash.fw 32 64, sec.fwVersion := leNat (slice s.flash.fw 8 4) }
    if n = 0 then s else report (hubSite s) 0x0902 0 0 0 code s
/-- A boot of both hubs.
DEDUCED (log 58), unsafe. -/
def bootHubs (straps reads0 reads1 : Bool) (s : State) : State :=
  if straps then bootWith 7 7 { s with hub.strapFault := true }
  else
    let c := imageCheck s s.flash.fw
    bootWith (if reads0 then c else 6) (if reads1 then c else 6) s

/-- The write of a firmware image is complete; after one in the loader both hubs are reset (R372). -/
def imageWritten (s : State) : State :=
  match s.flash.fwNew with
  | some img =>
    let s : State := { s with flash.fw := img, flash.fwNew := none }
    if s.hub.loader then bootHubs false true true s else s
  | none => s

/-- POWER_UP: the wall counter starts at zero (R21); retained SRAM without VSTBY is lost (R449); power-ups are counted except in BLANK
(R377), and a LEAVE_SERVICE takes effect (R389).
DESIGN CHOICE (log 21), safe; DEDUCED (log 58), unsafe. -/
def doPowerUp (i : PowerUpIn) (s : State) : State :=
  if s.hub.on then s
  else
    let s : State :=
      { s with time := 0, hub.on := true, standby := if i.vstbyHeld then s.standby else {},
               straps := tset 0 (tset 0 s.straps 96 (i.strap0 + 1)) 97 (i.strap1 + 1), sec.leavePending := false }
    let s : State := if lcState s = 0 then s else { s with sec.boots := (s.sec.boots + 1) % 2 ^ 64 }
    bootHubs (strapBad i.strap0 i.strap1) i.flashReads0 i.flashReads1 s

/-! ## Resume (R412, R458 step 3) -/

/-- The newest flush record and the newest checkpoint of the ring. -/
def newFlush (s : State) : Option FlushRec :=
  if s.flash.flushNew = 1 then s.flash.flushA else if s.flash.flushNew = 2 then s.flash.flushB else none
def newCkpt (s : State) : Option Checkpoint :=
  if s.flash.nCkpts = 0 then none else some (tget {} s.flash.ckpts ((s.flash.nCkpts - 1) % 4096))

/-- What waits in the retained SRAM reaches flash: trip record, flush record, checkpoints.
DEDUCED (log 19), unsafe. -/
def commitHeld (s : State) : State :=
  let s := match s.standby.trip with
    | some r => commitTrip (withCommit r 2) s
    | none => { s with pw.tripRecord := tget [] s.flash.trips ((s.flash.tripNext + 2047) % 2048) }
  let s := match s.standby.flush with
    | some r => flushToFlash r { s with standby.flush := none }
    | none => s
  s.standby.waiting.foldl (fun s c => ckptToFlash c s) { s with standby.waiting := [] }

/-- How the journal resumes: the next SEQUENCE, the CHAIN that the BOOT entry chains from, its RESULT, the range lost, and
the newest checkpoint. -/
structure Resume where
  next : Nat := 0
  chain : List Byte := List.replicate 16 0
  result : Nat := 0
  gap : Option (Nat × Nat) := none
  last : Option Checkpoint := none
  tail : List JEntry := []
deriving DecidableEq, Repr

/-- The cases of R412, in order.
DEDUCED (log 19), unsafe. -/
def resumeOf (s : State) : Resume :=
  let f := newFlush s
  let c := newCkpt s
  let flush := match f, c with | some f, some c => decide (c.seq ≤ f.ckpt.seq) | some _, none => true | none, _ => false
  let n := if flush then f.map (·.ckpt) else c
  let base := (n.map fun c => c.seq + 1).getD 0
  let chain := (n.map (·.chain)).getD (List.replicate 16 0)
  let tail := if flush then (f.map (·.tail)).getD [] else []
  match s.standby.head with
  | some (h, _) =>
    if h < base then { next := base, chain := chain, last := n, tail := tail }
    else { next := h + 1, chain := chain, result := 1, gap := some (base, h), last := n }
  | none =>
    if flush then { next := base, chain := chain, last := n, tail := tail }
    else if n.isNone then {}
    else
      let m := ((base - 1 + 256) / 2 ^ 32 + 1) * 2 ^ 32
      { next := m, chain := chain, result := 2, gap := some (base, m - 1), last := n }

/-- The entries that a power-up makes: BOOT and GAP, the takeover of an HB1 that is primary from the start (R369, R371), the
flush (R411), and a trip record's commit.
DEDUCED (log 19), unsafe; DEDUCED (log 59), unsafe. -/
def resumeJournal (tripWas : Bool) (s : State) : State :=
  let r := resumeOf s
  let ring := r.tail.foldl (fun t e => tset {} t (e.seq % 65536) e) []
  let s : State := { s with jrnl := { next := r.next, chain := r.chain, ring := ring, last := r.last, bootSeq := r.next },
                            hub.resumed := true }
  let s := journal 0 0x10 r.result (jOther (s.sec.boots % 65536)) (bootRecord s) s
  let s := match r.gap with | some (a, b) => journal 0 0x11 0 (jOther 0) (u64 a ++ u64 b) s | none => s
  let s := if s.hub.hb1Primary then secEvent 0 oRootHub [byte (rootHub s)] s else s
  let s := flush 4 s
  if tripWas then powerEvent 0x0B0B 0 true false (hubSite s) s else s

/-- *STARTUP_STATE* before a facet is powered (R459). -/
def waitCode (s : State) : Nat :=
  if s.pw.supply ≠ 0 then 1
  else if (match s.pw.coolant with | some t => decide (4000 < t) | none => false) then 2
  else if !flashOk s then 3
  else 4

/-- STARTUP_RESUME: it waits while flash may not be written; then the image's values are in force, and the modules' CMIS
initialisation begins (R224). A facet to be powered is OFF for another reason than its *FACET_ENABLE* (R346). A write that was
accepted and not applied before the power went comes into force with the image, and no APPLIED entry is made for it: the spec
does not say whether R406 asks for one.
DESIGN CHOICE (log 117), unsafe. -/
def doResume (s : State) : State :=
  if !s.hub.firmware ∨ s.hub.resumed then s
  else
    let s : State := if s.hub.fwRunning = 0 then { s with hub.fwRunning := wall s } else s
    if !flashOk s then { s with hub.startup := 3 }
    else
      let trip := s.standby.trip.isSome
      let s := resumeJournal trip (commitHeld s)
      let s := (liveImage s).2.foldl (fun s e => setValue e.1 e.2 s) s
      let adm := if s.hub.hb0Failed then s.admitted else tset 0 s.admitted 96 1
      let s : State := { s with admitted := if s.hub.hb1Failed then adm else tset 0 adm 97 1 }
      let s := [0, 1].foldl (fun s h =>
        if if h = 0 then s.hub.hb0Failed else s.hub.hb1Failed then s else updHost h (fun x => { x with link := 1 }) s) s
      let s := (List.range 12).foldl (fun s m =>
        if (getLsm s m).state = 1 then emit (.lsm m 2 0) (updLsm m (fun x => { x with state := 2 }) s) else s) s
      let s := [0, 1, 2, 3].foldl (fun s f =>
        if numGet s oFacetEnable (f + 1) = 1 then updFacet f (fun x => { x with offOther := true }) s else s) s
      { s with hub.startup := waitCode s }

/-! ## Facets (R458, R459) -/

/-- A wait's start or end is journaled on the facet that waits, its states equal (log 60). -/
def journalWait (f : Nat) (s : State) : State :=
  let x := getFacet s f
  journal 0 0x04 0 (jOther f) [byte x.state, byte x.state, byte (joinMask s f)] s
/-- The next facet that start-up powers. -/
def nextPowered (s : State) : Option Nat :=
  [0, 1, 2, 3].find? fun f => decide (s.hub.nextFacet ≤ f) && numGet s oFacetEnable (f + 1) == 1
/-- FACET_POWER_ON: 10 ms after the facet before it, if nothing holds start-up. -/
def doFacetPower (f : Nat) (s : State) : State :=
  if !s.hub.resumed || s.hub.bothFailed || s.pw.tripped || decide (2 ≤ s.pw.supply) || nextPowered s != some f ||
      (getFacet s f).state != 0 then s
  else
    let s := match s.hub.lastFacetOn with | some t => advanceTo (t + 10000000) s | none => s
    let w := waitCode s
    let waited := decide (s.hub.startup < 4)
    if w < 4 then
      let s := if s.hub.startup = w then s else journalWait f (if waited then journalWait f s else s)
      { s with hub.startup := w }
    else
      let s := if waited then journalWait f s else s
      let now := wall s
      let s := powerFacet f false (facetTo f 1 s)
      { s with hub.startup := 4, hub.forwarding := true, hub.lastFacetOn := some now, hub.nextFacet := f + 1 }

/-- STRAP_LATCH: a powered die reads its strap bumps once for each time it leaves power-on reset (R12). -/
def doStrap (site b : Nat) (s : State) : State :=
  let on := match siteFacet site with
    | some f => facetPowered s f
    | none => s.hub.on && decide (98 ≤ site)
  let s := match siteFacet site with
    | some f =>
      if on && (getFacet s f).relatch.contains site then
        updFacet f (fun x => { x with relatch := x.relatch.filter (· != site) }) { s with straps := tdel s.straps site }
      else s
    | none => s
  if on && tget 0 s.straps site == 0 then { s with straps := tset 0 s.straps site (b % 256 + 1) } else s

/-- Dies of a kind (R13). -/
def kindCount (kind : Nat) : Nat := [32, 32, 8, 24, 2, 2, 0, 0].getD kind 0
/-- SITE_TABLE's status of a die that is admitted with others (R14, R15). Where several of its cases hold, the spec gives
no precedence, and the one its table lists first is reported.
DESIGN CHOICE (log 93), unsafe. -/
def admitStatus (s : State) (together : List Nat) (site : Nat) : Nat :=
  let b := tget 0 s.straps site - 1
  let same (x : Nat) : Bool := x != site && tget 0 s.straps x == b + 1
  if kindCount (b / 32) ≤ b % 32 then 2
  else if b ≠ siteStrap site then 3
  else if together.any same || s.admitted.any (fun e => same e.1) then 4
  else 0
/-- Every port of a die that is under test has passed (R211). -/
def portsPassed (s : State) (site : Nat) : Bool :=
  (List.range 140).all fun n =>
    let l := getLink s n
    l.state != 1 || (((linkEnds n).1 != site || l.passFwd) && ((linkEnds n).2 != site || l.passRev))

/-- DIE_ADMISSION: every die named is judged against what was latched and admitted before; a held die fails its facet. -/
def doAdmission (sites : List Nat) (s : State) : State :=
  let due := sites.filter fun x => tget 0 s.straps x != 0 && tget 0 s.admitted x != 1 && tget 0 s.held x == 0 &&
    portsPassed s x && (match siteFacet x with | some f => facetPowered s f && !(getFacet s f).relatch.contains x | none => false)
  let got := due.map fun x => (x, admitStatus s due x)
  settleNet <| got.foldl (fun s e =>
    let s : State := { s with siteStatus := tset 0 s.siteStatus e.1 e.2 }
    if e.2 = 0 then { s with admitted := tset 0 s.admitted e.1 1 }
    else failFacet ((siteFacet e.1).getD 0)
      (report e.1 0x0101 0 0 0 e.2 { s with held := tset 0 s.held e.1 1 })) s

/-! ## Power-down -/

/-- POWER_DOWN: what is left is flash, fuses and the boot record, modules in their cages, the far lanes found
below margin for the next training (R176), and the retained SRAM while VSTBY holds it (R21, R375, R423, R446, R449). A firmware image
whose write is not complete leaves one that fails (R372): which bytes it has is not stated, and it is empty.
DESIGN CHOICE (log 31), unsafe. -/
def doPowerDown (held : Bool) (s : State) : State :=
  { State.reset with
    pending := s.pending, free := s.free, rnd := s.rnd, nextUid := s.nextUid, out := s.out,
    flash := { s.flash with fw := if s.flash.fwNew.isSome then [] else s.flash.fw, fwNew := none },
    standby := if held then s.standby else {},
    sec := { secret := s.sec.secret, lc := s.sec.lc, svMin := s.sec.svMin, revoke0 := s.sec.revoke0,
             leavePending := s.sec.leavePending, boots := s.sec.boots, failCode := s.sec.failCode,
             loaderEntries := s.sec.loaderEntries },
    fds := (s.fds.filter fun e => e.2.marginal != 0).map fun e => (e.1, { marginal := e.2.marginal }),
    lsms := (s.lsms.filter fun e => e.2.state != 0).map fun e => (e.1, { state := 1 }) }

/-! ## Hub failures (R368, R369) -/

/-- HEARTBEAT from HB0. -/
def doHeartbeat (s : State) : State :=
  if hubUp s && !s.hub.hb1Primary then { s with hub.lastBeat := wall s } else s
/-- A hub is lost with its host die, its exchange memory and its pages (R363). -/
def loseHub (h : Nat) (s : State) : State :=
  let s := zeroBytes (doorBase h) 0x100000 (zeroBytes (mailBase h) 0x1000 (zeroBytes (xchBase h) 0x4000000 s))
  let s := updHost h (fun x => { x with link := if x.link = 0 then 0 else 3, admitted := false, busy := false, busySeq := [], waitReqs := [],
                                        keyAns := none, msixPend := 0 }) s
  xchDrop h { s with admitted := tdel (tdel s.admitted (96 + h)) (98 + h) }
/-- HUB_TAKEOVER: 1 ms after HB0's last heartbeat, or at its fatal report.
DEDUCED (log 59), unsafe. -/
def doTakeover (fatal : Bool) (s : State) : State :=
  if !hubUp s || s.hub.hb1Primary then s
  else if s.hub.hb1Failed then (if fatal then hubsGone s else s)
  else
    let s := if fatal then s else advanceTo (s.hub.lastBeat + 1000000) s
    let s := loseHub 0 { s with hub.hb0Failed := true, hub.hb1Primary := true }
    secEvent 0 oRootHub [byte (rootHub s)] s
/-- STANDBY_HUB_FAILURE: HB1 fails.
DEDUCED (log 59), unsafe. -/
def doStandbyFails (s : State) : State :=
  if !hubUp s || s.hub.hb1Failed then s
  else if s.hub.hb0Failed then hubsGone { s with hub.hb1Failed := true }
  else loseHub 1 { s with hub.hb1Failed := true }

def execPowerUp (i : PowerUpIn) (s : State) : Out := .next (doPowerUp i s)
def execStartupResume (s : State) : Out := .next (doResume s)
def execFacetPowerOn (f : Facet) (s : State) : Out := .next (doFacetPower f s)
def execStrapLatch (site : SiteNo) (strap : Nat) (s : State) : Out := .next (doStrap site strap s)
def execDieAdmission (together : List SiteNo) (s : State) : Out := .next (doAdmission (together.map (·.val)) s)
def execPowerDown (vstbyHeld : Bool) (s : State) : Out := .next (doPowerDown vstbyHeld s)
def execHeartbeat (s : State) : Out := .next (doHeartbeat s)
def execHubTakeover (fatal : Bool) (s : State) : Out := .next (doTakeover fatal s)
def execStandbyHubFailure (s : State) : Out := .next (doStandbyFails s)

end Sys2Proof.Machine
end

