-- ==== Sys2Proof/Machine/Manage.lean ====
section
/-! DEFINITION. Machine/Manage.lean: the management paths (R392 to R396), IOAP and its operations (R397 to R403), writes of
every object as commands of a path, persistent commits (R407), checkpoints and flushes (R410, R411). -/
namespace Sys2Proof.Machine
open Sys2Proof

/-! ## Paths and responses (R392, R397, R400) -/

/-- The path is live; the recovery loader answers on MGT alone.
DEDUCED (log 35), unsafe. -/
def pathLive (s : State) (p : Path) : Bool :=
  match p with
  | .own => false
  | .mgt0 | .mgt1 | .mctp => hubUp s || (s.hub.on && s.hub.loader)
  | .hd0 => hostLive s 0
  | .hd1 => hostLive s 1
  | .twn => hubUp s && s.twin.state == 2
  | .svc => hubUp s && lcState s == 3
def isMgt (p : Path) : Bool := p == .mgt0 || p == .mgt1 || p == .mctp

/-- The response as it leaves. -/
def respBytes (r : Resp) : List Byte :=
  ioapBytes r.op r.reqId r.index r.sub (1 + 2 * bnat r.last + 4 * bnat r.loader) r.offset r.status r.jseq r.value
/-! ### MCTP (R394)
PRESUMED (log 131), unsafe: the layout of packets and messages is that of DMTF DSP0236. -/

/-- What stands before an IOAP message in its MCTP message: type 0x7F, the enterprise number. -/
def mctpPrefix : List Byte := 0x7F :: (u32 Config.ianaEnterprise).reverse
/-- A packet: header version, EIDs, first, last, sequence number, tag and its owner; then at most 64 bytes. -/
def mctpPacket (dst src : Nat) (first last own : Bool) (seq tag : Nat) (b : List Byte) : List Byte :=
  [1, byte dst, byte src, byte (128 * bnat first + 64 * bnat last + 16 * (seq % 4) + 8 * bnat own + tag % 8)] ++ b
/-- An IOAP message as MCTP packets of the baseline transmission unit. -/
def mctpPackets (dst src : Nat) (own : Bool) (tag : Nat) (m : List Byte) : List (List Byte) :=
  let v := mctpPrefix ++ m
  let n := (v.length + 63) / 64
  (List.range n).map fun i => mctpPacket dst src (i == 0) (i + 1 == n) own i tag (slice v (64 * i) (min 64 (v.length - 64 * i)))
/-- The tag of the request that a response answers. -/
def mctpTag (s : State) (eid req : Nat) : Nat :=
  match s.mg.mctpTags.find? fun x => x.1 == eid && x.2.1 == req with
  | some x => x.2.2
  | none => 0
/-- A response on TWN is sealed for the twin; others go out as they are, over MCTP cut into packets. -/
def sendResp (r : Resp) (s : State) : State :=
  let eid := (r.source.getD 0 0).toNat
  if r.path = 6 then (if s.twin.state = 2 then toTwin 1 (respBytes r) s else s)
  else if r.path = 3 then
    let t := { s with mg.mctpTags := s.mg.mctpTags.filter fun x => x.1 != eid || x.2.1 != r.reqId }
    emit (.mctp (mctpPackets eid (numGet s oMctpEid 0) false (mctpTag s eid r.reqId) (respBytes r))) (emit (.resp r) t)
  else emit (.resp r) s
/-- The last 256 responses of each source are kept.
DESIGN CHOICE (log 32), safe. -/
def keepResp (r : Resp) (s : State) : State :=
  let mine := s.mg.kept.filter fun x => x.source == r.source && x.path == r.path
  let old := match mine with | x :: _ => if 256 ≤ mine.length then s.mg.kept.erase x else s.mg.kept | [] => s.mg.kept
  if r.source.isEmpty then s else { s with mg.kept := old ++ [r] }
def giveResp (r : Resp) (s : State) : State :=
  sendResp r (keepResp r (copyOver (countPath r.path (if r.status = 0 then 1 else 2) s)))

/-- A request: not answered where its path is not live or, in the loader, its operation is not the loader's; answered from
the kept response where its REQ_ID repeats (TWN and SVC are one source each); else `go` serves it, given the response to fill.
DESIGN CHOICE (log 32), safe; DEDUCED (log 34), unsafe; DEDUCED (log 35), unsafe. -/
def serve (p : Path) (source : List Byte) (req op ix sub off : Nat) (go : Resp → State → State) (s : State) : State :=
  let path := pathCode p
  let source := if 6 ≤ path then [byte path] else source
  if !pathLive s p then s
  else if s.hub.loader && !(op == 4 || op == 0x10 || op == 0x11 || op == 0x12) then s
  else if allRefused s && !isMgt p && op != 2 then s
  else match s.mg.kept.find? fun x => x.source == source && x.path == path && x.reqId == req with
    | some x => sendResp x s
    | none => go { path := path, source := source, reqId := req, op := op, index := ix, sub := sub, offset := off,
                   loader := s.hub.loader } s

/-! ## READ, DESCRIBE, PING (R398, R401) -/

/-- Objects whose value is a free value: each read draws a new one (log 6). -/
def freeObject (ix : Nat) : Bool :=
  [oDomainPower, oOptLsmMon].contains ix
/-- What a read does besides: free values are drawn, and what is read of *LOG_RING* is marked (R349). -/
def readDone (ix off n : Nat) (s : State) : State :=
  let s := if freeObject ix then { s with free := s.free + 1 } else s
  if ix = oLogRing then markRead off n s else s
/-- DEDUCED (log 36), unsafe. -/
def doRead (p : Path) (source : List Byte) (req ix sub off len : Nat) (s : State) : State :=
  serve p source req 1 ix sub off (fun r s =>
    let (st, v) := objRead s p ix sub
    if st ≠ 0 then giveResp { r with status := st } s
    else if v.length < off + len ∨ 992 < len then giveResp { r with status := 6 } s
    else
      let n := if len = 0 then min 992 (v.length - off) else len
      giveResp { r with value := (v.drop off).take n, last := off + n == v.length } (readDone ix off n s)) s

/-- The descriptor, as much of it as one message holds.
DESIGN CHOICE (log 30), unsafe. -/
def doDescribe (p : Path) (source : List Byte) (req ix sub : Nat) (s : State) : State :=
  serve p source req 3 ix sub 0 (fun r s =>
    match findObj ix sub with
    | none => giveResp { r with status := 5 } s
    | some o =>
      let d := descriptor o sub
      giveResp { r with value := d.take 992, last := decide (d.length ≤ 992) } s) s
def doPingOp (p : Path) (source : List Byte) (req : Nat) (s : State) : State :=
  serve p source req 4 0 0 0 (fun r s => giveResp { r with value := u64 (wall s), last := true } s) s
def doBootStatus (p : Path) (source : List Byte) (req : Nat) (s : State) : State :=
  serve p source req 0x10 0 0 0 (fun r s => giveResp { r with value := bootRecord s, last := true } s) s
def doUnknownOp (p : Path) (source : List Byte) (req op : Nat) (s : State) : State :=
  serve p source req op 0 0 0 (fun r s => giveResp { r with status := 7 } s) s

/-! ## WRITE (R403, R405 to R407) -/

/-- The write whole: a persistent one that is accepted is answered after its commit.
DEDUCED (log 34), unsafe. -/
def finishWrite (p : Path) (r : Resp) (v : List Byte) (s : State) : State :=
  let st := writeStatus s p r.index r.sub v
  let n := s.jrnl.next
  let waits := s.mg.persist.length
  let s := writeObj p r.index r.sub v s
  let r : Resp := { r with status := st, jseq := if n < s.jrnl.next then n else 0 }
  if st = 0 ∧ waits < s.mg.persist.length then
    let q := s.mg.persist
    { s with mg.persist := q.dropLast ++ (q.getLast?.map fun w => { w with resp := some r }).toList }
  else giveResp r s
/-- The object takes chunks: STR and BLOB. -/
def takesChunks (ix sub : Nat) : Bool := match findObj ix sub with | some o => decide (8 ≤ o.type) && decide (o.type ≤ 9) | none => false
/-- A write or a chunk of one. One at OFFSET 0 is whole when it is the last, or names a scalar.
DEDUCED (log 34), unsafe. -/
def doWrite (p : Path) (source : List Byte) (req ix sub off : Nat) (last : Bool) (v : List Byte) (s : State) : State :=
  let path := pathCode p
  let key := objKey ix sub
  if 992 < v.length then countPath path 3 s
  else serve p source req 2 ix sub off (fun r s =>
    let now := wall s
    let x := tget {} s.mg.staged path
    let isOpen := decide (x.last ≠ 0) && decide (now < x.last - 1 + 10000000000)
    let close (s : State) : State := { s with mg.staged := tset {} s.mg.staged path {} }
    let keep (b : List Byte) (s : State) : State :=
      { s with mg.staged := tset {} s.mg.staged path { source := r.source, key := key, bytes := b, last := now + 1 } }
    if isOpen && x.source != r.source then giveResp { r with status := 3 } s
    else if off = 0 then
      if last || !takesChunks ix sub then finishWrite p r v (close s) else giveResp r (keep v s)
    else if !isOpen || x.key != key || off != x.bytes.length then giveResp { r with status := 6 } s
    else if last then finishWrite p r (x.bytes ++ v) (close s)
    else giveResp r (keep (x.bytes ++ v) s)) s
/-- STAGED_WRITE_TIMEOUT: 10 s without a chunk. -/
def doStagedTimeout (p : Path) (s : State) : State :=
  let x := tget {} s.mg.staged (pathCode p)
  if x.last = 0 then s
  else
    let s := advanceTo (x.last - 1 + 10000000000) s
    { s with mg.staged := tset {} s.mg.staged (pathCode p) {} }

/-- OBJ_WRITE of the mailbox (R360): answered when it is done, a persistent write after its commit.
DESIGN CHOICE (log 39), safe. -/
def hostWrite (h ix sub : Nat) (v : List Byte) (s : State) : State :=
  if !mailLive s h then s
  else
    let p := if h = 0 then Path.hd0 else .hd1
    let st := writeStatus s p ix sub v
    let n := s.jrnl.next
    let waits := s.mg.persist.length
    let s := writeObj p ix sub v s
    if st = 0 ∧ waits < s.mg.persist.length then s
    else mailDone h (if 5 ≤ st then 2 else st) (if n < s.jrnl.next then n else 0) [] s
/-- A write of an object as a command of a path: an IOAP WRITE without a source, or the mailbox's OBJ_WRITE.
DESIGN CHOICE (log 39), safe. -/
def pathWrite (p : Path) (ix sub : Nat) (v : List Byte) (s : State) : State :=
  match p with
  | .hd0 => hostWrite 0 ix sub v s
  | .hd1 => hostWrite 1 ix sub v s
  | _ =>
    if pathLive s p && !s.hub.loader then
      finishWrite p { path := pathCode p, op := 2, index := ix, sub := sub } v s
    else s

/-- PERSISTENT_WRITE_COMMITTED: the oldest write's image goes to the older copy, and the write is answered (R407); a paired
twin is sent the new image (R417). A value equal to the default leaves the image.
DEDUCED (log 37), unsafe. -/
def doCommitted (s : State) : State :=
  match s.mg.persist with
  | [] => s
  | w :: rest =>
    let ix := w.key / 256
    let sub := w.key % 256
    let dflt := match findObj ix sub with | some o => defaultBytes o sub | none => []
    let t := (liveImage s).2
    let img := if w.value = dflt then tdel t w.key else tput t w.key w.value
    let s := commitImage w.seq img { s with mg.persist := rest }
    let s := if s.twin.state = 2 then sendImage (imageBytes w.seq img) s else s
    match w.resp with
    | some r => giveResp r s
    | none => if isHst w.path then mailDone (w.path - 4) 0 w.seq [] s else s

/-! ## Firmware images over IOAP (R372, R398) -/

/-- IMAGE_CHUNK: on MGT, and on SVC in service.
DEDUCED (log 31), unsafe. -/
def doChunk (p : Path) (source : List Byte) (req off : Nat) (v : List Byte) (s : State) : State :=
  serve p source req 0x11 0 0 off (fun r s =>
    if !isMgt p && p != .svc then giveResp { r with status := 4 } s
    else if allRefused s then giveResp { r with status := 1 } s
    else if 8388864 < off + v.length ∨ 992 < v.length then giveResp { r with status := 6 } s
    else giveResp r { s with hub.staged := putBytes s.hub.staged off v, hub.stagedLen := max s.hub.stagedLen (off + v.length) }) s
/-- The staged image. -/
def stagedImage (s : State) : List Byte := (List.range s.hub.stagedLen).map fun i => tget 0 s.hub.staged i
/-- COMMIT: verified whole before a byte is written. The loader resets both hubs after the write; running firmware journals it.
DEDUCED (log 31), unsafe. -/
def doCommit (p : Path) (source : List Byte) (req : Nat) (s : State) : State :=
  serve p source req 0x12 0 0 0 (fun r s =>
    let img := stagedImage s
    let st := if !isMgt p && p != .svc then 4
      else if s.hub.strapFault || allRefused s then 1
      else if imageCheck s img ≠ 0 then 2
      else bnat (!flashOk s)
    let cold := st = 1 ∧ !s.hub.strapFault ∧ !allRefused s
    let n := s.jrnl.next
    let s := if st = 4 then s else { s with hub.staged := [], hub.stagedLen := 0 }
    let s := if st = 0 then writeImage img s else s
    if s.hub.loader then giveResp { r with status := st } s
    else
      let s := secEvent st oFwImage (img.take 256) (if cold then coldRefusal s else s)
      giveResp { r with status := st, jseq := if n < s.jrnl.next then n else 0 } s) s

/-! ## IOAP messages (R397) -/

/-- A message is discarded and counted where its MAGIC, VERSION or reserved fields are wrong or its length disagrees with
LENGTH; a READ's LENGTH is what it asks for. A response on TWN is no request. -/
def doIoap (p : Path) (source bytes : List Byte) (s : State) : State :=
  let op := (bytes.getD 3 0).toNat
  let flags := (bytes.getD 11 0).toNat
  let len := leNat (slice bytes 16 2)
  let bad := decide (bytes.length < 32) || slice bytes 0 3 != [0x49, 0x4F, 1] || decide (8 ≤ flags) ||
    !(slice bytes 28 4).all (· == 0) || bytes.length != 32 + (if op = 1 then 0 else len) || decide (992 < bytes.length - 32)
  let req := leNat (slice bytes 4 4)
  let ix := leNat (slice bytes 8 2)
  let sub := (bytes.getD 10 0).toNat
  let off := leNat (slice bytes 12 4)
  let v := bytes.drop 32
  if !pathLive s p || isHst (pathCode p) then s
  else if bad then countPath (pathCode p) 3 s
  else if bit flags 0 then (if p = .twn then s else countPath (pathCode p) 3 s)
  else if op = 1 then doRead p source req ix sub off len s
  else if op = 2 then doWrite p source req ix sub off (bit flags 1) v s
  else if op = 3 then doDescribe p source req ix sub s
  else if op = 4 then doPingOp p source req s
  else if op = 0x10 then doBootStatus p source req s
  else if op = 0x11 then doChunk p source req off v s
  else if op = 0x12 then doCommit p source req s
  else doUnknownOp p source req op s

/-- A port's MAC address: *MAC_BASE* plus the port, most significant byte first. -/
def macOf (port : Nat) : List Byte :=
  (leBytes 6 (leNat (slice Config.macBase 0 6).reverse + port)).reverse
/-- The link-local address formed from it: fe80::/64 and the modified EUI-64. -/
def linkLocal (port : Nat) : List Byte :=
  let m := macOf port
  [0xFE, 0x80, 0, 0, 0, 0, 0, 0, (m.getD 0 0) ^^^ 2, m.getD 1 0, m.getD 2 0, 0xFF, 0xFE, m.getD 3 0, m.getD 4 0, m.getD 5 0]
/-- The addresses a port answers on; the loader has no dictionary. -/
def portAddresses (s : State) (port : Nat) : List (List Byte) :=
  let g := slice (blobGet s oMgtIpv6Address 0) 0 16
  linkLocal port :: (if s.hub.loader || g.all (· == 0) then [] else [g])
/-- The UDP port of IOAP; the loader has no dictionary (R393). -/
def ioapPort (s : State) : Nat := if s.hub.loader then 4520 else numGet s oMgtUdpPort 0
/-- The datagram is the device's: one of the port's addresses, IOAP's UDP port (R393). -/
def addressed (s : State) (port : Nat) (sent : Sent) : Bool :=
  (portAddresses s port).contains sent.addr && sent.port == ioapPort s
/-- A whole MCTP message of an EID: an IOAP message where its type and enterprise number say so, else nothing.
PRESUMED (log 131), unsafe. -/
def mctpMessage (eid tag : Nat) (m : List Byte) (s : State) : State :=
  let b := m.drop 5
  let req := leNat (slice b 4 4)
  if m.take 5 ≠ mctpPrefix then s
  else doIoap .mctp [byte eid] b { s with mg.mctpTags := s.mg.mctpTags.filter (fun x => x.1 != eid || x.2.1 != req) ++
                                                          [(eid, req, tag)] }
/-- An MCTP packet of a request: the first opens a message, the next in sequence joins it, the last completes it; a packet
out of sequence, or past IOAP's maximum, ends it (R394).
PRESUMED (log 131), unsafe. -/
def mctpIn (p : List Byte) (s : State) : State :=
  let f := (p.getD 3 0).toNat
  let dst := (p.getD 1 0).toNat
  let eid := (p.getD 2 0).toNat
  let same (x : MctpRx) : Bool := x.eid == eid && x.tag == f % 8
  let seq := f / 16 % 4
  let old := if bit f 7 then some ({ eid := eid, tag := f % 8, seq := seq } : MctpRx)
    else (s.mg.mctpRx.find? same).bind fun x => if x.seq = seq then some x else none
  if p.length < 4 ∨ (p.getD 0 0).toNat % 16 ≠ 1 ∨ (dst ≠ 0 ∧ dst ≠ numGet s oMctpEid 0) ∨ bit f 3 = false then s
  else
    let t := { s with mg.mctpRx := s.mg.mctpRx.filter (!same ·) }
    match old with
    | none => t
    | some x =>
      let b := x.bytes ++ p.drop 4
      if 68 < p.length ∨ 1029 < b.length then t
      else if bit f 6 then mctpMessage eid (f % 8) b t
      else { t with mg.mctpRx := t.mg.mctpRx ++ [{ x with seq := (seq + 1) % 4, bytes := b }] }
/-- What arrives on a path: a datagram for an address of the port and IOAP's UDP port (R393), an MCTP packet (R394), a
message. -/
def ioapArrive (p : Path) (sent : Sent) (bytes : List Byte) (s : State) : State :=
  match p with
  | .mgt0 => if addressed s 0 sent then doIoap p sent.source bytes s else s
  | .mgt1 => if addressed s 1 sent then doIoap p sent.source bytes s else s
  | .mctp => if pathLive s .mctp then mctpIn bytes s else s
  | _ => doIoap p sent.source bytes s

/-! ## Management messages between devices (R395, R396) -/

/-- Bytes in the receive buffer of TWN. -/
def rxHeld (s : State) : Nat := s.mg.reasm.foldl (fun n x => x.parts.foldl (fun n p => n + p.2.length) n) 0
/-- A discard for want of room; the first in each 1 ms enters the error log. -/
def rxDrop (s : State) : State :=
  let w := wall s / 1000000
  let s := bump oMgmtRxDrops 0 1 s
  if s.mg.rxDropWin = some w then s
  else report (hubSite s) 0x0A01 0 0 0 6 { s with mg.rxDropWin := some w }
/-- Fragments in order of OFFSET, each once. -/
def insPart (o : Nat) (b : List Byte) : List (Nat × List Byte) → List (Nat × List Byte)
  | [] => [(o, b)]
  | (p, c) :: l => if o < p then (o, b) :: (p, c) :: l else if o = p then (o, b) :: l else (p, c) :: insPart o b l
/-- The fragments cover a message without a gap. -/
def whole : Nat → Nat → List (Nat × List Byte) → Bool
  | k, n, [] => k == n
  | k, n, (o, b) :: l => o == k && whole (k + b.length) n l

/-- A whole message, by KIND. The message count of sealed ones is the one expected (R416).
DESIGN CHOICE (log 38), unsafe. -/
def mgmtMessage (node kind : Nat) (m : List Byte) (s : State) : State :=
  let fromPeer := node = s.twin.node ∧ s.twin.state ≠ 0
  let c := m.take (m.length - 16)
  let tag := m.drop (m.length - 16)
  let n := s.twin.rxCount
  if kind = 2 then doTwinBeat node s
  else if kind = 3 then
    if m.length = 544 then doReportExchange node (m.take 512) (m.drop 512) s
    else if m.length = 592 then
      doRecoverResponse node (m.take 512) (slice m 512 32) (slice m 544 32) (slice m 576 16) s
    else countPath 6 3 s
  else if !fromPeer then countPath 6 3 s
  else if kind = 1 then fromTwin n c tag (fun b s => doIoap .twn [] b s) s
  else if kind = 4 then doMirrorUnit n c tag s
  else if kind = 5 then doImagePart n c tag s
  else if kind = 6 then doKeyBlob n c tag s
  else doTwinAck n c tag s

/-- FRAGMENT_TIMEOUT: 100 ms after the first fragment. -/
def doFragTimeout (node id : Nat) (s : State) : State :=
  match s.mg.reasm.find? fun x => x.node == node && x.msgId == id with
  | none => s
  | some x => countPath 6 3 (let s := advanceTo (x.first + 100000000) s
                             { s with mg.reasm := s.mg.reasm.erase x })

/-- A message that is still incomplete 100 ms after its first fragment is discarded. -/
def dropLate (node id : Nat) (s : State) : State :=
  if s.mg.reasm.any fun x => x.node == node && x.msgId == id && decide (x.first + 100000000 ≤ wall s) then doFragTimeout node id s
  else s

/-- A fragment is taken in: it opens a message, joins it, or completes it. -/
def takeFragment (node : Nat) (d : List Byte) (s : State) : State :=
  let id := leNat (slice d 0 4)
  let kind := (d.getD 4 0).toNat
  let total := leNat (slice d 8 4)
  let off := leNat (slice d 12 4)
  let n := min 208 (total - off)
  let body := slice d 16 n
  let same (x : Reasm) : Bool := x.node == node && x.msgId == id
  let s := dropLate node id s
  let old := s.mg.reasm.find? same
  let drop (s : State) : State := countPath 6 3 { s with mg.reasm := s.mg.reasm.filter (!same ·) }
  if !hubUp s || !s.hub.resumed then s
  else if kind = 0 ∨ 7 < kind ∨ total = 0 ∨ 65536 < total ∨ total ≤ off ∨ d.length < 16 + n then drop s
  else if 65536 < rxHeld s + n then rxDrop s
  else
    let x := old.getD { node := node, msgId := id, kind := kind, total := total, first := wall s }
    if x.total ≠ total ∨ x.kind ≠ kind then drop s
    else
      let ps := insPart off body x.parts
      let rest := s.mg.reasm.filter (!same ·)
      if whole 0 total ps then mgmtMessage node kind (ps.flatMap (·.2)) { s with mg.reasm := rest }
      else { s with mg.reasm := rest ++ [{ x with parts := ps }] }
/-- M_MGMT at an optical engine. -/
def doMMgmt (oe : Nat) (p : Mpk) (s : State) : State :=
  receive false oe { p with op := 0x2E } (fun p s => takeFragment p.srcNode p.data s) s

/-! ## The management ports (R393, R394) -/

def portsUp (s : State) : Bool := hubUp s || (s.hub.on && s.hub.loader)
def doIcmpEcho (port : Nat) (dst payload : List Byte) (s : State) : State :=
  if portsUp s && (portAddresses s port).contains dst then emit (.icmpReply port payload) s else s
def doNeighbour (port : Nat) (target : List Byte) (s : State) : State :=
  if portsUp s && (portAddresses s port).contains target then emit (.ndpReply port target (macOf port)) s else s
/-- The solicited-node groups of a port's addresses. -/
def doMldQuery (port : Nat) (s : State) : State :=
  if portsUp s then
    emit (.mldReport port (((portAddresses s port).map fun a =>
      [0xFF, 2, 0, 0, 0, 0, 0, 0, 0, 0, 0, 1, 0xFF] ++ slice a 13 3).eraseDups)) s
  else s
def doMctp (dyn eid : Nat) (s : State) : State :=
  if portsUp s then numSet oMctpEid 0 (eid % 256) { s with hub.mctpDyn := dyn % 128 } else s
def doPortLink (port : Nat) (up : Bool) (s : State) : State :=
  if s.hub.on then numSet oMgtPortState (port + 1) (bnat up) s else s

/-! ## Checkpoints (R410) -/

/-- CHECKPOINT_COMMIT: the oldest waiting checkpoint reaches flash once it may be written. -/
def doCkptCommit (s : State) : State :=
  match s.standby.waiting with
  | [] => s
  | c :: rest => if hubUp s && flashOk s then ckptToFlash c { s with standby.waiting := rest } else s

/-! ## Mailbox commands of trust (R380) -/

/-- OBJECT of a 0x03xx command that names a context. -/
def trustObj (s : State) (cmd : Nat) (arg : List Byte) : Nat :=
  let c := (arg.getD 0 0).toNat
  mailObj cmd c (getCtx s c).gen
def mailAttest (h : Nat) (nonce : List Byte) (s : State) : State :=
  let st := if allRefused s then 1 else attestStatus s nonce
  mailRun h st (jOther 0x0303) nonce (if st = 0 then plainReport s nonce else []) id s
def mailSession (h : Nat) (arg : List Byte) (s : State) : State :=
  let st := if allRefused s then 1 else sessionStatus s arg
  mailRun h st (trustObj s 0x0301 arg) arg (if st = 0 then (sessionOpen arg s).1 else []) (fun s => (sessionOpen arg s).2) s
def mailProvision (h : Nat) (arg : List Byte) (s : State) : State :=
  let st := if allRefused s then 1 else provisionStatus s arg
  if st = 0 ∧ mailLive s h ∧ bit (arg.getD 2 0).toNat 0 ∧ s.twin.state = 2 then
    let s := journal (4 + h) 0x03 0 (trustObj s 0x0302 arg) arg s
    let jn := jseq s
    let due := wall s + 10000000
    let (r, s) := keyProvision arg s
    updHost h (fun x => { x with keyAns := some (s.twin.mirrorCount - 1, due, jn, r) }) s
  else
    let s' := mailRun h st (trustObj s 0x0302 arg) arg (if st = 0 then (keyProvision arg s).1 else [])
      (fun s => (keyProvision arg s).2) s
    if mailLive s h then provisionRefused arg st s' else s'
/-- KEY_PROVISION is answered once the twin has acknowledged the mirror update, with MIRRORED 1; where it is lost, or has not by the
bound of R359, with MIRRORED 0 (R382).
DEDUCED (log 27), unsafe. -/
def answerKey (h : Nat) (s : State) : State :=
  match (getHost s h).keyAns with
  | some (n, due, jn, r) =>
    let acked := s.twin.state == 2 && decide (n ≤ s.twin.blobAcked)
    if acked || s.twin.state != 2 || decide (due ≤ wall s) then
      mailDone h 0 jn (slice r 0 16 ++ [byte (bnat acked)] ++ List.replicate 7 0) (updHost h (fun x => { x with keyAns := none }) s)
    else s
  | none => s

/-- ATTEST, SESSION_OPEN and KEY_PROVISION: through the mailbox on HST, else a write of their object.
DESIGN CHOICE (log 39), safe. -/
def trustCommand (p : Path) (ix : Nat) (mail : Nat → State → State) (arg : List Byte) (s : State) : State :=
  match p with
  | .hd0 => mail 0 s
  | .hd1 => mail 1 s
  | _ => pathWrite p ix 0 arg s

/-- *TWIN_PAIR*'s value. -/
def pairValue (node mode : Nat) (id : List Byte) : List Byte := u16 node ++ [byte mode] ++ slice id 0 16

/-! ## The commands -/

def execIoapMessage (path : Path) (by_ : Sent) (bytes : List Byte) (s : State) : Out := .next (ioapArrive path by_ bytes s)
def execRead (path : Path) (source : List Byte) (reqId index sub offset length : Nat) (s : State) : Out :=
  .next (if isHst (pathCode path) then s else doRead path source reqId index sub offset length s)
def execWrite (path : Path) (source : List Byte) (reqId index sub offset : Nat) (last : Bool) (value : List Byte) (s : State) :
    Out :=
  .next (if isHst (pathCode path) then s else doWrite path source reqId index sub offset last value s)
def execObjectWrite (path : Path) (index sub : Nat) (value : List Byte) (s : State) : Out :=
  .next (pathWrite path index sub value s)
def execDescribe (path : Path) (source : List Byte) (reqId index sub : Nat) (s : State) : Out :=
  .next (if isHst (pathCode path) then s else doDescribe path source reqId index sub s)
def execIoapPing (path : Path) (source : List Byte) (reqId : Nat) (s : State) : Out :=
  .next (if isHst (pathCode path) then s else doPingOp path source reqId s)
def execBootStatus (path : Path) (source : List Byte) (reqId : Nat) (s : State) : Out :=
  .next (if isHst (pathCode path) then s else doBootStatus path source reqId s)
def execImageChunk (path : Path) (source : List Byte) (reqId offset : Nat) (value : List Byte) (s : State) : Out :=
  .next (if isHst (pathCode path) then s else doChunk path source reqId offset value s)
def execCommit (path : Path) (source : List Byte) (reqId : Nat) (s : State) : Out :=
  .next (if isHst (pathCode path) then s else doCommit path source reqId s)
def execStagedWriteTimeout (path : Path) (s : State) : Out := .next (doStagedTimeout path s)
def execFragmentTimeout (node msgId : Nat) (s : State) : Out := .next (doFragTimeout node msgId s)
def execIcmpv6Echo (port : Fin 2) (dst payload : List Byte) (s : State) : Out := .next (doIcmpEcho port dst payload s)
def execNeighbourDiscovery (port : Fin 2) (target : List Byte) (s : State) : Out := .next (doNeighbour port target s)
def execMulticastListenerQuery (port : Fin 2) (s : State) : Out := .next (doMldQuery port s)
def execMctpAddressAssign (dynAddr eid : Nat) (s : State) : Out := .next (doMctp dynAddr eid s)
def execMgtPortLinkChange (port : Fin 2) (up : Bool) (s : State) : Out := .next (doPortLink port up s)
def execPersistentWriteCommitted (s : State) : Out := .next (doCommitted s)
def execCheckpointCommit (s : State) : Out := .next (doCkptCommit s)
def execMMgmt (oe : Oe) (p : Mpk) (s : State) : Out := .next (doMMgmt oe p s)
def execJournalFlush (path : Path) (value : Nat) (s : State) : Out := .next (pathWrite path oJournalFlush 0 (u8 value) s)
def execPortMask (path : Path) (value : Nat) (s : State) : Out := .next (pathWrite path oPortMask 0 (u8 value) s)
def execCollHoldRelease (path : Path) (value : Nat) (s : State) : Out :=
  .next (pathWrite path oCollHoldRelease 0 (u8 value) s)
def execPkgLinkTest (path : Path) (link kind : Nat) (s : State) : Out :=
  .next (pathWrite path oPkgLinkTest 0 [byte link, byte kind] s)
def execFacetReset (path : Path) (f : Facet) (value : Nat) (s : State) : Out :=
  .next (pathWrite path oFacetReset (f + 1) (u8 value) s)
def execOptLinkEnable (path : Path) (oe : Oe) (value : Nat) (s : State) : Out :=
  .next (pathWrite path (oeObj oe oOptLinkEnable) 0 (u8 value) s)
def execOptLsmEnable (path : Path) (m : Lsm) (value : Nat) (s : State) : Out :=
  .next (pathWrite path oOptLsmEnable (m + 1) (u8 value) s)
def execFwTableWrite (path : Path) (hd : Hd) (value : List Byte) (s : State) : Out :=
  .next (pathWrite path oFwTable (hd + 1) value s)
def execFwImage (path : Path) (image : List Byte) (s : State) : Out := .next (pathWrite path oFwImage 0 image s)
def execDeviceCert (path : Path) (der : List Byte) (s : State) : Out := .next (pathWrite path oDeviceCert 0 der s)
def execAttest (path : Path) (nonce : List Byte) (s : State) : Out :=
  .next (trustCommand path oAttest (fun h s => mailAttest h nonce s) nonce s)
def execSessionOpen (path : Path) (arg : List Byte) (s : State) : Out :=
  .next (trustCommand path oSessionOpen (fun h s => mailSession h arg s) arg s)
def execKeyProvision (path : Path) (arg : List Byte) (s : State) : Out :=
  .next (trustCommand path oKeyProvision (fun h s => mailProvision h arg s) arg s)
def execKeyRecover (path : Path) (arg : List Byte) (s : State) : Out := .next (pathWrite path oKeyRecover 0 arg s)
def execDeploy (path : Path) (s : State) : Out := .next (pathWrite path oLcCommand 0 [1] s)
def execEnterService (path : Path) (s : State) : Out := .next (pathWrite path oLcCommand 0 [2] s)
def execLeaveService (path : Path) (s : State) : Out := .next (pathWrite path oLcCommand 0 [3] s)
def execRetire (path : Path) (s : State) : Out := .next (pathWrite path oLcCommand 0 [4] s)
def execSvCommit (path : Path) (s : State) : Out := .next (pathWrite path oLcCommand 0 [5] s)
def execTwinPair (path : Path) (node : Nat) (twinId : List Byte) (s : State) : Out :=
  .next (pathWrite path oTwinPair 0 (pairValue node 0 twinId) s)
def execTwinReplace (path : Path) (node : Nat) (twinId : List Byte) (s : State) : Out :=
  .next (pathWrite path oTwinPair 0 (pairValue node 1 twinId) s)
def execTwinDetachRelease (path : Path) (s : State) : Out := .next (pathWrite path oTwinDetach 0 [0] s)
def execTwinDetachHandover (path : Path) (s : State) : Out := .next (pathWrite path oTwinDetach 0 [1] s)

end Sys2Proof.Machine
end

