-- ==== Sys2Proof/Machine/Host.lean ====
section
/-! DEFINITION. Machine/Host.lean: host dies (R213), their requests through windows and firewall (R214 to R216, R352 to R358,
R363), the mailbox (R359, R360), and the end of a vector's hold-off (R364). -/
namespace Sys2Proof.Machine
open Sys2Proof

/-! ## Admission (R213) -/

/-- HOST_LINK_STATE changes; admissions and refusals are journaled (DEDUCED, log 60: unsafe). -/
def hostEntry (h st : Nat) (s : State) : State :=
  journal 0 0x06 0 (jOther (98 + h)) [1, byte st, 0, 0, 0] (updHost h (fun x => { x with link := st }) s)
def hostRefused (h status : Nat) (s : State) : State :=
  hostEntry h 4 { s with siteStatus := if status = 0 then s.siteStatus else tset 0 s.siteStatus (98 + h) status }
/-- HOST_ADMISSION: `agreed` says that the parameter exchange agreed. A latched strap byte is judged as R14 judges it.
DEDUCED (log 65), unsafe. -/
def doHostAdmit (h modules rate : Nat) (agreed : Bool) (identity : List Byte) (s : State) : State :=
  let strap := if tget 0 s.straps (98 + h) = 0 then 0 else admitStatus s [] (98 + h)
  let hubOn := if h = 0 then !s.hub.hb0Failed else !s.hub.hb1Failed
  let x := getHost s h
  if !hubUp s || !s.hub.resumed || !hubOn || x.admitted || x.link == 3 then s
  else if strap ≠ 0 then hostRefused h strap (report (98 + h) 0x0101 0 0 0 strap s)
  else if !agreed then hostRefused h 0 s
  else if modules = 0 ∨ rate < 16 then hostRefused h 5 s
  else
    let s := updHost h (fun x => { x with admitted := true, width := min modules 4 + 256 * min rate 32, identity := identity,
                                          bucket := [], bucketAt := [] }) s
    hostEntry h 2 { s with siteStatus := tset 0 s.siteStatus (98 + h) 0, admitted := tset 0 s.admitted (98 + h) 1 }
/-- HOST_SIDEBAND_TIMEOUT: the site is absent. -/
def doSideband (h : Nat) (s : State) : State :=
  if !hubUp s || !s.hub.resumed || (getHost s h).admitted || (getHost s h).link == 3 then s
  else updHost h (fun x => { x with link := 0 }) { s with siteStatus := tset 0 s.siteStatus (98 + h) 1 }

/-! ## Reset and loss (R363) -/

/-- A hot or function-level reset: configuration and MSI-X state alone. -/
def doHostReset (h : Nat) (s : State) : State := updHost h (fun x => { x with cfg := {}, msixLast := [], msixPend := 0 }) s
/-- HOST_LINK_LOST: retrained once, or down until power-up. -/
def doHostLost (h : Nat) (retrained : Bool) (s : State) : State :=
  if !(getHost s h).admitted then s
  else
    let s := doHostReset h (report (hubSite s) 0x0802 0 0 0 h s)
    if retrained then s
    else hostEntry h 3 (updHost h (fun x => { x with admitted := false }) { s with admitted := tdel s.admitted (98 + h) })
/-- MSIX_HOLDOFF_EXPIRY: what came in the 10 us is delivered with the next message. -/
def doHoldoff (h v : Nat) (s : State) : State :=
  let x := getHost s h
  if !bit x.msixPend v then s
  else
    let s := advanceTo (((x.msixLast.find? fun e => e.1 == v).map (·.2 + 10000)).getD 0) s
    let now := wall s
    emit (.msix h v) (updHost h (fun x => { x with msixPend := clearBit x.msixPend v, msixLast := tput x.msixLast v now }) s)

/-! ## Windows (R354, R355) -/

/-- The node offset behind a BAR offset. -/
def barOffset (h bar o : Nat) : Option Nat :=
  if bar = 0 then
    if o < 0x100000 then some (doorBase h + o)
    else if o < 0x200000 then some (progBase + (o - 0x100000))
    else if 0x200000 ≤ o ∧ o < 0x201000 then some (mailBase h + (o - 0x200000))
    else if 0x400000 ≤ o ∧ o < 0x600000 then some (ctrlBase 0 + (o - 0x400000))
    else if 0x800000 ≤ o ∧ o < 0xC00000 then some (journalBase + (o - 0x800000))
    else none
  else if bar = 2 then (if o < 0x8000000 then some (dmemBase 0 0 + o) else none)
  else if bar = 4 then (if o < 0x4000000 then some (xchBase h + o) else none)
  else none

/-- Refusal of a request by its target (R355, R356): 0 window, 1 operation, none allowed. `a` is its node offset. Posted writes to
DMEM_CTRL or descriptor memory and longer DMWr at DMEM_CTRL are operation refusals.
DEDUCED (log 64), unsafe. -/
def targetRefusal (h a : Nat) (r : HostReq) : Option Nat :=
  let n := reqLen r
  let k := opClass r.op
  let whole (base size : Nat) : Bool := decide (base ≤ a) && decide (a + n ≤ base + size)
  if n = 0 then some 0
  else if whole (doorBase h + 0x1000) 0xFF000 || whole (mailBase h) 0x1000 then (if k = 2 then some 0 else none)
  else if whole progBase 0x100000 || whole journalBase 0x400000 then (if k = 0 then none else some 0)
  else if whole (xchBase h) 0x4000000 then
    if k = 2 ∧ !((n = 4 ∨ n = 8) ∧ a % n = 0 ∧ r.atomic < 3) then some 0 else none
  else match region a, region (a + n - 1) with
    | .ctrl _ o, .ctrl _ o' =>
      if k = 0 then (if 0x2000 ≤ o ∧ o' < 0x2008 ∨ 0x2100 ≤ o ∧ o' < 0x2180 then none else some 0)
      else if r.op = .write ∧ 0x2000 ≤ o ∧ o < 0x2004 then some 1
      else if r.op = .dmwr ∧ o = 0x2000 ∧ 8 ≤ n then (if n = 8 then none else some 1)
      else some 0
    | .dmem d x _, .dmem d' x' _ =>
      if r.op = .write then some 1
      else if r.op = .dmwr ∧ d = d' ∧ x = x' ∧ 8 ≤ n ∧ n ≤ 128 ∧ a % 8 = 0 ∧ n % 8 = 0 then none else some 0
    | _, _ => some 0

/-! ## The firewall (R215, R216) -/

/-- The lowest entry that holds a request. -/
def fwFind (s : State) (h a n : Nat) : Option Nat :=
  (List.range 32).find? fun i =>
    let e := slice (blobGet s oFwTable (h + 1)) (32 * i) 32
    fwSize e != 0 && decide (fwBase e ≤ a) && decide (a + n ≤ fwBase e + fwSize e)
/-- What is spent of a bucket now, in 1/1,000 bytes, at RATE bytes per us.
DEDUCED (log 61), unsafe. -/
def bucketSpent (s : State) (h i rate : Nat) : Nat :=
  tget 0 (getHost s h).bucket i - rate * (wall s - tget 0 (getHost s h).bucketAt i)
/-- A request is charged to a bucket; none where it does not hold that much.
DEDUCED (log 61), unsafe. -/
def charge (h i rate burst n : Nat) (s : State) : Option State :=
  let b := bucketSpent s h i rate
  let now := wall s
  if burst * 1000 < b + n * 1000 then none
  else some (updHost h (fun x => { x with bucket := tset 0 x.bucket i (b + n * 1000), bucketAt := tset 0 x.bucketAt i now }) s)
/-- Admission of a request that its target allows: the refusal reason (0 window, 1 operation, 2 rate), or the state with its
bucket charged. The mailbox page needs no entry; its bucket is 4,096 bytes, refilled at 1 MB/s.
DEDUCED (log 61), unsafe. -/
def fwAdmit (h a : Nat) (r : HostReq) (s : State) : Except Nat State :=
  let n := reqLen r
  if mailBase h ≤ a ∧ a < mailBase h + 0x1000 then
    match charge h 32 1 4096 n s with | some s => .ok s | none => .error 2
  else match fwFind s h a n with
    | none => .error 0
    | some i =>
      let e := slice (blobGet s oFwTable (h + 1)) (32 * i) 32
      if !bit (fwOps e) (opClass r.op) then .error 1
      else if fwRate e = 0 then .ok s
      else match charge h i (fwRate e) (fwBurst e) n s with | some s => .ok s | none => .error 2

/-! ## Doorbells, mailbox, exchange memory -/

/-- A write to SEM_RING (R358). -/
def doSemRing (h c die v : Nat) (s : State) : State :=
  let x := getCtx s c
  let sem := v / 2 ^ 32 % 512
  if c = 0 ∨ 255 < c then s
  else if (x.state = 3 ∨ x.state = 4) ∧ bit x.mask (die / 8) ∧ objSlot false sem = x.slot then
    sendPkg { dst := die, src := 0x80 + h, op := 4, pclass := 3, ctx := c, gen := x.gen, len := 1, origin := 2, posted := true,
              slot := x.slot, addr := ctrlBase die + 4 * sem, data := slice (leBytes 4 v) 0 32 } s
  else bump oHostDoorbellDrops (h + 1) 1 s

/-- GO (R359): BUSY is set and the command latched; while BUSY, the GO is answered with RESULT 3 later. A CMD that R360 does
not list is answered at once. -/
def knownCmd (c : Nat) : Bool := (0x0101 ≤ c && c ≤ 0x0106) || c == 0x0201 || c == 0x0202 || (0x0301 ≤ c && c ≤ 0x0303)
/-- DEDUCED (log 66), safe. -/
def doGo (h : Nat) (s : State) : State :=
  if !hostLive s h then s
  else
    let cmd := leNat (readBytes s (mailBase h) 2)
    let len := min 2032 (leNat (readBytes s (mailBase h + 2) 2))
    let seq := mailSeq s h
    if (getHost s h).busy then updHost h (fun x => { x with busySeq := x.busySeq ++ [seq] }) s
    else
      let s := updHost h (fun x => { x with busy := true, cmdSeq := seq })
        (writeBytes (mailBase h + 0xFFC) [1, 0, 0, 0] s)
      if knownCmd cmd then s else mailRun h 5 (jOther cmd) (readBytes s (mailBase h + 0x10) len) [] id s

/-- Bytes of a write that fall in `[lo, lo + n)` of a page, over what is there; none where none does. -/
def overlay (s : State) (page lo n k : Nat) (d : List Byte) : Option (List Byte) :=
  if lo + n ≤ k ∨ k + d.length ≤ lo then none
  else some ((List.range n).map fun i => if k ≤ lo + i ∧ lo + i < k + d.length then d.getD (lo + i - k) 0 else memGet s (page + lo + i))
/-- The part of a write that falls in `[lo, lo + n)` of a page is stored. -/
def storePart (page lo n k : Nat) (d : List Byte) (s : State) : State :=
  let a := max lo k
  let b := min (lo + n) (k + d.length)
  if b ≤ a then s else writeBytes (page + a) ((d.drop (a - k)).take (b - a)) s
/-- A write within the doorbell pages: whole words of SEM_RING in order, queue entries, then XCH_TAIL; the rest is
reserved or read-only (R357).
DEDUCED (log 65), unsafe. -/
def doorWrite (h c k : Nat) (d : List Byte) (s : State) : State :=
  let page := doorPage h c
  let s := (List.range 32).foldl (fun s i =>
    if k ≤ 8 * i ∧ 8 * i + 8 ≤ k + d.length then doSemRing h c i (leNat (slice d (8 * i - k) 8)) s else s) s
  let s := storePart page 0x800 0x400 k d s
  match overlay s page 0x100 4 k d with
  | some v => doXchTail h c (leNat v) s
  | none => s
/-- A write within the mailbox page: CMD to ARG are stored; a 1 written to GO submits. -/
def mailWrite (h k : Nat) (d : List Byte) (s : State) : State :=
  let s := storePart (mailBase h) 0 0x800 k d s
  if k ≤ 0xFF8 ∧ 0xFFC ≤ k + d.length ∧ leNat (slice d (0xFF8 - k) 4) = 1 then doGo h s else s

/-- A range of exchange memory under a request (R362, R363).
DEDUCED (log 87), unsafe. -/
def xchLocked (s : State) (h off n : Nat) : Bool :=
  s.xch.any fun x => x.hd == h && decide (x.off < off + n) && decide (off < x.off + x.len)
def xchWrite (h off : Nat) (d : List Byte) (s : State) : State :=
  if xchLocked s h off d.length then bump oHostLockedWrites (h + 1) 1 s else writeBytes (xchBase h + off) d s
/-- FetchAdd, Swap, CAS (compare, then swap): the new value. -/
def atomicValue (op n old : Nat) (d : List Byte) : Nat :=
  let x := leNat (slice d 0 n)
  if op = 0 then (old + x) % 256 ^ n else if op = 1 then x else if old = x then leNat (slice d n n) else old

/-- A request goes to its die, once the hub has room for the response (R202). -/
def hostToDie (h a : Nat) (r : HostReq) (s : State) : State :=
  let c := match region a with | .ctrl c _ => c | .dmem c _ _ => c | _ => 0
  let n := reqLen r
  request { dst := c, src := 0x80 + h, op := 0x30, len := ceilDiv n 32, origin := 2,
            addr := a, data := if opClass r.op = 0 then [] else r.data }
    { owner := .host h r.tag, len := if opClass r.op = 0 then n else 0 } s
def sendWaitReq (h : Nat) (s : State) : State :=
  match (getHost s h).waitReqs with
  | (a, r) :: rest =>
    if hubRoom s h (if opClass r.op = 0 then reqLen r else 0) then hostToDie h a r (updHost h (fun x => { x with waitReqs := rest }) s)
    else s
  | [] => s
/-- What waits at a hub for room goes on: host requests in their order, then the exchange in progress. -/
def sendHub (h : Nat) (s : State) : State :=
  xchSend h ((List.range (getHost s h).waitReqs.length).foldl (fun s _ => sendWaitReq h s) s)

/-- An admitted request at its window (R355, R356, R363).
DEDUCED (log 64), unsafe. -/
def hostServe (h a : Nat) (r : HostReq) (s : State) : State :=
  let n := reqLen r
  let done (d : List Byte) (s : State) : State := if r.op = .write then s else emit (.hostCpl h r.tag 0 d) s
  let bad := eccBad s a n
  let fail (s : State) : State := emit (.hostCpl h r.tag 2 []) (report (hubSite s) 0x0803 0 0 0 a s)
  match region a with
  | .ctrl _ _ | .dmem _ _ _ => sendHub h (updHost h (fun x => { x with waitReqs := x.waitReqs ++ [(a, r)] }) s)
  | _ =>
    if opClass r.op = 0 then (if bad then fail s else done (hubRead s a n) s)
    else if opClass r.op = 1 then
      done [] (if a < mailBase 0 then
          (List.range 256).foldl (fun s i =>
            let c := (a - doorBase h) / 0x1000 + i
            let lo := max a (doorPage h c)
            let hi := min (a + n) (doorPage h c + 0x1000)
            if lo < hi then doorWrite h c (lo - doorPage h c) ((r.data.drop (lo - a)).take (hi - lo)) s else s) s
        else if a < journalBase then mailWrite h (a - mailBase h) r.data s
        else xchWrite h (a - xchBase h) r.data s)
    else if bad then fail s
    else
      let old := readBytes s a n
      done old (xchWrite h (a - xchBase h) (leBytes n (atomicValue r.atomic n (leNat old) r.data)) s)

/-- HOST_REQUEST.
DEDUCED (log 65), unsafe. -/
def doHostRequest (h : Nat) (r : HostReq) (s : State) : State :=
  if !hubUp s || !(getHost s h).admitted then s
  else match barOffset h r.bar r.off with
    | none => refuseHost h 0 r s
    | some a =>
      match targetRefusal h a r with
      | some k => refuseHost h k r s
      | none =>
        match fwAdmit h a r s with
        | .error k => refuseHost h k r s
        | .ok s => hostServe h a r s

/-! ## OBJ_READ and OBJ_WRITE (R360) -/

/-- OBJ_READ: RESULT carries STATUS, 2 for 5 to 7 (R399); reads are not journaled (R405). While STOPPED the hubs answer reads of the MGT
path alone (R427, R440), and the command is refused in state. -/
def hostRead (h ix sub : Nat) (s : State) : State :=
  if !mailLive s h then s
  else if allRefused s then mailDone h 1 0 [] s
  else
    let (st, v) := objRead s (if h = 0 then .hd0 else .hd1) ix sub
    let v := v.take 2024
    mailDone h (if 5 ≤ st then 2 else st) 0 v (if st = 0 then readDone ix 0 v.length s else s)

def execHostAdmission (hd : Hd) (modules rate : Nat) (agreed : Bool) (identity : List Byte) (s : State) : Out :=
  .next (doHostAdmit hd modules rate agreed identity s)
def execHostSidebandTimeout (hd : Hd) (s : State) : Out := .next (doSideband hd s)
def execHostRequest (hd : Hd) (r : HostReq) (s : State) : Out := .next (doHostRequest hd r s)
def execSemRing (hd : Hd) (ctx : Nat) (die : Die) (value : Nat) (s : State) : Out := .next (doSemRing hd ctx die value s)
def execHostReset (hd : Hd) (s : State) : Out := .next (doHostReset hd s)
def execHostLinkLost (hd : Hd) (retrained : Bool) (s : State) : Out := .next (doHostLost hd retrained s)
def execMsixHoldoffExpiry (hd : Hd) (vector : Fin 8) (s : State) : Out := .next (doHoldoff hd vector s)
def execGo (hd : Hd) (s : State) : Out := .next (doGo hd s)
def execObjRead (hd : Hd) (index sub : Nat) (s : State) : Out := .next (hostRead hd index sub s)
def execObjWrite (hd : Hd) (index sub : Nat) (value : List Byte) (s : State) : Out := .next (hostWrite hd index sub value s)

end Sys2Proof.Machine
end

