-- ==== Sys2Proof/Machine/Matrix.lean ====
section
/-! DEFINITION. Machine/Matrix.lean: the matrix arrays (R74 to R97): passes and their timing, the products of MM, MM_X3,
MM_C3, MM_C4, MM_SLICE and EW_MUL. -/
namespace Sys2Proof.Machine
open Sys2Proof

/-! ## Products of one column -/

/-- Sums products into a running FP32 sum in ascending k, one rounding each (R83). -/
def sum32 (s0 : Val) (ps : List Val) : Val := ps.foldl add32 s0
/-- +0, from which every running sum starts: R83 names no starting value, and a column of products that are all -0 therefore
gives +0.
DESIGN CHOICE (log 98), unsafe. -/
def zero32 : Val := .num false 0 0

/-- Exact products of two columns; a scaled one beyond the FP32 range becomes ±∞. -/
def products (scaled : Bool) (a b : List Val) : List Val :=
  (a.zip b).map fun (x, y) => if scaled then (x.mul y).cap32 else x.mul y

/-- The 2-MAC class adds a PE's two products exactly first (R83). -/
def pairSums : List Val → List Val
  | x :: y :: t => x.add y :: pairSums t
  | t => t

/-- A float column of MM. -/
def floatCol (d : Desc) (a b : List Val) : Val :=
  let ps := products (d.scaleA != 0 || d.scaleB != 0) a b
  sum32 zero32 (if slower d.fmtA d.fmtB = 2 then pairSums ps else ps)

/-- An integer column (R84): exact, then modulo 2^32. -/
def intCol (fa fb : Nat) (a b : List Nat) : Int :=
  (a.zip b).foldl (fun (n : Int) p => n + sext (intWidth fa) p.1 * sext (intWidth fb) p.2) 0

/-- The BF16 parts of a value (R87). -/
def hiPart (x : Val) : Val := x.round 1 .rne
def loPart (x : Val) : Val := (x.sub (hiPart x)).round 1 .rne

/-- A column of MM_X3 (R87). -/
def x3Col (a b : List Val) : Val :=
  let s (f g : Val → Val) := sum32 zero32 (products false (a.map f) (b.map g))
  add32 (add32 (s loPart hiPart) (s hiPart loPart)) (s hiPart hiPart)

/-- Real and imaginary parts of a list of pairs. -/
def evens : List Val → List Val
  | x :: _ :: t => x :: evens t
  | [x] => [x]
  | [] => []
def odds : List Val → List Val
  | _ :: y :: t => y :: odds t
  | _ => []

/-- A column of MM_C4 (R88): each part one running sum (DEDUCED, log 44: unsafe). -/
def c4Col (x y : List Val) : Val × Val :=
  let a := evens x
  let b := odds x
  let c := evens y
  let d := odds y
  (sum32 (sum32 zero32 (products false a c)) ((products false b d).map Val.neg),
   sum32 (sum32 zero32 (products false a d)) (products false b c))

/-- A column of MM_C3 (R88): pre-sums rounded to the operands' formats. -/
def c3Col (fa fb : Nat) (x y : List Val) : Val × Val :=
  let a := evens x
  let b := odds x
  let c := evens y
  let d := odds y
  let ab := (a.zip b).map fun (p, q) => (p.add q).round fa .rne
  let dc := (d.zip c).map fun (p, q) => (p.sub q).round fb .rne
  let cd := (c.zip d).map fun (p, q) => (p.add q).round fb .rne
  let k1 := sum32 zero32 (products false ab c)
  let k2 := sum32 zero32 (products false a dc)
  let k3 := sum32 zero32 (products false b cd)
  ((k1.sub k3).r32, add32 k1 k2)

/-- A column of MM_SLICE (R89): 28 slice products into an INT64. -/
def sliceCol (a b : List Nat) : Int :=
  let plane (l : List Nat) (i : Nat) := (l.drop (256 * i)).take 256
  (List.range 7).foldl (fun (n : Int) i => (List.range (7 - i)).foldl (fun (n : Int) j =>
    n + sext 32 (wrap 32 (intCol 5 5 (plane a i) (plane b j))) * (2 ^ (7 * (6 - i - j)) : Nat)) n) 0

/-! ## One D unit -/

/-- D elements per unit, and their format. -/
def Desc.dElems (d : Desc) : Nat := if d.opcode = 3 ∨ d.opcode = 4 then 512 else 256

/-- The exact column results of a tile for one A unit, as D elements: values, or integers. -/
def tileResult (d : Desc) (abs : List Byte) (tile : List Byte) : List (Val × Int) :=
  let colU := d.unitB / 256
  let col (n : Nat) := (tile.drop (n * colU)).take colU
  let k := tileDepth d.fmtA d.fmtB
  if d.opcode = 1 then
    if d.fmtD = 10 then
      let a := elems d.fmtA k abs
      (List.range 256).map fun n => (.nan, intCol d.fmtA d.fmtB a (elems d.fmtB k (col n)))
    else
      let a := unitVals d.fmtA k d.scaleA abs
      (List.range 256).map fun n => (floatCol d a (unitVals d.fmtB k d.scaleB (col n)), 0)
  else if d.opcode = 2 then
    let a := unitVals 0 256 0 abs
    (List.range 256).map fun n => (x3Col a (unitVals 0 256 0 (col n)), 0)
  else if d.opcode = 5 then
    let a := elems 5 1792 abs
    (List.range 256).map fun n => (.nan, sliceCol a (elems 5 1792 (col n)))
  else
    let a := unitVals d.fmtA 512 0 abs
    (List.range 256).flatMap fun n =>
      let b := unitVals d.fmtB 512 0 (col n)
      let (re, im) := if d.opcode = 3 then c3Col d.fmtA d.fmtB a b else c4Col a b
      [(re, 0), (im, 0)]

/-- The rounding of a write of element `col` of unit `row` (R86): ROUND has no effect on FP32 (R85). -/
def Desc.rnd (d : Desc) (row col : Nat) : Rnd :=
  if d.round = 1 ∧ d.fmtD ≠ 0 then .stoch (stochHash d.seed row col) else .rne

/-- A D unit's bits and counts: the tile's results, added to what D holds where `old` is given. `fv` gives the free bits of
an element of which D held `old`. -/
def dUnit (d : Desc) (fv : Nat → Nat → Nat) (row : Nat) (res : List (Val × Int)) (old : Option (List Nat)) :
    List Nat × List Count :=
  let f := d.fmtD
  let one (c : Nat) (v : Val × Int) : Nat × Count :=
    let prev := old.map fun l => l.getD c 0
    if isIntFmt f then
      (wrap (intWidth f) (v.2 + (prev.map (sext (intWidth f))).getD 0), .none)
    else
      let x := match prev with | some p => add32 (decVal 0 p) v.1 | none => v.1
      encVal f (d.rnd row c) (fv (prev.getD 0) c) x
  let l := ((List.range res.length).zip res).map fun (c, v) => one c v
  (l.map (·.1), l.map (·.2))

/-! ## Passes (R76, R91, R92) -/

/-- Iterations of each pass: maximal runs of one B address. -/
def runLens : List Nat → List Nat
  | [] => []
  | x :: xs =>
    match xs, runLens xs with
    | y :: _, k :: ks => if x = y then (k + 1) :: ks else 1 :: k :: ks
    | _, _ => [1]

def Desc.passLens (d : Desc) : List Nat := runLens ((List.range d.iters).map (d.addrAt d.b))

/-- Passes per tile (R77) and row time (R75, R87). -/
def Desc.perTile (d : Desc) : Nat :=
  if d.opcode = 2 ∨ d.opcode = 3 then 3 else if d.opcode = 4 then 4 else if d.opcode = 5 then 28 else 1
def Desc.rowT (d : Desc) : Nat := if d.opcode = 2 then 2 else rowTime d.fmtA d.fmtB

/-- Cycles that a pass of `k` iterations streams, and occupies (R91). -/
def Desc.streamT (d : Desc) (k : Nat) : Nat := d.perTile * k * d.rowT
def Desc.passT (d : Desc) (k : Nat) : Nat := max (d.streamT k) 256

/-- A pass: its first iteration, its iterations, the cycles its load and its stream begin. -/
structure Pass where
  first : Nat := 0
  len : Nat := 0
  load : Nat := 0
  start : Nat := 0

/-- The passes in order; each but the first loads while its predecessor runs. -/
def layPasses (d : Desc) (first load start : Nat) : List Nat → List Pass
  | [] => []
  | k :: ks => { first := first, len := k, load := load, start := start } :: layPasses d (first + k) start (start + d.passT k) ks

/-- Cycle in which the fill begins and in which the first A unit enters, behind a predecessor whose last pass is
`[last, fin)` (R91, R92). -/
def fillStart (issue last : Nat) : Nat := max issue last
def streamStart (issue last fin : Nat) : Nat := max (fillStart issue last + 256) fin

/-- The accesses of a product: column units of the tiles, A units, D units. R91 says that a tile loads over 256 cycles and not
which part in which: here column unit c is read in the load's cycle c.
DEDUCED (log 72), unsafe; DESIGN CHOICE (log 120), unsafe. -/
def Desc.maEvents (d : Desc) (ps : List Pass) : List Ev :=
  ps.flatMap fun p =>
    ((List.range 256).map fun c => { cyc := p.load + c, kind := 0, n := p.first, col := c }) ++
    ((List.range p.len).flatMap fun j =>
      let t := p.start + d.perTile * (j + 1) * d.rowT - 1
      [{ cyc := t, kind := 1, n := p.first + j, col := p.first }, { cyc := t + 256, kind := 2, n := p.first + j, col := p.first }])

/-- No iteration before the `n`-th has its D address: the first write of a D unit (R78). -/
def Desc.dFirst (d : Desc) (n : Nat) : Bool := (List.range n).all fun k => d.addrAt d.d k != d.addrAt d.d n
/-- D addresses after the `n`-th iteration whose units overlap its unit. -/
def Desc.dOver (d : Desc) (n : Nat) : List Nat :=
  let a := offset (d.addrAt d.d n)
  ((List.range (d.iters - (n + 1))).map fun k => offset (d.addrAt d.d (n + 1 + k))).filter fun b =>
    decide (b < a + d.unitD) && decide (a < b + d.unitD)
/-- The counts of the `n`-th iteration's elements, `w` bits wide: an element is counted at the write that leaves it final (R85). -/
def Desc.finalCounts (d : Desc) (n w : Nat) (l : List Count) : List Count :=
  let past := d.dOver n
  if past.isEmpty then l
  else
    let a := offset (d.addrAt d.d n)
    ((List.range l.length).zip l).map fun p =>
      if past.any fun b => decide (b ≤ a + p.1 * w / 8) && decide (a + p.1 * w / 8 < b + d.unitD) then .none else p.2

/-- Iteration `n` is the first or the last of RED_LEVEL (R78). -/
def Desc.redFirst (d : Desc) (n : Nat) : Bool := d.redLevel == 7 || (d.indices n).getD d.redLevel 0 == 0
def Desc.redLast (d : Desc) (n : Nat) : Bool :=
  d.redLevel == 7 || (d.indices n).getD d.redLevel 0 + 1 == d.counts.getD d.redLevel 1

/-- Reads a unit of A or a column unit of B, checking and consuming its slots (R109). -/
def colSlots (d : Desc) (ps : List Pass) (n c : Nat) : List Nat :=
  let u := d.unitB / 256
  let at_ (m k : Nat) := slotSpan (offset (d.addrAt d.b m) + k * u) u
  let later := (ps.filter (fun p => n < p.first)).flatMap fun p => d.slotsAt d.b d.unitB p.first
  (at_ n c).filter fun sl =>
    !later.contains sl && ((List.range (255 - c)).all fun k => !(at_ n (c + 1 + k)).contains sl)

/-- A read of D by an engine that adds to it, in the cycle of its write (R93): an uncorrectable word stops the run (R115). -/
def accRead (die : Nat) (x : InFlight) (a n c : Nat) (r : Run) : List Byte × Run :=
  if eccBad r.s a n then ([], { r with s := spBad die a x.ctx x.gen r.s }.stop 0x60 c a)
  else (ownBytes r.s die r.rank a n c, { r with s := spSee die (r.who []) a n c (spSoft die a n r.s) })

/-- The accumulating write of a D unit at iteration `n` in cycle `c` (R93): its flags, which change with the write alone, the old
contents where `reads`, and the unit that `mk` makes of them, counted where final. -/
def accWrite (die engine : Nat) (x : InFlight) (n c elN : Nat) (reads accIn final : Bool)
    (mk : Option (List Nat) → List Nat × List Count) (r : Run) : Run :=
  let d := x.desc
  let a := offset (d.addrAt d.d n)
  let u := d.unitD
  let sls := d.slotsAt d.d u n
  let first := if d.slotD && accIn then sls.filter (fun sl => d.firstUse d.d u n sl) else []
  let last := if d.slotD then d.lastSlots d.d u n else []
  let judged := accFlags die a c first last r
  if judged.why ≠ 0 then judged
  else
    let (old, r) := if reads then accRead die x a u c r else ([], r)
    if r.why ≠ 0 then r
    else
      let r := accFlags die a c first last r
      let (el, cnt) := mk (if reads then some (elems d.fmtD elN old) else none)
      let s := spPut die (r.who (first ++ last)) a (elemBytes d.fmtD el) c r.s
      { r with s := if final then countResults die engine (d.finalCounts n (fmtBits d.fmtD) cnt) s else s }

/-- One access of a product. ROW of stochastic rounding (R86) is the number of the write among the descriptor's iterations, also
where D's address repeats under RED_LEVEL 0b111 and only the last write of it is final: the spec does not say which writes are
numbered.
DESIGN CHOICE (log 121), unsafe. -/
def maAct (die engine : Nat) (x : InFlight) (ps : List Pass) (e : Ev) (r : Run) : Run :=
  let d := x.desc
  if e.kind = 0 then
    let u := d.unitB / 256
    let use := if d.consB then colSlots d ps e.n e.col else []
    let (bs, r) := spRead die x (offset (d.addrAt d.b e.n) + e.col * u) u e.cyc d.slotB use r
    { r with b := tset [] r.b e.n (tget [] r.b e.n ++ bs) }
  else if e.kind = 1 then
    let use := if d.consA then d.lastSlots d.a d.unitA e.n else []
    let (bs, r) := spRead die x (offset (d.addrAt d.a e.n)) d.unitA e.cyc d.slotA use r
    { r with a := tset [] r.a e.n bs }
  else
    let a := tget [] r.a e.n
    let b := tget [] r.b e.col
    let reads := !d.redFirst e.n || (d.accIn && d.dFirst e.n)
    accWrite die engine x e.n e.cyc d.dElems reads d.accIn (d.redLast e.n)
      (dUnit d (Config.resultFree d.opcode a b) e.n (tileResult d a b)) r

/-- What the accesses of a product touch. -/
def maFeet (d : Desc) (e : Ev) : List (Nat × Nat) :=
  if e.kind = 0 then [(offset (d.addrAt d.b e.n) + e.col * (d.unitB / 256), d.unitB / 256)]
  else if e.kind = 1 then [d.foot d.a d.unitA e.n] else [d.foot d.d d.unitD e.n]

/-- Of `n` things one every `r` cycles from a cycle on, those that come up to cycle `lim`. -/
def cameBy (start r n lim : Nat) : Nat := if lim < start then 0 else min n ((lim - start) / r + 1)

/-- Stream cycles and load-bound cycles up to a cycle (R96): an A unit counts one cycle each time that it enters, also in the
half class, whose row time is two. A pass that a halt cuts counts what it did before.
DESIGN CHOICE (log 99), unsafe. -/
def maCount (die engine lim : Nat) (d : Desc) (ps : List Pass) (s : State) : State :=
  let n := ps.foldl (fun n p => n + cameBy p.start d.rowT (d.perTile * p.len) lim) 0
  let k := ps.foldl (fun n p => n + cameBy (p.start + d.streamT p.len) 1 (d.passT p.len - d.streamT p.len) lim) 0
  bump oMaStreamCycles (2 * die + engine + 1) n (bump oMaLoadBoundCycles (2 * die + engine + 1) k s)

/-- The array's registers after a run that came to cycle `lim` (R74): the tile of the last pass begun, the tile loaded last,
and the last D unit delivered. -/
def maRegs (d : Desc) (lim : Nat) (evs : List Ev) (ps : List Pass) (b : Tab (List Byte)) (s : State) (e : EngineSt) : EngineSt :=
  let tile (l : List Pass) (old : List Byte) : List Byte := match l.getLast? with | some p => tget [] b p.first | none => old
  let out := ((evs.filter fun v => v.kind == 2 && decide (v.cyc ≤ lim)).map (·.n)).getLast?
  { e with weights := tile (ps.filter fun p => decide (p.start ≤ lim)) e.weights,
           shadow := tile (ps.filter fun p => decide (p.load ≤ lim)) e.shadow,
           stage := match out with | some n => readBytes s (offset (d.addrAt d.d n)) d.unitD | none => e.stage }

/-- The scheduled cycle that a run came to; and the last in which an A unit entered: a read that is refused is not performed
(R109), so none entered in the cycle of a halt by a read. -/
def Run.lastCycle (r : Run) (deadline : Nat) : Nat := (if r.why = 0 then deadline else r.cyc) - r.shift
def Run.lastEntry (r : Run) (deadline : Nat) : Nat :=
  if r.why ≠ 0 ∧ r.kind < 2 then r.lastCycle deadline - 1 else r.lastCycle deadline

/-- A product on a matrix array (R77, R91, R92). -/
def doProduct (die engine op : Nat) (s : State) : State :=
  match nextExec s die engine op with
  | none => s
  | some x =>
    if spHeld s die x.desc then s
    else
      let d := x.desc
      let e := getEngine s die engine
      let t0 := x.issue + x.stalls
      let ps := layPasses d 0 (fillStart t0 e.lastPass) (streamStart t0 e.lastPass e.passEnd) d.passLens
      let p := ps.getLastD {}
      let fin := p.start + d.passT p.len
      let evs := d.maEvents ps
      let r := runEvs (maAct die engine x ps) (maFeet d) die engine x evs s
      let lim := r.lastCycle x.deadline
      let s := maCount die engine (r.lastEntry x.deadline) d ps r.s
      let s := updEngine die engine (fun e =>
        { maRegs d lim evs ps r.b s e with lastPass := p.start + r.shift, passEnd := fin + r.shift, tileCtx := x.ctx }) s
      finishRun die engine x (fin + 255) { r with s := s }

/-- One access of EW_MUL (R90): the product rounded once, into D's format or into the FP32 sum. -/
def ewAct (die engine : Nat) (x : InFlight) (e : Ev) (r : Run) : Run :=
  let d := x.desc
  if e.kind = 0 then
    let use := if d.consB then d.lastSlots d.b d.unitB e.n else []
    let (bs, r) := spRead die x (offset (d.addrAt d.b e.n)) d.unitB e.cyc d.slotB use r
    { r with b := tset [] r.b e.n bs }
  else if e.kind = 1 then
    let use := if d.consA then d.lastSlots d.a d.unitA e.n else []
    let (bs, r) := spRead die x (offset (d.addrAt d.a e.n)) d.unitA e.cyc d.slotA use r
    { r with a := tset [] r.a e.n bs }
  else
    let a := unitVals d.fmtA 256 0 (tget [] r.a e.n)
    let b := unitVals d.fmtB 256 0 (tget [] r.b e.n)
    let mk (old : Option (List Nat)) : List Nat × List Count :=
      let l := (List.range 256).map fun c =>
        let p := (a.getD c zero32).mul (b.getD c zero32)
        let v := match old with | some o => (p.add (decVal 0 (o.getD c 0))).r32 | none => p
        let prev := (old.map fun o => o.getD c 0).getD 0
        encVal d.fmtD (d.rnd e.n c) (Config.resultFree 0x10 (tget [] r.a e.n) (tget [] r.b e.n) prev c) v
      (l.map (·.1), l.map (·.2))
    accWrite die engine x e.n e.cyc 256 (d.accIn && d.dFirst e.n) d.accIn true mk r

def ewFeet (d : Desc) (e : Ev) : List (Nat × Nat) :=
  if e.kind = 0 then [d.foot d.b d.unitB e.n] else if e.kind = 1 then [d.foot d.a d.unitA e.n] else [d.foot d.d d.unitD e.n]

/-- EW_MUL (R90): one unit per cycle, each written 256 cycles after it enters. The first enters in the issue cycle, or behind
the last pass of the descriptor before it (R92); its units are its own pass, and it retires at its last write.
DESIGN CHOICE (log 97), unsafe. -/
def doEwMul (die engine : Nat) (s : State) : State :=
  match nextExec s die engine 0x10 with
  | none => s
  | some x =>
    if spHeld s die x.desc then s
    else
      let d := x.desc
      let k := 2 * die + engine + 1
      let t0 := max (x.issue + x.stalls) (getEngine s die engine).passEnd
      let evs := (List.range d.iters).flatMap fun n =>
        [{ cyc := t0 + n, kind := 0, n := n }, { cyc := t0 + n, kind := 1, n := n }, { cyc := t0 + n + 256, kind := 2, n := n }]
      let r := runEvs (ewAct die engine x) (ewFeet d) die engine x evs s
      let s := bump oMaStreamCycles k (cameBy t0 1 d.iters (r.lastEntry x.deadline)) r.s
      let s := updEngine die engine (fun e => { e with lastPass := t0 + r.shift, passEnd := t0 + d.iters + r.shift }) s
      finishRun die engine x (t0 + d.iters - 1 + 256) { r with s := s }

/-! ## The commands -/

def execMm (die : Die) (ma : Ma) (s : State) : Out := .next (doProduct die ma 0x01 s)
def execMmX3 (die : Die) (ma : Ma) (s : State) : Out := .next (doProduct die ma 0x02 s)
def execMmC3 (die : Die) (ma : Ma) (s : State) : Out := .next (doProduct die ma 0x03 s)
def execMmC4 (die : Die) (ma : Ma) (s : State) : Out := .next (doProduct die ma 0x04 s)
def execMmSlice (die : Die) (ma : Ma) (s : State) : Out := .next (doProduct die ma 0x05 s)
def execEwMul (die : Die) (ma : Ma) (s : State) : Out := .next (doEwMul die ma s)

end Sys2Proof.Machine
end

