-- ==== Sys2Proof/Machine/Special.lean ====
section
/-! DEFINITION. Machine/Special.lean: the special functions of the vector unit (R117, R119): exponential, logarithm,
reciprocal, reciprocal root, hyperbolic tangent and logistic function, each within 2 ulp of the exact FP32 result. The
exact result is computed in fixed point with 192 fraction bits; how far an implementation lies from it is open (log 48). -/
namespace Sys2Proof.Machine
open Sys2Proof

/-- Fraction bits, and ln 2 with that many. -/
abbrev fixBits : Nat := 192
abbrev fixOne : Nat := 2 ^ fixBits
def fixLn2 : Nat := 0xb17217f7d1cf79abc9e3b39803f2f6af40f343267298b62d

/-- |x| in fixed point, exact for every FP32 value below 2^8. -/
def toFix (m : Nat) (e : Int) : Nat := m * 2 ^ (e + fixBits).toNat / 2 ^ (-(e + fixBits)).toNat

/-- The terms t + t r / i + t r^2 / (i (i + 1)) + … of an exponential series, until they vanish. -/
def expSeries (r : Nat) : Nat → Nat → Nat → Nat
  | 0, _, _ => 0
  | fuel + 1, i, t => if t = 0 then 0 else t + expSeries r fuel (i + 1) (t * r / 2 ^ fixBits / i)
/-- e^x of x = k ln 2 + r, 0 <= r < ln 2: e^r in fixed point, and k. -/
def fixExp (n : Bool) (x : Nat) : Nat × Int :=
  let k0 := x / fixLn2
  let r0 := x % fixLn2
  let (k, r) : Int × Nat := if n && r0 != 0 then (-(k0 : Int) - 1, fixLn2 - r0) else if n then (-(k0 : Int), 0) else (k0, r0)
  (expSeries r 80 1 fixOne, k)

/-- The terms z / i + z^3 / (i + 2) + … of an inverse hyperbolic tangent, until they vanish. -/
def atanhSeries (z2 : Nat) : Nat → Nat → Nat → Nat
  | 0, _, _ => 0
  | fuel + 1, i, t => if t = 0 then 0 else t / i + atanhSeries z2 fuel (i + 2) (t * z2 / 2 ^ fixBits)
/-- ln of m 2^e, m other than 0, in fixed point. -/
def fixLog (m : Nat) (e : Int) : Int :=
  let k := m.log2
  let f := m * 2 ^ fixBits / 2 ^ k
  let z := (f - fixOne) * 2 ^ fixBits / (f + fixOne)
  (((k : Int) + e) * (fixLn2 : Nat)) + (2 * atanhSeries (z * z / 2 ^ fixBits) 90 1 z : Nat)

/-- The root of `n` rounded down, bit by bit from bit `k`. -/
def rootOf (n : Nat) : Nat → Nat → Nat
  | 0, r => r
  | k + 1, r => rootOf n k (if (r + 2 ^ k) * (r + 2 ^ k) ≤ n then r + 2 ^ k else r)
/-- A quotient or root with a last bit that says whether anything was left. -/
def sticky (q : Nat) (exact : Bool) : Nat := 2 * q + bnat !exact

/-- f(x) for finite x to more than 100 bits, for the function codes 0x48 VEXP, 0x49 VLOG, 0x4A VRECIP, 0x4B VRSQRT, 0x4C
VTANH, 0x4D VSIGMOID; `none` where f has no real value. -/
def specialExact (o : Nat) (x : Val) : Option Val :=
  match x with
  | .num n m e =>
    let big := decide (128 * 2 ^ (-e).toNat ≤ m * 2 ^ e.toNat)
    let a := toFix m e
    if o = 0x48 then
      some (if big then (if n then .num false 0 0 else .inf false) else let (y, k) := fixExp n a; .num false y (k - fixBits))
    else if o = 0x49 then
      if m = 0 ∨ n then none else let y := fixLog m e; some (.num (decide (y < 0)) y.natAbs (-fixBits))
    else if o = 0x4A then
      if m = 0 then none else some (.num n (sticky (2 ^ 64 / m) (2 ^ 64 % m == 0)) (-e - 65))
    else if o = 0x4B then
      if m = 0 ∨ n then none
      else
        let m' := if e % 2 = 0 then m else 2 * m
        let z := 2 ^ 128 / m'
        let y := rootOf z 65 0
        some (.num false (sticky y (y * y == z && 2 ^ 128 % m' == 0)) (-(e / 2) - 65))
    else if o = 0x4C then
      if m = 0 then some x
      else if big then some (.num n 1 0)
      else
        let (y, k) := fixExp false (2 * a)
        let w := y * 2 ^ k.toNat
        some (.num n ((w - fixOne) * 2 ^ (2 * fixBits) / (w + fixOne)) (-2 * fixBits))
    else
      if big then some (if n then .num false 0 0 else .num false 1 0)
      else
        let (y, k) := fixExp false a
        let w := y * 2 ^ k.toNat
        some (.num false ((if n then fixOne else w) * 2 ^ (2 * fixBits) / (w + fixOne)) (-2 * fixBits))
  | _ => none

/-- The FP32 value `k` steps of the code above or below `r`, where it lies within 2 ulp of `r`; else `r`.
DESIGN CHOICE (log 48), safe. -/
def nearUlp (r : Val) (k : Int) : Val :=
  match r with
  | .num n m e =>
    let c : Int := (encFloat 0 .rne 0 (.num false m e)).1
    let j := (if n then -c else c) + k
    let y : Val := match decFloat 0 j.natAbs with | .num _ m' e' => .num (decide (j < 0) || (n && j == 0)) m' e' | v => v
    match y, (y.sub r).abs with
    | .num .., .num _ dm de => if (Val.num false 2 (quantum 0 m e)).lt (.num false dm de) then r else y
    | _, _ => r
  | v => v

/-- A special function's FP32 result: within 2 ulp of the exact one, an exact infinity as it is; where the function has no
real value, or the operand is not finite, the manual states no result, and the opaque constant gives one.
DESIGN CHOICE (log 48), safe. -/
def specialVal (o bits : Nat) (x : Val) : Val :=
  let k := Config.specialFn o bits
  match specialExact o x with
  | none => decVal 0 (k % 2 ^ 32)
  | some y => nearUlp y.r32 ((k % 9 : Nat) - 4)

end Sys2Proof.Machine
end

