-- ==== Sys2Proof/Machine/Vector.lean ====
section
/-! DEFINITION. Machine/Vector.lean: the vector unit (R116 to R124): element-wise work, special functions, conversions,
scaled units, slices, reductions, gather and scatter. -/
namespace Sys2Proof.Machine
open Sys2Proof

/-! ## Values -/

/-- Maximum or minimum on the vector unit (R117). The manual states no result for a NaN operand, nor which zero of two
with different signs: there the free value decides. -/
def vecMax (less : Bool) (fr : Nat) (x y : Val) : Val :=
  match x, y with
  | .nan, _ => decVal 0 (fr % 2 ^ 32)
  | _, .nan => decVal 0 (fr % 2 ^ 32)
  | x, y =>
    if x.isZero && y.isZero then (if x.isNeg == y.isNeg then x else .num (fr % 2 == 1) 0 0)
    else if (if less then y.lt x else x.lt y) then y else x

/-- A two-operand float result in FP32 (R117, R119). -/
def vecOp (op fr : Nat) (x y : Val) : Val :=
  match op with
  | 0x40 => add32 x y
  | 0x41 => (x.sub y).r32
  | 0x42 => (x.mul y).r32
  | 0x44 => vecMax false fr x y
  | _ => vecMax true fr x y

/-- A two-operand integer result (R119). -/
def vecInt (op : Nat) (x y : Int) : Int :=
  match op with
  | 0x40 => x + y
  | 0x41 => x - y
  | 0x42 => x * y
  | 0x44 => max x y
  | _ => min x y
def wrap32 (i : Int) : Int := sext 32 (wrap 32 i)

/-- OP of VRED and VHRED as the opcode of the two-operand form (R118). -/
def Desc.redOp (d : Desc) : Nat := if bits d.imm 4 2 = 0 then 0x40 else if bits d.imm 4 2 = 1 then 0x44 else 0x45

/-- A float result, or an integer result, as an element of D; `fr` is its free value. -/
def putF (d : Desc) (fr row col : Nat) (v : Val) : Nat × Count := encVal d.fmtD (d.rnd row col) fr v
def putI (d : Desc) (fr : Nat) (i : Int) : Nat × Count := encIntResult d.fmtD fr i

/-- The free values of a unit's elements, by what D held and the element: a reduction is bit-identical on every run (R119). -/
def vecFree (d : Desc) (fr row : Nat) (a : List Byte) (old col : Nat) : Nat :=
  if d.opcode = 0x58 ∨ d.opcode = 0x59 then Config.resultFree d.opcode a [] old col else Config.freeAt fr row col

/-- One D element of an element-wise opcode: A's and B's bits, and D's old bits (R117, R119). `none` keeps the old. `fv` gives
its free values. -/
def vecElem (d : Desc) (fv : Nat → Nat → Nat) (row col a b : Nat) (old : Option Nat) : Option (Nat × Count) :=
  let o := d.opcode
  let fr := fv (old.getD 0) col
  let f2 := fv (old.getD 0) (col + 65536)
  let va := decVal d.fmtA a
  let ia := sext (intWidth d.fmtA) a
  if o = 0x43 then
    some (putF d fr row col (((va.mul (decVal d.fmtB b)).add (decVal d.fmtD (old.getD 0))).r32))
  else if o ≤ 0x45 then
    some (if isIntFmt d.fmtA then putI d fr (wrap32 (vecInt o ia (sext (intWidth d.fmtB) b)))
          else putF d fr row col (vecOp o f2 va (decVal d.fmtB b)))
  else if o = 0x46 then
    if b = 0 then none else some (if isIntFmt d.fmtA then putI d fr ia else putF d fr row col va)
  else if o ≤ 0x4D then
    some (putF d fr row col (specialVal o (encFloat 0 .rne f2 va).1 va))
  else if o = 0x50 then
    some (if isIntFmt d.fmtA then
            (if isIntFmt d.fmtD then putI d fr ia else encVal d.fmtD (d.rnd row col) fr va)
          else putF d fr row col va)
  else
    match old with
    | none => some (if isIntFmt d.fmtA then putI d fr ia else putF d fr row col va)
    | some p =>
      some (if isIntFmt d.fmtA then putI d fr (wrap32 (vecInt d.redOp (sext (intWidth d.fmtD) p) ia))
            else putF d fr row col (vecOp d.redOp f2 (decVal d.fmtD p) va))

/-- A D unit of an element-wise opcode. -/
def vecUnit (d : Desc) (fv : Nat → Nat → Nat) (row : Nat) (a b : List Nat) (old : Option (List Nat)) :
    List Nat × List Count :=
  let l := (List.range 256).map fun c =>
    let p := old.map fun l => l.getD c 0
    match vecElem d fv row c (a.getD c 0) (b.getD c 0) p with
    | some (x, k) => (x, k)
    | none => (p.getD 0, .none)
  (l.map (·.1), l.map (·.2))

/-- The one element of VHRED over a unit (R117, R119). -/
def vhredElem (d : Desc) (fv : Nat → Nat → Nat) (row : Nat) (a : List Nat) : Nat × Count :=
  let op := d.redOp
  if isIntFmt d.fmtA then
    let l := a.map (sext (intWidth d.fmtA))
    putI d (fv 0 0) (match l with
      | [] => 0
      | x :: xs => wrap32 (xs.foldl (fun p q => vecInt op p q) x))
  else
    let l := a.map (decVal d.fmtA)
    let f2 := fv 0 65536
    putF d (fv 0 0) row 0 (if op = 0x40 then treeSum l else
      if l.contains .nan then decVal 0 (f2 % 2 ^ 32)
      else match l with
        | [] => zero32
        | x :: xs => xs.foldl (vecMax (op == 0x45) f2) x)

/-! ## Scaled units (R120) -/

/-- Largest exponent of an element format (OCP MX), prism INT4 by its implicit factor (DEDUCED, log 45: unsafe). -/
def emax (f : Nat) : Int :=
  if f = 3 then 8 else if f = 4 then 15 else if f = 6 then 4 else if f = 7 ∨ f = 8 then 2 else 0

/-- The greatest magnitude of a list of finite values. -/
def amax (l : List Val) : Val := l.foldl (fun m v => if m.lt v.abs then v.abs else m) zero32

/-- S of a 32-element block. The manual states none where e - emax + 127 leaves 0 to 254: the free value decides.
DEDUCED (log 45), unsafe. -/
def blockScale (f fr : Nat) (l : List Val) : Nat :=
  if !l.all Val.isFinite then 0xFF
  else if l.all Val.isZero then 0
  else
    let s := (amax l).log2 - emax f + 127
    if 0 ≤ s ∧ s ≤ 254 then s.toNat else fr % 256

/-- s of an 8-element sub-block (prism). Where the block holds a NaN or an infinity R120 gives S = 0xFF and no s: it is 15.
DESIGN CHOICE (log 101), unsafe. -/
def subScale (block sub : List Val) : Nat :=
  if sub.all Val.isZero || !block.all Val.isFinite then 15
  else (min 15 ((amax block).log2 - (amax sub).log2)).toNat

/-- An element of a scaled unit: rounded into the format and saturated. -/
def quantElem (f : Nat) (r : Rnd) (fr : Nat) (v : Val) : Nat × Count :=
  if isIntFmt f then encInt f r (v.scale (if f = 5 then 6 else 2))
  else
    let (b, c) := encFloat f r fr v
    match v with
    | .num n _ _ => (if c = .saturated ∨ b = packInf f n then packTop f n else b, c)
    | _ => (b, c)

/-- VQUANT of one unit: its bytes and counts. -/
def quantUnit (d : Desc) (fr row : Nat) (vs : List Val) : List Byte × List Count :=
  let n := d.depth
  let f := d.fmtD
  let blk (i : Nat) := (vs.drop (32 * i)).take 32
  let sub (i : Nat) := (vs.drop (8 * i)).take 8
  let ss := (List.range (n / 32)).map fun i => blockScale f (Config.freeAt fr row (131072 + i)) (blk i)
  let us := (List.range (n / 8)).map fun i => subScale (blk (i / 4)) (sub i)
  let prism := d.qScale == 2
  let l := ((List.range n).zip vs).map fun (c, v) =>
    let k : Int := 127 - ss.getD (c / 32) 0 + (if prism then (us.getD (c / 8) 0 : Int) else 0)
    quantElem f (d.rnd row c) (Config.freeAt fr row c) (v.scale k)
  let bs := elemBytes f (l.map (·.1)) ++ ss.map byte ++
    (if prism then (List.range (n / 16)).map fun i => byte (us.getD (2 * i) 0 + 16 * us.getD (2 * i + 1) 0) else [])
  (bs ++ List.replicate (d.unitD - bs.length) 0, l.map (·.2))

/-! ## VSLICE (R121) -/

/-- A value a / 2^k, rounded half away from zero. -/
def roundAway (a : Int) (k : Nat) : Int :=
  let m : Nat := (2 * a.natAbs + 2 ^ k) / 2 ^ (k + 1)
  if a < 0 then -(m : Int) else m

/-- The slices from v = a / 2^k, and whether a clamp acted. -/
def sliceDigits : Nat → Int → Nat → List Int × Bool
  | 0, _, _ => ([], false)
  | i + 1, a, k =>
    let s0 := roundAway a k
    let s := max (-63) (min 63 s0)
    let r := a - s * (2 ^ k : Nat)
    let h : Int := (2 ^ (k - 1) : Nat)
    let c := max (-h) (min h r)
    let (t, acted) := sliceDigits i (128 * c) k
    (s :: t, acted || s != s0 || c != r)

/-- eA of a unit: over its finite values. Where it holds a NaN or an infinity no eA satisfies R121's condition for every value, and
the spec gives none.
DESIGN CHOICE (log 123), unsafe. -/
def sliceExp (vs : List Val) : Int :=
  let l := vs.filter Val.isFinite
  if l.all Val.isZero then 0 else (amax l).log2 + 3

/-- One value's seven slices and whether a clamp acted; a NaN or infinity has zero slices. -/
def sliceOf (eA : Int) : Val → List Int × Bool
  | .num n m e =>
    let x := e + 7 - eA
    let k := (-x).toNat + 1
    let a : Int := (m * 2 ^ (x + k).toNat : Nat)
    sliceDigits 7 (if n then -a else a) k
  | _ => (List.replicate 7 0, false)

/-- VSLICE of one unit: the seven planes, values clamped, values not finite. -/
def sliceUnit (vs : List Val) : List Byte × Nat × Nat :=
  let eA := sliceExp vs
  let l := vs.map (sliceOf eA)
  ((List.range 7).flatMap fun i => l.map fun (s, _) => byte (wrap 8 (s.getD i 0)),
   (l.filter (·.2)).length, (vs.filter (fun v => !v.isFinite)).length)

/-! ## Gather and scatter (R122) -/

/-- LENGTH, and the index that a table entry has where it is in range. -/
def Desc.tabLen (d : Desc) : Nat := bits d.imm 8 24
def goodIndex (d : Desc) (b : Nat) : Bool := decide (0 ≤ sext 32 b) && decide (sext 32 b < (d.tabLen : Int))

/-- The vector unit's access to a table in cycle `c`, for which a matrix array may have the port: its pipeline stalls (R101,
R102). -/
def tableCycle (die : Nat) (x : InFlight) (a n c : Nat) (r : Run) : Nat × Run :=
  let c' := settle (spBusy r.s die r.rank a n) (x.deadline + 1 - c) c
  (c', if c' = c then r else { r with s := bump oSpEngineStalls (die + 1) (c' - c) r.s, shift := r.shift + (c' - c) })

/-- One element of a table, behind those before it. -/
def gatherElem (die : Nat) (x : InFlight) (base sz c s0 : Nat) (acc : List Byte × Run) (b : Nat) : List Byte × Run :=
  if acc.2.why ≠ 0 then acc
  else
    let a := base + b * sz
    let (c', r) := tableCycle die x a sz (c + (acc.2.shift - s0)) acc.2
    let (e, r) := if x.deadline < c' then ([], r.stop 0x40 x.deadline a) else spRead die x a sz c' x.desc.slotA [] r
    (acc.1 ++ e, r)
/-- The table's elements for indices in order, until one is out of range (R122) or a read stops the run. -/
def gatherElems (die : Nat) (x : InFlight) (base sz c : Nat) (l : List Nat) (r : Run) : List Byte × Run :=
  (l.takeWhile (goodIndex x.desc)).foldl (gatherElem die x base sz c r.shift) ([], r)

/-- Writes an element to the table; an index out of range halts with ADDR_RANGE. -/
def scatterElem (die : Nat) (x : InFlight) (base sz c s0 : Nat) (r : Run) (e : Nat × List Byte) : Run :=
  if r.why ≠ 0 then r
  else if !goodIndex x.desc e.1 then r.stop 0x20 c (base + e.1 * sz)
  else
    let a := base + e.1 * sz
    let (c', r) := tableCycle die x a sz (c + (r.shift - s0)) r
    if x.deadline < c' then r.stop 0x40 x.deadline a else spMerge die x a e.2 c' [] r
/-- Writes elements to the table in order of j until an index is out of range. -/
def scatterElems (die : Nat) (x : InFlight) (base sz c : Nat) (l : List (Nat × List Byte)) (r : Run) : Run :=
  l.foldl (scatterElem die x base sz c r.shift) r

/-! ## Timing (R116, R123) -/

/-- U of the widest format used, the unit's weight, Q. -/
def Desc.vecU (d : Desc) : Nat :=
  let (ua, ub, ud) := d.uses
  let w := max (if ua then fmtBits d.fmtA else 0) (max (if ub then fmtBits d.fmtB else 0) (if ud then fmtBits d.fmtD else 0))
  if w = 64 then 4 else if w = 32 then 8 else 16
def Desc.vecQ (d : Desc) : Nat :=
  let o := d.opcode
  if o = 0x60 ∨ o = 0x61 then 8 else if (0x48 ≤ o ∧ o ≤ 0x4D) ∨ o = 0x53 then 4 else 1
def Desc.vecWeight (d : Desc) : Nat := if (d.opcode = 0x51 ∨ d.opcode = 0x52) ∧ d.depth = 512 then 2 else 1
/-- Cycle after issue in which unit `n` enters, and E. -/
def Desc.vecEnter (d : Desc) (n : Nat) : Nat := d.vecQ * (d.vecWeight * n / d.vecU)
def Desc.vecE (d : Desc) : Nat := d.vecQ * ceilDiv (d.vecWeight * d.iters) d.vecU

/-! ## Accesses -/

/-- The reads of unit `n` in the cycle it enters. -/
def vecRead (die : Nat) (x : InFlight) (n c : Nat) (r : Run) : Run :=
  let d := x.desc
  let o := d.opcode
  let (ua, ub, _) := d.uses
  let aAddr := offset (d.addrAt d.a n)
  let (bb, r) :=
    if ub && o != 0x53 then
      spRead die x (offset (d.addrAt d.b n)) d.unitB c d.slotB (if d.consB then d.lastSlots d.b d.unitB n else []) r
    else ([], r)
  if r.why ≠ 0 then r
  else
    let r := { r with b := tset [] r.b n bb }
    if o = 0x60 then
      let (bs, r) := gatherElems die x aAddr (fmtBits d.fmtA / 8) c (elems 10 256 bb) r
      { r with a := tset [] r.a n bs }
    else if ua then
      let (bs, r) := spRead die x aAddr d.unitA c d.slotA (if d.consA then d.lastSlots d.a d.unitA n else []) r
      { r with a := tset [] r.a n bs }
    else r

/-- The write of unit `n`, 32 cycles after it enters. -/
def vecWrite (die : Nat) (x : InFlight) (fr n c : Nat) (r : Run) : Run :=
  let d := x.desc
  let o := d.opcode
  let ab := tget [] r.a n
  let bb := tget [] r.b n
  let dA := offset (d.addrAt d.d n)
  let prod := if d.slotD then d.lastSlots d.d d.unitD n else []
  let fv := vecFree d fr n ab
  if o = 0x51 then
    let (bs, cnt) := quantUnit d fr n ((elems d.fmtA d.depth ab).map (decVal d.fmtA))
    let r := spWrite die dA bs c prod r
    if r.why ≠ 0 then r else { r with s := countResults die 2 (d.finalCounts n (fmtBits d.fmtD) cnt) r.s }
  else if o = 0x52 then
    let vs := unitVals d.fmtA d.depth d.qScale ab
    let l := ((List.range d.depth).zip vs).map fun (k, v) => putF d (Config.freeAt fr n k) n k v
    let r := spWrite die dA (elemBytes d.fmtD (l.map (·.1))) c prod r
    if r.why ≠ 0 then r else { r with s := countResults die 2 (d.finalCounts n (fmtBits d.fmtD) (l.map (·.2))) r.s }
  else if o = 0x53 then
    let vs := (elems 11 256 ab).map (decFloat 12)
    let (bs, clamps, nf) := sliceUnit vs
    let r := spWrite die dA bs c prod r
    let r := if r.why ≠ 0 then r else spMerge die x (offset (d.addrAt d.b n)) (leBytes 4 (wrap 32 (sliceExp vs))) c [] r
    if r.why ≠ 0 then r
    else { r with s := bump oVuSliceClamps (die + 1) clamps (bump oVuNonfiniteWrites (die + 1) nf r.s) }
  else if o = 0x59 then
    let (e, k) := vhredElem d fv n (elems d.fmtA 256 ab)
    let r := spMerge die x dA (leBytes (fmtBits d.fmtD / 8) e) c prod r
    if r.why ≠ 0 then r else { r with s := countResults die 2 (d.finalCounts n (fmtBits d.fmtD) [k]) r.s }
  else if o = 0x60 then
    let sz := fmtBits d.fmtD / 8
    let cnt := d.finalCounts n (fmtBits d.fmtD) ((elems d.fmtD (ab.length / sz) ab).map fun e => (putF d 0 0 0 (decVal d.fmtA e)).2)
    if ab.length = d.unitD then
      let r := spWrite die dA ab c prod r
      if r.why ≠ 0 then r else { r with s := if isIntFmt d.fmtD then r.s else countResults die 2 cnt r.s }
    else
      let r := spMerge die x dA ab c [] r
      let bad := (elems 10 256 bb).getD (ab.length / sz) 0
      if r.why ≠ 0 then r
      else { r with s := if isIntFmt d.fmtD then r.s else countResults die 2 cnt r.s }.stop 0x20 c
        (offset (d.addrAt d.a n) + bad * sz)
  else if o = 0x61 then
    let sz := fmtBits d.fmtD / 8
    let es := elems d.fmtA 256 ab
    let ok := ((elems 10 256 bb).takeWhile (goodIndex d)).length
    let cnt := (es.take ok).map fun e => (putF d 0 0 0 (decVal d.fmtA e)).2
    let r := scatterElems die x dA sz c ((elems 10 256 bb).zip (es.map (leBytes sz))) r
    { r with s := if isIntFmt d.fmtD then r.s else countResults die 2 cnt r.s }
  else
    let red := o == 0x58
    let reads := o == 0x43 || o == 0x46 || (red && (!d.redFirst n || (d.accIn && d.dFirst n)))
    let acc := o == 0x43 || (red && d.accIn)
    accWrite die 2 x n c 256 reads acc (!red || d.redLast n)
      (vecUnit d fv n (elems d.fmtA 256 ab) (elems d.fmtB 256 bb)) r

def vecAct (die : Nat) (x : InFlight) (fr : Nat) (e : Ev) (r : Run) : Run :=
  if e.kind = 0 then vecRead die x e.n e.cyc r else vecWrite die x fr e.n e.cyc r

/-- What the accesses of a unit touch; those to a table keep clear of the banks (R122). -/
def vecFeet (d : Desc) (e : Ev) : List (Nat × Nat) :=
  let (ua, ub, ud) := d.uses
  if e.kind = 0 then
    (if ua && d.opcode != 0x60 then [d.foot d.a d.unitA e.n] else []) ++
      (if ub && d.opcode != 0x53 then [d.foot d.b d.unitB e.n] else [])
  else (if ud && d.opcode != 0x61 then [d.foot d.d d.unitD e.n] else []) ++
    (if d.opcode = 0x53 then [d.foot d.b d.unitB e.n] else [])

/-- A vector descriptor (R123). -/
def doVector (die op : Nat) (s : State) : State :=
  match nextExec s die 2 op with
  | none => s
  | some x =>
    if spHeld s die x.desc then s
    else
      let d := x.desc
      let t0 := x.issue + x.stalls
      let evs := (List.range d.iters).flatMap fun n =>
        [{ cyc := t0 + d.vecEnter n, kind := 0, n := n }, { cyc := t0 + d.vecEnter n + 32, kind := 2, n := n }]
      finishRun die 2 x (t0 + d.vecE + 32 - 1)
        (runEvs (vecAct die x s.free) (vecFeet d) die 2 x evs { s with free := s.free + 1 })

/-! ## The commands -/

def execVadd (die : Die) (s : State) : Out := .next (doVector die 0x40 s)
def execVsub (die : Die) (s : State) : Out := .next (doVector die 0x41 s)
def execVmul (die : Die) (s : State) : Out := .next (doVector die 0x42 s)
def execVfma (die : Die) (s : State) : Out := .next (doVector die 0x43 s)
def execVmax (die : Die) (s : State) : Out := .next (doVector die 0x44 s)
def execVmin (die : Die) (s : State) : Out := .next (doVector die 0x45 s)
def execVselect (die : Die) (s : State) : Out := .next (doVector die 0x46 s)
def execVexp (die : Die) (s : State) : Out := .next (doVector die 0x48 s)
def execVlog (die : Die) (s : State) : Out := .next (doVector die 0x49 s)
def execVrecip (die : Die) (s : State) : Out := .next (doVector die 0x4A s)
def execVrsqrt (die : Die) (s : State) : Out := .next (doVector die 0x4B s)
def execVtanh (die : Die) (s : State) : Out := .next (doVector die 0x4C s)
def execVsigmoid (die : Die) (s : State) : Out := .next (doVector die 0x4D s)
def execVcvt (die : Die) (s : State) : Out := .next (doVector die 0x50 s)
def execVquant (die : Die) (s : State) : Out := .next (doVector die 0x51 s)
def execVdequant (die : Die) (s : State) : Out := .next (doVector die 0x52 s)
def execVslice (die : Die) (s : State) : Out := .next (doVector die 0x53 s)
def execVred (die : Die) (s : State) : Out := .next (doVector die 0x58 s)
def execVhred (die : Die) (s : State) : Out := .next (doVector die 0x59 s)
def execVgather (die : Die) (s : State) : Out := .next (doVector die 0x60 s)
def execVscatter (die : Die) (s : State) : Out := .next (doVector die 0x61 s)

end Sys2Proof.Machine
end

