-- ==== Sys2Proof/Machine/NearBank.lean ====
section
/-! DEFINITION. Machine/NearBank.lean: the near-bank units and their control unit NBC (R129, R130, R144 to R158). -/
namespace Sys2Proof.Machine
open Sys2Proof

/-! ## Unit-local memory (R130) -/

/-- Node offset of byte ℓ of unit u. -/
def localOff (die u l : Nat) : Nat := nearBase die + l / 2048 * 0x100000 + u % 64 * 0x4000 + u / 64 * 0x800 + l % 2048

/-- A word read at an address joins those before; an uncorrectable error halts the stream (R131). -/
def joinWord (a c : Nat) (bs : List Byte) (r : Run) : Option (List Byte) × State → List Byte × Run
  | (none, s) => (bs, { r with s := s }.stop 0x60 c a)
  | (some w, s) => (bs ++ w, { r with s := s })
/-- Reads a 32-byte word of a unit at ℓ. -/
def readWord (die : Nat) (x : InFlight) (u c l : Nat) (acc : List Byte × Run) : List Byte × Run :=
  if acc.2.why ≠ 0 then acc
  else joinWord (localOff die u l) c acc.1 acc.2 (memRead (localOff die u l) 32 1 x.ctx x.gen c acc.2.s)
/-- Reads `w` words of a unit from ℓ. -/
def readLocal (die : Nat) (x : InFlight) (u c w l : Nat) (r : Run) : List Byte × Run :=
  (List.range w).foldl (fun acc k => readWord die x u c (l + 32 * k) acc) ([], r)

/-- Writes 32-byte words to a unit from ℓ. -/
def writeLocal (die u w l : Nat) (bs : List Byte) (s : State) : State :=
  (List.range w).foldl (fun s k => writeBytes (localOff die u (l + 32 * k)) (slice bs (32 * k) 32) s) s

/-- Selected units in ascending u. -/
def Desc.nbUnits (d : Desc) : List Nat :=
  ((List.range 8).filter (bit d.layerMask ·)).flatMap fun l => (List.range 64).map (64 * l + ·)

/-! ## Arithmetic (R150, R152, R153) -/

/-- Elements of a row: values of unscaled elements, or of consecutive prism units of depth 256. -/
def rowVals (d : Desc) (bs : List Byte) : List Val :=
  if d.scaleA = 2 then
    let u := unitSize d.fmtA 256 2
    (List.range (bs.length / u)).flatMap fun i => unitVals d.fmtA 256 2 ((bs.drop (i * u)).take u)
  else unitVals d.fmtA (bs.length * 8 / fmtBits d.fmtA) 0 bs

/-- A list cut into groups of `k`.
DEDUCED (log 46), unsafe. -/
def groups (k : Nat) (l : List Val) : List (List Val) :=
  (List.range (ceilDiv l.length k)).map fun i => (l.drop (i * k)).take k

/-- The sum of a row: the summands of each word in the fixed tree, word sums in ascending order (R150; log 46). -/
def rowSum (k : Nat) (l : List Val) : Val := sum32 zero32 ((groups k l).map treeSum)

/-- A dot product of a row and a vector: bits of the 32-bit result, the same on every run (R150, R154). -/
def nbDot (d : Desc) (el : Nat) (row : List Byte) (vec : List Byte) : Nat :=
  if d.fmtA = 5 ∧ d.scaleA = 0 then
    wrap 32 (intCol 5 5 (elems 5 row.length row) (elems 5 row.length vec))
  else
    let ps := products (d.scaleA != 0) (rowVals d row) (unitVals d.fmtB (vec.length * 8 / fmtBits d.fmtB) 0 vec)
    (encFloat 0 .rne (Config.resultFree d.opcode row vec 0 el) (rowSum 32 ps)).1

/-- NB_REDUCE of a row: bits of the result; OP 0 sum, 1 max, 2 min (R152). -/
def nbReduce (d : Desc) (el : Nat) (row : List Byte) : Nat :=
  let op := bits d.imm 6 2
  let n := row.length * 8 / fmtBits d.fmtA
  if isIntFmt d.fmtA then
    let l := (elems d.fmtA n row).map (sext (intWidth d.fmtA))
    wrap 32 (match l with
      | [] => 0
      | x :: xs => if op = 0 then xs.foldl (· + ·) x else if op = 1 then xs.foldl max x else xs.foldl min x)
  else
    let l := rowVals d row
    let fz := Config.resultFree d.opcode row [] 1 el
    let v := if op = 0 then rowSum (256 / fmtBits d.fmtA) l
      else if l.contains .nan then .nan
      else match l with
        | [] => zero32
        | x :: xs => xs.foldl (vecMax (op == 2) fz) x
    (encFloat 0 .rne (Config.resultFree d.opcode row [] 0 el) v).1

/-- α_r × x + y of one element, or α_r × y, converted into FMT_D (R153): the seed is the descriptor's TAG (R148). -/
def nbFma (d : Desc) (fr row col : Nat) (al : Val) (xv : Option Val) (y : Nat) : Nat :=
  let yv := decVal d.fmtD y
  let v := match xv with | some x => ((al.mul x).add yv).r32 | none => (al.mul yv).r32
  let rnd : Rnd := if d.round = 1 ∧ d.fmtD ≠ 0 then .stoch (stochHash d.tag row col) else .rne
  (encFloat d.fmtD rnd (Config.freeAt fr row col) v).1

/-! ## Top-k (R154, R155) -/

/-- An entry (key bits, tag) stands before another: higher key, or equal keys and lower tag. -/
def topBefore (p q : Nat × Nat) : Bool :=
  let a := decVal 0 p.1
  let b := decVal 0 q.1
  b.lt a || (!a.lt b && decide (p.2 < q.2))
def insertTop (p : Nat × Nat) : List (Nat × Nat) → List (Nat × Nat)
  | [] => [p]
  | q :: qs => if topBefore p q then p :: q :: qs else q :: insertTop p qs
/-- A score enters a list of at most K, NaN never. -/
def offer (k : Nat) (p : Nat × Nat) (l : List (Nat × Nat)) : List (Nat × Nat) :=
  if decVal 0 p.1 = .nan then l else (insertTop p l).take k

def getTop (s : State) (die slot u : Nat) : TopK := tget {} s.topk (topkKey die slot u)
def setTop (die slot u : Nat) (t : TopK) (s : State) : State :=
  { s with topk := tset {} s.topk (topkKey die slot u) t }

/-- A command continues a unit's state: that of its own descriptor, or one that the descriptor before it keeps (R155). -/
def TopK.goesOn (t : TopK) (x : InFlight) : Bool := t.live && (t.uid == x.uid || t.kept)
/-- The state a command continues, of its own K and BATCH, else started afresh. -/
def freshTop (s : State) (die : Nat) (x : InFlight) (u : Nat) : TopK :=
  let t := getTop s die x.slot u
  let k := x.desc.topkK
  let b := x.desc.batch
  if t.goesOn x ∧ t.k = k ∧ t.batch = b then { t with uid := x.uid, kept := x.desc.keep }
  else { live := true, uid := x.uid, kept := x.desc.keep, k := k, batch := b, lists := List.replicate b [] }
def topRestarts (s : State) (die : Nat) (x : InFlight) : Bool :=
  x.desc.nbUnits.any fun u =>
    let t := getTop s die x.slot u
    t.goesOn x && (t.k != x.desc.topkK || t.batch != x.desc.batch)

/-- The merged lists of the selected units as D bytes; unfilled entries by R154. -/
def mergedLists (s : State) (die slot : Nat) (d : Desc) : List Byte :=
  (List.range d.batch).flatMap fun j =>
    let all := d.nbUnits.flatMap fun u => (getTop s die slot u).lists.getD j []
    let l := all.foldl (fun acc p => offer d.topkK p acc) []
    (List.range d.topkK).flatMap fun i => match l[i]? with
      | some (k, t) => leBytes 4 k ++ leBytes 4 t
      | none => leBytes 4 0x7FC00000 ++ leBytes 4 0xFFFFFFFF

/-! ## Commands (R145) -/

/-- CMD code of an opcode. -/
def nbCmd (op : Nat) : Nat :=
  match op with
  | 0xC8 => 1 | 0xC9 => 2 | 0xCA => 3 | 0xCB => 4 | 0xCC => 5 | 0xCD => 6 | 0xC0 => 8 | _ => 9

/-- Layers an iteration goes to: the mask, or the layers a transfer touches. -/
def nbMask (d : Desc) (n : Nat) : Nat :=
  if 0xC8 ≤ d.opcode then d.layerMask
  else
    let a := offset (d.addrAt (if d.opcode = 0xC0 then d.a else d.d) n)
    (List.range 8).foldl (fun m l =>
      if (List.range (ceilDiv d.unitA 32)).any fun i => layerOf (a + 32 * i) == l then setBit m l else m) 0
def layersIn (mask : Nat) : List Nat := (List.range 8).filter (bit mask ·)

/-- Local address of a near offset within its unit (R130). -/
def localAddr (o : Nat) : Nat := (o % nearSize) / 0x100000 * 2048 + o % 2048

/-- The command of iteration `n` (R145). FMT_VEC is FMT_B where vectors are broadcast, else FMT_D: of AXPY and SCALE, which have
both, the spec does not say which.
DESIGN CHOICE (log 105), unsafe. -/
def nbWord (d : Desc) (slot n : Nat) : NbWord :=
  let o := d.opcode
  let ua := offset (d.addrAt d.a n)
  let ud := offset (d.addrAt d.d n)
  if o = 0xC0 then { cmd := nbCmd o, mask := nbMask d n, slot := slot, la := localAddr ua / 32 }
  else if o = 0xC1 then { cmd := nbCmd o, mask := nbMask d n, slot := slot, la := localAddr ud / 32 }
  else
    let top := o == 0xCC || o == 0xCD
    let upd := o == 0xCA || o == 0xCB
    { cmd := nbCmd o, mask := d.layerMask, rows := d.rows - 1, words := d.words - 1, batch := d.batch - 1,
      k := if top then d.topkK - 1 else 0, keep := top && d.keep, slot := slot, fmtRow := d.fmtA,
      fmtVec := if o = 0xC8 ∨ o = 0xCC then d.fmtB else d.fmtD, prism := d.scaleA == 2,
      op := if o = 0xC9 then bits d.imm 6 2 else 0, round := d.round, seed := if upd then d.tag else 0,
      la := if o = 0xCB then 0 else ua / 32, ly := if upd then ud / 32 else 0 }

/-- The BCAST before a command whose B differs from that of the command before it, and the RETURN_TOPK behind the last. -/
def bcastWord (d : Desc) (slot : Nat) : NbWord :=
  { cmd := 7, mask := d.layerMask, batch := d.batch - 1, slot := slot, fmtVec := d.fmtB }
def returnWord (d : Desc) (slot : Nat) : NbWord :=
  { cmd := 0xA, mask := d.layerMask, batch := d.batch - 1, k := d.topkK - 1, slot := slot }

/-- A command is sent; on layer `l` it starts in cycle `at_ l` and runs `dur` cycles: the layer is taken (R134), its buffered lines
written back before it (R174). -/
def startCmd (die : Nat) (x : InFlight) (n : Nat) (at_ : Nat → Nat) (dur : Nat) (s : State) : State :=
  let ls := layersIn (nbMask x.desc n)
  let s := updCd die (fun y => { y with cmdRun := ls.map (fun l => (l, at_ l, at_ l + dur)) ++ y.cmdRun })
    (sendWord die (nbWord x.desc x.slot n) s)
  { s with ubuf := s.ubuf.filter fun e =>
      !(match region (e.1 * 32) with | .near c => c == die && ls.contains (e.1 / 64 % 8) | _ => false) }

/-! ## Timing (R157; log 47) -/

/-- A B address that differs from the previous iteration's is broadcast. -/
def Desc.bcast (d : Desc) (n : Nat) : Bool := n == 0 || d.addrAt d.b n != d.addrAt d.b (n - 1)
/-- DEDUCED (log 47), safe. -/
def Desc.bcastCycles (d : Desc) (n : Nat) : Nat :=
  if d.uses.2.1 && 0xC8 ≤ d.opcode && d.bcast n then ceilDiv d.unitB 256 else 0

/-- Bytes on the busiest channel of a transfer. -/
def busiest (a n : Nat) : Nat :=
  ((List.range 8).map fun l => 32 * ((List.range (ceilDiv n 32)).filter (fun i => (a + 32 * i) / 2048 % 8 == l)).length).foldl max 0

def Desc.nbCost (d : Desc) (n : Nat) : Nat :=
  let o := d.opcode
  if o = 0xC8 ∨ o = 0xCC then d.rows * max d.words d.batch
  else if o = 0xC9 ∨ o = 0xCD then d.rows * d.words
  else if o = 0xCA then d.rows * (d.unitA / d.rows / 32 + 2 * d.words)
  else if o = 0xCB then d.rows * 2 * d.words
  else ceilDiv (busiest (offset (d.addrAt (if o = 0xC0 then d.a else d.d) n)) d.unitA) 256

def Desc.nbRet (d : Desc) : Nat := if (d.opcode = 0xCC ∨ d.opcode = 0xCD) ∧ !d.keep then 2 * d.batch * d.topkK + d.topkK else 0

/-- Stack cycles up to the end of iteration `n`'s work, and T of so many stack cycles.
DEDUCED (log 47), safe. -/
def Desc.nbC (d : Desc) (n : Nat) : Nat :=
  8 + (List.range (n + 1)).foldl (fun t k => t + d.bcastCycles k + d.nbCost k) 0
/-- DEDUCED (log 47), safe. -/
def nbT (c : Nat) : Nat := ceilDiv (15 * c) 8 + 4

/-! ## Execution -/

/-- Slots of B that the broadcast at iteration `n` reads last. -/
def Desc.bcastLast (d : Desc) (n : Nat) : List Nat :=
  (d.slotsAt d.b d.unitB n).filter fun sl =>
    (List.range (d.iters - (n + 1))).all fun k => !(d.bcast (n + 1 + k) && (d.slotsAt d.b d.unitB (n + 1 + k)).contains sl)

/-- The vectors that command `n` works with: those broadcast last at or before it (R151). -/
def vecsOf (d : Desc) (n : Nat) (r : Run) : List Byte :=
  match (List.range (n + 1)).reverse.find? (fun m => d.bcast m) with
  | some m => tget [] r.b m
  | none => []

/-- A unit's results, rows then vectors, behind those of the units before it (R151); they lie in its accumulator (R144). -/
def nbResult (die : Nat) (x : InFlight) (n c : Nat) (vec : List Byte) (acc : List Byte × Run) (u : Nat) : List Byte × Run :=
  if acc.2.why ≠ 0 then acc
  else
    let d := x.desc
    let rb := 32 * d.words
    let (bs, r) := readLocal die x u c (d.rows * d.words) (offset (d.addrAt d.a n)) acc.2
    let vb := d.rowElems * fmtBits d.fmtB / 8
    let out := (List.range d.rows).flatMap (fun i =>
      (List.range d.batch).flatMap fun j =>
        let el := u * 65536 + i * 8 + j
        leBytes 4 (if d.opcode = 0xC9 then nbReduce d el (slice bs (i * rb) rb)
                   else nbDot d el (slice bs (i * rb) rb) (slice vec (j * vb) vb)))
    (acc.1 ++ out, if r.why ≠ 0 then r else { r with s := updCd die (fun y => { y with accum := tset [] y.accum u out }) r.s })

/-- A row of a unit is written: recorded with what it held (R158). -/
def writeRow (die u w l c uid : Nat) (bs : List Byte) (s : State) : State :=
  let note (k : Nat) : SpAcc :=
    let a := localOff die u (l + 32 * k)
    { cyc := c, uid := uid, addr := a, len := 32, write := true, old := readBytes s a 32 }
  let log := (List.range w).map note
  writeLocal die u w l bs (updCd die (fun y => { y with rowLog := log.reverse ++ y.rowLog }) s)

/-- Row `i` of NB_AXPY and NB_SCALE on a unit (R153). Rows of X lie behind each other with X's own words: the rule's stride is
given in words of Y.
DESIGN CHOICE (log 104), unsafe. -/
def nbUpdate (die : Nat) (x : InFlight) (fr n i c : Nat) (vec : List Byte) (r : Run) (u : Nat) : Run :=
    let d := x.desc
    let l := offset (d.addrAt d.d n) + 32 * d.words * i
    let xw := d.unitA / d.rows / 32
    let el := d.words * 256 / fmtBits d.fmtD
    let (xb, r) := if d.opcode = 0xCA then readLocal die x u c xw (offset (d.addrAt d.a n) + 32 * xw * i) r else ([], r)
    let (yb, r) := readLocal die x u c d.words l r
    if r.why ≠ 0 then r
    else
      let al := decVal 0 (leNat (slice vec (4 * i) 4))
      let xs := unitVals d.fmtA el 0 xb
      let ys := elems d.fmtD el yb
      let out := elemBytes d.fmtD ((List.range el).map fun k =>
        nbFma d fr (n * d.rows + i) k al (if d.opcode = 0xCA then xs[k]? else none) (ys.getD k 0))
      { r with s := writeRow die u d.words l c x.uid out r.s }

/-- Row `i` on the units of the layers of a mask: a bad word in one of them stops the command at the row's end (R158). -/
def nbRow (die : Nat) (x : InFlight) (fr n i c mask : Nat) (vec : List Byte) (r : Run) : Run :=
  (x.desc.nbUnits.filter fun u => bit mask (u / 64)).foldl (fun r u =>
    let v := nbUpdate die x fr n i c vec { r with why := 0 } u
    if r.why = 0 then v else { v with why := r.why, cyc := r.cyc, addr := r.addr, status := r.status }) r

/-- What a unit's row `i` offers to the list of vector `j` in NB_SEARCH, or its stored lists in NB_TOPK. -/
def nbOffer (d : Desc) (l u : Nat) (vec bs : List Byte) (j : Nat) (acc : List (Nat × Nat)) (i : Nat) : List (Nat × Nat) :=
  let rb := 32 * d.words
  let vb := d.rowElems * fmtBits d.fmtB / 8
  let row := slice bs (i * rb) rb
  if d.opcode = 0xCC then
    offer d.topkK (nbDot d (u * 65536 + i * 8 + j) row (slice vec (j * vb) vb), u * 2 ^ 21 + (l + i * rb) / 32) acc
  else (List.range (4 * d.words)).foldl (fun acc k => offer d.topkK (leNat (slice row (8 * k) 4), leNat (slice row (8 * k + 4) 4)) acc) acc

/-- NB_SEARCH and NB_TOPK on a unit (R154). -/
def nbScore (die : Nat) (x : InFlight) (n c : Nat) (vec : List Byte) (r : Run) (u : Nat) : Run :=
  if r.why ≠ 0 then r
  else
    let d := x.desc
    let l := offset (d.addrAt d.a n)
    let (bs, r) := readLocal die x u c (d.rows * d.words) l r
    if r.why ≠ 0 then r
    else
      let t := freshTop r.s die x u
      let lists := (List.range d.batch).map fun j =>
        (List.range d.rows).foldl (nbOffer d l u vec bs j) (t.lists.getD j [])
      { r with s := setTop die x.slot u { t with lists := lists } r.s }

/-- Command `n` starts in cycle `c`: its vectors are broadcast where they differ from those before (R151). -/
def nbBegin (die : Nat) (x : InFlight) (n c : Nat) (lag : Nat → Nat) (dur : Nat) (r : Run) : Run :=
  let d := x.desc
  let r := if d.uses.2.1 && d.bcast n then
      let (bs, r) := spRead die x (offset (d.addrAt d.b n)) d.unitB c d.slotB (if d.consB then d.bcastLast n else []) r
      let keep (c : CdSt) : CdSt := { c with vecBuf := (layersIn d.layerMask).foldl (fun t l => tset [] t l bs) c.vecBuf }
      if r.why ≠ 0 then r else { r with b := tset [] r.b n bs, s := updCd die keep (sendWord die (bcastWord d x.slot) r.s) }
    else r
  if r.why ≠ 0 then r else { r with s := startCmd die x n (fun l => c + lag l) dur r.s }

/-- A compute command begins; its rows are worked on; its results return. `lag` is how much later a layer begins. -/
def nbIter (die : Nat) (x : InFlight) (fr : Nat) (lag dur : Nat → Nat) (e : Ev) (r : Run) : Run :=
  let d := x.desc
  let o := d.opcode
  let n := e.n
  if e.kind = 0 then nbBegin die x n e.cyc lag (dur n) r
  else
    let vec := vecsOf d n r
    let dA := offset (d.addrAt d.d n)
    let prod := if d.slotD then d.slotsAt d.d d.unitD n else []
    if o = 0xC8 ∨ o = 0xC9 then
      let (out, r) := d.nbUnits.foldl (nbResult die x n e.cyc vec) ([], r)
      if r.why ≠ 0 then r else spWrite die dA out e.cyc prod r
    else if o = 0xCA ∨ o = 0xCB then nbRow die x fr n e.col e.cyc e.mask vec r
    else
      let s := if topRestarts r.s die x then bump oNearTopkRestarts (die + 1) 1 r.s else r.s
      let r := d.nbUnits.foldl (nbScore die x n e.cyc vec) { r with s := s }
      if r.why = 0 ∧ n + 1 = d.iters ∧ !d.keep then
        spWrite die dA (mergedLists r.s die x.slot d) e.cyc prod { r with s := sendWord die (returnWord d x.slot) r.s }
      else r

/-- One transfer of NB_LOAD or NB_STORE (R156). -/
def nbMove (die : Nat) (x : InFlight) (lag dur : Nat → Nat) (e : Ev) (r : Run) : Run :=
  let d := x.desc
  let a := offset (d.addrAt d.a e.n)
  let dA := offset (d.addrAt d.d e.n)
  if e.kind = 0 then { r with s := startCmd die x e.n (fun l => e.cyc + lag l) (dur e.n) r.s }
  else if d.opcode = 0xC0 then
    match memRead a d.unitA 1 x.ctx x.gen e.cyc r.s with
    | (none, s) => { r with s := s }.stop 0x60 e.cyc a
    | (some bs, s) => spWrite die dA bs e.cyc (if d.slotD then d.slotsAt d.d d.unitD e.n else []) { r with s := s }
  else
    let (bs, r) := spRead die x a d.unitA e.cyc d.slotA (d.lastSlots d.a d.unitA e.n |>.filter fun _ => d.consA) r
    if r.why ≠ 0 then r else { r with s := memWrite dA bs r.s }

/-- What an event of an NBC descriptor touches in the scratchpad. -/
def nbFeet (d : Desc) (e : Ev) : List (Nat × Nat) :=
  let o := d.opcode
  if e.kind = 0 then (if d.uses.2.1 && 0xC8 ≤ o && d.bcast e.n then [d.foot d.b d.unitB e.n] else [])
  else if o = 0xC1 then [d.foot d.a d.unitA e.n]
  else if o = 0xCA ∨ o = 0xCB then []
  else if (o = 0xCC ∨ o = 0xCD) ∧ (e.n + 1 ≠ d.iters ∨ d.keep) then []
  else [d.foot d.d d.unitD e.n]

/-- Layers that a descriptor uses. -/
def Desc.nbLayers (d : Desc) : List Nat :=
  (List.range 8).filter fun l => if 0xC8 ≤ d.opcode then bit d.layerMask l else (List.range d.iters).any fun n => bit (nbMask d n) l

/-- Layers that begin a descriptor's commands `g` cycles after the first of them. -/
def lagMask (lag : Nat → Nat) (ls : List Nat) (g : Nat) : Nat := (ls.filter fun l => lag l == g).foldl setBit 0
/-- Working cycles, from the start of a descriptor's commands, at which command `n` starts, and at which its results are there
(R157), behind the layer that begins last. Rows of NB_AXPY and NB_SCALE are events of their own, on the layers that begin
together: a halt stops them at a row boundary (R158).
DEDUCED (log 47), safe. -/
def Desc.nbStart (d : Desc) (n : Nat) : Nat := ceilDiv (15 * (d.nbC n - d.nbCost n)) 8
def Desc.nbEnd (d : Desc) (n : Nat) : Nat := nbT (d.nbC n + 16 + (if n + 1 = d.iters then d.nbRet else 0)) - 1
def Desc.nbEvs (d : Desc) (t0 : Nat) (lag : Nat → Nat) : List Ev :=
  let ls := d.nbLayers
  let lags := (ls.map lag).eraseDups
  (List.range d.iters).flatMap fun n =>
    { cyc := t0 + d.nbStart n, kind := 0, n := n } ::
      (if d.opcode = 0xCA ∨ d.opcode = 0xCB then
         (List.range d.rows).flatMap fun i => lags.map fun g =>
           { cyc := t0 + g + d.nbStart n + 15 * (d.nbCost n / d.rows * i) / 8, kind := 2, n := n, col := i, mask := lagMask lag ls g }
       else [{ cyc := t0 + lags.foldl max 0 + d.nbEnd n, kind := 2, n := n }])
/-- Cycles after its start at which a descriptor's last command on a layer is through. -/
def Desc.layerEnd (d : Desc) (l : Nat) : Nat :=
  match (List.range d.iters).reverse.find? fun n => bit (nbMask d n) l with
  | some n => d.nbEnd n
  | none => 0

/-- An NBC descriptor (R146, R157): on a layer that it shares with descriptors before it, its commands wait for theirs. -/
def doNearBank (die op : Nat) (s : State) : State :=
  match nextExec s die 7 op with
  | none => s
  | some x =>
    if spHeld s die x.desc || (getCd s die).near ≠ 3 then s
    else
      let d := x.desc
      let ls := d.nbLayers
      let from_ (l : Nat) := max (x.issue + x.stalls) (tget 0 (getCd s die).layerBusy l)
      let t0 := (ls.map from_).foldl min (from_ (ls.headD 0))
      let lag (l : Nat) := from_ l - t0
      let dur (n : Nat) := d.nbEnd n - d.nbStart n
      let fin := t0 + (ls.map lag).foldl max 0 + d.nbEnd (d.iters - 1)
      let act := if 0xC8 ≤ op then nbIter die x s.free lag dur else nbMove die x lag dur
      let r := runEvs act (nbFeet d) die 7 x (d.nbEvs t0 lag) { s with free := s.free + 1 }
      let until_ (l : Nat) := min (x.deadline + 1) (if r.why ≠ 0 then r.cyc + 1 else from_ l + d.layerEnd l + r.shift + 1)
      let busy (c : CdSt) : CdSt := { c with layerBusy := ls.foldl (fun t l => tset 0 t l (until_ l)) c.layerBusy }
      finishRun die 7 x fin { r with s := updCd die busy r.s }

def execNbLoad (die : Die) (s : State) : Out := .next (doNearBank die 0xC0 s)
def execNbStore (die : Die) (s : State) : Out := .next (doNearBank die 0xC1 s)
def execNbMv (die : Die) (s : State) : Out := .next (doNearBank die 0xC8 s)
def execNbReduce (die : Die) (s : State) : Out := .next (doNearBank die 0xC9 s)
def execNbAxpy (die : Die) (s : State) : Out := .next (doNearBank die 0xCA s)
def execNbScale (die : Die) (s : State) : Out := .next (doNearBank die 0xCB s)
def execNbSearch (die : Die) (s : State) : Out := .next (doNearBank die 0xCC s)
def execNbTopk (die : Die) (s : State) : Out := .next (doNearBank die 0xCD s)

end Sys2Proof.Machine
end

