-- ==== Sys2Proof/Machine/Dispatch.lean ====
section
/-! DEFINITION. Machine/Dispatch.lean: one arm per command, each one direct call of its meaning. -/
namespace Sys2Proof.Machine
open Sys2Proof

def exec (i : Instr) (s : State) : Host.Outcome State Fault Refusal :=
  match i with
  | .powerUp surroundings => Sys2Proof.Machine.execPowerUp surroundings s
  | .startupResume => Sys2Proof.Machine.execStartupResume s
  | .facetPowerOn f => Sys2Proof.Machine.execFacetPowerOn f s
  | .strapLatch site strap => Sys2Proof.Machine.execStrapLatch site strap s
  | .dieAdmission together => Sys2Proof.Machine.execDieAdmission together s
  | .linkSelfTestDone link end_ failingLanes redundant => Sys2Proof.Machine.execLinkSelfTestDone link end_ failingLanes redundant s
  | .pkgLinkTrained link modules repairs => Sys2Proof.Machine.execPkgLinkTrained link modules repairs s
  | .pkgLinkRetrainDone link ok => Sys2Proof.Machine.execPkgLinkRetrainDone link ok s
  | .pkgLinkTest path link kind => Sys2Proof.Machine.execPkgLinkTest path link kind s
  | .nearTrainingDone die failingLanes => Sys2Proof.Machine.execNearTrainingDone die failingLanes s
  | .nearZeroingDone die => Sys2Proof.Machine.execNearZeroingDone die s
  | .farTrainingDone fd failingLanes => Sys2Proof.Machine.execFarTrainingDone fd failingLanes s
  | .farZeroingDone fd => Sys2Proof.Machine.execFarZeroingDone fd s
  | .frameTick f m => Sys2Proof.Machine.execFrameTick f m s
  | .joinHold f => Sys2Proof.Machine.execJoinHold f s
  | .spDomainWake die dom => Sys2Proof.Machine.execSpDomainWake die dom s
  | .spZeroingDone die dom => Sys2Proof.Machine.execSpZeroingDone die dom s
  | .descriptorFetch die engine slot cycle => Sys2Proof.Machine.execDescriptorFetch die engine slot cycle s
  | .descriptorIssue die engine cycle expectStalls => Sys2Proof.Machine.execDescriptorIssue die engine cycle expectStalls s
  | .descriptorRetire die engine cycle => Sys2Proof.Machine.execDescriptorRetire die engine cycle s
  | .frameOverrun die engine => Sys2Proof.Machine.execFrameOverrun die engine s
  | .signalArrival die sem set code remote value => Sys2Proof.Machine.execSignalArrival die sem set code remote value s
  | .sync die engine => Sys2Proof.Machine.execSync die engine s
  | .dmemSwap die engine => Sys2Proof.Machine.execDmemSwap die engine s
  | .swapRequest hd die tag => Sys2Proof.Machine.execSwapRequest hd die tag s
  | .swapRequestAccept die => Sys2Proof.Machine.execSwapRequestAccept die s
  | .swapCancel hd die tag => Sys2Proof.Machine.execSwapCancel hd die tag s
  | .hostDmemWrite hd offset data tag => Sys2Proof.Machine.execHostDmemWrite hd offset data tag s
  | .mm die ma => Sys2Proof.Machine.execMm die ma s
  | .mmX3 die ma => Sys2Proof.Machine.execMmX3 die ma s
  | .mmC3 die ma => Sys2Proof.Machine.execMmC3 die ma s
  | .mmC4 die ma => Sys2Proof.Machine.execMmC4 die ma s
  | .mmSlice die ma => Sys2Proof.Machine.execMmSlice die ma s
  | .ewMul die ma => Sys2Proof.Machine.execEwMul die ma s
  | .vadd die => Sys2Proof.Machine.execVadd die s
  | .vsub die => Sys2Proof.Machine.execVsub die s
  | .vmul die => Sys2Proof.Machine.execVmul die s
  | .vfma die => Sys2Proof.Machine.execVfma die s
  | .vmax die => Sys2Proof.Machine.execVmax die s
  | .vmin die => Sys2Proof.Machine.execVmin die s
  | .vselect die => Sys2Proof.Machine.execVselect die s
  | .vexp die => Sys2Proof.Machine.execVexp die s
  | .vlog die => Sys2Proof.Machine.execVlog die s
  | .vrecip die => Sys2Proof.Machine.execVrecip die s
  | .vrsqrt die => Sys2Proof.Machine.execVrsqrt die s
  | .vtanh die => Sys2Proof.Machine.execVtanh die s
  | .vsigmoid die => Sys2Proof.Machine.execVsigmoid die s
  | .vcvt die => Sys2Proof.Machine.execVcvt die s
  | .vquant die => Sys2Proof.Machine.execVquant die s
  | .vdequant die => Sys2Proof.Machine.execVdequant die s
  | .vslice die => Sys2Proof.Machine.execVslice die s
  | .vred die => Sys2Proof.Machine.execVred die s
  | .vhred die => Sys2Proof.Machine.execVhred die s
  | .vgather die => Sys2Proof.Machine.execVgather die s
  | .vscatter die => Sys2Proof.Machine.execVscatter die s
  | .copy die ce expectLost => Sys2Proof.Machine.execCopy die ce expectLost s
  | .fill die ce expectLost => Sys2Proof.Machine.execFill die ce expectLost s
  | .atom die ce expectLost => Sys2Proof.Machine.execAtom die ce expectLost s
  | .nbLoad die => Sys2Proof.Machine.execNbLoad die s
  | .nbStore die => Sys2Proof.Machine.execNbStore die s
  | .nbMv die => Sys2Proof.Machine.execNbMv die s
  | .nbReduce die => Sys2Proof.Machine.execNbReduce die s
  | .nbAxpy die => Sys2Proof.Machine.execNbAxpy die s
  | .nbScale die => Sys2Proof.Machine.execNbScale die s
  | .nbSearch die => Sys2Proof.Machine.execNbSearch die s
  | .nbTopk die => Sys2Proof.Machine.execNbTopk die s
  | .put die ce => Sys2Proof.Machine.execPut die ce s
  | .putFlag die ce => Sys2Proof.Machine.execPutFlag die ce s
  | .get die ce => Sys2Proof.Machine.execGet die ce s
  | .load die ce => Sys2Proof.Machine.execLoad die ce s
  | .ratom die ce => Sys2Proof.Machine.execRatom die ce s
  | .fence die ce => Sys2Proof.Machine.execFence die ce s
  | .fenceComplete die slot => Sys2Proof.Machine.execFenceComplete die slot s
  | .fenceTimeout die slot => Sys2Proof.Machine.execFenceTimeout die slot s
  | .planLoad die ce => Sys2Proof.Machine.execPlanLoad die ce s
  | .collStart die ce => Sys2Proof.Machine.execCollStart die ce s
  | .bankAtomic die offset swap etype value expectCollides => Sys2Proof.Machine.execBankAtomic die offset swap etype value expectCollides s
  | .eccWriteback addr => Sys2Proof.Machine.execEccWriteback addr s
  | .refreshWindowStart f marginal => Sys2Proof.Machine.execRefreshWindowStart f marginal s
  | .refreshDebtAccrue die => Sys2Proof.Machine.execRefreshDebtAccrue die s
  | .rowGroupRefresh die => Sys2Proof.Machine.execRowGroupRefresh die s
  | .farPriorityWindow fd => Sys2Proof.Machine.execFarPriorityWindow fd s
  | .farLaneMarginCheck fd channel below => Sys2Proof.Machine.execFarLaneMarginCheck fd channel below s
  | .updateBufferEvict line => Sys2Proof.Machine.execUpdateBufferEvict line s
  | .farScrub fd => Sys2Proof.Machine.execFarScrub fd s
  | .rd p => Sys2Proof.Machine.execRd p s
  | .wr p expectCollides => Sys2Proof.Machine.execWr p expectCollides s
  | .sigAdd p => Sys2Proof.Machine.execSigAdd p s
  | .sigSet p => Sys2Proof.Machine.execSigSet p s
  | .atAdd p => Sys2Proof.Machine.execAtAdd p s
  | .atMin p => Sys2Proof.Machine.execAtMin p s
  | .atMax p => Sys2Proof.Machine.execAtMax p s
  | .atSwap p => Sys2Proof.Machine.execAtSwap p s
  | .atCas p => Sys2Proof.Machine.execAtCas p s
  | .rdRsp p => Sys2Proof.Machine.execRdRsp p s
  | .wrAck p => Sys2Proof.Machine.execWrAck p s
  | .atRsp p => Sys2Proof.Machine.execAtRsp p s
  | .arrAdd p => Sys2Proof.Machine.execArrAdd p s
  | .host p => Sys2Proof.Machine.execHost p s
  | .mgmt p => Sys2Proof.Machine.execMgmt p s
  | .pkgReservedOp router p => Sys2Proof.Machine.execPkgReservedOp router p s
  | .flitReceive link dir flit => Sys2Proof.Machine.execFlitReceive link dir flit s
  | .replay link dir seq => Sys2Proof.Machine.execReplay link dir seq s
  | .flitReplayTimeout link dir => Sys2Proof.Machine.execFlitReplayTimeout link dir s
  | .hostAdmission hd modules rate agreed identity => Sys2Proof.Machine.execHostAdmission hd modules rate agreed identity s
  | .hostSidebandTimeout hd => Sys2Proof.Machine.execHostSidebandTimeout hd s
  | .hostRequest hd r => Sys2Proof.Machine.execHostRequest hd r s
  | .fwTableWrite path hd value => Sys2Proof.Machine.execFwTableWrite path hd value s
  | .semRing hd ctx die value => Sys2Proof.Machine.execSemRing hd ctx die value s
  | .xchTail hd ctx value => Sys2Proof.Machine.execXchTail hd ctx value s
  | .exchangeRequest hd ctx => Sys2Proof.Machine.execExchangeRequest hd ctx s
  | .exchangeComplete hd => Sys2Proof.Machine.execExchangeComplete hd s
  | .hostReset hd => Sys2Proof.Machine.execHostReset hd s
  | .hostLinkLost hd retrained => Sys2Proof.Machine.execHostLinkLost hd retrained s
  | .msixHoldoffExpiry hd vector => Sys2Proof.Machine.execMsixHoldoffExpiry hd vector s
  | .go hd => Sys2Proof.Machine.execGo hd s
  | .ctxCreate hd => Sys2Proof.Machine.execCtxCreate hd s
  | .ctxAssign hd ctx kind die first count => Sys2Proof.Machine.execCtxAssign hd ctx kind die first count s
  | .ctxUnassign hd ctx kind die first count => Sys2Proof.Machine.execCtxUnassign hd ctx kind die first count s
  | .ctxBind hd ctx mask slot dumpHd dumpOff dumpSize maps => Sys2Proof.Machine.execCtxBind hd ctx mask slot dumpHd dumpOff dumpSize maps s
  | .ctxReset hd ctx dumpHd dumpOff dumpSize => Sys2Proof.Machine.execCtxReset hd ctx dumpHd dumpOff dumpSize s
  | .ctxRelease hd ctx => Sys2Proof.Machine.execCtxRelease hd ctx s
  | .objRead hd index sub => Sys2Proof.Machine.execObjRead hd index sub s
  | .objWrite hd index sub value => Sys2Proof.Machine.execObjWrite hd index sub value s
  | .teardownResume ctx => Sys2Proof.Machine.execTeardownResume ctx s
  | .drainTimeout ctx => Sys2Proof.Machine.execDrainTimeout ctx s
  | .teardownClear ctx => Sys2Proof.Machine.execTeardownClear ctx s
  | .unitZeroingDone kind die unit => Sys2Proof.Machine.execUnitZeroingDone kind die unit s
  | .facetReset path f value => Sys2Proof.Machine.execFacetReset path f value s
  | .facetResetOffEnd f => Sys2Proof.Machine.execFacetResetOffEnd f s
  | .logDelivery site n => Sys2Proof.Machine.execLogDelivery site n s
  | .logEntryClose seq => Sys2Proof.Machine.execLogEntryClose seq s
  | .logDropPoll => Sys2Proof.Machine.execLogDropPoll s
  | .optLinkEnable path oe value => Sys2Proof.Machine.execOptLinkEnable path oe value s
  | .optLsmEnable path m value => Sys2Proof.Machine.execOptLsmEnable path m value s
  | .lsmInsert m => Sys2Proof.Machine.execLsmInsert m s
  | .lsmModuleReady m identity => Sys2Proof.Machine.execLsmModuleReady m identity s
  | .lsmRemove m => Sys2Proof.Machine.execLsmRemove m s
  | .lsmFault m flag => Sys2Proof.Machine.execLsmFault m flag s
  | .openFibreTimeout oe => Sys2Proof.Machine.execOpenFibreTimeout oe s
  | .laserProbe oe => Sys2Proof.Machine.execLaserProbe oe s
  | .rxLightReturn oe => Sys2Proof.Machine.execRxLightReturn oe s
  | .feedsGood oe => Sys2Proof.Machine.execFeedsGood oe s
  | .feedsLost oe => Sys2Proof.Machine.execFeedsLost oe s
  | .ringLockDone oe rxFibres => Sys2Proof.Machine.execRingLockDone oe rxFibres s
  | .alignDone oe a => Sys2Proof.Machine.execAlignDone oe a s
  | .optSetupTimeout oe => Sys2Proof.Machine.execOptSetupTimeout oe s
  | .relockTimeout oe => Sys2Proof.Machine.execRelockTimeout oe s
  | .downRetry oe => Sys2Proof.Machine.execDownRetry oe s
  | .laneFrame oe fibre line h errs => Sys2Proof.Machine.execLaneFrame oe fibre line h errs s
  | .linkFrame oe x => Sys2Proof.Machine.execLinkFrame oe x s
  | .nakRepeat oe => Sys2Proof.Machine.execNakRepeat oe s
  | .optReplayTimeout oe => Sys2Proof.Machine.execOptReplayTimeout oe s
  | .keyEpochAdvance oe side => Sys2Proof.Machine.execKeyEpochAdvance oe side s
  | .mislockRelock oe side fibre line verified => Sys2Proof.Machine.execMislockRelock oe side fibre line verified s
  | .ringHoldTimeout oe side fibre line => Sys2Proof.Machine.execRingHoldTimeout oe side fibre line s
  | .txRingUnlockTimeout oe fibre line => Sys2Proof.Machine.execTxRingUnlockTimeout oe fibre line s
  | .urgentRecentre oe side fibre line => Sys2Proof.Machine.execUrgentRecentre oe side fibre line s
  | .lineJudgeWindow oe seen => Sys2Proof.Machine.execLineJudgeWindow oe seen s
  | .calSlotStart oe fibre => Sys2Proof.Machine.execCalSlotStart oe fibre s
  | .calSlotFinish oe fibre ok => Sys2Proof.Machine.execCalSlotFinish oe fibre ok s
  | .monitorWindow oe laser pm fc ri => Sys2Proof.Machine.execMonitorWindow oe laser pm fc ri s
  | .ping oe m => Sys2Proof.Machine.execPing oe m s
  | .echo oe m => Sys2Proof.Machine.execEcho oe m s
  | .ident oe m => Sys2Proof.Machine.execIdent oe m s
  | .moveToSpare oe m => Sys2Proof.Machine.execMoveToSpare oe m s
  | .moveBack oe m => Sys2Proof.Machine.execMoveBack oe m s
  | .lineFailed oe m => Sys2Proof.Machine.execLineFailed oe m s
  | .txSuspect oe m => Sys2Proof.Machine.execTxSuspect oe m s
  | .monReport oe m => Sys2Proof.Machine.execMonReport oe m s
  | .calBegin oe m => Sys2Proof.Machine.execCalBegin oe m s
  | .calEnd oe m => Sys2Proof.Machine.execCalEnd oe m s
  | .attestFrag oe m => Sys2Proof.Machine.execAttestFrag oe m s
  | .keyShare oe m signature => Sys2Proof.Machine.execKeyShare oe m signature s
  | .keyConfirm oe m => Sys2Proof.Machine.execKeyConfirm oe m s
  | .refuse oe m => Sys2Proof.Machine.execRefuse oe m s
  | .width oe m => Sys2Proof.Machine.execWidth oe m s
  | .unknownControlType oe m => Sys2Proof.Machine.execUnknownControlType oe m s
  | .mPut oe p => Sys2Proof.Machine.execMPut oe p s
  | .mGet oe p => Sys2Proof.Machine.execMGet oe p s
  | .mLoad oe p => Sys2Proof.Machine.execMLoad oe p s
  | .mAtom oe p => Sys2Proof.Machine.execMAtom oe p s
  | .mTerminationComplete term => Sys2Proof.Machine.execMTerminationComplete term s
  | .mData oe p => Sys2Proof.Machine.execMData oe p s
  | .mAck oe p => Sys2Proof.Machine.execMAck oe p s
  | .ackCoalesceTimeout pd => Sys2Proof.Machine.execAckCoalesceTimeout pd s
  | .mCredit oe reserved shared => Sys2Proof.Machine.execMCredit oe reserved shared s
  | .creditReturnTimer oe => Sys2Proof.Machine.execCreditReturnTimer oe s
  | .mDrain oe p => Sys2Proof.Machine.execMDrain oe p s
  | .mMgmt oe p => Sys2Proof.Machine.execMMgmt oe p s
  | .machineReservedOp oe p => Sys2Proof.Machine.execMachineReservedOp oe p s
  | .portDownDiscard oe => Sys2Proof.Machine.execPortDownDiscard oe s
  | .flaggedStoreRelease pd => Sys2Proof.Machine.execFlaggedStoreRelease pd s
  | .portMask path value => Sys2Proof.Machine.execPortMask path value s
  | .cUp oe p => Sys2Proof.Machine.execCUp oe p s
  | .cDown oe p => Sys2Proof.Machine.execCDown oe p s
  | .arrive oe p => Sys2Proof.Machine.execArrive oe p s
  | .release oe p => Sys2Proof.Machine.execRelease oe p s
  | .grant oe p => Sys2Proof.Machine.execGrant oe p s
  | .abort oe p => Sys2Proof.Machine.execAbort oe p s
  | .prune oe p => Sys2Proof.Machine.execPrune oe p s
  | .collComplete pd ctx collId => Sys2Proof.Machine.execCollComplete pd ctx collId s
  | .collTimeout pd ctx collId => Sys2Proof.Machine.execCollTimeout pd ctx collId s
  | .settleWindowClose pd ctx collId => Sys2Proof.Machine.execSettleWindowClose pd ctx collId s
  | .collHoldRelease path value => Sys2Proof.Machine.execCollHoldRelease path value s
  | .heartbeat => Sys2Proof.Machine.execHeartbeat s
  | .hubTakeover fatal => Sys2Proof.Machine.execHubTakeover fatal s
  | .tamperWipe flags => Sys2Proof.Machine.execTamperWipe flags s
  | .fwImage path image => Sys2Proof.Machine.execFwImage path image s
  | .deviceCert path der => Sys2Proof.Machine.execDeviceCert path der s
  | .attest path nonce => Sys2Proof.Machine.execAttest path nonce s
  | .sessionOpen path arg => Sys2Proof.Machine.execSessionOpen path arg s
  | .keyProvision path arg => Sys2Proof.Machine.execKeyProvision path arg s
  | .sessionTimeout ctx => Sys2Proof.Machine.execSessionTimeout ctx s
  | .keyRecover path arg => Sys2Proof.Machine.execKeyRecover path arg s
  | .keyRecoverResponse node report pub wrapped tag => Sys2Proof.Machine.execKeyRecoverResponse node report pub wrapped tag s
  | .keyRecoverTimeout => Sys2Proof.Machine.execKeyRecoverTimeout s
  | .provision => Sys2Proof.Machine.execProvision s
  | .deploy path => Sys2Proof.Machine.execDeploy path s
  | .enterService path => Sys2Proof.Machine.execEnterService path s
  | .leaveService path => Sys2Proof.Machine.execLeaveService path s
  | .retire path => Sys2Proof.Machine.execRetire path s
  | .svCommit path => Sys2Proof.Machine.execSvCommit path s
  | .ioapMessage path by_ bytes => Sys2Proof.Machine.execIoapMessage path by_ bytes s
  | .read path source reqId index sub offset length => Sys2Proof.Machine.execRead path source reqId index sub offset length s
  | .write path source reqId index sub offset last value => Sys2Proof.Machine.execWrite path source reqId index sub offset last value s
  | .objectWrite path index sub value => Sys2Proof.Machine.execObjectWrite path index sub value s
  | .describe path source reqId index sub => Sys2Proof.Machine.execDescribe path source reqId index sub s
  | .ioapPing path source reqId => Sys2Proof.Machine.execIoapPing path source reqId s
  | .bootStatus path source reqId => Sys2Proof.Machine.execBootStatus path source reqId s
  | .imageChunk path source reqId offset value => Sys2Proof.Machine.execImageChunk path source reqId offset value s
  | .commit path source reqId => Sys2Proof.Machine.execCommit path source reqId s
  | .stagedWriteTimeout path => Sys2Proof.Machine.execStagedWriteTimeout path s
  | .fragmentTimeout node msgId => Sys2Proof.Machine.execFragmentTimeout node msgId s
  | .icmpv6Echo port dst payload => Sys2Proof.Machine.execIcmpv6Echo port dst payload s
  | .neighbourDiscovery port target => Sys2Proof.Machine.execNeighbourDiscovery port target s
  | .multicastListenerQuery port => Sys2Proof.Machine.execMulticastListenerQuery port s
  | .mctpAddressAssign dynAddr eid => Sys2Proof.Machine.execMctpAddressAssign dynAddr eid s
  | .coolantInletReport tenthC => Sys2Proof.Machine.execCoolantInletReport tenthC s
  | .checkpointCommit => Sys2Proof.Machine.execCheckpointCommit s
  | .journalFlush path value => Sys2Proof.Machine.execJournalFlush path value s
  | .twinPair path node twinId => Sys2Proof.Machine.execTwinPair path node twinId s
  | .twinReplace path node twinId => Sys2Proof.Machine.execTwinReplace path node twinId s
  | .twinDetachRelease path => Sys2Proof.Machine.execTwinDetachRelease path s
  | .twinDetachHandover path => Sys2Proof.Machine.execTwinDetachHandover path s
  | .twinHeartbeat node => Sys2Proof.Machine.execTwinHeartbeat node s
  | .twinHeartbeatTimeout => Sys2Proof.Machine.execTwinHeartbeatTimeout s
  | .twinPairingTimeout => Sys2Proof.Machine.execTwinPairingTimeout s
  | .reportExchange node report pub => Sys2Proof.Machine.execReportExchange node report pub s
  | .journalMirrorUnit count sealed tag => Sys2Proof.Machine.execJournalMirrorUnit count sealed tag s
  | .persistentImagePart count sealed tag => Sys2Proof.Machine.execPersistentImagePart count sealed tag s
  | .keyBlob count sealed tag => Sys2Proof.Machine.execKeyBlob count sealed tag s
  | .mgmtAcknowledgement count sealed tag => Sys2Proof.Machine.execMgmtAcknowledgement count sealed tag s
  | .sagEnter volts10mV => Sys2Proof.Machine.execSagEnter volts10mV s
  | .sagExit volts10mV => Sys2Proof.Machine.execSagExit volts10mV s
  | .sagTimeout => Sys2Proof.Machine.execSagTimeout s
  | .orderlyStop high volts10mV => Sys2Proof.Machine.execOrderlyStop high volts10mV s
  | .stopComplete => Sys2Proof.Machine.execStopComplete s
  | .powerCapWindow energyMj => Sys2Proof.Machine.execPowerCapWindow energyMj s
  | .sharedModelUpdate inputPower temps => Sys2Proof.Machine.execSharedModelUpdate inputPower temps s
  | .thermalAnchor reads => Sys2Proof.Machine.execThermalAnchor reads s
  | .dieSensors path site reads => Sys2Proof.Machine.execDieSensors path site reads s
  | .thermalTrip site sensor temp volts10mV => Sys2Proof.Machine.execThermalTrip site sensor temp volts10mV s
  | .powerDown vstbyHeld => Sys2Proof.Machine.execPowerDown vstbyHeld s
  | .standbyHubFailure => Sys2Proof.Machine.execStandbyHubFailure s
  | .pkgLinkTrainingBoundExceeded link => Sys2Proof.Machine.execPkgLinkTrainingBoundExceeded link s
  | .mgtPortLinkChange port up => Sys2Proof.Machine.execMgtPortLinkChange port up s
  | .persistentWriteCommitted => Sys2Proof.Machine.execPersistentWriteCommitted s
  | .grantReturnDeadline pd => Sys2Proof.Machine.execGrantReturnDeadline pd s

end Sys2Proof.Machine
end

