-- ==== Sys2Proof/Machine/Idle.lean ====
section
/-! DEFINITION. Machine/Idle.lean: what goes on while no command is at hand. -/
namespace Sys2Proof.Machine
open Sys2Proof

/-- The device whose heartbeats end at this one waits for them: a twin, a holder, or a spare that pulls (R418, R421). -/
def twinned (s : State) : Bool :=
  s.twin.state == 2 || s.twin.state == 4 || (s.twin.state == 3 && s.twin.spare)
/-- A heartbeat goes to the twin every 10 ms (R418): one byte, free.
DESIGN CHOICE (log 38), unsafe. -/
def twinBeats (s : State) : State :=
  if twinned s && hubUp s && s.hub.resumed && decide (s.twin.beatSent + 10000000 ≤ wall s) then
    let (b, s) := drawFree s
    sendMgmt s.twin.node 2 [byte b] { s with twin.beatSent := wall s }
  else s

/-- An idle nanosecond of wall time (log 1), in which a heartbeat is due every 10 ms, what can move on
the networks moves (log 109), collectives see which of their
neighbours are fenced by now (log 79), hubs send what waited for room (log 113), a KEY_PROVISION whose mirror
update is acknowledged and a GO that found its mailbox busy are answered (logs 27 and 66), and the write of a firmware image completes
(log 31).
DESIGN CHOICE (log 90), unsafe. -/
def idleStep (s : State) : State :=
  let s := sendHub 1 (sendHub 0 (tendAll (settleNet (twinBeats (idleTick s)))))
  imageWritten (answerBusy 1 (answerBusy 0 (answerKey 1 (answerKey 0 s))))

end Sys2Proof.Machine
end

