-- ==== Sys2Proof/Machine/Step.lean ====
section
/-! DEFINITION. Machine/Step.lean: one step takes the command at the front of the queue. -/
namespace Sys2Proof.Machine
open Sys2Proof

/-- One step: the front command's effect on the state with the queue's rest; on an empty queue one nanosecond of wall
time passes (DESIGN CHOICE, log 1: unsafe), with what goes on in it (`idleStep`).
DESIGN CHOICE (log 90), safe. -/
def step (s : State) : Host.Outcome State Fault Refusal :=
  match s.pending with
  | [] => .next (idleStep s)
  | c :: rest => exec c { s with pending := rest }

/-- `s` with the command that a word spells put at the front of its queue; `s` where the word spells none.
DESIGN CHOICE (log 91), safe. -/
def State.withFetchWord (s : State) (nbits w : Nat) : State :=
  match decodeTableWord nbits w with
  | none => s
  | some c => { s with pending := c :: s.pending }

end Sys2Proof.Machine
end

