-- ==== Sys2Proof/WellFormed.lean ====
section
/-! DEFINITION. WellFormed.lean: which commands are well formed: every operand lies in the range that the spec gives the
field it stands for. `Machine.step` runs ill-formed commands too (their meanings are total); statements about what a
command carries name these checks where they need them. -/
namespace Sys2Proof

/-- A field of `w` bits. -/
def fits (w n : Nat) : Bool := decide (n < 2 ^ w)

/-- A context number (R323). -/
def ctxOk (c : Nat) : Bool := decide (c < 256)

/-- A package packet's fields fit its header, and it carries LEN x 32 bytes at most (R195). -/
def Pkg.wf (p : Pkg) : Bool :=
  fits 8 p.dst && fits 8 p.src && fits 6 p.op && fits 2 p.pclass && fits 2 p.rdClass && fits 8 p.ctx && fits 8 p.gen &&
    decide (p.len ≤ 128) && fits 2 p.origin && fits 4 p.etype && fits 4 p.status && fits 1 p.slot && fits 4 p.srcEngine &&
    fits 12 p.tag && fits 48 p.addr && decide (p.data.length ≤ 32 * p.len)

/-- A machine packet's fields fit its header, and it carries LEN x 32 bytes at most (R270); OP is neither 0x00 nor
0xF0. -/
def Mpk.wf (p : Mpk) : Bool :=
  fits 8 p.op && decide (p.op ≠ 0) && decide (p.op ≠ 0xF0) && fits 2 p.tc && fits 1 p.sub && fits 2 p.port &&
    fits 8 p.ctx && fits 8 p.gen && fits 16 p.dstNode && fits 16 p.srcNode && fits 16 p.count && decide (p.len ≤ 128) &&
    fits 4 p.status && fits 2 p.rdClass && fits 3 p.atop && fits 4 p.etype && fits 4 p.srcEngine && fits 5 p.srcDie &&
    fits 1 p.slot && fits 8 p.arr && fits 16 p.epoch && fits 16 p.tag && fits 48 p.addr &&
    decide (p.data.length ≤ 32 * p.len)

/-- A control message's TYPE, FIBRE, LINE and LANE are bytes, ARG is 64 bits wide, BODY holds 48 bytes (R232). -/
def OptMsg.wf (m : OptMsg) : Bool :=
  fits 8 m.type && fits 8 m.fibre && fits 8 m.line && fits 8 m.lane && fits 64 m.arg && decide (m.body.length ≤ 48)

/-- The fields of a lane header fit their bits (R229). -/
def LaneHdr.wf (h : LaneHdr) : Bool :=
  fits 16 h.sync && fits 5 h.srcOe && fits 3 h.fibre && fits 5 h.wave && fits 4 h.lane && fits 2 h.kind &&
    fits 4 h.keyEpoch && fits 16 h.seq && fits 16 h.ack && fits 8 h.tagByte

/-- A host request stays in its BAR's space and carries as many bytes as it says (R352, R355). -/
def HostReq.wf (r : HostReq) : Bool :=
  decide (r.bar < 6) && decide (r.op = .read || r.data.length = r.len) && decide (r.atomic < 3)

/-- An object's index and subindex (R393). -/
def objOk (index sub : Nat) : Bool := fits 16 index && fits 8 sub

/-- A fibre of an engine and a line of a fibre (R221, R222). -/
def lineOk (fibre line : Nat) : Bool := decide (fibre < 8) && decide (line < 18)
/-- A lane frame: its fibre and line, its header, at most 544 symbol errors in a codeword, 1,275 bytes of payload (R228). -/
def LaneFrame.wf (x : LaneFrame) : Bool :=
  lineOk x.fibre x.line && x.hdr.wf && decide (x.errs ≤ 544) && decide (x.payload.length ≤ 1275)

/-- The commands whose operands lie in their ranges. -/
def Instr.wf : Instr → Bool
  | .powerUp i => fits 8 i.strap0 && fits 8 i.strap1
  | .strapLatch _ strap => fits 8 strap
  | .dieAdmission together => decide together.Nodup
  | .pkgLinkTrained _ modules _ => decide (modules ≤ 8)
  | .pkgLinkTest _ _ kind => decide (kind = 1 ∨ kind = 2)
  | .signalArrival _ sem _ code _ value => decide (sem < 512) && fits 4 code && fits 32 value
  | .bankAtomic _ off _ etype value _ => decide (off < 0x4000000) && fits 4 etype && fits 64 value
  | .farLaneMarginCheck _ _ below => decide below.Nodup
  | .rd p => p.wf
  | .wr p _ => p.wf
  | .sigAdd p => p.wf
  | .sigSet p => p.wf
  | .atAdd p => p.wf
  | .atMin p => p.wf
  | .atMax p => p.wf
  | .atSwap p => p.wf
  | .atCas p => p.wf
  | .rdRsp p => p.wf
  | .wrAck p => p.wf
  | .atRsp p => p.wf
  | .arrAdd p => p.wf
  | .host p => p.wf
  | .mgmt p => p.wf
  | .pkgReservedOp _ p => p.wf
  | .hostAdmission _ modules _ _ _ => decide (modules ≤ 8)
  | .hostRequest _ r => r.wf
  | .fwTableWrite _ _ value => decide (value.length = 1024)
  | .semRing _ ctx _ value => ctxOk ctx && fits 64 value
  | .xchTail _ ctx value => ctxOk ctx && fits 64 value
  | .exchangeRequest _ ctx => ctxOk ctx
  | .ctxAssign _ ctx kind die _ _ => ctxOk ctx && decide (kind < 3) && decide (die < 32)
  | .ctxUnassign _ ctx kind die _ _ => ctxOk ctx && decide (kind < 3) && decide (die < 32)
  | .ctxBind _ ctx mask slot dumpHd _ _ maps => ctxOk ctx && fits 4 mask && fits 1 slot && fits 1 dumpHd && decide (maps.length ≤ 32)
  | .ctxReset _ ctx dumpHd _ _ => ctxOk ctx && fits 1 dumpHd
  | .ctxRelease _ ctx => ctxOk ctx
  | .objRead _ index sub => objOk index sub
  | .objWrite _ index sub value => objOk index sub && decide (value.length ≤ 2029)
  | .teardownResume ctx => ctxOk ctx
  | .drainTimeout ctx => ctxOk ctx
  | .teardownClear ctx => ctxOk ctx
  | .unitZeroingDone _ _ unit => decide (unit < 24576)
  | .logDelivery _ n => decide (0 < n)
  | .ringLockDone _ rx => fits 8 rx
  | .laneFrame _ fibre line h errs => lineOk fibre line && h.wf && decide (errs.1 ≤ 544) && decide (errs.2 ≤ 544)
  | .linkFrame _ x => x.lanes.all (·.wf)
  | .mislockRelock _ _ fibre line _ => lineOk fibre line
  | .ringHoldTimeout _ _ fibre line => lineOk fibre line
  | .txRingUnlockTimeout _ fibre line => lineOk fibre line
  | .urgentRecentre _ _ fibre line => lineOk fibre line
  | .ping _ m => m.wf
  | .echo _ m => m.wf
  | .ident _ m => m.wf
  | .moveToSpare _ m => m.wf
  | .moveBack _ m => m.wf
  | .lineFailed _ m => m.wf
  | .txSuspect _ m => m.wf
  | .monReport _ m => m.wf
  | .calBegin _ m => m.wf
  | .calEnd _ m => m.wf
  | .attestFrag _ m => m.wf
  | .keyShare _ m _ => m.wf
  | .keyConfirm _ m => m.wf
  | .refuse _ m => m.wf
  | .width _ m => m.wf
  | .unknownControlType _ m => m.wf
  | .mPut _ p => p.wf
  | .mGet _ p => p.wf
  | .mLoad _ p => p.wf
  | .mAtom _ p => p.wf
  | .mData _ p => p.wf
  | .mAck _ p => p.wf
  | .mCredit _ reserved _ => decide (reserved.length ≤ 8)
  | .mDrain _ p => p.wf
  | .mMgmt _ p => p.wf
  | .machineReservedOp _ p => p.wf
  | .cUp _ p => p.wf
  | .cDown _ p => p.wf
  | .arrive _ p => p.wf
  | .release _ p => p.wf
  | .grant _ p => p.wf
  | .abort _ p => p.wf
  | .prune _ p => p.wf
  | .collComplete _ ctx _ => ctxOk ctx
  | .collTimeout _ ctx _ => ctxOk ctx
  | .settleWindowClose _ ctx _ => ctxOk ctx
  | .tamperWipe flags => decide (flags ≠ 0) && fits 16 flags
  | .sessionTimeout ctx => ctxOk ctx
  | .keyRecoverResponse node _ _ _ _ => fits 16 node
  | .read _ _ _ index sub _ _ => objOk index sub
  | .write _ _ _ index sub _ _ _ => objOk index sub
  | .objectWrite _ index sub _ => objOk index sub
  | .describe _ _ _ index sub => objOk index sub
  | .fragmentTimeout node _ => fits 16 node
  | .mctpAddressAssign a e => fits 7 a && fits 8 e
  | .twinHeartbeat node => fits 16 node
  | .reportExchange node _ _ => fits 16 node
  | .startupResume | .facetPowerOn _ | .linkSelfTestDone _ _ _ _ | .pkgLinkRetrainDone _ _ | .nearTrainingDone _ _ | .nearZeroingDone _
  | .farTrainingDone _ _ | .farZeroingDone _ | .frameTick _ _ | .joinHold _ | .spDomainWake _ _
  | .spZeroingDone _ _ | .descriptorFetch _ _ _ _ | .descriptorIssue _ _ _ _ | .descriptorRetire _ _ _
  | .frameOverrun _ _ | .sync _ _ | .dmemSwap _ _ | .swapRequest _ _ _ | .swapRequestAccept _ | .swapCancel _ _ _
  | .hostDmemWrite _ _ _ _ | .mm _ _ | .mmX3 _ _ | .mmC3 _ _ | .mmC4 _ _ | .mmSlice _ _ | .ewMul _ _ | .vadd _
  | .vsub _ | .vmul _ | .vfma _ | .vmax _ | .vmin _ | .vselect _ | .vexp _ | .vlog _ | .vrecip _ | .vrsqrt _
  | .vtanh _ | .vsigmoid _ | .vcvt _ | .vquant _ | .vdequant _ | .vslice _ | .vred _ | .vhred _ | .vgather _
  | .vscatter _ | .copy _ _ _ | .fill _ _ _ | .atom _ _ _ | .nbLoad _ | .nbStore _ | .nbMv _ | .nbReduce _
  | .nbAxpy _ | .nbScale _ | .nbSearch _ | .nbTopk _ | .put _ _ | .putFlag _ _ | .get _ _ | .load _ _ | .ratom _ _
  | .fence _ _ | .fenceComplete _ _ | .fenceTimeout _ _ | .planLoad _ _ | .collStart _ _ | .eccWriteback _
  | .refreshWindowStart _ _ | .refreshDebtAccrue _ | .rowGroupRefresh _ | .farPriorityWindow _
  | .updateBufferEvict _ | .farScrub _ | .flitReceive _ _ _ | .replay _ _ _ | .flitReplayTimeout _ _
  | .hostSidebandTimeout _ | .exchangeComplete _ | .hostReset _ | .hostLinkLost _ _ | .msixHoldoffExpiry _ _
  | .go _ | .ctxCreate _ | .facetReset _ _ _ | .facetResetOffEnd _ | .logEntryClose _ | .logDropPoll
  | .optLinkEnable _ _ _ | .optLsmEnable _ _ _ | .lsmInsert _ | .lsmModuleReady _ _ | .lsmRemove _ | .lsmFault _ _
  | .openFibreTimeout _ | .laserProbe _ | .rxLightReturn _ | .feedsGood _ | .feedsLost _ | .alignDone _ _
  | .optSetupTimeout _ | .relockTimeout _ | .downRetry _ | .nakRepeat _ | .optReplayTimeout _
  | .keyEpochAdvance _ _ | .lineJudgeWindow _ _ | .calSlotStart _ _ | .calSlotFinish _ _ _
  | .monitorWindow _ _ _ _ _ | .mTerminationComplete _ | .ackCoalesceTimeout _ | .creditReturnTimer _
  | .portDownDiscard _ | .flaggedStoreRelease _ | .portMask _ _ | .collHoldRelease _ _ | .heartbeat
  | .hubTakeover _ | .fwImage _ _ | .deviceCert _ _ | .attest _ _ | .sessionOpen _ _ | .keyProvision _ _
  | .keyRecover _ _ | .keyRecoverTimeout | .provision | .deploy _ | .enterService _ | .leaveService _ | .retire _
  | .svCommit _ | .ioapMessage _ _ _ | .ioapPing _ _ _ | .bootStatus _ _ _ | .imageChunk _ _ _ _ _ | .commit _ _ _
  | .stagedWriteTimeout _ | .icmpv6Echo _ _ _ | .neighbourDiscovery _ _ | .multicastListenerQuery _
  | .coolantInletReport _ | .checkpointCommit | .journalFlush _ _ | .twinPair _ _ _ | .twinReplace _ _ _
  | .twinDetachRelease _ | .twinDetachHandover _ | .twinHeartbeatTimeout | .twinPairingTimeout
  | .journalMirrorUnit _ _ _ | .persistentImagePart _ _ _ | .keyBlob _ _ _ | .mgmtAcknowledgement _ _ _
  | .sagEnter _ | .sagExit _ | .sagTimeout | .orderlyStop _ _ | .stopComplete | .powerCapWindow _
  | .sharedModelUpdate _ _ | .thermalAnchor _ | .dieSensors _ _ _ | .thermalTrip _ _ _ _ | .powerDown _
  | .standbyHubFailure | .pkgLinkTrainingBoundExceeded _ | .mgtPortLinkChange _ _ | .persistentWriteCommitted
  | .grantReturnDeadline _ => true

end Sys2Proof
end

