-- ==== Sys2Proof/Safety.lean ====
section
/-! DEFINITION. Safety.lean: what the claims call a sound state (memory and the tables in their canonical form), and what
they call unchanged (`Keeps`). A run never stops (`Machine.exec` answers a next state for every command), so soundness
is about the states it passes through. -/
namespace Sys2Proof.Machine
open Sys2Proof

/-! ## Sound states -/

/-- Memory's canonical form: addresses strictly rising, and no entry equal to the zero that an unlisted one reads as.
DESIGN CHOICE (log 10), unsafe. -/
def Memory.wf (m : List Host.Cell) : Bool := Tab.wf 0 m

/-- The tables inside a record of the state are canonical (object values, whose defaults differ by key: keys rise). -/
def MgmtSt.wf (x : MgmtSt) : Bool :=
  rising none x.num && rising none x.blob && Tab.wf {} x.staged && Tab.wf 1 x.msgIds
def HubSt.wf (x : HubSt) : Bool := Tab.wf 0 x.powered && Tab.wf 0 x.firstTick && Tab.wf 0 x.staged
def SecSt.wf (x : SecSt) : Bool := Tab.wf {} x.keys
def JournalSt.wf (x : JournalSt) : Bool := Tab.wf {} x.ring
def FlashSt.wf (x : FlashSt) : Bool := Tab.wf {} x.ckpts && Tab.wf [] x.trips
def LogSt.wf (x : LogSt) : Bool :=
  Tab.wf [] x.outbox && Tab.wf 0 x.drops && Tab.wf 0 x.since && Tab.wf 0 x.dropsRead && Tab.wf 0 x.dieWin &&
    Tab.wf 0 x.dieSent && Tab.wf {} x.ring && Tab.wf 0 x.readMark
def TwinSt.wf (x : TwinSt) : Bool := Tab.wf {} x.holdJournal && Tab.wf {} x.inhJournal
def PowerSt.wf (x : PowerSt) : Bool := Tab.wf 0 x.temp && Tab.wf 0 x.sensorFailed && Tab.wf 0 x.sensorValue

/-- Memory and every table of the state are in canonical form: keys strictly rising, and no entry equal to what an
unlisted key reads as. -/
def State.stored (s : State) : Bool :=
  Memory.wf s.mem && s.hub.wf && s.sec.wf && s.flash.wf && s.jrnl.wf && s.mg.wf && s.elog.wf && s.twin.wf &&
    s.pw.wf &&
    Tab.wf {} s.facets &&
    Tab.wf 0 s.straps &&
    Tab.wf 0 s.siteStatus &&
    Tab.wf 0 s.admitted &&
    Tab.wf 0 s.held &&
    Tab.wf {} s.cds &&
    Tab.wf {} s.fds &&
    Tab.wf {} s.pds &&
    Tab.wf {} s.oes &&
    Tab.wf {} s.lsms &&
    Tab.wf {} s.hosts &&
    Tab.wf {} s.links &&
    Tab.wf {} s.dirs &&
    Tab.wf {} s.ctxs &&
    Tab.wf 0 s.owner &&
    Tab.wf 0 s.ecc &&
    Tab.wf 0 s.sems &&
    Tab.wf 0 s.arrs &&
    Tab.wf {} s.slots &&
    Tab.wf {} s.streams &&
    Tab.wf {} s.engines &&
    Tab.wf {} s.topk &&
    Tab.wf 0 s.ubuf &&
    Tab.wf 0 s.tags &&
    Tab.wf 0 s.outst &&
    Tab.wf {} s.latches &&
    Tab.wf [] s.fences &&
    Tab.wf 0 s.striped &&
    Tab.wf [] s.idle

/-- The keys of an engine's own tables rise. -/
def OeSt.wf (o : OeSt) : Bool :=
  rising none o.txMap && rising none o.rxMap && rising none o.mon && rising none o.heater && rising none o.locks &&
    rising none o.ringHold && rising none o.cal && rising none o.align && rising none o.meas

/-! ## What stays -/

/-- The parts of the state, one for each field of `State`. -/
inductive Part where
  | pending | time | free | rnd | nextUid | hub | sec | flash | standby | jrnl | mg | twin | elog | pw | facets
  | straps | siteStatus | admitted | held | cds | fds | pds | oes | lsms | hosts | links | dirs | ctxs | owner
  | mem | ecc | sems | arrs | slots | streams | engines | topk | ubuf | net | txns | tags | outst | latches
  | fences | striped | terms | mtxns | plans | insts | ctrlTable | tickIncs | barrierHold | idle | xch | out
deriving DecidableEq, Repr

/-- A part of `t` is as it was in `s`. Of memory that is said byte by byte. -/
def Part.kept (p : Part) (s t : State) : Prop :=
  match p with
  | .pending => t.pending = s.pending
  | .time => t.time = s.time
  | .free => t.free = s.free
  | .rnd => t.rnd = s.rnd
  | .nextUid => t.nextUid = s.nextUid
  | .hub => t.hub = s.hub
  | .sec => t.sec = s.sec
  | .flash => t.flash = s.flash
  | .standby => t.standby = s.standby
  | .jrnl => t.jrnl = s.jrnl
  | .mg => t.mg = s.mg
  | .twin => t.twin = s.twin
  | .elog => t.elog = s.elog
  | .pw => t.pw = s.pw
  | .facets => t.facets = s.facets
  | .straps => t.straps = s.straps
  | .siteStatus => t.siteStatus = s.siteStatus
  | .admitted => t.admitted = s.admitted
  | .held => t.held = s.held
  | .cds => t.cds = s.cds
  | .fds => t.fds = s.fds
  | .pds => t.pds = s.pds
  | .oes => t.oes = s.oes
  | .lsms => t.lsms = s.lsms
  | .hosts => t.hosts = s.hosts
  | .links => t.links = s.links
  | .dirs => t.dirs = s.dirs
  | .ctxs => t.ctxs = s.ctxs
  | .owner => t.owner = s.owner
  | .mem => ∀ a, memGet t a = memGet s a
  | .ecc => t.ecc = s.ecc
  | .sems => t.sems = s.sems
  | .arrs => t.arrs = s.arrs
  | .slots => t.slots = s.slots
  | .streams => t.streams = s.streams
  | .engines => t.engines = s.engines
  | .topk => t.topk = s.topk
  | .ubuf => t.ubuf = s.ubuf
  | .net => t.net = s.net
  | .txns => t.txns = s.txns
  | .tags => t.tags = s.tags
  | .outst => t.outst = s.outst
  | .latches => t.latches = s.latches
  | .fences => t.fences = s.fences
  | .striped => t.striped = s.striped
  | .terms => t.terms = s.terms
  | .mtxns => t.mtxns = s.mtxns
  | .plans => t.plans = s.plans
  | .insts => t.insts = s.insts
  | .ctrlTable => t.ctrlTable = s.ctrlTable
  | .tickIncs => t.tickIncs = s.tickIncs
  | .barrierHold => t.barrierHold = s.barrierHold
  | .idle => t.idle = s.idle
  | .xch => t.xch = s.xch
  | .out => t.out = s.out

/-- Every part of the state but those listed is unchanged from `s` to `t`. -/
def Keeps (changed : List Part) (s t : State) : Prop := ∀ p, p ∉ changed → p.kept s t

/-- What a journal entry may write: the journal, its copies in standby SRAM and flash, the twin's mirror of it, the
interrupts that announce a checkpoint, and the outputs. -/
def journaling : List Part := [.hub, .flash, .standby, .jrnl, .mg, .twin, .hosts, .out]
/-- What a packet that goes out may move on its way: the packets at the ports and at the prism dies, the requests and descriptors they
belong to, the memory and objects that they write, and the reports of what is lost. -/
def sending : List Part := journaling ++ [.time, .free, .nextUid, .elog, .facets, .cds, .fds, .pds, .oes, .dirs, .ctxs, .mem, .ecc, .sems,
  .arrs, .slots, .streams, .engines, .ubuf, .net, .txns, .tags, .outst, .latches, .fences, .terms, .mtxns]

/-- A write of an object comes by a live path other than the mailbox, to a hub that runs firmware, and R405 accepts it. -/
def accepts (s : State) (p : Path) (ix sub : Nat) (v : List Byte) : Bool :=
  !isHst (pathCode p) && pathLive s p && !s.hub.loader && writeStatus s p ix sub v == 0

/-- An address lies in an operand's unit of `u` bytes at some iteration of a descriptor. -/
def Desc.touches (d : Desc) (o : Opnd) (u a : Nat) : Prop :=
  ∃ n, n < d.iters ∧ offset (d.addrAt o n) ≤ a ∧ a < offset (d.addrAt o n) + u

/-- Nothing stops the accesses of a descriptor: it checks, consumes and produces no slot, and no word is in error. -/
def plainRun (s : State) (x : InFlight) : Bool :=
  !x.desc.slotA && !x.desc.slotB && !x.desc.slotD && !x.desc.consA && !x.desc.consB && s.ecc == []

/-- A descriptor in flight has done its own work, which ends in cycle `fin`. -/
def workDone (t : State) (die engine uid fin : Nat) : Prop :=
  ∃ y, findFly t die engine uid = some y ∧ y.executed = true ∧ y.finish = fin

/-- A descriptor in flight as issue leaves it: none of its data has come. -/
def InFlight.fresh (x : InFlight) : Bool := x.got == [] && x.nextPut == 0 && x.old == [] && x.nextOld == 0

/-- Nothing stands in the way of a descriptor in its die's scratchpad: no access has cycles there, and its zeroing is over
(R101, R114). -/
def spClear (s : State) (die : Nat) (x : InFlight) : Bool :=
  let c := getCd s die
  c.acc == [] && decide (c.singleAt ≤ x.issue) && decide (c.dualAt ≤ x.issue)
/-- Nor in its near stack: no near-bank command runs, and the refresh window opens behind the budget (R134, R137). -/
def unhindered (s : State) (die : Nat) (x : InFlight) : Bool :=
  let f := getFacet s (die / 8)
  spClear s die x && (getCd s die).cmdRun == [] &&
    (!ticking f || decide (x.deadline < f.cycBase + (f.frameCycles - refreshCycles f.frameCycles)))

/-- An address lies in what a recorded access of a die's engines or near-bank units wrote, which a halt or a port-A write may yet undo
(R69, R104, R158). -/
def logged (s : State) (die a : Nat) : Prop :=
  ∃ w, (w ∈ (getCd s die).acc ∨ w ∈ (getCd s die).rowLog) ∧ w.addr ≤ a ∧ a < w.addr + w.old.length

/-- No packet is held in the prism dies' injection buffers, or has come to them and waits to be taken in, or waits at a port of the
package network. -/
def injIdle (s : State) : Prop :=
  (∀ pd, (getPd s pd).inject = [] ∧ (getPd s pd).landed = []) ∧ s.dirs.all (fun e => e.2.port == []) = true
/-- Nothing is on its way on the package or in the fabric, no collective instance and no terminated request is open, no host
waits for room or for an answer that comes with time, and no twin for heartbeats. -/
def quiet (s : State) : Prop :=
  injIdle s ∧ twinned s = false ∧ s.dirs.all (fun e => e.2.tx == []) = true ∧ s.mg.outbox = [] ∧ s.terms = [] ∧ s.insts = [] ∧ s.xch = [] ∧
    (∀ e, (getOe s e).queue = []) ∧
    ∀ h, (getHost s h).waitReqs = [] ∧ (getHost s h).keyAns = none ∧ (getHost s h).busySeq = []

/-- A machine packet on the package, and the engine it is on its way to. -/
def Cargo.goes (c : Cargo) (oe : Nat) (p : Mpk) : Prop :=
  match c with
  | .engine e q => e = oe ∧ q.pkt = p
  | .inject e => e.oe = oe ∧ e.pkt = p
  | .answer _ _ _ => False
/-- A packet of this device is on its way through an engine: at a package link's port, at its prism die (taken in or not), in the
injection buffer there, in the port's queue, or sent. -/
def carried (t : State) (oe : Nat) (p : Mpk) : Prop :=
  (∃ k, ∃ w ∈ (getDir t k).port, ∃ c, w.cargo = some c ∧ c.goes oe p) ∨
    (∃ l ∈ (getPd t (oePd oe)).landed, l.ok = true ∧ l.cargo.goes oe p) ∨
    (∃ e ∈ (getPd t (oePd oe)).inject, e.oe = oe ∧ e.pkt = p) ∨ (∃ e ∈ (getOe t oe).queue, e.pkt = p) ∨
    Output.mpkt oe p ∈ t.out

/-- Near, far or scratchpad memory, backed or not. -/
def isMem (a : Nat) : Bool :=
  match region a with
  | .near _ | .far _ | .scratch _ | .spHole _ => true
  | _ => false

/-- A package packet crosses the network at once: its destination is admitted, no packet waits at a port, and every link on its
way carries packets and has its credits and room for its flits (R190, R193, R198, R203, R207, R210). -/
def delivered (s : State) (p : Pkg) : Bool :=
  isAdmitted s (strapSite p.dst) && decide (p.pclass < 4) && s.dirs.all (fun e => e.2.port == []) &&
    (pkgRoute p).all (fun h => (getLink s h.1).state == 3 && hasRoom s (hopKey h) p && (getDir s (hopKey h)).flitRoom p) &&
    (pkgRoute p).tail.all fun h => forwards s (keyFrom (hopKey h))

/-- An unposted request of a live context reaches an admitted die. -/
def received (s : State) (q : Pkg) : Bool := isAdmitted s (strapSite q.dst) && ctxAccepts s q.ctx q.gen && !q.posted

/-- A request left the network, and its answer went into it: to its first port, or as R198 says where it has no way. -/
def answered (s t : State) (q : Pkg) (status : Nat) (data : List Byte) : Prop :=
  ∃ u, t = sendPkg (answer q status data) u ∧ u.net = (arrive q s).net ∧ u.dirs = (arrive q s).dirs

/-- A byte of a die's scratchpad is not written by an access of cycle `c` or later: an earlier write shows there (R104). -/
def lastWrite (s : State) (die a n c b : Nat) : Bool :=
  (writesFrom s die a n c).all fun w => decide (b < w.addr) || decide (w.addr + w.len ≤ b)

/-- The mailbox of a host die takes commands: its path is live, writes are not all refused, the journal is open, and no GO
was given while BUSY. -/
def mailReady (s : State) (h : Nat) : Bool :=
  mailLive s h && !allRefused s && !s.jrnl.closed

/-- The mailbox command in progress is answered, with a RESULT, JOURNAL_SEQ and RSP; BUSY is 0 (R359). -/
def mailAnswered (s t : State) (h result jn : Nat) (rsp : List Byte) : Prop :=
  (getHost t h).busy = false ∧ read32 t (mailBase h + 0xFFC) = 0 ∧
    read32 t (mailBase h + 0x800) = (getHost s h).cmdSeq % 2 ^ 32 ∧
    leNat (readBytes t (mailBase h + 0x804) 2) = result ∧ leNat (readBytes t (mailBase h + 0x806) 2) = rsp.length ∧
    read64 t (mailBase h + 0x808) = jn % 2 ^ 64 ∧ readBytes t (mailBase h + 0x810) rsp.length = rsp

/-- No byte outside a mailbox page changed. -/
def onlyMail (s t : State) (h : Nat) : Prop :=
  ∀ a, a < mailBase h ∨ mailBase h + 0x1000 ≤ a → memGet t a = memGet s a

/-- The `i`-th U64 of a counters object. -/
def counterAt (s : State) (ix sub i : Nat) : Nat := leNat (slice (blobGet s ix sub) (8 * i) 8)

/-- A machine packet on its way from a site to an engine is not discarded on the package: the engine is admitted, and no link on the
way to its prism die, and from there to it, has failed (R198, R209). -/
def passes (s : State) (op a oe : Nat) : Prop :=
  isAdmitted s (72 + oe) = true ∧ (∀ h ∈ route op a (64 + oePd oe), (getLink s h.1).state ≠ 5) ∧
    (getLink s (108 + oe)).state ≠ 5

/-- The pieces of a machine packet cross the package from one site to another at once: the route end `fin` is admitted, no packet waits
at a port, and every link on the way carries packets and has the credits and the flits for all of them (R190, R193, R198, R203, R207,
R210). -/
def goesAtOnce (s : State) (origin a b fin : Nat) (ps : List Mpk) : Bool :=
  isAdmitted s fin && s.dirs.all (fun e => e.2.port == []) && ps.all (fun p => decide (p.tc < 4)) &&
    ps.all (fun q => (route q.op a b).all fun h =>
      let k := hopKey h
      let pool := linkPool h.1 (carrier q origin a fin) (some (.answer 0 q none))
      (getLink s h.1).state == 3 &&
        decide (creditsUsed s k pool + tget 0 (getDir s k).credits pool +
          ps.foldl (fun n p => n + pkgCredits (carrier p origin a fin)) 0 ≤ poolSize h.1 pool) &&
        decide ((getDir s k).outstanding + (getDir s k).tx.length / 244 + 1 +
          ps.foldl (fun n p => n + pkgBytes (carrier p origin a fin) / 244 + 1) 0 ≤ 4095)) &&
    ps.all fun q => (route q.op a b).tail.all fun h => forwards s (keyFrom (hopKey h))

/-- A packet of this device for another node leaves a prism die: by the engine of its port and direction. -/
def leaves (s t : State) (pd : Nat) (p : Mpk) : Prop :=
  ∀ d cross, nextDir s p.dstNode = some (d, cross) → nodeOk s (nodeId s) = true → nodeOk s p.dstNode = true →
    passes s p.op (64 + pd) (6 * p.port + d) →
    carried t (6 * p.port + d) { p with sub := if cross then 1 else 0 }

/-- A collective packet crosses from its engine to the prism die of this device, which holds its plan, the only one of its key; its context is bound (R307). -/
def planHere (s : State) (e : Nat) (p : Mpk) (pl : Plan) : Prop :=
  ejects s e = true ∧ nodeId s ≠ 0x8000 ∧ p.dstNode = nodeId s ∧ (getCtx s p.ctx).state ∈ [3, 4, 5] ∧
    (getCtx s p.ctx).gen = p.gen ∧
    s.plans.find? (fun q => q.pd / 2 == oePd e / 2 && q.ctx == p.ctx && q.gen == p.gen &&
      q.coll == (collHdrOf p.data).collId) = some pl ∧ findPlan s pl.pd pl.ctx pl.coll = some pl

/-- The packet belongs to the running instance of its plan, which has not completed. -/
def instHere (s : State) (p : Mpk) (pl : Plan) (i : Inst) : Prop :=
  findInst s pl.pd pl.ctx pl.coll = some i ∧ i.aborting = false ∧ i.doneAt = none ∧ (collHdrOf p.data).seq = i.seq ∧
    i.seq ≠ (pl.seq + 1) % 65536 ∧ isAhead pl.seq i.seq = false

/-- Source of a request: TWN and SVC are one source each (R400). -/
def requester (p : Path) (source : List Byte) : List Byte := if 6 ≤ pathCode p then [byte (pathCode p)] else source

/-- A request on a path is served: the path is live and no mailbox, writes are not all refused (MGT answers even then), and
no kept response has its REQ_ID. -/
def serves (s : State) (p : Path) (source : List Byte) (req : Nat) : Bool :=
  !isHst (pathCode p) && pathLive s p && (!allRefused s || isMgt p) &&
    (s.mg.kept.find? fun x => x.source == requester p source && x.path == pathCode p && x.reqId == req).isNone

/-- A response went out, sealed for the twin on TWN, and is kept for its source (R397, R400). -/
def replied (s t : State) (r : Resp) : Prop :=
  (if r.path = 6 then ∃ n k, Output.mgmtMsg s.twin.node 1 n (sealTwin { s with twin.txCount := k } (respBytes r)) ∈ t.out
   else Output.resp r ∈ t.out) ∧ (r.source ≠ [] → r ∈ t.mg.kept)

end Sys2Proof.Machine
end

