-- ==== Sys2Proof/Certificates/Slice0/Obligations.lean ====
section
/-! DEFINITION. Certificates/Slice0/Obligations.lean: the statements for the provers. Each clause names a command, says
under which conditions on the state and the operands it runs with its own effect, that `exec` then answers a next state,
what that state holds, and by `Keeps` which parts of the state are as before. -/
open Sys2Proof Sys2Proof.Machine

/-! ## The queue -/

/-- A step with a command at the front of the queue is that command's `exec` on the state with the queue's rest; with none
waiting the block idles: where nothing is on its way or waits for an answer and no twin for heartbeats, the wall counter of a powered
package counts one nanosecond and nothing else happens (the model's choice, log 1). -/
def Obligations.StepRunsTheFrontCommand : Prop :=
  (∀ (c : Instr) (rest : List Instr) (s : State), s.pending = c :: rest → step s = exec c { s with pending := rest }) ∧
  (∀ s : State, s.pending = [] → step s = .next (idleStep s)) ∧
  (∀ s : State, s.pending = [] → quiet s → s.flash.fwNew = none →
    ∃ t, step s = .next t ∧ (s.hub.on = true → wall t = wall s + 1) ∧ (s.hub.on = false → t = s) ∧ Keeps [.time] s t)

/-! ## Hubs (R12, R21, R368, R369, R371, R389, R449) -/

/-- POWER_UP, POWER_DOWN, HEARTBEAT, HUB_TAKEOVER and STANDBY_HUB_FAILURE.
The wall counter after a deadline (log 2), the boot counter of a BLANK device (log 58), the losses of a failed hub (log 59) and
the image that a power loss leaves while it is written (log 31) are the model's choices. -/
def Obligations.HubsPowerUpFailAndTakeOver : Prop :=
  (∀ (i : PowerUpIn) (s : State), s.hub.on = false → s.stored = true →
    ∃ t, exec (.powerUp i) s = .next t ∧ t.hub.on = true ∧ t.time = 0 ∧
      tget 0 t.straps 96 = i.strap0 + 1 ∧ tget 0 t.straps 97 = i.strap1 + 1 ∧
      t.standby = (if i.vstbyHeld then s.standby else {}) ∧
      t.sec.boots = (if lcOfFuses s.sec.lc = 0 then s.sec.boots else (s.sec.boots + 1) % 2 ^ 64) ∧
      t.sec.leavePending = false ∧
      (t.hub.firmware = true ↔ i.strap0 = 0x80 ∧ i.strap1 = 0x81 ∧ (i.flashReads0 = true ∨ i.flashReads1 = true) ∧
        imageCheck s s.flash.fw = 0) ∧
      t.hub.loader = !t.hub.firmware ∧
      Keeps [.time, .hub, .sec, .standby, .elog, .straps] s t) ∧
  (∀ (held : Bool) (s : State),
    ∃ t, exec (.powerDown held) s = .next t ∧ t.hub.on = false ∧ t.facets = [] ∧ t.straps = [] ∧
      t.standby = (if held then s.standby else {}) ∧ t.sec.secret = s.sec.secret ∧ t.sec.lc = s.sec.lc ∧
      t.sec.svMin = s.sec.svMin ∧ t.sec.boots = s.sec.boots ∧ t.sec.keys = [] ∧ t.sec.idSeed = [] ∧
      t.flash = (if s.flash.fwNew.isSome then { s.flash with fw := [], fwNew := none } else s.flash) ∧
      (s.stored = true → ∀ k, getFd t k = { marginal := (getFd s k).marginal }) ∧
      t.pending = s.pending ∧ (∀ a, memGet t a = 0)) ∧
  (∀ s : State, hubUp s = true → s.hub.hb1Primary = false →
    exec .heartbeat s = .next { s with hub.lastBeat := wall s }) ∧
  (∀ (fatal : Bool) (s : State), hubUp s = true → s.hub.hb1Primary = false → s.hub.hb1Failed = false →
    s.stored = true →
    ∃ t, exec (.hubTakeover fatal) s = .next t ∧ t.hub.hb1Primary = true ∧ t.hub.hb0Failed = true ∧
      (fatal = false → s.hub.lastBeat + 1000000 ≤ wall t) ∧
      (∀ a, memGet t a = (if (doorBase 0 ≤ a ∧ a < doorBase 0 + 0x100000) ∨ (mailBase 0 ≤ a ∧ a < mailBase 0 + 0x1000) ∨
          (xchBase 0 ≤ a ∧ a < xchBase 0 + 0x4000000) then 0 else memGet s a)) ∧
      tget 0 t.admitted 96 = 0 ∧ tget 0 t.admitted 98 = 0 ∧
      Keeps (journaling ++ ([.time, .mem, .ecc, .admitted, .txns, .xch] : List Part)) s t) ∧
  (∀ s : State, hubUp s = true → s.hub.hb1Failed = false → s.hub.hb0Failed = false → s.stored = true →
    ∃ t, exec .standbyHubFailure s = .next t ∧ t.hub.hb1Failed = true ∧ t.hub.hb1Primary = s.hub.hb1Primary ∧
      (∀ a, memGet t a = (if (doorBase 1 ≤ a ∧ a < doorBase 1 + 0x100000) ∨ (mailBase 1 ≤ a ∧ a < mailBase 1 + 0x1000) ∨
          (xchBase 1 ≤ a ∧ a < xchBase 1 + 0x4000000) then 0 else memGet s a)) ∧
      tget 0 t.admitted 97 = 0 ∧ tget 0 t.admitted 99 = 0 ∧
      Keeps [.hub, .mem, .ecc, .hosts, .admitted, .txns, .xch] s t)

/-! ## Facets come up (R12, R14, R15, R20, R346, R412, R458, R459) -/

/-- STARTUP_RESUME, FACET_POWER_ON, STRAP_LATCH, DIE_ADMISSION and FACET_RESET_OFF_END; NEAR_TRAINING_DONE,
NEAR_ZEROING_DONE, FAR_TRAINING_DONE, FAR_ZEROING_DONE, SP_DOMAIN_WAKE and SP_ZEROING_DONE. `settleNet` lets the
packets that wait for the new end go on.
The wall counter after a deadline (log 2), straps read again and their earlier admission (logs 70 and 71), the place
of lanes in groups (log 80), the status of a die that fails in two ways (log 93) and how far waiting packets go in
one command (log 109) are the model's choices. -/
def Obligations.FacetsAndMemoriesComeUp : Prop :=
  (∀ s : State, s.hub.firmware = true → s.hub.resumed = false → flashOk s = true → s.stored = true →
    ∃ t, exec .startupResume s = .next t ∧ t.hub.resumed = true ∧ t.jrnl.bootSeq = (resumeOf (commitHeld s)).next ∧
      t.hub.startup = waitCode t ∧ (s.hub.hb0Failed = false → tget 0 t.admitted 96 = 1) ∧
      (s.hub.hb1Failed = false → tget 0 t.admitted 97 = 1) ∧
      Keeps (journaling ++ ([.elog, .pw, .facets, .admitted, .lsms] : List Part)) s t) ∧
  (∀ s : State, s.hub.firmware = true → s.hub.resumed = false → flashOk s = false →
    ∃ t, exec .startupResume s = .next t ∧ t.hub.resumed = false ∧ t.hub.startup = 3 ∧ Keeps [.hub] s t) ∧
  (∀ (f : Facet) (s : State), s.hub.resumed = true → s.hub.bothFailed = false → s.pw.tripped = false →
    s.pw.supply < 2 → nextPowered s = some f.val → (getFacet s f).state = 0 → waitCode s = 4 → s.stored = true →
    ∃ t, exec (.facetPowerOn f) s = .next t ∧ (getFacet t f).state = 1 ∧ t.hub.startup = 4 ∧ t.hub.forwarding = true ∧
      t.hub.lastFacetOn = some (wall t) ∧ t.hub.nextFacet = f + 1 ∧
      (∀ u, s.hub.lastFacetOn = some u → u + 10000000 ≤ wall t) ∧
      (∀ d ∈ facetDies f, (getCd t d).near = 1 ∧ (getCd t d).spSingle = 1 ∧ (getCd t d).spDual = 1 ∧
        (getFd t d).state = 1) ∧
      (∀ g : Nat, g ≠ f → getFacet t g = getFacet s g) ∧
      Keeps (journaling ++ ([.time, .facets, .cds, .fds, .oes, .links, .dirs] : List Part)) s t) ∧
  (∀ (site : SiteNo) (f strap : Nat) (s : State), siteFacet site = some f → facetPowered s f = true →
    site.val ∉ (getFacet s f).relatch →
    exec (.strapLatch site strap) s =
      .next (if tget 0 s.straps site = 0 then { s with straps := tset 0 s.straps site (strap % 256 + 1) } else s)) ∧
  (∀ (site : SiteNo) (f strap : Nat) (s : State), siteFacet site = some f → facetPowered s f = true →
    site.val ∈ (getFacet s f).relatch → s.stored = true →
    ∃ t, exec (.strapLatch site strap) s = .next t ∧ tget 0 t.straps site = strap % 256 + 1 ∧
      site.val ∉ (getFacet t f).relatch ∧ (∀ k : Nat, k ≠ site → tget 0 t.straps k = tget 0 s.straps k) ∧
      (∀ g : Nat, g ≠ f → getFacet t g = getFacet s g) ∧ Keeps [.facets, .straps] s t) ∧
  (∀ (site : SiteNo) (strap : Nat) (s : State), 98 ≤ site.val → s.hub.on = true →
    exec (.strapLatch site strap) s =
      .next (if tget 0 s.straps site = 0 then { s with straps := tset 0 s.straps site (strap % 256 + 1) } else s)) ∧
  (∀ (x : SiteNo) (f : Nat) (s : State), siteFacet x = some f → facetPowered s f = true → tget 0 s.straps x ≠ 0 →
    tget 0 s.admitted x ≠ 1 → tget 0 s.held x = 0 → portsPassed s x = true → x.val ∉ (getFacet s f).relatch →
    admitStatus s [x] x = 0 →
    exec (.dieAdmission [x]) s =
      .next (settleNet { s with siteStatus := tset 0 s.siteStatus x 0, admitted := tset 0 s.admitted x 1 })) ∧
  (∀ (x : SiteNo) (f : Nat) (s : State), siteFacet x = some f → facetPowered s f = true → tget 0 s.straps x ≠ 0 →
    tget 0 s.admitted x ≠ 1 → tget 0 s.held x = 0 → portsPassed s x = true → x.val ∉ (getFacet s f).relatch →
    admitStatus s [x] x ≠ 0 → s.stored = true →
    ∃ u, exec (.dieAdmission [x]) s = .next (settleNet u) ∧ tget 0 u.siteStatus x = admitStatus s [x] x ∧
      tget 0 u.held x = 1 ∧ (getFacet u f).state = 4 ∧
      Keeps (journaling ++ ([.elog, .facets, .siteStatus, .held, .ctxs] : List Part)) s u) ∧
  (∀ (f : Facet) (s : State), (getFacet s f).rstStep = 2 → s.stored = true →
    ∃ t, exec (.facetResetOffEnd f) s = .next t ∧ (getFacet s f).offSince + 2300000000 ≤ wall t ∧
      (numGet s oFacetEnable (f + 1) ≠ 0 → (getFacet t f).rstStep = 3 ∧
        (∀ d ∈ facetDies f, (getCd t d).near = 1 ∧ (getFd t d).state = 1) ∧
        Keeps [.time, .hub, .mg, .facets, .cds, .fds, .links, .dirs] s t) ∧
      (numGet s oFacetEnable (f + 1) = 0 → (getFacet s f).state = 1 → (getFacet t f).state = 0 ∧
        (getFacet t f).rstStep = 0 ∧ (∀ d ∈ facetDies f, ∀ a, nearBase d ≤ a → a < nearBase d + nearSize →
          memGet t a = 0))) ∧
  (∀ (d : Die) (lanes : List Nat) (s : State), (getCd s d).near = 1 → badGroups 18 256 lanes = [] → s.stored = true →
    ∃ t, exec (.nearTrainingDone d lanes) s = .next t ∧ (getCd t d).near = 2 ∧
      (getCd t d).spareMap = bitsOf (lameGroups 18 256 lanes) ∧ (∀ k : Nat, k ≠ d → getCd t k = getCd s k) ∧
      Keeps [.elog, .cds] s t) ∧
  (∀ (d : Die) (lanes : List Nat) (s : State), (getCd s d).near = 1 → badGroups 18 256 lanes ≠ [] → s.stored = true →
    ∃ t, exec (.nearTrainingDone d lanes) s = .next t ∧ (getCd t d).near = 4 ∧
      ((getFacet s (d / 8)).state ≠ 0 → (getFacet t (d / 8)).state = 4) ∧
      (∀ k : Nat, k ≠ d → getCd t k = getCd s k) ∧ Keeps (journaling ++ ([.elog, .facets, .cds,
        .ctxs] : List Part)) s t) ∧
  (∀ (d : Die) (s : State), (getCd s d).near = 2 → s.stored = true →
    ∃ t, exec (.nearZeroingDone d) s = .next t ∧ (getCd t d).near = 3 ∧ (getCd t d).debt = 0 ∧
      (∀ k : Nat, k ≠ d → getCd t k = getCd s k) ∧ Keeps [.cds] s t) ∧
  (∀ (k : Die) (lanes : List Nat) (s : State), (getFd s k).state = 1 → badGroups 36 32 lanes = [] → s.stored = true →
    ∃ t, exec (.farTrainingDone k lanes) s = .next t ∧ (getFd t k).state = 2 ∧ (getFd t k).marginal = 0 ∧
      (getFd t k).spareMap =
        bitsOf (lameGroups 36 32 (lanes ++ (List.range 1152).filter (bit (getFd s k).marginal ·))) ∧ (∀ j : Nat, j ≠ k → getFd t j = getFd s j) ∧
      Keeps [.elog, .fds] s t) ∧
  (∀ (k : Die) (lanes : List Nat) (s : State), (getFd s k).state = 1 → badGroups 36 32 lanes ≠ [] → s.stored = true →
    ∃ t, exec (.farTrainingDone k lanes) s = .next t ∧ (getFd t k).state = 4 ∧
      ((getFacet s (k / 8)).state ≠ 0 → (getFacet t (k / 8)).state = 4) ∧
      (∀ j : Nat, j ≠ k → getFd t j = getFd s j) ∧ Keeps (journaling ++ ([.elog, .facets, .fds,
        .ctxs] : List Part)) s t) ∧
  (∀ (k : Die) (s : State), (getFd s k).state = 2 → s.stored = true →
    ∃ t, exec (.farZeroingDone k) s = .next t ∧ (getFd t k).state = 3 ∧ (getFd t k).winStart = wall s ∧
      (getFd t k).winLen = numGet s oFarPrioWindow (k + 1) ∧ (getFd t k).winShare = numGet s oFarC0Share (k + 1) ∧
      (getFd t k).weights = numGet s oFarClassWeights (k + 1) ∧
      (getFd t k).c0Served = 0 ∧ (getFd t k).scrubAt = wall s ∧ (∀ j : Nat, j ≠ k → getFd t j = getFd s j) ∧
      Keeps [.fds] s t) ∧
  (∀ (d : Die) (dom : SpDomain) (s : State), (getFacet s (d / 8)).state ≠ 0 → (getFacet s (d / 8)).state ≠ 4 →
    (if dom = .dual then (getCd s d).spDual else (getCd s d).spSingle) = 0 → s.stored = true →
    ∃ t, exec (.spDomainWake d dom) s = .next t ∧
      (if dom = .dual then (getCd t d).spDual else (getCd t d).spSingle) = 1 ∧
      (if dom = .dual then (getCd t d).dualEnd else (getCd t d).singleEnd) = s.time + spZeroing ∧
      (∀ a, memGet t a = (if spBase d + (if dom = .dual then 0x3C00000 else 0) ≤ a ∧
          a < spBase d + (if dom = .dual then 0x4000000 else 0x3C00000) then 0 else memGet s a)) ∧
      (∀ k : Nat, k ≠ d → getCd t k = getCd s k) ∧ Keeps [.cds, .mem, .ecc, .slots] s t) ∧
  (∀ (d : Die) (dom : SpDomain) (s : State), (if dom = .dual then (getCd s d).spDual else (getCd s d).spSingle) = 1 →
    s.stored = true →
    ∃ t, exec (.spZeroingDone d dom) s = .next t ∧
      (if dom = .dual then (getCd t d).spDual else (getCd t d).spSingle) = 2 ∧
      max s.time (if dom = .dual then (getCd s d).dualEnd else (getCd s d).singleEnd) ≤ t.time ∧
      (∀ k : Nat, k / 8 ≠ d / 8 → getCd t k = getCd s k) ∧ Keeps [.time, .free, .elog, .facets, .cds, .sems, .arrs] s t)

/-! ## Package links (R190 to R194, R207 to R212) -/

/-- LINK_SELF_TEST_DONE, PKG_LINK_TRAINED, PKG_LINK_RETRAIN_DONE, PKG_LINK_TRAINING_BOUND_EXCEEDED and
PKG_LINK_TEST; FLIT_RECEIVE, REPLAY and FLIT_REPLAY_TIMEOUT.
The wall counter after a deadline (log 2), what is sent (log 3), one record for both ends of a link (log 50), fewer
modules than a link has as a failure (log 70), the operand redundant (log 88), how far waiting packets go in one
command (log 109) and the open fields of a REPLAY header (log 112) are the model's choices. -/
def Obligations.PackageLinksTrainFailAndCarryFlits : Prop :=
  (∀ (l : LinkNo) (e : Dir) (failing redundant : Nat) (s : State), (getLink s l).state = 1 → failing ≤ redundant →
    s.stored = true →
    ∃ t, exec (.linkSelfTestDone l e failing redundant) s = .next t ∧
      (getLink t l).passFwd = (decide (e = .fwd) || (getLink s l).passFwd) ∧
      (getLink t l).passRev = (decide (e = .rev) || (getLink s l).passRev) ∧
      (getLink t l).state = (if (getLink t l).passFwd && (getLink t l).passRev then 2 else 1) ∧
      (getLink t l).marked = (getLink s l).marked + failing ∧ (getLink t l).repairs = (getLink s l).repairs ∧
      (∀ k : Nat, k ≠ l → getLink t k = getLink s k) ∧ Keeps [.links] s t) ∧
  (∀ (l : LinkNo) (e : Dir) (failing redundant : Nat) (s : State), (getLink s l).state = 1 → redundant < failing →
    s.stored = true →
    ∃ u, exec (.linkSelfTestDone l e failing redundant) s = .next (settleNet u) ∧ (getLink u l).state = 5 ∧
      tget 0 u.siteStatus (if e = .fwd then (linkEnds l).1 else (linkEnds l).2) = 5 ∧
      (∀ f ∈ linkFacets l, (getFacet s f).state ≠ 0 → (getFacet u f).state = 4) ∧
      (∀ k : Nat, k ≠ l → getLink u k = getLink s k) ∧
      Keeps (journaling ++ ([.elog, .facets, .siteStatus, .links, .ctxs] : List Part)) s u) ∧
  (∀ (l : LinkNo) (repairs : Nat) (s : State), (getLink s l).state = 2 → wall s < (getLink s l).since + 4000000 →
    s.stored = true →
    ∃ u, exec (.pkgLinkTrained l (linkModules l) repairs) s = .next (settleNet u) ∧ (getLink u l).state = 3 ∧
      (getLink u l).modules = linkModules l ∧ (getLink u l).repairs = repairs ∧ (getLink u l).failedRetrains = 0 ∧
      getDir u (2 * l) = (getDir s (2 * l)).fresh ∧ getDir u (2 * l + 1) = (getDir s (2 * l + 1)).fresh ∧
      (repairs = 0 → u.elog = s.elog) ∧
      (∀ k : Nat, k ≠ l → getLink u k = getLink s k) ∧ Keeps [.elog, .links, .dirs] s u) ∧
  (∀ (l : LinkNo) (modules repairs : Nat) (s : State), (getLink s l).state = 2 →
    modules ≠ linkModules l ∨ (getLink s l).since + 4000000 ≤ wall s → s.stored = true →
    ∃ u, exec (.pkgLinkTrained l modules repairs) s = .next (settleNet u) ∧ (getLink u l).state = 5 ∧
      (∀ f ∈ linkFacets l, (getFacet s f).state ≠ 0 → (getFacet u f).state = 4) ∧
      (∀ k : Nat, k ≠ l → getLink u k = getLink s k) ∧
      Keeps (journaling ++ ([.elog, .facets, .links, .ctxs] : List Part)) s u) ∧
  (∀ (l : LinkNo) (s : State), (getLink s l).state = 4 → wall s < (getLink s l).since + 10000 → s.stored = true →
    ∃ u, exec (.pkgLinkRetrainDone l true) s = .next (settleNet u) ∧ (getLink u l).state = 3 ∧
      (getLink u l).failedRetrains = 0 ∧
      (∀ k : Nat, k ≠ l → getLink u k = getLink s k) ∧ Keeps [.mg, .links, .out] s u) ∧
  (∀ (l : LinkNo) (ok : Bool) (s : State), (getLink s l).state = 4 →
    ok = false ∨ (getLink s l).since + 10000 ≤ wall s → (getLink s l).failedRetrains < 2 → s.stored = true →
    ∃ t, exec (.pkgLinkRetrainDone l ok) s = .next t ∧
      (getLink t l).failedRetrains = (getLink s l).failedRetrains + 1 ∧ (getLink t l).state = 4 ∧ Keeps [.links] s t) ∧
  (∀ (l : LinkNo) (ok : Bool) (s : State), (getLink s l).state = 4 →
    ok = false ∨ (getLink s l).since + 10000 ≤ wall s → 2 ≤ (getLink s l).failedRetrains → s.stored = true →
    ∃ u, exec (.pkgLinkRetrainDone l ok) s = .next (settleNet u) ∧ (getLink u l).state = 5 ∧
      (∀ f ∈ linkFacets l, (getFacet s f).state ≠ 0 → (getFacet u f).state = 4) ∧
      Keeps (journaling ++ ([.elog, .facets, .links, .ctxs] : List Part)) s u) ∧
  (∀ (l : LinkNo) (s : State), (getLink s l).state = 1 ∨ (getLink s l).state = 2 → s.stored = true →
    ∃ u, exec (.pkgLinkTrainingBoundExceeded l) s = .next (settleNet u) ∧ (getLink u l).state = 5 ∧
      (getLink s l).since + 4000000 ≤ wall u ∧
      (∀ f ∈ linkFacets l, (getFacet s f).state ≠ 0 → (getFacet u f).state = 4) ∧
      Keeps (journaling ++ ([.time, .elog, .facets, .links, .ctxs] : List Part)) s u) ∧
  (∀ (l : LinkNo) (s : State), (getLink s l).state = 4 → 2 ≤ (getLink s l).failedRetrains → s.stored = true →
    ∃ u, exec (.pkgLinkTrainingBoundExceeded l) s = .next (settleNet u) ∧ (getLink u l).state = 5 ∧
      (getLink s l).since + 10000 ≤ wall u ∧
      Keeps (journaling ++ ([.time, .elog, .facets, .links, .ctxs] : List Part)) s u) ∧
  (∀ (l : LinkNo) (s : State), (getLink s l).state = 4 → (getLink s l).failedRetrains < 2 → s.stored = true →
    ∃ t, exec (.pkgLinkTrainingBoundExceeded l) s = .next t ∧ (getLink t l).state = 4 ∧
      (getLink t l).failedRetrains = (getLink s l).failedRetrains + 1 ∧ (getLink s l).since + 10000 ≤ wall t ∧
      Keeps [.time, .links] s t) ∧
  (∀ (p : Path) (l : LinkNo) (kind : Nat) (s : State),
    accepts s p oPkgLinkTest 0 [byte l, byte kind] = true → s.stored = true →
    ∃ t, exec (.pkgLinkTest p l kind) s = .next t ∧ (getLink t l).state = 1 ∧ (getLink t l).passFwd = false ∧
      (getLink t l).passRev = false ∧ (getLink t l).marked = 0 ∧
      (getLink t l).repairs = (getLink s l).repairs ∧ (∀ k : Nat, k ≠ l → getLink t k = getLink s k) ∧
      Keeps (journaling ++ ([.links] : List Part)) s t) ∧
  (∀ (l : LinkNo) (d : Dir) (b : List Byte) (s : State), (getLink s l).state = 3 → flitGood b = true →
    flitSeq b = (getDir s (dirKey_ l d)).expSeq → (getDir s (dirKey_ l d)).early = [] → s.stored = true →
    ∃ t, exec (.flitReceive l d b) s = .next t ∧
      (getDir t (dirKey_ l d)).expSeq = (flitSeq b + 1) % 4096 ∧ (getDir t (dirKey_ l d)).discarding = false ∧
      (getDir t (dirKey_ l d)).stream = (cutStream l 17 ((getDir s (dirKey_ l d)).stream ++ slice b 4 244)).2 ∧
      ((getDir s (dirKey_ l (back d))).isOut (flitAck b) = true →
        (getDir t (dirKey_ l (back d))).oldest = (flitAck b + 1) % 4096 ∧
        (getDir t (dirKey_ l (back d))).timeouts = 0) ∧
      ((takeAck (flitAck b) (getDir s (dirKey_ l (back d)))).outstanding < 4095 → ∃ pool n, n ≤ 31 ∧
        t.out = s.out ++ ([.flit l (dirKey_ l (back d) % 2)
          (flitModule s l (getDir s (dirKey_ l (back d))).nextSeq)
          (flitBytes (getDir s (dirKey_ l (back d))).nextSeq (flitSeq b) pool n [])] : List Output)) ∧
      (∀ k, k ≠ dirKey_ l d → k ≠ dirKey_ l (back d) → getDir t k = getDir s k) ∧ Keeps [.free, .dirs, .out] s t) ∧
  (∀ (l : LinkNo) (d : Dir) (b : List Byte) (s : State), (getLink s l).state = 3 → flitGood b = true →
    0 < (flitSeq b + 4096 - (getDir s (dirKey_ l d)).expSeq) % 4096 →
    (flitSeq b + 4096 - (getDir s (dirKey_ l d)).expSeq) % 4096 < (getLink s l).modules → s.stored = true →
    ∃ t, exec (.flitReceive l d b) s = .next t ∧
      (getDir t (dirKey_ l d)).expSeq = (getDir s (dirKey_ l d)).expSeq ∧
      (getDir t (dirKey_ l d)).discarding = (getDir s (dirKey_ l d)).discarding ∧
      (getDir t (dirKey_ l d)).early = (if (getDir s (dirKey_ l d)).discarding then (getDir s (dirKey_ l d)).early
        else tput (getDir s (dirKey_ l d)).early (flitSeq b) b) ∧
      (∀ k, k ≠ dirKey_ l d → k ≠ dirKey_ l (back d) → getDir t k = getDir s k) ∧ Keeps [.free, .dirs] s t) ∧
  (∀ (l : LinkNo) (d : Dir) (b : List Byte) (s : State), (getLink s l).state = 3 → flitGood b = false →
    (getDir s (dirKey_ l d)).discarding = false → s.stored = true →
    ∃ t, exec (.flitReceive l d b) s = .next t ∧ (getDir t (dirKey_ l d)).discarding = true ∧
      (getDir t (dirKey_ l d)).expSeq = (getDir s (dirKey_ l d)).expSeq ∧
      ((getDir s (dirKey_ l (back d))).outstanding < 4095 → ∃ pool n, n ≤ 31 ∧
        t.out = s.out ++ ([.flit l (dirKey_ l (back d) % 2) (flitModule s l (getDir s (dirKey_ l (back d))).nextSeq)
          (flitBytes (getDir s (dirKey_ l (back d))).nextSeq ((getDir s (dirKey_ l d)).expSeq + 4095) pool n
          (replayHeader l d (getDir s (dirKey_ l d)).expSeq))] : List Output)) ∧
      Keeps [.dirs, .out] s t) ∧
  (∀ (l : LinkNo) (d : Dir) (b : List Byte) (s : State), (getLink s l).state = 3 → flitGood b = false →
    (getDir s (dirKey_ l d)).discarding = true → exec (.flitReceive l d b) s = .next s) ∧
  (∀ (l : LinkNo) (d : Dir) (q : Nat) (s : State), (getLink s l).state = 3 →
    (getDir s (dirKey_ l d)).resendSeq ≠ q ∨ (getDir s (dirKey_ l d)).resends < 7 → s.stored = true →
    ∃ t, exec (.replay l d q) s = .next t ∧ (getDir t (dirKey_ l d)).resendSeq = q ∧
      (getDir t (dirKey_ l d)).resends =
        (if (getDir s (dirKey_ l d)).resendSeq = q then (getDir s (dirKey_ l d)).resends + 1 else 1) ∧
      t.out = s.out ++ (((getDir s (dirKey_ l d)).unacked.filter fun e => (getDir s (dirKey_ l d)).isOut q &&
        decide ((q + 4096 - (getDir s (dirKey_ l d)).oldest) % 4096 ≤
          (e.1 + 4096 - (getDir s (dirKey_ l d)).oldest) % 4096)).map
        fun e => .flit l (dirKey_ l d % 2) (flitModule s l e.1) e.2) ∧
      (∀ k, k ≠ dirKey_ l d → getDir t k = getDir s k) ∧ Keeps [.mg, .dirs, .out] s t) ∧
  (∀ (l : LinkNo) (d : Dir) (q : Nat) (s : State), (getLink s l).state = 3 →
    (getDir s (dirKey_ l d)).resendSeq = q → 7 ≤ (getDir s (dirKey_ l d)).resends → s.stored = true →
    ∃ t, exec (.replay l d q) s = .next t ∧ (getLink t l).state = 4 ∧ (getDir t (dirKey_ l d)).resends = 0 ∧
      (getDir t (dirKey_ l d)).timeouts = 0 ∧ Keeps [.mg, .elog, .links, .dirs, .out] s t) ∧
  (∀ (l : LinkNo) (d : Dir) (s : State),
    (getLink s l).state = 3 → (getDir s (dirKey_ l d)).outstanding ≠ 0 → s.stored = true →
    ∃ t, exec (.flitReplayTimeout l d) s = .next t ∧
      (getLink t l).state = (if 3 ≤ (getDir s (dirKey_ l d)).timeouts ∨
        ((getDir s (dirKey_ l d)).resendSeq = (getDir s (dirKey_ l d)).oldest ∧ 7 ≤ (getDir s (dirKey_ l d)).resends) then 4 else 3) ∧
      Keeps [.mg, .elog, .links, .dirs, .out] s t)


/-! ## Frames (R20, R26, R30 to R33, R63) -/

/-- FRAME_TICK, JOIN_HOLD and FRAME_OVERRUN. A facet of a group that ticks together stands at the tick (`atTick`)
until the last of them has done steps 1 to 5; a FRAME_TICK that is not yet due in that order leaves the state as it
is.
The model's own clock in thirds of a nanosecond (log 12), joined facets by one command each (log 13), bindings at
step 6 (log 14) and the rounding of the tick's stamp (log 15) are its choices. -/
def Obligations.FramesOpenHoldAndOverrun : Prop :=
  (∀ (f : Facet) (m : TickMeasure) (s : State), s.hub.bothFailed = false → (getFacet s f).state = 1 →
    facetReady s f = true → s.stored = true →
    ∃ t, exec (.frameTick f m) s = .next t ∧ ticking (getFacet t f) = true ∧ (getFacet t f).frameNo = 0 ∧
      (getFacet t f).fFirst = true ∧ (getFacet t f).openT = s.time ∧ (getFacet t f).openWall = tickStamp s.time ∧
      tget 0 t.hub.firstTick f = tickStamp s.time ∧
      Keeps (journaling ++ ([.time, .free, .elog, .pw, .facets, .cds, .fds, .oes, .ctxs, .sems, .arrs, .streams,
        .tickIncs, .idle] : List Part)) s t) ∧
  (∀ (f : Facet) (m : TickMeasure) (s : State), s.hub.bothFailed = false → ticking (getFacet s f) = true →
    (getFacet s f).atTick = none → tickLater s f = false → s.stored = true →
    ∃ t, exec (.frameTick f m) s = .next t ∧ ticking (getFacet t f) = true ∧
      (((getFacet t f).atTick = some (tickTime s f) ∧ (getFacet t f).frameNo = (getFacet s f).frameNo) ∨
        ((getFacet t f).atTick = none ∧ (getFacet t f).frameNo = ((getFacet s f).frameNo + 1) % 2 ^ 32 ∧
          (getFacet t f).openT = tickTime s f ∧ (getFacet t f).openWall = tickStamp (tickTime s f))) ∧
      ((getFacet s f).join = 0 → (∀ e ∈ s.ctxs, e.2.state ≠ 2) → (getFacet t f).atTick = none) ∧
      3 * tickStamp (tickTime s f) ≤ t.time ∧
      (∃ r, (getFacet t f).records.getLast? = some r ∧ r.number = (getFacet s f).frameNo ∧
        r.tickWall = (getFacet s f).openWall) ∧
      (getFacet t f).records.length = min 256 ((getFacet s f).records.length + 1) ∧
      Keeps (journaling ++ ([.time, .free, .elog, .pw, .facets, .cds, .fds, .oes, .dirs, .ctxs, .sems, .arrs, .streams,
        .engines, .topk, .net, .txns, .tags, .tickIncs, .idle] : List Part)) s t) ∧
  (∀ (f : Facet) (m : TickMeasure) (t0 : Nat) (s : State), s.hub.bothFailed = false → ticking (getFacet s f) = true →
    (getFacet s f).atTick = some t0 → tickLater s f = false →
    (∀ g ∈ tickGroup s f, (getFacet s g).atTick.isSome = true) → s.stored = true →
    ∃ t, exec (.frameTick f m) s = .next t ∧ ticking (getFacet t f) = true ∧ (getFacet t f).atTick = none ∧
      (getFacet t f).frameNo = ((getFacet s f).frameNo + 1) % 2 ^ 32 ∧ (getFacet t f).openT = t0 ∧
      (getFacet t f).openWall = tickStamp t0) ∧
  (∀ (f : Facet) (m : TickMeasure) (s : State), s.hub.bothFailed = false → ticking (getFacet s f) = true →
    tickLater s f = true ∨ ((getFacet s f).atTick.isSome = true ∧ ∃ g ∈ tickGroup s f, (getFacet s g).atTick = none) →
    exec (.frameTick f m) s = .next s) ∧
  (∀ (f : Facet) (s : State), ticking (getFacet s f) = true → (getFacet s f).atTick = none → tickGroup s f ≠ [] →
    s.stored = true →
    ∃ t, exec (.joinHold f) s = .next t ∧ (getFacet t f).holding = true ∧
      (getFacet t f).cyc = max (getFacet s f).cyc (getFacet s f).frameCycles ∧
      Keeps [.time, .free, .elog, .facets, .cds, .sems, .arrs] s t) ∧
  (∀ (d : Die) (e : Engine) (y : InFlight) (s : State), ticking (getFacet s (d / 8)) = true →
    (getEngine s d (engCode e)).fly.find? (fun y => !canRetire y y.deadline &&
      decide (y.deadline + 1 < (getFacet s (d / 8)).cycBase + (getFacet s (d / 8)).frameCycles)) = some y →
    s.stored = true →
    ∃ t, exec (.frameOverrun d e) s = .next t ∧ (getStream t d (engCode e) y.slot).haltWord ≠ 0 ∧
      (∀ z ∈ (getEngine t d (engCode e)).fly, z.slot ≠ y.slot) ∧ (∀ a, ¬ logged s d a → memGet t a = memGet s a) ∧
      Keeps (journaling ++ ([.time, .free, .elog, .facets, .cds, .ctxs, .mem, .ecc, .sems, .arrs, .slots, .streams,
        .engines] : List Part)) s t)

/-! ## Sequencers (R38 to R70) -/

/-- DESCRIPTOR_FETCH, DESCRIPTOR_ISSUE, DESCRIPTOR_RETIRE, SYNC and DMEM_SWAP. `u` is the state once the facet's
clock has come to the operand's cycle.
The facet's clock (log 12), the operand stalls, which nothing reads (log 20), the fetch and issue conditions of a stream (log 73) and the
cycle of a decode halt (log 95) are the model's choices. -/
def Obligations.DescriptorsAreFetchedIssuedAndRetired : Prop :=
  (∀ (d : Die) (e : Engine) (sl : Slot) (cycle i : Nat) (s u : State), u = toCycle (d / 8) cycle s →
    (getStream u d (engCode e) (slotCode sl)).fetch = some i → ticking (getFacet u (d / 8)) = true →
    boundCtx u (d / 8) (slotCode sl) ≠ 0 → (getCtx u (boundCtx u (d / 8) (slotCode sl))).state ≠ 5 →
    (getStream u d (engCode e) (slotCode sl)).haltWord = 0 →
    (getStream u d (engCode e) (slotCode sl)).window.length < 16 →
    (getFacet u (d / 8)).cyc < (getFacet u (d / 8)).frameCycles →
    (∀ w ∈ (getStream u d (engCode e) (slotCode sl)).window, w.eligible < absCycle u (d / 8) + 4) → s.stored = true →
    ∃ t, exec (.descriptorFetch d e sl cycle) s = .next t ∧
      (let x := Desc.ofBytes (readBytes u (dmemBase d (getCd u d).active + i * 128) 128) (getCd u d).active i
       let why := decodeCheck u d (engCode e) (slotCode sl) (boundCtx u (d / 8) (slotCode sl)) (getFacet u (d / 8)).frameCycles x
       let old := getStream u d (engCode e) (slotCode sl)
       let new := getStream t d (engCode e) (slotCode sl)
       if why = 0 then
         new.window = old.window ++ [{ desc := x, eligible := absCycle u (d / 8) + 4 }] ∧ new.haltWord = 0 ∧
           new.fetch = if x.next = 0 then none else some ((i : Int) + x.next).toNat
       else new.haltWord ≠ 0 ∧ new.window = old.window) ∧
      Keeps (journaling ++ ([.time, .free, .elog, .facets, .cds, .ctxs, .sems, .arrs, .streams,
        .engines] : List Part)) s t) ∧
  (∀ (d : Die) (e : Engine) (cycle stalls slot : Nat) (w : WinEntry) (rest : List WinEntry) (s u : State),
    u = toCycle (d / 8) cycle s → ticking (getFacet u (d / 8)) = true →
      slot = (if freeFrame u d (engCode e) then 1 else 0) →
    (getEngine u d (engCode e)).lastIssue ≠ absCycle u (d / 8) + 1 →
    boundCtx u (d / 8) slot ≠ 0 → (getCtx u (boundCtx u (d / 8) slot)).state = 3 →
    (getStream u d (engCode e) slot).haltWord = 0 → (getEngine u d (engCode e)).fly.length < flyLimit (engCode e) →
    (getFacet u (d / 8)).cyc < (getFacet u (d / 8)).frameCycles → u.hub.bothFailed = false →
    pick (reserveLower d (engCode e) u) d (engCode e) false (getStream u d (engCode e) slot).window = some (w, rest) →
    s.stored = true →
    ∃ t y, exec (.descriptorIssue d e cycle stalls) s = .next t ∧ (getStream t d (engCode e) slot).window = rest ∧
      (getEngine t d (engCode e)).fly = (getEngine u d (engCode e)).fly ++ [y] ∧ y.desc = w.desc ∧ y.slot = slot ∧
      y.ctx = boundCtx u (d / 8) slot ∧ y.issue = absCycle u (d / 8) ∧ y.deadline = y.issue + w.desc.budget - 1 ∧
      y.executed = false ∧ y.uid = s.nextUid ∧ t.nextUid = s.nextUid + 1 ∧
      (getEngine t d (engCode e)).lastIssue = y.issue + 1 ∧
      y.stalls = 0 ∧
      Keeps [.time, .free, .nextUid, .elog, .facets, .cds, .sems, .arrs, .streams, .engines] s t) ∧
  (∀ (d : Die) (e : Engine) (cycle : Nat) (x : InFlight) (s u : State), u = toCycle (d / 8) cycle s →
    (getEngine u d (engCode e)).fly.find? (fun x => canRetire x (absCycle u (d / 8))) = some x → s.stored = true →
    ∃ t, exec (.descriptorRetire d e cycle) s = .next t ∧
      (getEngine t d (engCode e)).fly = (getEngine u d (engCode e)).fly.filter (fun y => y.uid != x.uid) ∧
      (getCtx t x.ctx).retired = (getCtx u x.ctx).retired + 1 ∧
      Keeps [.time, .free, .mg, .elog, .facets, .cds, .fds, .pds, .dirs, .ctxs, .sems, .arrs, .engines, .topk, .net,
        .txns, .tags] s t) ∧
  (∀ (d : Die) (e : Engine) (x : InFlight) (s : State), nextExec s d (engCode e) 0xF0 = some x →
    absCycle s (d / 8) ≠ x.issue → exec (.sync d e) s = .next s) ∧
  (∀ (d : Die) (e : Engine) (x : InFlight) (s : State), nextExec s d (engCode e) 0xF0 = some x →
    absCycle s (d / 8) = x.issue → s.stored = true →
    ∃ t, exec (.sync d e) s = .next t ∧
      (getEngine t d (engCode e)).fly = (getEngine s d (engCode e)).fly.filter (fun y => y.uid != x.uid) ∧
      (getCtx t x.ctx).retired = (getCtx s x.ctx).retired + 1 ∧
      Keeps [.free, .mg, .elog, .cds, .fds, .pds, .dirs, .ctxs, .sems, .arrs, .engines, .topk, .net, .txns, .tags] s t) ∧
  (∀ (d : Die) (e : Engine) (x : InFlight) (s : State), nextExec s d (engCode e) 0xF1 = some x → s.stored = true →
    ∃ t, exec (.dmemSwap d e) s = .next t ∧ workDone t d (engCode e) x.uid x.issue ∧
      (getCd t d).swapReqs = (getCd s d).swapReqs ++
        (if (getCd s d).pendingSwap then [] else [{ engine := engCode e, uid := x.uid, before := halfWrites s d }]) ∧
      (getCd t d).pendingSwap = (getCd s d).pendingSwap ∧ Keeps [.cds, .engines] s t)

/-! ## Swaps, host writes of descriptor memory, signals (R57, R59, R64 to R68) -/

/-- SWAP_REQUEST, SWAP_CANCEL, SWAP_REQUEST_ACCEPT, HOST_DMEM_WRITE and SIGNAL_ARRIVAL. A host's write is outstanding
at its hub (`hostOpen`) until the die answers it by a package packet (`hostAnswer`); `u` is the state once the facet's clock has come to the
present.
What is sent outside (log 3), the facet's clock (log 12) and that commands of one cycle carry its number (log 90)
are the model's choices. -/
def Obligations.SwapsAndSignals : Prop :=
  (∀ (hd : Hd) (d : Die) (tag : Nat) (s : State), (getCd s d).pendingSwap = true →
    exec (.swapRequest hd d tag) s = .next (hostAnswer hd d tag 0 (hostOpen hd (dmemCtrlAt d) tag s))) ∧
  (∀ (hd : Hd) (d : Die) (tag : Nat) (s : State), (getCd s d).pendingSwap = false → s.stored = true →
    ∃ t, exec (.swapRequest hd d tag) s = .next t ∧
      getCd t d = { getCd s d with swapReqs := (getCd s d).swapReqs ++
        [{ fromHost := true, hd := hd, tag := tag, before := halfWrites s d }] } ∧
      (∃ x ∈ t.txns, x.src = 0x80 + hd ∧ x.owner = .host hd tag ∧ x.reqAddr = dmemCtrlAt d) ∧
      (∀ k : Nat, k ≠ d → getCd t k = getCd s k) ∧ Keeps [.cds, .txns, .tags] s t) ∧
  (∀ (hd : Hd) (d : Die) (tag : Nat) (s u : State), u = syncFacet (d / 8) (hostOpen hd (dmemCtrlAt d) tag s) →
    s.stored = true →
    ∃ v, exec (.swapCancel hd d tag) s = .next (hostAnswer hd d tag 0 v) ∧
      getCd v d = { getCd u d with
        pendingSwap := (getCd u d).pendingSwap && (swapTaken u d || sameCycle u d) } ∧
      (∀ k : Nat, k ≠ d → getCd v k = getCd u k) ∧ Keeps [.cds] u v) ∧
  (∀ (d : Die) (r : SwapReq) (rest : List SwapReq) (s : State), (getCd s d).swapReqs = r :: rest →
    (∃ w ∈ halfWrites s d, w ∈ r.before) → exec (.swapRequestAccept d) s = .next s) ∧
  (∀ (d : Die) (r : SwapReq) (rest : List SwapReq) (s u : State), (getCd s d).swapReqs = r :: rest →
    u = (if r.fromHost then syncFacet (d / 8) s else s) → (∀ w ∈ halfWrites s d, w ∉ r.before) →
    (getCd s d).pendingSwap = false → headerCheck u d (1 - (getCd s d).active) = 0 → s.stored = true →
    ∃ t, exec (.swapRequestAccept d) s = .next t ∧
      getCd t d = { getCd u d with swapReqs := rest, pendingSwap := true, swapHost := r.fromHost, swapAt := u.time,
                                   swapCyc := absCycle u (d / 8) } ∧
      (r.fromHost = true → ∃ v, t = hostAnswer r.hd d r.tag 0 v) ∧
      (∀ k : Nat, k ≠ d → getCd t k = getCd u k) ∧
      Keeps (if r.fromHost then [.mg, .elog, .cds, .fds, .pds, .dirs, .net] else [.cds, .engines]) u t) ∧
  (∀ (d : Die) (r : SwapReq) (rest : List SwapReq) (s u : State), (getCd s d).swapReqs = r :: rest →
    u = syncFacet (d / 8) s → (∀ w ∈ halfWrites s d, w ∉ r.before) → (getCd s d).pendingSwap = false →
    headerCheck u d (1 - (getCd s d).active) ≠ 0 → r.fromHost = true → s.stored = true →
    ∃ v, exec (.swapRequestAccept d) s = .next (hostAnswer r.hd d r.tag 0xA v) ∧
      getCd v d = { getCd u d with swapReqs := rest } ∧ Keeps [.elog, .cds] u v) ∧
  (∀ (hd : Hd) (off tag die half o : Nat) (data : List Byte) (s : State), dmemWhole off data = true →
    region off = .dmem die half o → dmemSealed s die half = false → s.stored = true →
    ∃ v, exec (.hostDmemWrite hd off data tag) s = .next (hostAnswer hd die tag 0 v) ∧
      (∀ a, memGet v a = if off ≤ a ∧ a < off + data.length then data.getD (a - off) 0 else memGet s a) ∧
      Keeps [.time, .free, .elog, .facets, .cds, .mem, .ecc, .sems, .arrs, .txns, .tags] s v) ∧
  (∀ (hd : Hd) (off tag die half o : Nat) (data : List Byte) (s : State), dmemWhole off data = true →
    region off = .dmem die half o → dmemSealed s die half = true →
    ∃ v, exec (.hostDmemWrite hd off data tag) s = .next (hostAnswer hd die tag 6 v) ∧
      Keeps [.mg, .elog, .txns, .tags] s v) ∧
  (∀ (hd : Hd) (off tag : Nat) (data : List Byte) (s : State), dmemWhole off data = false → s.stored = true →
    ∃ t, exec (.hostDmemWrite hd off data tag) s = .next t ∧ t.out.getLast? = some (.hostCpl hd tag 1 []) ∧
      Keeps journaling s t) ∧
  (∀ (d : Die) (sem code value : Nat) (set remote : Bool) (s : State), sem < 512 →
    ticking (getFacet s (d / 8)) = true → s.stored = true →
    ∃ t, exec (.signalArrival d sem set code remote value) s = .next t ∧
      (getCd t d).semEv = (getCd s d).semEv ++
        [{ obj := sem, kind := if set then 0 else 1, code := code, isRemote := remote, value := value }] ∧
      (∀ k : Nat, k ≠ d → getCd t k = getCd s k) ∧ Keeps [.cds] s t) ∧
  (∀ (d : Die) (sem code value : Nat) (set remote : Bool) (s : State), sem < 512 →
    ticking (getFacet s (d / 8)) = false → (getCd s d).semEv = [] → s.stored = true →
    ∃ t, exec (.signalArrival d sem set code remote value) s = .next t ∧
      semGet t d sem = (if set then value % 2 ^ 32 else min (semGet s d sem + value) (2 ^ 32 - 1)) ∧
      (∀ k, k ≠ semKey d sem → tget 0 t.sems k = tget 0 s.sems k) ∧ Keeps [.elog, .cds, .sems] s t)

/-! ## Copy engines' remote forms, fences, collective starts (R264 to R269, R289, R290, R298 to R301) -/

/-- PUT, PUT_FLAG, GET, LOAD and RATOM. `carried` says that the packet is on its way through its optical engine: at a port of the
package network, in the injection buffer of its prism die, in the engine's queue, or sent.
The descriptor executes as one command (log 11), the tag's width and the time of outstanding are log 75, how far a
packet goes in one command is log 109 and the room for responses is log 113: the model's choices. -/
def Obligations.RemoteCopiesInjectMachinePackets : Prop :=
  ∀ (d : Die) (ce : Ce) (c : Instr) (op : Nat), (c, op) ∈ [(Instr.put d ce, 0x90), (.putFlag d ce, 0x91), (.get d ce,
    0x92),
      (.load d ce, 0x93), (.ratom d ce, 0x94)] →
  ∀ (s : State) (x : InFlight), nextExec s d (3 + ce) op = some x → remoteHeld s d x.desc = false → s.stored = true →
    ∃ t, exec c s = .next t ∧
      Keeps (journaling ++ ([.time, .free, .nextUid, .elog, .facets, .cds, .fds, .pds, .oes, .dirs, .ctxs, .mem, .ecc,
        .sems, .arrs, .slots, .streams, .engines, .ubuf, .net, .txns, .tags, .outst, .latches, .fences, .striped, .terms,
        .mtxns] : List Part)) s t ∧
      (let q := x.desc
       let at_ (o : Opnd) (n : Nat) := offset (q.addrAt o n)
       let own (a : Nat) : Prop := region a = .scratch d ∨ region a = .near d
       let mop := if op = 0x92 then 0x21 else if op = 0x93 then 0x22 else if op = 0x94 then 0x23 else 0x20
       (op = 0x92 ∨ op = 0x93 ∨ plainRun s x = true ∧ unhindered s d x = true ∧ x.fresh = true ∧
         ∀ n, n < q.iters → own (at_ q.a n) ∧ region (at_ q.a n + q.unitA - 1) = region (at_ q.a n)) →
       injIdle s → (∀ oe, oe < 24 → passes s mop d oe) → (∀ a, memGet t a = memGet s a) ∧
       workDone t d (3 + ce) x.uid ((remoteEvs x).foldl (fun c e => max c e.cyc) x.issue) ∧
       ∀ k cross, q.iters = 1 → (∀ e ∈ remoteEvs x, e.cyc ≤ x.deadline) → nextDir s (q.remoteNode s) = some (k, cross) →
         let port := portOf s (q.remoteNode s) (tget 0 s.striped (d * 256 + x.ctx))
         let old := decide (op = 0x94) && bit q.imm 3
         ∃ p : Mpk, carried t (6 * port + k) p ∧ p.op = mop ∧ p.ctx = x.ctx ∧ p.gen = x.gen ∧ p.slot = x.slot ∧
           p.dstNode = q.remoteNode s ∧ p.srcNode = nodeId s ∧ p.srcDie = d ∧ p.srcEngine = 3 + ce ∧
           p.tag = tget 0 s.tags (256 + d) ∧ p.epoch = routeEpoch s ∧ p.addr = at_ q.remote 0 ∧ p.tc = 0 ∧ p.port = port ∧
           p.flag = decide (op = 0x91) ∧ p.ret = old ∧ p.sub = (if cross then 1 else 0) ∧
           p.arrEn = (bit q.imm 23 && decide (op ≠ 0x93)) ∧ p.arr = bits q.imm 24 8 ∧
           p.atop = (if op = 0x94 then bits q.imm 0 3 else 0) ∧ p.etype = (if op = 0x94 then q.fmtD else 0) ∧
           p.data = (if op = 0x92 ∨ op = 0x93 then [] else readBytes s (at_ q.a 0) q.unitA) ∧
           (op = 0x92 ∨ op = 0x93 ∨ old = true → ∃ m ∈ t.mtxns, m.tag = p.tag ∧ m.die = d ∧ m.uid = x.uid ∧
             m.dst = (if old then at_ q.b 0 else at_ q.d 0) ∧ m.len = (if old then 32 else q.unitD) ∧
             m.isGet = decide (op = 0x92) ∧ m.isLoad = (decide (op = 0x93) || old)))

/-- FENCE, FENCE_COMPLETE and FENCE_TIMEOUT. A fence is cleared (`clearAt`) when nothing of its slot is outstanding,
in time where that lies before its timeout; of those that are not in time the one with the earliest timeout expires.
The wall counter after a deadline (log 2) and the order of several fences of one slot (log 76) are the model's
choices. -/
def Obligations.FencesArmCompleteAndExpire : Prop :=
  (∀ (d : Die) (ce : Ce) (s : State) (x : InFlight), nextExec s d (3 + ce) 0x95 = some x → s.stored = true →
    ∃ t, exec (.fence d ce) s = .next t ∧
      tget [] t.fences (fenceKey d x.slot) = (tget [] s.fences (fenceKey d x.slot) ++
        ([{ arr := bits x.desc.imm 24 8, since := wall s, timeout := numGet s oFenceTimeout 0, ctx := x.ctx,
            gen := x.gen, desc := x.desc.addr d, half := x.desc.half }] : List Fence)).map (fun (f : Fence) =>
        if outClear s d x.slot = true ∧ f.clearAt = none then { f with clearAt := some (wall s) } else f) ∧
      (∀ k, k ≠ fenceKey d x.slot → tget [] t.fences k = tget [] s.fences k) ∧
      (getEngine t d (3 + ce)).fly = (getEngine s d (3 + ce)).fly.filter (fun y => y.uid != x.uid) ∧
      Keeps [.free, .mg, .elog, .cds, .fds, .pds, .dirs, .ctxs, .sems, .arrs, .engines, .topk, .net, .txns, .tags,
        .fences] s t) ∧
  (∀ (d : Die) (sl : Slot) (s : State), s.stored = true →
    ∃ t, exec (.fenceComplete d sl) s = .next t ∧
      (let k := fenceKey d (slotCode sl)
       let fs := (tget [] s.fences k).filter (fun f => f.clearAt.isSome)
       tget [] t.fences k = (tget [] s.fences k).filter (fun f => f.clearAt.isNone) ∧
       (∀ j, j ≠ k → tget [] t.fences j = tget [] s.fences j) ∧
       ((∀ f ∈ fs, f.inTime = true) → (tget {} s.latches k).status = 0 → ticking (getFacet s (d / 8)) = true →
         (getCd t d).semEv = (getCd s d).semEv ++ fs.map (fun f => { isArr := true, obj := f.arr, kind := 1, value := 1 }) ∧
         Keeps [.cds, .fences] s t) ∧
       (∀ f rest, fs = f :: rest → (∀ g ∈ fs, g.inTime = true) → (tget {} s.latches k).status ≠ 0 →
         tget {} t.latches k = {} ∧
         (f.ctx ≠ 0 → (getCtx s f.ctx).state = 3 → (getCtx s f.ctx).gen = f.gen →
           (getCtx t f.ctx).state = 4 ∧ (getCtx t f.ctx).faults = (getCtx s f.ctx).faults + 1)) ∧
       (∀ f, fs = [f] → f.inTime = false → t.time = max s.time (3 * (f.since + 1000 * f.timeout)) ∧
         numGet t oFabFenceTimeouts 0 = (numGet s oFabFenceTimeouts 0 + 1) % 2 ^ 32 ∧ Keeps (journaling ++
           ([.time, .elog, .ctxs, .fences] : List Part)) s t ∧
         (f.ctx ≠ 0 → (getCtx s f.ctx).state = 3 → (getCtx s f.ctx).gen = f.gen →
           (getCtx t f.ctx).state = 4 ∧ (getCtx t f.ctx).faults = (getCtx s f.ctx).faults + 1))) ∧
      Keeps (journaling ++ ([.time, .free, .elog, .cds, .ctxs, .sems, .arrs, .latches, .fences] : List Part)) s t) ∧
  (∀ (d : Die) (sl : Slot) (s : State), (∀ f ∈ tget [] s.fences (fenceKey d (slotCode sl)), f.inTime = true) →
    exec (.fenceTimeout d sl) s = .next s) ∧
  (∀ (d : Die) (sl : Slot) (s : State), (∃ f ∈ tget [] s.fences (fenceKey d (slotCode sl)), f.inTime = false) →
    s.stored = true →
    ∃ t f, exec (.fenceTimeout d sl) s = .next t ∧ f ∈ tget [] s.fences (fenceKey d (slotCode sl)) ∧ f.inTime = false ∧
      (∀ g ∈ tget [] s.fences (fenceKey d (slotCode sl)), g.inTime = false → f.expiry ≤ g.expiry) ∧
      tget [] t.fences (fenceKey d (slotCode sl)) = (tget [] s.fences (fenceKey d (slotCode sl))).erase f ∧
      (∀ j, j ≠ fenceKey d (slotCode sl) → tget [] t.fences j = tget [] s.fences j) ∧
      t.time = max s.time (3 * (f.since + 1000 * f.timeout)) ∧
      numGet t oFabFenceTimeouts 0 = (numGet s oFabFenceTimeouts 0 + 1) % 2 ^ 32 ∧
      (f.ctx ≠ 0 → (getCtx s f.ctx).state = 3 → (getCtx s f.ctx).gen = f.gen →
        (getCtx t f.ctx).state = 4 ∧ (getCtx t f.ctx).faults = (getCtx s f.ctx).faults + 1) ∧
      Keeps (journaling ++ ([.time, .elog, .ctxs, .fences] : List Part)) s t)

/-- PLAN_LOAD and COLL_START.
Where the spec names no reason (log 78), and that a descriptor executes as one command (log 11), are the model's
choices. -/
def Obligations.CollectivePlansLoadAndStart : Prop :=
  (∀ (d : Die) (ce : Ce) (s : State) (x : InFlight), nextExec s d (3 + ce) 0xA0 = some x → copyHeld s d x.desc = false →
    s.stored = true →
    ∃ t, exec (.planLoad d ce) s = .next t ∧
      (let a := offset (x.desc.addrAt x.desc.a 0)
       let bs := readBytes s a 128
       let p := { Plan.ofBytes bs with ctx := x.ctx, gen := x.gen, coll := bits x.desc.imm 0 12, slot := x.slot }
       plainRun s x = true → unhindered s d x = true → x.issue ≤ x.deadline → region a = .scratch d ∨ region a = .near d →
         s.ctrlTable = [] →
       if planRefused s d x.slot (planClean bs) (bits x.desc.imm 12 3) p = 0 then
         findPlan t p.pd x.ctx p.coll =
           some { p with room := p.inbound.foldl (fun t (n, fl) => tset 0 t (2 * n + fl) p.window) [] } ∧
           findInst t p.pd x.ctx p.coll = none ∧ (injIdle s → workDone t d (3 + ce) x.uid x.issue) ∧
           (∀ q ∈ s.plans, q.is p.pd x.ctx p.coll = false → q ∈ t.plans)
       else t.plans = s.plans ∧ (getStream t d (3 + ce) x.slot).haltWord ≠ 0 ∧
         ∀ y ∈ (getEngine t d (3 + ce)).fly, y.slot ≠ x.slot) ∧
      Keeps (journaling ++ ([.time, .free, .nextUid, .elog, .facets, .cds, .fds, .pds, .oes, .dirs, .ctxs, .mem, .ecc,
        .sems, .arrs, .slots, .streams, .engines, .ubuf, .net, .txns, .tags, .outst, .latches, .fences, .mtxns, .plans,
          .insts, .ctrlTable, .tickIncs, .barrierHold] : List Part)) s t) ∧
  (∀ (d : Die) (ce : Ce) (s : State) (x : InFlight) (p : Plan) (pd coll : Nat), nextExec s d (3 + ce) 0xA1 = some x →
    coll = bits x.desc.imm 0 12 → pd = bits x.desc.imm 12 3 → findPlan s pd x.ctx coll = some p → p.gen = x.gen →
    p.die = d → isRunning s pd x.ctx coll = false → p.aborted = false →
    (s.insts.filter fun i => i.pd == pd && i.doneAt.isNone).length < 64 → p.held = [] → p.early = [] → s.stored = true →
    ∃ t, exec (.collStart d ce) s = .next t ∧
      (findPlan t pd x.ctx coll).map (·.seq) = some ((p.seq + 1) % 65536) ∧
      (p.moves = true → ∃ i, findInst t pd x.ctx coll = some i ∧ i.seq = (p.seq + 1) % 65536 ∧ i.start = wall s ∧
        i.gen = x.gen ∧ i.left = p.sends ∧ i.aborting = fencedNeed s p {} ∧
        (fencedNeed s p {} = true → i.reason = 0xC1) ∧
        i.timeout = (if p.timeout = 0 then numGet s oCollTimeout 0 else p.timeout)) ∧
      (p.moves = true → (getPd t pd).completed =
        (getPd s pd).completed + (if (findInst s pd x.ctx coll).isSome then 1 else 0)) ∧
      (∀ y ∈ (getEngine t d (3 + ce)).fly, y.uid ≠ x.uid) ∧
      Keeps (journaling ++ ([.time, .free, .nextUid, .elog, .facets, .cds, .fds, .pds, .oes, .dirs, .ctxs, .mem, .ecc,
        .sems, .arrs, .slots, .streams, .engines, .topk, .ubuf, .net, .txns, .tags, .outst, .latches, .fences, .mtxns,
          .plans, .insts, .tickIncs, .barrierHold] : List Part)) s t) ∧
  (∀ (d : Die) (ce : Ce) (s : State) (x : InFlight) (pd coll : Nat), nextExec s d (3 + ce) 0xA1 = some x →
    coll = bits x.desc.imm 0 12 → pd = bits x.desc.imm 12 3 →
    (∀ p, findPlan s pd x.ctx coll = some p → p.gen ≠ x.gen ∨ p.die ≠ d ∨ isRunning s pd x.ctx coll = true ∨
      p.aborted = true ∨ 64 ≤ (s.insts.filter fun i => i.pd == pd && i.doneAt.isNone).length) → s.stored = true →
    ∃ t, exec (.collStart d ce) s = .next t ∧ (getStream t d (3 + ce) x.slot).haltWord ≠ 0 ∧
      (∀ y ∈ (getEngine t d (3 + ce)).fly, y.slot ≠ x.slot) ∧ (∀ a, ¬ logged s d a → memGet t a = memGet s a) ∧
      Keeps (journaling ++ ([.time, .free, .elog, .facets, .cds, .ctxs, .mem, .ecc, .sems, .arrs, .slots, .streams,
        .engines] : List Part)) s t)

/-! ## Requests at their home, responses, host and management packets (R57, R99, R104 to R108, R171, R196 to R198) -/

/-- RD: what it answers, and that it changes no memory. A held read waits: `holdHere` advances the clock of a facet
whose near memory it waits for.
The packet is named in full and one in flight erased (log 5), accesses meet those recorded before them (log 11), and
that a held read waits (log 72): the model's choices. -/
def Obligations.ReadsAnswerAtTheirHome : Prop :=
  ∀ (p q : Pkg) (s : State), q = { p with op := 1 } → s.stored = true →
    ∃ t, exec (.rd p) s = .next t ∧
      Keeps (journaling ++ ([.elog, .cds, .fds, .pds, .dirs, .ctxs, .ecc, .slots, .engines, .net] : List Part)) s t ∧
      (isAdmitted s (strapSite q.dst) = true → ctxAccepts s q.ctx q.gen = false →
        t.net = (arrive q s).net ∧ Keeps [.mg, .elog, .fds, .pds, .dirs, .ctxs, .net] s t) ∧
      (isAdmitted s (strapSite q.dst) = false → q.posted = false →
        t.net = (arrive q s).net ++ [answer q 8 []] ∧ Keeps [.mg, .elog, .fds, .pds, .dirs, .net] s t) ∧
      (received s q = true →
        (isMem q.addr = true → notNow s q (32 * q.len) = true → t = holdHere q.addr (32 * q.len) s) ∧
        (isMem q.addr = true → notNow s q (32 * q.len) = false → homeOwns s q (32 * q.len) = false →
          answered s t q 1 []) ∧
        (isMem q.addr = true → notNow s q (32 * q.len) = false → homeOwns s q (32 * q.len) = true →
          let sp := (scratchDie q.addr).isSome
          let die := (scratchDie q.addr).getD 0
          let now := inboundCycle s die q.addr (32 * q.len)
          let chk := ((txnOf s q).map (·.chk)).getD false
          if sp = true ∧ chk = true ∧ readValid s die q.addr (32 * q.len) now = false then answered s t q 9 []
          else if eccBad s q.addr (32 * q.len) = true then answered s t q 2 []
          else answered s t q 0 (if sp = true then spBytes s die q.addr (32 * q.len) now
                                 else readBytes s q.addr (32 * q.len)) ∧
            (sp = true → ∀ sl ∈ ((txnOf s q).map (·.use)).getD [], (tget {} t.slots (slotKey die sl)).valid = false ∨
              (tget {} t.slots (slotKey die sl)).since = now + 1)) ∧
        (∀ c h o, region q.addr = .dmem c h o →
          if h = (getCd s c).active then answered s t q 1 [] else answered s t q 0 (readBytes s q.addr (32 * q.len))) ∧
        (∀ c x, region q.addr = .ctrl c x →
          if ctrlSlotOk x (32 * q.len) q.slot = true ∧ (q.ctx = 0 ∨ slotOn s q.ctx (c / 8) = some q.slot) then
            answered s t q 0 (ctrlRead s c x (32 * q.len))
          else answered s t q 1 []) ∧
        (region q.addr = .hub →
          if q.ctx ≠ 0 ∧ fwFences s q.ctx q.addr (32 * q.len) = true then answered s t q 7 []
          else answered s t q 0 (readBytes s q.addr (32 * q.len))) ∧
        (region q.addr = .none → answered s t q 1 []))

/-- WR: what it writes and answers, each bank word of a scratchpad for itself.
A write waits behind an earlier one of its descriptor, or under PINNED of its
remote source, that has not come (`writeBehind`).
The packet is named in full and one in flight erased (log 5), accesses of one cycle meet those recorded (log 11), the
operand collides, which nothing reads (log 20), and a landing write outside the partition is no counted refusal (log
96): the model's choices. -/
def Obligations.WritesApplyAtTheirHome : Prop :=
  ∀ (p q : Pkg) (collides : Bool) (s : State), q = { p with op := 2 } → s.stored = true →
    ∃ t, exec (.wr p collides) s = .next t ∧
      Keeps (journaling ++ ([.free, .elog, .cds, .fds, .pds, .dirs, .ctxs, .mem, .ecc, .sems, .arrs, .slots, .engines,
        .ubuf, .net] : List Part)) s t ∧
      (let n := q.data.length
       let stored := ∀ a, memGet t a = if q.addr ≤ a ∧ a < q.addr + n then q.data.getD (a - q.addr) 0 else memGet s a
       let same := ∀ a, memGet t a = memGet s a
       (isAdmitted s (strapSite q.dst) = false ∨ ctxAccepts s q.ctx q.gen = false → same) ∧
       (received s q = true → writeBehind s q = true → t = s) ∧
       (received s q = true → writeBehind s q = false →
         (isMem q.addr = true → notNow s q n = true → t = holdHere q.addr n s) ∧
         (isMem q.addr = true → notNow s q n = false → homeOwns s q n = false → same ∧ answered s t q 1 []) ∧
         (isMem q.addr = true → scratchDie q.addr = none → notNow s q n = false → homeOwns s q n = true →
           stored ∧ answered s t q 0 []) ∧
         (∀ die, scratchDie q.addr = some die → notNow s q n = false → homeOwns s q n = true →
           let now := inboundCycle s die q.addr n
           let prod := if q.setValid then ((txnOf s q).map (·.use)).getD (slotSpan q.addr n) else []
           let slots (w : Nat × List Byte) := partSlots prod q.addr n w.1 w.2.length
           let drops (w : Nat × List Byte) : Bool := portAWrites s die w.1 w.2.length now
           let refused (w : Nat × List Byte) : Bool := drops w || !writeClear s die (slots w) now
           (match (wordParts q.addr q.data).find? refused with
            | none => answered s t q 0 []
            | some w => answered s t q (if drops w then 4 else 5) []) ∧
           (∀ w ∈ wordParts q.addr q.data, refused w = true → ∀ b, w.1 ≤ b → b < w.1 + w.2.length →
             memGet t b = memGet s b) ∧
           (∀ w ∈ wordParts q.addr q.data, refused w = false →
             (∀ b, w.1 ≤ b → b < w.1 + w.2.length →
               memGet t b = if lastWrite s die q.addr n (now + 1) b = true then w.2.getD (b - w.1) 0 else memGet s b) ∧
             ∀ sl ∈ slots w, tget {} t.slots (slotKey die sl) = ⟨true, now + 1⟩) ∧
           ∀ b, b < q.addr ∨ q.addr + n ≤ b → memGet t b = memGet s b) ∧
         (∀ c h o, region q.addr = .dmem c h o →
           if dmemSealed s c h = true then same ∧ answered s t q 6 []
           else if q.ctx = 0 ∨ ((slotOn s q.ctx (c / 8)).map (fun sl => inPartition s c h o n sl)).getD false = true then
             (∀ b, b < q.addr ∨ q.addr + n ≤ b → memGet t b = memGet s b) ∧
             (∀ b, memGet t b = memGet (dmemPut c (absCycle s (c / 8)) q.addr q.data s) b) ∧
             ((∀ w ∈ (getCd s c).hostWr, w.1 < absCycle s (c / 8)) → stored) ∧ answered s t q 0 []
           else same ∧ answered s t q 1 []) ∧
         (∀ c x, region q.addr = .ctrl c x → same ∧ answered s t q
           (if (q.ctx = 0 ∨ slotOn s q.ctx (c / 8) = some q.slot) ∧ ctrlSlotOk x n q.slot = true then 0 else 1) []) ∧
         (region q.addr = .hub →
           if q.ctx ≠ 0 ∧ fwFences s q.ctx q.addr n = true then same ∧ answered s t q 7 [] else stored ∧
             answered s t q 0 []) ∧
         (region q.addr = .none → same ∧ answered s t q 1 [])))

/-- AT_ADD, AT_MIN, AT_MAX, AT_SWAP and AT_CAS. The old bytes return where status bit 0 of the packet asks for them. A
bank applies one element in a cycle: where no access meets them, the last element's cycle, in which slots become valid, lies
within 16 of the first.
The packet is named in full and one in flight erased (log 5), an undefined NaN or a tie is a free value (log 6), and
accesses of one cycle meet those recorded (log 11): the model's choices. -/
def Obligations.AtomicsChangeOneLineOrElement : Prop :=
  ∀ (p q : Pkg) (c : Instr) (op : Nat), (c, op) ∈ [(Instr.atAdd p, 0), (.atMin p, 1), (.atMax p, 2), (.atSwap p, 3),
      (.atCas p, 4)] → q = { p with op := 8 + op } →
  ∀ s : State, s.stored = true →
    ∃ t, exec c s = .next t ∧ Keeps (journaling ++ ([.free, .elog, .cds, .fds, .pds, .dirs, .ctxs, .mem, .ecc, .slots,
      .engines, .ubuf, .net] : List Part)) s t ∧
      (let same := ∀ a, memGet t a = memGet s a
       let line := q.addr / 32 * 32
       let sp := (scratchDie q.addr).isSome
       let die := (scratchDie q.addr).getD 0
       let now := inboundCycle s die line 32
       let whole := readBytes s line 32
       let n := if op = 4 then fmtBits q.etype / 8 else 32
       let at_ := if op = 4 then q.addr else line
       let old := if op = 4 then slice whole (q.addr % 32) n else whole
       let back := if q.status % 2 = 1 then old else []
       let prod := if q.setValid && sp then ((txnOf s q).map (·.use)).getD [] else []
       let put (new : List Byte) := ∀ a, memGet t a = if at_ ≤ a ∧ a < at_ + n then new.getD (a - at_) 0 else memGet s a
       let clear := sp = true → spBusy s die inboundRank line 32 now = false
       (isAdmitted s (strapSite q.dst) = false ∨ ctxAccepts s q.ctx q.gen = false → same) ∧
       (received s q = true → writeBehind s q = true → t = s) ∧
       (received s q = true → writeBehind s q = false →
         (isMem q.addr = false → same ∧ answered s t q
           (if region q.addr = .hub ∧ q.ctx ≠ 0 ∧ fwFences s q.ctx q.addr 32 = true then 7 else 1) []) ∧
         (isMem q.addr = true → notNow s q 32 = true → t = holdHere q.addr 32 s) ∧
         (isMem q.addr = true → notNow s q 32 = false → homeOwns s q 1 = false → same ∧ answered s t q 1 []) ∧
         (isMem q.addr = true → notNow s q 32 = false → homeOwns s q 1 = true →
           if writeClear s die prod now = false then same ∧ answered s t q 5 []
           else if atomOk q.addr op q.etype = false then same ∧ answered s t q 3 []
           else if sp = true ∧ portAWrites s die line 32 now = true then clear → same ∧ answered s t q 4 []
           else clear → (sp = true → (getCd s die).acc = []) →
             if eccBad s line 32 = true then (sp = false → same) ∧ answered s t q 2 []
             else answered s t q 0 back ∧
             (∃ c, now ≤ c ∧ c ≤ now + 16 ∧ ∀ sl ∈ prod, tget {} t.slots (slotKey die sl) = ⟨true, c + 1⟩) ∧
             (if op = 4 then (if old = slice q.data 0 n then put (slice q.data 8 n) else same)
              else put (atomLine op q.etype s.free old (slice q.data 0 32)) ∧ t.free = s.free + 1))))

/-- SIG_ADD, SIG_SET and ARR_ADD.
The packet is named in full and one in flight erased (log 5), which is the model's choice. -/
def Obligations.SignalPacketsReachSemaphoresAndCounters : Prop :=
  ∀ (p q : Pkg) (c : Instr) (op lo w : Nat), (c, op, lo, w) ∈ [(Instr.sigAdd p, 4, 0, 4), (.sigSet p, 5, 0, 4),
      (.arrAdd p, 0x2F, 0x1000, 8)] → q = { p with op := op } →
  ∀ s : State, s.stored = true →
    ∃ t, exec c s = .next t ∧ Keeps [.free, .mg, .elog, .cds, .fds, .pds, .dirs, .ctxs, .sems, .arrs, .net] s t ∧
      (isAdmitted s (strapSite q.dst) = true → ctxAccepts s q.ctx q.gen = false → t.net = (arrive q s).net ∧
        Keeps [.mg, .elog, .fds, .pds, .dirs, .ctxs, .net] s t) ∧
      (received s q = true →
        ((∀ die x, region q.addr = .ctrl die x → ¬ (lo ≤ x ∧ x < lo + 0x800)) → answered s t q
          (if op ≠ 0x2F ∧ region q.addr = .hub ∧ q.ctx ≠ 0 ∧ fwFences s q.ctx q.addr 4 = true then 7 else 1) [] ∧
          Keeps [.mg, .elog, .fds, .pds, .dirs, .net] s t) ∧
        (∀ die x, region q.addr = .ctrl die x → lo ≤ x → x < lo + 0x800 → answered s t q 0 [] ∧
          (ticking (getFacet s (die / 8)) = true → (getCd t die).semEv = (getCd s die).semEv ++
            [if op = 0x2F then { isArr := true, obj := (x - lo) / w, kind := 1, isRemote := true,
                                 value := leNat (slice q.data 0 w) }
             else { obj := x / w, kind := if op = 5 then 0 else 1, code := q.srcEngine, isRemote := q.src != die,
                    value := leNat (slice q.data 0 w) }]) ∧
          (ticking (getFacet s (die / 8)) = false → (getCd s die).semEv = [] →
            if op = 0x2F then arrGet t die ((x - lo) / 8) =
              min (arrGet s die ((x - lo) / 8) + leNat (slice q.data 0 8)) (2 ^ 64 - 1)
            else semGet t die (x / 4) = if op = 5 then leNat (slice q.data 0 4)
              else min (semGet s die (x / 4) + leNat (slice q.data 0 4)) (2 ^ 32 - 1))))

/-- RD_RSP, WR_ACK, AT_RSP and a HOST answer go to what waits for them; HOST accesses at a compute die, MGMT
packets, and a reserved operation at a router; and what arriving and sending do to the network.
The packet is named in full and one in flight erased (log 5), completions go to the list out (log 3), accesses meet
those recorded before them (log 11), an answer behind the deadline halts (log 72), and a packet crosses a clear way
within the command that sends it (log 109): the model's choices. -/
def Obligations.ResponsesAndOtherPacketsArrive : Prop :=
  (∀ (p q : Pkg) (c : Instr) (op : Nat), (c, op) ∈ [(Instr.rdRsp p, 0x10), (.wrAck p, 0x11), (.atRsp p, 0x12),
      (.host p, 0x30)] → q = { p with op := op } → (op = 0x30 → q.pclass = 1) →
  ∀ s : State, s.stored = true → isAdmitted s (strapSite q.dst) = true → ctxAccepts s q.ctx q.gen = true →
    (op = 0x30 ∨ answerHeld s q = false) →
    ∃ t, exec c s = .next t ∧
      Keeps (journaling ++ ([.time, .free, .nextUid, .elog, .facets, .cds, .fds, .pds, .oes, .dirs, .ctxs, .mem, .ecc,
        .sems, .arrs, .slots, .streams, .engines, .ubuf, .net, .txns, .tags, .outst, .latches, .fences, .striped, .terms,
          .mtxns, .plans, .insts, .xch] : List Part)) s t ∧
      ((∀ x ∈ s.txns, ¬ (x.src = q.dst ∧ x.tag = q.tag)) → t = arrive q s ∧ Keeps [.mg, .elog, .fds, .pds, .dirs, .net] s t) ∧
      (∀ x, s.txns.find? (fun x => x.src == q.dst && x.tag == q.tag) = some x →
        (∀ hd tag, x.owner = .host hd tag → t.net = (arrive q s).net ∧ t.txns = s.txns.erase x ∧
          t.out = s.out ++ ([.hostCpl hd tag (if q.status = 0 then 0 else 2) (if q.status = 0 then slice q.data 0 x.len else [])] : List Output) ∧
          Keeps [.mg, .elog, .fds, .pds, .dirs, .net, .txns, .out] s t) ∧
        (x.owner = .hub → t.net = (arrive q s).net ∧ t.txns = s.txns.erase x ∧
          Keeps [.mg, .elog, .fds, .pds, .dirs, .net, .txns] s t) ∧
        (∀ id r, x.owner = .term id → s.terms.find? (fun r => r.id == id) = some r →
          t.net = (arrive q s).net ∧ t.txns = s.txns.erase x ∧ Keeps [.mg, .elog, .fds, .pds, .dirs, .net, .txns, .terms] s t ∧
          ∃ r', t.terms.find? (fun r => r.id == id) = some r' ∧ r'.waiting = r.waiting - 1 ∧
            r'.status = (if r.status = 0 then q.status else r.status)) ∧
        (∀ die engine uid y, x.owner = .eng die engine uid → findFly s die engine uid = some y →
          (absCycle s (die / 8) ≤ y.deadline → q.status = 0 → op = 0x11 → x.req ≠ 1 → y.got = [] ∨ 0x82 < y.desc.opcode →
            ∃ z, findFly t die engine uid = some z ∧ z.outstanding = y.outstanding - 1 ∧ z.desc = y.desc) ∧
          (absCycle s (die / 8) ≤ y.deadline → q.status = 0 → op = 0x10 → x.req = 1 → y.desc.opcode = 0x80 →
            y.desc.slotD = false → q.data.length = y.desc.unitD → 0 < y.desc.unitD → y.desc.unitD ≤ 256 → y.got = [] →
            y.nextPut = x.it → putWaits s die engine y = false → unhindered s die { y with issue := absCycle s (die / 8) } = true →
            let a := offset (y.desc.addrAt y.desc.d x.it)
            region a = .scratch die ∨ region a = .near die → region (a + y.desc.unitD - 1) = region a →
            (∀ b, memGet t b = if a ≤ b ∧ b < a + q.data.length then q.data.getD (b - a) 0 else memGet s b) ∧
            ∃ z, findFly t die engine uid = some z ∧ z.outstanding = y.outstanding - 1) ∧
          (absCycle s (die / 8) ≤ y.deadline → q.status ≠ 0 → statusReason q.status y.desc.collHalt ≠ 0 →
            (getStream t die engine y.slot).haltWord ≠ 0 ∧ ∀ z ∈ (getEngine t die engine).fly, z.slot ≠ y.slot)))) ∧
  (∀ (p q : Pkg) (s : State), q = { p with op := 0x30 } → q.pclass ≠ 1 → isAdmitted s (strapSite q.dst) = true →
    ctxAccepts s q.ctx q.gen = true → s.stored = true →
    ∃ t, exec (.host p) s = .next t ∧
      Keeps [.time, .free, .mg, .elog, .facets, .cds, .fds, .pds, .dirs, .mem, .ecc, .sems, .arrs, .net] s t ∧
      (∀ die h o h' o', region q.addr = .dmem die h o → region (q.addr + q.data.length - 1) = .dmem die h' o' → q.data ≠ [] →
        dmemSealed s die h = false → dmemSealed s die h' = false →
        (∃ v, t = hostAnswer (hostTag s q).1 die (hostTag s q).2 0 v ∧ v.net = (arrive q s).net ∧ v.txns = s.txns) ∧
        (∀ b, memGet t b = if q.addr ≤ b ∧
          b < q.addr + q.data.length then q.data.getD (b - q.addr) 0 else memGet s b)) ∧
      (∀ die h o h' o', region q.addr = .dmem die h o → region (q.addr + q.data.length - 1) = .dmem die h' o' → q.data ≠ [] →
        dmemSealed s die h = true ∨ dmemSealed s die h' = true →
        (∃ v, t = hostAnswer (hostTag s q).1 die (hostTag s q).2 6 v ∧ v.net = (arrive q s).net ∧ v.txns = s.txns) ∧
        Keeps [.mg, .elog, .fds, .pds, .dirs, .net] s t) ∧
      (∀ die o, region q.addr = .ctrl die o → q.data = [] → q.posted = false →
        answered s t q 0 (ctrlRead s die o (32 * q.len)) ∧ Keeps [.mg, .elog, .fds, .pds, .dirs, .net] s t) ∧
      (∀ die, region q.addr = .ctrl die 0x2000 → q.data ≠ [] → bit (leNat (slice q.data 0 4)) 2 = true →
        (getCd s die).pendingSwap = false → (getCd t die).swapReqs = (getCd s die).swapReqs ++
          [{ fromHost := true, hd := (hostTag s q).1, tag := (hostTag s q).2,
             before := halfWrites (arrive q s) die }])) ∧
  (∀ (p : Pkg) (s : State), isAdmitted s (strapSite p.dst) = true →
    exec (.mgmt p) s = .next (arrive { p with op := 0x31 } s)) ∧
  (∀ (p : Pkg) (s : State), isAdmitted s (strapSite p.dst) = false →
    ∃ t, exec (.mgmt p) s = .next t ∧ t.net = (arrive { p with op := 0x31 } s).net ∧
      Keeps [.mg, .elog, .fds, .pds, .dirs, .net] s t) ∧
  -- what arriving and sending do to the network
  (∀ (p : Pkg) (s : State), (∀ e ∈ s.dirs, e.2.port = []) → (arrive p s).net = s.net.erase p) ∧
  (∀ (p : Pkg) (s : State), s.stored = true → delivered s p = true → (sendPkg p s).net = s.net ++ [p]) ∧
  (∀ (router : SiteNo) (p : Pkg) (s : State), knownPop p.op = false →
    ∃ t, exec (.pkgReservedOp router p) s = .next t ∧ t.net = (arrive p s).net ∧
      Keeps [.mg, .elog, .fds, .pds, .dirs, .net] s t) ∧
  (∀ (router : SiteNo) (p : Pkg) (s : State), knownPop p.op = true → exec (.pkgReservedOp router p) s = .next s)


/-! ## Matrix arrays and the vector unit (R74 to R97, R116 to R124) -/

/-- MM, MM_X3, MM_C3, MM_C4, MM_SLICE and EW_MUL.
Results the spec leaves open are free values, the same for the same data (log 6); the descriptor executes as one
command (log 11), the running sum of MM_C4 (log 44) is read by inference, and the first unit of EW_MUL (log 97) the start of the running sums at +0 (log 98), the load cycle of a tile's columns (log 120) and the number of a write
for stochastic rounding (log 121) are settled: the model's choices. -/
def Obligations.MatrixArraysExecute : Prop :=
  ∀ (d : Die) (ma : Ma) (c : Instr) (op : Nat), (c, op) ∈ [(Instr.mm d ma, 0x01), (.mmX3 d ma, 0x02), (.mmC3 d ma,
    0x03),
      (.mmC4 d ma, 0x04), (.mmSlice d ma, 0x05), (.ewMul d ma, 0x10)] →
  ∀ (s : State) (x : InFlight), nextExec s d ma op = some x → spHeld s d x.desc = false → fmtOk x.desc = true →
    s.stored = true →
    ∃ t, exec c s = .next t ∧
      (∀ a, ¬ logged s d a → ¬ x.desc.touches x.desc.d x.desc.unitD a → memGet t a = memGet s a) ∧
      Keeps (journaling ++ ([.time, .free, .elog, .facets, .cds, .ctxs, .mem, .ecc, .sems, .arrs, .slots, .streams,
        .engines, .net] : List Part)) s t ∧
      (plainRun s x = true → ∃ fin, workDone t d ma x.uid fin) ∧
      -- a descriptor of one iteration, within its budget: what its D unit holds
      (plainRun s x = true → spClear s d x = true → x.desc.iters = 1 →
        (let q := x.desc
         let A := readBytes s (offset (q.addrAt q.a 0)) q.unitA
         let B := readBytes s (offset (q.addrAt q.b 0)) q.unitB
         let old := if q.accIn then some (elems q.fmtD q.dElems (readBytes s (offset (q.addrAt q.d 0)) q.unitD)) else none
         let D := readBytes t (offset (q.addrAt q.d 0)) q.unitD
         let e := getEngine s d ma
         if op = 0x10 then
           max (x.issue + x.stalls) e.passEnd + 256 ≤ x.deadline →
             D = elemBytes q.fmtD ((List.range 256).map fun k =>
               let p := ((unitVals q.fmtA 256 0 A).getD k zero32).mul ((unitVals q.fmtB 256 0 B).getD k zero32)
               (encVal q.fmtD (q.rnd 0 k) (Config.resultFree 0x10 A B ((old.map fun o => o.getD k 0).getD 0) k)
                 (match old with
                  | some o => (p.add (decVal 0 (o.getD k 0))).r32
                  | none => p)).1)
         else
           streamStart (x.issue + x.stalls) e.lastPass e.passEnd + q.perTile * q.rowT + 255 ≤ x.deadline →
             D = elemBytes q.fmtD (dUnit q (Config.resultFree op A B) 0 (tileResult q A B) old).1 ∧
             -- the array's registers (R74, R76): the tile, also in the shadow registers, and the D unit in the output stage
             (getEngine t d ma).weights = B ∧ (getEngine t d ma).shadow = B ∧ (getEngine t d ma).stage = D))

/-- VADD, VSUB, VMUL, VFMA, VMAX, VMIN, VSELECT; VEXP, VLOG, VRECIP, VRSQRT, VTANH, VSIGMOID, VCVT and VRED.
The results of the special functions within their bound of 2 ulp, and codes the spec leaves open, are free (logs 6
and 48), so is an integer out of INT4's range, which counts as saturated (log 102), and the descriptor executes as
one command (log 11): the model's choices. -/
def Obligations.VectorUnitsComputeConvertAndReduce : Prop :=
  (∀ (d : Die) (c : Instr) (op : Nat), (c, op) ∈ [(Instr.vadd d, 0x40), (.vsub d, 0x41), (.vmul d, 0x42), (.vfma d,
    0x43),
      (.vmax d, 0x44), (.vmin d, 0x45), (.vselect d, 0x46)] →
  ∀ (s : State) (x : InFlight), nextExec s d 2 op = some x → spHeld s d x.desc = false → fmtOk x.desc = true →
    s.stored = true →
    ∃ t, exec c s = .next t ∧
      (∀ a, ¬ logged s d a → ¬ x.desc.touches x.desc.d x.desc.unitD a → memGet t a = memGet s a) ∧
      Keeps (journaling ++ ([.time, .free, .elog, .facets, .cds, .ctxs, .mem, .ecc, .sems, .arrs, .slots, .streams,
        .engines, .net] : List Part)) s t ∧
      (plainRun s x = true → spClear s d x = true → workDone t d 2 x.uid (x.issue + x.stalls + x.desc.vecE + 31)) ∧
      (plainRun s x = true → spClear s d x = true → x.desc.iters = 1 → x.issue + x.stalls + 32 ≤ x.deadline →
        (let q := x.desc
         let dA := offset (q.addrAt q.d 0)
         let bytes := readBytes s (offset (q.addrAt q.a 0)) q.unitA
         let A := elems q.fmtA 256 bytes
         let B := elems q.fmtB 256 (readBytes s (offset (q.addrAt q.b 0)) q.unitB)
         let old := if op = 0x43 ∨ op = 0x46 then some (elems q.fmtD 256 (readBytes s dA q.unitD)) else none
         readBytes t dA q.unitD = elemBytes q.fmtD (vecUnit q (vecFree q s.free 0 bytes) 0 A B old).1))) ∧
  (∀ (d : Die) (c : Instr) (op : Nat), (c, op) ∈ [(Instr.vexp d, 0x48), (.vlog d, 0x49), (.vrecip d, 0x4A),
      (.vrsqrt d, 0x4B), (.vtanh d, 0x4C), (.vsigmoid d, 0x4D), (.vcvt d, 0x50), (.vred d, 0x58)] →
  ∀ (s : State) (x : InFlight), nextExec s d 2 op = some x → spHeld s d x.desc = false → fmtOk x.desc = true →
    s.stored = true →
    ∃ t, exec c s = .next t ∧
      (∀ a, ¬ logged s d a → ¬ x.desc.touches x.desc.d x.desc.unitD a → memGet t a = memGet s a) ∧
      Keeps (journaling ++ ([.time, .free, .elog, .facets, .cds, .ctxs, .mem, .ecc, .sems, .arrs, .slots, .streams,
        .engines, .net] : List Part)) s t ∧
      (plainRun s x = true → spClear s d x = true → workDone t d 2 x.uid (x.issue + x.stalls + x.desc.vecE + 31)) ∧
      (plainRun s x = true → spClear s d x = true → x.desc.iters = 1 →
        x.issue + x.stalls + 32 ≤ x.deadline →
        (let q := x.desc
         let dA := offset (q.addrAt q.d 0)
         let bytes := readBytes s (offset (q.addrAt q.a 0)) q.unitA
         let A := elems q.fmtA 256 bytes
         let old := if op = 0x58 ∧ q.accIn then some (elems q.fmtD 256 (readBytes s dA q.unitD)) else none
         readBytes t dA q.unitD = elemBytes q.fmtD (vecUnit q (vecFree q s.free 0 bytes) 0 A (elems q.fmtB 256 []) old).1)))



/-- VQUANT, VDEQUANT, VSLICE, VHRED, VGATHER and VSCATTER.
Codes the spec leaves open are free (log 6), the descriptor executes as one command (log 11), the exponent of
integers in VQUANT is log 45, the sub-scales of a block with a NaN or an infinity are log 101, the exponent of a
unit that holds one is log 123, and INT4 under MX scaling is log 124: the model's choices. -/
def Obligations.VectorUnitsScaleSliceGatherAndScatter : Prop :=
  ∀ (d : Die) (c : Instr) (op : Nat), (c, op) ∈ [(Instr.vquant d, 0x51), (.vdequant d, 0x52), (.vslice d, 0x53),
      (.vhred d, 0x59), (.vgather d, 0x60), (.vscatter d, 0x61)] →
  ∀ (s : State) (x : InFlight), nextExec s d 2 op = some x → spHeld s d x.desc = false → fmtOk x.desc = true →
    s.stored = true →
    ∃ t, exec c s = .next t ∧
      (∀ a, ¬ logged s d a → ¬ x.desc.touches x.desc.d x.desc.unitD a → (op = 0x53 → ¬ x.desc.touches x.desc.b 4 a) →
        memGet t a = memGet s a) ∧
      Keeps (journaling ++ ([.time, .free, .elog, .facets, .cds, .ctxs, .mem, .ecc, .sems, .arrs, .slots, .streams,
        .engines, .net] : List Part)) s t ∧
      (plainRun s x = true → spClear s d x = true → (op = 0x60 ∨ op = 0x61 → x.desc.iters = 1 ∧
          ∀ b ∈ elems 10 256 (readBytes s (offset (x.desc.addrAt x.desc.b 0)) x.desc.unitB),
            goodIndex x.desc b = true) →
        workDone t d 2 x.uid (x.issue + x.stalls + x.desc.vecE + 31)) ∧
      (plainRun s x = true → spClear s d x = true → x.desc.iters = 1 → x.issue + x.stalls + 32 ≤ x.deadline →
        (let q := x.desc
         let dA := offset (q.addrAt q.d 0)
         let aA := offset (q.addrAt q.a 0)
         let A := readBytes s aA q.unitA
         let D := readBytes t dA q.unitD
         let idx := elems 10 256 (readBytes s (offset (q.addrAt q.b 0)) q.unitB)
         (op = 0x51 → D = (quantUnit q s.free 0 ((elems q.fmtA q.depth A).map (decVal q.fmtA))).1) ∧
         (op = 0x52 → D = elemBytes q.fmtD (((List.range q.depth).zip (unitVals q.fmtA q.depth q.qScale A)).map
           fun e => (putF q (Config.freeAt s.free 0 e.1) 0 e.1 e.2).1)) ∧
         (op = 0x53 → (∀ a, q.touches q.b 4 a → ¬ q.touches q.d q.unitD a) →
           D = (sliceUnit ((elems 11 256 A).map (decFloat 12))).1 ∧
           readBytes t (offset (q.addrAt q.b 0)) 4 =
             leBytes 4 (wrap 32 (sliceExp ((elems 11 256 A).map (decFloat 12))))) ∧
         (op = 0x59 → D = leBytes (fmtBits q.fmtD / 8) (vhredElem q (vecFree q s.free 0 A) 0 (elems q.fmtA 256 A)).1) ∧
         (op = 0x60 → (∀ b ∈ idx, goodIndex q b = true) →
           D = idx.flatMap fun b => readBytes s (aA + b * (fmtBits q.fmtA / 8)) (fmtBits q.fmtA / 8)) ∧
         (op = 0x61 → (∀ b ∈ idx, goodIndex q b = true) → idx.Nodup → ∀ j < 256,
           readBytes t (dA + idx.getD j 0 * (fmtBits q.fmtD / 8)) (fmtBits q.fmtD / 8) =
             leBytes (fmtBits q.fmtD / 8) ((elems q.fmtA 256 A).getD j 0))))

/-! ## Copy engines' local forms, near-bank units (R106, R125, R129 to R158) -/

/-- COPY, FILL and ATOM; NB_LOAD, NB_STORE, NB_MV, NB_REDUCE, NB_AXPY, NB_SCALE, NB_SEARCH and NB_TOPK.
The descriptor executes as one command (log 11), the operand lost, which nothing reads (log 20), and the order of a
row's sums (log 46) are the model's choices. -/
def Obligations.CopyEnginesAndNearBankUnitsExecute : Prop :=
  (∀ (d : Die) (ce : Ce) (lost : List Nat) (c : Instr) (op : Nat), (c, op) ∈ [(Instr.copy d ce lost, 0x80),
      (.fill d ce lost, 0x81), (.atom d ce lost, 0x82)] →
  ∀ (s : State) (x : InFlight), nextExec s d (3 + ce) op = some x → copyHeld s d x.desc = false →
    alignOk x.desc = true →
    s.stored = true →
    ∃ t, exec c s = .next t ∧
      (∀ a, ¬ logged s d a → ¬ x.desc.touches x.desc.d x.desc.unitD a →
        (op = 0x82 ∧ bits x.desc.imm 0 2 = 1 → ¬ x.desc.touches x.desc.b 32 a) → memGet t a = memGet s a) ∧
      Keeps (journaling ++ ([.time, .free, .elog, .facets, .cds, .fds, .pds, .dirs, .ctxs, .mem, .ecc, .sems, .arrs,
        .slots, .streams, .engines, .ubuf, .net, .txns, .tags] : List Part)) s t ∧
      (let q := x.desc
       let at_ (o : Opnd) (n : Nat) := offset (q.addrAt o n)
       let own (a n : Nat) : Prop := (region a = .scratch d ∨ region a = .near d) ∧ region (a + n - 1) = region a
       let swap := bits q.imm 0 2 == 1
       let last := copyCycle x.issue q.unitD (q.iters - 1) (unitParts q.unitD - 1)
       let fin := last + atomSpread d q
       plainRun s x = true → unhindered s d x = true → x.fresh = true → fin ≤ x.deadline →
       (∀ w ∈ s.txns, w.owner ≠ .eng d (3 + ce) x.uid) →
       (∀ n, n < q.iters → own (at_ q.d n) q.unitD) →
       (op = 0x80 ∨ op = 0x82 → ∀ n, n < q.iters → own (at_ q.a n) q.unitA) →
       (op = 0x82 → ∀ n, n < q.iters → atomOk (at_ q.d n) (if swap then 3 else 0) q.fmtD = true ∧
         (swap = true → own (at_ q.b n) 32)) →
       -- iterations of an ATOM at a bank may meet there, so one alone has this end
       (op = 0x82 → q.iters = 1 ∨ ∀ n, n < q.iters → region (at_ q.d n) = .near d) →
       workDone t d (3 + ce) x.uid fin ∧
       (q.iters = 1 →
         (op = 0x80 → readBytes t (at_ q.d 0) q.unitD = readBytes s (at_ q.a 0) q.unitA) ∧
         (op = 0x81 → readBytes t (at_ q.d 0) 32 = (List.range 8).flatMap fun _ => leBytes 4 q.imm) ∧
         (op = 0x82 → swap = false →
           readBytes t (at_ q.d 0) 32 =
             atomLine 0 q.fmtD s.free (readBytes s (at_ q.d 0) 32) (readBytes s (at_ q.a 0) 32)) ∧
         (op = 0x82 → swap = true → readBytes t (at_ q.b 0) 32 = readBytes s (at_ q.d 0) 32 ∧
           (at_ q.b 0 + 32 ≤ at_ q.d 0 ∨ at_ q.d 0 + 32 ≤ at_ q.b 0 → readBytes t (at_ q.d 0) 32 =
             atomLine 3 q.fmtD s.free (readBytes s (at_ q.d 0) 32) (readBytes s (at_ q.a 0) 32)))))) ∧
  (∀ (d : Die) (c : Instr) (op : Nat), (c, op) ∈ [(Instr.nbLoad d, 0xC0), (.nbStore d, 0xC1), (.nbMv d, 0xC8),
      (.nbReduce d, 0xC9), (.nbAxpy d, 0xCA), (.nbScale d, 0xCB), (.nbSearch d, 0xCC), (.nbTopk d, 0xCD)] →
  ∀ (s : State) (x : InFlight), nextExec s d 7 op = some x → spHeld s d x.desc = false → (getCd s d).near = 3 →
    plainRun s x = true → s.stored = true →
    ∃ t fin, exec c s = .next t ∧ workDone t d 7 x.uid fin ∧
      Keeps (journaling ++ ([.time, .free, .elog, .facets, .cds, .fds, .ctxs, .mem, .ecc, .sems, .arrs, .slots,
        .streams, .engines, .topk, .ubuf, .net] : List Part)) s t ∧
      (let q := x.desc
       let at_ (o : Opnd) (n : Nat) := offset (q.addrAt o n)
       let lists (u j : Nat) := (getTop t d x.slot u).lists.getD j []
       -- which bytes may change
       (op = 0xCA ∨ op = 0xCB → ∀ a, (∀ n u k, n < q.iters → u ∈ q.nbUnits → k < q.rows * q.words →
           ¬ (localOff d u (at_ q.d n + 32 * k) ≤ a ∧ a < localOff d u (at_ q.d n + 32 * k) + 32)) →
         memGet t a = memGet s a) ∧
       (op = 0xC0 ∨ op = 0xC1 → ∀ a, ¬ logged s d a → ¬ q.touches q.d q.unitA a → memGet t a = memGet s a) ∧
       (op = 0xCC ∨ op = 0xCD → q.keep = true → ∀ a, memGet t a = memGet s a) ∧
       (op = 0xC0 ∨ op = 0xC1 ∨ op = 0xCA ∨ op = 0xCB ∨ op = 0xC8 ∨ op = 0xC9 → t.topk = s.topk) ∧
       -- a descriptor of one iteration, within its budget
       (q.iters = 1 → fin ≤ x.deadline → spClear s d x = true →
         (let A := readBytes s (at_ q.a 0) q.unitA
          let vec := if q.uses.2.1 then readBytes s (at_ q.b 0) q.unitB else []
          let rows (u w l : Nat) := (List.range w).flatMap fun k => readBytes s (localOff d u (l + 32 * k)) 32
          let vb := q.rowElems * fmtBits q.fmtB / 8
          let out := q.nbUnits.flatMap fun u => (List.range q.rows).flatMap fun i => (List.range q.batch).flatMap fun j =>
            let row := slice (rows u (q.rows * q.words) (at_ q.a 0)) (i * (32 * q.words)) (32 * q.words)
            leBytes 4 (if op = 0xC9 then nbReduce q (u * 65536 + i * 8 + j) row
                       else nbDot q (u * 65536 + i * 8 + j) row (slice vec (j * vb) vb))
          (op = 0xC0 ∨ op = 0xC1 → readBytes t (at_ q.d 0) q.unitA = A) ∧
          (op = 0xC8 ∨ op = 0xC9 → readBytes t (at_ q.d 0) out.length = out ∧
            ∀ a, a < at_ q.d 0 ∨ at_ q.d 0 + out.length ≤ a → memGet t a = memGet s a) ∧
          (op = 0xCC ∨ op = 0xCD → ∀ u ∈ q.nbUnits, ∀ j < q.batch,
            lists u j = (List.range q.rows).foldl
              (nbOffer q (at_ q.a 0) u vec (rows u (q.rows * q.words) (at_ q.a 0)) j)
              ((freshTop s d x u).lists.getD j [])) ∧
          (op = 0xCC ∨ op = 0xCD → q.keep = false →
            readBytes t (at_ q.d 0) (mergedLists t d x.slot q).length = mergedLists t d x.slot q ∧
            ∀ a, a < at_ q.d 0 ∨ at_ q.d 0 + (mergedLists t d x.slot q).length ≤ a → memGet t a = memGet s a)))))


/-! ## Upkeep of the memories (R104, R106, R115, R131, R136 to R142, R168, R174, R176, R179) -/

/-- BANK_ATOMIC, ECC_WRITEBACK, REFRESH_WINDOW_START, REFRESH_DEBT_ACCRUE and ROW_GROUP_REFRESH;
FAR_PRIORITY_WINDOW, FAR_LANE_MARGIN_CHECK, UPDATE_BUFFER_EVICT and FAR_SCRUB.
The wall counter after a deadline (log 2), the operand collides, which nothing reads (log 20), the refresh order
and its log (log 81), the marks of bad words (log 82) and commands counted for the layers (log 107) are the model's
choices. -/
def Obligations.MemoriesCorrectRefreshAndScrub : Prop :=
  (∀ (d : Die) (off etype value : Nat) (swap collides : Bool) (s : State),
    (let at_ := spBase d + off % spSize
     let op := if swap then 3 else 0
     let n := fmtBits etype / 8
     let a := at_ / n * n
     let now := inboundCycle s d a n
     atomOk at_ op etype = true → memReady s at_ = true → eccBad s a n = false → s.stored = true →
     spBusy s d inboundRank a n now = false → portAWrites s d a n now = false →
     ∃ t, exec (.bankAtomic d off swap etype value collides) s = .next t ∧
       (∀ b, memGet t b = if a ≤ b ∧ b < a + n ∧ lastWrite s d a n (now + 1) b = true then
         (leBytes n (atomElem op etype (Config.freeAt s.free 0 0) (leNat (spBytes s d a n now)) (value % 256 ^ n))).getD (b - a) 0
         else memGet s b) ∧ Keeps [.free, .mg, .cds, .mem, .ecc, .engines] s t)) ∧
  (∀ (d : Die) (off etype value : Nat) (swap collides : Bool) (s : State),
    atomOk (spBase d + off % spSize) (if swap then 3 else 0) etype = false →
    ∃ t, exec (.bankAtomic d off swap etype value collides) s = .next t ∧ Keeps [.elog] s t) ∧
  (∀ (d : Die) (off etype value : Nat) (swap collides : Bool) (s : State),
    (let at_ := spBase d + off % spSize
     let n := fmtBits etype / 8
     let a := at_ / n * n
     let now := inboundCycle s d a n
     atomOk at_ (if swap then 3 else 0) etype = true → memReady s at_ = true → s.stored = true →
     spBusy s d inboundRank a n now = false → portAWrites s d a n now = true →
     ∃ t, exec (.bankAtomic d off swap etype value collides) s = .next t ∧ bit (getCd t d).collision 4 = true ∧
       (getCd t d).collision / 2 ^ 50 = slotOf a ∧ Keeps [.free, .mg, .cds] s t)) ∧
  (∀ (d : Die) (off etype value : Nat) (swap collides : Bool) (s : State),
    (let at_ := spBase d + off % spSize
     let n := fmtBits etype / 8
     let a := at_ / n * n
     let now := inboundCycle s d a n
     atomOk at_ (if swap then 3 else 0) etype = true → memReady s at_ = true → eccBad s a n = true → s.stored = true →
     spBusy s d inboundRank a n now = false → portAWrites s d a n now = false →
     ∃ t, exec (.bankAtomic d off swap etype value collides) s = .next t ∧
       numGet t oSpUncorrectable (d + 1) = (numGet s oSpUncorrectable (d + 1) + 1) % 2 ^ 32 ∧ Keeps [.free, .mg, .elog] s t)) ∧
  (∀ (a : Nat) (s : State), tget 0 s.ecc (a / 8) = 1 →
    exec (.eccWriteback a) s = .next { s with ecc := tdel s.ecc (a / 8) }) ∧
  (∀ (f : Facet) (marginal : List (Nat × Nat)) (s : State), ticking (getFacet s f) = true →
    (getFacet s f).refreshOpen = false → s.stored = true →
    ∃ t, exec (.refreshWindowStart f marginal) s = .next t ∧ (getFacet t f).refreshOpen = true ∧
      (getFacet t f).cyc =
        max (getFacet s f).cyc ((getFacet s f).frameCycles - refreshCycles (getFacet s f).frameCycles) ∧
      (∀ d ∈ facetDies f, (getCd s d).near = 3 →
        (∀ g, (getCd s d).recheckPend = some g → bit (getCd t d).spareMap g = true) ∧
        (numGet s oNearRecheck (d + 1) = 1 → (getCd t d).recheckGroup = ((getCd s d).recheckGroup + 1) % 256 ∧
          (getCd t d).cmdSeq = ((getCd s d).cmdSeq + 1) % 4096)) ∧
      Keeps [.time, .free, .mg, .elog, .facets, .cds, .sems, .arrs] s t) ∧
  (∀ (d : Die) (s : State), (getCd s d).near = 3 → s.stored = true →
    ∃ t, exec (.refreshDebtAccrue d) s = .next t ∧
      (let due := (getCd s d).debtAt + debtInterval (getCd s d).band
       getCd t d = { getCd s d with debt := (getCd s d).debt + 1, debtAt := due } ∧
       t.time = max s.time (ceilDiv due 8)) ∧
      ((getCd s d).debt ≠ 4 → t.elog = s.elog ∧ t.mg = s.mg) ∧
      (∀ k : Nat, k ≠ d → getCd t k = getCd s k) ∧ Keeps [.time, .mg, .elog, .cds] s t) ∧
  (∀ (d : Die) (s u : State),
    u = (d.val / 8 :: tickGroup { s with time := max s.time (getCd s d).refreshEnd } (d / 8)).foldl (fun s f => syncFacet f s)
      { s with time := max s.time (getCd s d).refreshEnd } →
    mayRefresh u d = true → s.stored = true →
    ∃ t, exec (.rowGroupRefresh d) s = .next t ∧ (getCd t d).debt = (getCd s d).debt - 1 ∧
      (getCd t d).refreshEnd = u.time + 300 ∧ (getCd s d).refreshEnd ≤ t.time ∧
      (getCd t d).cmdSeq = ((getCd s d).cmdSeq + 1) % 4096 ∧
      Keeps [.time, .free, .mg, .elog, .facets, .cds, .sems, .arrs] s t) ∧
  (∀ (k : Die) (s : State), (getFd s k).state = 3 → s.stored = true →
    ∃ t, exec (.farPriorityWindow k) s = .next t ∧
      getFd t k = { getFd s k with winStart := (getFd s k).winStart + (getFd s k).winLen,
                                   winLen := numGet s oFarPrioWindow (k + 1), winShare := numGet s oFarC0Share (k + 1),
                                   weights := numGet s oFarClassWeights (k + 1), c0Served := 0,
                                   demoted := (((farWaiting s k).filter fun p => p.op == 1 && p.rdClass == 0).filter
                                     fun p => decide (allowance (getFd s k) ≤ (getFd s k).c0Served) ||
                                       (getFd s k).demoted.contains (p.src, p.tag)).map fun p => (p.src, p.tag) } ∧
      (getFd s k).winStart + (getFd s k).winLen ≤ wall t ∧ (∀ j : Nat, j ≠ k → getFd t j = getFd s j) ∧
      Keeps [.time, .fds] s t) ∧
  (∀ (k : Die) (ch : Fin 16) (below : List Nat) (s : State), (getFd s k).state = 3 →
    tget 0 (getFd s k).marginGroup ch ≤ 1 → rising none (getFd s k).marginGroup = true → s.stored = true →
    ∃ t, exec (.farLaneMarginCheck k ch below) s = .next t ∧
      tget 0 (getFd t k).marginGroup ch = 1 - tget 0 (getFd s k).marginGroup ch ∧
      (∀ n ∈ below, n / 36 = 2 * ch + tget 0 (getFd s k).marginGroup ch →
        bit ((blobGet t oFarLanesMarginal (k + 1)).getD (n / 8) 0).toNat (n % 8) = true) ∧
      (∀ j : Nat, j ≠ k → getFd t j = getFd s j) ∧ Keeps [.mg, .elog, .fds] s t) ∧
  (∀ (line : Nat) (s : State), tget 0 s.ubuf line ≠ 0 → s.stored = true →
    ∃ t, exec (.updateBufferEvict line) s = .next t ∧ tget 0 t.ubuf line = 0 ∧
      tget 0 s.ubuf line - 1 + 1000 ≤ wall t ∧ (∀ k, k ≠ line → tget 0 t.ubuf k = tget 0 s.ubuf k) ∧
      Keeps [.time, .ubuf] s t) ∧
  (∀ (k : Die) (s : State), (getFd s k).state = 3 → s.stored = true →
    ∃ t, exec (.farScrub k) s = .next t ∧
      (∀ w, tget 0 t.ecc w =
        if farBase k / 8 ≤ w ∧ w < farBase (k + 1) / 8 ∧ tget 0 s.ecc w = 1 then 0 else tget 0 s.ecc w) ∧
      (getFd s k).scrubAt + numGet s oFarScrubPeriod (k + 1) * 3600000000000 ≤ wall t ∧ (getFd t k).scrubAt = wall t ∧
      Keeps [.time, .mg, .elog, .fds, .ecc] s t)


/-! ## Host dies, their requests, doorbells and exchanges (R213 to R217, R352 to R365) -/

/-- HOST_ADMISSION, HOST_SIDEBAND_TIMEOUT, HOST_RESET, HOST_LINK_LOST and MSIX_HOLDOFF_EXPIRY.
The wall counter after a deadline (log 2), what is sent (log 3) the case of parameters that do not agree
(log 65) and the vendor ID of the configuration (log 130) are the model's choices. -/
def Obligations.HostDiesAreAdmittedResetAndLost : Prop :=
  (∀ (hd : Hd) (modules rate : Nat) (agreed : Bool) (identity : List Byte) (s : State) (strap : Nat), hubUp s = true →
    s.hub.resumed = true → (if hd = 0 then s.hub.hb0Failed else s.hub.hb1Failed) = false →
    (getHost s hd).admitted = false → (getHost s hd).link ≠ 3 →
    strap = (if tget 0 s.straps (98 + hd) = 0 then 0 else admitStatus s [] (98 + hd)) → s.stored = true →
    ∃ t, exec (.hostAdmission hd modules rate agreed identity) s = .next t ∧
      (if strap = 0 ∧ agreed = true ∧ modules ≠ 0 ∧ 16 ≤ rate then
        (getHost t hd).admitted = true ∧ (getHost t hd).link = 2 ∧ (getHost t hd).identity = identity ∧
          (getHost t hd).width = min modules 4 + 256 * min rate 32 ∧ tget 0 t.siteStatus (98 + hd) = 0 ∧
          tget 0 t.admitted (98 + hd) = 1
      else (getHost t hd).admitted = false ∧ (getHost t hd).link = 4 ∧ t.admitted = s.admitted ∧
        tget 0 t.siteStatus (98 + hd) = (if strap ≠ 0 then strap else if agreed = true then 5
          else tget 0 s.siteStatus (98 + hd))) ∧
      t.jrnl.next = s.jrnl.next + (if s.jrnl.closed then 0 else 1) ∧
      Keeps (journaling ++ ([.elog, .siteStatus, .admitted] : List Part)) s t) ∧
  (∀ (hd : Hd) (s : State), hubUp s = true → s.hub.resumed = true → (getHost s hd).admitted = false →
    (getHost s hd).link ≠ 3 → s.stored = true →
    ∃ t, exec (.hostSidebandTimeout hd) s = .next t ∧ tget 0 t.siteStatus (98 + hd) = 1 ∧
      getHost t hd = { getHost s hd with link := 0 } ∧ Keeps [.siteStatus, .hosts] s t) ∧
  (∀ (hd : Hd) (s : State), s.stored = true →
    ∃ t, exec (.hostReset hd) s = .next t ∧ getHost t hd = { getHost s hd with cfg := {}, msixLast := [], msixPend := 0 } ∧
      (∀ k : Nat, k ≠ hd → getHost t k = getHost s k) ∧ Keeps [.hosts] s t) ∧
  (∀ (hd : Hd) (retrained : Bool) (s : State), (getHost s hd).admitted = true → s.stored = true →
    ∃ t, exec (.hostLinkLost hd retrained) s = .next t ∧
      (retrained = true → getHost t hd = { getHost s hd with cfg := {}, msixLast := [], msixPend := 0 } ∧ Keeps [.elog,
        .hosts] s t) ∧
      (retrained = false → (getHost t hd).admitted = false ∧ (getHost t hd).link = 3 ∧ (getHost t hd).cfg = {} ∧
        tget 0 t.admitted (98 + hd) = 0) ∧
      Keeps (journaling ++ ([.elog, .admitted] : List Part)) s t) ∧
  (∀ (hd : Hd) (v : Fin 8) (s : State), s.stored = true →
    ∃ t, exec (.msixHoldoffExpiry hd v) s = .next t ∧
      (bit (getHost s hd).msixPend v = false → t = s) ∧
      (bit (getHost s hd).msixPend v = true → t.out = s.out ++ ([.msix hd v] : List Output) ∧
        bit (getHost t hd).msixPend v = false) ∧
      Keeps [.time, .hosts, .out] s t)

/-- HOST_REQUEST: what no window, no operation and no rate allow is refused, counted,
  and leaves memory as it is; what is
admitted has its effect on exchange memory, or goes to the die.
Buckets and their grain (log 61), the digest recorded (log 64) completions in the list out (log 3) and the room
for responses (log 113) are the model's
choices. -/
def Obligations.HostRequestsPassTheFirewall : Prop :=
  ∀ (hd : Hd) (r : HostReq) (s : State), hubUp s = true → (getHost s hd).admitted = true → s.stored = true →
    ∃ t, exec (.hostRequest hd r) s = .next t ∧ Keeps (journaling ++ ([.elog, .fds, .pds, .dirs, .mem, .ecc, .net, .txns,
      .tags, .xch] : List Part)) s t ∧
      (∀ k, k < 3 → (barOffset hd r.bar r.off = none ∧ k = 0 ∨
          ∃ a, barOffset hd r.bar r.off = some a ∧ (targetRefusal hd a r = some k ∨
            targetRefusal hd a r = none ∧ fwAdmit hd a r s = .error k)) →
        leNat (slice (blobGet t oFwRefused (hd + 1)) (8 * k) 8) =
          (leNat (slice (blobGet s oFwRefused (hd + 1)) (8 * k) 8) + 1) % 2 ^ 64 ∧
        (r.op ≠ .write → t.out.getLast? = some (.hostCpl hd r.tag 1 [])) ∧ Keeps journaling s t) ∧
      (∀ a u, barOffset hd r.bar r.off = some a → targetRefusal hd a r = none → fwAdmit hd a r s = .ok u →
        let n := reqLen r
        (xchBase hd ≤ a → a < xchBase hd + 0x4000000 →
          (r.op = .read → eccBad s a n = false →
            t.out = s.out ++ ([.hostCpl hd r.tag 0 (readBytes s a n)] : List Output) ∧
            Keeps [.hosts, .out] s t) ∧
          (r.op = .write ∨ r.op = .dmwr →
            t.out = s.out ++ (if r.op = .write then [] else [.hostCpl hd r.tag 0 []]) ∧
            (xchLocked s hd (a - xchBase hd) n = true → ∀ b, memGet t b = memGet s b) ∧
            (xchLocked s hd (a - xchBase hd) n = false →
              ∀ b, memGet t b = if a ≤ b ∧ b < a + n then r.data.getD (b - a) 0 else memGet s b)) ∧
          (r.op = .atomic → eccBad s a n = false →
            t.out = s.out ++ ([.hostCpl hd r.tag 0 (readBytes s a n)] : List Output) ∧
            (xchLocked s hd (a - xchBase hd) n = false →
              leNat (readBytes t a n) = atomicValue r.atomic n (leNat (readBytes s a n)) r.data ∧
              ∀ b, b < a ∨ a + n ≤ b → memGet t b = memGet s b))) ∧
        (∀ die, (∃ o, region a = .ctrl die o) ∨ (∃ h o, region a = .dmem die h o) →
          Keeps [.mg, .elog, .fds, .pds, .dirs, .hosts, .net, .txns, .tags, .xch] s t ∧
          let back := if r.op = .read then n else 0
          -- it goes at once where nothing goes before it and the hub has room for its response, and waits elsewhere
          ((getHost s hd).waitReqs = [] → hubRoom s hd back = true →
            (getHost t hd).waitReqs = [] ∧
            ∃ x ∈ t.txns, x.owner = .host hd r.tag ∧ x.src = 0x80 + hd ∧ x.tag = tget 0 s.tags (0x80 + hd) ∧
              x.req = 0x30 ∧ x.reqAddr = a ∧ x.len = back) ∧
          ((getHost s hd).waitReqs = [] → hubRoom s hd back = false → (getHost t hd).waitReqs = [(a, r)])))

/-- FW_TABLE_WRITE, SEM_RING and XCH_TAIL.
The buckets after a new table (log 128), the rest of SEM_RING's
cases (log 65) and that a packet crosses a clear way at once (log 109) are the model's
choices. -/
def Obligations.FirewallTablesAndDoorbells : Prop :=
  (∀ (p : Path) (hd : Hd) (v : List Byte) (s : State), accepts s p oFwTable (hd + 1) v = true → s.stored = true →
    ∃ t, exec (.fwTableWrite p hd v) s = .next t ∧ blobGet t oFwTable (hd + 1) = v ∧ fwTableOk v = true ∧
      (getHost t hd).bucket = [] ∧ (getHost t hd).bucketAt = [] ∧
      (∃ w, t.mg.persist = s.mg.persist ++ [w] ∧ w.key = objKey oFwTable (hd + 1) ∧ w.value = v) ∧
      t.jrnl.next = s.jrnl.next + (if s.jrnl.closed then 0 else 1) ∧ Keeps journaling s t) ∧
  (∀ (hd : Hd) (ctx : Nat) (die : Die) (v : Nat) (s : State), 1 ≤ ctx → ctx ≤ 255 → s.stored = true →
    ∃ t, exec (.semRing hd ctx die v) s = .next t ∧
      (let x := getCtx s ctx
       let sem := v / 2 ^ 32 % 512
       let q : Pkg := { dst := die, src := 0x80 + hd, op := 4, pclass := 3, ctx := ctx, gen := x.gen, len := 1, origin := 2,
                        posted := true, slot := x.slot, addr := ctrlBase die + 4 * sem,
                        data := slice (leBytes 4 (v % 2 ^ 32)) 0 32 }
       if (x.state = 3 ∨ x.state = 4) ∧ bit x.mask (die / 8) = true ∧ objSlot false sem = x.slot then
         t = sendPkg q s ∧ (delivered s q = true → t.net = s.net ++ [q])
       else t.net = s.net ∧
         numGet t oHostDoorbellDrops (hd + 1) = (numGet s oHostDoorbellDrops (hd + 1) + 1) % 2 ^ 32) ∧
      Keeps [.mg, .elog, .fds, .pds, .dirs, .net] s t) ∧
  (∀ (hd : Hd) (ctx v : Nat) (s : State), 1 ≤ ctx → ctx ≤ 255 → s.stored = true →
    ∃ t, exec (.xchTail hd ctx v) s = .next t ∧
      (if (v % 2 ^ 32 + 2 ^ 32 - xchHead s hd ctx) % 2 ^ 32 ≤ 16 then
         xchTail t hd ctx = v % 2 ^ 32 ∧
           ∀ a, a < doorPage hd ctx + 0x100 ∨ doorPage hd ctx + 0x104 ≤ a → memGet t a = memGet s a
       else leNat (slice (blobGet t oHostXchFailed (hd + 1)) 28 4) =
           (leNat (slice (blobGet s oHostXchFailed (hd + 1)) 28 4) + 1) % 2 ^ 32 ∧ Keeps [.mg] s t) ∧
      Keeps [.mg, .mem, .ecc] s t)

/-- EXCHANGE_REQUEST and EXCHANGE_COMPLETE.
AES-256-GCM is an opaque function (log 7), and one exchange at a time for each host die, with one packet
of it on its way (log 87), and the room for responses (log 113): the model's choices. -/
def Obligations.ExchangesRunAndComplete : Prop :=
  (∀ (hd : Hd) (ctx : Nat) (s : State), (∀ x ∈ s.xch, x.hd ≠ hd.val) → (∀ x ∈ s.txns, x.owner ≠ .xch hd) →
    xchNext s hd = some ctx → s.stored = true →
    ∃ t, exec (.exchangeRequest hd ctx) s = .next t ∧ (getHost t hd).xchRotor = ctx % 255 ∧
      (let n := xchHead s hd ctx
       let at_ := xchEntry hd ctx n
       let e := readBytes s at_ 64
       let dir := (e.getD 0 0).toNat
       let len := leNat (slice e 12 4)
       let off := leNat (slice e 8 4)
       let node := leNat (slice e 16 8)
       let first := min (256 - node % 256) len
       let goes : Bool := dir == 1 || hubRoom s hd first
       let refused (status : Nat) : Prop := xchHead t hd ctx = (n + 1) % 2 ^ 32 ∧
         leNat (readBytes t (at_ + 52) 4) = status ∧ t.xch = s.xch ∧ t.net = s.net ∧ t.txns = s.txns ∧
         ∀ a, (a < at_ + 52 ∨ at_ + 56 ≤ a) → (a < doorPage hd ctx + 0x108 ∨ doorPage hd ctx + 0x10C ≤ a) →
           memGet t a = memGet s a
       if xchCheck s hd ctx e ≠ 0 then refused (xchCheck s hd ctx e)
       else if dir = 1 ∧ Config.gcmTag (getKey s ctx).key (slice e 24 12) (xchAad ctx dir len node)
           (readBytes s (xchBase hd + off) len) ≠ slice e 36 16 then refused 2
       else (∃ x, t.xch = s.xch ++ [x] ∧ x.hd = hd.val ∧ x.ctx = ctx ∧ x.entry = n ∧ x.dir = dir ∧ x.off = off ∧
         x.len = len ∧
           x.node = node ∧ x.waiting = xchPieces node len ∧ x.sent = if goes then first else 0) ∧
         -- its first packet, up to the next 256-byte boundary, is on its way; the next one follows its answer
         (goes = true → t.txns.length = s.txns.length + 1 ∧ ∃ q v, t = sendPkg q v ∧ v.net = s.net ∧ v.dirs = s.dirs ∧ q.op = (if dir = 1 then 2 else 1) ∧ q.addr = node ∧
           q.src = 0x80 + hd ∧ q.ctx = ctx ∧ q.gen = (getCtx s ctx).gen ∧ q.len = first / 32 ∧
           q.data = (if dir = 1 then slice (Config.gcmDec (getKey s ctx).key (slice e 24 12)
             (readBytes s (xchBase hd + off) len)) 0 first else [])) ∧
         -- an export waits for room for its first answer at the hub
         (goes = false → t.net = s.net ∧ t.txns = s.txns) ∧ ∀ a, memGet t a = memGet s a) ∧
      Keeps [.mg, .elog, .fds, .pds, .hosts, .dirs, .mem, .ecc, .net, .txns, .tags, .xch, .out] s t) ∧
  (∀ (hd : Hd) (x : XchSt) (s : State), s.xch.find? (fun x => x.hd == hd.val && x.waiting == 0) = some x → x.ctx ≤ 255 →
    x.off + x.len ≤ 0x4000000 → x.dir = 1 ∨ x.dir = 2 →
    s.stored = true →
    ∃ t, exec (.exchangeComplete hd) s = .next t ∧ t.xch = s.xch.filter (fun y => y.hd != hd.val) ∧
      xchHead t hd x.ctx = (xchHead s hd x.ctx + 1) % 2 ^ 32 ∧
      leNat (readBytes t (xchEntry hd x.ctx (xchHead s hd x.ctx) + 52) 4) = (if hasKey s x.ctx then 1 else 3) ∧
      (hasKey s x.ctx = true → x.dir = 2 →
        let iv := sealIv s x.ctx 2
        let key := (getKey s x.ctx).key
        let aad := xchAad x.ctx 2 x.len x.node
        let ct := slice (Config.gcmEnc key iv aad ((List.range x.len).map fun i => tget 0 x.data i)) 0 x.len
        readBytes t (xchBase hd + x.off) x.len = ct ∧
        readBytes t (xchEntry hd x.ctx x.entry + 24) 12 = iv ∧
        readBytes t (xchEntry hd x.ctx x.entry + 36) 16 = slice (Config.gcmTag key iv aad ct) 0 16 ∧
        (getKey t x.ctx).sealCount = (getKey s x.ctx).sealCount + 1) ∧
      (hasKey s x.ctx = true → x.signal = true →
        let q : Pkg := { dst := x.die, src := 0x80 + hd, op := 4, pclass := 3, ctx := x.ctx, gen := x.gen, len := 1,
                         origin := 2, posted := true, slot := (getCtx s x.ctx).slot, addr := ctrlBase x.die + 4 * x.sem,
                         data := leBytes 4 1 }
        (∃ u, t.net = (sendPkg q u).net ∧ u.net = s.net ∧ u.dirs = s.dirs) ∧
          (delivered s q = true → t.net = s.net ++ [q])) ∧
      ((hasKey s x.ctx = false ∨ x.signal = false) → t.net = s.net) ∧
      Keeps [.sec, .mg, .elog, .fds, .pds, .hosts, .dirs, .mem, .ecc, .net, .txns, .xch, .out] s t)

/-! ## The mailbox and contexts (R323 to R345, R359, R360) -/

/-- GO, OBJ_READ and OBJ_WRITE.
GO and the commands as rows of their own (log 66), the cut of a read (log 36) and the answer after the commit (log 37)
are the model's choices. -/
def Obligations.TheMailboxTakesAndAnswersCommands : Prop :=
  (∀ (hd : Hd) (s : State), hostLive s hd = true → s.stored = true →
    ∃ t, exec (.go hd) s = .next t ∧
      ((getHost s hd).busy = true →
        getHost t hd = { getHost s hd with busySeq := (getHost s hd).busySeq ++ [mailSeq s hd] } ∧ Keeps [.hosts] s t) ∧
      ((getHost s hd).busy = false → knownCmd (leNat (readBytes s (mailBase hd) 2)) = true →
        getHost t hd = { getHost s hd with busy := true, cmdSeq := mailSeq s hd } ∧ read32 t (mailBase hd + 0xFFC) = 1 ∧
          Keeps [.hosts, .mem, .ecc] s t) ∧
      ((getHost s hd).busy = false → knownCmd (leNat (readBytes s (mailBase hd) 2)) = false → mailReady s hd = true →
        (getHost t hd).busy = false ∧ read32 t (mailBase hd + 0x800) = mailSeq s hd ∧
          leNat (readBytes t (mailBase hd + 0x804) 2) = 5 ∧ t.jrnl.next = s.jrnl.next + 1) ∧
      onlyMail s t hd ∧ Keeps (journaling ++ ([.mem, .ecc] : List Part)) s t) ∧
  (∀ (hd : Hd) (ix sub : Nat) (s : State), mailReady s hd = true → s.stored = true →
    ∃ t, exec (.objRead hd ix sub) s = .next t ∧
      (let r := objRead s (if hd = 0 then .hd0 else .hd1) ix sub
       mailAnswered s t hd (if 5 ≤ r.1 then 2 else r.1) 0 (r.2.take 2024)) ∧
      onlyMail s t hd ∧ Keeps [.free, .hub, .mg, .elog, .hosts, .mem, .ecc, .out] s t) ∧
  (∀ (hd : Hd) (ix sub : Nat) (s : State), mailLive s hd = true → allRefused s = true → s.stored = true →
    ∃ t, exec (.objRead hd ix sub) s = .next t ∧ mailAnswered s t hd 1 0 [] ∧ onlyMail s t hd ∧
      Keeps [.hub, .mg, .hosts, .mem, .ecc, .out] s t) ∧
  (∀ (hd : Hd) (ix sub st : Nat) (v : List Byte) (s : State),
    st = writeStatus s (if hd = 0 then .hd0 else .hd1) ix sub v → st ≠ 0 → mailReady s hd = true → s.stored = true →
    ∃ t, exec (.objWrite hd ix sub v) s = .next t ∧ mailAnswered s t hd (if 5 ≤ st then 2 else st) s.jrnl.next [] ∧
      onlyMail s t hd ∧ Keeps (journaling ++ ([.sec, .elog, .mem, .ecc] : List Part)) s t) ∧
  (∀ (hd : Hd) (ix sub : Nat) (o : Obj) (v : List Byte) (s : State), findObj ix sub = some o → isCommand o = false →
    o.effect ≠ 1 → isGeometry (objKey ix sub) = false →
    writeStatus s (if hd = 0 then .hd0 else .hd1) ix sub v = 0 → mailReady s hd = true → s.stored = true →
    ∃ t, exec (.objWrite hd ix sub v) s = .next t ∧
      (∃ w, t.mg.pend = s.mg.pend ++ [w] ∧ w.key = objKey ix sub ∧ w.value = maskValue ix v ∧ w.effect = o.effect ∧
        w.seq = s.jrnl.next ∧ w.accepted = wall s) ∧
      (o.persist = true → ∃ w, t.mg.persist = s.mg.persist ++ [w] ∧ w.key = objKey ix sub ∧ w.value = maskValue ix v ∧
        w.seq = s.jrnl.next ∧ w.path = 4 + hd.val) ∧
      t.jrnl.next = s.jrnl.next + 1 ∧
      Keeps (journaling ++ ([.mem, .ecc] : List Part)) s t)

/-- CTX_CREATE, CTX_ASSIGN, CTX_UNASSIGN and CTX_BIND: accepted where the states of R324 and the units of R328 allow it,
refused with no effect on contexts and owners elsewhere.
The reading of idle-frame maps at the acceptance is log 69: the model's choice. -/
def Obligations.ContextsAreCreatedAssignedAndBound : Prop :=
  (∀ (hd : Hd) (s : State), mailReady s hd = true → s.stored = true →
    ∃ t, exec (.ctxCreate hd) s = .next t ∧
      (∀ c, lcState s = 2 → freeCtx s = some c →
        let g := ((getCtx s c).gen + 1) % 256
        getCtx t c = { getCtx s c with state := 1, gen := g } ∧ (∀ k, k ≠ c → getCtx t k = getCtx s k) ∧
          mailAnswered s t hd 0 s.jrnl.next [byte c, byte g]) ∧
      (lcState s ≠ 2 ∨ freeCtx s = none → t.ctxs = s.ctxs ∧ mailAnswered s t hd 1 s.jrnl.next []) ∧
      onlyMail s t hd ∧ Keeps (journaling ++ ([.ctxs, .mem, .ecc] : List Part)) s t) ∧
  (∀ (hd : Hd) (c kind d first count : Nat) (s : State), mailReady s hd = true → s.stored = true →
    ∃ t, exec (.ctxAssign hd c kind d first count) s = .next t ∧
      (let bad := if c = 0 ∨ 255 < c then 2 else if (getCtx s c).state = 0 ∨ 5 ≤ (getCtx s c).state then 1
         else if unitRange kind d first count = false then 2
         else if (unitList first count).any (fun u => owner s kind d u != 0 && owner s kind d u != c) then 1 else 0
       mailAnswered s t hd bad s.jrnl.next [] ∧
       (bad ≠ 0 → t.owner = s.owner ∧ Keeps (journaling ++ ([.mem, .ecc] : List Part)) s t ∧ onlyMail s t hd) ∧
       (bad = 0 → (∀ u ∈ unitList first count, owner t kind d u = c) ∧
         (∀ k, (∀ u ∈ unitList first count, k ≠ ownKey kind d u) → tget 0 t.owner k = tget 0 s.owner k) ∧
         (kind ≠ 0 → onlyMail s t hd) ∧
         (kind = 0 → (getFacet s (d / 8)).state = 2 → ∀ u ∈ unitList first count,
           (if slotDual u then (getCd t d).spDual else (getCd t d).spSingle) ≠ 0))) ∧
      t.ctxs = s.ctxs ∧ Keeps (journaling ++ ([.cds, .owner, .mem, .ecc, .slots] : List Part)) s t) ∧
  (∀ (hd : Hd) (c kind d first count : Nat) (s : State), mailReady s hd = true → s.stored = true →
    ∃ t, exec (.ctxUnassign hd c kind d first count) s = .next t ∧
      (let bad := if c = 0 ∨ 255 < c then 2 else if (getCtx s c).state ≠ 1 then 1
         else if unitRange kind d first count = false then 2
         else if (unitList first count).any (fun u => owner s kind d u != c) then 1 else 0
       mailAnswered s t hd bad s.jrnl.next [] ∧ (bad ≠ 0 → t.owner = s.owner) ∧
       (bad = 0 → (∀ u ∈ unitList first count, owner t kind d u = 256 + c) ∧
         ∀ k, (∀ u ∈ unitList first count, k ≠ ownKey kind d u) → tget 0 t.owner k = tget 0 s.owner k)) ∧
      onlyMail s t hd ∧ Keeps (journaling ++ ([.owner, .mem, .ecc] : List Part)) s t) ∧
  (∀ (hd : Hd) (c mask slot dhd off size : Nat) (maps : List Nat) (s : State), mailReady s hd = true → s.stored = true →
    ∃ t, exec (.ctxBind hd c mask slot dhd off size maps) s = .next t ∧
      (let form := if mask = 0 ∨ 15 < mask ∨ 1 < slot ∨ 1 < dhd then none
         else if slot = 0 then readMaps s hd maps (maskDies mask) else some []
       let bad := if c = 0 ∨ 255 < c then 2 else if (getCtx s c).state ≠ 1 then 1 else if form = none then 2 else 0
       mailAnswered s t hd bad s.jrnl.next [] ∧ (bad ≠ 0 → t.ctxs = s.ctxs ∧ onlyMail s t hd) ∧
       (∀ m, bad = 0 → form = some m → getCtx t c =
           { getCtx s c with state := 2, mask := mask, slot := slot, dumpHd := dhd, dumpOff := off, dumpSize := size,
                             maps := m, bindAt := wall s }) ∧
       (∀ k, k ≠ c → getCtx t k = getCtx s k)) ∧
      Keeps (journaling ++ ([.cds, .ctxs, .mem, .ecc, .slots] : List Part)) s t)

/-- CTX_RESET, CTX_RELEASE, TEARDOWN_RESUME, DRAIN_TIMEOUT, TEARDOWN_CLEAR and UNIT_ZEROING_DONE.
The wall counter after a deadline (log 2), the teardown of an unbound context and its pages (logs 67 and 68) and
what other packets do that go on as its own leave (log 109) are the model's choices. -/
def Obligations.ContextsAreTornDown : Prop :=
  (∀ (hd : Hd) (c dhd off size : Nat) (s : State), mailReady s hd = true → s.stored = true →
    ∃ t, exec (.ctxReset hd c dhd off size) s = .next t ∧
      (let x := getCtx s c
       let bad := if c = 0 ∨ 255 < c then 2 else if ¬ (1 ≤ x.state ∧ x.state ≤ 4) then 1 else if 1 < dhd then 2 else 0
       mailAnswered s t hd bad s.jrnl.next [] ∧ (bad ≠ 0 → t.ctxs = s.ctxs) ∧
       (bad = 0 → (getCtx t c).state = 5 ∧
         (getCtx t c).gen = (if x.state = 1 ∨ x.state = 2 then (x.gen + 1) % 256 else x.gen) ∧
         (∀ y ∈ s.xch, y.ctx = c → y ∉ t.xch) ∧
         ∃ td, (getCtx t c).td = some td ∧ td.step = (if x.state = 3 ∨ x.state = 4 then 3 else 7) ∧ td.release = false ∧
           td.oldGen = x.gen ∧ td.dumpOff = (if size = 0 then x.dumpOff else off) ∧
           td.dumpSize = (if size = 0 then x.dumpSize else size))) ∧
      (∀ k, k ≠ c → getCtx t k = getCtx s k) ∧
      Keeps (journaling ++ ([.elog, .facets, .cds, .ctxs, .mem, .ecc, .engines, .txns, .xch] : List Part)) s t) ∧
  (∀ (hd : Hd) (c : Nat) (s : State), mailReady s hd = true → s.stored = true →
    ∃ t, exec (.ctxRelease hd c) s = .next t ∧
      (let x := getCtx s c
       let old := tearOf s c
       let bad := if c = 0 ∨ 255 < c then 2
         else if x.state = 0 ∨ x.state = 6 ∨ (x.state = 5 ∧ (old.byRelease = true ∨ old.release = true)) then 1 else 0
       mailAnswered s t hd bad s.jrnl.next [] ∧ (bad ≠ 0 → t.ctxs = s.ctxs) ∧
       (bad = 0 → x.state = 5 →
         getCtx t c = { getCtx s c with td := (getCtx s c).td.map fun y => { y with release := true } }) ∧
       (bad = 0 → 1 ≤ x.state → x.state ≤ 4 → (getCtx t c).state = 5 ∧
         ∃ td, (getCtx t c).td = some td ∧ td.step = (if x.state = 3 ∨ x.state = 4 then 3 else 7) ∧
           td.release = true)) ∧
      (∀ k, k ≠ c → getCtx t k = getCtx s k) ∧
      Keeps (journaling ++ ([.elog, .facets, .cds, .ctxs, .mem, .ecc, .engines, .txns, .xch] : List Part)) s t) ∧
  (∀ (c n : Nat) (s : State), atStep s c 3 = true →
    (∀ x ∈ s.txns, x.ctx = c → x.gen = (tearOf s c).oldGen → ∀ d e u, x.owner ≠ .eng d e u) →
    n = dumpSize (maskDies (getCtx s c).mask).length →
    (dumpFlags s c (tearOf s c) = 0 → dumpWaits s (tearOf s c) n = false) → s.stored = true →
    ∃ t, exec (.teardownResume c) s = .next t ∧
      ((getCtx s c).injected = true → (tearOf t c).step = if drainPorts s = [] then 7 else 6) ∧
      (injIdle s → (getCtx s c).injected = false → (tearOf t c).step = 7) ∧
      (getCtx t c).gen = ((getCtx s c).gen + 1) % 256 ∧
      (∀ p ∈ t.plans, p.ctx ≠ c) ∧ (∀ i ∈ t.insts, i.ctx ≠ c) ∧ (∀ x ∈ t.terms, x.req.ctx ≠ c) ∧
      -- other packets that move as its own leave may be answered, and halt streams; with none waiting nothing else moves
      (injIdle s → (∀ x ∈ t.txns, x.ctx ≠ c) ∧ (∀ x ∈ t.mtxns, x.ctx ≠ c) ∧
        (∀ d ∈ maskDies (getCtx s c).mask, ∀ e, e < 8 → getStream t d e (getCtx s c).slot = {}) ∧
        ∀ d, d < 32 → ∀ e, 3 ≤ e → e < 7 → ∀ q ∈ (getEngine t d e).asks, q.1.ctx ≠ c) ∧
      (dumpFlags s c (tearOf s c) ≠ 0 → (tearOf t c).dumpBytes = (tearOf s c).dumpBytes ∧
        (injIdle s → ∀ a, memGet t a = memGet s a)) ∧
      (dumpFlags s c (tearOf s c) = 0 → (tearOf t c).dumpBytes = n ∧
        (let a := xchBase (tearOf s c).dumpHd + (tearOf s c).dumpOff
         readBytes t a 4 = [1, 0, byte c, byte (tearOf s c).oldGen] ∧
         (injIdle s → ∀ b, b < a ∨ a + n ≤ b → memGet t b = memGet s b))) ∧
      Keeps (journaling ++ ([.time, .free, .nextUid, .sec, .elog, .facets, .cds, .fds, .pds, .oes, .dirs, .ctxs, .mem,
        .ecc, .sems, .arrs, .slots, .streams, .engines, .ubuf, .net, .txns, .tags, .outst, .latches, .fences, .terms, .mtxns,
        .plans, .insts, .ctrlTable, .tickIncs, .barrierHold] : List Part)) s t ∧
      (injIdle s → Keeps (journaling ++ ([.free, .nextUid, .sec, .elog, .cds, .fds, .pds, .oes, .dirs, .ctxs, .mem, .ecc,
        .sems, .arrs, .streams, .engines, .net, .txns, .tags, .terms, .mtxns, .plans, .insts, .ctrlTable, .tickIncs,
        .barrierHold] : List Part)) s t)) ∧
  (∀ (c : Nat) (s : State), atStep s c 6 = true → s.stored = true →
    ∃ t, exec (.drainTimeout c) s = .next t ∧
      (tearOf t c) = { tearOf s c with step := 7, missing := (tearOf s c).ports, flags := (tearOf s c).flags + 32 } ∧
      (tearOf s c).drainStart + 15000000 ≤ wall t ∧ Keeps [.time, .elog, .oes, .ctxs] s t) ∧
  (∀ (c : Nat) (s : State), atStep s c 7 = true → (∀ f, f < 4 → (getFacet s f).rstStep ≠ 1) → s.hub.resumed = true →
    s.stored = true →
    ∃ t, exec (.teardownClear c) s = .next t ∧
      (getCtx t c).state = (if (tearOf s c).release = false then 1
        else if s.owner.any (fun e => e.2 == c || e.2 == 256 + c) then 6 else 0) ∧
      (getCtx t c).td = none ∧ (getCtx t c).mask = 0 ∧ (getCtx t c).gen = (getCtx s c).gen ∧
      (getCtx t c).resetRec = resetRecord (tearOf s c) (wall s) ∧
      ((tearOf s c).release = true → getKey t c = {} ∧ ∀ e ∈ t.owner, e.2 ≠ c) ∧
      ((tearOf s c).release = false → t.owner = s.owner ∧ t.sec = s.sec) ∧
      ((tearOf s c).bound = true → ∀ d ∈ maskDies (getCtx s c).mask, ∀ i,
        (if (getCtx s c).slot = 0 then i < 384 else 384 ≤ i ∧ i < 512) → semGet t d i = 0) ∧
      Keeps (journaling ++ ([.free, .sec, .elog, .facets, .cds, .ctxs, .owner, .mem, .ecc, .sems, .arrs, .slots, .topk, .outst,
        .latches, .fences, .striped, .idle] : List Part)) s t) ∧
  (∀ (kind : UnitKind) (d : Die) (u k : Nat) (s : State), k = unitCode kind → 256 ≤ owner s k d u → s.stored = true →
    ∃ t, exec (.unitZeroingDone kind d u) s = .next t ∧ owner t k d u = 0 ∧
      (∀ j, j ≠ ownKey k d u → tget 0 t.owner j = tget 0 s.owner j) ∧
      (∀ a, memGet t a = if unitBase k d u ≤ a ∧ a < unitBase k d u + unitBytes k then 0 else memGet s a) ∧
      Keeps (journaling ++ ([.cds, .ctxs, .owner, .mem, .ecc, .slots] : List Part)) s t)

/-! ## Facet resets and the error log (R346 to R349) -/

/-- FACET_RESET.
What the power cut takes (log 70), the mark of an earlier admission (log 71) and the fault of its contexts (log 67)
are the model's choices. -/
def Obligations.FacetResetsTearDownThenCutPower : Prop :=
  ∀ (p : Path) (f : Facet) (v : Nat) (s : State), accepts s p oFacetReset (f + 1) [byte v] = true → s.stored = true →
    ∃ t, exec (.facetReset p f v) s = .next t ∧ byte v = 1 ∧ (getFacet s f).state ≠ 1 ∧ s.pw.supply = 0 ∧
      ((getFacet s f).rstStep = 1 → Keeps journaling s t) ∧
      ((getFacet s f).rstStep ≠ 1 → (getFacet s f).state ≠ 0 →
        (∃ c, bit (getCtx s c).mask f = true ∧ (getCtx s c).state ≠ 0 ∧ (getCtx s c).state ≠ 6) →
        (getFacet t f).rstStep = 1 ∧ (getFacet t f).state = (getFacet s f).state ∧ (getFacet t f).rstT0 = wall s ∧
        ∀ c, bit (getCtx s c).mask f = true → (getCtx s c).state ≠ 0 → (getCtx s c).state ≠ 6 →
          (getCtx t c).state = 5 ∧ c ∈ (getFacet t f).rstCtxs) ∧
      ((getFacet s f).rstStep ≠ 1 → (getFacet s f).state ≠ 0 → s.mg.pend = [] →
        (∀ c, bit (getCtx s c).mask f = true → (getCtx s c).state = 0 ∨ (getCtx s c).state = 6) →
        (getFacet t f).rstStep = 2 ∧ (getFacet t f).state = 1 ∧ (getFacet t f).offSince = wall s ∧
        (∀ d ∈ facetDies f, getCd t d = {} ∧ getFd t d = { marginal := (getFd s d).marginal } ∧
          ∀ a, nearBase d ≤ a → a < nearBase d + nearSize → memGet t a = 0) ∧
        -- the straps stay latched (R12); no die of the facet is a route end until its links are tested again (R211)
        (∀ x, siteFacet x = some f → tget 0 t.straps x = tget 0 s.straps x ∧ tget 0 t.admitted x ≠ 1)) ∧
      ((getFacet s f).rstStep = 0 → (getFacet s f).state = 0 → s.mg.pend = [] →
        if numGet s oFacetEnable (f + 1) = 1 then (getFacet t f).state = 1 ∧
          ∀ d ∈ facetDies f, (getCd t d).near = 1 ∧ (getFd t d).state = 1
        else Keeps journaling s t) ∧
      Keeps (journaling ++ ([.elog, .facets, .admitted, .held, .cds, .fds, .pds, .oes, .links, .dirs, .ctxs,
        .owner, .mem, .ecc, .sems, .arrs, .slots, .streams, .engines, .topk, .ubuf, .net, .txns, .outst, .latches, .fences,
        .striped, .terms, .mtxns, .plans, .insts, .ctrlTable, .tickIncs, .barrierHold, .idle, .xch] : List Part)) s t

/-- LOG_DELIVERY, LOG_ENTRY_CLOSE and LOG_DROP_POLL.
The wall counter after a deadline (log 2) is the model's choice. -/
def Obligations.ReportsReachTheErrorLog : Prop :=
  (∀ (x : SiteNo) (n k : Nat) (s : State), s.hub.on = true → k = deliverable s x n → k ≠ 0 → s.stored = true →
    ∃ t, exec (.logDelivery x n) s = .next t ∧
      tget [] t.elog.outbox x = (tget [] s.elog.outbox x).drop k ∧ tget 0 t.elog.since x = 0 ∧
      (∀ y : Nat, y ≠ x → tget [] t.elog.outbox y = tget [] s.elog.outbox y) ∧
      (∀ r0 rest r, k = 1 → tget [] s.elog.outbox x = r0 :: rest → r = { r0 with dropped := tget 0 s.elog.since x } →
        (∀ e, s.elog.open_.find? (·.takes r) = some e → t.elog.head = s.elog.head ∧
          t.elog.open_ = s.elog.open_.map (fun y =>
            if y.seq = e.seq then { y with last := r, count := (y.count + 1) % 2 ^ 32 } else y)) ∧
        (s.elog.open_.find? (·.takes r) = none → s.elog.open_.length < 64 → t.elog.head = s.elog.head + 1 ∧
          t.elog.open_ = s.elog.open_ ++ [⟨s.elog.head + 1, r, r, 1, true⟩] ∧
          tget {} t.elog.ring ((s.elog.head + 1) % 4096) = ⟨s.elog.head + 1, r, r, 1, true⟩) ∧
        (s.elog.open_.find? (·.takes r) = none → 64 ≤ s.elog.open_.length → t.elog.head = s.elog.head ∧
          t.elog.waiting = s.elog.waiting ++ [r])) ∧
      Keeps [.hub, .elog, .hosts, .out] s t) ∧
  (∀ (q : Nat) (e : LogEntry) (s : State), s.elog.open_.find? (fun e => e.seq == q) = some e → s.stored = true →
    ∃ t, exec (.logEntryClose q) s = .next t ∧ t.time = max s.time (3 * (e.first.wall + 1000000)) ∧
      (s.elog.waiting = [] → t.elog.open_ = s.elog.open_.filter (fun e => e.seq != q) ∧
        ((tget {} s.elog.ring (q % 4096)).seq = q → q ≠ 0 →
          tget {} t.elog.ring (q % 4096) = { e with isOpen := false }) ∧
        ∀ k, k ≠ q % 4096 → tget {} t.elog.ring k = tget {} s.elog.ring k) ∧
      Keeps [.time, .hub, .elog, .hosts, .out] s t) ∧
  (∀ s : State,
    ∃ t, exec .logDropPoll s = .next t ∧ t.elog.dropsRead = s.elog.drops ∧
      t.elog.overflow = (s.elog.overflow + (List.range 100).foldl
        (fun n k => n + (tget 0 s.elog.drops k - tget 0 s.elog.dropsRead k)) 0) % 2 ^ 64 ∧
      t.elog.ring = s.elog.ring ∧ t.time = max s.time (3 * (s.elog.pollAt + 1000000)) ∧ t.elog.pollAt = wall t ∧
      Keeps [.time, .elog] s t)

/-! ## Lasers and the setup of an optical link (R223 to R225, R232, R236, R253 to R256) -/

/-- LSM_INSERT, LSM_MODULE_READY, LSM_REMOVE, LSM_FAULT, OPT_LSM_ENABLE, OPEN_FIBRE_TIMEOUT, LASER_PROBE and
RX_LIGHT_RETURN.
The wall counter after a deadline (log 2), pin changes in the list out (log 3) and the whole pulse as one command
(log 86) are the model's choices. -/
def Obligations.LaserModulesFeedTheirEngines : Prop :=
  (∀ (m : Lsm) (s : State), s.hub.on = true → (getLsm s m).state = 0 → s.stored = true →
    ∃ t, exec (.lsmInsert m) s = .next t ∧ (getLsm t m).state = (if s.hub.resumed then 2 else 1) ∧
      t.out = s.out ++ (if s.hub.resumed then [.lsm m 2 0] else []) ∧ (∀ k : Nat, k ≠ m → getLsm t k = getLsm s k) ∧
      Keeps [.elog, .lsms, .out] s t) ∧
  (∀ (m : Lsm) (identity : List Byte) (s : State), hubUp s = true → allRefused s = false →
    (getLsm s m).state = 1 ∨ (getLsm s m).state = 2 → s.stored = true →
    ∃ t, exec (.lsmModuleReady m identity) s = .next t ∧ (getLsm t m).state = 3 ∧ (getLsm t m).identity = identity ∧
      (∀ (i : Fin 2) (b : Fin 2), bit (getLsm t m).outputs (2 * i + b) =
        (numGet s oOptLsmEnable (m + 1) == 1 && oeEnabled s (2 * m + i))) ∧
      (∀ i : Fin 2, (getOe t (2 * m + i)).state =
        (if oeEnabled s (2 * m + i) = true ∧ (getOe s (2 * m + i)).state ≠ 0 then 1 else (getOe s (2 * m + i)).state)) ∧
      (∀ k : Nat, k ≠ m → getLsm t k = getLsm s k) ∧ Keeps [.oes, .lsms, .out] s t) ∧
  (∀ (m : Lsm) (s : State), (getLsm s m).state ≠ 0 → s.stored = true →
    ∃ t, exec (.lsmRemove m) s = .next t ∧ getLsm t m = {} ∧
      (∀ i : Fin 2, (getOe t (2 * m + i)).state =
        if (getOe s (2 * m + i)).state = 5 then 1 else (getOe s (2 * m + i)).state) ∧
      (∀ k : Nat, k ≠ 2 * m → k ≠ 2 * m + 1 → getOe t k = getOe s k) ∧ Keeps [.elog, .oes, .lsms] s t) ∧
  (∀ (m : Lsm) (flag : Nat) (s : State), (getLsm s m).state ≠ 0 → s.stored = true →
    ∃ t, exec (.lsmFault m flag) s = .next t ∧
      getLsm t m = { getLsm s m with flags := setBit (getLsm s m).flags flag } ∧ Keeps [.elog, .lsms] s t) ∧
  (∀ (p : Path) (m : Lsm) (v : Nat) (s : State), accepts s p oOptLsmEnable (m + 1) [byte v] = true → s.stored = true →
    ∃ t, exec (.optLsmEnable p m v) s = .next t ∧ numGet t oOptLsmEnable (m + 1) = (byte v).toNat ∧
      (∀ (i : Fin 2) (b : Fin 2), bit (getLsm t m).outputs (2 * i + b) =
        ((getLsm s m).state == 3 && (byte v).toNat == 1 && oeEnabled s (2 * m + i) && !(getOe s (2 * m + i)).feedsOff)) ∧
      (∃ w, t.mg.persist = s.mg.persist ++ [w] ∧ w.key = objKey oOptLsmEnable (m + 1) ∧ w.value = [byte v]) ∧
      (∀ k : Nat, k ≠ m → getLsm t k = getLsm s k) ∧ Keeps (journaling ++ ([.lsms] : List Part)) s t) ∧
  (∀ (e : Oe) (s : State), (getOe s e).state = 2 → (getOe s e).feedsOff = false → s.stored = true →
    ∃ t, exec (.openFibreTimeout e) s = .next t ∧ (getOe t e).feedsOff = true ∧ (getOe t e).probeAt = wall t ∧
      (getOe s e).since + 100000000 ≤ wall t ∧ t.out = s.out ++ ([.lsm (feedModule e) 0 (feedMask e)] : List Output) ∧
      Keeps [.time, .oes, .lsms, .out] s t) ∧
  (∀ (e : Oe) (s : State), (getOe s e).feedsOff = false ∨ mayFeed s e = false →
    exec (.laserProbe e) s = .next s ∧ exec (.rxLightReturn e) s = .next s) ∧
  (∀ (e : Oe) (s : State), (getOe s e).feedsOff = true → mayFeed s e = true → s.stored = true →
    ∃ t, exec (.laserProbe e) s = .next t ∧ (getOe s e).probeAt + 1000000000 ≤ (getOe t e).probeAt ∧
      (getOe t e).feedsOff = true ∧ (getOe t e).probeAt + 2000000 ≤ wall t ∧
      t.out = s.out ++ ([.lsm (feedModule e) 1 (feedMask e), .lsm (feedModule e) 0 (feedMask e)] : List Output) ∧
      Keeps [.time, .oes, .lsms, .out] s t) ∧
  (∀ (e : Oe) (s : State), (getOe s e).feedsOff = true → mayFeed s e = true → s.stored = true →
    ∃ t, exec (.rxLightReturn e) s = .next t ∧ getOe t e = { getOe s e with feedsOff := false } ∧
      t.out = s.out ++ ([.lsm (feedModule e) 1 (feedMask e)] : List Output) ∧ Keeps [.oes, .lsms, .out] s t)

/-- FEEDS_GOOD, FEEDS_LOST, RING_LOCK_DONE, ALIGN_DONE, OPT_SETUP_TIMEOUT, RELOCK_TIMEOUT, DOWN_RETRY and
OPT_LINK_ENABLE. States: 0 OFF, 1 LIGHT, 2 RING_LOCK, 3 ALIGN, 4 KEY_AGREE, 5 ACTIVE, 6 RELOCK, 7 DOWN.
The wall counter after a deadline (log 2), what is sent (log 3), the pairing where a node is unknown (log 83), the
lock of rings in RELOCK as a new one (log 85) the slow causes (log 86) and
the line and frame that carry a message of setup (log 129) are the model's choices. -/
def Obligations.OpticalLinksComeUpAndGoDown : Prop :=
  (∀ (e : Oe) (s : State), (getOe s e).state = 1 → (getLsm s (feedModule e)).state = 3 →
    ((getOe s e).liSeen = false ∨ 2300 ≤ tget 0 (getOe s e).mon 0 ∧ 2300 ≤ tget 0 (getOe s e).mon 1) → s.stored = true →
    ∃ t, exec (.feedsGood e) s = .next t ∧ (getOe t e).align = [] ∧ (getOe t e).state = 2 ∧ (getOe t e).since = wall s ∧
      (getOe t e).txMap = [] ∧ (getOe t e).rxMap = [] ∧ (getOe t e).txFibres = 255 ∧ (getOe t e).rxFibres = 255 ∧
      (∀ k : Nat, k ≠ e → getOe t k = getOe s k) ∧ Keeps [.free, .oes] s t) ∧
  -- a module that is not ready, or a feed read below +23 dBm, is not good (R224)
  (∀ (e : Oe) (s : State), (getLsm s (feedModule e)).state ≠ 3 ∨ (getOe s e).liSeen = true ∧
      (tget 0 (getOe s e).mon 0 < 2300 ∨ tget 0 (getOe s e).mon 1 < 2300) → exec (.feedsGood e) s = .next s) ∧
  (∀ (e : Oe) (s : State), s.stored = true →
    ∃ t, exec (.feedsLost e) s = .next t ∧ ((getOe s e).state ≠ 5 → t = s) ∧
      ((getOe s e).state = 5 → (getOe t e).state = 1 ∧ (getOe t e).since = wall s) ∧
      (∀ k : Nat, k ≠ e → getOe t k = getOe s k) ∧ Keeps [.oes] s t) ∧
  (∀ (e : Oe) (rx : Nat) (s : State), (getOe s e).state = 2 ∨ (getOe s e).state = 6 →
    (∃ k, k < 8 ∧ bit rx k = true ∧ bit (getOe s e).rxFibres k = true) → s.stored = true →
    ∃ t, exec (.ringLockDone e rx) s = .next t ∧ (getOe t e).state = 3 ∧
      (∀ k, k < 8 → bit (getOe t e).rxFibres k = (bit rx k && bit (getOe s e).rxFibres k)) ∧
      -- feeds that open fibre disabled are on again (R225); each message goes at the head of a training lane frame (R236)
      t.out = s.out ++ (if (getOe s e).feedsOff = true ∧ mayFeed s e = true then [.lsm (feedModule e) 1 (feedMask e)] else []) ++
        ([.opt e { type := 0x01, arg := wall s }, .laneFrame e (setupLane e { type := 0x01, arg := wall s } (getOe t e)),
          .opt e (identMsg s e), .laneFrame e (setupLane e (identMsg s e) (getOe t e))] : List Output) ∧
      -- what a peer sent before does not count (R236, R256); from RELOCK the rings have locked anew (R241)
      (getOe t e).peerReport = [] ∧ (getOe t e).peerReportLen = 0 ∧ (getOe t e).identSeen = false ∧ (getOe t e).echoSeen = false ∧
      (getOe t e).rxSaid = (getOe s e).rxSaid ∧
      (∀ f ∈ fibresOf (getOe t e).rxFibres, ∀ k, k < 16 → tget 0 (getOe t e).align (lineKey f k) = 4) ∧
      ((getOe s e).state = 6 → (getOe t e).heater = [] ∧ (getOe t e).lockNo = s.free + 1) ∧
      ((getOe s e).state = 2 → t.free = s.free ∧ t.elog = s.elog) ∧
      (∀ k : Nat, k ≠ e → getOe t k = getOe s k) ∧ Keeps [.free, .elog, .oes, .lsms, .out] s t) ∧
  (∀ (e : Oe) (a : AlignSeen) (s : State), (getOe s e).identSeen = false ∨ (getOe s e).echoSeen = false →
    exec (.alignDone e a) s = .next s) ∧
  (∀ (e : Oe) (a : AlignSeen) (s : State), (getOe s e).state = 3 → (getOe s e).identSeen = true → (getOe s e).echoSeen = true →
    s.stored = true →
    ∃ t, exec (.alignDone e a) s = .next t ∧
      (let o := getOe s e
       let down (cause : Nat) (slow : Bool) : Prop := (getOe t e).state = 7 ∧ (getOe t e).slow = slow ∧
         numGet t (oeObj e oOptDownCause) 0 = cause
       -- what ends ALIGN when its time is over comes too late (R25)
       if o.setupDue ≤ wall s then down 7 false
       else if pairingOk s e o.peerNode o.peerOe = false then down 1 true
       else if 500 < o.lengthM then down 2 false
       else if 200 < a.skewNs then down 3 false
       else if o.session ≠ [] ∧ (o.session.any (· != 0)) = true ∧ o.peerSession = o.session then (getOe t e).state = 5
       else if noLinkKey s = true then down 4 true
       else o.peerReportLen = 0 → (getOe t e).state = 4 ∧ (getOe t e).buffer = [] ∧ (getOe t e).secret = [] ∧
         t.out.length = s.out.length + 22) ∧
      Keeps (sending ++ ([.rnd] : List Part)) s t) ∧
  (∀ (e : Oe) (s : State), (getOe s e).state = 3 ∨ (getOe s e).state = 4 → s.stored = true →
    ∃ t, exec (.optSetupTimeout e) s = .next t ∧ (getOe t e).state = 7 ∧ (getOe t e).slow = false ∧
      numGet t (oeObj e oOptDownCause) 0 = 7 ∧ (getOe s e).setupDue ≤ wall t ∧
      Keeps (journaling ++ ([.time, .elog, .oes, .ctxs] : List Part)) s t) ∧
  -- 100 ms run from the entry to RELOCK until ACTIVE, in ALIGN and KEY_AGREE too (R255)
  (∀ (e : Oe) (s : State), (getOe s e).relockAt = none → exec (.relockTimeout e) s = .next s) ∧
  (∀ (e : Oe) (r : Nat) (s : State), (getOe s e).relockAt = some r → s.stored = true →
    ∃ t, exec (.relockTimeout e) s = .next t ∧ (getOe t e).state = 7 ∧ (getOe t e).slow = false ∧
      (getOe t e).relockAt = none ∧ numGet t (oeObj e oOptDownCause) 0 = 7 ∧ r + 100000000 ≤ wall t ∧
      Keeps (journaling ++ ([.time, .elog, .oes, .ctxs] : List Part)) s t) ∧
  (∀ (e : Oe) (s : State), (getOe s e).state = 7 → s.stored = true →
    ∃ t, exec (.downRetry e) s = .next t ∧ (getOe t e).state = 1 ∧ (getOe t e).since = wall t ∧
      (getOe s e).since + (if (getOe s e).slow then 60000000000 else 1000000000) ≤ wall t ∧
      (∀ k : Nat, k ≠ e → getOe t k = getOe s k) ∧ Keeps [.time, .oes] s t) ∧
  (∀ (p : Path) (e : Oe) (v : Nat) (s : State), accepts s p (oeObj e oOptLinkEnable) 0 [byte v] = true →
    s.stored = true →
    ∃ t, exec (.optLinkEnable p e v) s = .next t ∧ numGet t (oeObj e oOptLinkEnable) 0 = (byte v).toNat ∧
      ((byte v).toNat = 0 → (getOe t e).state = 0) ∧
      ((byte v).toNat ≠ 0 → (getOe t e).state =
        if (getOe s e).state = 0 ∧ facetPowered s (e / 6) = true then 1 else (getOe s e).state) ∧
      (∃ w, t.mg.persist = s.mg.persist ++ [w] ∧ w.key = objKey (oeObj e oOptLinkEnable) 0 ∧ w.value = [byte v]) ∧
      (∀ k : Nat, k ≠ e → getOe t k = getOe s k) ∧ Keeps (journaling ++ ([.oes, .lsms, .ctxs] : List Part)) s t)

/-- PING, ECHO, IDENT, ATTEST_FRAG, KEY_SHARE, KEY_CONFIRM and REFUSE. A message that a received frame holds leaves
`rxMsgs` when it is heard.
The cryptographic functions are opaque (log 7), messages are named in full (logs 5 and 49), a turnaround of 0 and
fragments in order (log 83), the slow retry of a refused link (log 86), and the line
and frame that carry a message of setup (log 129): the model's choices. -/
def Obligations.SetupMessagesAgreeKeys : Prop :=
  (∀ (e : Oe) (m : OptMsg) (s : State), (getOe s e).state = 3 ∨ (getOe s e).state = 4 ∨ (getOe s e).state = 5 →
    s.stored = true →
    ∃ t, exec (.ping e m) s = .next t ∧ Output.opt e { type := 0x02, arg := m.arg, body := leBytes 8 0 } ∈ t.out ∧
      ((getOe s e).state ≠ 5 → getOe t e = { getOe s e with rxMsgs := (getOe s e).rxMsgs.erase m } ∧
        (∀ k : Nat, k ≠ e → getOe t k = getOe s k) ∧ Keeps [.oes, .out] s t) ∧ Keeps [.free, .mg, .elog, .cds, .pds, .oes, .sems, .arrs, .net, .out] s t) ∧
  (∀ (e : Oe) (m : OptMsg) (s : State), (getOe s e).state = 3 → s.stored = true →
    ∃ t, exec (.echo e m) s = .next t ∧ getOe t e =
        { getOe s e with lengthM := (wall s - m.arg - leNat (slice m.body 0 8)) * 10 / 98, echoSeen := true,
                         rxMsgs := (getOe s e).rxMsgs.erase m } ∧
      (∀ k : Nat, k ≠ e → getOe t k = getOe s k) ∧ Keeps [.oes] s t) ∧
  (∀ (e : Oe) (m : OptMsg) (s : State), (getOe s e).state = 3 → s.stored = true →
    ∃ t, exec (.ident e m) s = .next t ∧ getOe t e =
        { getOe s e with peerNode := leNat (slice m.body 0 2), peerOe := leNat (slice m.body 2 1),
                         peerSession := slice m.body 3 16, peerKnown := true, identSeen := true,
                         rxMsgs := (getOe s e).rxMsgs.erase m } ∧
      (∀ k : Nat, k ≠ e → getOe t k = getOe s k) ∧ Keeps [.oes] s t) ∧
  (∀ (e : Oe) (m : OptMsg) (s : State) (off total : Nat), off = m.arg / 2 ^ 32 → total = m.arg % 2 ^ 32 →
    (getOe s e).state = 3 ∨ (getOe s e).state = 4 →
    off = 0 ∨ off = (getOe s e).peerReport.length ∧ total = (getOe s e).peerReportLen → s.stored = true →
    ∃ t, exec (.attestFrag e m) s = .next t ∧
      (getOe t e).peerReport = (if off = 0 then [] else (getOe s e).peerReport) ++ slice m.body 0 (min 48 (total - off)) ∧
      (getOe t e).peerReportLen = total ∧
      (off + 48 < total → (getOe t e).state = (getOe s e).state ∧ Keeps [.oes] s t) ∧
      Keeps (journaling ++ ([.free, .elog, .cds, .pds, .oes, .ctxs, .sems, .arrs, .net] : List Part)) s t) ∧
  (∀ (e : Oe) (m : OptMsg) (sig : List Byte) (s : State), (getOe s e).state = 4 → (getOe s e).sentShare = true →
    (getOe s e).secret = [] → s.stored = true →
    ∃ t, exec (.keyShare e m sig) s = .next t ∧
      (let o := getOe s e
       let pub := slice m.body 0 32
       let salt := Config.sha512 (lowerFirst (256 * nodeId s + e, o.myReport) (256 * o.peerNode + o.peerOe,
         o.peerReport))
       let secret := slice (Config.hkdfExtract salt (Config.x25519 o.priv pub)) 0 64
       let down : Prop := (getOe t e).state = 7 ∧ (getOe t e).slow = true ∧ numGet t (oeObj e oOptDownCause) 0 = 4
       let m2 : OptMsg := { type := 0x42, body := confirmOf secret (nodeId s) e }
       if noLinkKey s = true then down
       else if Config.ed25519Verify (repPub o.peerReport) (pub ++ Config.sha512 o.peerReport) sig = true then
         (getOe t e).secret = secret ∧ (getOe t e).session = slice (Config.sha512 secret) 0 16 ∧
           (getOe t e).sentConfirm = true ∧ (getOe t e).priv = [] ∧
           t.out = s.out ++ ([.opt e m2, .laneFrame e (setupLane e m2 (getOe t e))] : List Output)
       else down) ∧
      Keeps (journaling ++ ([.free, .elog, .cds, .pds, .oes, .ctxs, .sems, .arrs, .net] : List Part)) s t) ∧
  (∀ (e : Oe) (m : OptMsg) (s : State), (getOe s e).state = 4 → (getOe s e).sentConfirm = true → s.stored = true →
    ∃ t, exec (.keyConfirm e m) s = .next t ∧
      (if noLinkKey s = false ∧ slice m.body 0 16 = confirmOf (getOe s e).secret (getOe s e).peerNode (getOe s e).peerOe ∧
          (getOe s e).setupDue ≤ wall s then
        (getOe t e).state = 7 ∧ (getOe t e).slow = false ∧ numGet t (oeObj e oOptDownCause) 0 = 7
      else if noLinkKey s = false ∧ slice m.body 0 16 = confirmOf (getOe s e).secret (getOe s e).peerNode (getOe s e).peerOe then
        (getOe t e).state = 5 ∧ (getOe t e).txEpoch = 1 ∧ (getOe t e).rxEpoch = 1 ∧ (getOe t e).expSeq = 0 ∧
          (getOe t e).rxCount = 0 ∧ numGet t (oeObj e oOptKeyEpoch) 0 = 1
      else (getOe t e).state = 7 ∧ (getOe t e).slow = true ∧ numGet t (oeObj e oOptDownCause) 0 = 4) ∧
      Keeps sending s t) ∧
  (∀ (e : Oe) (m : OptMsg) (s : State), (getOe s e).state = 3 ∨ (getOe s e).state = 4 → s.stored = true →
    ∃ t, exec (.refuse e m) s = .next t ∧ (getOe t e).state = 7 ∧ (getOe t e).slow = true ∧
      numGet t (oeObj e oOptDownCause) 0 = 4 ∧ Keeps (journaling ++ ([.elog, .oes, .ctxs] : List Part)) s t)

/-! ## The optical link at run time (R228 to R252) -/

/-- LANE_FRAME, LINK_FRAME, NAK_REPEAT, OPT_REPLAY_TIMEOUT, KEY_EPOCH_ADVANCE, WIDTH and UNKNOWN_CONTROL_TYPE.
The wall counter after a deadline (log 2), what is sent (log 3), the order of frames and packets (logs 49, 74 and
84) the symbols of a lane frame
(log 114) and the frames that carry messages of setup (log 129) are the model's choices. -/
def Obligations.LinkFramesAreAcceptedReplayedAndRekeyed : Prop :=
  -- SYNC alone aligns a line; a line that is not aligned is not heard (R228)
  (∀ (e : Oe) (f line : Nat) (h : LaneHdr) (errs : Nat × Nat) (s : State), 2 ≤ (getOe s e).state → (getOe s e).state ≠ 7 →
    f < 8 → line < 18 → (getOe s e).wf = true → s.stored = true →
    ∃ t, exec (.laneFrame e f line h errs) s = .next t ∧
      (let n := alignStep (h.sync == 0xC3A5) (tget 0 (getOe s e).align (lineKey f line))
       tget 0 (getOe t e).align (lineKey f line) = n ∧
       ((n < 4 ∨ 12 ≤ n) → (getOe t e).expSeq = (getOe s e).expSeq ∧ t.free = s.free ∧ Keeps [.mg, .elog, .oes] s t))) ∧
  -- with every lane's line lost, the link goes to RELOCK (R235, R254)
  (∀ (e : Oe) (f line : Nat) (h : LaneHdr) (errs : Nat × Nat) (s : State), (getOe s e).state = 5 → f < 8 → line < 18 →
    bit (getOe s e).rxFibres f = true → h.sync ≠ 0xC3A5 → tget 0 (getOe s e).align (lineKey f line) = 11 →
    (∀ lane k, lane < 16 → lineOf (getOe s e).rxMap f lane = some k → k ≠ line → lineLost (getOe s e) f k = true) →
    (getOe s e).wf = true → s.stored = true →
    ∃ t, exec (.laneFrame e f line h errs) s = .next t ∧ (getOe t e).state = 6 ∧ Keeps [.mg, .elog, .oes] s t) ∧
  -- a frame on an aligned line
  (∀ (e : Oe) (f line lane j : Nat) (h : LaneHdr) (errs : Nat × Nat) (s : State), 2 ≤ (getOe s e).state →
    (getOe s e).state ≠ 7 → f < 8 → line < 18 → lineAligned (getOe s e) f line = true → h.sync = 0xC3A5 →
    lane < 16 → lineOf (getOe s e).rxMap f lane = some j → lineLost (getOe s e) f j = false →
    (getOe s e).wf = true → s.stored = true →
    ∃ t, exec (.laneFrame e f line h errs) s = .next t ∧
      (15 < max errs.1 errs.2 →
        numGet t (oeObj e oOptUncorrectable) 0 = (numGet s (oeObj e oOptUncorrectable) 0 + 1) % 2 ^ 64 ∧
        getOe t e = { getOe s e with align := tset 0 (getOe s e).align (lineKey f line) 4 } ∧ Keeps [.mg, .elog, .oes] s t) ∧
      (max errs.1 errs.2 ≤ 15 → h.kind = 0 → h.wave < 18 → h.lane < 16 →
        onLine (getOe t e).rxMap f h.wave = if onLine (getOe s e).rxMap f h.wave = 0xFD then 0xFD else h.lane) ∧
      (∀ rest, max errs.1 errs.2 ≤ 15 → (getOe s e).state = 5 → h.wave = line → h.nak = false →
        dropTo h.ack (getOe s e).buffer = some rest →
        (tget {} (getOe s e).locks (lineKey f line)).stepped = false →
        (getOe s e).queue = [] → (getOe s e).markers = [] → (getOe s e).txTail = [] →
        (getPd s (oePd e)).inject = [] → (getPd s (oePd e)).landed = [] → (∀ x ∈ s.terms, x.pd ≠ oePd e) → 0 < frameRoomBytes (getOe s e).width →
        (getOe t e).buffer = rest ∧ (getOe t e).timeouts = 0 ∧ t.out = s.out) ∧
      Keeps sending s t) ∧
  -- before a session, training lane frames with KEY_EPOCH 0 bring the messages of setup (R236)
  (∀ (e : Oe) (x : LinkFrameRx) (s : State), (getOe s e).state = 3 ∨ (getOe s e).state = 4 → s.stored = true →
    ∃ t, exec (.linkFrame e x) s = .next t ∧
      getOe t e = { getOe s e with rxMsgs := (getOe s e).rxMsgs ++ setupMsgs x } ∧
      (∀ k : Nat, k ≠ e → getOe t k = getOe s k) ∧ Keeps [.oes] s t) ∧
  (∀ (e : Oe) (x : LinkFrameRx) (s : State), (getOe s e).state = 5 → x.lanes.all (fun l => l.hdr.kind != 0) = true →
    exec (.linkFrame e x) s = .next s) ∧
  (∀ (e : Oe) (x : LinkFrameRx) (s : State), (getOe s e).state = 5 → (∃ l ∈ x.lanes, l.hdr.kind = 0) → s.stored = true →
    ∃ t, exec (.linkFrame e x) s = .next t ∧
      (let o := getOe s e
       let n := getOe t e
       if allLanes o x = true ∧ tagsOk o x = true then
         n.expSeq = (o.expSeq + 1) % 65536 ∧ n.rxCount = o.rxCount + 1 ∧ n.tagRun = 0 ∧ n.discarding = false ∧
           t.out = s.out ++ ([.linkFrame e false (idleLanes e false n)] : List Output) ∧
           (let got := readStream 5101 (o.rxTail ++ rxPayload o x)
            n.rxPkts = o.rxPkts ++ got.1 ∧ n.rxMsgs = o.rxMsgs ++ got.2.1 ∧ n.rxTail = got.2.2) ∧
           n.rxFibres = (o.rxFibres &&& o.rxWidth) ∧ n.rxSaid = o.rxWidth ∧ (∀ m, o.rxWidthSeq = some (o.expSeq, m) → n.rxWidthSeq = none) ∧ Keeps [.oes, .out] s t
       else n.expSeq = o.expSeq ∧ n.rxCount = o.rxCount ∧ n.discarding = true ∧ n.rxPkts = o.rxPkts ∧ n.rxMsgs = o.rxMsgs ∧
         (allLanes o x = false → n.tagRun = o.tagRun ∧
           t.out = s.out ++ (if o.discarding then [] else [.linkFrame e false (idleLanes e true o)])) ∧
         (allLanes o x = true → n.tagRun = o.tagRun + 1 ∧
           numGet t (oeObj e oOptTagFails) 0 = (numGet s (oeObj e oOptTagFails) 0 + 1) % 2 ^ 64 ∧
           (o.tagRun = 15 → n.state = 7 ∧ numGet t (oeObj e oOptDownCause) 0 = 5))) ∧
      Keeps (journaling ++ ([.elog, .oes, .ctxs] : List Part)) s t) ∧
  (∀ (e : Oe) (s : State), (getOe s e).state = 5 → (getOe s e).discarding = true → s.stored = true →
    ∃ t, exec (.nakRepeat e) s = .next t ∧
      t.out = s.out ++ ([.linkFrame e false (idleLanes e true (getOe s e))] : List Output) ∧
      (getOe t e).lastNak = wall t ∧ (getOe s e).lastNak + 12000 ≤ wall t ∧ Keeps [.time, .oes, .out] s t) ∧
  (∀ (e : Oe) (s : State), (getOe s e).state = 5 → (getOe s e).buffer ≠ [] → s.stored = true →
    ∃ t, exec (.optReplayTimeout e) s = .next t ∧ (getOe s e).lastProgress + 12000 ≤ wall t ∧
      t.out = s.out ++ (getOe s e).buffer.map (fun x => .linkFrame e true (frameLanes s e x)) ∧
      (getOe t e).buffer = (getOe s e).buffer.map (fun x => { x with resent := x.resent + 1 }) ∧
      ((∀ x ∈ (getOe s e).buffer, x.resent < 7) → (getOe s e).timeouts < 3 →
        (getOe t e).state = 5 ∧ (getOe t e).timeouts = (getOe s e).timeouts + 1) ∧
      (3 ≤ (getOe s e).timeouts → (getOe t e).state = 6) ∧
      ((∃ x ∈ (getOe s e).buffer, 7 ≤ x.resent) → (getOe t e).state = 6) ∧
      Keeps [.time, .mg, .elog, .oes, .out] s t) ∧
  (∀ (e : Oe) (s : State), epochDue (getOe s e) = true → (getOe s e).txEpoch ≠ 0 → s.stored = true →
    ∃ t, exec (.keyEpochAdvance e .tx) s = .next t ∧ (getOe t e).txEpoch = (getOe s e).txEpoch + 1 ∧
      numGet t (oeObj e oOptKeyEpoch) 0 = (getOe s e).txEpoch + 1 ∧
      Keeps sending s t) ∧
  (∀ (e : Oe) (s : State), (getOe s e).rxEpoch ≤ (getOe s e).rxCount / 2 ^ 32 → (getOe s e).rxEpoch ≠ 0 →
    s.stored = true →
    ∃ t, exec (.keyEpochAdvance e .rx) s = .next t ∧
      getOe t e = { getOe s e with rxEpoch := (getOe s e).rxEpoch + 1 } ∧ Keeps [.oes] s t) ∧
  (∀ (e : Oe) (m : OptMsg) (s : State) (mask : Nat), (getOe s e).state = 5 → mask = (m.body.getD 0 0).toNat →
    s.stored = true →
    ∃ t, exec (.width e m) s = .next t ∧
      (if mask = 0 then (getOe t e).state = 7 ∧ numGet t (oeObj e oOptDownCause) 0 = 6
       else if mask = (getOe s e).rxSaid then
         getOe t e = { getOe s e with rxMsgs := (getOe s e).rxMsgs.erase m } ∧ Keeps [.oes] s t
       -- a width said again, for its SEQ, is no change of width
       else (getOe t e).state = (if (getOe s e).rxWidthSeq.map (·.2) = some mask then 5 else 6) ∧
         (getOe t e).rxWidthSeq = some (m.arg % 65536, mask)) ∧
      Keeps (journaling ++ ([.elog, .oes, .ctxs] : List Part)) s t) ∧
  (∀ (e : Oe) (m : OptMsg) (s : State),
    ∃ t, exec (.unknownControlType e m) s = .next t ∧
      (knownType m.type = true → t = hear e m s) ∧ Keeps [.elog, .oes] s t) ∧
  -- every type that the table of R232 does not list is logged and discarded
  (∀ (e : Oe) (m : OptMsg) (s : State), knownType m.type = false → s.stored = true →
    ∃ t, exec (.unknownControlType e m) s = .next t ∧
      getOe t e = { getOe s e with rxMsgs := (getOe s e).rxMsgs.erase m } ∧ (∀ k : Nat, k ≠ e → getOe t k = getOe s k) ∧
      (let waiting := tget [] s.elog.outbox (72 + e)
       if waiting.length < 16 then
         tget [] t.elog.outbox (72 + e) = waiting ++ [{ wall := wall s, event := 0x040C, site := 72 + e, detail := m.type }]
       else tget [] t.elog.outbox (72 + e) = waiting ∧ tget 0 t.elog.drops (72 + e) = tget 0 s.elog.drops (72 + e) + 1) ∧
      (∀ k : Nat, k ≠ 72 + e → tget [] t.elog.outbox k = tget [] s.elog.outbox k) ∧ Keeps [.elog, .oes] s t)

/-- MISLOCK_RELOCK, RING_HOLD_TIMEOUT, TX_RING_UNLOCK_TIMEOUT, LINE_FAILED, URGENT_RECENTRE, LINE_JUDGE_WINDOW,
TX_SUSPECT, MOVE_TO_SPARE and MOVE_BACK. A line shows 0xFD failed, 0xFF idle.
The shift at which a ring locks, the free spectral range and the heater efficiency that are measured (log 85), and
lane moves at their commands (log 86) are the model's choices. -/
def Obligations.LinesFailMoveAndRecentre : Prop :=
  (∀ (e : Oe) (side : Side) (f line : Nat) (verified : Bool) (s : State) (l : LockSt),
    l = tget {} (getOe s e).locks (lockKey (sideIx side) f line) → l.declared = true → f < 8 → line < 18 →
    (∀ u ∈ (getOe s e).urgents, u.2.2.1 < 16) → (getOe s e).wf = true → s.stored = true →
    ∃ t, exec (.mislockRelock e side f line verified) s = .next t ∧
      -- the step, once for each relock
      tget 0 (getOe t e).heater (ringKey (sideIx side) f line) = tget 0 (getOe s e).heater (ringKey (sideIx side) f line) +
        (if l.stepped then 0 else lockStep (getOe s e) (sideIx side) f line l.seen) ∧
      -- a receive ring's relock is verified by 16 of its lane frames, for which it waits
      tget {} (getOe t e).locks (lockKey (sideIx side) f line) =
        (if verified = true then (if side = .tx then {} else if l.stepped then l else { l with stepped := true, good := 0 })
         else if l.fails = 0 then { l with fails := 1, stepped := false, good := 0 } else {}) ∧
      -- a verified relock measures the ring's efficiency anew, and not its FSR (R250)
      (verified = true → side = .tx → tget 0 (getOe t e).meas (512 + ringKey 0 f line) = s.free + 1) ∧
      tget 0 (getOe t e).meas (ringKey (sideIx side) f line) = tget 0 (getOe s e).meas (ringKey (sideIx side) f line) ∧
      (verified = false → l.fails ≠ 0 → side = .rx → onLine (getOe t e).rxMap f line = 0xFD) ∧
      (verified = false → l.fails ≠ 0 → side = .tx → txOn t e f line = 0xFD) ∧
      Keeps (journaling ++ ([.free, .elog, .cds, .pds, .oes, .ctxs, .sems, .arrs, .net] : List Part)) s t) ∧
  (∀ (e : Oe) (side : Side) (f line : Nat) (s : State), s.stored = true →
    ∃ t, exec (.ringHoldTimeout e side f line) s = .next t ∧
      tget 0 (getOe t e).ringHold (ringKey (sideIx side) f line) = wall s + 1 ∧
      (∀ k : Nat, k ≠ e → getOe t k = getOe s k) ∧ Keeps [.oes] s t) ∧
  (∀ (e : Oe) (m : OptMsg) (c : Instr), c ∈ [Instr.txRingUnlockTimeout e m.fibre m.line, .lineFailed e m] →
    ∀ s : State, (getOe s e).state = 5 → m.fibre < 8 → m.line < 18 → txOn s e m.fibre m.line ≠ 0xFD →
    (∀ u ∈ (getOe s e).urgents, u.2.2.1 < 16) → (getOe s e).wf = true → s.stored = true →
    ∃ t, exec c s = .next t ∧ txOn t e m.fibre m.line = 0xFD ∧
      (∀ k, txOn s e m.fibre m.line < 16 → (calOf s e m.fibre).running = false →
        freeSpare (getOe s e).txMap m.fibre [17, 16] = some k → txOn t e m.fibre k = txOn s e m.fibre m.line ∧
          (getOe t e).state = 5) ∧
      Keeps (journaling ++ ([.free, .elog, .cds, .pds, .oes, .ctxs, .sems, .arrs, .net] : List Part)) s t) ∧
  (∀ (e : Oe) (side : Side) (f line : Nat) (s : State), 60 ≤ headroom (getOe s e) (sideIx side) f line →
    exec (.urgentRecentre e side f line) s = .next s) ∧
  (∀ (e : Oe) (side : Side) (f line : Nat) (s : State), (getOe s e).state = 5 → f < 8 → line < 18 →
    headroom (getOe s e) (sideIx side) f line < 60 → (getOe s e).wf = true → s.stored = true →
    ∃ t, exec (.urgentRecentre e side f line) s = .next t ∧
      tget 0 (getOe t e).heater (ringKey (sideIx side) f line) = tget 0 (getOe s e).heater (ringKey (sideIx side) f line) +
        (if heaterAt (getOe s e) (sideIx side) f line < 2400 then ringFsr (getOe s e) (sideIx side) f line
         else -ringFsr (getOe s e) (sideIx side) f line) ∧
      numGet t (oeObj e oOptRecentres) 0 = (numGet s (oeObj e oOptRecentres) 0 + 1) % 2 ^ 32 ∧
      (∀ k, side = .tx → txOn s e f line < 16 → freeSpare (getOe s e).txMap f [17, 16] = some k →
        txOn t e f k = txOn s e f line ∧ txOn t e f line = 0xFF) ∧
      (side = .rx → onLine (getOe s e).rxMap f line < 16 →
        Output.opt e { type := 0x10, fibre := f, lane := onLine (getOe s e).rxMap f line } ∈ t.out) ∧
      Keeps [.free, .mg, .elog, .cds, .pds, .oes, .sems, .arrs, .net, .out] s t) ∧
  (∀ (e : Oe) (x : LineSeen) (s : State), (getOe s e).state = 5 → x.fibre < 8 → x.line < 18 → x.dark = false →
    s.stored = true →
    ∃ t, exec (.lineJudgeWindow e [x]) s = .next t ∧
      (lineFails (getOe s e) (wall s) x = true → onLine (getOe t e).rxMap x.fibre x.line = 0xFD) ∧
      (lineFails (getOe s e) (wall s) x = false → (getOe t e).rxMap = (getOe s e).rxMap ∧ t.out = s.out) ∧
      (lineFails (getOe s e) (wall s) x = true → onLine (getOe s e).rxMap x.fibre x.line ≠ 0xFD →
        Output.opt e { type := 0x12, fibre := x.fibre, line := x.line } ∈ t.out) ∧
      Keeps [.free, .mg, .elog, .cds, .pds, .oes, .sems, .arrs, .net, .out] s t) ∧
  (∀ (e : Oe) (m : OptMsg) (s : State), (getOe s e).state = 5 → m.fibre < 8 → m.line < 18 → m.arg < 18 →
    (tget {} (getOe s e).locks (lockKey 0 m.fibre m.line)).declared = false → s.stored = true →
    ∃ t, exec (.txSuspect e m) s = .next t ∧
      (tget {} (getOe t e).locks (lockKey 0 m.fibre m.line)).declared = true ∧
      (tget {} (getOe t e).locks (lockKey 0 m.fibre m.line)).seen = m.arg ∧
      numGet t (oeObj e oOptMislocks) 0 = (numGet s (oeObj e oOptMislocks) 0 + 1) % 2 ^ 32 ∧
      Keeps [.mg, .elog, .oes] s t) ∧
  (∀ (e : Oe) (m : OptMsg) (j k : Nat) (s : State), (getOe s e).state = 5 → m.fibre < 8 → m.lane < 16 →
    lineOf (getOe s e).txMap m.fibre m.lane = some j → j < 16 → freeSpare (getOe s e).txMap m.fibre [17, 16] = some k →
    (getOe s e).wf = true → s.stored = true →
    ∃ t, exec (.moveToSpare e m) s = .next t ∧ txOn t e m.fibre k = m.lane ∧ txOn t e m.fibre j = 0xFF ∧
      (∀ i, i ≠ j → i ≠ k → i < 18 → txOn t e m.fibre i = txOn s e m.fibre i) ∧ Keeps [.elog, .oes] s t) ∧
  (∀ (e : Oe) (m : OptMsg) (j : Nat) (s : State), (getOe s e).state = 5 → m.fibre < 8 → m.lane < 16 →
    txOn s e m.fibre m.lane = 0xFF → lineOf (getOe s e).txMap m.fibre m.lane = some j → (getOe s e).wf = true →
    s.stored = true →
    ∃ t, exec (.moveBack e m) s = .next t ∧ txOn t e m.fibre m.lane = m.lane ∧ txOn t e m.fibre j = 0xFF ∧
      (∀ i, i ≠ j → i ≠ m.lane → i < 18 → txOn t e m.fibre i = txOn s e m.fibre i) ∧ Keeps [.oes] s t)

/-- CAL_SLOT_START, CAL_SLOT_FINISH, CAL_BEGIN, CAL_END, MONITOR_WINDOW and MON_REPORT. A line shows 0xFD failed,
0xFE in calibration, 0xFF idle.
The wall counter after a deadline (log 2), measured operands (log 22), what is measured (log 85) and the calibration
of a failed or late line and its one PRBS frame (log 86) are the model's choices. -/
def Obligations.LinesAreCalibratedAndMonitored : Prop :=
  (∀ (e : Oe) (f : Fin 8) (p : Nat) (s : State), (getOe s e).state = 5 → bit (getOe s e).txFibres f = true →
    (calOf s e f).running = false → p = (calOf s e f).next % 18 → (getOe s e).wf = true → s.stored = true →
    ∃ t, exec (.calSlotStart e f) s = .next t ∧ (calOf t e f).line = p ∧ (calOf t e f).next = (calOf s e f).next + 1 ∧
      (if (calOf s e f).next = 0 then (getOe s e).activeAt else (calOf s e f).due) ≤ wall t ∧
      (txOn s e f p = 0xFD → (calOf t e f).running = false ∧ Keeps [.time, .oes] s t) ∧
      (16 ≤ txOn s e f p → txOn s e f p ≠ 0xFD → (calOf t e f).running = true ∧ txOn t e f p = 0xFE ∧
        Output.opt e { type := 0x30, fibre := f, line := p } ∈ t.out ∧
        ∃ x, Output.laneFrame e x ∈ t.out ∧ x.fibre = f ∧ x.line = p ∧ x.hdr.kind = 2) ∧
      (∀ k, txOn s e f p < 16 → freeSpare (getOe s e).txMap f [16, 17] = some k → (calOf t e f).running = true ∧
        (calOf t e f).spare = k ∧ txOn t e f p = 0xFE ∧ txOn t e f k = txOn s e f p ∧
        Output.opt e { type := 0x30, fibre := f, line := p } ∈ t.out ∧
        ∃ x, Output.laneFrame e x ∈ t.out ∧ x.fibre = f ∧ x.line = p ∧ x.hdr.kind = 2) ∧
      (txOn s e f p < 16 → freeSpare (getOe s e).txMap f [16, 17] = none → (calOf t e f).running = false ∧
        numGet t (oeObj e oOptCalSkipped) 0 = (numGet s (oeObj e oOptCalSkipped) 0 + 1) % 2 ^ 32) ∧
      Keeps [.time, .free, .mg, .elog, .cds, .pds, .oes, .sems, .arrs, .net, .out] s t) ∧
  (∀ (e : Oe) (f : Fin 8) (ok : Bool) (c : CalSt) (s : State), (getOe s e).state = 5 → c = calOf s e f →
    c.running = true → c.line < 18 → txOn s e f c.line = 0xFE → c.spare = 0xFF ∨ (16 ≤ c.spare ∧ c.spare < 18 ∧
      txOn s e f c.spare < 16 ∧ c.line < 16) → (∀ u ∈ (getOe s e).urgents, u.2.2.1 < 16) → (getOe s e).wf = true →
    s.stored = true →
    ∃ t, exec (.calSlotFinish e f ok) s = .next t ∧ (calOf t e f).running = false ∧
      (let wrong := (tget {} (getOe s e).locks (lockKey 0 f c.line)).declared
       let late := decide (c.due < wall s + 20000)
       let o : OeSt := { getOe s e with meas := tset 0 (getOe s e).meas (ringKey 0 f c.line) (s.free + 1) }
       -- a slot that is done, or aborted as late, returns the lane
       ((ok = true ∨ late = true) → wrong = false →
         txOn t e f c.line = (if c.spare = 0xFF then 0xFF else txOn s e f c.spare) ∧
         (c.spare ≠ 0xFF → txOn t e f c.spare = 0xFF)) ∧
       (ok = false → late = false → wrong = false →
         txOn t e f c.line = 0xFD ∧ (c.spare ≠ 0xFF → txOn t e f c.spare = txOn s e f c.spare)) ∧
       (wrong = true → txOn t e f c.line = 0xFD) ∧
       -- one that is done has measured the ring, and re-centred it below 360 GHz of headroom (R241, R246)
       (ok = true → late = false → wrong = false → tget 0 (getOe t e).meas (ringKey 0 f c.line) = s.free + 1 ∧
         tget 0 (getOe t e).heater (ringKey 0 f c.line) = tget 0 (getOe s e).heater (ringKey 0 f c.line) +
           (if 360 ≤ headroom (getOe s e) 0 f c.line then 0
            else if heaterAt (getOe s e) 0 f c.line < 2400 then ringFsr o 0 f c.line else -ringFsr o 0 f c.line))) ∧
      Output.opt e { type := 0x31, fibre := f, line := c.line } ∈ t.out ∧
      Keeps (journaling ++ ([.free, .elog, .cds, .pds, .oes, .ctxs, .sems, .arrs, .net] : List Part)) s t) ∧
  (∀ (e : Oe) (m : OptMsg) (s : State), (getOe s e).state = 5 → m.fibre < 8 → m.line < 18 →
    onLine (getOe s e).rxMap m.fibre m.line ≠ 0xFD → s.stored = true →
    ∃ t, exec (.calBegin e m) s = .next t ∧ onLine (getOe t e).rxMap m.fibre m.line = 0xFE ∧
      ((getOe s e).wf = true → tget 0 (getOe t e).meas (ringKey 1 m.fibre m.line) = s.free + 1) ∧
      Keeps [.free, .mg, .oes] s t) ∧
  (∀ (e : Oe) (m : OptMsg) (s : State), (getOe s e).state = 5 → m.fibre < 8 → m.line < 18 →
    onLine (getOe s e).rxMap m.fibre m.line = 0xFE → (getOe s e).wf = true → s.stored = true →
    ∃ t, exec (.calEnd e m) s = .next t ∧
      (let wrong := (tget {} (getOe s e).locks (lockKey 1 m.fibre m.line)).declared
       onLine (getOe t e).rxMap m.fibre m.line = (if wrong then 0xFD else 0xFF) ∧ (wrong = false → Keeps [.oes] s t) ∧
       -- a receive ring locked wrongly at the end of its slot fails its line (R247)
       (wrong = true → Output.opt e { type := 0x12, fibre := m.fibre, line := m.line } ∈ t.out)) ∧
      Keeps [.free, .mg, .elog, .cds, .pds, .oes, .sems, .arrs, .net, .out] s t) ∧
  (∀ (e : Oe) (laser pm fc ri : List Int) (s : State), (getOe s e).wf = true → s.stored = true →
    ∃ t, exec (.monitorWindow e laser pm fc ri) s = .next t ∧
      (∀ i, i < 2 → i < laser.length → tget 0 (getOe t e).mon i = laser.getD i 0) ∧
      (∀ i, i < 8 → i < pm.length → tget 0 (getOe t e).mon (2 + i) = pm.getD i 0) ∧
      (∀ i, i < 8 → i < fc.length → tget 0 (getOe t e).mon (10 + i) = fc.getD i 0) ∧
      (∀ i, i < 8 → i < ri.length → tget 0 (getOe t e).mon (18 + i) = ri.getD i 0) ∧
      ((getOe s e).state ≠ 5 → t.out = s.out ∧ Keeps [.oes] s t) ∧
      (let lost := feedLow (laser.getD 0 0) && feedLow (laser.getD 1 0)
       -- both feeds below +23 dBm are lost, and the link goes to LIGHT (R224, R254)
       ((getOe s e).state = 5 → lost = true → (getOe t e).state = 1 ∧ Keeps [.oes] s t) ∧
       ((getOe s e).state = 5 → lost = false → Output.opt e { type := 0x20, body := i16s fc ++ i16s ri } ∈ t.out ∧
         (getOe t e).baseline = true)) ∧
      ((getOe s e).state = 5 → (getOe s e).baseline = false → (feedLow (laser.getD 0 0) && feedLow (laser.getD 1 0)) = false →
        (∀ i, i < 8 → i < pm.length → tget 0 (getOe t e).mon (66 + i) = pm.getD i 0) ∧
        -- a feed below +23 dBm in the first window is lost too: its four fibres are withdrawn (R224)
        ∀ i, i < 2 → i < laser.length → feedLow (laser.getD i 0) = true →
          ∀ k, k < 4 → bit (getOe t e).txFibres (4 * i + k) = false) ∧
      Keeps (journaling ++ ([.free, .elog, .cds, .pds, .oes, .ctxs, .sems, .arrs, .net] : List Part)) s t) ∧
  (∀ (e : Oe) (m : OptMsg) (s : State), (getOe s e).state = 5 → (getOe s e).wf = true → s.stored = true →
    ∃ t, exec (.monReport e m) s = .next t ∧
      (∀ k, k < 8 → tget 0 (getOe t e).mon (26 + k) = sext 16 (leNat (slice m.body (16 + 2 * k) 2))) ∧
      -- the first report sets the baselines, whatever its readings are
      (getOe t e).peerBase = true ∧
      (∀ k, k < 8 → tget 0 (getOe t e).mon (90 + k) = if (getOe s e).peerBase then tget 0 (getOe s e).mon (90 + k)
        else sext 16 (leNat (slice m.body (16 + 2 * k) 2))) ∧
      (∀ k, k < 8 → 10 * (numGet s oOptLossFailDb 0 : Int) ≤ monFall (getOe t e) (26 + k) →
        (getOe t e).state ≠ 5 ∨ bit (getOe s e).txFibres k = false) ∧
      Keeps (journaling ++ ([.elog, .oes, .ctxs] : List Part)) s t)

/-! ## Machine packets in (R260, R270 to R289, R330, R339) -/

/-- Machine packets for another node go on (R260, R276), and those that R271, R283, R292 and R330 name are discarded
and counted by *FAB_DISCARDS*; MACHINE_RESERVED_OP and PORT_DOWN_DISCARD.
Packets stand in the queues of the model (log 5), the sub-channel of the dateline link is log 74, and that a packet
goes on within its command (log 109): the model's choices. -/
def Obligations.MachinePacketsTravelOrAreDiscarded : Prop :=
  (∀ (e : Oe) (p : Mpk) (c : Instr) (op : Nat), (c, op) ∈ [(Instr.mPut e p, 0x20), (.mGet e p, 0x21), (.mLoad e p,
    0x22),
      (.mAtom e p, 0x23), (.mData e p, 0x24), (.mAck e p, 0x25), (.cUp e p, 0x28), (.cDown e p, 0x29), (.mMgmt e p,
        0x2E)] →
    ∀ (s : State) (d : Nat) (cross : Bool), nodeId s ≠ 0x8000 → p.dstNode ≠ nodeId s → nodeOk s p.dstNode = true →
    nextDir s p.dstNode = some (d, cross) → passes s op (72 + e) (6 * p.port + d) → s.stored = true →
    ∃ t, exec c s = .next t ∧
      carried t (6 * p.port + d) { p with op := op, sub := nextSub p (e % 6) d cross } ∧
      Keeps sending s t) ∧
  (∀ (e : Oe) (p : Mpk) (c : Instr), c ∈ [Instr.mPut e p, .mGet e p, .mLoad e p, .mAtom e p, .mData e p, .mAck e p,
    .cUp e p,
      .cDown e p, .mMgmt e p] →
    ∀ s : State, nodeId s = 0x8000 → s.stored = true →
    ∃ t, exec c s = .next t ∧ counterAt t oFabDiscards 0 1 = (counterAt s oFabDiscards 0 1 + 1) % 2 ^ 64 ∧
      Keeps [.mg, .elog, .oes, .out] s t) ∧
  (∀ (e : Oe) (p : Mpk) (c : Instr), c ∈ [Instr.mPut e p, .mGet e p, .mLoad e p, .mAtom e p, .mData e p, .mAck e p] →
    ∀ s : State, nodeId s ≠ 0x8000 → p.dstNode = nodeId s → ctxAccepts s p.ctx p.gen = false →
    ejects s e = true → s.stored = true →
    ∃ t, exec c s = .next t ∧ counterAt t oFabDiscards 0 3 = (counterAt s oFabDiscards 0 3 + 1) % 2 ^ 64 ∧
      ((getCtx s p.ctx).state ≠ 0 → (getCtx t p.ctx).late = (getCtx s p.ctx).late + 1) ∧
      Keeps [.mg, .elog, .oes, .ctxs, .out] s t) ∧
  -- one for this device waits in the receive buffer while the link to its prism die carries no packets, and is lost where that link has
  -- FAILED or the prism die is no route end (R198, R209, R291)
  (∀ (e : Oe) (p : Mpk) (c : Instr), c ∈ [Instr.mPut e p, .mGet e p, .mLoad e p, .mAtom e p, .mData e p, .mAck e p, .cUp e p,
      .cDown e p, .mMgmt e p, .arrive e p, .release e p, .grant e p, .abort e p, .prune e p] →
    ∀ s : State, nodeId s ≠ 0x8000 → p.dstNode = nodeId s → isAdmitted s (64 + oePd e) = true →
    (getLink s (108 + e)).state ≠ 3 → (getLink s (108 + e)).state ≠ 5 → exec c s = .next s) ∧
  (∀ (e : Oe) (p : Mpk) (c : Instr), c ∈ [Instr.mData e p, .mAck e p, .cUp e p, .cDown e p, .mMgmt e p, .arrive e p, .release e p,
      .grant e p, .abort e p, .prune e p] →
    ∀ s : State, nodeId s ≠ 0x8000 → p.dstNode = nodeId s →
    isAdmitted s (64 + oePd e) = false ∨ (getLink s (108 + e)).state = 5 → s.stored = true →
    ∃ t, exec c s = .next t ∧ numGet t oPkgUnroutable (109 + e) = (numGet s oPkgUnroutable (109 + e) + 1) % 2 ^ 32 ∧
      Keeps [.mg, .elog, .pds, .oes, .net, .out] s t) ∧
  (∀ (e : Oe) (p : Mpk) (c : Instr) (op : Nat), (c, op) ∈ [(Instr.mPut e p, 0x20), (.mGet e p, 0x21), (.mLoad e p, 0x22),
      (.mAtom e p, 0x23)] →
    ∀ s : State, nodeId s ≠ 0x8000 → p.dstNode = nodeId s → p.srcNode ≠ nodeId s →
    isAdmitted s (64 + oePd e) = false ∨ (getLink s (108 + e)).state = 5 → s.stored = true →
    ∃ t, exec c s = .next t ∧ leaves s t (oePd e) (mAnswer s { p with op := op } 8 p.addr []) ∧
      Keeps sending s t) ∧
  (∀ (e : Oe) (p : Mpk) (c : Instr), c ∈ [Instr.mData e p, .mAck e p] →
    ∀ s : State, nodeId s ≠ 0x8000 → p.dstNode ≠ nodeId s → nodeOk s p.dstNode = false → s.stored = true →
    ∃ t, exec c s = .next t ∧ counterAt t oFabDiscards 0 0 = (counterAt s oFabDiscards 0 0 + 1) % 2 ^ 64 ∧
      Keeps [.mg, .elog, .oes, .out] s t) ∧
  (∀ (e : Oe) (p : Mpk) (s : State), s.stored = true →
    ∃ t, exec (.machineReservedOp e p) s = .next t ∧
      (if knownMop p.op then t = s
       else counterAt t oFabDiscards 0 2 = (counterAt s oFabDiscards 0 2 + 1) % 2 ^ 64) ∧ Keeps [.mg, .elog, .oes,
         .out] s t) ∧
  (∀ (e : Oe) (q : QPkt) (rest : List QPkt) (s : State), (getOe s e).state = 7 ∨ (getOe s e).state = 0 →
    (getOe s e).queue = q :: rest → q.src = 0 → (getPd s (oePd e)).inject = [] → (getPd s (oePd e)).landed = [] →
    (∀ x ∈ s.terms, x.pd ≠ oePd e) → q.pkt.op = 0x20 → q.pkt.srcNode = nodeId s →
    goesAtOnce s 1 (64 + oePd e) q.pkt.srcDie q.pkt.srcDie [mAnswer s q.pkt 8 q.pkt.addr []] = true → s.stored = true →
    ∃ t, exec (.portDownDiscard e) s = .next t ∧ (getOe t e).queue = rest ∧
      counterAt t oFabDiscards 0 0 = (counterAt s oFabDiscards 0 0 + 1) % 2 ^ 64 ∧
      outCount t q.pkt.srcDie q.pkt.slot q.pkt.epoch = outCount s q.pkt.srcDie q.pkt.slot q.pkt.epoch - 1 ∧
      ((tget {} s.latches (fenceKey q.pkt.srcDie q.pkt.slot)).status = 0 →
        (tget {} t.latches (fenceKey q.pkt.srcDie q.pkt.slot)).status = 8) ∧
      Keeps [.free, .mg, .elog, .cds, .fds, .pds, .oes, .dirs, .sems, .arrs, .net, .outst, .latches, .fences, .out] s t)

/-- M_PUT, M_GET, M_LOAD and M_ATOM at the device they name, M_TERMINATION_COMPLETE and FLAGGED_STORE_RELEASE.
`leaves` says that the answer is on its way to its engine, stands in its queue or has gone.
A counter checked at the completion (log 76), the own numbers (log 89), that a packet crosses a clear way at once (log 109) and the room for responses (log 113) are the
model's choices. -/
def Obligations.MachineRequestsTerminate : Prop :=
  (∀ (e : Oe) (p : Mpk) (c : Instr) (op n : Nat), (c, op, n) ∈ [(Instr.mPut e p, 0x20, max 1 (32 * p.len)),
      (.mGet e p, 0x21, max 1 (32 * p.len)), (.mLoad e p, 0x22, max 1 (32 * p.len)), (.mAtom e p, 0x23, 32)] →
    ∀ s : State, nodeId s ≠ 0x8000 → p.dstNode = nodeId s → ctxAccepts s p.ctx p.gen = true → ejects s e = true →
    s.stored = true →
    ∃ t, exec c s = .next t ∧
      (-- a flagged store that is not striped waits for the stores before it (R286)
       let hold := decide (op = 0x20) && p.flag && !p.striped
       let new : TermSt :=
         { id := s.nextUid, pd := oePd e, port := p.port, req := { p with op := op }, started := false,
           heldFor := if hold then (s.terms.filter fun x => x.pd == oePd e && x.req.ctx == p.ctx && openStore x).map (·.id) else [] }
       ∃ u ∈ t.terms, u.id = s.nextUid ∧ u.pd = oePd e ∧ u.port = p.port ∧ u.req = { p with op := op } ∧
         t.nextUid = s.nextUid + 1 ∧ u.heldFor = new.heldFor ∧
         -- it starts where none goes before it and there is room for its response, and holds its room in the receive buffer elsewhere
         (if termReady { s with terms := s.terms ++ [new] } new = false then u.started = false ∧ t.net = s.net ∧ u.room.src = e + 1
          else u.started = true ∧
            (if remoteSpace p.addr && remoteSpace (p.addr + n - 1) && decide (p.atop ≤ 4) then
               u.status = 0 ∧ u.waiting = (termPkgs u).length ∧
                 -- each of its package packets is issued, and one that meets no other crosses at once
                 (tget 0 s.tags (64 + oePd e) < 4096 →
                   (t.txns = s.txns ++ (List.range (termPkgs u).length).map fun i =>
                     let x := (termPkgs u).getD i ({}, 0)
                     { owner := .term u.id, dst := x.2, len := 32 * x.1.len, src := x.1.src,
                       tag := (tget 0 s.tags (64 + oePd e) + i) % 4096, ctx := p.ctx, gen := p.gen, req := x.1.op,
                       reqAddr := x.1.addr }) ∧
                   ∀ x, termPkgs u = [x] → delivered s x.1 = true →
                     t.net = s.net ++ [{ x.1 with tag := tget 0 s.tags (64 + oePd e) }])
             else u.status = 1 ∧ u.failAddr = p.addr ∧ t.net = s.net))) ∧
      Keeps [.nextUid, .mg, .elog, .fds, .pds, .oes, .dirs, .net, .txns, .tags, .terms, .out] s t) ∧
  (∀ (u : TermSt) (id : Nat) (s : State), s.terms.find? (fun x => x.id == id) = some u → u.started = true →
    u.waiting = 0 →
    s.stored = true →
    ∃ t, exec (.mTerminationComplete id) s = .next t ∧
      (let q := u.req
       -- the request is over, and the others stay, of which those may start that waited
       let gone : Prop := (∀ x ∈ t.terms, x.id ≠ id) ∧ ∀ x ∈ s.terms, x.id ≠ id → ∃ y ∈ t.terms, y.id = x.id ∧ y.req = x.req
       let inc := decide (q.op = 0x20) && q.arrEn && !u.arrSent && u.status == 0
       let inSlot := decide (q.ctx ≠ 0) && slotOn s q.ctx (homeDie q.addr / 8) == some (objSlot true q.arr)
       (inc = true → inSlot = true → ∃ v ∈ t.terms, v.id = id ∧ v.arrSent = true ∧ v.waiting = 1 ∧
         (∀ x : Txn, x ∈ t.txns → x ∉ s.txns → x.owner = .term id ∧ x.req = 0x2F ∧
           x.reqAddr = ctrlBase (homeDie q.addr) + 0x1000 + 8 * q.arr)) ∧
       (inc = true → inSlot = false → q.srcNode ≠ nodeId s →
         gone ∧ leaves s t u.pd (mAnswer s q 1 q.addr [])) ∧
       (u.status ≠ 0 → q.srcNode ≠ nodeId s →
         gone ∧ leaves s t u.pd (mAnswer s q u.status u.failAddr [])) ∧
       (inc = false → u.status = 0 → q.op = 0x21 ∨ q.op = 0x22 → q.srcNode ≠ nodeId s →
         gone ∧
           leaves s t u.pd (mAnswer s q 0 q.addr ((List.range (32 * q.len)).map fun i => tget 0 u.data i))) ∧
       (inc = false → u.status = 0 → q.op = 0x20 ∨ (q.op = 0x23 ∧ q.ret = false) →
         gone ∧
         ((getPd s u.pd).acks.find? (·.same (mAnswer s q 0 q.addr [])) = none →
           ∃ h, (getPd t u.pd).acks = (getPd s u.pd).acks ++ [h] ∧ h.same (mAnswer s q 0 q.addr []) = true ∧
             h.count = 1 ∧
             h.port = q.port ∧ h.first = wall s) ∧
         (∀ h, (getPd s u.pd).acks = [h] → h.same (mAnswer s q 0 q.addr []) = true → h.count + 1 < 65535 →
           (getPd t u.pd).acks = [{ h with count := h.count + 1 }]))) ∧
      Keeps sending s t) ∧
  (∀ (pd : Pd) (s : State), s.stored = true →
    ∃ t, exec (.flaggedStoreRelease pd) s = .next t ∧
      (-- a store or atomic whose turn it is starts (R285, R286)
       (s.terms.map (·.id)).Nodup → ∀ u ∈ s.terms, u.pd = pd → u.started = false → termReady s u = true → respBytesOf u.req = 0 →
        ∃ v ∈ t.terms, v.id = u.id ∧ v.req = u.req ∧ v.started = true) ∧
      -- one that the source holds no longer leaves its partition
      (∀ x : InjPkt, (getPd s pd).inject = [x] → (getPd s pd).landed = [] → s.dirs.all (fun d => d.2.port == []) = true →
        x.accepted = true → sourceHeld s x = false → (getLink s (108 + x.oe)).state ≠ 5 →
        carried t x.oe x.pkt ∧ (getPd t pd).inject = []) ∧
      Keeps sending s t)

/-- M_DATA and M_ACK at the source of their request, and ACK_COALESCE_TIMEOUT; M_CREDIT, CREDIT_RETURN_TIMER and
M_DRAIN.
The wall counter after a deadline (log 2), the layout of a credit (log 75), a failure while landing (log 76), an
acknowledgement that halts (log 108) and the way of an answer to its die (log 111) are the model's choices. -/
def Obligations.MachineAnswersCreditsAndMarkersReturn : Prop :=
  -- an answer for a die that is no route end is lost on its way there (R198)
  (∀ (e : Oe) (p : Mpk) (c : Instr) (op : Nat), (c, op) ∈ [(Instr.mData e p, 0x24), (.mAck e p, 0x25)] →
    ∀ s : State, nodeId s ≠ 0x8000 → p.dstNode = nodeId s → ctxAccepts s p.ctx p.gen = true → ejects s e = true →
    (getPd s (oePd e)).landed = [] → isAdmitted s p.srcDie = false → s.stored = true →
    ∃ t, exec c s = .next t ∧ Keeps [.mg, .elog, .pds, .oes, .net, .out] s t) ∧
  -- data waits at the prism die while the memory that it lands in is not ready
  (∀ (e : Oe) (p : Mpk) (s : State), nodeId s ≠ 0x8000 → p.dstNode = nodeId s → ctxAccepts s p.ctx p.gen = true →
    ejects s e = true → (getPd s (oePd e)).landed = [] → answerWaits s { p with op := 0x24 } = true →
    goesAtOnce s 1 (64 + oePd e) p.srcDie p.srcDie (diePieces { p with op := 0x24 }) = true → s.stored = true →
    ∃ t, exec (.mData e p) s = .next t ∧
      (∃ l ∈ (getPd t (oePd e)).landed, ∃ x, l.ok = true ∧ l.cargo = .answer (oePd e) x (some { p with op := 0x24 })) ∧
      Keeps [.mg, .elog, .fds, .pds, .oes, .dirs, .net, .out] s t) ∧
  (∀ (e : Oe) (p : Mpk) (s : State), nodeId s ≠ 0x8000 → p.dstNode = nodeId s → ctxAccepts s p.ctx p.gen = true →
    ejects s e = true → (getPd s (oePd e)).landed = [] → answerWaits s { p with op := 0x24 } = false →
    goesAtOnce s 1 (64 + oePd e) p.srcDie p.srcDie (diePieces { p with op := 0x24 }) = true → s.stored = true →
    ∃ t, exec (.mData e p) s = .next t ∧
      outCount t p.srcDie p.slot p.epoch = outCount s p.srcDie p.slot p.epoch - 1 ∧
      (findMTxn s p.srcDie p.tag = none → Keeps [.mg, .elog, .fds, .pds, .oes, .dirs, .net, .outst, .fences, .out] s t) ∧
      (∀ m, findMTxn s p.srcDie p.tag = some m → p.status = 0 →
        region m.dst = .near m.die ∨ region m.dst = .scratch m.die ∧ (getCd s m.die).acc = [] ∧
          spFrom s m.die m.dst ≤ absCycle s (m.die / 8) →
        readBytes t m.dst m.len = slice p.data 0 m.len ∧
          (∀ a, a < m.dst ∨ m.dst + m.len ≤ a → memGet t a = memGet s a) ∧ t.mtxns = s.mtxns.erase m ∧
          (m.isGet = true → m.arrEn = true → ticking (getFacet s (m.die / 8)) = true →
            { isArr := true, obj := m.arr, kind := 1, value := m.len } ∈ (getCd t m.die).semEv) ∧
          (∀ y, m.isLoad = true → findFly s m.die m.engine m.uid = some y →
            ∃ z, findFly t m.die m.engine m.uid = some z ∧ z.outstanding = y.outstanding - 1)) ∧
      (∀ m, findMTxn s p.srcDie p.tag = some m → p.status ≠ 0 → t.mtxns = s.mtxns.erase m ∧
        ((tget {} s.latches (fenceKey m.die m.slot)).status = 0 → tget {} t.latches (fenceKey m.die m.slot) =
          { status := p.status, addr := p.srcNode * 2 ^ 48 + p.addr, epoch := m.epoch }) ∧
        (∀ y, m.isLoad = true → findFly s m.die m.engine m.uid = some y → statusReason p.status y.desc.collHalt ≠ 0 →
          (getStream t m.die m.engine y.slot).haltWord ≠ 0)) ∧
      Keeps sending s t) ∧
  (∀ (e : Oe) (p : Mpk) (s : State), nodeId s ≠ 0x8000 → p.dstNode = nodeId s → ctxAccepts s p.ctx p.gen = true →
    ejects s e = true → (getPd s (oePd e)).landed = [] →
    goesAtOnce s 1 (64 + oePd e) p.srcDie p.srcDie (diePieces { p with op := 0x25 }) = true → s.stored = true →
    ∃ t, exec (.mAck e p) s = .next t ∧
      outCount t p.srcDie p.slot p.epoch = outCount s p.srcDie p.slot p.epoch - p.count ∧
      (∀ k, k ≠ outKey p.srcDie p.slot p.epoch → tget 0 t.outst k = tget 0 s.outst k) ∧
      (p.status = 0 → t.latches = s.latches) ∧
      (p.status ≠ 0 → (tget {} s.latches (fenceKey p.srcDie p.slot)).status = 0 →
        tget {} t.latches (fenceKey p.srcDie p.slot) =
          { status := p.status, addr := p.srcNode * 2 ^ 48 + p.addr, epoch := p.epoch }) ∧
      -- a type that the home refuses halts the stream of the slot's latest RATOM (R172)
      (∀ x : InFlight, p.status = 3 → (getEngine s p.srcDie p.srcEngine).ratom.find? (fun r => r.1 == p.slot) = some (p.slot, x) →
        x.ctx = p.ctx → x.gen = p.gen → (getStream t p.srcDie p.srcEngine x.slot).haltWord ≠ 0) ∧
      (p.status ≠ 3 → Keeps [.mg, .elog, .fds, .pds, .oes, .dirs, .net, .outst, .latches, .fences, .out] s t) ∧
      Keeps sending s t) ∧
  (∀ (pd : Pd) (h : AckHold) (s : State), (getPd s pd).acks = [h] → h.srcNode ≠ nodeId s → s.stored = true →
    ∃ t, exec (.ackCoalesceTimeout pd) s = .next t ∧ (getPd t pd).acks = [] ∧ h.first + 1000 ≤ wall t ∧
      leaves s t pd (holdAck s h) ∧
      Keeps sending s t) ∧
  (∀ (e : Oe) (res : List Nat) (sh : Nat) (s : State), (getOe s e).markers = [] → (getPd s (oePd e)).inject = [] →
    (getPd s (oePd e)).landed = [] → (∀ x ∈ s.terms, x.pd ≠ oePd e) → (getOe s e).txTail = [] →
    0 < frameRoomBytes (getOe s e).width → s.stored = true →
    ∃ t, exec (.mCredit e res sh) s = .next t ∧
      ((getOe s e).queue = [] → (getOe t e).sharedSpent = (getOe s e).sharedSpent - sh ∧
        ∀ v, v < 8 → rising none (getOe s e).resSpent = true →
          tget 0 (getOe t e).resSpent v = tget 0 (getOe s e).resSpent v - res.getD v 0) ∧
      (∀ q, (getOe s e).queue = [q] → q.pkt.tc < 4 → q.pkt.sub < 2 → (getOe s e).state = 5 →
        (getOe s e).buffer.length < 96 →
        epochDue (getOe s e) = false → engineOpen s e = true → q.inj = false ∨ bit (getOe s e).throttled q.pkt.tc = false →
        mpkUnits q.pkt + ((getOe s e).sharedSpent - sh) ≤ sharedUnits →
        Output.mpkt e q.pkt ∈ t.out) ∧
      (engineShut s e = false → Keeps [.free, .mg, .elog, .cds, .oes, .sems, .arrs, .out] s t) ∧
      Keeps sending s t) ∧
  (∀ (e : Oe) (s : State), pendBytes (getOe s e) ≠ 0 → (getOe s e).queue = [] → (getOe s e).markers = [] →
    (getPd s (oePd e)).inject = [] → (getPd s (oePd e)).landed = [] → (∀ x ∈ s.terms, x.pd ≠ oePd e) → s.stored = true →
    ∃ t, exec (.creditReturnTimer e) s = .next t ∧ (getOe s e).pendSince + 1000 ≤ wall t ∧
      Output.credit e ((List.range 8).map fun v => tget 0 (getOe s e).pendRes v) (min 65535 (getOe s e).pendShared) ∈ t.out ∧
      (getOe t e).pendRes = [] ∧ (getOe t e).pendShared = (getOe s e).pendShared - min 65535 (getOe s e).pendShared ∧
      (getOe t e).rxShared = (getOe s e).rxShared - min 65535 (getOe s e).pendShared ∧
      Keeps [.time, .free, .mg, .elog, .cds, .pds, .oes, .sems, .arrs, .net, .out] s t) ∧
  (∀ (e : Oe) (p : Mpk) (s : State), nodeId s ≠ 0x8000 → ejects s e = true → s.stored = true →
    ∃ t, exec (.mDrain e p) s = .next t ∧
      -- an outbound marker goes back behind what came in before it
      (p.count = 0 → (getOe s e).returns = [] → (∀ k, k < 24 → ∀ q ∈ (getOe s k).queue, q.src ≠ e + 1) →
        (∀ q ∈ roomHolders s, q.src ≠ e + 1) → (getLink s (108 + e)).state ≠ 5 →
        carried t e { op := 0x27, tc := 3, ctx := p.ctx, gen := p.gen, dstNode := (getOe s e).peerNode, count := 1,
                      rdClass := 0, tag := p.tag }) ∧
      -- a returned one closes its port, within 15 ms of the drain's beginning; what comes later ends the drain without it (R25, R339)
      (p.count ≠ 0 → atStep s p.ctx 6 = true → (tearOf s p.ctx).oldGen = p.gen → (tearOf s p.ctx).marker = p.tag →
        bit (tearOf s p.ctx).ports e = true →
        (if wall s < (tearOf s p.ctx).drainStart + 15000000 then
           (tearOf t p.ctx).ports = clearBit (tearOf s p.ctx).ports e ∧
           (tearOf t p.ctx).step = (if clearBit (tearOf s p.ctx).ports e = 0 then 7 else 6)
         else (tearOf t p.ctx).step = 7 ∧ (tearOf t p.ctx).missing = (tearOf s p.ctx).ports ∧
           (tearOf t p.ctx).flags = (tearOf s p.ctx).flags + 32) ∧
        Keeps [.mg, .elog, .oes, .ctxs, .out] s t) ∧
      (p.count ≠ 0 → atStep s p.ctx 6 = false → Keeps [.mg, .oes, .out] s t) ∧
      Keeps sending s t)


/-! ## Collectives (R294 to R317) -/

/-- C_UP, C_DOWN, ARRIVE, RELEASE, GRANT, ABORT and PRUNE that find no running instance: an unbound context, no
plan, a packet of the plan's next instance, grants; and a chunk from no inbound neighbour.
One PRUNE for each instance and prism die (log 79) is the model's choice. -/
def Obligations.CollectivePacketsWaitOrAreDiscarded : Prop :=
  (∀ (e : Oe) (p : Mpk) (c : Instr), c ∈ [Instr.cUp e p, .cDown e p, .arrive e p, .release e p, .grant e p, .abort e p,
      .prune e p] →
    ∀ s : State, ejects s e = true → nodeId s ≠ 0x8000 → p.dstNode = nodeId s →
    (getCtx s p.ctx).state ∉ [3, 4, 5] ∨ (getCtx s p.ctx).gen ≠ p.gen → s.stored = true →
    ∃ t, exec c s = .next t ∧
      (let h := collHdrOf p.data
       let id := (p.ctx, p.gen, h.collId, h.seq)
       numGet t oCollDiscards (oePd e + 1) = (numGet s oCollDiscards (oePd e + 1) + 1) % 2 ^ 64 ∧
       (id ∈ (getPd s (oePd e)).pruneSent → Keeps [.mg, .oes, .out] s t) ∧
       (id ∉ (getPd s (oePd e)).pruneSent → (getPd t (oePd e)).pruneSent = (getPd s (oePd e)).pruneSent ++ [id] ∧
         leaves s t (oePd e) { collPkt s (oePd e) p.ctx p.gen p.slot p.srcNode 0x2A
           { collId := h.collId, seq := h.seq, subtype := 4 } [] with port := p.port })) ∧
      Keeps sending s t) ∧
  (∀ (e : Oe) (p : Mpk) (s : State), ejects s e = true → nodeId s ≠ 0x8000 → p.dstNode = nodeId s →
    (getCtx s p.ctx).state ∈ [3, 4, 5] → (getCtx s p.ctx).gen = p.gen →
    s.plans.find? (fun q => q.pd / 2 == oePd e / 2 && q.ctx == p.ctx && q.gen == p.gen &&
      q.coll == (collHdrOf p.data).collId) = none → s.stored = true →
    (∀ c ∈ [Instr.cUp e p, .cDown e p], ∃ t, exec c s = .next t ∧
      numGet t oCollDiscards (oePd e + 1) = (numGet s oCollDiscards (oePd e + 1) + 1) % 2 ^ 64 ∧
      Keeps [.mg, .oes, .out] s t) ∧
    (∀ (c : Instr) (k : Nat), (c, k) ∈ [(Instr.arrive e p, 0), (.release e p, 1), (.grant e p, 2), (.abort e p, 3),
        (.prune e p, 4)] → ∃ t, exec c s = .next t ∧
      (if (s.ctrlTable.filter fun x => x.1 == oePd e).length < 1024 then
         ∃ m, t.ctrlTable = s.ctrlTable ++ [(oePd e, m)] ∧ m.op = 0x2A ∧ m.srcNode = p.srcNode ∧
           collHdrOf m.data = { collHdrOf p.data with subtype := k } ∧ Keeps [.mg, .oes, .ctrlTable, .out] s t
       else numGet t oCollDiscards (oePd e + 1) = (numGet s oCollDiscards (oePd e + 1) + 1) % 2 ^ 64 ∧
         Keeps [.mg, .elog, .oes, .out] s t))) ∧
  -- a chunk is taken only into room that was granted to its neighbour's flow (R295)
  (∀ (e : Oe) (p : Mpk) (pl : Plan) (c : Instr) (fl : Nat) (s : State), (c, fl) ∈ [(Instr.cUp e p, 0), (.cDown e p, 1)] →
    planHere s e p pl → (p.srcNode, fl) ∉ pl.inbound ∨ tget 0 pl.room (p.srcNode * 2 + fl) = 0 → s.stored = true →
    ∃ t, exec c s = .next t ∧ numGet t oCollDiscards (pl.pd + 1) = (numGet s oCollDiscards (pl.pd + 1) + 1) % 2 ^ 64 ∧
      Keeps [.mg, .oes, .out] s t) ∧
  (∀ (e : Oe) (p : Mpk) (pl : Plan) (s : State), planHere s e p pl → (collHdrOf p.data).seq = (pl.seq + 1) % 65536 →
    pl.seq < 65536 → s.stored = true →
    (∀ (c : Instr) (op : Nat), (c, op) ∈ [(Instr.cUp e p, 0x28), (.cDown e p, 0x29), (.arrive e p, 0x2A),
        (.release e p, 0x2A), (.prune e p, 0x2A)] →
      op = 0x2A ∨ ((p.srcNode, op - 0x28) ∈ pl.inbound ∧ tget 0 pl.room (p.srcNode * 2 + (op - 0x28)) ≠ 0) → ∃ t, exec c s = .next t ∧
      (∃ m, m.op = op ∧ m.srcNode = p.srcNode ∧ (collHdrOf m.data).seq = (collHdrOf p.data).seq ∧
        t.plans = s.plans.map fun q => if q.is pl.pd pl.ctx pl.coll then
          let k := p.srcNode * 2 + (op - 0x28)
          { q with held := q.held ++ [m], room := if op = 0x2A then q.room else tset 0 q.room k (tget 0 q.room k - 1) } else q) ∧
      Keeps [.mg, .oes, .plans, .out] s t) ∧
    -- an ABORT of an instance not yet started is recorded with its sender, but from a fenced child of a MULTICAST (R311, R314)
    (∃ t, exec (.abort e p) s = .next t ∧
      (if pl.kind = 5 ∧ p.srcNode ≠ pl.parent ∧ fencedNow s pl.pd p.srcNode = true then t.plans = s.plans
       else t.plans = s.plans.map fun q => if q.is pl.pd pl.ctx pl.coll then
         { q with early := q.early ++ [((collHdrOf p.data).seq, (collHdrOf p.data).reason, p.srcNode)] } else q) ∧
      Keeps [.mg, .oes, .plans, .out] s t)) ∧
  (∀ (e : Oe) (p : Mpk) (pl : Plan) (s : State), planHere s e p pl → s.stored = true →
    (findInst s pl.pd pl.ctx pl.coll = none → pl.incs = [] ∨ pl.incWait = true → ∃ t, exec (.grant e p) s = .next t ∧
      (t.plans = s.plans.map fun q => if q.is pl.pd pl.ctx pl.coll then
        let k := p.srcNode * 2 + (collHdrOf p.data).flow
        { q with grants := tset 0 q.grants k (tget 0 q.grants k + (collHdrOf p.data).grant) } else q) ∧
      Keeps [.mg, .oes, .plans, .out] s t) ∧
    (∀ (i : Inst) (m : Mpk), findInst s pl.pd pl.ctx pl.coll = some i → i.owed = [(p.srcNode, m)] → m.op ≠ 0x2A →
      (collHdrOf p.data).flow = opFlow m.op → 0 < (collHdrOf p.data).grant → isFenced s pl.pd i p.srcNode = false →
      fencedNeed s pl i = false →
      ∃ t, exec (.grant e p) s = .next t ∧ leaves s t pl.pd m ∧ Keeps (sending ++ ([.plans, .insts] : List Part)) s t) ∧
    -- nothing from a fenced child of a running MULTICAST counts (R314)
    (∀ (i : Inst), findInst s pl.pd pl.ctx pl.coll = some i → pl.kind = 5 → p.srcNode ≠ pl.parent →
      isFenced s pl.pd i p.srcNode = true → ∃ t, exec (.grant e p) s = .next t ∧ Keeps [.mg, .oes, .out] s t))

/-- C_UP, C_DOWN, ARRIVE, RELEASE, ABORT and PRUNE of the running instance. `expired` says that its timeout has run
out.
One source chunk read at a time (log 79) is the model's choice. -/
def Obligations.CollectivePacketsAdvanceTheirInstance : Prop :=
  ∀ (e : Oe) (p : Mpk) (pl : Plan) (i : Inst) (s : State), planHere s e p pl → instHere s p pl i → s.stored = true →
    let h := collHdrOf p.data
    let c := h.offset / pl.chunk
    let data := p.data.drop 32
    let held (j : Inst) (t : State) : Prop := findInst t pl.pd pl.ctx pl.coll = some j
    let known (n : Nat) : Prop := isFenced s pl.pd i n = false
    let room (fl : Nat) : Prop := (p.srcNode, fl) ∈ pl.inbound ∧ tget 0 pl.room (p.srcNode * 2 + fl) ≠ 0
    let J := sending ++ ([.plans, .insts, .tickIncs, .barrierHold] : List Part)
    (i.owed = [] → data ≠ [] → room 0 → fencedNeed s pl i = false → ∃ t, exec (.cUp e p) s = .next t ∧ Keeps J s t ∧
      (pl.ring = true → tget [] i.src (chunkKey h.piece c) = [] →
        ∃ j, held j t ∧ tget [] j.ups (chunkKey h.piece c) = data) ∧
      (pl.ring = false → tget [] i.src c = [] →
        ∃ j, held j t ∧ tget [] j.ups (pl.children.findIdx (· == p.srcNode) * 2 ^ 64 + chunkKey h.piece c) = data) ∧
      (∀ own, pl.ring = true → own = tget [] i.src (chunkKey h.piece c) → own ≠ [] → h.piece ≠ pl.rank → known pl.next →
        tget 0 pl.grants (pl.next * 2) ≠ 0 → ∃ m, leaves s t pl.pd m ∧ m.op = 0x28 ∧ m.dstNode = pl.next ∧
          m.data.drop 32 = combine pl.etype pl.redOp data own)) ∧
    (i.owed = [] → pl.ring = false → pl.children = [] → room 1 → fencedNeed s pl i = false →
      ∃ t, exec (.cDown e p) s = .next t ∧ Keeps J s t ∧
      (∀ k, k < ceilDiv data.length 256 →
        let a := pl.dstAt h.piece c + 256 * k
        let bs := slice data (256 * k) (min 256 (data.length - 256 * k))
        let w : Pkg := { dst := homeStrap a, src := 0x40 + pl.pd, op := 2, ctx := pl.ctx, gen := pl.gen, len := bs.length / 32,
                         origin := 1, slot := pl.slot, addr := a, data := bs }
        (∃ x ∈ t.txns, x.owner = .coll pl.pd pl.ctx pl.coll ∧ x.req = 2 ∧ x.reqAddr = a ∧ x.dst = chunkKey h.piece c) ∧
          (data.length ≤ 256 → delivered s w = true → ∃ n, { w with tag := n } ∈ t.net)) ∧
      -- its GRANT returns once it is written, not before (R308)
      (tget 0 i.wrote (chunkKey h.piece c) ≠ 1 → ∃ j, held j t ∧ tget 0 j.down (chunkKey h.piece c) = p.srcNode + 1)) ∧
    (i.released = false → (∀ n ∈ pl.children, n ∈ i.arrived ++ [p.srcNode]) → (∀ n ∈ pl.children, known n) →
      ∃ t, exec (.arrive e p) s = .next t ∧ Keeps J s t ∧
      (pl.isRoot = false → known pl.parent →
        leaves s t pl.pd (pl.ctrl s pl.parent i.seq {}) ∧ ∃ j, held j t ∧ j.released = true) ∧
      (pl.isRoot = true → expired s i = false → (∀ n ∈ pl.children, leaves s t pl.pd (pl.ctrl s n i.seq { subtype := 1 })) ∧
        findInst t pl.pd pl.ctx pl.coll = none)) ∧
    -- a completion stamped at the expiry or later is late (R25, R310)
    (expired s i = true → ∃ t, exec (.release e p) s = .next t ∧ Keeps J s t ∧
      ∃ j, held j t ∧ j.aborting = true ∧ j.reason = 0xC0) ∧
    (expired s i = false → ∃ t, exec (.release e p) s = .next t ∧ Keeps J s t ∧
      (∀ n ∈ pl.children, leaves s t pl.pd (pl.ctrl s n i.seq { subtype := 1 })) ∧
      findInst t pl.pd pl.ctx pl.coll = none ∧ (getPd t pl.pd).completed = (getPd s pl.pd).completed + 1 ∧
      (∃ n, wall s ≤ n ∧ (pl.children = [] → n = wall s) ∧
       let x : TickInc := { die := pl.die, arr := pl.arr, ctx := pl.ctx, pd := pl.pd, coll := pl.coll, seq := i.seq, stamp := n }
       if pl.hold then t.barrierHold = s.barrierHold ++ [x] ∧ t.tickIncs = s.tickIncs
       else t.tickIncs = s.tickIncs ++ [x] ∧ t.barrierHold = s.barrierHold)) ∧
    (pl.kind ≠ 5 → ∃ t, exec (.abort e p) s = .next t ∧ Keeps J s t ∧
      (∃ j, held j t ∧ j.aborting = true ∧ j.reason = h.reason ∧ j.settle = wall s ∧ j.owed = []) ∧
      ∀ n ∈ pl.neighbours, n ≠ p.srcNode → leaves s t pl.pd (pl.ctrl s n i.seq { subtype := 3, reason := h.reason })) ∧
    (∃ t, exec (.prune e p) s = .next t ∧ Keeps J s t ∧
      (pl.kind = 5 → p.srcNode ≠ pl.parent → i.owed = [] → fencedNeed s pl i = false → ∃ j, held j t ∧ j.fenced = i.fenced ++ [p.srcNode] ∧
        j.aborting = false) ∧
      (pl.kind ≠ 5 ∨ p.srcNode = pl.parent → ∃ j, held j t ∧ j.aborting = true ∧ j.reason = 0xC1))

/-- COLL_COMPLETE, COLL_TIMEOUT, SETTLE_WINDOW_CLOSE and GRANT_RETURN_DEADLINE.
The wall counter after a deadline (log 2) is the model's choice. -/
def Obligations.CollectiveInstancesEndAndGrantsReturn : Prop :=
  (∀ (pd : Pd) (ctx coll : Nat) (pl : Plan) (i : Inst) (s : State), findPlan s pd ctx coll = some pl →
    findInst s pd ctx coll = some i → s.stored = true →
    -- a completion stamped before the expiry is in time whenever it is judged (R25, R301)
    let ended (t : State) : Prop := t.insts = s.insts.filter (fun j => !j.is pd ctx coll) ∧
      (getPd t pd).completed = (getPd s pd).completed + 1 ∧ Keeps [.pds, .insts] s t
    (∃ t, exec (.collComplete pd ctx coll) s = .next t ∧
      (if i.doneAt = none ∧ instDone pl i = false then t = s
       else if i.doneAt = none ∧ expired s i = true then
         ∃ j, findInst t pd ctx coll = some j ∧ j.aborting = true ∧ j.reason = 0xC0
       else ended t) ∧
      Keeps (sending ++ ([.plans, .insts] : List Part)) s t) ∧
    (∃ t, exec (.collTimeout pd ctx coll) s = .next t ∧
      (let at_ := max s.time (3 * (i.start + 1000000 * i.timeout))
       if i.doneAt ≠ none then ended t
       else if i.aborting then t = s
       else at_ ≤ t.time ∧
         (∃ j, findInst t pd ctx coll = some j ∧ j.aborting = true ∧ j.reason = 0xC0 ∧ j.settle = wall { s with time := at_ }) ∧
         ∀ n ∈ pl.neighbours, n ≠ 0x8000 → leaves s t pd (pl.ctrl s n i.seq { subtype := 3, reason := 0xC0 })) ∧
      Keeps (sending ++ ([.plans, .insts] : List Part)) s t) ∧
    (∃ t, exec (.settleWindowClose pd ctx coll) s = .next t ∧
      (if i.aborting then t.time = max s.time (3 * (i.settle + 1000000)) ∧
         t.insts = s.insts.filter (fun j => !j.is pd ctx coll) ∧
         (t.plans = s.plans.map fun q => if q.is pd ctx coll then { q with aborted := true } else q) ∧
         (getPd t pd).aborts = (getPd s pd).aborts + 1 ∧
         (ctx ≠ 0 → (getCtx s ctx).state = 3 → (getCtx s ctx).gen = i.gen →
           (getCtx t ctx).state = 4 ∧ (getCtx t ctx).faults = (getCtx s ctx).faults + 1)
       else t = s) ∧
      Keeps (journaling ++ ([.time, .elog, .pds, .ctxs, .plans, .insts] : List Part)) s t)) ∧
  (∀ (pd : Pd) (pl : Plan) (k n : Nat) (s : State), pl.pd = pd → pl.returns = [(k, n)] →
    s.plans.filter (fun p => p.pd == (pd : Nat) && !p.returns.isEmpty) = [pl] → s.stored = true →
    ∃ t, exec (.grantReturnDeadline pd) s = .next t ∧ pl.returnSince + 1000 ≤ wall t ∧
      (∀ j, j < ceilDiv n 4096 →
        leaves s t pd (pl.ctrl s (k / 2) pl.seq { subtype := 2, grant := min 4096 (n - 4096 * j), flow := k % 2 })) ∧
      (∀ q ∈ t.plans, q.pd = pd → q.returns = []) ∧
      -- the neighbour may use that much room again (R295)
      (∀ q, findPlan s pd pl.ctx pl.coll = some q → ∃ r, findPlan t pd pl.ctx pl.coll = some r ∧
        tget 0 r.room k = tget 0 q.room k + n) ∧
      Keeps (sending ++ ([.plans] : List Part)) s t)

/-! ## Trust (R373 to R391) -/

/-- FW_IMAGE, DEVICE_CERT, ATTEST, SESSION_OPEN, KEY_PROVISION and SESSION_TIMEOUT: by a path, and the last three by the
mailbox of a host die. A firmware image is in the flash when its write completes, and a KEY_PROVISION with RECOVER of a paired device
is answered once the twin has acknowledged the mirror update.
The cryptographic functions are opaque (log 7), the wall counter after a deadline (log 2), one session for each
context and how long the answer waits for the twin (log 27), and when an image's write completes (log 31): the model's choices. -/
def Obligations.ImagesCertificatesReportsAndSessions : Prop :=
  (∀ (p : Path) (img : List Byte) (s : State), accepts s p oFwImage 0 img = true → s.stored = true →
    ∃ t, exec (.fwImage p img) s = .next t ∧ imageCheck s img = 0 ∧ t.flash.fwNew = some img ∧ t.flash.fw = s.flash.fw ∧
      Keeps journaling s t) ∧
  (∀ (img : List Byte) (s : State), s.pending = [] → quiet s → s.hub.loader = false → s.flash.fwNew = some img →
    ∃ t, step s = .next t ∧ t.flash.fw = img ∧ t.flash.fwNew = none ∧ Keeps [.time, .flash] s t) ∧
  (∀ (p : Path) (der : List Byte) (s : State), accepts s p oDeviceCert 0 der = true → s.stored = true →
    ∃ t, exec (.deviceCert p der) s = .next t ∧ (lcState s = 1 ∨ lcState s = 3) ∧
      Config.certKey der = slice (Config.ed25519Pub s.sec.idSeed) 0 32 ∧ blobGet t oDeviceCert 0 = der ∧
      (∃ w, t.mg.persist = s.mg.persist ++ [w] ∧ w.key = objKey oDeviceCert 0 ∧ w.value = der) ∧ Keeps journaling s t) ∧
  (∀ (p : Path) (nonce : List Byte) (s : State), accepts s p oAttest 0 nonce = true → s.stored = true →
    ∃ t, exec (.attest p nonce) s = .next t ∧ nonce.length = 32 ∧ noReports s = false ∧
      blobGet t oAttest 0 = plainReport s nonce ∧ Keeps journaling s t) ∧
  (∀ (p : Path) (arg : List Byte) (s : State), accepts s p oSessionOpen 0 arg = true → s.stored = true →
    ∃ t, exec (.sessionOpen p arg) s = .next t ∧ lcState s = 2 ∧ s.sec.tamper = 0 ∧
      blobGet t oSessionOpen 0 = (sessionOpen arg s).1 ∧ t.rnd = s.rnd + 1 ∧
      t.sec = { s.sec with sessions := (sessionOpen arg s).2.sec.sessions } ∧
      (s.sec.sessions.length ≤ 16 → t.sec.sessions.length ≤ 16) ∧ Keeps (journaling ++ ([.rnd,
        .sec] : List Part)) s t) ∧
  (∀ (p : Path) (arg : List Byte) (c : Nat) (s : State), c = (arg.getD 0 0).toNat →
    accepts s p oKeyProvision 0 arg = true →
    s.stored = true →
    ∃ t, exec (.keyProvision p arg) s = .next t ∧
      (∃ y, sessionFor s arg = some y ∧
        (let key := slice (Config.gcmDec y.key ivZero (slice arg 8 32)) 0 32
         getKey t c = { key := key, gen := y.gen, recover := bit (arg.getD 2 0).toNat 0, sealer := leNat (slice arg 4 2),
                        sealCount := 0, kcv := kcvOf key } ∧
         slice (blobGet t oKeyProvision 0) 0 16 = kcvOf key)) ∧
      (∀ z ∈ t.sec.sessions, z.ctx ≠ c) ∧ (∀ k, k ≠ c → getKey t k = getKey s k) ∧
      Keeps (journaling ++ ([.sec] : List Part)) s t) ∧
  (∀ (p : Path) (arg : List Byte) (s : State), isHst (pathCode p) = false → pathLive s p = true → s.hub.loader = false →
    writeStatus s p oKeyProvision 0 arg = 2 → arg.length = 56 → s.stored = true →
    ∃ t, exec (.keyProvision p arg) s = .next t ∧ t.sec.keys = s.sec.keys ∧
      t.sec.sessions = s.sec.sessions.filter (fun y => y.ctx != (arg.getD 0 0).toNat) ∧
      Keeps (journaling ++ ([.sec, .elog] : List Part)) s t) ∧
  (∀ (hd : Hd) (arg : List Byte) (p : Path) (s : State), p = (if hd = 0 then .hd0 else .hd1) → mailReady s hd = true →
    s.stored = true →
    (∃ t, exec (.attest p arg) s = .next t ∧
      mailAnswered s t hd (attestStatus s arg) s.jrnl.next (if attestStatus s arg = 0 then plainReport s arg else []) ∧
      onlyMail s t hd ∧ Keeps (journaling ++ ([.mem, .ecc] : List Part)) s t) ∧
    (∃ t, exec (.sessionOpen p arg) s = .next t ∧
      mailAnswered s t hd (sessionStatus s arg) s.jrnl.next (if sessionStatus s arg = 0 then (sessionOpen arg s).1 else []) ∧
      (if sessionStatus s arg = 0 then t.sec = { s.sec with sessions := (sessionOpen arg s).2.sec.sessions }
       else t.sec = s.sec) ∧
      onlyMail s t hd ∧ Keeps (journaling ++ ([.rnd, .sec, .mem, .ecc] : List Part)) s t) ∧
    (∃ t, exec (.keyProvision p arg) s = .next t ∧
      (if provisionStatus s arg = 0 ∧ bit (arg.getD 2 0).toNat 0 = true ∧ s.twin.state = 2 then
         (getHost t hd).busy = (getHost s hd).busy ∧ (∀ a, memGet t a = memGet s a) ∧
           (getHost t hd).keyAns = some (s.twin.mirrorCount, wall s + 10000000, s.jrnl.next, (keyProvision arg s).1)
       else mailAnswered s t hd (provisionStatus s arg) s.jrnl.next
         (if provisionStatus s arg = 0 then (keyProvision arg s).1 else [])) ∧
      t.sec.keys = (if provisionStatus s arg = 0 then (keyProvision arg s).2.sec.keys else s.sec.keys) ∧
      onlyMail s t hd ∧ Keeps (journaling ++ ([.sec, .mem, .ecc] : List Part)) s t)) ∧
  -- byte 16 of the response says whether the twin has acknowledged the mirror update (R382)
  (∀ (hd : Hd) (n due jn : Nat) (r : List Byte) (s : State), (getHost s hd).keyAns = some (n, due, jn, r) → s.stored = true →
    let acked := s.twin.state == 2 && decide (n ≤ s.twin.blobAcked)
    let t := answerKey hd s
    if acked = true ∨ s.twin.state ≠ 2 ∨ due ≤ wall s then
      (getHost t hd).keyAns = none ∧ mailAnswered s t hd 0 jn (slice r 0 16 ++ [byte (bnat acked)] ++ List.replicate 7 0) ∧
        onlyMail s t hd ∧ Keeps (journaling ++ ([.mem, .ecc] : List Part)) s t
    else t = s) ∧
  (∀ (c : Nat) (y : Session) (s : State), s.sec.sessions.find? (fun z => z.ctx == c) = some y →
    ∃ t, exec (.sessionTimeout c) s = .next t ∧ t.time = max s.time (3 * (y.since + 60000000000)) ∧
      t.sec = { s.sec with sessions := s.sec.sessions.filter (fun z => z.ctx != c) } ∧ Keeps [.time, .sec] s t)

/-- KEY_RECOVER, KEY_RECOVER_RESPONSE and KEY_RECOVER_TIMEOUT.
The cryptographic functions are opaque (log 7), the wall counter after a deadline (log 2), and one recovery at a time
and its journaling (log 27): the model's choices. -/
def Obligations.KeysAreRecovered : Prop :=
  (∀ (p : Path) (arg : List Byte) (c : Nat) (s : State), c = (arg.getD 0 0).toNat →
    accepts s p oKeyRecover 0 arg = true →
    s.stored = true →
    ∃ t, exec (.keyRecover p arg) s = .next t ∧ (getCtx s c).state = 1 ∧ hasKey s c = false ∧
      (arg.getD 1 0 = 0 → ∃ e, recoverEntry s (slice arg 8 16) = some e ∧
        getKey t c = { key := e.2.key, gen := (getCtx s c).gen, recover := true, sealer := leNat (slice arg 6 2),
                       sealCount := 0, kcv := kcvOf e.2.key }) ∧
      (arg.getD 1 0 ≠ 0 → ∃ x n, t.sec = { s.sec with recovery := some x } ∧ x.ctx = c ∧
        x.node = leNat (slice arg 2 2) ∧
        x.srcCtx = (arg.getD 4 0).toNat ∧ x.srcGen = (arg.getD 5 0).toNat ∧ x.kcv = slice arg 8 16 ∧ x.start = wall s ∧
        Output.mgmtMsg x.node 3 n (x.report ++ slice (Config.x25519Pub x.priv) 0 32) ∈ t.out) ∧
      (∀ k, k ≠ c → getKey t k = getKey s k) ∧ Keeps (journaling ++ ([.rnd, .sec] : List Part)) s t) ∧
  (∀ (node : Nat) (r pub wrapped tag : List Byte) (x : Recovery) (s : State), s.sec.recovery = some x → x.node = node →
    wall s < x.start + 1000000000 → s.stored = true →
    ∃ t, exec (.keyRecoverResponse node r pub wrapped tag) s = .next t ∧ t.sec.recovery = none ∧
      (let wk := recoverKey x.report r x.priv pub x.srcCtx x.srcGen
       let key := slice (Config.gcmDec wk ivZero wrapped) 0 32
       let ok := goodPeer r pub && slice (Config.gcmTag wk ivZero [] wrapped) 0 16 == slice tag 0 16 && kcvOf key == x.kcv &&
         (getCtx s x.ctx).state == 1 && !hasKey s x.ctx
       if ok then getKey t x.ctx = { key := key, gen := (getCtx s x.ctx).gen, recover := true, sealer := x.sealer,
                                     sealCount := 0, kcv := x.kcv }
       else t.sec.keys = s.sec.keys) ∧
      (∀ k, k ≠ x.ctx → getKey t k = getKey s k) ∧ Keeps (journaling ++ ([.sec] : List Part)) s t) ∧
  (∀ (x : Recovery) (s : State), s.sec.recovery = some x → s.stored = true →
    ∃ t, exec .keyRecoverTimeout s = .next t ∧ t.time = max s.time (3 * (x.start + 1000000000)) ∧
      t.sec = { s.sec with recovery := none } ∧ Keeps (journaling ++ ([.time, .sec] : List Part)) s t)

/-- TAMPER_WIPE: secure SRAM is wiped whole and every ACTIVE context with a key is reset (R375, R376). PROVISION,
  DEPLOY,
ENTER_SERVICE, LEAVE_SERVICE, RETIRE and SV_COMMIT: the fuses they burn, and the wipe (R388, R389).
LEAVE_SERVICE taking effect at the next power-up (log 25), the stamp of a second detector (log 28) and the random
source (log 7) are the model's choices. -/
def Obligations.TamperAndLifeCycleWipeSecureMemory : Prop :=
  (∀ (flags : Nat) (s : State), s.hub.on = true → flags % 8 ≠ 0 → s.stored = true →
    ∃ t, exec (.tamperWipe flags) s = .next t ∧
      t.sec.keys = [] ∧ t.sec.sessions = [] ∧ t.sec.pairKey = [] ∧ t.sec.idSeed = [] ∧ t.sec.recovered = [] ∧
      t.sec.recovery = none ∧ (∀ e, e < 24 → (getOe t e).secret = [] ∧ (getOe t e).session = [] ∧
        (getOe t e).priv = []) ∧
      (∀ i, i < 3 → bit t.sec.tamper i = (bit flags i || bit s.sec.tamper i)) ∧
      t.sec.tamperAt = (if s.sec.tamper = 0 then wall s else s.sec.tamperAt) ∧
      (∀ c, c ≠ 0 → (getCtx s c).state = 3 → hasKey s c = true →
        (getCtx t c).state = 5 ∧ (getCtx t c).faults = (getCtx s c).faults + 1) ∧
      (∀ c, (getCtx s c).state ≠ 3 ∨ hasKey s c = false → (getCtx t c).state = (getCtx s c).state) ∧
      Keeps (journaling ++ ([.sec, .elog, .facets, .cds, .oes, .ctxs, .mem, .ecc, .engines, .txns,
        .xch] : List Part)) s t) ∧
  (∀ s : State, hubUp s = true → lcState s = 0 → flashOk s = true → s.stored = true →
    ∃ t, exec .provision s = .next t ∧ t.sec.lc = setBit s.sec.lc 0 ∧ t.sec.keys = [] ∧
      t.sec.secret = Config.random32 s.rnd ∧
      t.sec.boots = 0 ∧ Keeps (journaling ++ ([.free, .rnd, .sec, .oes] : List Part)) s t) ∧
  -- a refused one is journaled (R391)
  (∀ s : State, hubUp s = true → lcState s ≠ 0 ∨ flashOk s = false → s.stored = true →
    ∃ t, exec .provision s = .next t ∧ t.sec = s.sec ∧
      (s.jrnl.closed = false → s.hub.resumed = true → s.jrnl.next < t.jrnl.next) ∧
      Keeps (journaling ++ ([.elog] : List Part)) s t) ∧
  (∀ (p : Path) (s : State), accepts s p oLcCommand 0 [1] = true → s.stored = true →
    ∃ t, exec (.deploy p) s = .next t ∧ lcState s = 1 ∧ blobGet s oDeviceCert 0 ≠ [] ∧ t.sec.lc = setBit s.sec.lc 1 ∧
      t.sec.keys = [] ∧ t.sec.sessions = [] ∧ t.sec.pairKey = [] ∧ Keeps (journaling ++ ([.sec,
        .oes] : List Part)) s t) ∧
  (∀ (p : Path) (s : State), accepts s p oLcCommand 0 [2] = true → s.stored = true →
    ∃ t, exec (.enterService p) s = .next t ∧ lcState s = 2 ∧ (∀ c, (getCtx s c).state = 0) ∧ toggles s.sec.lc < 48 ∧
      t.sec.lc = setBit s.sec.lc (2 + toggles s.sec.lc) ∧ t.sec.keys = [] ∧ t.sec.sessions = [] ∧ t.sec.pairKey = [] ∧
      Keeps (journaling ++ ([.sec, .oes] : List Part)) s t) ∧
  (∀ (p : Path) (s : State), accepts s p oLcCommand 0 [3] = true → s.stored = true →
    ∃ t, exec (.leaveService p) s = .next t ∧ lcState s = 3 ∧ s.sec.leavePending = false ∧
      t.sec = { s.sec with lc := setBit s.sec.lc (2 + toggles s.sec.lc), leavePending := true } ∧ lcState t = 3 ∧
      Keeps (journaling ++ ([.sec] : List Part)) s t) ∧
  (∀ (p : Path) (s : State), accepts s p oLcCommand 0 [4] = true → s.stored = true →
    ∃ t, exec (.retire p) s = .next t ∧ (∀ c, (getCtx s c).state = 0) ∧ t.sec.lc = setBit s.sec.lc 63 ∧
      t.sec.leavePending = false ∧ t.sec.keys = [] ∧
      t.sec.sessions = [] ∧ t.sec.pairKey = [] ∧ Keeps (journaling ++ ([.sec, .oes] : List Part)) s t) ∧
  (∀ (p : Path) (s : State), accepts s p oLcCommand 0 [5] = true → s.stored = true →
    ∃ t, exec (.svCommit p) s = .next t ∧ t.sec = { s.sec with svMin := max s.sec.svMin (min 32 s.sec.fwVersion) } ∧
      Keeps (journaling ++ ([.sec] : List Part)) s t)


/-! ## Management (R392 to R407, R422) -/

/-- READ, DESCRIBE, PING, BOOT_STATUS, IMAGE_CHUNK and COMMIT on an IOAP path,
  with the answer each gets; a repeated REQ_ID
is answered from the kept response; a message goes to the operation it names, or is counted as malformed.
A descriptor's texts (log 30), the loader's operations in firmware (log 31), kept answers (log 32), reads past the
end (log 36) and the layout of MCTP packets (log 131) are the model's choices. -/
def Obligations.IoapRequestsAreAnswered : Prop :=
  (∀ (p : Path) (src : List Byte) (req ix sub off len : Nat) (s : State), s.stored = true → s.hub.loader = false →
    serves s p src req = true →
    let r : Resp := { path := pathCode p, source := requester p src, reqId := req, index := ix, sub := sub }
    (∃ t, exec (.read p src req ix sub off len) s = .next t ∧
      (let v := objRead s p ix sub
       let n := if len = 0 then min 992 (v.2.length - off) else len
       replied s t (if v.1 ≠ 0 then { r with op := 1, offset := off, status := v.1 }
         else if v.2.length < off + len ∨ 992 < len then { r with op := 1, offset := off, status := 6 }
         else { r with op := 1, offset := off, value := (v.2.drop off).take n, last := off + n == v.2.length })) ∧
      Keeps [.free, .hub, .mg, .twin, .elog, .out] s t) ∧
    (∃ t, exec (.describe p src req ix sub) s = .next t ∧
      replied s t (match findObj ix sub with
        | none => { r with op := 3, status := 5 }
        | some o => { r with op := 3, value := (descriptor o sub).take 992,
                             last := decide ((descriptor o sub).length ≤ 992) }) ∧
      Keeps [.hub, .mg, .twin, .out] s t)) ∧
  (∀ (p : Path) (src : List Byte) (req off : Nat) (v : List Byte) (s : State), s.stored = true →
    serves s p src req = true →
    let r : Resp := { path := pathCode p, source := requester p src, reqId := req, loader := s.hub.loader }
    (∃ t, exec (.ioapPing p src req) s = .next t ∧ replied s t { r with op := 4, value := u64 (wall s), last := true } ∧
      Keeps [.hub, .mg, .twin, .out] s t) ∧
    (∃ t, exec (.bootStatus p src req) s = .next t ∧ replied s t { r with op := 0x10, value := bootRecord s, last := true } ∧
      Keeps [.hub, .mg, .twin, .out] s t) ∧
    (∃ t, exec (.imageChunk p src req off v) s = .next t ∧ Keeps [.hub, .mg, .twin, .out] s t ∧
      (let st := if p = .twn then 4 else if allRefused s then 1 else if 8388864 < off + v.length ∨ 992 < v.length then 6 else 0
       replied s t { r with op := 0x11, offset := off, status := st } ∧ (st ≠ 0 → t.hub.staged = s.hub.staged ∧ t.hub.stagedLen = s.hub.stagedLen) ∧
       (st = 0 → (∀ i, i < v.length → tget 0 t.hub.staged (off + i) = v.getD i 0) ∧
         (∀ a, a < off ∨ off + v.length ≤ a → tget 0 t.hub.staged a = tget 0 s.hub.staged a) ∧
         t.hub.stagedLen = max s.hub.stagedLen (off + v.length)))) ∧
    (∃ t, exec (.commit p src req) s = .next t ∧ Keeps (journaling ++ ([.elog] : List Part)) s t ∧
      (let img := stagedImage s
       let st := if p = .twn then 4 else if s.hub.strapFault || allRefused s then 1 else if imageCheck s img ≠ 0 then 2
         else bnat (!flashOk s)
       (∃ n, replied s t { r with op := 0x12, status := st, jseq := n }) ∧
       t.flash.fw = s.flash.fw ∧ t.flash.fwNew = (if st = 0 then some img else s.flash.fwNew) ∧
       (st ≠ 4 → t.hub.staged = [] ∧ t.hub.stagedLen = 0)))) ∧
  (∀ (p : Path) (src : List Byte) (req ix sub off len : Nat) (v : List Byte) (b : Bool) (x : Resp) (c : Instr),
    c ∈ [Instr.read p src req ix sub off len, .describe p src req ix sub, .ioapPing p src req, .bootStatus p src req,
      .imageChunk p src req off v, .commit p src req, .write p src req ix sub off b (v.take 992)] →
    ∀ s : State, isHst (pathCode p) = false → pathLive s p = true → s.hub.loader = false → allRefused s = false →
    s.mg.kept.find? (fun x => x.source == requester p src && x.path == pathCode p && x.reqId == req) = some x →
    s.stored = true →
    ∃ t, exec c s = .next t ∧ replied s t x ∧ Keeps [.mg, .twin, .out] s t) ∧
  -- a datagram counts only where it was sent to an address of its port and to IOAP's UDP port (R393)
  (∀ (p : Path) (dest : Sent) (m : List Byte) (s : State),
    (p = .mgt0 ∧ addressed s 0 dest = false) ∨ (p = .mgt1 ∧ addressed s 1 dest = false) → exec (.ioapMessage p dest m) s = .next s) ∧
  -- over MCTP a message of type 0x7F and this enterprise number, here in one packet (R394)
  (∀ (dest : Sent) (dst eid seq tag : Nat) (m : List Byte) (s : State), pathLive s .mctp = true → dst < 256 → eid < 256 →
    dst = 0 ∨ dst = numGet s oMctpEid 0 → m.length ≤ 59 →
    exec (.ioapMessage .mctp dest (mctpPacket dst eid true true true seq tag (mctpPrefix ++ m))) s =
      .next (doIoap .mctp [byte eid] m
        { s with mg.mctpRx := s.mg.mctpRx.filter (fun x => !(x.eid == eid && x.tag == tag % 8)),
                 mg.mctpTags := s.mg.mctpTags.filter (fun x => x.1 != eid || x.2.1 != leNat (slice m 4 4)) ++
                   [(eid, leNat (slice m 4 4), tag % 8)] })) ∧
  (∀ (p : Path) (dest : Sent) (v mid : List Byte) (req ix sub op off len : Nat) (b : Bool) (s : State), req < 2 ^ 32 →
    p ≠ .mctp → (p = .mgt0 → addressed s 0 dest = true) → (p = .mgt1 → addressed s 1 dest = true) →
    ix < 2 ^ 16 →
    sub < 256 → off < 2 ^ 32 → len < 2 ^ 16 → mid.length = 10 → v.length ≤ 992 → isHst (pathCode p) = false →
    let src := dest.source
    let m (op n : Nat) (v : List Byte) : List Byte := [0x49, 0x4F, 1, byte op] ++ u32 req ++ u16 ix ++
      [byte sub, byte (2 * bnat b)] ++ u32 off ++ u16 n ++ mid ++ [0, 0, 0, 0] ++ v
    exec (.ioapMessage p dest (m 1 len [])) s = exec (.read p src req ix sub off len) s ∧
      exec (.ioapMessage p dest (m 2 v.length v)) s = exec (.write p src req ix sub off b v) s ∧
      exec (.ioapMessage p dest (m 3 v.length v)) s = exec (.describe p src req ix sub) s ∧
      exec (.ioapMessage p dest (m 4 v.length v)) s = exec (.ioapPing p src req) s ∧
      exec (.ioapMessage p dest (m 0x10 v.length v)) s = exec (.bootStatus p src req) s ∧
      exec (.ioapMessage p dest (m 0x11 v.length v)) s = exec (.imageChunk p src req off v) s ∧
      exec (.ioapMessage p dest (m 0x12 v.length v)) s = exec (.commit p src req) s ∧
      (s.hub.loader = false → serves s p src req = true → op < 256 → op ∉ [1, 2, 3, 4, 0x10, 0x11, 0x12] →
        s.stored = true →
        ∃ t, exec (.ioapMessage p dest (m op v.length v)) s = .next t ∧ Keeps [.hub, .mg, .twin, .out] s t ∧
          replied s t { path := pathCode p, source := requester p src, reqId := req, op := op, status := 7 })) ∧
  (∀ (p : Path) (dest : Sent) (m : List Byte) (s : State), m.length < 32 ∨ slice m 0 3 ≠ [0x49, 0x4F, 1] → pathLive s p = true →
    p ≠ .mctp → (p = .mgt0 → addressed s 0 dest = true) → (p = .mgt1 → addressed s 1 dest = true) →
    isHst (pathCode p) = false → s.stored = true →
    ∃ t, exec (.ioapMessage p dest m) s = .next t ∧
      counterAt t oPathStats (pathCode p) 3 = (counterAt s oPathStats (pathCode p) 3 + 1) % 2 ^ 64 ∧ Keeps [.mg] s t)

/-- WRITE, whole or in chunks, OBJECT_WRITE,
  STAGED_WRITE_TIMEOUT and PERSISTENT_WRITE_COMMITTED. A refused write changes no
value.
The wall counter after a deadline (log 2), the refusal of another source (log 34) and one image for each write (log
37) are the model's choices. -/
def Obligations.WritesAreJudgedStagedAndCommitted : Prop :=
  (∀ (p : Path) (src v : List Byte) (req ix sub : Nat) (s : State), s.hub.loader = false → serves s p src req = true →
    (tget {} s.mg.staged (pathCode p)).last = 0 ∨
      (tget {} s.mg.staged (pathCode p)).last - 1 + 10000000000 ≤ wall s → v.length ≤ 992 → s.stored = true →
    let r : Resp := { path := pathCode p, source := requester p src, reqId := req, op := 2, index := ix, sub := sub }
    (∀ (off : Nat) (b : Bool), off ≠ 0 → ∃ t, exec (.write p src req ix sub off b v) s = .next t ∧
      replied s t { r with offset := off, status := 6 } ∧ t.mg.staged = s.mg.staged ∧ Keeps [.hub, .mg, .twin, .out] s t) ∧
    (writeStatus s p ix sub v ≠ 0 → ∃ t, exec (.write p src req ix sub 0 true v) s = .next t ∧
      (∃ n, replied s t { r with status := writeStatus s p ix sub v, jseq := n }) ∧ t.mg.num = s.mg.num ∧
      t.mg.pend = s.mg.pend ∧ t.mg.persist = s.mg.persist ∧ Keeps (journaling ++ ([.sec, .elog] : List Part)) s t) ∧
    (∀ o, writeStatus s p ix sub v = 0 → findObj ix sub = some o → isCommand o = false → o.effect ≠ 1 →
      isGeometry (objKey ix sub) = false → s.jrnl.closed = false →
      ∃ t, exec (.write p src req ix sub 0 true v) s = .next t ∧ t.jrnl.next = s.jrnl.next + 1 ∧
      (∃ w, t.mg.pend = s.mg.pend ++ [w] ∧ w.key = objKey ix sub ∧ w.value = maskValue ix v ∧ w.effect = o.effect ∧
        w.seq = s.jrnl.next ∧ w.accepted = wall s) ∧
      (o.persist = true → ∃ w, t.mg.persist = s.mg.persist ++ [w] ∧ w.key = objKey ix sub ∧ w.value = maskValue ix v ∧
        w.seq = s.jrnl.next ∧ w.resp = some { r with jseq := s.jrnl.next }) ∧
      Keeps journaling s t) ∧
    (takesChunks ix sub = true → ∃ t, exec (.write p src req ix sub 0 false v) s = .next t ∧ replied s t r ∧
      tget {} t.mg.staged (pathCode p) =
        { source := requester p src, key := objKey ix sub, bytes := v, last := wall s + 1 } ∧ Keeps [.hub, .mg, .twin, .out] s t)) ∧
  (∀ (p : Path) (src v : List Byte) (req ix sub off : Nat) (b : Bool) (x : Staged) (s : State), s.hub.loader = false →
    serves s p src req = true → x = tget {} s.mg.staged (pathCode p) → x.last ≠ 0 →
    wall s < x.last - 1 + 10000000000 → v.length ≤ 992 → s.stored = true →
    let r : Resp := { path := pathCode p, source := requester p src, reqId := req, op := 2, index := ix, sub := sub,
                      offset := off }
    (x.source ≠ requester p src → ∃ t, exec (.write p src req ix sub off b v) s = .next t ∧
      replied s t { r with status := 3 } ∧ t.mg.staged = s.mg.staged ∧ Keeps [.hub, .mg, .twin, .out] s t) ∧
    (x.source = requester p src → off ≠ 0 → x.key ≠ objKey ix sub ∨ off ≠ x.bytes.length →
      ∃ t, exec (.write p src req ix sub off b v) s = .next t ∧ replied s t { r with status := 6 } ∧
        t.mg.staged = s.mg.staged ∧ Keeps [.hub, .mg, .twin, .out] s t) ∧
    (x.source = requester p src → off ≠ 0 → x.key = objKey ix sub → off = x.bytes.length →
      ∃ t, exec (.write p src req ix sub off false v) s = .next t ∧ replied s t r ∧
        tget {} t.mg.staged (pathCode p) = { x with bytes := x.bytes ++ v, last := wall s + 1 } ∧
        Keeps [.hub, .mg, .twin, .out] s t)) ∧
  (∀ (p : Path) (ix sub : Nat) (v : List Byte) (s : State), isHst (pathCode p) = false → pathLive s p = true →
    s.hub.loader = false → writeStatus s p ix sub v ≠ 0 → s.stored = true →
    ∃ t, exec (.objectWrite p ix sub v) s = .next t ∧ t.mg.num = s.mg.num ∧ t.mg.pend = s.mg.pend ∧
      t.mg.persist = s.mg.persist ∧ Keeps (journaling ++ ([.sec, .elog] : List Part)) s t) ∧
  (∀ (p : Path) (ix sub : Nat) (o : Obj) (v : List Byte) (s : State), accepts s p ix sub v = true →
    findObj ix sub = some o → isCommand o = false → o.effect ≠ 1 → isGeometry (objKey ix sub) = false →
      s.stored = true →
    ∃ t, exec (.objectWrite p ix sub v) s = .next t ∧
      (∃ w, t.mg.pend = s.mg.pend ++ [w] ∧ w.key = objKey ix sub ∧ w.value = maskValue ix v ∧ w.effect = o.effect ∧
        w.accepted = wall s) ∧
      (o.persist = true → ∃ w, t.mg.persist = s.mg.persist ++ [w] ∧ w.key = objKey ix sub ∧ w.value = maskValue ix v) ∧
      Keeps journaling s t) ∧
  -- geometry of an unassigned device takes effect at the next tick of the lowest facet that is not OFF (R279)
  (∀ (p : Path) (ix sub : Nat) (o : Obj) (v : List Byte) (s : State), accepts s p ix sub v = true →
    findObj ix sub = some o → isCommand o = false → o.effect ≠ 1 → isGeometry (objKey ix sub) = true → nodeId s = 0x8000 →
    lowestOn s ≠ none → s.stored = true →
    ∃ t, exec (.objectWrite p ix sub v) s = .next t ∧
      (∃ w, t.mg.pend = s.mg.pend ++ [w] ∧ w.key = objKey ix sub ∧ w.value = maskValue ix v ∧ w.effect = 5) ∧
      Keeps journaling s t) ∧
  (∀ (hd : Hd) (ix sub : Nat) (v : List Byte) (s : State),
    exec (.objectWrite (if hd = 0 then .hd0 else .hd1) ix sub v) s = exec (.objWrite hd ix sub v) s) ∧
  (∀ (p : Path) (s : State), (tget {} s.mg.staged (pathCode p)).last ≠ 0 → s.stored = true →
    ∃ t, exec (.stagedWriteTimeout p) s = .next t ∧ tget {} t.mg.staged (pathCode p) = {} ∧
      t.time = max s.time (3 * ((tget {} s.mg.staged (pathCode p)).last - 1 + 10000000000)) ∧
      (∀ k, k ≠ pathCode p → tget {} t.mg.staged k = tget {} s.mg.staged k) ∧ Keeps [.time, .mg] s t) ∧
  (∀ (w : PersistWait) (rest : List PersistWait) (s : State), s.mg.persist = w :: rest → (liveImage s).1 < w.seq →
    s.stored = true →
    ∃ t, exec .persistentWriteCommitted s = .next t ∧ t.mg.persist = rest ∧ (liveImage t).1 = w.seq ∧
      (∀ o, findObj (w.key / 256) (w.key % 256) = some o → rising none (liveImage s).2 = true →
        (w.value ≠ defaultBytes o (w.key % 256) → tget [] (liveImage t).2 w.key = w.value) ∧
        (w.value = defaultBytes o (w.key % 256) → tget [] (liveImage t).2 w.key = []) ∧
        ∀ k, k ≠ w.key → tget [] (liveImage t).2 k = tget [] (liveImage s).2 k) ∧
      (∀ r, w.resp = some r → r.path ≠ 6 → replied s t r ∧ Keeps [.hub, .flash, .mg, .twin, .out] s t) ∧
      (∀ hd : Hd, w.resp = none → w.path = 4 + hd.val →
        mailAnswered s t hd 0 w.seq [] ∧ onlyMail s t hd) ∧
      Keeps [.hub, .flash, .mg, .twin, .hosts, .mem, .ecc, .out] s t)

/-- ICMPV6_ECHO, NEIGHBOUR_DISCOVERY, MULTICAST_LISTENER_QUERY, MCTP_ADDRESS_ASSIGN and MGT_PORT_LINK_CHANGE (R393,
  R394);
M_MGMT and FRAGMENT_TIMEOUT: fragments of a message in any order, the room of the receive buffer, a whole message; and
TWIN_HEARTBEAT, which is one (R395, R396).
The wall counter after a deadline (log 2) and what is sent (log 3) are the model's choices. -/
def Obligations.ManagementPortsAnswerAndMessagesReassemble : Prop :=
  (∀ (port : Fin 2) (dst data : List Byte) (s : State), portsUp s = true →
    ∃ t, exec (.icmpv6Echo port dst data) s = .next t ∧
      t.out = s.out ++ (if dst ∈ portAddresses s port then [.icmpReply port data] else []) ∧ Keeps [.out] s t) ∧
  (∀ (port : Fin 2) (dst : List Byte) (s : State), portsUp s = true →
    ∃ t, exec (.neighbourDiscovery port dst) s = .next t ∧
      t.out = s.out ++ (if dst ∈ portAddresses s port then [.ndpReply port dst (macOf port)] else []) ∧
        Keeps [.out] s t) ∧
  (∀ (port : Fin 2) (s : State), portsUp s = true →
    ∃ t l, exec (.multicastListenerQuery port) s = .next t ∧ t.out = s.out ++ ([.mldReport port l] : List Output) ∧
      (∀ a ∈ portAddresses s port, [0xFF, 2, 0, 0, 0, 0, 0, 0, 0, 0, 0, 1, 0xFF] ++ slice a 13 3 ∈ l) ∧
        Keeps [.out] s t) ∧
  (∀ (dyn eid : Nat) (s : State), portsUp s = true → s.stored = true →
    ∃ t, exec (.mctpAddressAssign dyn eid) s = .next t ∧ numGet t oMctpEid 0 = eid % 256 ∧ t.hub.mctpDyn = dyn % 128 ∧
      Keeps [.hub, .mg] s t) ∧
  (∀ (port : Fin 2) (up : Bool) (s : State), s.hub.on = true → s.stored = true →
    ∃ t, exec (.mgtPortLinkChange port up) s = .next t ∧ numGet t oMgtPortState (port + 1) = (if up then 1 else 0) ∧
      Keeps [.mg] s t) ∧
  (∀ (e : Oe) (p : Mpk) (s : State), ejects s e = true → nodeId s ≠ 0x8000 → p.dstNode = nodeId s → hubUp s = true → s.hub.resumed = true →
    (∀ x ∈ s.mg.reasm, x.node = p.srcNode → x.msgId = leNat (slice p.data 0 4) → wall s < x.first + 100000000) →
    s.stored = true →
    ∃ t, exec (.mMgmt e p) s = .next t ∧
      (let id := leNat (slice p.data 0 4)
       let kind := (p.data.getD 4 0).toNat
       let total := leNat (slice p.data 8 4)
       let off := leNat (slice p.data 12 4)
       let n := min 208 (total - off)
       let body := slice p.data 16 n
       let mine := s.mg.reasm.find? fun x => x.node == p.srcNode && x.msgId == id
       let good := 1 ≤ kind ∧ kind ≤ 7 ∧ total ≤ 65536 ∧ off < total ∧ 16 + n ≤ p.data.length
       (¬good → counterAt t oPathStats 6 3 = (counterAt s oPathStats 6 3 + 1) % 2 ^ 64 ∧
         (∀ x ∈ t.mg.reasm, x.node = p.srcNode → x.msgId ≠ id) ∧ Keeps [.mg, .oes, .out] s t) ∧
       (good → 65536 < rxHeld s + n → t.mg.reasm = s.mg.reasm ∧
         numGet t oMgmtRxDrops 0 = (numGet s oMgmtRxDrops 0 + 1) % 2 ^ 64 ∧ Keeps [.mg, .elog, .oes, .out] s t) ∧
       (good → rxHeld s + n ≤ 65536 → mine = none → n < total →
         t.mg.reasm = s.mg.reasm.filter (fun x => !(x.node == p.srcNode && x.msgId == id)) ++
           [{ node := p.srcNode, msgId := id, kind := kind, total := total, parts := [(off, body)], first := wall s }] ∧
         Keeps [.mg, .oes, .out] s t) ∧
       (good → rxHeld s + n ≤ 65536 → mine = none → off = 0 → n = total → kind = 2 → s.twin.node = p.srcNode →
         s.twin.state ≠ 0 → ((s.twin.state = 2 ∨ s.twin.state = 4) → wall s < s.twin.lastBeat + 100000000) →
         t.twin = { s.twin with lastBeat := wall s } ∧ Keeps [.mg, .twin, .oes, .out] s t))) ∧
  (∀ (x : Reasm) (node id : Nat) (s : State), s.mg.reasm.find? (fun x => x.node == node && x.msgId == id) = some x →
    s.stored = true →
    ∃ t, exec (.fragmentTimeout node id) s = .next t ∧ t.mg.reasm = s.mg.reasm.erase x ∧
      t.time = max s.time (3 * (x.first + 100000000)) ∧
      counterAt t oPathStats 6 3 = (counterAt s oPathStats 6 3 + 1) % 2 ^ 64 ∧ Keeps [.time, .mg] s t)



/-- PORT_MASK, COLL_HOLD_RELEASE, JOURNAL_FLUSH and CHECKPOINT_COMMIT.
The argument of a flush entry and its record without flash (log 51) are the model's choices. -/
def Obligations.MasksHoldsFlushesAndCheckpoints : Prop :=
  (∀ (p : Path) (v : Nat) (s : State), accepts s p oPortMask 0 [byte v] = true → s.stored = true →
    ∃ t, exec (.portMask p v) s = .next t ∧ epochFree s = true ∧ 1 ≤ v % 256 ∧ v % 256 ≤ 15 ∧
      numGet t oPortMask 0 = v % 256 ∧ routeEpoch t = (routeEpoch s + 1) % 65536 ∧
      (∃ w, t.mg.persist = s.mg.persist ++ [w] ∧ w.key = objKey oPortMask 0 ∧ w.value = [byte v]) ∧
        Keeps journaling s t) ∧
  (∀ (p : Path) (v : Nat) (s : State), accepts s p oCollHoldRelease 0 [byte v] = true → s.stored = true →
    ∃ t, exec (.collHoldRelease p v) s = .next t ∧ v % 256 = 1 ∧ t.barrierHold = [] ∧
      t.tickIncs = s.tickIncs ++ s.barrierHold.map (fun i => { i with stamp := wall s }) ∧ Keeps (journaling ++ ([.tickIncs, .barrierHold] : List Part)) s t) ∧
  (∀ (p : Path) (v : Nat) (s : State), accepts s p oJournalFlush 0 [byte v] = true → s.jrnl.closed = false →
    s.stored = true →
    ∃ t, exec (.journalFlush p v) s = .next t ∧ v % 256 = 1 ∧ t.jrnl.next = s.jrnl.next + 2 ∧
      (∃ r : FlushRec, t.jrnl.last = some r.ckpt ∧ r.ckpt.kind = 1 ∧ r.ckpt.seq = s.jrnl.next + 1 ∧
        r.ckpt.chain = t.jrnl.chain ∧
        r.tail.length = (s.jrnl.next + 2) % 256 ∧
        (if flashOk s then newFlush t = some r else t.standby.flush = some r)) ∧ Keeps journaling s t) ∧
  (∀ (c : Checkpoint) (rest : List Checkpoint) (s : State), s.standby.waiting = c :: rest → s.stored = true →
    ∃ t, exec .checkpointCommit s = .next t ∧
      (if hubUp s ∧ flashOk s then t.standby = { s.standby with waiting := rest } ∧
        t.flash.nCkpts = s.flash.nCkpts + 1 ∧
         tget {} t.flash.ckpts (s.flash.nCkpts % 4096) = c ∧
         (∀ k, k ≠ s.flash.nCkpts % 4096 → tget {} t.flash.ckpts k = tget {} s.flash.ckpts k)
       else t = s) ∧ Keeps [.flash, .standby] s t)

/-! ## The twin pair (R383, R384, R415 to R421) -/

/-- TWIN_PAIR, TWIN_REPLACE, TWIN_DETACH_RELEASE, TWIN_DETACH_HANDOVER, TWIN_HEARTBEAT, TWIN_HEARTBEAT_TIMEOUT and
TWIN_PAIRING_TIMEOUT. States: 0 NONE, 1 PAIRING, 2 PAIRED, 3 HOLDING, 4 PULLING.
The wall counter after a deadline (log 2), messages recorded whole and the content of a heartbeat (log 38) and the states in
which a pair is released (log 56) are the model's choices. -/
def Obligations.TwinsPairDetachAndAreLost : Prop :=
  (∀ (p : Path) (node : Nat) (id : List Byte) (c : Instr) (mode st : Nat), (c, mode,
    st) ∈ [(Instr.twinPair p node id, 0, 1),
      (.twinReplace p node id, 1, 4)] →
    ∀ s : State, node < 2 ^ 16 → accepts s p oTwinPair 0 (pairValue node mode id) = true → s.stored = true →
    ∃ t, exec c s = .next t ∧ s.twin.state = 0 ∧ tray node ≠ tray (latestNum s oNodeId 0) ∧ t.twin.state = st ∧ t.twin.node = node ∧
      t.twin.twinId = slice id 0 16 ∧ t.twin.since = wall s ∧ t.twin.lastBeat = wall s ∧
        t.twin.priv = Config.random32 s.rnd ∧
      (∃ n, Output.mgmtMsg node 3 n (t.twin.report ++ slice (Config.x25519Pub (Config.random32 s.rnd)) 0 32) ∈ t.out) ∧
      Keeps (journaling ++ ([.rnd] : List Part)) s t) ∧
  (∀ (p : Path) (s : State), accepts s p oTwinDetach 0 [0] = true → s.stored = true →
    ∃ t, exec (.twinDetachRelease p) s = .next t ∧ (s.twin.state = 2 ∨ s.twin.state = 3) ∧ t.twin.state = 0 ∧
      t.sec = { s.sec with pairKey := [] } ∧
      (pathCode p ≠ 6 → s.twin.state = 2 → ∃ n k, Output.mgmtMsg s.twin.node 1 n
        (sealTwin { s with twin.txCount := k } (ioapBytes 2 0 oTwinDetach 0 2 0 0 0 [0])) ∈ t.out) ∧
      Keeps (journaling ++ ([.sec, .elog] : List Part)) s t) ∧
  (∀ (p : Path) (s : State), accepts s p oTwinDetach 0 [1] = true → s.stored = true →
    ∃ t, exec (.twinDetachHandover p) s = .next t ∧ s.twin.state = 2 ∧ s.twin.handover = none ∧
      (pathCode p ≠ 6 → t.twin.state = 2 ∧ t.twin.handover = some (jseq t) ∧ t.sec = s.sec ∧
        (s.jrnl.closed = false → ∃ c, t.jrnl.last = some c ∧ c.kind = 1 ∧ c.seq = jseq t)) ∧
      (pathCode p = 6 → t.twin.state = 3 ∧ t.twin.holdKey = s.sec.pairKey ∧ t.sec = { s.sec with pairKey := [] }) ∧
      Keeps (journaling ++ ([.sec, .elog] : List Part)) s t) ∧
  (∀ (node : Nat) (s : State),
    let late := (s.twin.state = 2 ∨ s.twin.state = 4) ∧ s.twin.lastBeat + 100000000 ≤ wall s
    (¬late → ∃ t, exec (.twinHeartbeat node) s = .next t ∧
      t.twin = (if s.twin.state ≠ 0 ∧ s.twin.node = node then { s.twin with lastBeat := wall s } else s.twin) ∧
      Keeps [.twin] s t) ∧
    (late → s.twin.node ≠ node → exec (.twinHeartbeat node) s = .next s) ∧
    (late → s.twin.node = node → exec (.twinHeartbeat node) s = exec .twinHeartbeatTimeout s)) ∧
  (∀ s : State, s.stored = true → ∃ t, exec .twinHeartbeatTimeout s = .next t ∧
    (s.twin.state = 2 ∨ s.twin.state = 4 → t.time = max s.time (3 * (s.twin.lastBeat + 100000000))) ∧
    (s.twin.state = 2 → t.twin.state = 3 ∧ t.twin.holdKey = s.sec.pairKey ∧ t.sec = { s.sec with pairKey := [] } ∧
      t.twin.holdJournal = s.twin.holdJournal ∧
      (∀ n e, s.twin.holdJournal.getLast? = some (n, e) → (∀ c ∈ s.twin.holdCkpts, c.seq ≠ n ∨ c.kind ≠ 0) →
        ∃ c ∈ t.twin.holdCkpts, c.seq = n ∧ c.kind = 2 ∧ c.chain = e.chain ∧ c.node = nodeId s)) ∧
    (s.twin.state = 4 → t.twin.state = 0 ∧ t.twin.inhJournal = s.twin.inhJournal ∧
      t.twin.pullStatus = s.twin.pullStatus ∧
      t.sec = { s.sec with pairKey := [] }) ∧
    (s.twin.state ≠ 2 → s.twin.state ≠ 4 → t = s) ∧ Keeps (journaling ++ ([.time, .sec, .elog] : List Part)) s t) ∧
  (∀ s : State, s.twin.state = 1 → s.stored = true → ∃ t, exec .twinPairingTimeout s = .next t ∧ t.twin.state = 0 ∧
    t.time = max s.time (3 * (s.twin.since + 30000000000)) ∧ t.sec = { s.sec with pairKey := [] } ∧
    Keeps (journaling ++ ([.time, .sec, .elog] : List Part)) s t) ∧
  -- in an idle step (`idleStep`) one heartbeat leaves for the twin, 10 ms after the last or later, and no second one
  (∀ s : State, twinned s = true → hubUp s = true → s.hub.resumed = true → s.twin.beatSent + 10000000 ≤ wall s →
    s.stored = true →
    (∃ b, (twinBeats s).out = s.out ++ [.mgmtMsg s.twin.node 2 (tget 1 s.mg.msgIds s.twin.node) [b]]) ∧
      (twinBeats s).mg.outbox.length = s.mg.outbox.length + 1 ∧ (twinBeats s).twin = { s.twin with beatSent := wall s } ∧
      twinBeats (twinBeats s) = twinBeats s ∧ Keeps [.free, .mg, .twin, .out] s (twinBeats s))

/-- REPORT_EXCHANGE: in pairing, in a pull, at the holder, and for the recovery of a key.
The cryptographic functions are opaque (log 7), and reports that cross or come late (log 52) are the model's choice. -/
def Obligations.ReportsAreExchangedBeforeKeys : Prop :=
  ∀ (node : Nat) (r pub : List Byte) (s : State), s.hub.resumed = true → s.stored = true →
    -- neither a pair key nor a recovered one is derived outside DEPLOYED or after a tamper (R376, R387)
    let fit : Prop := s.sec.tamper = 0 ∧ lcState s = 2
    let key (t : State) := hkdf32 (bothReports t.twin.report r) (Config.x25519 s.twin.priv pub) (utf8 "isk-pair")
    ∃ t, exec (.reportExchange node r pub) s = .next t ∧
      ((r.getD 385 0).toNat = 0 → s.twin.state = 1 → s.twin.node = node → s.sec.pairKey = [] →
        wall s < s.twin.since + 10000000000 →
        if fit ∧ goodPeer r pub = true then t.sec = { s.sec with pairKey := key s } ∧ t.twin.state = 1 ∧
          t.twin.pub = repPub r ∧
          t.twin.twinId = idOf (repPub r) ∧ t.twin.holdId = idOf (repPub r) ∧ t.twin.holdJournal = [] ∧
            t.twin.rxCount = 0 ∧
          t.twin.sentParts = t.twin.txCount ∧ t.twin.ackedParts = 0
        else t.twin.state = 0 ∧ t.sec = { s.sec with pairKey := [] }) ∧
      ((r.getD 385 0).toNat = 0 → s.twin.state = 4 → s.twin.node = node → s.sec.pairKey = [] →
        if fit ∧ goodPeer r pub = true then t.sec = { s.sec with pairKey := key s } ∧ t.twin.state = 4 ∧ t.twin.rxCount = 0
        else t.twin.state = 0) ∧
      ((r.getD 385 0).toNat = 0 → s.twin.state = 3 →
        if lcState s = 2 ∧ spareOk s r pub = true then t.twin.node = node ∧ t.twin.spare = true ∧ t.twin.state = 3 ∧
          t.twin.holdJournal = s.twin.holdJournal ∧
          t.sec = { s.sec with pairKey := hkdf32 (bothReports t.twin.report r) (Config.x25519 (Config.random32 s.rnd) pub)
                                            (utf8 "isk-pair") }
        else t = s) ∧
      ((r.getD 385 0).toNat = 0 → s.twin.state = 0 → t = s) ∧
      ((r.getD 385 0).toNat ≠ 0 → t.sec = s.sec ∧ t.twin.state = s.twin.state ∧
        (let k := getKey s (r.getD 385 0).toNat
         goodPeer r pub = true → repMeasure r = slice s.sec.fwMeasure 0 64 → k.key ≠ [] → k.recover = true →
         k.kcv = slice r 288 16 → noReports s = false → fit →
         ∃ n own w, Output.mgmtMsg node 3 n (own ++ slice (Config.x25519Pub (Config.random32 s.rnd)) 0 32 ++ w) ∈ t.out ∧
           w.length = 48 ∧ own.length = 512)) ∧
      Keeps (journaling ++ ([.rnd, .sec, .elog] : List Part)) s t

/-- JOURNAL_MIRROR_UNIT, PERSISTENT_IMAGE_PART,
  KEY_BLOB and MGMT_ACKNOWLEDGEMENT: a message that does not open or verify is
counted and changes nothing held; one that does is kept and acknowledged.
The layout of an acknowledgement (log 53), the order of parts (log 54), the plaintext of the blob (log 62) and the
opaque cipher (log 7) are the model's choices. -/
def Obligations.MirrorsAreHeldAndAcknowledged : Prop :=
  (∀ (n : Nat) (c tag : List Byte) (i : Instr), i ∈ [Instr.journalMirrorUnit n c tag, .persistentImagePart n c tag,
      .keyBlob n c tag, .mgmtAcknowledgement n c tag] →
    ∀ s : State, s.twin.state = 0 ∨ openTwin s n c tag = none → s.stored = true →
    ∃ t, exec i s = .next t ∧ counterAt t oPathStats 6 3 = (counterAt s oPathStats 6 3 + 1) % 2 ^ 64 ∧
      Keeps [.mg] s t) ∧
  (∀ (n : Nat) (c tag m : List Byte) (s : State), openTwin s n c tag = some m → s.twin.state = 2 → s.stored = true →
    let acked (t : State) (kind k : Nat) : Prop := ∃ i j, Output.mgmtMsg s.twin.node 7 i
      (sealTwin { s with twin.txCount := j } ([byte kind] ++ List.replicate 7 0 ++ u64 k)) ∈ t.out
    (∃ t, exec (.journalMirrorUnit n c tag) s = .next t ∧ t.twin.rxCount = n + 1 ∧ Keeps journaling s t ∧
      (let e := parseEntry m
       let before := tget {} s.twin.holdJournal (e.seq - 1)
       (m.length = 64 → e.seq = 0 ∨ before.chain = [] ∨ e.kind = 0x10 ∨ chainsFrom before.chain e = true →
         t.twin.holdJournal = addEntries s.twin.holdJournal [e] ∧ acked t 4 e.seq) ∧
       (m.length = 64 → e.seq ≠ 0 → before.chain ≠ [] → e.kind ≠ 0x10 → chainsFrom before.chain e = false →
         t.twin.holdJournal = s.twin.holdJournal ∧
           counterAt t oPathStats 6 3 = (counterAt s oPathStats 6 3 + 1) % 2 ^ 64)) ∧
      (∀ u, m.length ≠ 64 → openUnit s.twin.pub s.twin.pub true m = some u →
        t.twin.holdJournal = addEntries s.twin.holdJournal u.1 ∧ t.twin.holdCkpts = addCkpts s.twin.holdCkpts u.2)) ∧
    (∃ t, exec (.persistentImagePart n c tag) s = .next t ∧ t.twin.rxCount = n + 1 ∧ Keeps [.mg, .twin, .out] s t ∧
      (let off := leNat (slice m 0 4)
       let old := if off = 0 then [] else s.twin.rxImage
       let img := old ++ m.drop 8
       let len := leNat (slice img 12 4)
       off = old.length → leNat (slice m 4 4) = (m.drop 8).length →
         (img.length < 64 ∨ img.length < len → t.twin.rxImage = img ∧ t.twin.holdImage = s.twin.holdImage ∧
           acked t 5 0) ∧
         (64 ≤ img.length → img.length = len → slice img 0 8 = [0x49, 0x53, 0x4B, 0x44, 1, 0, 0, 0] →
           t.twin.holdImage = img ∧ t.twin.holdImageSeq = leNat (slice img 16 8) ∧ t.twin.rxImage = [] ∧
             acked t 5 (leNat (slice img 16 8))))) ∧
    (24 ≤ m.length → ∃ t, exec (.keyBlob n c tag) s = .next t ∧ t.twin.rxCount = n + 1 ∧ t.twin.holdBlob = m ∧
      t.twin.holdBlobCount = leNat (slice m 0 8) % 2 ^ 32 ∧ acked t 6 (leNat (slice m 0 8)) ∧ Keeps [.mg, .twin, .out] s t) ∧
    (∃ t, exec (.mgmtAcknowledgement n c tag) s = .next t ∧ Keeps (journaling ++ ([.sec, .elog] : List Part)) s t ∧
      (let kind := (m.getD 0 0).toNat
       let k := leNat (slice m 8 8)
       (s.twin.handover = none → t.twin = { s.twin with
         rxCount := n + 1, ackedParts := s.twin.ackedParts + 1,
         journalAcked := if kind = 4 then max s.twin.journalAcked k else s.twin.journalAcked,
         blobAcked := if kind = 6 then k else s.twin.blobAcked } ∧ Keeps [.twin] s t) ∧
       (∀ q, s.twin.handover = some q → kind = 4 → q ≤ k → t.twin.state = 0 ∧ t.sec = { s.sec with pairKey := [] }) ∧
       (∀ q, s.twin.handover = some q → kind ≠ 4 ∨ k < q → t.twin.state = 2 ∧ t.twin.handover = some q)))) ∧
  (∀ (n : Nat) (c tag m : List Byte) (s : State), openTwin s n c tag = some m → s.twin.state = 4 → s.stored = true →
    (m.length = 64 → ∃ t, exec (.journalMirrorUnit n c tag) s = .next t ∧ Keeps journaling s t ∧
      (tget {} s.twin.inhJournal ((parseEntry m).seq - 1) = {} →
        t.twin.inhJournal = addEntries s.twin.inhJournal [parseEntry m])) ∧
    (let k := leNat (slice m 0 8)
     let b := (m.drop 8).take (m.length - 24)
     let iv := leBytes 4 3 ++ leBytes 8 k
     24 ≤ m.length → slice (Config.gcmTag s.sec.pairKey iv (leBytes 2 s.twin.node ++ leBytes 2 (nodeId s)) b) 0 16 =
         slice m (m.length - 16) 16 →
       ∃ t, exec (.keyBlob n c tag) s = .next t ∧ bit t.twin.pullStatus 1 = true ∧
         t.sec = { s.sec with recovered := blobKeys 255 ((Config.gcmDec s.sec.pairKey iv b).take b.length) } ∧
         Keeps [.sec, .mg, .twin, .out] s t) ∧
    ((m.getD 0 0).toNat = 0 → ∃ t, exec (.mgmtAcknowledgement n c tag) s = .next t ∧ t.twin.state = 2 ∧
      bit t.twin.pullStatus 2 = true ∧ t.twin.twinId = idOf s.twin.pub ∧ Keeps journaling s t))

/-! ## Supply, power and heat (R425 to R429, R431, R434, R436 to R440, R455) -/

/-- SAG_ENTER, SAG_EXIT, SAG_TIMEOUT, ORDERLY_STOP and STOP_COMPLETE. Supply: 0 NORMAL, 1 SAG, 2 STOPPING, 3 STOPPED.
The wall counter after a deadline (log 2) and the supply NORMAL from power-up (log 21) are the model's choices. -/
def Obligations.TheSupplySagsAndStops : Prop :=
  (∀ (v : Nat) (s : State), s.hub.on = true → s.pw.supply = 0 → v < 4000 → s.stored = true →
    ∃ t, exec (.sagEnter v) s = .next t ∧ t.pw.supply = 1 ∧ t.pw.volts = v ∧ t.pw.sagStart = wall s ∧
      t.pw.sags = (s.pw.sags + 1) % 2 ^ 32 ∧
      (∀ f, f < 4 → (getFacet s f).state ≠ 0 → (getFacet t f).level =
        max (getFacet s f).level (max (max (getFacet s f).thermLevel (getFacet s f).powerLevel) 7)) ∧
      Keeps (journaling ++ ([.time, .free, .elog, .pw, .facets, .cds, .sems, .arrs] : List Part)) s t) ∧
  (∀ (v : Nat) (s : State), s.pw.supply = 1 → 4050 ≤ v → v ≤ 6000 → s.pw.sagStart + 10000000 ≤ wall s →
    exec (.sagExit v) s = exec .sagTimeout { s with pw.volts := v }) ∧
  (∀ (v : Nat) (s : State), s.pw.supply = 1 → 4050 ≤ v → v ≤ 6000 → wall s < s.pw.sagStart + 10000000 → s.stored = true →
    ∃ t, exec (.sagExit v) s = .next t ∧ t.pw.supply = 0 ∧ t.pw.volts = v ∧
      t.time = max s.time (3 * (s.pw.sagStart + 1000000)) ∧
      t.pw.sagNs = (s.pw.sagNs + (wall t - s.pw.sagStart)) % 2 ^ 64 ∧ Keeps (journaling ++ ([.time, .elog,
        .pw] : List Part)) s t) ∧
  (∀ (c : Instr) (v : Nat) (s : State), s.stored = true →
    (c = .sagTimeout ∧ s.pw.supply = 1 ∧ v = s.pw.volts ∨
     c = .orderlyStop false v ∧ s.hub.on = true ∧ s.pw.supply < 2 ∧ v < 3600 ∨
     c = .orderlyStop true v ∧ s.hub.on = true ∧ s.pw.supply < 2 ∧ 6000 < v) →
    ∃ t, exec c s = .next t ∧ t.pw.supply = 2 ∧ t.pw.volts = v ∧ t.pw.stops = (s.pw.stops + 1) % 2 ^ 32 ∧
      (∀ f, f < 4 → (getFacet t f).state = 0) ∧ (∀ m, m < 12 → (getLsm s m).state ≠ 0 → (getLsm t m).outputs = 0) ∧
      t.ubuf = [] ∧ t.jrnl.closed = true ∧ t.hub.forwarding = false ∧
      (∀ x, (getCtx t x).state = (getCtx s x).state) ∧
      (c = .sagTimeout → t.time = max s.time (3 * (s.pw.sagStart + 10000000))) ∧ (c ≠ .sagTimeout → t.time = s.time) ∧
      Keeps (journaling ++ ([.time, .elog, .pw, .facets, .admitted, .held, .cds, .fds, .pds, .oes, .lsms,
        .links,
        .dirs, .ctxs, .mem, .ecc, .sems, .arrs, .slots, .streams, .engines, .topk, .ubuf, .net, .txns, .outst, .latches,
          .fences,
        .striped, .terms, .mtxns, .plans, .insts, .ctrlTable, .tickIncs, .barrierHold, .idle] : List Part)) s t) ∧
  (∀ s : State, s.pw.supply = 2 →
    ∃ t, exec .stopComplete s = .next t ∧ t.pw = { s.pw with supply := 3 } ∧ t.hub = { s.hub with thermTrip := true } ∧
      allRefused t = true ∧ Keeps [.hub, .pw] s t)

/-- POWER_CAP_WINDOW, SHARED_MODEL_UPDATE, THERMAL_ANCHOR, a read of DIE_SENSORS,
  THERMAL_TRIP and COOLANT_INLET_REPORT.
The wall counter after a deadline (log 2), measured operands (log 22) and that THERMAL_TRIP alone trips (log 23) are
the model's choices. -/
def Obligations.PowerAndHeatAreMeasured : Prop :=
  (∀ (mj : Nat) (s : State), s.hub.on = true →
    ∃ t, exec (.powerCapWindow mj) s = .next t ∧ t.time = max s.time (3 * (s.pw.winEnd + 1000000)) ∧
      t.pw.winEnd = s.pw.winEnd + 1000000 ∧ t.pw.inputPower = mj ∧
      t.pw.windows = (s.pw.windows ++ [mj]).drop (s.pw.windows.length + 1 - 100) ∧
      t.pw.shortOver = (s.pw.shortOver + if shortCap s < mj then 1 else 0) % 2 ^ 32 ∧
      t.pw.sustOver = (s.pw.sustOver + if sustainedCap s < meanPower t then 1 else 0) % 2 ^ 32 ∧
      Keeps (journaling ++ ([.time, .elog, .pw] : List Part)) s t) ∧
  (∀ (p : Nat) (l : List TempEst) (s : State), s.hub.on = true → s.stored = true →
    ∃ t, exec (.sharedModelUpdate p l) s = .next t ∧ t.pw.inputPower8 = p ∧ t.pw.modelAt = wall t / 8000 * 8000 ∧
      s.pw.modelAt + 8000 ≤ wall t ∧
      (∀ x, tget 0 t.pw.temp x = (((l.filter fun e => decide (96 ≤ e.site) && decide (e.site < 100) && e.site == x).getLast?).map
        (·.temp)).getD (tget 0 s.pw.temp x)) ∧
      (∀ f, f < 4 → (getFacet s f).state ≠ 0 →
        (getFacet t f).thermLevel = max (getFacet s f).thermLevel (levelOf (facetTemp t f)) ∧
        (getFacet t f).thermLevel ≤ max (getFacet t f).level (getFacet s f).thermLevel) ∧
      Keeps (journaling ++ ([.time, .free, .elog, .pw, .facets, .cds, .fds, .oes, .sems, .arrs] : List Part)) s t) ∧
  (∀ (c : Instr) (l : List SensorRead) (s : State), s.stored = true → (l.map fun r => (r.site, r.sensor)).Nodup →
    (c = .thermalAnchor l ∧ s.hub.resumed = true ∨
     ∃ p x o, c = .dieSensors p x l ∧ findObj oDieSensors (x + 1) = some o ∧ bit (access o p) 0 = true ∧
       s.hub.firmware = true ∧ ∀ r ∈ l, r.site = (x : Nat)) →
    ∃ t, exec c s = .next t ∧
      (∀ r ∈ l, r.site < 100 → r.sensor < sensorCount r.site → sitePowered s r.site = true →
        bit (tget 0 s.pw.sensorFailed r.site) r.sensor = false →
        if deviates r.reading r.reference = true ∧ deviates r.reread r.rereadRef = true then
          bit (tget 0 t.pw.sensorFailed r.site) r.sensor = true ∧
          tget 0 t.pw.sensorValue (8 * r.site + r.sensor) = tget 0 s.pw.sensorValue (8 * r.site + r.sensor)
        else bit (tget 0 t.pw.sensorFailed r.site) r.sensor = false ∧
          tget 0 t.pw.sensorValue (8 * r.site + r.sensor) =
            if deviates r.reading r.reference = true then r.reread else r.reading) ∧
      (∀ x k, k < 8 → (∀ r ∈ l, r.site ≠ x ∨ r.sensor ≠ k) →
        tget 0 t.pw.sensorValue (8 * x + k) = tget 0 s.pw.sensorValue (8 * x + k) ∧
        bit (tget 0 t.pw.sensorFailed x) k = bit (tget 0 s.pw.sensorFailed x) k) ∧
      (c = .thermalAnchor l → t.pw.anchorAt = wall t ∧
        s.pw.anchorAt + 1000000 * numGet s oThermalAnchorPeriod 0 ≤ wall t) ∧
      Keeps (journaling ++ ([.time, .elog, .pw] : List Part)) s t) ∧
  (∀ (site : SiteNo) (sensor : Option Nat) (temp : Int) (v : Nat) (s : State), tripIdle site sensor temp s = false →
    s.stored = true →
    let s' : State := { s with pw.volts := v, pw.temp := if sensor.isNone then tset 0 s.pw.temp site temp else s.pw.temp }
    ∃ t, exec (.thermalTrip site sensor temp v) s = .next t ∧ t.pw.tripped = true ∧ t.hub.thermTrip = true ∧
      t.hub.forwarding = false ∧ t.jrnl.closed = true ∧ allRefused t = true ∧ t.pw.temp = s'.pw.temp ∧
      (∀ f, f < 4 → (getFacet t f).state = 0) ∧ (∀ m, m < 12 → (getLsm s m).state ≠ 0 → (getLsm t m).outputs = 0) ∧
      (hubHot s' = true → t.pw.hubTrip = true ∧ t.standby.trip = some (tripBytes s' site sensor temp 0) ∧
        t.flash.trips = s.flash.trips) ∧
      (hubHot s' = false → flashOk s' = true → t.standby.trip = none ∧ t.flash.tripNext = s.flash.tripNext + 1 ∧
        tget [] t.flash.trips (s.flash.tripNext % 2048) = withCommit (tripBytes s' site sensor temp 0) 1) ∧
      (hubHot s' = false → flashOk s' = false → t.standby.trip = some (tripBytes s' site sensor temp 0) ∧
        t.flash.trips = s.flash.trips) ∧
      Keeps (journaling ++ ([.elog, .pw, .facets, .admitted, .held, .cds, .fds, .pds, .oes, .lsms, .links,
        .dirs, .ctxs, .mem, .ecc, .sems, .arrs, .slots, .streams, .engines, .topk, .ubuf, .net, .txns, .outst, .latches,
          .fences,
        .striped, .terms, .mtxns, .plans, .insts, .ctrlTable, .tickIncs, .barrierHold, .idle] : List Part)) s t) ∧
  (∀ (d : Int) (s : State), hubUp s = true →
    ∃ t, exec (.coolantInletReport d) s = .next t ∧ t.pw = { s.pw with coolant := some (10 * d) } ∧ Keeps [.pw] s t)

/-! ## The whole block -/

/-- After reset: the package is off, with no command waiting, memory and tables in canonical form, every byte zero,
  every
facet OFF, every context FREE, the supply NORMAL, the life cycle BLANK, and the dictionary at its defaults (R20, R36,
  R321,
R387, R423, R425). What R21 and R458 say of the start of the wall counter is POWER_UP's. That the package is off with unburned fuses (log 9), that
memory reads zero before its zeroing (log 10) and the NORMAL supply (log 21) are the model's choices. -/
def Obligations.ResetLeavesTheBlockOffAndSound : Prop :=
  State.reset.stored = true ∧ State.reset.pending = [] ∧ State.reset.hub.on = false ∧ wall State.reset = 0 ∧
    (∀ a, memGet State.reset a = 0) ∧
    (∀ f, (getFacet State.reset f).state = 0 ∧ (getFacet State.reset f).frameNo = 0 ∧
      (getFacet State.reset f).level = 0) ∧
    (∀ c, (getCtx State.reset c).state = 0 ∧ (getCtx State.reset c).gen = 0) ∧
    (∀ d i, semGet State.reset d i = 0 ∧ arrGet State.reset d i = 0) ∧ (∀ x, tget 0 State.reset.straps x = 0) ∧
    lcState State.reset = 0 ∧ State.reset.pw.supply = 0 ∧ State.reset.pw.tripped = false ∧ State.reset.jrnl.next = 0 ∧
    State.reset.twin.state = 0 ∧ nodeId State.reset = 0x8000 ∧
    (∀ f, f < 4 → numGet State.reset oFrameCycles (f + 1) = 12000 ∧ numGet State.reset oFacetEnable (f + 1) = 1)

/-- Memory and every table keep their canonical form: keys strictly rising,
  and no entry that equals what an unlisted
key reads as. The form is the model's (log 89). -/
def Obligations.EveryStepKeepsTheTablesCanonical : Prop :=
  ∀ s t : State, s.stored = true → step s = .next t → t.stored = true

/-- No fuse of the life cycle is ever cleared, by any step,
  not even a power-down; the device secret is drawn by PROVISION
alone; and SV_MIN never falls but at PROVISION, which burns it first.
That PROVISION may burn SV_MIN anew on a BLANK device (log 26) is the model's choice. -/
def Obligations.FusesAreNeverCleared : Prop :=
  ∀ s t : State, step s = .next t →
    (∀ i, bit s.sec.lc i = true → bit t.sec.lc i = true) ∧
    (s.pending.head? ≠ some .provision → t.sec.secret = s.sec.secret ∧ s.sec.svMin ≤ t.sec.svMin) ∧
    (lcState s ≠ 0 → t.sec.secret = s.sec.secret ∧ s.sec.svMin ≤ t.sec.svMin)

/-- R429: from STOPPING only STOPPED is reached, and STOPPED is left by nothing but the loss of power and the power-up
after it; both hubs' failure runs steps 1 to 3 of R427 and no more.
What the failure of both hubs leaves by inference is log 59. -/
def Obligations.AStoppedDeviceNeverRestarts : Prop :=
  (∀ s t : State, step s = .next t → s.pw.supply = 2 → t.pw.supply ≠ 2 → t.pw.supply ≠ 3 →
    ∃ h rest, s.pending = .powerDown h :: rest ∧ t.hub.on = false) ∧
  (∀ s : State, s.pw.supply = 2 → ∃ t, exec .stopComplete s = .next t ∧ t.pw.supply = 3) ∧
  (∀ s t : State, step s = .next t → s.pw.supply = 3 → t.pw.supply ≠ 3 →
    ∃ h rest, s.pending = .powerDown h :: rest ∧ t.hub.on = false) ∧
  (∀ s t : State, step s = .next t → s.hub.on = false → t.hub.on = true → ∃ i rest, s.pending = .powerUp i :: rest) ∧
  (∀ (c : Instr) (s : State), hubUp s = true → (c = .hubTakeover true ∧ s.hub.hb1Primary = false ∧
    s.hub.hb1Failed = true ∨
      c = .standbyHubFailure ∧ s.hub.hb1Failed = false ∧ s.hub.hb0Failed = true) →
    ∃ t, exec c s = .next t ∧ t.hub.bothFailed = true ∧ t.ubuf = [] ∧
      (∀ x d e, getCtx s x ≠ {} → d ∈ maskDies (getCtx s x).mask → e < 8 → ∀ y ∈ (getEngine t d e).fly, y.ctx ≠ x) ∧
      (∀ m, m < 12 → (getLsm s m).state ≠ 0 → (getLsm t m).outputs = 0) ∧
      (∀ f, f < 4 → if ticking (getFacet s f) = true then (getFacet t f).state = (getFacet s f).state else
        (getFacet t f).state = 0) ∧
      t.pw = s.pw ∧ t.jrnl.next = s.jrnl.next ∧
      ∀ (f : Facet) (m : TickMeasure) (u : State), u.hub.bothFailed = true → ticking (getFacet u f) = true →
        ∃ v, exec (.frameTick f m) u = .next v ∧ (getFacet v f).state = 0)

/-- The life-cycle state as R388 reads it from the fuses. An accepted ENTER_SERVICE and an accepted LEAVE_SERVICE burn one of
the 48 toggle bits each, and once all are burned SERVICE is not entered again: 24 visits.
That a pending LEAVE_SERVICE leaves the state as it was until the power-up is log 25. -/
def Obligations.TheLifeCycleIsReadFromItsFuses : Prop :=
  (∀ lc : Nat, lcOfFuses lc =
    if bit lc 63 = true then 4
    else if bit lc 1 = true then
      (if ((List.range 50).filter fun i => 2 ≤ i ∧ bit lc i = true).length % 2 = 1 then 3 else 2)
    else if bit lc 0 = true then 1 else 0) ∧
  (∀ s : State, s.sec.leavePending = false → lcState s = lcOfFuses s.sec.lc) ∧
  (∀ (c : Instr) (p : Path) (code : Nat) (s : State),
    (c = .enterService p ∧ code = 2 ∨ c = .leaveService p ∧ code = 3) →
    accepts s p oLcCommand 0 [byte code] = true →
    (∀ i, 2 ≤ i → i < 50 → bit s.sec.lc i = true → ∀ j, 2 ≤ j → j < i → bit s.sec.lc j = true) →
    toggles s.sec.lc < 48 → s.stored = true →
    ∃ t, exec c s = .next t ∧ toggles t.sec.lc = toggles s.sec.lc + 1) ∧
  (∀ (p : Path) (s : State), toggles s.sec.lc = 48 → accepts s p oLcCommand 0 [2] = false)

/-- No command touches the queue behind it; none sets the wall counter back but a power-up and the loss of power (R21); a
site's status (R15) changes by the commands named, and by no other. -/
def Obligations.CommandsLeaveTheQueueTheClockAndTheSitesAlone : Prop :=
  ∀ (c : Instr) (s t : State), exec c s = .next t →
    t.pending = s.pending ∧
    ((∀ i, c ≠ .powerUp i) → (∀ h, c ≠ .powerDown h) → s.time ≤ t.time) ∧
    (t.siteStatus ≠ s.siteStatus → (∃ l e n r, c = .linkSelfTestDone l e n r) ∨ (∃ l, c = .dieAdmission l) ∨
      (∃ h, c = .powerDown h) ∨ (∃ h, c = .hostSidebandTimeout h) ∨ (∃ h m r a i, c = .hostAdmission h m r a i))

/-- Memory reads what was last written, byte by byte, lowest byte first (R6), and zeroing leaves zeros. -/
def Obligations.MemoryReadsWhatWasWritten : Prop :=
  (∀ (a x : Nat) (bs : List Byte) (s : State), Memory.wf s.mem = true →
    memGet (writeBytes a bs s) x = if a ≤ x ∧ x < a + bs.length then bs.getD (x - a) 0 else memGet s x) ∧
  (∀ (a n x : Nat) (s : State), Memory.wf s.mem = true →
    memGet (zeroBytes a n s) x = if a ≤ x ∧ x < a + n then 0 else memGet s x) ∧
  (∀ (a v i : Nat) (s : State), Memory.wf s.mem = true → i < 8 →
    memGet (writeBytes a (u64 v) s) (a + i) = byte (v / 256 ^ i) ∧ read64 (writeBytes a (u64 v) s) a = v % 2 ^ 64)
end

