-- ==== Sys2Proof/Laws/Tab.lean ====
section
/-! SUPPORT. Laws/Tab.lean: what reading, writing and clearing a sparse table give, and that each keeps the canonical
form. -/
namespace Sys2Proof

variable {α : Type} {d : α} {t : Tab α} {i j : Nat} {x : α}

@[simp] theorem tget_nil (d : α) (i : Nat) : tget d ([] : Tab α) i = d := rfl

@[simp] theorem tget_tput_same (d : α) (t : Tab α) (i : Nat) (x : α) : tget d (tput t i x) i = x := by
  induction t with
  | nil => simp [tput, tget]
  | cons e t ih =>
    obtain ⟨k, v⟩ := e
    rcases Nat.lt_trichotomy i k with h | h | h
    · simp [tput, tget, h, Nat.ne_of_lt h]
    · simp [tput, tget, h]
    · simp [tput, tget, Nat.ne_of_gt h, Nat.not_lt_of_gt h, ih]

theorem tget_tput_ne (h : j ≠ i) : tget d (tput t i x) j = tget d t j := by
  induction t with
  | nil => simp [tput, tget, h]
  | cons e t ih =>
    obtain ⟨k, v⟩ := e
    simp only [tput]
    split
    · rename_i e; subst e; simp [tget, h]
    · split
      · rename_i h1 h2
        rcases Nat.lt_or_ge j i with h3 | h3
        · have : j ≠ k := by omega
          have : j < k := by omega
          simp [tget, *]
        · have : ¬ j < i := by omega
          simp [tget, *]
      · simp [tget, ih]

/-- The entries of a rising table lie above its bound. -/
theorem rising_lt {n : Nat} {l : Tab α} (h : rising (some n) l = true) : ∀ e ∈ l, n < e.1 := by
  induction l generalizing n with
  | nil => simp
  | cons e l ih =>
    obtain ⟨k, v⟩ := e
    simp only [rising, Bool.and_eq_true, decide_eq_true_eq] at h
    intro e he
    rcases List.mem_cons.mp he with rfl | he
    · exact h.1
    · exact Nat.lt_trans h.1 (ih h.2 e he)

theorem tget_below {l : Tab α} (h : ∀ e ∈ l, j < e.1) : tget d l j = d := by
  cases l with
  | nil => rfl
  | cons e l =>
    have := h e (List.mem_cons_self)
    obtain ⟨k, v⟩ := e
    simp only at this
    simp [tget, this, Nat.ne_of_lt this]

theorem tget_tdel_same (h : rising none t = true) : tget d (tdel t i) i = d := by
  suffices ∀ (n : Option Nat) (t : Tab α), rising n t = true → tget d (tdel t i) i = d from this none t h
  intro n t h
  induction t generalizing n with
  | nil => rfl
  | cons e t ih =>
    obtain ⟨k, v⟩ := e
    have ht : rising (some k) t = true := by
      cases n with
      | none => simpa [rising] using h
      | some n => simp only [rising, Bool.and_eq_true] at h; exact h.2
    simp only [tdel]
    split
    · rename_i e; subst e; exact tget_below (rising_lt ht)
    · split
      · rename_i h1 h2; simp [tget, h1, h2]
      · rename_i h1 h2; simpa [tget, h1, h2] using ih _ ht

theorem tget_tdel_ne (h : rising none t = true) (hj : j ≠ i) : tget d (tdel t i) j = tget d t j := by
  suffices ∀ (n : Option Nat) (t : Tab α), rising n t = true → tget d (tdel t i) j = tget d t j from this none t h
  intro n t h
  induction t generalizing n with
  | nil => rfl
  | cons e t ih =>
    obtain ⟨k, v⟩ := e
    have ht : rising (some k) t = true := by
      cases n with
      | none => simpa [rising] using h
      | some n => simp only [rising, Bool.and_eq_true] at h; exact h.2
    simp only [tdel]
    split
    · rename_i e; subst e
      simp only [tget, if_neg hj]
      split
      · rename_i h2
        exact tget_below fun e he => Nat.lt_trans h2 (rising_lt ht e he)
      · rfl
    · split
      · rfl
      · simp [tget, ih _ ht]

/-- Reading the key that was written gives what was written. -/
theorem tget_tset_same [DecidableEq α] (h : rising none t = true) : tget d (tset d t i x) i = x := by
  unfold tset
  split
  · rename_i e; rw [tget_tdel_same h, e]
  · simp

/-- A write leaves every other key alone. -/
theorem tget_tset_ne [DecidableEq α] (h : rising none t = true) (hj : j ≠ i) : tget d (tset d t i x) j = tget d t j := by
  unfold tset
  split
  · exact tget_tdel_ne h hj
  · exact tget_tput_ne hj

theorem rising_mono {m n : Nat} {l : Tab α} (h : rising (some n) l = true) (hm : m ≤ n) : rising (some m) l = true := by
  cases l with
  | nil => rfl
  | cons e l =>
    obtain ⟨k, v⟩ := e
    simp only [rising, Bool.and_eq_true, decide_eq_true_eq] at h ⊢
    exact ⟨by omega, h.2⟩

theorem rising_tput {n : Nat} {l : Tab α} (h : rising (some n) l = true) (hi : n < i) :
    rising (some n) (tput l i x) = true := by
  induction l generalizing n with
  | nil => simp [tput, rising, hi]
  | cons e l ih =>
    obtain ⟨k, v⟩ := e
    simp only [rising, Bool.and_eq_true, decide_eq_true_eq] at h
    simp only [tput]
    split
    · rename_i e; subst e; simp [rising, hi, h.2]
    · split
      · simp [rising, *]
      · rename_i h1 h2
        simp only [rising, Bool.and_eq_true, decide_eq_true_eq]
        exact ⟨h.1, ih h.2 (by omega)⟩

theorem rising_none_tput {l : Tab α} (h : rising none l = true) : rising none (tput l i x) = true := by
  cases l with
  | nil => rfl
  | cons e l =>
    obtain ⟨k, v⟩ := e
    simp only [rising] at h
    simp only [tput]
    split
    · rename_i e; subst e; simpa [rising] using h
    · split
      · simp [rising, *]
      · rename_i h1 h2
        simp only [rising]
        exact rising_tput h (by omega)

theorem rising_filter {l : Tab α} {p : Nat × α → Bool} : ∀ {n : Option Nat}, rising n l = true → rising n (l.filter p) = true := by
  induction l with
  | nil => intro n h; simpa using h
  | cons e l ih =>
    obtain ⟨k, v⟩ := e
    intro n h
    have ht : rising (some k) l = true := by
      cases n with
      | none => simpa [rising] using h
      | some n => simp only [rising, Bool.and_eq_true] at h; exact h.2
    by_cases hp : p (k, v) = true
    · rw [List.filter_cons_of_pos hp]
      cases n with
      | none => simpa [rising] using ih ht
      | some n =>
        simp only [rising, Bool.and_eq_true, decide_eq_true_eq] at h ⊢
        exact ⟨h.1, ih h.2⟩
    · rw [List.filter_cons_of_neg hp]
      have := ih ht
      cases n with
      | none =>
        cases hl : l.filter p with
        | nil => rfl
        | cons e m =>
          rw [hl] at this
          obtain ⟨k', v'⟩ := e
          simp only [rising, Bool.and_eq_true] at this ⊢
          exact this.2
      | some n =>
        simp only [rising, Bool.and_eq_true, decide_eq_true_eq] at h
        exact rising_mono this (Nat.le_of_lt h.1)

theorem tdel_sublist (l : Tab α) (i : Nat) : (tdel l i).Sublist l := by
  induction l with
  | nil => exact List.Sublist.slnil
  | cons e l ih =>
    obtain ⟨k, v⟩ := e
    simp only [tdel]
    split
    · exact List.sublist_cons_self _ _
    · split
      · exact List.Sublist.refl _
      · exact ih.cons_cons _

theorem tdel_eq_filter {l : Tab α} (h : rising none l = true) : tdel l i = l.filter (fun e => decide (e.1 ≠ i)) := by
  suffices ∀ (n : Option Nat) (l : Tab α), rising n l = true → tdel l i = l.filter (fun e => decide (e.1 ≠ i)) from
    this none l h
  intro n l h
  induction l generalizing n with
  | nil => rfl
  | cons e l ih =>
    obtain ⟨k, v⟩ := e
    have ht : rising (some k) l = true := by
      cases n with
      | none => simpa [rising] using h
      | some n => simp only [rising, Bool.and_eq_true] at h; exact h.2
    have hall : ∀ {m : Nat}, m ≤ k → l.filter (fun e => decide (e.1 ≠ m)) = l := fun hm =>
      List.filter_eq_self.mpr fun e he => by
        have := rising_lt ht e he
        simp only [decide_eq_true_eq]; omega
    simp only [tdel]
    split
    · rename_i e; subst e
      rw [List.filter_cons_of_neg (by simp), hall (Nat.le_refl _)]
    · split
      · rename_i h1 h2
        rw [List.filter_cons_of_pos (by simpa using Ne.symm h1), hall (Nat.le_of_lt h2)]
      · rename_i h1 h2
        rw [List.filter_cons_of_pos (by simpa using Ne.symm h1), ih _ ht]

/-- A write keeps the canonical form. -/
theorem wf_tset [DecidableEq α] (h : Tab.wf d t = true) : Tab.wf d (tset d t i x) = true := by
  unfold Tab.wf at h ⊢
  simp only [Bool.and_eq_true, List.all_eq_true, decide_eq_true_eq] at h ⊢
  unfold tset
  split
  · rw [tdel_eq_filter h.1]
    exact ⟨rising_filter h.1, fun e he => h.2 e (List.mem_filter.mp he).1⟩
  · rename_i hx
    refine ⟨rising_none_tput h.1, ?_⟩
    have : ∀ l : Tab α, (∀ e ∈ l, e.2 ≠ d) → ∀ e ∈ tput l i x, e.2 ≠ d := by
      intro l
      induction l with
      | nil => intro _ e he; simp only [tput, List.mem_singleton] at he; subst he; exact hx
      | cons a l ih =>
        obtain ⟨k, v⟩ := a
        intro hl e he
        simp only [tput] at he
        split at he
        · rcases List.mem_cons.mp he with rfl | he
          · exact hx
          · exact hl e (List.mem_cons_of_mem _ he)
        · split at he
          · rcases List.mem_cons.mp he with rfl | he
            · exact hx
            · exact hl e he
          · rcases List.mem_cons.mp he with rfl | he
            · exact hl _ List.mem_cons_self
            · exact ih (fun e he => hl e (List.mem_cons_of_mem _ he)) e he
    exact this t h.2

theorem wf_filter [DecidableEq α] {p : Nat × α → Bool} (h : Tab.wf d t = true) : Tab.wf d (t.filter p) = true := by
  unfold Tab.wf at *
  simp only [Bool.and_eq_true, List.all_eq_true, decide_eq_true_eq] at h ⊢
  exact ⟨rising_filter h.1, fun e he => h.2 e (List.mem_filter.mp he).1⟩

/-- Keeping some keys keeps the canonical form. -/
theorem wf_tkeep [DecidableEq α] {p : Nat → Bool} (h : Tab.wf d t = true) : Tab.wf d (tkeep t p) = true := by
  unfold Tab.wf tkeep at *
  simp only [Bool.and_eq_true, List.all_eq_true, decide_eq_true_eq] at h ⊢
  exact ⟨rising_filter h.1, fun e he => h.2 e (List.mem_filter.mp he).1⟩

theorem tget_tkeep {p : Nat → Bool} (h : rising none t = true) :
    tget d (tkeep t p) j = if p j then tget d t j else d := by
  suffices ∀ (n : Option Nat) (t : Tab α), rising n t = true → tget d (tkeep t p) j = if p j then tget d t j else d from
    this none t h
  intro n t h
  induction t generalizing n with
  | nil => simp [tkeep]
  | cons e t ih =>
    obtain ⟨k, v⟩ := e
    have ht : rising (some k) t = true := by
      cases n with
      | none => simpa [rising] using h
      | some n => simp only [rising, Bool.and_eq_true] at h; exact h.2
    have ih := ih _ ht
    have hb : j < k → tget d (tkeep t p) j = d := fun hj => tget_below fun e he =>
      Nat.lt_trans hj (rising_lt ht e (List.mem_filter.mp he).1)
    have hb_eq : rising (some j) t = true → tget d (t.filter fun e => p e.1) j = d := fun h =>
      tget_below fun e he => rising_lt h e (List.mem_filter.mp he).1
    unfold tkeep at ih hb ⊢
    by_cases hp : p k = true
    · rw [List.filter_cons_of_pos (by exact hp)]
      simp only [tget]
      split
      · rename_i e; subst e; simp [hp]
      · split
        · simp
        · exact ih
    · rw [List.filter_cons_of_neg (by exact hp)]
      by_cases e : j = k
      · subst e; rw [hb_eq ht, if_neg hp]
      · simp only [tget, if_neg e]
        by_cases h2 : j < k
        · rw [hb h2, if_pos h2]; simp
        · rw [if_neg h2]; exact ih

/-- Clearing a range of keys leaves the default there and every other key alone. -/
theorem tget_tclear {lo hi : Nat} (h : rising none t = true) :
    tget d (tclear t lo hi) j = if lo ≤ j ∧ j < hi then d else tget d t j := by
  unfold tclear
  rw [tget_tkeep h]
  by_cases h1 : lo ≤ j <;> by_cases h2 : j < hi <;> simp [h1, h2]

theorem wf_tclear [DecidableEq α] {lo hi : Nat} (h : Tab.wf d t = true) : Tab.wf d (tclear t lo hi) = true := wf_tkeep h

theorem wf_tdel [DecidableEq α] (h : Tab.wf d t = true) : Tab.wf d (tdel t i) = true := by
  unfold Tab.wf at *
  simp only [Bool.and_eq_true, List.all_eq_true, decide_eq_true_eq] at h ⊢
  rw [tdel_eq_filter h.1]
  exact ⟨rising_filter h.1, fun e he => h.2 e (List.mem_filter.mp he).1⟩

theorem rising_tset [DecidableEq α] (h : rising none t = true) : rising none (tset d t i x) = true := by
  unfold tset
  split
  · rw [tdel_eq_filter h]; exact rising_filter h
  · exact rising_none_tput h

theorem rising_nil : rising none ([] : Tab α) = true := rfl
theorem rising_tkeep {p : Nat → Bool} (h : rising none t = true) : rising none (tkeep t p) = true := rising_filter h
theorem rising_tclear {lo hi : Nat} (h : rising none t = true) : rising none (tclear t lo hi) = true := rising_tkeep h
theorem rising_tdel (h : rising none t = true) : rising none (tdel t i) = true := by
  rw [tdel_eq_filter h]; exact rising_filter h

theorem rising_map {f : Nat × α → Nat × α} (hk : ∀ e, (f e).1 = e.1) :
    ∀ {n : Option Nat} {t : Tab α}, rising n t = true → rising n (t.map f) = true := by
  intro n t
  induction t generalizing n with
  | nil => exact id
  | cons e t ih =>
    have := hk e
    obtain ⟨k, v⟩ := e
    intro h
    rw [List.map_cons]
    rcases hf : f (k, v) with ⟨k', v'⟩
    rw [hf] at this
    simp only at this
    subst this
    cases n with
    | none => exact ih h
    | some n =>
      simp only [rising, Bool.and_eq_true, decide_eq_true_eq] at h ⊢
      exact ⟨h.1, ih h.2⟩

/-- Values rewritten key by key, to none that equals the default. -/
theorem wf_map [DecidableEq α] {f : Nat × α → Nat × α} (hk : ∀ e, (f e).1 = e.1) (hv : ∀ e, e.2 ≠ d → (f e).2 ≠ d)
    (h : Tab.wf d t = true) : Tab.wf d (t.map f) = true := by
  unfold Tab.wf at *
  simp only [Bool.and_eq_true, List.all_eq_true, decide_eq_true_eq] at h ⊢
  refine ⟨rising_map hk h.1, fun e he => ?_⟩
  obtain ⟨a, ha, rfl⟩ := List.mem_map.mp he
  exact hv a (h.2 a ha)

theorem wf_map' [DecidableEq α] {f : Nat × α → Nat × α} (hk : ∀ e, (f e).1 = e.1) (hv : ∀ e ∈ t, (f e).2 ≠ d)
    (h : rising none t = true) : Tab.wf d (t.map f) = true := by
  unfold Tab.wf
  simp only [Bool.and_eq_true, List.all_eq_true, decide_eq_true_eq]
  refine ⟨rising_map hk h, fun e he => ?_⟩
  obtain ⟨a, ha, rfl⟩ := List.mem_map.mp he
  exact hv a ha

theorem wf_ite [DecidableEq α] {c : Prop} {dc : Decidable c} {a b : Tab α} (ha : Tab.wf d a = true) (hb : Tab.wf d b = true) :
    Tab.wf d (if c then a else b) = true := by split <;> assumption

theorem rising_ite {c : Prop} {dc : Decidable c} {a b : Tab α} (ha : rising none a = true) (hb : rising none b = true) :
    rising none (if c then a else b) = true := by split <;> assumption

theorem wf_foldl [DecidableEq α] {γ : Type} {f : Tab α → γ → Tab α} {l : List γ}
    (hf : ∀ t x, Tab.wf d t = true → Tab.wf d (f t x) = true) (h : Tab.wf d t = true) : Tab.wf d (l.foldl f t) = true := by
  induction l generalizing t with
  | nil => exact h
  | cons x l ih => exact ih (hf _ _ h)

theorem wf_rising [DecidableEq α] (h : Tab.wf d t = true) : rising none t = true := by
  unfold Tab.wf at h
  simp only [Bool.and_eq_true] at h
  exact h.1

theorem wf_nil [DecidableEq α] (d : α) : Tab.wf d ([] : Tab α) = true := rfl

end Sys2Proof
end

