-- ==== Sys2Proof/Laws/Frame.lean ====
section
/-! SUPPORT. Laws/Frame.lean: which fields of the state an operation may change, and that
it keeps the tables canonical, as one relation that composes. -/
namespace Sys2Proof.Machine
open Sys2Proof

/-- `Same m s t`: `t` has every field of `s` but those whose bit stands in the mask `m`; bit i is the
i-th field of `State`; and where the tables of `s` are canonical, those of `t` are. -/
structure Same (m : Nat) (s t : State) : Prop where
  pending : m.testBit 0 = false → t.pending = s.pending
  time : m.testBit 1 = false → t.time = s.time
  free : m.testBit 2 = false → t.free = s.free
  rnd : m.testBit 3 = false → t.rnd = s.rnd
  nextUid : m.testBit 4 = false → t.nextUid = s.nextUid
  hub : m.testBit 5 = false → t.hub = s.hub
  sec : m.testBit 6 = false → t.sec = s.sec
  flash : m.testBit 7 = false → t.flash = s.flash
  standby : m.testBit 8 = false → t.standby = s.standby
  jrnl : m.testBit 9 = false → t.jrnl = s.jrnl
  mg : m.testBit 10 = false → t.mg = s.mg
  twin : m.testBit 11 = false → t.twin = s.twin
  elog : m.testBit 12 = false → t.elog = s.elog
  pw : m.testBit 13 = false → t.pw = s.pw
  facets : m.testBit 14 = false → t.facets = s.facets
  straps : m.testBit 15 = false → t.straps = s.straps
  siteStatus : m.testBit 16 = false → t.siteStatus = s.siteStatus
  admitted : m.testBit 17 = false → t.admitted = s.admitted
  held : m.testBit 18 = false → t.held = s.held
  cds : m.testBit 19 = false → t.cds = s.cds
  fds : m.testBit 20 = false → t.fds = s.fds
  pds : m.testBit 21 = false → t.pds = s.pds
  oes : m.testBit 22 = false → t.oes = s.oes
  lsms : m.testBit 23 = false → t.lsms = s.lsms
  hosts : m.testBit 24 = false → t.hosts = s.hosts
  links : m.testBit 25 = false → t.links = s.links
  dirs : m.testBit 26 = false → t.dirs = s.dirs
  ctxs : m.testBit 27 = false → t.ctxs = s.ctxs
  owner : m.testBit 28 = false → t.owner = s.owner
  mem : m.testBit 29 = false → t.mem = s.mem
  ecc : m.testBit 30 = false → t.ecc = s.ecc
  sems : m.testBit 31 = false → t.sems = s.sems
  arrs : m.testBit 32 = false → t.arrs = s.arrs
  slots : m.testBit 33 = false → t.slots = s.slots
  streams : m.testBit 34 = false → t.streams = s.streams
  engines : m.testBit 35 = false → t.engines = s.engines
  topk : m.testBit 36 = false → t.topk = s.topk
  ubuf : m.testBit 37 = false → t.ubuf = s.ubuf
  net : m.testBit 38 = false → t.net = s.net
  txns : m.testBit 39 = false → t.txns = s.txns
  tags : m.testBit 40 = false → t.tags = s.tags
  outst : m.testBit 41 = false → t.outst = s.outst
  latches : m.testBit 42 = false → t.latches = s.latches
  fences : m.testBit 43 = false → t.fences = s.fences
  striped : m.testBit 44 = false → t.striped = s.striped
  terms : m.testBit 45 = false → t.terms = s.terms
  mtxns : m.testBit 46 = false → t.mtxns = s.mtxns
  plans : m.testBit 47 = false → t.plans = s.plans
  insts : m.testBit 48 = false → t.insts = s.insts
  ctrlTable : m.testBit 49 = false → t.ctrlTable = s.ctrlTable
  tickIncs : m.testBit 50 = false → t.tickIncs = s.tickIncs
  barrierHold : m.testBit 51 = false → t.barrierHold = s.barrierHold
  idle : m.testBit 52 = false → t.idle = s.idle
  xch : m.testBit 53 = false → t.xch = s.xch
  out : m.testBit 54 = false → t.out = s.out
  sto : s.stored = true → t.stored = true

theorem Same.refl (m : Nat) (s : State) : Same m s s := by constructor <;> first | exact fun _ => rfl | exact id

theorem Same.mono {a m : Nat} {s t : State} (h : Same a s t) (hm : a ||| m = m) : Same m s t := by
  have k : ∀ i, m.testBit i = false → a.testBit i = false := by
    intro i hi
    have := congrArg (fun n => n.testBit i) hm
    simp only [Nat.testBit_or, hi, Bool.or_false] at this
    exact this
  exact ⟨fun x => h.pending (k _ x), fun x => h.time (k _ x), fun x => h.free (k _ x), fun x => h.rnd (k _ x), fun x
    => h.nextUid (k _ x), fun x => h.hub (k _ x), fun x => h.sec (k _ x), fun x => h.flash (k _ x), fun x =>
    h.standby (k _ x), fun x => h.jrnl (k _ x), fun x => h.mg (k _ x), fun x => h.twin (k _ x), fun x => h.elog (k _
    x), fun x => h.pw (k _ x), fun x => h.facets (k _ x), fun x => h.straps (k _ x), fun x => h.siteStatus (k _ x),
    fun x => h.admitted (k _ x), fun x => h.held (k _ x), fun x => h.cds (k _ x), fun x => h.fds (k _ x), fun x =>
    h.pds (k _ x), fun x => h.oes (k _ x), fun x => h.lsms (k _ x), fun x => h.hosts (k _ x), fun x => h.links (k _
    x), fun x => h.dirs (k _ x), fun x => h.ctxs (k _ x), fun x => h.owner (k _ x), fun x => h.mem (k _ x), fun x =>
    h.ecc (k _ x), fun x => h.sems (k _ x), fun x => h.arrs (k _ x), fun x => h.slots (k _ x), fun x => h.streams (k
    _ x), fun x => h.engines (k _ x), fun x => h.topk (k _ x), fun x => h.ubuf (k _ x), fun x => h.net (k _ x), fun
    x => h.txns (k _ x), fun x => h.tags (k _ x), fun x => h.outst (k _ x), fun x => h.latches (k _ x), fun x =>
    h.fences (k _ x), fun x => h.striped (k _ x), fun x => h.terms (k _ x), fun x => h.mtxns (k _ x), fun x =>
    h.plans (k _ x), fun x => h.insts (k _ x), fun x => h.ctrlTable (k _ x), fun x => h.tickIncs (k _ x), fun x =>
    h.barrierHold (k _ x), fun x => h.idle (k _ x), fun x => h.xch (k _ x), fun x => h.out (k _ x), h.sto⟩

theorem Same.trans {m : Nat} {s t u : State} (h : Same m s t) (k : Same m t u) : Same m s u :=
  ⟨fun x => (k.pending x).trans (h.pending x), fun x => (k.time x).trans (h.time x), fun x => (k.free x).trans (h.free x), fun x => (k.rnd x).trans (h.rnd x), fun x => (k.nextUid x).trans (h.nextUid x), fun x => (k.hub x).trans (h.hub x), fun x => (k.sec x).trans (h.sec x), fun x => (k.flash x).trans (h.flash x), fun x => (k.standby x).trans (h.standby x), fun x => (k.jrnl x).trans (h.jrnl x), fun x => (k.mg x).trans (h.mg x), fun x => (k.twin x).trans (h.twin x), fun x => (k.elog x).trans (h.elog x), fun x => (k.pw x).trans (h.pw x), fun x => (k.facets x).trans (h.facets x), fun x => (k.straps x).trans (h.straps x), fun x => (k.siteStatus x).trans (h.siteStatus x), fun x => (k.admitted x).trans (h.admitted x), fun x => (k.held x).trans (h.held x), fun x => (k.cds x).trans (h.cds x), fun x => (k.fds x).trans (h.fds x), fun x => (k.pds x).trans (h.pds x), fun x => (k.oes x).trans (h.oes x), fun x => (k.lsms x).trans (h.lsms x), fun x => (k.hosts x).trans (h.hosts x), fun x => (k.links x).trans (h.links x), fun x => (k.dirs x).trans (h.dirs x), fun x => (k.ctxs x).trans (h.ctxs x), fun x => (k.owner x).trans (h.owner x), fun x => (k.mem x).trans (h.mem x), fun x => (k.ecc x).trans (h.ecc x), fun x => (k.sems x).trans (h.sems x), fun x => (k.arrs x).trans (h.arrs x), fun x => (k.slots x).trans (h.slots x), fun x => (k.streams x).trans (h.streams x), fun x => (k.engines x).trans (h.engines x), fun x => (k.topk x).trans (h.topk x), fun x => (k.ubuf x).trans (h.ubuf x), fun x => (k.net x).trans (h.net x), fun x => (k.txns x).trans (h.txns x), fun x => (k.tags x).trans (h.tags x), fun x => (k.outst x).trans (h.outst x), fun x => (k.latches x).trans (h.latches x), fun x => (k.fences x).trans (h.fences x), fun x => (k.striped x).trans (h.striped x), fun x => (k.terms x).trans (h.terms x), fun x => (k.mtxns x).trans (h.mtxns x), fun x => (k.plans x).trans (h.plans x), fun x => (k.insts x).trans (h.insts x), fun x => (k.ctrlTable x).trans (h.ctrlTable x), fun x => (k.tickIncs x).trans (h.tickIncs x), fun x => (k.barrierHold x).trans (h.barrierHold x), fun x => (k.idle x).trans (h.idle x), fun x => (k.xch x).trans (h.xch x), fun x => (k.out x).trans (h.out x), fun x => k.sto (h.sto x)⟩

/-- An operation that changes only fields of `a` after others that change only fields of `m`. -/
theorem Same.thru {a m : Nat} {s0 s t : State} (h : Same a s t) (hm : a ||| m = m) (h0 : Same m s0 s) : Same m s0 t :=
  h0.trans (h.mono hm)

theorem Same.ite {m : Nat} {s0 a b : State} {c : Prop} [Decidable c] (ha : Same m s0 a) (hb : Same m s0 b) :
    Same m s0 (if c then a else b) := by split <;> assumption

theorem Same.iteOf {α : Type} {m : Nat} {s0 : State} (p : α → State) {a b : α} {c : Prop} [Decidable c] (ha : Same m s0 (p a))
    (hb : Same m s0 (p b)) : Same m s0 (p (if c then a else b)) := by split <;> assumption

theorem Same.foldl {α : Type} {m : Nat} {s0 s : State} {f : State → α → State} {l : List α}
    (hf : ∀ s x, Same m s0 s → Same m s0 (f s x)) (h : Same m s0 s) : Same m s0 (l.foldl f s) := by
  induction l generalizing s with
  | nil => exact h
  | cons x l ih => exact ih (hf _ _ h)

/-- A fold whose accumulator carries the state in a part of it. -/
theorem Same.foldlPart {α β : Type} {m : Nat} {s0 : State} (p : β → State) {r : β} {f : β → α → β} {l : List α}
    (hf : ∀ r x, Same m s0 (p r) → Same m s0 (p (f r x))) (h : Same m s0 (p r)) : Same m s0 (p (l.foldl f r)) := by
  induction l generalizing r with
  | nil => exact h
  | cons x l ih => exact ih (hf _ _ h)

theorem Same.of_eq {α : Type} {m : Nat} {s0 : State} {x y : α} (p : α → State) (e : x = y) (h : Same m s0 (p x)) :
    Same m s0 (p y) := e ▸ h

theorem Same.sub {a b m : Nat} (hm : b ||| m = m) (h : a ||| b = b) : a ||| m = m := by rw [← hm, ← Nat.or_assoc, h]

theorem Same.next {m : Nat} {s0 s t : State} (e : (Host.Outcome.next s : Host.Outcome State Fault Refusal) = .next t)
    (h : Same m s0 s) : Same m s0 t := by cases e; exact h

theorem Same.some {m : Nat} {s0 s t : State} (h : Same m s0 t) (e : t = s) : Same m s0 s := e ▸ h

/-- The parts of `State.stored`. -/
structure Stored (s : State) : Prop where
  mem : Memory.wf s.mem = true
  hub : s.hub.wf = true
  sec : s.sec.wf = true
  flash : s.flash.wf = true
  jrnl : s.jrnl.wf = true
  mg : s.mg.wf = true
  elog : s.elog.wf = true
  twin : s.twin.wf = true
  pw : s.pw.wf = true
  facets : Tab.wf {} s.facets = true
  straps : Tab.wf 0 s.straps = true
  siteStatus : Tab.wf 0 s.siteStatus = true
  admitted : Tab.wf 0 s.admitted = true
  held : Tab.wf 0 s.held = true
  cds : Tab.wf {} s.cds = true
  fds : Tab.wf {} s.fds = true
  pds : Tab.wf {} s.pds = true
  oes : Tab.wf {} s.oes = true
  lsms : Tab.wf {} s.lsms = true
  hosts : Tab.wf {} s.hosts = true
  links : Tab.wf {} s.links = true
  dirs : Tab.wf {} s.dirs = true
  ctxs : Tab.wf {} s.ctxs = true
  owner : Tab.wf 0 s.owner = true
  ecc : Tab.wf 0 s.ecc = true
  sems : Tab.wf 0 s.sems = true
  arrs : Tab.wf 0 s.arrs = true
  slots : Tab.wf {} s.slots = true
  streams : Tab.wf {} s.streams = true
  engines : Tab.wf {} s.engines = true
  topk : Tab.wf {} s.topk = true
  ubuf : Tab.wf 0 s.ubuf = true
  tags : Tab.wf 0 s.tags = true
  outst : Tab.wf 0 s.outst = true
  latches : Tab.wf {} s.latches = true
  fences : Tab.wf [] s.fences = true
  striped : Tab.wf 0 s.striped = true
  idle : Tab.wf [] s.idle = true

theorem stored_iff {s : State} : s.stored = true ↔ Stored s := by
  simp only [State.stored, Bool.and_eq_true, and_assoc]
  constructor
  · rintro ⟨h0, h1, h2, h3, h4, h5, h6, h7, h8, h9, h10, h11, h12, h13, h14, h15, h16, h17, h18, h19, h20, h21, h22, h23, h24, h25, h26, h27, h28, h29, h30, h31, h32, h33, h34, h35, h36, h37⟩
    exact ⟨h0, h1, h2, h3, h4, h5, h6, h7, h8, h9, h10, h11, h12, h13, h14, h15, h16, h17, h18, h19, h20, h21, h22, h23, h24, h25, h26, h27, h28, h29, h30, h31, h32, h33, h34, h35, h36, h37⟩
  · rintro ⟨h0, h1, h2, h3, h4, h5, h6, h7, h8, h9, h10, h11, h12, h13, h14, h15, h16, h17, h18, h19, h20, h21, h22, h23, h24, h25, h26, h27, h28, h29, h30, h31, h32, h33, h34, h35, h36, h37⟩
    exact ⟨h0, h1, h2, h3, h4, h5, h6, h7, h8, h9, h10, h11, h12, h13, h14, h15, h16, h17, h18, h19, h20, h21, h22, h23, h24, h25, h26, h27, h28, h29, h30, h31, h32, h33, h34, h35, h36, h37⟩

theorem HubSt.wf_of {x y : HubSt} (h0 : Tab.wf 0 x.powered = true → Tab.wf 0 y.powered = true) (h1 : Tab.wf 0 x.firstTick = true → Tab.wf 0 y.firstTick = true) (h2 : Tab.wf 0 x.staged = true → Tab.wf 0 y.staged = true) : x.wf = true → y.wf = true := by
  simp only [HubSt.wf, Bool.and_eq_true, and_assoc]
  rintro ⟨k0, k1, k2⟩
  exact ⟨h0 k0, h1 k1, h2 k2⟩

theorem SecSt.wf_of {x y : SecSt} (h0 : Tab.wf {} x.keys = true → Tab.wf {} y.keys = true) : x.wf = true → y.wf = true := by
  exact h0

theorem FlashSt.wf_of {x y : FlashSt} (h0 : Tab.wf {} x.ckpts = true → Tab.wf {} y.ckpts = true) (h1 : Tab.wf [] x.trips = true → Tab.wf [] y.trips = true) : x.wf = true → y.wf = true := by
  simp only [FlashSt.wf, Bool.and_eq_true]
  rintro ⟨k0, k1⟩
  exact ⟨h0 k0, h1 k1⟩

theorem JournalSt.wf_of {x y : JournalSt} (h0 : Tab.wf {} x.ring = true → Tab.wf {} y.ring = true) : x.wf = true → y.wf = true := by
  exact h0

theorem MgmtSt.wf_of {x y : MgmtSt} (h0 : rising none x.num = true → rising none y.num = true) (h1 : rising none x.blob = true → rising none y.blob = true) (h2 : Tab.wf {} x.staged = true → Tab.wf {} y.staged = true) (h3 : Tab.wf 1 x.msgIds = true → Tab.wf 1 y.msgIds = true) : x.wf = true → y.wf = true := by
  simp only [MgmtSt.wf, Bool.and_eq_true, and_assoc]
  rintro ⟨k0, k1, k2, k3⟩
  exact ⟨h0 k0, h1 k1, h2 k2, h3 k3⟩

theorem LogSt.wf_of {x y : LogSt} (h0 : Tab.wf [] x.outbox = true → Tab.wf [] y.outbox = true) (h1 : Tab.wf 0 x.drops = true → Tab.wf 0 y.drops = true) (h2 : Tab.wf 0 x.since = true → Tab.wf 0 y.since = true) (h3 : Tab.wf 0 x.dropsRead = true → Tab.wf 0 y.dropsRead = true) (h4 : Tab.wf 0 x.dieWin = true → Tab.wf 0 y.dieWin = true) (h5 : Tab.wf 0 x.dieSent = true → Tab.wf 0 y.dieSent = true) (h6 : Tab.wf {} x.ring = true → Tab.wf {} y.ring = true) (h7 : Tab.wf 0 x.readMark = true → Tab.wf 0 y.readMark = true) : x.wf = true → y.wf = true := by
  simp only [LogSt.wf, Bool.and_eq_true, and_assoc]
  rintro ⟨k0, k1, k2, k3, k4, k5, k6, k7⟩
  exact ⟨h0 k0, h1 k1, h2 k2, h3 k3, h4 k4, h5 k5, h6 k6, h7 k7⟩

theorem TwinSt.wf_of {x y : TwinSt} (h0 : Tab.wf {} x.holdJournal = true → Tab.wf {} y.holdJournal = true) (h1 : Tab.wf {} x.inhJournal = true → Tab.wf {} y.inhJournal = true) : x.wf = true → y.wf = true := by
  simp only [TwinSt.wf, Bool.and_eq_true]
  rintro ⟨k0, k1⟩
  exact ⟨h0 k0, h1 k1⟩

theorem PowerSt.wf_of {x y : PowerSt} (h0 : Tab.wf 0 x.temp = true → Tab.wf 0 y.temp = true) (h1 : Tab.wf 0 x.sensorFailed = true → Tab.wf 0 y.sensorFailed = true) (h2 : Tab.wf 0 x.sensorValue = true → Tab.wf 0 y.sensorValue = true) : x.wf = true → y.wf = true := by
  simp only [PowerSt.wf, Bool.and_eq_true, and_assoc]
  rintro ⟨k0, k1, k2⟩
  exact ⟨h0 k0, h1 k1, h2 k2⟩


theorem wf_addEntries {t : Tab JEntry} {es : List JEntry} (h : Tab.wf {} t = true) : Tab.wf {} (addEntries t es) = true := by
  unfold addEntries
  exact wf_tkeep (wf_foldl (fun _ _ h => wf_tset h) h)

theorem TwinSt.wf_ite {c : Prop} {dc : Decidable c} {a b : TwinSt} (ha : a.wf = true) (hb : b.wf = true) :
    (if c then a else b).wf = true := by split <;> assumption

theorem wf_putBytes {m : List Host.Cell} {a : Nat} {bs : List Byte} (h : Tab.wf 0 m = true) :
    Tab.wf 0 (putBytes m a bs) = true := by
  induction bs generalizing m a with
  | nil => exact h
  | cons b bs ih => exact ih (wf_tset h)

theorem HubSt.wf_mk {x : HubSt} {on : Bool} {loader : Bool} {strapFault : Bool} {firmware : Bool} {resumed : Bool} {forwarding : Bool} {lastFacetOn : Option Nat} {nextFacet : Nat} {startup : Nat} {fwRunning : Nat} {powered : Tab Nat} {firstTick : Tab Nat} {hb1Primary : Bool} {hb0Failed : Bool} {hb1Failed : Bool} {lastBeat : Nat} {bothFailed : Bool} {devReady : Bool} {alertUntil : Nat} {thermTrip : Bool} {staged : Tab Byte} {stagedLen : Nat} {mctpDyn : Nat} {copied : Nat} (h0 : Tab.wf 0 x.powered = true → Tab.wf 0 powered = true) (h1 : Tab.wf 0 x.firstTick = true → Tab.wf 0 firstTick = true) (h2 : Tab.wf 0 x.staged = true → Tab.wf 0 staged = true) :
    x.wf = true → (HubSt.mk on loader strapFault firmware resumed forwarding lastFacetOn nextFacet startup fwRunning powered firstTick hb1Primary hb0Failed hb1Failed lastBeat bothFailed devReady alertUntil thermTrip staged stagedLen mctpDyn copied).wf = true :=
  HubSt.wf_of h0 h1 h2

theorem SecSt.wf_mk {x : SecSt} {secret : List Byte} {lc : Nat} {svMin : Nat} {revoke0 : Bool} {leavePending : Bool} {idSeed : List Byte} {fwMeasure : List Byte} {fwVersion : Nat} {keys : Tab KeySt} {sessions : List Session} {pairKey : List Byte} {recovered : List (Nat × KeySt)} {recovery : Option Recovery} {tamper : Nat} {tamperAt : Nat} {boots : Nat} {failCode : Nat} {loaderEntries : Nat} (h0 : Tab.wf {} x.keys = true → Tab.wf {} keys = true) :
    x.wf = true → (SecSt.mk secret lc svMin revoke0 leavePending idSeed fwMeasure fwVersion keys sessions pairKey recovered recovery tamper tamperAt boots failCode loaderEntries).wf = true :=
  SecSt.wf_of h0

theorem FlashSt.wf_mk {x : FlashSt} {fw : List Byte} {fwNew : Option (List Byte)} {copyA : Option (Nat × Tab (List Byte))} {copyB : Option (Nat × Tab (List Byte))} {ckpts : Tab Checkpoint} {nCkpts : Nat} {flushA : Option FlushRec} {flushB : Option FlushRec} {flushNew : Nat} {trips : Tab (List Byte)} {tripNext : Nat} (h0 : Tab.wf {} x.ckpts = true → Tab.wf {} ckpts = true) (h1 : Tab.wf [] x.trips = true → Tab.wf [] trips = true) :
    x.wf = true → (FlashSt.mk fw fwNew copyA copyB ckpts nCkpts flushA flushB flushNew trips tripNext).wf = true :=
  FlashSt.wf_of h0 h1

theorem JournalSt.wf_mk {x : JournalSt} {next : Nat} {chain : List Byte} {ring : Tab JEntry} {last : Option Checkpoint} {bootSeq : Nat} {closed : Bool} (h0 : Tab.wf {} x.ring = true → Tab.wf {} ring = true) :
    x.wf = true → (JournalSt.mk next chain ring last bootSeq closed).wf = true :=
  JournalSt.wf_of h0

theorem MgmtSt.wf_mk {x : MgmtSt} {num : Tab Nat} {blob : Tab (List Byte)} {pend : List PendWrite} {staged : Tab Staged} {kept : List Resp} {rxDropWin : Option Nat} {reasm : List Reasm} {msgIds : Tab Nat} {persist : List PersistWait} {outbox : List Mpk} {mctpRx : List MctpRx} {mctpTags : List (Nat × Nat × Nat)} (h0 : rising none x.num = true → rising none num = true) (h1 : rising none x.blob = true → rising none blob = true) (h2 : Tab.wf {} x.staged = true → Tab.wf {} staged = true) (h3 : Tab.wf 1 x.msgIds = true → Tab.wf 1 msgIds = true) :
    x.wf = true → (MgmtSt.mk num blob pend staged kept rxDropWin reasm msgIds persist outbox mctpRx mctpTags).wf = true :=
  MgmtSt.wf_of h0 h1 h2 h3

theorem LogSt.wf_mk {x : LogSt} {outbox : Tab (List Report)} {drops : Tab Nat} {since : Tab Nat} {dropsRead : Tab Nat} {dieWin : Tab Nat} {dieSent : Tab Nat} {hubWin : Nat} {hubTaken : Nat} {pollAt : Nat} {waiting : List Report} {open_ : List LogEntry} {ring : Tab LogEntry} {readMark : Tab Nat} {head : Nat} {overflow : Nat} {overwritten : Nat} (h0 : Tab.wf [] x.outbox = true → Tab.wf [] outbox = true) (h1 : Tab.wf 0 x.drops = true → Tab.wf 0 drops = true) (h2 : Tab.wf 0 x.since = true → Tab.wf 0 since = true) (h3 : Tab.wf 0 x.dropsRead = true → Tab.wf 0 dropsRead = true) (h4 : Tab.wf 0 x.dieWin = true → Tab.wf 0 dieWin = true) (h5 : Tab.wf 0 x.dieSent = true → Tab.wf 0 dieSent = true) (h6 : Tab.wf {} x.ring = true → Tab.wf {} ring = true) (h7 : Tab.wf 0 x.readMark = true → Tab.wf 0 readMark = true) :
    x.wf = true → (LogSt.mk outbox drops since dropsRead dieWin dieSent hubWin hubTaken pollAt waiting open_ ring readMark head overflow overwritten).wf = true :=
  LogSt.wf_of h0 h1 h2 h3 h4 h5 h6 h7

theorem TwinSt.wf_mk {x : TwinSt} {state : Nat} {node : Nat} {twinId : List Byte} {pub : List Byte} {since : Nat} {lastBeat : Nat} {beatSent : Nat} {priv : List Byte} {report : List Byte} {txCount : Nat} {rxCount : Nat} {mirrorCount : Nat} {blobAcked : Nat} {journalAcked : Nat} {ackedParts : Nat} {sentParts : Nat} {holdId : List Byte} {holdNode : Nat} {holdJournal : Tab JEntry} {holdCkpts : List Checkpoint} {holdImage : List Byte} {holdImageSeq : Nat} {holdBlob : List Byte} {holdKey : List Byte} {rxImage : List Byte} {holdBlobCount : Nat} {spare : Bool} {inhJournal : Tab JEntry} {inhCkpts : List Checkpoint} {pullStatus : Nat} {handover : Option Nat} (h0 : Tab.wf {} x.holdJournal = true → Tab.wf {} holdJournal = true) (h1 : Tab.wf {} x.inhJournal = true → Tab.wf {} inhJournal = true) :
    x.wf = true → (TwinSt.mk state node twinId pub since lastBeat beatSent priv report txCount rxCount mirrorCount blobAcked journalAcked ackedParts sentParts holdId holdNode holdJournal holdCkpts holdImage holdImageSeq holdBlob holdKey rxImage holdBlobCount spare inhJournal inhCkpts pullStatus handover).wf = true :=
  TwinSt.wf_of h0 h1

theorem PowerSt.wf_mk {x : PowerSt} {supply : Nat} {volts : Nat} {sagStart : Nat} {sags : Nat} {sagNs : Nat} {stops : Nat} {windows : List Nat} {winEnd : Nat} {modelAt : Nat} {anchorAt : Nat} {shortOver : Nat} {sustOver : Nat} {lastCapReport : Option Nat} {inputPower : Nat} {inputPower8 : Nat} {temp : Tab Int} {sensorFailed : Tab Nat} {sensorValue : Tab Int} {coolant : Option Int} {tripped : Bool} {hubTrip : Bool} {tripRecord : List Byte} (h0 : Tab.wf 0 x.temp = true → Tab.wf 0 temp = true) (h1 : Tab.wf 0 x.sensorFailed = true → Tab.wf 0 sensorFailed = true) (h2 : Tab.wf 0 x.sensorValue = true → Tab.wf 0 sensorValue = true) :
    x.wf = true → (PowerSt.mk supply volts sagStart sags sagNs stops windows winEnd modelAt anchorAt shortOver sustOver lastCapReport inputPower inputPower8 temp sensorFailed sensorValue coolant tripped hubTrip tripRecord).wf = true :=
  PowerSt.wf_of h0 h1 h2


theorem Same.put_pending (s : State) (v0 : List Instr) :
    Same 1 s { s with pending := v0 } := by
  refine ⟨fun h => absurd h (by decide), fun _ => rfl, fun _ => rfl, fun _ => rfl, fun _ => rfl, fun _ => rfl, fun _ =>
    rfl, fun _ => rfl, fun _ => rfl, fun _ => rfl, fun _ => rfl, fun _ => rfl, fun _ => rfl, fun _ => rfl, fun _ =>
    rfl, fun _ => rfl, fun _ => rfl, fun _ => rfl, fun _ => rfl, fun _ => rfl, fun _ => rfl, fun _ => rfl, fun _ =>
    rfl, fun _ => rfl, fun _ => rfl, fun _ => rfl, fun _ => rfl, fun _ => rfl, fun _ => rfl, fun _ => rfl, fun _ =>
    rfl, fun _ => rfl, fun _ => rfl, fun _ => rfl, fun _ => rfl, fun _ => rfl, fun _ => rfl, fun _ => rfl, fun _ =>
    rfl, fun _ => rfl, fun _ => rfl, fun _ => rfl, fun _ => rfl, fun _ => rfl, fun _ => rfl, fun _ => rfl, fun _ =>
    rfl, fun _ => rfl, fun _ => rfl, fun _ => rfl, fun _ => rfl, fun _ => rfl, fun _ => rfl, fun _ => rfl, fun _ =>
    rfl, fun h => ?_⟩
  exact h

theorem Same.put_time (s : State) (v0 : Nat) :
    Same 2 s { s with time := v0 } := by
  refine ⟨fun _ => rfl, fun h => absurd h (by decide), fun _ => rfl, fun _ => rfl, fun _ => rfl, fun _ => rfl, fun _ =>
    rfl, fun _ => rfl, fun _ => rfl, fun _ => rfl, fun _ => rfl, fun _ => rfl, fun _ => rfl, fun _ => rfl, fun _ =>
    rfl, fun _ => rfl, fun _ => rfl, fun _ => rfl, fun _ => rfl, fun _ => rfl, fun _ => rfl, fun _ => rfl, fun _ =>
    rfl, fun _ => rfl, fun _ => rfl, fun _ => rfl, fun _ => rfl, fun _ => rfl, fun _ => rfl, fun _ => rfl, fun _ =>
    rfl, fun _ => rfl, fun _ => rfl, fun _ => rfl, fun _ => rfl, fun _ => rfl, fun _ => rfl, fun _ => rfl, fun _ =>
    rfl, fun _ => rfl, fun _ => rfl, fun _ => rfl, fun _ => rfl, fun _ => rfl, fun _ => rfl, fun _ => rfl, fun _ =>
    rfl, fun _ => rfl, fun _ => rfl, fun _ => rfl, fun _ => rfl, fun _ => rfl, fun _ => rfl, fun _ => rfl, fun _ =>
    rfl, fun h => ?_⟩
  exact h

theorem Same.put_free (s : State) (v0 : Nat) :
    Same 4 s { s with free := v0 } := by
  refine ⟨fun _ => rfl, fun _ => rfl, fun h => absurd h (by decide), fun _ => rfl, fun _ => rfl, fun _ => rfl, fun _ =>
    rfl, fun _ => rfl, fun _ => rfl, fun _ => rfl, fun _ => rfl, fun _ => rfl, fun _ => rfl, fun _ => rfl, fun _ =>
    rfl, fun _ => rfl, fun _ => rfl, fun _ => rfl, fun _ => rfl, fun _ => rfl, fun _ => rfl, fun _ => rfl, fun _ =>
    rfl, fun _ => rfl, fun _ => rfl, fun _ => rfl, fun _ => rfl, fun _ => rfl, fun _ => rfl, fun _ => rfl, fun _ =>
    rfl, fun _ => rfl, fun _ => rfl, fun _ => rfl, fun _ => rfl, fun _ => rfl, fun _ => rfl, fun _ => rfl, fun _ =>
    rfl, fun _ => rfl, fun _ => rfl, fun _ => rfl, fun _ => rfl, fun _ => rfl, fun _ => rfl, fun _ => rfl, fun _ =>
    rfl, fun _ => rfl, fun _ => rfl, fun _ => rfl, fun _ => rfl, fun _ => rfl, fun _ => rfl, fun _ => rfl, fun _ =>
    rfl, fun h => ?_⟩
  exact h

theorem Same.put_rnd (s : State) (v0 : Nat) :
    Same 8 s { s with rnd := v0 } := by
  refine ⟨fun _ => rfl, fun _ => rfl, fun _ => rfl, fun h => absurd h (by decide), fun _ => rfl, fun _ => rfl, fun _ =>
    rfl, fun _ => rfl, fun _ => rfl, fun _ => rfl, fun _ => rfl, fun _ => rfl, fun _ => rfl, fun _ => rfl, fun _ =>
    rfl, fun _ => rfl, fun _ => rfl, fun _ => rfl, fun _ => rfl, fun _ => rfl, fun _ => rfl, fun _ => rfl, fun _ =>
    rfl, fun _ => rfl, fun _ => rfl, fun _ => rfl, fun _ => rfl, fun _ => rfl, fun _ => rfl, fun _ => rfl, fun _ =>
    rfl, fun _ => rfl, fun _ => rfl, fun _ => rfl, fun _ => rfl, fun _ => rfl, fun _ => rfl, fun _ => rfl, fun _ =>
    rfl, fun _ => rfl, fun _ => rfl, fun _ => rfl, fun _ => rfl, fun _ => rfl, fun _ => rfl, fun _ => rfl, fun _ =>
    rfl, fun _ => rfl, fun _ => rfl, fun _ => rfl, fun _ => rfl, fun _ => rfl, fun _ => rfl, fun _ => rfl, fun _ =>
    rfl, fun h => ?_⟩
  exact h

theorem Same.put_nextUid (s : State) (v0 : Nat) :
    Same 16 s { s with nextUid := v0 } := by
  refine ⟨fun _ => rfl, fun _ => rfl, fun _ => rfl, fun _ => rfl, fun h => absurd h (by decide), fun _ => rfl, fun _ =>
    rfl, fun _ => rfl, fun _ => rfl, fun _ => rfl, fun _ => rfl, fun _ => rfl, fun _ => rfl, fun _ => rfl, fun _ =>
    rfl, fun _ => rfl, fun _ => rfl, fun _ => rfl, fun _ => rfl, fun _ => rfl, fun _ => rfl, fun _ => rfl, fun _ =>
    rfl, fun _ => rfl, fun _ => rfl, fun _ => rfl, fun _ => rfl, fun _ => rfl, fun _ => rfl, fun _ => rfl, fun _ =>
    rfl, fun _ => rfl, fun _ => rfl, fun _ => rfl, fun _ => rfl, fun _ => rfl, fun _ => rfl, fun _ => rfl, fun _ =>
    rfl, fun _ => rfl, fun _ => rfl, fun _ => rfl, fun _ => rfl, fun _ => rfl, fun _ => rfl, fun _ => rfl, fun _ =>
    rfl, fun _ => rfl, fun _ => rfl, fun _ => rfl, fun _ => rfl, fun _ => rfl, fun _ => rfl, fun _ => rfl, fun _ =>
    rfl, fun h => ?_⟩
  exact h

theorem Same.put_hub (s : State) (v0 : HubSt)
    (hv0 : s.hub.wf = true → v0.wf = true) :
    Same 32 s { s with hub := v0 } := by
  refine ⟨fun _ => rfl, fun _ => rfl, fun _ => rfl, fun _ => rfl, fun _ => rfl, fun h => absurd h (by decide), fun _ =>
    rfl, fun _ => rfl, fun _ => rfl, fun _ => rfl, fun _ => rfl, fun _ => rfl, fun _ => rfl, fun _ => rfl, fun _ =>
    rfl, fun _ => rfl, fun _ => rfl, fun _ => rfl, fun _ => rfl, fun _ => rfl, fun _ => rfl, fun _ => rfl, fun _ =>
    rfl, fun _ => rfl, fun _ => rfl, fun _ => rfl, fun _ => rfl, fun _ => rfl, fun _ => rfl, fun _ => rfl, fun _ =>
    rfl, fun _ => rfl, fun _ => rfl, fun _ => rfl, fun _ => rfl, fun _ => rfl, fun _ => rfl, fun _ => rfl, fun _ =>
    rfl, fun _ => rfl, fun _ => rfl, fun _ => rfl, fun _ => rfl, fun _ => rfl, fun _ => rfl, fun _ => rfl, fun _ =>
    rfl, fun _ => rfl, fun _ => rfl, fun _ => rfl, fun _ => rfl, fun _ => rfl, fun _ => rfl, fun _ => rfl, fun _ =>
    rfl, fun h => ?_⟩
  rw [stored_iff] at h ⊢
  exact ⟨h.mem, hv0 h.hub, h.sec, h.flash, h.jrnl, h.mg, h.elog, h.twin, h.pw, h.facets, h.straps, h.siteStatus,
    h.admitted, h.held, h.cds, h.fds, h.pds, h.oes, h.lsms, h.hosts, h.links, h.dirs, h.ctxs, h.owner, h.ecc, h.sems,
    h.arrs, h.slots, h.streams, h.engines, h.topk, h.ubuf, h.tags, h.outst, h.latches, h.fences, h.striped, h.idle⟩

theorem Same.put_sec (s : State) (v0 : SecSt)
    (hv0 : s.sec.wf = true → v0.wf = true) :
    Same 64 s { s with sec := v0 } := by
  refine ⟨fun _ => rfl, fun _ => rfl, fun _ => rfl, fun _ => rfl, fun _ => rfl, fun _ => rfl, fun h => absurd h (by
    decide), fun _ => rfl, fun _ => rfl, fun _ => rfl, fun _ => rfl, fun _ => rfl, fun _ => rfl, fun _ => rfl, fun _
    => rfl, fun _ => rfl, fun _ => rfl, fun _ => rfl, fun _ => rfl, fun _ => rfl, fun _ => rfl, fun _ => rfl, fun _ =>
    rfl, fun _ => rfl, fun _ => rfl, fun _ => rfl, fun _ => rfl, fun _ => rfl, fun _ => rfl, fun _ => rfl, fun _ =>
    rfl, fun _ => rfl, fun _ => rfl, fun _ => rfl, fun _ => rfl, fun _ => rfl, fun _ => rfl, fun _ => rfl, fun _ =>
    rfl, fun _ => rfl, fun _ => rfl, fun _ => rfl, fun _ => rfl, fun _ => rfl, fun _ => rfl, fun _ => rfl, fun _ =>
    rfl, fun _ => rfl, fun _ => rfl, fun _ => rfl, fun _ => rfl, fun _ => rfl, fun _ => rfl, fun _ => rfl, fun _ =>
    rfl, fun h => ?_⟩
  rw [stored_iff] at h ⊢
  exact ⟨h.mem, h.hub, hv0 h.sec, h.flash, h.jrnl, h.mg, h.elog, h.twin, h.pw, h.facets, h.straps, h.siteStatus,
    h.admitted, h.held, h.cds, h.fds, h.pds, h.oes, h.lsms, h.hosts, h.links, h.dirs, h.ctxs, h.owner, h.ecc, h.sems,
    h.arrs, h.slots, h.streams, h.engines, h.topk, h.ubuf, h.tags, h.outst, h.latches, h.fences, h.striped, h.idle⟩

theorem Same.put_flash (s : State) (v0 : FlashSt)
    (hv0 : s.flash.wf = true → v0.wf = true) :
    Same 128 s { s with flash := v0 } := by
  refine ⟨fun _ => rfl, fun _ => rfl, fun _ => rfl, fun _ => rfl, fun _ => rfl, fun _ => rfl, fun _ => rfl, fun h =>
    absurd h (by decide), fun _ => rfl, fun _ => rfl, fun _ => rfl, fun _ => rfl, fun _ => rfl, fun _ => rfl, fun _ =>
    rfl, fun _ => rfl, fun _ => rfl, fun _ => rfl, fun _ => rfl, fun _ => rfl, fun _ => rfl, fun _ => rfl, fun _ =>
    rfl, fun _ => rfl, fun _ => rfl, fun _ => rfl, fun _ => rfl, fun _ => rfl, fun _ => rfl, fun _ => rfl, fun _ =>
    rfl, fun _ => rfl, fun _ => rfl, fun _ => rfl, fun _ => rfl, fun _ => rfl, fun _ => rfl, fun _ => rfl, fun _ =>
    rfl, fun _ => rfl, fun _ => rfl, fun _ => rfl, fun _ => rfl, fun _ => rfl, fun _ => rfl, fun _ => rfl, fun _ =>
    rfl, fun _ => rfl, fun _ => rfl, fun _ => rfl, fun _ => rfl, fun _ => rfl, fun _ => rfl, fun _ => rfl, fun _ =>
    rfl, fun h => ?_⟩
  rw [stored_iff] at h ⊢
  exact ⟨h.mem, h.hub, h.sec, hv0 h.flash, h.jrnl, h.mg, h.elog, h.twin, h.pw, h.facets, h.straps, h.siteStatus,
    h.admitted, h.held, h.cds, h.fds, h.pds, h.oes, h.lsms, h.hosts, h.links, h.dirs, h.ctxs, h.owner, h.ecc, h.sems,
    h.arrs, h.slots, h.streams, h.engines, h.topk, h.ubuf, h.tags, h.outst, h.latches, h.fences, h.striped, h.idle⟩

theorem Same.put_standby (s : State) (v0 : StandbySt) :
    Same 256 s { s with standby := v0 } := by
  refine ⟨fun _ => rfl, fun _ => rfl, fun _ => rfl, fun _ => rfl, fun _ => rfl, fun _ => rfl, fun _ => rfl, fun _ =>
    rfl, fun h => absurd h (by decide), fun _ => rfl, fun _ => rfl, fun _ => rfl, fun _ => rfl, fun _ => rfl, fun _ =>
    rfl, fun _ => rfl, fun _ => rfl, fun _ => rfl, fun _ => rfl, fun _ => rfl, fun _ => rfl, fun _ => rfl, fun _ =>
    rfl, fun _ => rfl, fun _ => rfl, fun _ => rfl, fun _ => rfl, fun _ => rfl, fun _ => rfl, fun _ => rfl, fun _ =>
    rfl, fun _ => rfl, fun _ => rfl, fun _ => rfl, fun _ => rfl, fun _ => rfl, fun _ => rfl, fun _ => rfl, fun _ =>
    rfl, fun _ => rfl, fun _ => rfl, fun _ => rfl, fun _ => rfl, fun _ => rfl, fun _ => rfl, fun _ => rfl, fun _ =>
    rfl, fun _ => rfl, fun _ => rfl, fun _ => rfl, fun _ => rfl, fun _ => rfl, fun _ => rfl, fun _ => rfl, fun _ =>
    rfl, fun h => ?_⟩
  exact h

theorem Same.put_jrnl (s : State) (v0 : JournalSt)
    (hv0 : s.jrnl.wf = true → v0.wf = true) :
    Same 512 s { s with jrnl := v0 } := by
  refine ⟨fun _ => rfl, fun _ => rfl, fun _ => rfl, fun _ => rfl, fun _ => rfl, fun _ => rfl, fun _ => rfl, fun _ =>
    rfl, fun _ => rfl, fun h => absurd h (by decide), fun _ => rfl, fun _ => rfl, fun _ => rfl, fun _ => rfl, fun _ =>
    rfl, fun _ => rfl, fun _ => rfl, fun _ => rfl, fun _ => rfl, fun _ => rfl, fun _ => rfl, fun _ => rfl, fun _ =>
    rfl, fun _ => rfl, fun _ => rfl, fun _ => rfl, fun _ => rfl, fun _ => rfl, fun _ => rfl, fun _ => rfl, fun _ =>
    rfl, fun _ => rfl, fun _ => rfl, fun _ => rfl, fun _ => rfl, fun _ => rfl, fun _ => rfl, fun _ => rfl, fun _ =>
    rfl, fun _ => rfl, fun _ => rfl, fun _ => rfl, fun _ => rfl, fun _ => rfl, fun _ => rfl, fun _ => rfl, fun _ =>
    rfl, fun _ => rfl, fun _ => rfl, fun _ => rfl, fun _ => rfl, fun _ => rfl, fun _ => rfl, fun _ => rfl, fun _ =>
    rfl, fun h => ?_⟩
  rw [stored_iff] at h ⊢
  exact ⟨h.mem, h.hub, h.sec, h.flash, hv0 h.jrnl, h.mg, h.elog, h.twin, h.pw, h.facets, h.straps, h.siteStatus,
    h.admitted, h.held, h.cds, h.fds, h.pds, h.oes, h.lsms, h.hosts, h.links, h.dirs, h.ctxs, h.owner, h.ecc, h.sems,
    h.arrs, h.slots, h.streams, h.engines, h.topk, h.ubuf, h.tags, h.outst, h.latches, h.fences, h.striped, h.idle⟩

theorem Same.put_mg (s : State) (v0 : MgmtSt)
    (hv0 : s.mg.wf = true → v0.wf = true) :
    Same 1024 s { s with mg := v0 } := by
  refine ⟨fun _ => rfl, fun _ => rfl, fun _ => rfl, fun _ => rfl, fun _ => rfl, fun _ => rfl, fun _ => rfl, fun _ =>
    rfl, fun _ => rfl, fun _ => rfl, fun h => absurd h (by decide), fun _ => rfl, fun _ => rfl, fun _ => rfl, fun _ =>
    rfl, fun _ => rfl, fun _ => rfl, fun _ => rfl, fun _ => rfl, fun _ => rfl, fun _ => rfl, fun _ => rfl, fun _ =>
    rfl, fun _ => rfl, fun _ => rfl, fun _ => rfl, fun _ => rfl, fun _ => rfl, fun _ => rfl, fun _ => rfl, fun _ =>
    rfl, fun _ => rfl, fun _ => rfl, fun _ => rfl, fun _ => rfl, fun _ => rfl, fun _ => rfl, fun _ => rfl, fun _ =>
    rfl, fun _ => rfl, fun _ => rfl, fun _ => rfl, fun _ => rfl, fun _ => rfl, fun _ => rfl, fun _ => rfl, fun _ =>
    rfl, fun _ => rfl, fun _ => rfl, fun _ => rfl, fun _ => rfl, fun _ => rfl, fun _ => rfl, fun _ => rfl, fun _ =>
    rfl, fun h => ?_⟩
  rw [stored_iff] at h ⊢
  exact ⟨h.mem, h.hub, h.sec, h.flash, h.jrnl, hv0 h.mg, h.elog, h.twin, h.pw, h.facets, h.straps, h.siteStatus,
    h.admitted, h.held, h.cds, h.fds, h.pds, h.oes, h.lsms, h.hosts, h.links, h.dirs, h.ctxs, h.owner, h.ecc, h.sems,
    h.arrs, h.slots, h.streams, h.engines, h.topk, h.ubuf, h.tags, h.outst, h.latches, h.fences, h.striped, h.idle⟩

theorem Same.put_twin (s : State) (v0 : TwinSt)
    (hv0 : s.twin.wf = true → v0.wf = true) :
    Same 2048 s { s with twin := v0 } := by
  refine ⟨fun _ => rfl, fun _ => rfl, fun _ => rfl, fun _ => rfl, fun _ => rfl, fun _ => rfl, fun _ => rfl, fun _ =>
    rfl, fun _ => rfl, fun _ => rfl, fun _ => rfl, fun h => absurd h (by decide), fun _ => rfl, fun _ => rfl, fun _ =>
    rfl, fun _ => rfl, fun _ => rfl, fun _ => rfl, fun _ => rfl, fun _ => rfl, fun _ => rfl, fun _ => rfl, fun _ =>
    rfl, fun _ => rfl, fun _ => rfl, fun _ => rfl, fun _ => rfl, fun _ => rfl, fun _ => rfl, fun _ => rfl, fun _ =>
    rfl, fun _ => rfl, fun _ => rfl, fun _ => rfl, fun _ => rfl, fun _ => rfl, fun _ => rfl, fun _ => rfl, fun _ =>
    rfl, fun _ => rfl, fun _ => rfl, fun _ => rfl, fun _ => rfl, fun _ => rfl, fun _ => rfl, fun _ => rfl, fun _ =>
    rfl, fun _ => rfl, fun _ => rfl, fun _ => rfl, fun _ => rfl, fun _ => rfl, fun _ => rfl, fun _ => rfl, fun _ =>
    rfl, fun h => ?_⟩
  rw [stored_iff] at h ⊢
  exact ⟨h.mem, h.hub, h.sec, h.flash, h.jrnl, h.mg, h.elog, hv0 h.twin, h.pw, h.facets, h.straps, h.siteStatus,
    h.admitted, h.held, h.cds, h.fds, h.pds, h.oes, h.lsms, h.hosts, h.links, h.dirs, h.ctxs, h.owner, h.ecc, h.sems,
    h.arrs, h.slots, h.streams, h.engines, h.topk, h.ubuf, h.tags, h.outst, h.latches, h.fences, h.striped, h.idle⟩

theorem Same.put_elog (s : State) (v0 : LogSt)
    (hv0 : s.elog.wf = true → v0.wf = true) :
    Same 4096 s { s with elog := v0 } := by
  refine ⟨fun _ => rfl, fun _ => rfl, fun _ => rfl, fun _ => rfl, fun _ => rfl, fun _ => rfl, fun _ => rfl, fun _ =>
    rfl, fun _ => rfl, fun _ => rfl, fun _ => rfl, fun _ => rfl, fun h => absurd h (by decide), fun _ => rfl, fun _ =>
    rfl, fun _ => rfl, fun _ => rfl, fun _ => rfl, fun _ => rfl, fun _ => rfl, fun _ => rfl, fun _ => rfl, fun _ =>
    rfl, fun _ => rfl, fun _ => rfl, fun _ => rfl, fun _ => rfl, fun _ => rfl, fun _ => rfl, fun _ => rfl, fun _ =>
    rfl, fun _ => rfl, fun _ => rfl, fun _ => rfl, fun _ => rfl, fun _ => rfl, fun _ => rfl, fun _ => rfl, fun _ =>
    rfl, fun _ => rfl, fun _ => rfl, fun _ => rfl, fun _ => rfl, fun _ => rfl, fun _ => rfl, fun _ => rfl, fun _ =>
    rfl, fun _ => rfl, fun _ => rfl, fun _ => rfl, fun _ => rfl, fun _ => rfl, fun _ => rfl, fun _ => rfl, fun _ =>
    rfl, fun h => ?_⟩
  rw [stored_iff] at h ⊢
  exact ⟨h.mem, h.hub, h.sec, h.flash, h.jrnl, h.mg, hv0 h.elog, h.twin, h.pw, h.facets, h.straps, h.siteStatus,
    h.admitted, h.held, h.cds, h.fds, h.pds, h.oes, h.lsms, h.hosts, h.links, h.dirs, h.ctxs, h.owner, h.ecc, h.sems,
    h.arrs, h.slots, h.streams, h.engines, h.topk, h.ubuf, h.tags, h.outst, h.latches, h.fences, h.striped, h.idle⟩

theorem Same.put_pw (s : State) (v0 : PowerSt)
    (hv0 : s.pw.wf = true → v0.wf = true) :
    Same 8192 s { s with pw := v0 } := by
  refine ⟨fun _ => rfl, fun _ => rfl, fun _ => rfl, fun _ => rfl, fun _ => rfl, fun _ => rfl, fun _ => rfl, fun _ =>
    rfl, fun _ => rfl, fun _ => rfl, fun _ => rfl, fun _ => rfl, fun _ => rfl, fun h => absurd h (by decide), fun _ =>
    rfl, fun _ => rfl, fun _ => rfl, fun _ => rfl, fun _ => rfl, fun _ => rfl, fun _ => rfl, fun _ => rfl, fun _ =>
    rfl, fun _ => rfl, fun _ => rfl, fun _ => rfl, fun _ => rfl, fun _ => rfl, fun _ => rfl, fun _ => rfl, fun _ =>
    rfl, fun _ => rfl, fun _ => rfl, fun _ => rfl, fun _ => rfl, fun _ => rfl, fun _ => rfl, fun _ => rfl, fun _ =>
    rfl, fun _ => rfl, fun _ => rfl, fun _ => rfl, fun _ => rfl, fun _ => rfl, fun _ => rfl, fun _ => rfl, fun _ =>
    rfl, fun _ => rfl, fun _ => rfl, fun _ => rfl, fun _ => rfl, fun _ => rfl, fun _ => rfl, fun _ => rfl, fun _ =>
    rfl, fun h => ?_⟩
  rw [stored_iff] at h ⊢
  exact ⟨h.mem, h.hub, h.sec, h.flash, h.jrnl, h.mg, h.elog, h.twin, hv0 h.pw, h.facets, h.straps, h.siteStatus,
    h.admitted, h.held, h.cds, h.fds, h.pds, h.oes, h.lsms, h.hosts, h.links, h.dirs, h.ctxs, h.owner, h.ecc, h.sems,
    h.arrs, h.slots, h.streams, h.engines, h.topk, h.ubuf, h.tags, h.outst, h.latches, h.fences, h.striped, h.idle⟩

theorem Same.put_facets (s : State) (v0 : Tab FacetSt)
    (hv0 : Tab.wf {} s.facets = true → Tab.wf {} v0 = true) :
    Same 16384 s { s with facets := v0 } := by
  refine ⟨fun _ => rfl, fun _ => rfl, fun _ => rfl, fun _ => rfl, fun _ => rfl, fun _ => rfl, fun _ => rfl, fun _ =>
    rfl, fun _ => rfl, fun _ => rfl, fun _ => rfl, fun _ => rfl, fun _ => rfl, fun _ => rfl, fun h => absurd h (by
    decide), fun _ => rfl, fun _ => rfl, fun _ => rfl, fun _ => rfl, fun _ => rfl, fun _ => rfl, fun _ => rfl, fun _
    => rfl, fun _ => rfl, fun _ => rfl, fun _ => rfl, fun _ => rfl, fun _ => rfl, fun _ => rfl, fun _ => rfl, fun _ =>
    rfl, fun _ => rfl, fun _ => rfl, fun _ => rfl, fun _ => rfl, fun _ => rfl, fun _ => rfl, fun _ => rfl, fun _ =>
    rfl, fun _ => rfl, fun _ => rfl, fun _ => rfl, fun _ => rfl, fun _ => rfl, fun _ => rfl, fun _ => rfl, fun _ =>
    rfl, fun _ => rfl, fun _ => rfl, fun _ => rfl, fun _ => rfl, fun _ => rfl, fun _ => rfl, fun _ => rfl, fun _ =>
    rfl, fun h => ?_⟩
  rw [stored_iff] at h ⊢
  exact ⟨h.mem, h.hub, h.sec, h.flash, h.jrnl, h.mg, h.elog, h.twin, h.pw, hv0 h.facets, h.straps, h.siteStatus,
    h.admitted, h.held, h.cds, h.fds, h.pds, h.oes, h.lsms, h.hosts, h.links, h.dirs, h.ctxs, h.owner, h.ecc, h.sems,
    h.arrs, h.slots, h.streams, h.engines, h.topk, h.ubuf, h.tags, h.outst, h.latches, h.fences, h.striped, h.idle⟩

theorem Same.put_straps (s : State) (v0 : Tab Nat)
    (hv0 : Tab.wf 0 s.straps = true → Tab.wf 0 v0 = true) :
    Same 32768 s { s with straps := v0 } := by
  refine ⟨fun _ => rfl, fun _ => rfl, fun _ => rfl, fun _ => rfl, fun _ => rfl, fun _ => rfl, fun _ => rfl, fun _ =>
    rfl, fun _ => rfl, fun _ => rfl, fun _ => rfl, fun _ => rfl, fun _ => rfl, fun _ => rfl, fun _ => rfl, fun h =>
    absurd h (by decide), fun _ => rfl, fun _ => rfl, fun _ => rfl, fun _ => rfl, fun _ => rfl, fun _ => rfl, fun _ =>
    rfl, fun _ => rfl, fun _ => rfl, fun _ => rfl, fun _ => rfl, fun _ => rfl, fun _ => rfl, fun _ => rfl, fun _ =>
    rfl, fun _ => rfl, fun _ => rfl, fun _ => rfl, fun _ => rfl, fun _ => rfl, fun _ => rfl, fun _ => rfl, fun _ =>
    rfl, fun _ => rfl, fun _ => rfl, fun _ => rfl, fun _ => rfl, fun _ => rfl, fun _ => rfl, fun _ => rfl, fun _ =>
    rfl, fun _ => rfl, fun _ => rfl, fun _ => rfl, fun _ => rfl, fun _ => rfl, fun _ => rfl, fun _ => rfl, fun _ =>
    rfl, fun h => ?_⟩
  rw [stored_iff] at h ⊢
  exact ⟨h.mem, h.hub, h.sec, h.flash, h.jrnl, h.mg, h.elog, h.twin, h.pw, h.facets, hv0 h.straps, h.siteStatus,
    h.admitted, h.held, h.cds, h.fds, h.pds, h.oes, h.lsms, h.hosts, h.links, h.dirs, h.ctxs, h.owner, h.ecc, h.sems,
    h.arrs, h.slots, h.streams, h.engines, h.topk, h.ubuf, h.tags, h.outst, h.latches, h.fences, h.striped, h.idle⟩

theorem Same.put_siteStatus (s : State) (v0 : Tab Nat)
    (hv0 : Tab.wf 0 s.siteStatus = true → Tab.wf 0 v0 = true) :
    Same 65536 s { s with siteStatus := v0 } := by
  refine ⟨fun _ => rfl, fun _ => rfl, fun _ => rfl, fun _ => rfl, fun _ => rfl, fun _ => rfl, fun _ => rfl, fun _ =>
    rfl, fun _ => rfl, fun _ => rfl, fun _ => rfl, fun _ => rfl, fun _ => rfl, fun _ => rfl, fun _ => rfl, fun _ =>
    rfl, fun h => absurd h (by decide), fun _ => rfl, fun _ => rfl, fun _ => rfl, fun _ => rfl, fun _ => rfl, fun _ =>
    rfl, fun _ => rfl, fun _ => rfl, fun _ => rfl, fun _ => rfl, fun _ => rfl, fun _ => rfl, fun _ => rfl, fun _ =>
    rfl, fun _ => rfl, fun _ => rfl, fun _ => rfl, fun _ => rfl, fun _ => rfl, fun _ => rfl, fun _ => rfl, fun _ =>
    rfl, fun _ => rfl, fun _ => rfl, fun _ => rfl, fun _ => rfl, fun _ => rfl, fun _ => rfl, fun _ => rfl, fun _ =>
    rfl, fun _ => rfl, fun _ => rfl, fun _ => rfl, fun _ => rfl, fun _ => rfl, fun _ => rfl, fun _ => rfl, fun _ =>
    rfl, fun h => ?_⟩
  rw [stored_iff] at h ⊢
  exact ⟨h.mem, h.hub, h.sec, h.flash, h.jrnl, h.mg, h.elog, h.twin, h.pw, h.facets, h.straps, hv0 h.siteStatus,
    h.admitted, h.held, h.cds, h.fds, h.pds, h.oes, h.lsms, h.hosts, h.links, h.dirs, h.ctxs, h.owner, h.ecc, h.sems,
    h.arrs, h.slots, h.streams, h.engines, h.topk, h.ubuf, h.tags, h.outst, h.latches, h.fences, h.striped, h.idle⟩

theorem Same.put_admitted (s : State) (v0 : Tab Nat)
    (hv0 : Tab.wf 0 s.admitted = true → Tab.wf 0 v0 = true) :
    Same 131072 s { s with admitted := v0 } := by
  refine ⟨fun _ => rfl, fun _ => rfl, fun _ => rfl, fun _ => rfl, fun _ => rfl, fun _ => rfl, fun _ => rfl, fun _ =>
    rfl, fun _ => rfl, fun _ => rfl, fun _ => rfl, fun _ => rfl, fun _ => rfl, fun _ => rfl, fun _ => rfl, fun _ =>
    rfl, fun _ => rfl, fun h => absurd h (by decide), fun _ => rfl, fun _ => rfl, fun _ => rfl, fun _ => rfl, fun _ =>
    rfl, fun _ => rfl, fun _ => rfl, fun _ => rfl, fun _ => rfl, fun _ => rfl, fun _ => rfl, fun _ => rfl, fun _ =>
    rfl, fun _ => rfl, fun _ => rfl, fun _ => rfl, fun _ => rfl, fun _ => rfl, fun _ => rfl, fun _ => rfl, fun _ =>
    rfl, fun _ => rfl, fun _ => rfl, fun _ => rfl, fun _ => rfl, fun _ => rfl, fun _ => rfl, fun _ => rfl, fun _ =>
    rfl, fun _ => rfl, fun _ => rfl, fun _ => rfl, fun _ => rfl, fun _ => rfl, fun _ => rfl, fun _ => rfl, fun _ =>
    rfl, fun h => ?_⟩
  rw [stored_iff] at h ⊢
  exact ⟨h.mem, h.hub, h.sec, h.flash, h.jrnl, h.mg, h.elog, h.twin, h.pw, h.facets, h.straps, h.siteStatus, hv0
    h.admitted, h.held, h.cds, h.fds, h.pds, h.oes, h.lsms, h.hosts, h.links, h.dirs, h.ctxs, h.owner, h.ecc, h.sems,
    h.arrs, h.slots, h.streams, h.engines, h.topk, h.ubuf, h.tags, h.outst, h.latches, h.fences, h.striped, h.idle⟩

theorem Same.put_held (s : State) (v0 : Tab Nat)
    (hv0 : Tab.wf 0 s.held = true → Tab.wf 0 v0 = true) :
    Same 262144 s { s with held := v0 } := by
  refine ⟨fun _ => rfl, fun _ => rfl, fun _ => rfl, fun _ => rfl, fun _ => rfl, fun _ => rfl, fun _ => rfl, fun _ =>
    rfl, fun _ => rfl, fun _ => rfl, fun _ => rfl, fun _ => rfl, fun _ => rfl, fun _ => rfl, fun _ => rfl, fun _ =>
    rfl, fun _ => rfl, fun _ => rfl, fun h => absurd h (by decide), fun _ => rfl, fun _ => rfl, fun _ => rfl, fun _ =>
    rfl, fun _ => rfl, fun _ => rfl, fun _ => rfl, fun _ => rfl, fun _ => rfl, fun _ => rfl, fun _ => rfl, fun _ =>
    rfl, fun _ => rfl, fun _ => rfl, fun _ => rfl, fun _ => rfl, fun _ => rfl, fun _ => rfl, fun _ => rfl, fun _ =>
    rfl, fun _ => rfl, fun _ => rfl, fun _ => rfl, fun _ => rfl, fun _ => rfl, fun _ => rfl, fun _ => rfl, fun _ =>
    rfl, fun _ => rfl, fun _ => rfl, fun _ => rfl, fun _ => rfl, fun _ => rfl, fun _ => rfl, fun _ => rfl, fun _ =>
    rfl, fun h => ?_⟩
  rw [stored_iff] at h ⊢
  exact ⟨h.mem, h.hub, h.sec, h.flash, h.jrnl, h.mg, h.elog, h.twin, h.pw, h.facets, h.straps, h.siteStatus, h.admitted,
    hv0 h.held, h.cds, h.fds, h.pds, h.oes, h.lsms, h.hosts, h.links, h.dirs, h.ctxs, h.owner, h.ecc, h.sems, h.arrs,
    h.slots, h.streams, h.engines, h.topk, h.ubuf, h.tags, h.outst, h.latches, h.fences, h.striped, h.idle⟩

theorem Same.put_cds (s : State) (v0 : Tab CdSt)
    (hv0 : Tab.wf {} s.cds = true → Tab.wf {} v0 = true) :
    Same 524288 s { s with cds := v0 } := by
  refine ⟨fun _ => rfl, fun _ => rfl, fun _ => rfl, fun _ => rfl, fun _ => rfl, fun _ => rfl, fun _ => rfl, fun _ =>
    rfl, fun _ => rfl, fun _ => rfl, fun _ => rfl, fun _ => rfl, fun _ => rfl, fun _ => rfl, fun _ => rfl, fun _ =>
    rfl, fun _ => rfl, fun _ => rfl, fun _ => rfl, fun h => absurd h (by decide), fun _ => rfl, fun _ => rfl, fun _ =>
    rfl, fun _ => rfl, fun _ => rfl, fun _ => rfl, fun _ => rfl, fun _ => rfl, fun _ => rfl, fun _ => rfl, fun _ =>
    rfl, fun _ => rfl, fun _ => rfl, fun _ => rfl, fun _ => rfl, fun _ => rfl, fun _ => rfl, fun _ => rfl, fun _ =>
    rfl, fun _ => rfl, fun _ => rfl, fun _ => rfl, fun _ => rfl, fun _ => rfl, fun _ => rfl, fun _ => rfl, fun _ =>
    rfl, fun _ => rfl, fun _ => rfl, fun _ => rfl, fun _ => rfl, fun _ => rfl, fun _ => rfl, fun _ => rfl, fun _ =>
    rfl, fun h => ?_⟩
  rw [stored_iff] at h ⊢
  exact ⟨h.mem, h.hub, h.sec, h.flash, h.jrnl, h.mg, h.elog, h.twin, h.pw, h.facets, h.straps, h.siteStatus, h.admitted,
    h.held, hv0 h.cds, h.fds, h.pds, h.oes, h.lsms, h.hosts, h.links, h.dirs, h.ctxs, h.owner, h.ecc, h.sems, h.arrs,
    h.slots, h.streams, h.engines, h.topk, h.ubuf, h.tags, h.outst, h.latches, h.fences, h.striped, h.idle⟩

theorem Same.put_fds (s : State) (v0 : Tab FdSt)
    (hv0 : Tab.wf {} s.fds = true → Tab.wf {} v0 = true) :
    Same 1048576 s { s with fds := v0 } := by
  refine ⟨fun _ => rfl, fun _ => rfl, fun _ => rfl, fun _ => rfl, fun _ => rfl, fun _ => rfl, fun _ => rfl, fun _ =>
    rfl, fun _ => rfl, fun _ => rfl, fun _ => rfl, fun _ => rfl, fun _ => rfl, fun _ => rfl, fun _ => rfl, fun _ =>
    rfl, fun _ => rfl, fun _ => rfl, fun _ => rfl, fun _ => rfl, fun h => absurd h (by decide), fun _ => rfl, fun _ =>
    rfl, fun _ => rfl, fun _ => rfl, fun _ => rfl, fun _ => rfl, fun _ => rfl, fun _ => rfl, fun _ => rfl, fun _ =>
    rfl, fun _ => rfl, fun _ => rfl, fun _ => rfl, fun _ => rfl, fun _ => rfl, fun _ => rfl, fun _ => rfl, fun _ =>
    rfl, fun _ => rfl, fun _ => rfl, fun _ => rfl, fun _ => rfl, fun _ => rfl, fun _ => rfl, fun _ => rfl, fun _ =>
    rfl, fun _ => rfl, fun _ => rfl, fun _ => rfl, fun _ => rfl, fun _ => rfl, fun _ => rfl, fun _ => rfl, fun _ =>
    rfl, fun h => ?_⟩
  rw [stored_iff] at h ⊢
  exact ⟨h.mem, h.hub, h.sec, h.flash, h.jrnl, h.mg, h.elog, h.twin, h.pw, h.facets, h.straps, h.siteStatus, h.admitted,
    h.held, h.cds, hv0 h.fds, h.pds, h.oes, h.lsms, h.hosts, h.links, h.dirs, h.ctxs, h.owner, h.ecc, h.sems, h.arrs,
    h.slots, h.streams, h.engines, h.topk, h.ubuf, h.tags, h.outst, h.latches, h.fences, h.striped, h.idle⟩

theorem Same.put_pds (s : State) (v0 : Tab PdSt)
    (hv0 : Tab.wf {} s.pds = true → Tab.wf {} v0 = true) :
    Same 2097152 s { s with pds := v0 } := by
  refine ⟨fun _ => rfl, fun _ => rfl, fun _ => rfl, fun _ => rfl, fun _ => rfl, fun _ => rfl, fun _ => rfl, fun _ =>
    rfl, fun _ => rfl, fun _ => rfl, fun _ => rfl, fun _ => rfl, fun _ => rfl, fun _ => rfl, fun _ => rfl, fun _ =>
    rfl, fun _ => rfl, fun _ => rfl, fun _ => rfl, fun _ => rfl, fun _ => rfl, fun h => absurd h (by decide), fun _ =>
    rfl, fun _ => rfl, fun _ => rfl, fun _ => rfl, fun _ => rfl, fun _ => rfl, fun _ => rfl, fun _ => rfl, fun _ =>
    rfl, fun _ => rfl, fun _ => rfl, fun _ => rfl, fun _ => rfl, fun _ => rfl, fun _ => rfl, fun _ => rfl, fun _ =>
    rfl, fun _ => rfl, fun _ => rfl, fun _ => rfl, fun _ => rfl, fun _ => rfl, fun _ => rfl, fun _ => rfl, fun _ =>
    rfl, fun _ => rfl, fun _ => rfl, fun _ => rfl, fun _ => rfl, fun _ => rfl, fun _ => rfl, fun _ => rfl, fun _ =>
    rfl, fun h => ?_⟩
  rw [stored_iff] at h ⊢
  exact ⟨h.mem, h.hub, h.sec, h.flash, h.jrnl, h.mg, h.elog, h.twin, h.pw, h.facets, h.straps, h.siteStatus, h.admitted,
    h.held, h.cds, h.fds, hv0 h.pds, h.oes, h.lsms, h.hosts, h.links, h.dirs, h.ctxs, h.owner, h.ecc, h.sems, h.arrs,
    h.slots, h.streams, h.engines, h.topk, h.ubuf, h.tags, h.outst, h.latches, h.fences, h.striped, h.idle⟩

theorem Same.put_oes (s : State) (v0 : Tab OeSt)
    (hv0 : Tab.wf {} s.oes = true → Tab.wf {} v0 = true) :
    Same 4194304 s { s with oes := v0 } := by
  refine ⟨fun _ => rfl, fun _ => rfl, fun _ => rfl, fun _ => rfl, fun _ => rfl, fun _ => rfl, fun _ => rfl, fun _ =>
    rfl, fun _ => rfl, fun _ => rfl, fun _ => rfl, fun _ => rfl, fun _ => rfl, fun _ => rfl, fun _ => rfl, fun _ =>
    rfl, fun _ => rfl, fun _ => rfl, fun _ => rfl, fun _ => rfl, fun _ => rfl, fun _ => rfl, fun h => absurd h (by
    decide), fun _ => rfl, fun _ => rfl, fun _ => rfl, fun _ => rfl, fun _ => rfl, fun _ => rfl, fun _ => rfl, fun _
    => rfl, fun _ => rfl, fun _ => rfl, fun _ => rfl, fun _ => rfl, fun _ => rfl, fun _ => rfl, fun _ => rfl, fun _ =>
    rfl, fun _ => rfl, fun _ => rfl, fun _ => rfl, fun _ => rfl, fun _ => rfl, fun _ => rfl, fun _ => rfl, fun _ =>
    rfl, fun _ => rfl, fun _ => rfl, fun _ => rfl, fun _ => rfl, fun _ => rfl, fun _ => rfl, fun _ => rfl, fun _ =>
    rfl, fun h => ?_⟩
  rw [stored_iff] at h ⊢
  exact ⟨h.mem, h.hub, h.sec, h.flash, h.jrnl, h.mg, h.elog, h.twin, h.pw, h.facets, h.straps, h.siteStatus, h.admitted,
    h.held, h.cds, h.fds, h.pds, hv0 h.oes, h.lsms, h.hosts, h.links, h.dirs, h.ctxs, h.owner, h.ecc, h.sems, h.arrs,
    h.slots, h.streams, h.engines, h.topk, h.ubuf, h.tags, h.outst, h.latches, h.fences, h.striped, h.idle⟩

theorem Same.put_lsms (s : State) (v0 : Tab LsmSt)
    (hv0 : Tab.wf {} s.lsms = true → Tab.wf {} v0 = true) :
    Same 8388608 s { s with lsms := v0 } := by
  refine ⟨fun _ => rfl, fun _ => rfl, fun _ => rfl, fun _ => rfl, fun _ => rfl, fun _ => rfl, fun _ => rfl, fun _ =>
    rfl, fun _ => rfl, fun _ => rfl, fun _ => rfl, fun _ => rfl, fun _ => rfl, fun _ => rfl, fun _ => rfl, fun _ =>
    rfl, fun _ => rfl, fun _ => rfl, fun _ => rfl, fun _ => rfl, fun _ => rfl, fun _ => rfl, fun _ => rfl, fun h =>
    absurd h (by decide), fun _ => rfl, fun _ => rfl, fun _ => rfl, fun _ => rfl, fun _ => rfl, fun _ => rfl, fun _ =>
    rfl, fun _ => rfl, fun _ => rfl, fun _ => rfl, fun _ => rfl, fun _ => rfl, fun _ => rfl, fun _ => rfl, fun _ =>
    rfl, fun _ => rfl, fun _ => rfl, fun _ => rfl, fun _ => rfl, fun _ => rfl, fun _ => rfl, fun _ => rfl, fun _ =>
    rfl, fun _ => rfl, fun _ => rfl, fun _ => rfl, fun _ => rfl, fun _ => rfl, fun _ => rfl, fun _ => rfl, fun _ =>
    rfl, fun h => ?_⟩
  rw [stored_iff] at h ⊢
  exact ⟨h.mem, h.hub, h.sec, h.flash, h.jrnl, h.mg, h.elog, h.twin, h.pw, h.facets, h.straps, h.siteStatus, h.admitted,
    h.held, h.cds, h.fds, h.pds, h.oes, hv0 h.lsms, h.hosts, h.links, h.dirs, h.ctxs, h.owner, h.ecc, h.sems, h.arrs,
    h.slots, h.streams, h.engines, h.topk, h.ubuf, h.tags, h.outst, h.latches, h.fences, h.striped, h.idle⟩

theorem Same.put_hosts (s : State) (v0 : Tab HostSt)
    (hv0 : Tab.wf {} s.hosts = true → Tab.wf {} v0 = true) :
    Same 16777216 s { s with hosts := v0 } := by
  refine ⟨fun _ => rfl, fun _ => rfl, fun _ => rfl, fun _ => rfl, fun _ => rfl, fun _ => rfl, fun _ => rfl, fun _ =>
    rfl, fun _ => rfl, fun _ => rfl, fun _ => rfl, fun _ => rfl, fun _ => rfl, fun _ => rfl, fun _ => rfl, fun _ =>
    rfl, fun _ => rfl, fun _ => rfl, fun _ => rfl, fun _ => rfl, fun _ => rfl, fun _ => rfl, fun _ => rfl, fun _ =>
    rfl, fun h => absurd h (by decide), fun _ => rfl, fun _ => rfl, fun _ => rfl, fun _ => rfl, fun _ => rfl, fun _ =>
    rfl, fun _ => rfl, fun _ => rfl, fun _ => rfl, fun _ => rfl, fun _ => rfl, fun _ => rfl, fun _ => rfl, fun _ =>
    rfl, fun _ => rfl, fun _ => rfl, fun _ => rfl, fun _ => rfl, fun _ => rfl, fun _ => rfl, fun _ => rfl, fun _ =>
    rfl, fun _ => rfl, fun _ => rfl, fun _ => rfl, fun _ => rfl, fun _ => rfl, fun _ => rfl, fun _ => rfl, fun _ =>
    rfl, fun h => ?_⟩
  rw [stored_iff] at h ⊢
  exact ⟨h.mem, h.hub, h.sec, h.flash, h.jrnl, h.mg, h.elog, h.twin, h.pw, h.facets, h.straps, h.siteStatus, h.admitted,
    h.held, h.cds, h.fds, h.pds, h.oes, h.lsms, hv0 h.hosts, h.links, h.dirs, h.ctxs, h.owner, h.ecc, h.sems, h.arrs,
    h.slots, h.streams, h.engines, h.topk, h.ubuf, h.tags, h.outst, h.latches, h.fences, h.striped, h.idle⟩

theorem Same.put_links (s : State) (v0 : Tab LinkSt)
    (hv0 : Tab.wf {} s.links = true → Tab.wf {} v0 = true) :
    Same 33554432 s { s with links := v0 } := by
  refine ⟨fun _ => rfl, fun _ => rfl, fun _ => rfl, fun _ => rfl, fun _ => rfl, fun _ => rfl, fun _ => rfl, fun _ =>
    rfl, fun _ => rfl, fun _ => rfl, fun _ => rfl, fun _ => rfl, fun _ => rfl, fun _ => rfl, fun _ => rfl, fun _ =>
    rfl, fun _ => rfl, fun _ => rfl, fun _ => rfl, fun _ => rfl, fun _ => rfl, fun _ => rfl, fun _ => rfl, fun _ =>
    rfl, fun _ => rfl, fun h => absurd h (by decide), fun _ => rfl, fun _ => rfl, fun _ => rfl, fun _ => rfl, fun _ =>
    rfl, fun _ => rfl, fun _ => rfl, fun _ => rfl, fun _ => rfl, fun _ => rfl, fun _ => rfl, fun _ => rfl, fun _ =>
    rfl, fun _ => rfl, fun _ => rfl, fun _ => rfl, fun _ => rfl, fun _ => rfl, fun _ => rfl, fun _ => rfl, fun _ =>
    rfl, fun _ => rfl, fun _ => rfl, fun _ => rfl, fun _ => rfl, fun _ => rfl, fun _ => rfl, fun _ => rfl, fun _ =>
    rfl, fun h => ?_⟩
  rw [stored_iff] at h ⊢
  exact ⟨h.mem, h.hub, h.sec, h.flash, h.jrnl, h.mg, h.elog, h.twin, h.pw, h.facets, h.straps, h.siteStatus, h.admitted,
    h.held, h.cds, h.fds, h.pds, h.oes, h.lsms, h.hosts, hv0 h.links, h.dirs, h.ctxs, h.owner, h.ecc, h.sems, h.arrs,
    h.slots, h.streams, h.engines, h.topk, h.ubuf, h.tags, h.outst, h.latches, h.fences, h.striped, h.idle⟩

theorem Same.put_dirs (s : State) (v0 : Tab LinkDir)
    (hv0 : Tab.wf {} s.dirs = true → Tab.wf {} v0 = true) :
    Same 67108864 s { s with dirs := v0 } := by
  refine ⟨fun _ => rfl, fun _ => rfl, fun _ => rfl, fun _ => rfl, fun _ => rfl, fun _ => rfl, fun _ => rfl, fun _ =>
    rfl, fun _ => rfl, fun _ => rfl, fun _ => rfl, fun _ => rfl, fun _ => rfl, fun _ => rfl, fun _ => rfl, fun _ =>
    rfl, fun _ => rfl, fun _ => rfl, fun _ => rfl, fun _ => rfl, fun _ => rfl, fun _ => rfl, fun _ => rfl, fun _ =>
    rfl, fun _ => rfl, fun _ => rfl, fun h => absurd h (by decide), fun _ => rfl, fun _ => rfl, fun _ => rfl, fun _ =>
    rfl, fun _ => rfl, fun _ => rfl, fun _ => rfl, fun _ => rfl, fun _ => rfl, fun _ => rfl, fun _ => rfl, fun _ =>
    rfl, fun _ => rfl, fun _ => rfl, fun _ => rfl, fun _ => rfl, fun _ => rfl, fun _ => rfl, fun _ => rfl, fun _ =>
    rfl, fun _ => rfl, fun _ => rfl, fun _ => rfl, fun _ => rfl, fun _ => rfl, fun _ => rfl, fun _ => rfl, fun _ =>
    rfl, fun h => ?_⟩
  rw [stored_iff] at h ⊢
  exact ⟨h.mem, h.hub, h.sec, h.flash, h.jrnl, h.mg, h.elog, h.twin, h.pw, h.facets, h.straps, h.siteStatus, h.admitted,
    h.held, h.cds, h.fds, h.pds, h.oes, h.lsms, h.hosts, h.links, hv0 h.dirs, h.ctxs, h.owner, h.ecc, h.sems, h.arrs,
    h.slots, h.streams, h.engines, h.topk, h.ubuf, h.tags, h.outst, h.latches, h.fences, h.striped, h.idle⟩

theorem Same.put_ctxs (s : State) (v0 : Tab Ctx)
    (hv0 : Tab.wf {} s.ctxs = true → Tab.wf {} v0 = true) :
    Same 134217728 s { s with ctxs := v0 } := by
  refine ⟨fun _ => rfl, fun _ => rfl, fun _ => rfl, fun _ => rfl, fun _ => rfl, fun _ => rfl, fun _ => rfl, fun _ =>
    rfl, fun _ => rfl, fun _ => rfl, fun _ => rfl, fun _ => rfl, fun _ => rfl, fun _ => rfl, fun _ => rfl, fun _ =>
    rfl, fun _ => rfl, fun _ => rfl, fun _ => rfl, fun _ => rfl, fun _ => rfl, fun _ => rfl, fun _ => rfl, fun _ =>
    rfl, fun _ => rfl, fun _ => rfl, fun _ => rfl, fun h => absurd h (by decide), fun _ => rfl, fun _ => rfl, fun _ =>
    rfl, fun _ => rfl, fun _ => rfl, fun _ => rfl, fun _ => rfl, fun _ => rfl, fun _ => rfl, fun _ => rfl, fun _ =>
    rfl, fun _ => rfl, fun _ => rfl, fun _ => rfl, fun _ => rfl, fun _ => rfl, fun _ => rfl, fun _ => rfl, fun _ =>
    rfl, fun _ => rfl, fun _ => rfl, fun _ => rfl, fun _ => rfl, fun _ => rfl, fun _ => rfl, fun _ => rfl, fun _ =>
    rfl, fun h => ?_⟩
  rw [stored_iff] at h ⊢
  exact ⟨h.mem, h.hub, h.sec, h.flash, h.jrnl, h.mg, h.elog, h.twin, h.pw, h.facets, h.straps, h.siteStatus, h.admitted,
    h.held, h.cds, h.fds, h.pds, h.oes, h.lsms, h.hosts, h.links, h.dirs, hv0 h.ctxs, h.owner, h.ecc, h.sems, h.arrs,
    h.slots, h.streams, h.engines, h.topk, h.ubuf, h.tags, h.outst, h.latches, h.fences, h.striped, h.idle⟩

theorem Same.put_owner (s : State) (v0 : Tab Nat)
    (hv0 : Tab.wf 0 s.owner = true → Tab.wf 0 v0 = true) :
    Same 268435456 s { s with owner := v0 } := by
  refine ⟨fun _ => rfl, fun _ => rfl, fun _ => rfl, fun _ => rfl, fun _ => rfl, fun _ => rfl, fun _ => rfl, fun _ =>
    rfl, fun _ => rfl, fun _ => rfl, fun _ => rfl, fun _ => rfl, fun _ => rfl, fun _ => rfl, fun _ => rfl, fun _ =>
    rfl, fun _ => rfl, fun _ => rfl, fun _ => rfl, fun _ => rfl, fun _ => rfl, fun _ => rfl, fun _ => rfl, fun _ =>
    rfl, fun _ => rfl, fun _ => rfl, fun _ => rfl, fun _ => rfl, fun h => absurd h (by decide), fun _ => rfl, fun _ =>
    rfl, fun _ => rfl, fun _ => rfl, fun _ => rfl, fun _ => rfl, fun _ => rfl, fun _ => rfl, fun _ => rfl, fun _ =>
    rfl, fun _ => rfl, fun _ => rfl, fun _ => rfl, fun _ => rfl, fun _ => rfl, fun _ => rfl, fun _ => rfl, fun _ =>
    rfl, fun _ => rfl, fun _ => rfl, fun _ => rfl, fun _ => rfl, fun _ => rfl, fun _ => rfl, fun _ => rfl, fun _ =>
    rfl, fun h => ?_⟩
  rw [stored_iff] at h ⊢
  exact ⟨h.mem, h.hub, h.sec, h.flash, h.jrnl, h.mg, h.elog, h.twin, h.pw, h.facets, h.straps, h.siteStatus, h.admitted,
    h.held, h.cds, h.fds, h.pds, h.oes, h.lsms, h.hosts, h.links, h.dirs, h.ctxs, hv0 h.owner, h.ecc, h.sems, h.arrs,
    h.slots, h.streams, h.engines, h.topk, h.ubuf, h.tags, h.outst, h.latches, h.fences, h.striped, h.idle⟩

theorem Same.put_mem (s : State) (v0 : List Host.Cell)
    (hv0 : Memory.wf s.mem = true → Memory.wf v0 = true) :
    Same 536870912 s { s with mem := v0 } := by
  refine ⟨fun _ => rfl, fun _ => rfl, fun _ => rfl, fun _ => rfl, fun _ => rfl, fun _ => rfl, fun _ => rfl, fun _ =>
    rfl, fun _ => rfl, fun _ => rfl, fun _ => rfl, fun _ => rfl, fun _ => rfl, fun _ => rfl, fun _ => rfl, fun _ =>
    rfl, fun _ => rfl, fun _ => rfl, fun _ => rfl, fun _ => rfl, fun _ => rfl, fun _ => rfl, fun _ => rfl, fun _ =>
    rfl, fun _ => rfl, fun _ => rfl, fun _ => rfl, fun _ => rfl, fun _ => rfl, fun h => absurd h (by decide), fun _ =>
    rfl, fun _ => rfl, fun _ => rfl, fun _ => rfl, fun _ => rfl, fun _ => rfl, fun _ => rfl, fun _ => rfl, fun _ =>
    rfl, fun _ => rfl, fun _ => rfl, fun _ => rfl, fun _ => rfl, fun _ => rfl, fun _ => rfl, fun _ => rfl, fun _ =>
    rfl, fun _ => rfl, fun _ => rfl, fun _ => rfl, fun _ => rfl, fun _ => rfl, fun _ => rfl, fun _ => rfl, fun _ =>
    rfl, fun h => ?_⟩
  rw [stored_iff] at h ⊢
  exact ⟨hv0 h.mem, h.hub, h.sec, h.flash, h.jrnl, h.mg, h.elog, h.twin, h.pw, h.facets, h.straps, h.siteStatus,
    h.admitted, h.held, h.cds, h.fds, h.pds, h.oes, h.lsms, h.hosts, h.links, h.dirs, h.ctxs, h.owner, h.ecc, h.sems,
    h.arrs, h.slots, h.streams, h.engines, h.topk, h.ubuf, h.tags, h.outst, h.latches, h.fences, h.striped, h.idle⟩

theorem Same.put_ecc (s : State) (v0 : Tab Nat)
    (hv0 : Tab.wf 0 s.ecc = true → Tab.wf 0 v0 = true) :
    Same 1073741824 s { s with ecc := v0 } := by
  refine ⟨fun _ => rfl, fun _ => rfl, fun _ => rfl, fun _ => rfl, fun _ => rfl, fun _ => rfl, fun _ => rfl, fun _ =>
    rfl, fun _ => rfl, fun _ => rfl, fun _ => rfl, fun _ => rfl, fun _ => rfl, fun _ => rfl, fun _ => rfl, fun _ =>
    rfl, fun _ => rfl, fun _ => rfl, fun _ => rfl, fun _ => rfl, fun _ => rfl, fun _ => rfl, fun _ => rfl, fun _ =>
    rfl, fun _ => rfl, fun _ => rfl, fun _ => rfl, fun _ => rfl, fun _ => rfl, fun _ => rfl, fun h => absurd h (by
    decide), fun _ => rfl, fun _ => rfl, fun _ => rfl, fun _ => rfl, fun _ => rfl, fun _ => rfl, fun _ => rfl, fun _
    => rfl, fun _ => rfl, fun _ => rfl, fun _ => rfl, fun _ => rfl, fun _ => rfl, fun _ => rfl, fun _ => rfl, fun _ =>
    rfl, fun _ => rfl, fun _ => rfl, fun _ => rfl, fun _ => rfl, fun _ => rfl, fun _ => rfl, fun _ => rfl, fun _ =>
    rfl, fun h => ?_⟩
  rw [stored_iff] at h ⊢
  exact ⟨h.mem, h.hub, h.sec, h.flash, h.jrnl, h.mg, h.elog, h.twin, h.pw, h.facets, h.straps, h.siteStatus, h.admitted,
    h.held, h.cds, h.fds, h.pds, h.oes, h.lsms, h.hosts, h.links, h.dirs, h.ctxs, h.owner, hv0 h.ecc, h.sems, h.arrs,
    h.slots, h.streams, h.engines, h.topk, h.ubuf, h.tags, h.outst, h.latches, h.fences, h.striped, h.idle⟩

theorem Same.put_sems (s : State) (v0 : Tab Nat)
    (hv0 : Tab.wf 0 s.sems = true → Tab.wf 0 v0 = true) :
    Same 2147483648 s { s with sems := v0 } := by
  refine ⟨fun _ => rfl, fun _ => rfl, fun _ => rfl, fun _ => rfl, fun _ => rfl, fun _ => rfl, fun _ => rfl, fun _ =>
    rfl, fun _ => rfl, fun _ => rfl, fun _ => rfl, fun _ => rfl, fun _ => rfl, fun _ => rfl, fun _ => rfl, fun _ =>
    rfl, fun _ => rfl, fun _ => rfl, fun _ => rfl, fun _ => rfl, fun _ => rfl, fun _ => rfl, fun _ => rfl, fun _ =>
    rfl, fun _ => rfl, fun _ => rfl, fun _ => rfl, fun _ => rfl, fun _ => rfl, fun _ => rfl, fun _ => rfl, fun h =>
    absurd h (by decide), fun _ => rfl, fun _ => rfl, fun _ => rfl, fun _ => rfl, fun _ => rfl, fun _ => rfl, fun _ =>
    rfl, fun _ => rfl, fun _ => rfl, fun _ => rfl, fun _ => rfl, fun _ => rfl, fun _ => rfl, fun _ => rfl, fun _ =>
    rfl, fun _ => rfl, fun _ => rfl, fun _ => rfl, fun _ => rfl, fun _ => rfl, fun _ => rfl, fun _ => rfl, fun _ =>
    rfl, fun h => ?_⟩
  rw [stored_iff] at h ⊢
  exact ⟨h.mem, h.hub, h.sec, h.flash, h.jrnl, h.mg, h.elog, h.twin, h.pw, h.facets, h.straps, h.siteStatus, h.admitted,
    h.held, h.cds, h.fds, h.pds, h.oes, h.lsms, h.hosts, h.links, h.dirs, h.ctxs, h.owner, h.ecc, hv0 h.sems, h.arrs,
    h.slots, h.streams, h.engines, h.topk, h.ubuf, h.tags, h.outst, h.latches, h.fences, h.striped, h.idle⟩

theorem Same.put_arrs (s : State) (v0 : Tab Nat)
    (hv0 : Tab.wf 0 s.arrs = true → Tab.wf 0 v0 = true) :
    Same 4294967296 s { s with arrs := v0 } := by
  refine ⟨fun _ => rfl, fun _ => rfl, fun _ => rfl, fun _ => rfl, fun _ => rfl, fun _ => rfl, fun _ => rfl, fun _ =>
    rfl, fun _ => rfl, fun _ => rfl, fun _ => rfl, fun _ => rfl, fun _ => rfl, fun _ => rfl, fun _ => rfl, fun _ =>
    rfl, fun _ => rfl, fun _ => rfl, fun _ => rfl, fun _ => rfl, fun _ => rfl, fun _ => rfl, fun _ => rfl, fun _ =>
    rfl, fun _ => rfl, fun _ => rfl, fun _ => rfl, fun _ => rfl, fun _ => rfl, fun _ => rfl, fun _ => rfl, fun _ =>
    rfl, fun h => absurd h (by decide), fun _ => rfl, fun _ => rfl, fun _ => rfl, fun _ => rfl, fun _ => rfl, fun _ =>
    rfl, fun _ => rfl, fun _ => rfl, fun _ => rfl, fun _ => rfl, fun _ => rfl, fun _ => rfl, fun _ => rfl, fun _ =>
    rfl, fun _ => rfl, fun _ => rfl, fun _ => rfl, fun _ => rfl, fun _ => rfl, fun _ => rfl, fun _ => rfl, fun _ =>
    rfl, fun h => ?_⟩
  rw [stored_iff] at h ⊢
  exact ⟨h.mem, h.hub, h.sec, h.flash, h.jrnl, h.mg, h.elog, h.twin, h.pw, h.facets, h.straps, h.siteStatus, h.admitted,
    h.held, h.cds, h.fds, h.pds, h.oes, h.lsms, h.hosts, h.links, h.dirs, h.ctxs, h.owner, h.ecc, h.sems, hv0 h.arrs,
    h.slots, h.streams, h.engines, h.topk, h.ubuf, h.tags, h.outst, h.latches, h.fences, h.striped, h.idle⟩

theorem Same.put_slots (s : State) (v0 : Tab SlotFlag)
    (hv0 : Tab.wf {} s.slots = true → Tab.wf {} v0 = true) :
    Same 8589934592 s { s with slots := v0 } := by
  refine ⟨fun _ => rfl, fun _ => rfl, fun _ => rfl, fun _ => rfl, fun _ => rfl, fun _ => rfl, fun _ => rfl, fun _ =>
    rfl, fun _ => rfl, fun _ => rfl, fun _ => rfl, fun _ => rfl, fun _ => rfl, fun _ => rfl, fun _ => rfl, fun _ =>
    rfl, fun _ => rfl, fun _ => rfl, fun _ => rfl, fun _ => rfl, fun _ => rfl, fun _ => rfl, fun _ => rfl, fun _ =>
    rfl, fun _ => rfl, fun _ => rfl, fun _ => rfl, fun _ => rfl, fun _ => rfl, fun _ => rfl, fun _ => rfl, fun _ =>
    rfl, fun _ => rfl, fun h => absurd h (by decide), fun _ => rfl, fun _ => rfl, fun _ => rfl, fun _ => rfl, fun _ =>
    rfl, fun _ => rfl, fun _ => rfl, fun _ => rfl, fun _ => rfl, fun _ => rfl, fun _ => rfl, fun _ => rfl, fun _ =>
    rfl, fun _ => rfl, fun _ => rfl, fun _ => rfl, fun _ => rfl, fun _ => rfl, fun _ => rfl, fun _ => rfl, fun _ =>
    rfl, fun h => ?_⟩
  rw [stored_iff] at h ⊢
  exact ⟨h.mem, h.hub, h.sec, h.flash, h.jrnl, h.mg, h.elog, h.twin, h.pw, h.facets, h.straps, h.siteStatus, h.admitted,
    h.held, h.cds, h.fds, h.pds, h.oes, h.lsms, h.hosts, h.links, h.dirs, h.ctxs, h.owner, h.ecc, h.sems, h.arrs, hv0
    h.slots, h.streams, h.engines, h.topk, h.ubuf, h.tags, h.outst, h.latches, h.fences, h.striped, h.idle⟩

theorem Same.put_streams (s : State) (v0 : Tab StreamSt)
    (hv0 : Tab.wf {} s.streams = true → Tab.wf {} v0 = true) :
    Same 17179869184 s { s with streams := v0 } := by
  refine ⟨fun _ => rfl, fun _ => rfl, fun _ => rfl, fun _ => rfl, fun _ => rfl, fun _ => rfl, fun _ => rfl, fun _ =>
    rfl, fun _ => rfl, fun _ => rfl, fun _ => rfl, fun _ => rfl, fun _ => rfl, fun _ => rfl, fun _ => rfl, fun _ =>
    rfl, fun _ => rfl, fun _ => rfl, fun _ => rfl, fun _ => rfl, fun _ => rfl, fun _ => rfl, fun _ => rfl, fun _ =>
    rfl, fun _ => rfl, fun _ => rfl, fun _ => rfl, fun _ => rfl, fun _ => rfl, fun _ => rfl, fun _ => rfl, fun _ =>
    rfl, fun _ => rfl, fun _ => rfl, fun h => absurd h (by decide), fun _ => rfl, fun _ => rfl, fun _ => rfl, fun _ =>
    rfl, fun _ => rfl, fun _ => rfl, fun _ => rfl, fun _ => rfl, fun _ => rfl, fun _ => rfl, fun _ => rfl, fun _ =>
    rfl, fun _ => rfl, fun _ => rfl, fun _ => rfl, fun _ => rfl, fun _ => rfl, fun _ => rfl, fun _ => rfl, fun _ =>
    rfl, fun h => ?_⟩
  rw [stored_iff] at h ⊢
  exact ⟨h.mem, h.hub, h.sec, h.flash, h.jrnl, h.mg, h.elog, h.twin, h.pw, h.facets, h.straps, h.siteStatus, h.admitted,
    h.held, h.cds, h.fds, h.pds, h.oes, h.lsms, h.hosts, h.links, h.dirs, h.ctxs, h.owner, h.ecc, h.sems, h.arrs,
    h.slots, hv0 h.streams, h.engines, h.topk, h.ubuf, h.tags, h.outst, h.latches, h.fences, h.striped, h.idle⟩

theorem Same.put_engines (s : State) (v0 : Tab EngineSt)
    (hv0 : Tab.wf {} s.engines = true → Tab.wf {} v0 = true) :
    Same 34359738368 s { s with engines := v0 } := by
  refine ⟨fun _ => rfl, fun _ => rfl, fun _ => rfl, fun _ => rfl, fun _ => rfl, fun _ => rfl, fun _ => rfl, fun _ =>
    rfl, fun _ => rfl, fun _ => rfl, fun _ => rfl, fun _ => rfl, fun _ => rfl, fun _ => rfl, fun _ => rfl, fun _ =>
    rfl, fun _ => rfl, fun _ => rfl, fun _ => rfl, fun _ => rfl, fun _ => rfl, fun _ => rfl, fun _ => rfl, fun _ =>
    rfl, fun _ => rfl, fun _ => rfl, fun _ => rfl, fun _ => rfl, fun _ => rfl, fun _ => rfl, fun _ => rfl, fun _ =>
    rfl, fun _ => rfl, fun _ => rfl, fun _ => rfl, fun h => absurd h (by decide), fun _ => rfl, fun _ => rfl, fun _ =>
    rfl, fun _ => rfl, fun _ => rfl, fun _ => rfl, fun _ => rfl, fun _ => rfl, fun _ => rfl, fun _ => rfl, fun _ =>
    rfl, fun _ => rfl, fun _ => rfl, fun _ => rfl, fun _ => rfl, fun _ => rfl, fun _ => rfl, fun _ => rfl, fun _ =>
    rfl, fun h => ?_⟩
  rw [stored_iff] at h ⊢
  exact ⟨h.mem, h.hub, h.sec, h.flash, h.jrnl, h.mg, h.elog, h.twin, h.pw, h.facets, h.straps, h.siteStatus, h.admitted,
    h.held, h.cds, h.fds, h.pds, h.oes, h.lsms, h.hosts, h.links, h.dirs, h.ctxs, h.owner, h.ecc, h.sems, h.arrs,
    h.slots, h.streams, hv0 h.engines, h.topk, h.ubuf, h.tags, h.outst, h.latches, h.fences, h.striped, h.idle⟩

theorem Same.put_topk (s : State) (v0 : Tab TopK)
    (hv0 : Tab.wf {} s.topk = true → Tab.wf {} v0 = true) :
    Same 68719476736 s { s with topk := v0 } := by
  refine ⟨fun _ => rfl, fun _ => rfl, fun _ => rfl, fun _ => rfl, fun _ => rfl, fun _ => rfl, fun _ => rfl, fun _ =>
    rfl, fun _ => rfl, fun _ => rfl, fun _ => rfl, fun _ => rfl, fun _ => rfl, fun _ => rfl, fun _ => rfl, fun _ =>
    rfl, fun _ => rfl, fun _ => rfl, fun _ => rfl, fun _ => rfl, fun _ => rfl, fun _ => rfl, fun _ => rfl, fun _ =>
    rfl, fun _ => rfl, fun _ => rfl, fun _ => rfl, fun _ => rfl, fun _ => rfl, fun _ => rfl, fun _ => rfl, fun _ =>
    rfl, fun _ => rfl, fun _ => rfl, fun _ => rfl, fun _ => rfl, fun h => absurd h (by decide), fun _ => rfl, fun _ =>
    rfl, fun _ => rfl, fun _ => rfl, fun _ => rfl, fun _ => rfl, fun _ => rfl, fun _ => rfl, fun _ => rfl, fun _ =>
    rfl, fun _ => rfl, fun _ => rfl, fun _ => rfl, fun _ => rfl, fun _ => rfl, fun _ => rfl, fun _ => rfl, fun _ =>
    rfl, fun h => ?_⟩
  rw [stored_iff] at h ⊢
  exact ⟨h.mem, h.hub, h.sec, h.flash, h.jrnl, h.mg, h.elog, h.twin, h.pw, h.facets, h.straps, h.siteStatus, h.admitted,
    h.held, h.cds, h.fds, h.pds, h.oes, h.lsms, h.hosts, h.links, h.dirs, h.ctxs, h.owner, h.ecc, h.sems, h.arrs,
    h.slots, h.streams, h.engines, hv0 h.topk, h.ubuf, h.tags, h.outst, h.latches, h.fences, h.striped, h.idle⟩

theorem Same.put_ubuf (s : State) (v0 : Tab Nat)
    (hv0 : Tab.wf 0 s.ubuf = true → Tab.wf 0 v0 = true) :
    Same 137438953472 s { s with ubuf := v0 } := by
  refine ⟨fun _ => rfl, fun _ => rfl, fun _ => rfl, fun _ => rfl, fun _ => rfl, fun _ => rfl, fun _ => rfl, fun _ =>
    rfl, fun _ => rfl, fun _ => rfl, fun _ => rfl, fun _ => rfl, fun _ => rfl, fun _ => rfl, fun _ => rfl, fun _ =>
    rfl, fun _ => rfl, fun _ => rfl, fun _ => rfl, fun _ => rfl, fun _ => rfl, fun _ => rfl, fun _ => rfl, fun _ =>
    rfl, fun _ => rfl, fun _ => rfl, fun _ => rfl, fun _ => rfl, fun _ => rfl, fun _ => rfl, fun _ => rfl, fun _ =>
    rfl, fun _ => rfl, fun _ => rfl, fun _ => rfl, fun _ => rfl, fun _ => rfl, fun h => absurd h (by decide), fun _ =>
    rfl, fun _ => rfl, fun _ => rfl, fun _ => rfl, fun _ => rfl, fun _ => rfl, fun _ => rfl, fun _ => rfl, fun _ =>
    rfl, fun _ => rfl, fun _ => rfl, fun _ => rfl, fun _ => rfl, fun _ => rfl, fun _ => rfl, fun _ => rfl, fun _ =>
    rfl, fun h => ?_⟩
  rw [stored_iff] at h ⊢
  exact ⟨h.mem, h.hub, h.sec, h.flash, h.jrnl, h.mg, h.elog, h.twin, h.pw, h.facets, h.straps, h.siteStatus, h.admitted,
    h.held, h.cds, h.fds, h.pds, h.oes, h.lsms, h.hosts, h.links, h.dirs, h.ctxs, h.owner, h.ecc, h.sems, h.arrs,
    h.slots, h.streams, h.engines, h.topk, hv0 h.ubuf, h.tags, h.outst, h.latches, h.fences, h.striped, h.idle⟩

theorem Same.put_net (s : State) (v0 : List Pkg) :
    Same 274877906944 s { s with net := v0 } := by
  refine ⟨fun _ => rfl, fun _ => rfl, fun _ => rfl, fun _ => rfl, fun _ => rfl, fun _ => rfl, fun _ => rfl, fun _ =>
    rfl, fun _ => rfl, fun _ => rfl, fun _ => rfl, fun _ => rfl, fun _ => rfl, fun _ => rfl, fun _ => rfl, fun _ =>
    rfl, fun _ => rfl, fun _ => rfl, fun _ => rfl, fun _ => rfl, fun _ => rfl, fun _ => rfl, fun _ => rfl, fun _ =>
    rfl, fun _ => rfl, fun _ => rfl, fun _ => rfl, fun _ => rfl, fun _ => rfl, fun _ => rfl, fun _ => rfl, fun _ =>
    rfl, fun _ => rfl, fun _ => rfl, fun _ => rfl, fun _ => rfl, fun _ => rfl, fun _ => rfl, fun h => absurd h (by
    decide), fun _ => rfl, fun _ => rfl, fun _ => rfl, fun _ => rfl, fun _ => rfl, fun _ => rfl, fun _ => rfl, fun _
    => rfl, fun _ => rfl, fun _ => rfl, fun _ => rfl, fun _ => rfl, fun _ => rfl, fun _ => rfl, fun _ => rfl, fun _ =>
    rfl, fun h => ?_⟩
  exact h

theorem Same.put_txns (s : State) (v0 : List Txn) :
    Same 549755813888 s { s with txns := v0 } := by
  refine ⟨fun _ => rfl, fun _ => rfl, fun _ => rfl, fun _ => rfl, fun _ => rfl, fun _ => rfl, fun _ => rfl, fun _ =>
    rfl, fun _ => rfl, fun _ => rfl, fun _ => rfl, fun _ => rfl, fun _ => rfl, fun _ => rfl, fun _ => rfl, fun _ =>
    rfl, fun _ => rfl, fun _ => rfl, fun _ => rfl, fun _ => rfl, fun _ => rfl, fun _ => rfl, fun _ => rfl, fun _ =>
    rfl, fun _ => rfl, fun _ => rfl, fun _ => rfl, fun _ => rfl, fun _ => rfl, fun _ => rfl, fun _ => rfl, fun _ =>
    rfl, fun _ => rfl, fun _ => rfl, fun _ => rfl, fun _ => rfl, fun _ => rfl, fun _ => rfl, fun _ => rfl, fun h =>
    absurd h (by decide), fun _ => rfl, fun _ => rfl, fun _ => rfl, fun _ => rfl, fun _ => rfl, fun _ => rfl, fun _ =>
    rfl, fun _ => rfl, fun _ => rfl, fun _ => rfl, fun _ => rfl, fun _ => rfl, fun _ => rfl, fun _ => rfl, fun _ =>
    rfl, fun h => ?_⟩
  exact h

theorem Same.put_tags (s : State) (v0 : Tab Nat)
    (hv0 : Tab.wf 0 s.tags = true → Tab.wf 0 v0 = true) :
    Same 1099511627776 s { s with tags := v0 } := by
  refine ⟨fun _ => rfl, fun _ => rfl, fun _ => rfl, fun _ => rfl, fun _ => rfl, fun _ => rfl, fun _ => rfl, fun _ =>
    rfl, fun _ => rfl, fun _ => rfl, fun _ => rfl, fun _ => rfl, fun _ => rfl, fun _ => rfl, fun _ => rfl, fun _ =>
    rfl, fun _ => rfl, fun _ => rfl, fun _ => rfl, fun _ => rfl, fun _ => rfl, fun _ => rfl, fun _ => rfl, fun _ =>
    rfl, fun _ => rfl, fun _ => rfl, fun _ => rfl, fun _ => rfl, fun _ => rfl, fun _ => rfl, fun _ => rfl, fun _ =>
    rfl, fun _ => rfl, fun _ => rfl, fun _ => rfl, fun _ => rfl, fun _ => rfl, fun _ => rfl, fun _ => rfl, fun _ =>
    rfl, fun h => absurd h (by decide), fun _ => rfl, fun _ => rfl, fun _ => rfl, fun _ => rfl, fun _ => rfl, fun _ =>
    rfl, fun _ => rfl, fun _ => rfl, fun _ => rfl, fun _ => rfl, fun _ => rfl, fun _ => rfl, fun _ => rfl, fun _ =>
    rfl, fun h => ?_⟩
  rw [stored_iff] at h ⊢
  exact ⟨h.mem, h.hub, h.sec, h.flash, h.jrnl, h.mg, h.elog, h.twin, h.pw, h.facets, h.straps, h.siteStatus, h.admitted,
    h.held, h.cds, h.fds, h.pds, h.oes, h.lsms, h.hosts, h.links, h.dirs, h.ctxs, h.owner, h.ecc, h.sems, h.arrs,
    h.slots, h.streams, h.engines, h.topk, h.ubuf, hv0 h.tags, h.outst, h.latches, h.fences, h.striped, h.idle⟩

theorem Same.put_outst (s : State) (v0 : Tab Nat)
    (hv0 : Tab.wf 0 s.outst = true → Tab.wf 0 v0 = true) :
    Same 2199023255552 s { s with outst := v0 } := by
  refine ⟨fun _ => rfl, fun _ => rfl, fun _ => rfl, fun _ => rfl, fun _ => rfl, fun _ => rfl, fun _ => rfl, fun _ =>
    rfl, fun _ => rfl, fun _ => rfl, fun _ => rfl, fun _ => rfl, fun _ => rfl, fun _ => rfl, fun _ => rfl, fun _ =>
    rfl, fun _ => rfl, fun _ => rfl, fun _ => rfl, fun _ => rfl, fun _ => rfl, fun _ => rfl, fun _ => rfl, fun _ =>
    rfl, fun _ => rfl, fun _ => rfl, fun _ => rfl, fun _ => rfl, fun _ => rfl, fun _ => rfl, fun _ => rfl, fun _ =>
    rfl, fun _ => rfl, fun _ => rfl, fun _ => rfl, fun _ => rfl, fun _ => rfl, fun _ => rfl, fun _ => rfl, fun _ =>
    rfl, fun _ => rfl, fun h => absurd h (by decide), fun _ => rfl, fun _ => rfl, fun _ => rfl, fun _ => rfl, fun _ =>
    rfl, fun _ => rfl, fun _ => rfl, fun _ => rfl, fun _ => rfl, fun _ => rfl, fun _ => rfl, fun _ => rfl, fun _ =>
    rfl, fun h => ?_⟩
  rw [stored_iff] at h ⊢
  exact ⟨h.mem, h.hub, h.sec, h.flash, h.jrnl, h.mg, h.elog, h.twin, h.pw, h.facets, h.straps, h.siteStatus, h.admitted,
    h.held, h.cds, h.fds, h.pds, h.oes, h.lsms, h.hosts, h.links, h.dirs, h.ctxs, h.owner, h.ecc, h.sems, h.arrs,
    h.slots, h.streams, h.engines, h.topk, h.ubuf, h.tags, hv0 h.outst, h.latches, h.fences, h.striped, h.idle⟩

theorem Same.put_latches (s : State) (v0 : Tab Latch)
    (hv0 : Tab.wf {} s.latches = true → Tab.wf {} v0 = true) :
    Same 4398046511104 s { s with latches := v0 } := by
  refine ⟨fun _ => rfl, fun _ => rfl, fun _ => rfl, fun _ => rfl, fun _ => rfl, fun _ => rfl, fun _ => rfl, fun _ =>
    rfl, fun _ => rfl, fun _ => rfl, fun _ => rfl, fun _ => rfl, fun _ => rfl, fun _ => rfl, fun _ => rfl, fun _ =>
    rfl, fun _ => rfl, fun _ => rfl, fun _ => rfl, fun _ => rfl, fun _ => rfl, fun _ => rfl, fun _ => rfl, fun _ =>
    rfl, fun _ => rfl, fun _ => rfl, fun _ => rfl, fun _ => rfl, fun _ => rfl, fun _ => rfl, fun _ => rfl, fun _ =>
    rfl, fun _ => rfl, fun _ => rfl, fun _ => rfl, fun _ => rfl, fun _ => rfl, fun _ => rfl, fun _ => rfl, fun _ =>
    rfl, fun _ => rfl, fun _ => rfl, fun h => absurd h (by decide), fun _ => rfl, fun _ => rfl, fun _ => rfl, fun _ =>
    rfl, fun _ => rfl, fun _ => rfl, fun _ => rfl, fun _ => rfl, fun _ => rfl, fun _ => rfl, fun _ => rfl, fun _ =>
    rfl, fun h => ?_⟩
  rw [stored_iff] at h ⊢
  exact ⟨h.mem, h.hub, h.sec, h.flash, h.jrnl, h.mg, h.elog, h.twin, h.pw, h.facets, h.straps, h.siteStatus, h.admitted,
    h.held, h.cds, h.fds, h.pds, h.oes, h.lsms, h.hosts, h.links, h.dirs, h.ctxs, h.owner, h.ecc, h.sems, h.arrs,
    h.slots, h.streams, h.engines, h.topk, h.ubuf, h.tags, h.outst, hv0 h.latches, h.fences, h.striped, h.idle⟩

theorem Same.put_fences (s : State) (v0 : Tab (List Fence))
    (hv0 : Tab.wf [] s.fences = true → Tab.wf [] v0 = true) :
    Same 8796093022208 s { s with fences := v0 } := by
  refine ⟨fun _ => rfl, fun _ => rfl, fun _ => rfl, fun _ => rfl, fun _ => rfl, fun _ => rfl, fun _ => rfl, fun _ =>
    rfl, fun _ => rfl, fun _ => rfl, fun _ => rfl, fun _ => rfl, fun _ => rfl, fun _ => rfl, fun _ => rfl, fun _ =>
    rfl, fun _ => rfl, fun _ => rfl, fun _ => rfl, fun _ => rfl, fun _ => rfl, fun _ => rfl, fun _ => rfl, fun _ =>
    rfl, fun _ => rfl, fun _ => rfl, fun _ => rfl, fun _ => rfl, fun _ => rfl, fun _ => rfl, fun _ => rfl, fun _ =>
    rfl, fun _ => rfl, fun _ => rfl, fun _ => rfl, fun _ => rfl, fun _ => rfl, fun _ => rfl, fun _ => rfl, fun _ =>
    rfl, fun _ => rfl, fun _ => rfl, fun _ => rfl, fun h => absurd h (by decide), fun _ => rfl, fun _ => rfl, fun _ =>
    rfl, fun _ => rfl, fun _ => rfl, fun _ => rfl, fun _ => rfl, fun _ => rfl, fun _ => rfl, fun _ => rfl, fun _ =>
    rfl, fun h => ?_⟩
  rw [stored_iff] at h ⊢
  exact ⟨h.mem, h.hub, h.sec, h.flash, h.jrnl, h.mg, h.elog, h.twin, h.pw, h.facets, h.straps, h.siteStatus, h.admitted,
    h.held, h.cds, h.fds, h.pds, h.oes, h.lsms, h.hosts, h.links, h.dirs, h.ctxs, h.owner, h.ecc, h.sems, h.arrs,
    h.slots, h.streams, h.engines, h.topk, h.ubuf, h.tags, h.outst, h.latches, hv0 h.fences, h.striped, h.idle⟩

theorem Same.put_striped (s : State) (v0 : Tab Nat)
    (hv0 : Tab.wf 0 s.striped = true → Tab.wf 0 v0 = true) :
    Same 17592186044416 s { s with striped := v0 } := by
  refine ⟨fun _ => rfl, fun _ => rfl, fun _ => rfl, fun _ => rfl, fun _ => rfl, fun _ => rfl, fun _ => rfl, fun _ =>
    rfl, fun _ => rfl, fun _ => rfl, fun _ => rfl, fun _ => rfl, fun _ => rfl, fun _ => rfl, fun _ => rfl, fun _ =>
    rfl, fun _ => rfl, fun _ => rfl, fun _ => rfl, fun _ => rfl, fun _ => rfl, fun _ => rfl, fun _ => rfl, fun _ =>
    rfl, fun _ => rfl, fun _ => rfl, fun _ => rfl, fun _ => rfl, fun _ => rfl, fun _ => rfl, fun _ => rfl, fun _ =>
    rfl, fun _ => rfl, fun _ => rfl, fun _ => rfl, fun _ => rfl, fun _ => rfl, fun _ => rfl, fun _ => rfl, fun _ =>
    rfl, fun _ => rfl, fun _ => rfl, fun _ => rfl, fun _ => rfl, fun h => absurd h (by decide), fun _ => rfl, fun _ =>
    rfl, fun _ => rfl, fun _ => rfl, fun _ => rfl, fun _ => rfl, fun _ => rfl, fun _ => rfl, fun _ => rfl, fun _ =>
    rfl, fun h => ?_⟩
  rw [stored_iff] at h ⊢
  exact ⟨h.mem, h.hub, h.sec, h.flash, h.jrnl, h.mg, h.elog, h.twin, h.pw, h.facets, h.straps, h.siteStatus, h.admitted,
    h.held, h.cds, h.fds, h.pds, h.oes, h.lsms, h.hosts, h.links, h.dirs, h.ctxs, h.owner, h.ecc, h.sems, h.arrs,
    h.slots, h.streams, h.engines, h.topk, h.ubuf, h.tags, h.outst, h.latches, h.fences, hv0 h.striped, h.idle⟩

theorem Same.put_terms (s : State) (v0 : List TermSt) :
    Same 35184372088832 s { s with terms := v0 } := by
  refine ⟨fun _ => rfl, fun _ => rfl, fun _ => rfl, fun _ => rfl, fun _ => rfl, fun _ => rfl, fun _ => rfl, fun _ =>
    rfl, fun _ => rfl, fun _ => rfl, fun _ => rfl, fun _ => rfl, fun _ => rfl, fun _ => rfl, fun _ => rfl, fun _ =>
    rfl, fun _ => rfl, fun _ => rfl, fun _ => rfl, fun _ => rfl, fun _ => rfl, fun _ => rfl, fun _ => rfl, fun _ =>
    rfl, fun _ => rfl, fun _ => rfl, fun _ => rfl, fun _ => rfl, fun _ => rfl, fun _ => rfl, fun _ => rfl, fun _ =>
    rfl, fun _ => rfl, fun _ => rfl, fun _ => rfl, fun _ => rfl, fun _ => rfl, fun _ => rfl, fun _ => rfl, fun _ =>
    rfl, fun _ => rfl, fun _ => rfl, fun _ => rfl, fun _ => rfl, fun _ => rfl, fun h => absurd h (by decide), fun _ =>
    rfl, fun _ => rfl, fun _ => rfl, fun _ => rfl, fun _ => rfl, fun _ => rfl, fun _ => rfl, fun _ => rfl, fun _ =>
    rfl, fun h => ?_⟩
  exact h

theorem Same.put_mtxns (s : State) (v0 : List MTxn) :
    Same 70368744177664 s { s with mtxns := v0 } := by
  refine ⟨fun _ => rfl, fun _ => rfl, fun _ => rfl, fun _ => rfl, fun _ => rfl, fun _ => rfl, fun _ => rfl, fun _ =>
    rfl, fun _ => rfl, fun _ => rfl, fun _ => rfl, fun _ => rfl, fun _ => rfl, fun _ => rfl, fun _ => rfl, fun _ =>
    rfl, fun _ => rfl, fun _ => rfl, fun _ => rfl, fun _ => rfl, fun _ => rfl, fun _ => rfl, fun _ => rfl, fun _ =>
    rfl, fun _ => rfl, fun _ => rfl, fun _ => rfl, fun _ => rfl, fun _ => rfl, fun _ => rfl, fun _ => rfl, fun _ =>
    rfl, fun _ => rfl, fun _ => rfl, fun _ => rfl, fun _ => rfl, fun _ => rfl, fun _ => rfl, fun _ => rfl, fun _ =>
    rfl, fun _ => rfl, fun _ => rfl, fun _ => rfl, fun _ => rfl, fun _ => rfl, fun _ => rfl, fun h => absurd h (by
    decide), fun _ => rfl, fun _ => rfl, fun _ => rfl, fun _ => rfl, fun _ => rfl, fun _ => rfl, fun _ => rfl, fun _
    => rfl, fun h => ?_⟩
  exact h

theorem Same.put_plans (s : State) (v0 : List Plan) :
    Same 140737488355328 s { s with plans := v0 } := by
  refine ⟨fun _ => rfl, fun _ => rfl, fun _ => rfl, fun _ => rfl, fun _ => rfl, fun _ => rfl, fun _ => rfl, fun _ =>
    rfl, fun _ => rfl, fun _ => rfl, fun _ => rfl, fun _ => rfl, fun _ => rfl, fun _ => rfl, fun _ => rfl, fun _ =>
    rfl, fun _ => rfl, fun _ => rfl, fun _ => rfl, fun _ => rfl, fun _ => rfl, fun _ => rfl, fun _ => rfl, fun _ =>
    rfl, fun _ => rfl, fun _ => rfl, fun _ => rfl, fun _ => rfl, fun _ => rfl, fun _ => rfl, fun _ => rfl, fun _ =>
    rfl, fun _ => rfl, fun _ => rfl, fun _ => rfl, fun _ => rfl, fun _ => rfl, fun _ => rfl, fun _ => rfl, fun _ =>
    rfl, fun _ => rfl, fun _ => rfl, fun _ => rfl, fun _ => rfl, fun _ => rfl, fun _ => rfl, fun _ => rfl, fun h =>
    absurd h (by decide), fun _ => rfl, fun _ => rfl, fun _ => rfl, fun _ => rfl, fun _ => rfl, fun _ => rfl, fun _ =>
    rfl, fun h => ?_⟩
  exact h

theorem Same.put_insts (s : State) (v0 : List Inst) :
    Same 281474976710656 s { s with insts := v0 } := by
  refine ⟨fun _ => rfl, fun _ => rfl, fun _ => rfl, fun _ => rfl, fun _ => rfl, fun _ => rfl, fun _ => rfl, fun _ =>
    rfl, fun _ => rfl, fun _ => rfl, fun _ => rfl, fun _ => rfl, fun _ => rfl, fun _ => rfl, fun _ => rfl, fun _ =>
    rfl, fun _ => rfl, fun _ => rfl, fun _ => rfl, fun _ => rfl, fun _ => rfl, fun _ => rfl, fun _ => rfl, fun _ =>
    rfl, fun _ => rfl, fun _ => rfl, fun _ => rfl, fun _ => rfl, fun _ => rfl, fun _ => rfl, fun _ => rfl, fun _ =>
    rfl, fun _ => rfl, fun _ => rfl, fun _ => rfl, fun _ => rfl, fun _ => rfl, fun _ => rfl, fun _ => rfl, fun _ =>
    rfl, fun _ => rfl, fun _ => rfl, fun _ => rfl, fun _ => rfl, fun _ => rfl, fun _ => rfl, fun _ => rfl, fun _ =>
    rfl, fun h => absurd h (by decide), fun _ => rfl, fun _ => rfl, fun _ => rfl, fun _ => rfl, fun _ => rfl, fun _ =>
    rfl, fun h => ?_⟩
  exact h

theorem Same.put_ctrlTable (s : State) (v0 : List (Nat × Mpk)) :
    Same 562949953421312 s { s with ctrlTable := v0 } := by
  refine ⟨fun _ => rfl, fun _ => rfl, fun _ => rfl, fun _ => rfl, fun _ => rfl, fun _ => rfl, fun _ => rfl, fun _ =>
    rfl, fun _ => rfl, fun _ => rfl, fun _ => rfl, fun _ => rfl, fun _ => rfl, fun _ => rfl, fun _ => rfl, fun _ =>
    rfl, fun _ => rfl, fun _ => rfl, fun _ => rfl, fun _ => rfl, fun _ => rfl, fun _ => rfl, fun _ => rfl, fun _ =>
    rfl, fun _ => rfl, fun _ => rfl, fun _ => rfl, fun _ => rfl, fun _ => rfl, fun _ => rfl, fun _ => rfl, fun _ =>
    rfl, fun _ => rfl, fun _ => rfl, fun _ => rfl, fun _ => rfl, fun _ => rfl, fun _ => rfl, fun _ => rfl, fun _ =>
    rfl, fun _ => rfl, fun _ => rfl, fun _ => rfl, fun _ => rfl, fun _ => rfl, fun _ => rfl, fun _ => rfl, fun _ =>
    rfl, fun _ => rfl, fun h => absurd h (by decide), fun _ => rfl, fun _ => rfl, fun _ => rfl, fun _ => rfl, fun _ =>
    rfl, fun h => ?_⟩
  exact h

theorem Same.put_tickIncs (s : State) (v0 : List TickInc) :
    Same 1125899906842624 s { s with tickIncs := v0 } := by
  refine ⟨fun _ => rfl, fun _ => rfl, fun _ => rfl, fun _ => rfl, fun _ => rfl, fun _ => rfl, fun _ => rfl, fun _ =>
    rfl, fun _ => rfl, fun _ => rfl, fun _ => rfl, fun _ => rfl, fun _ => rfl, fun _ => rfl, fun _ => rfl, fun _ =>
    rfl, fun _ => rfl, fun _ => rfl, fun _ => rfl, fun _ => rfl, fun _ => rfl, fun _ => rfl, fun _ => rfl, fun _ =>
    rfl, fun _ => rfl, fun _ => rfl, fun _ => rfl, fun _ => rfl, fun _ => rfl, fun _ => rfl, fun _ => rfl, fun _ =>
    rfl, fun _ => rfl, fun _ => rfl, fun _ => rfl, fun _ => rfl, fun _ => rfl, fun _ => rfl, fun _ => rfl, fun _ =>
    rfl, fun _ => rfl, fun _ => rfl, fun _ => rfl, fun _ => rfl, fun _ => rfl, fun _ => rfl, fun _ => rfl, fun _ =>
    rfl, fun _ => rfl, fun _ => rfl, fun h => absurd h (by decide), fun _ => rfl, fun _ => rfl, fun _ => rfl, fun _ =>
    rfl, fun h => ?_⟩
  exact h

theorem Same.put_barrierHold (s : State) (v0 : List TickInc) :
    Same 2251799813685248 s { s with barrierHold := v0 } := by
  refine ⟨fun _ => rfl, fun _ => rfl, fun _ => rfl, fun _ => rfl, fun _ => rfl, fun _ => rfl, fun _ => rfl, fun _ =>
    rfl, fun _ => rfl, fun _ => rfl, fun _ => rfl, fun _ => rfl, fun _ => rfl, fun _ => rfl, fun _ => rfl, fun _ =>
    rfl, fun _ => rfl, fun _ => rfl, fun _ => rfl, fun _ => rfl, fun _ => rfl, fun _ => rfl, fun _ => rfl, fun _ =>
    rfl, fun _ => rfl, fun _ => rfl, fun _ => rfl, fun _ => rfl, fun _ => rfl, fun _ => rfl, fun _ => rfl, fun _ =>
    rfl, fun _ => rfl, fun _ => rfl, fun _ => rfl, fun _ => rfl, fun _ => rfl, fun _ => rfl, fun _ => rfl, fun _ =>
    rfl, fun _ => rfl, fun _ => rfl, fun _ => rfl, fun _ => rfl, fun _ => rfl, fun _ => rfl, fun _ => rfl, fun _ =>
    rfl, fun _ => rfl, fun _ => rfl, fun _ => rfl, fun h => absurd h (by decide), fun _ => rfl, fun _ => rfl, fun _ =>
    rfl, fun h => ?_⟩
  exact h

theorem Same.put_idle (s : State) (v0 : Tab (List Byte))
    (hv0 : Tab.wf [] s.idle = true → Tab.wf [] v0 = true) :
    Same 4503599627370496 s { s with idle := v0 } := by
  refine ⟨fun _ => rfl, fun _ => rfl, fun _ => rfl, fun _ => rfl, fun _ => rfl, fun _ => rfl, fun _ => rfl, fun _ =>
    rfl, fun _ => rfl, fun _ => rfl, fun _ => rfl, fun _ => rfl, fun _ => rfl, fun _ => rfl, fun _ => rfl, fun _ =>
    rfl, fun _ => rfl, fun _ => rfl, fun _ => rfl, fun _ => rfl, fun _ => rfl, fun _ => rfl, fun _ => rfl, fun _ =>
    rfl, fun _ => rfl, fun _ => rfl, fun _ => rfl, fun _ => rfl, fun _ => rfl, fun _ => rfl, fun _ => rfl, fun _ =>
    rfl, fun _ => rfl, fun _ => rfl, fun _ => rfl, fun _ => rfl, fun _ => rfl, fun _ => rfl, fun _ => rfl, fun _ =>
    rfl, fun _ => rfl, fun _ => rfl, fun _ => rfl, fun _ => rfl, fun _ => rfl, fun _ => rfl, fun _ => rfl, fun _ =>
    rfl, fun _ => rfl, fun _ => rfl, fun _ => rfl, fun _ => rfl, fun h => absurd h (by decide), fun _ => rfl, fun _ =>
    rfl, fun h => ?_⟩
  rw [stored_iff] at h ⊢
  exact ⟨h.mem, h.hub, h.sec, h.flash, h.jrnl, h.mg, h.elog, h.twin, h.pw, h.facets, h.straps, h.siteStatus, h.admitted,
    h.held, h.cds, h.fds, h.pds, h.oes, h.lsms, h.hosts, h.links, h.dirs, h.ctxs, h.owner, h.ecc, h.sems, h.arrs,
    h.slots, h.streams, h.engines, h.topk, h.ubuf, h.tags, h.outst, h.latches, h.fences, h.striped, hv0 h.idle⟩

theorem Same.put_xch (s : State) (v0 : List XchSt) :
    Same 9007199254740992 s { s with xch := v0 } := by
  refine ⟨fun _ => rfl, fun _ => rfl, fun _ => rfl, fun _ => rfl, fun _ => rfl, fun _ => rfl, fun _ => rfl, fun _ =>
    rfl, fun _ => rfl, fun _ => rfl, fun _ => rfl, fun _ => rfl, fun _ => rfl, fun _ => rfl, fun _ => rfl, fun _ =>
    rfl, fun _ => rfl, fun _ => rfl, fun _ => rfl, fun _ => rfl, fun _ => rfl, fun _ => rfl, fun _ => rfl, fun _ =>
    rfl, fun _ => rfl, fun _ => rfl, fun _ => rfl, fun _ => rfl, fun _ => rfl, fun _ => rfl, fun _ => rfl, fun _ =>
    rfl, fun _ => rfl, fun _ => rfl, fun _ => rfl, fun _ => rfl, fun _ => rfl, fun _ => rfl, fun _ => rfl, fun _ =>
    rfl, fun _ => rfl, fun _ => rfl, fun _ => rfl, fun _ => rfl, fun _ => rfl, fun _ => rfl, fun _ => rfl, fun _ =>
    rfl, fun _ => rfl, fun _ => rfl, fun _ => rfl, fun _ => rfl, fun _ => rfl, fun h => absurd h (by decide), fun _ =>
    rfl, fun h => ?_⟩
  exact h

theorem Same.put_out (s : State) (v0 : List Output) :
    Same 18014398509481984 s { s with out := v0 } := by
  refine ⟨fun _ => rfl, fun _ => rfl, fun _ => rfl, fun _ => rfl, fun _ => rfl, fun _ => rfl, fun _ => rfl, fun _ =>
    rfl, fun _ => rfl, fun _ => rfl, fun _ => rfl, fun _ => rfl, fun _ => rfl, fun _ => rfl, fun _ => rfl, fun _ =>
    rfl, fun _ => rfl, fun _ => rfl, fun _ => rfl, fun _ => rfl, fun _ => rfl, fun _ => rfl, fun _ => rfl, fun _ =>
    rfl, fun _ => rfl, fun _ => rfl, fun _ => rfl, fun _ => rfl, fun _ => rfl, fun _ => rfl, fun _ => rfl, fun _ =>
    rfl, fun _ => rfl, fun _ => rfl, fun _ => rfl, fun _ => rfl, fun _ => rfl, fun _ => rfl, fun _ => rfl, fun _ =>
    rfl, fun _ => rfl, fun _ => rfl, fun _ => rfl, fun _ => rfl, fun _ => rfl, fun _ => rfl, fun _ => rfl, fun _ =>
    rfl, fun _ => rfl, fun _ => rfl, fun _ => rfl, fun _ => rfl, fun _ => rfl, fun _ => rfl, fun h => absurd h (by
    decide), fun h => ?_⟩
  exact h

theorem Same.put_nextUid_terms (s : State) (v0 : Nat) (v1 : List TermSt) :
    Same 35184372088848 s { s with nextUid := v0, terms := v1 } := by
  refine ⟨fun _ => rfl, fun _ => rfl, fun _ => rfl, fun _ => rfl, fun h => absurd h (by decide), fun _ => rfl, fun _ =>
    rfl, fun _ => rfl, fun _ => rfl, fun _ => rfl, fun _ => rfl, fun _ => rfl, fun _ => rfl, fun _ => rfl, fun _ =>
    rfl, fun _ => rfl, fun _ => rfl, fun _ => rfl, fun _ => rfl, fun _ => rfl, fun _ => rfl, fun _ => rfl, fun _ =>
    rfl, fun _ => rfl, fun _ => rfl, fun _ => rfl, fun _ => rfl, fun _ => rfl, fun _ => rfl, fun _ => rfl, fun _ =>
    rfl, fun _ => rfl, fun _ => rfl, fun _ => rfl, fun _ => rfl, fun _ => rfl, fun _ => rfl, fun _ => rfl, fun _ =>
    rfl, fun _ => rfl, fun _ => rfl, fun _ => rfl, fun _ => rfl, fun _ => rfl, fun _ => rfl, fun h => absurd h (by
    decide), fun _ => rfl, fun _ => rfl, fun _ => rfl, fun _ => rfl, fun _ => rfl, fun _ => rfl, fun _ => rfl, fun _
    => rfl, fun _ => rfl, fun h => ?_⟩
  exact h

theorem Same.put_hub_sec (s : State) (v0 : HubSt) (v1 : SecSt)
    (hv0 : s.hub.wf = true → v0.wf = true)
    (hv1 : s.sec.wf = true → v1.wf = true) :
    Same 96 s { s with hub := v0, sec := v1 } := by
  refine ⟨fun _ => rfl, fun _ => rfl, fun _ => rfl, fun _ => rfl, fun _ => rfl, fun h => absurd h (by decide), fun h =>
    absurd h (by decide), fun _ => rfl, fun _ => rfl, fun _ => rfl, fun _ => rfl, fun _ => rfl, fun _ => rfl, fun _ =>
    rfl, fun _ => rfl, fun _ => rfl, fun _ => rfl, fun _ => rfl, fun _ => rfl, fun _ => rfl, fun _ => rfl, fun _ =>
    rfl, fun _ => rfl, fun _ => rfl, fun _ => rfl, fun _ => rfl, fun _ => rfl, fun _ => rfl, fun _ => rfl, fun _ =>
    rfl, fun _ => rfl, fun _ => rfl, fun _ => rfl, fun _ => rfl, fun _ => rfl, fun _ => rfl, fun _ => rfl, fun _ =>
    rfl, fun _ => rfl, fun _ => rfl, fun _ => rfl, fun _ => rfl, fun _ => rfl, fun _ => rfl, fun _ => rfl, fun _ =>
    rfl, fun _ => rfl, fun _ => rfl, fun _ => rfl, fun _ => rfl, fun _ => rfl, fun _ => rfl, fun _ => rfl, fun _ =>
    rfl, fun _ => rfl, fun h => ?_⟩
  rw [stored_iff] at h ⊢
  exact ⟨h.mem, hv0 h.hub, hv1 h.sec, h.flash, h.jrnl, h.mg, h.elog, h.twin, h.pw, h.facets, h.straps, h.siteStatus,
    h.admitted, h.held, h.cds, h.fds, h.pds, h.oes, h.lsms, h.hosts, h.links, h.dirs, h.ctxs, h.owner, h.ecc, h.sems,
    h.arrs, h.slots, h.streams, h.engines, h.topk, h.ubuf, h.tags, h.outst, h.latches, h.fences, h.striped, h.idle⟩

theorem Same.put_hub_jrnl (s : State) (v0 : HubSt) (v1 : JournalSt)
    (hv0 : s.hub.wf = true → v0.wf = true)
    (hv1 : s.jrnl.wf = true → v1.wf = true) :
    Same 544 s { s with hub := v0, jrnl := v1 } := by
  refine ⟨fun _ => rfl, fun _ => rfl, fun _ => rfl, fun _ => rfl, fun _ => rfl, fun h => absurd h (by decide), fun _ =>
    rfl, fun _ => rfl, fun _ => rfl, fun h => absurd h (by decide), fun _ => rfl, fun _ => rfl, fun _ => rfl, fun _ =>
    rfl, fun _ => rfl, fun _ => rfl, fun _ => rfl, fun _ => rfl, fun _ => rfl, fun _ => rfl, fun _ => rfl, fun _ =>
    rfl, fun _ => rfl, fun _ => rfl, fun _ => rfl, fun _ => rfl, fun _ => rfl, fun _ => rfl, fun _ => rfl, fun _ =>
    rfl, fun _ => rfl, fun _ => rfl, fun _ => rfl, fun _ => rfl, fun _ => rfl, fun _ => rfl, fun _ => rfl, fun _ =>
    rfl, fun _ => rfl, fun _ => rfl, fun _ => rfl, fun _ => rfl, fun _ => rfl, fun _ => rfl, fun _ => rfl, fun _ =>
    rfl, fun _ => rfl, fun _ => rfl, fun _ => rfl, fun _ => rfl, fun _ => rfl, fun _ => rfl, fun _ => rfl, fun _ =>
    rfl, fun _ => rfl, fun h => ?_⟩
  rw [stored_iff] at h ⊢
  exact ⟨h.mem, hv0 h.hub, h.sec, h.flash, hv1 h.jrnl, h.mg, h.elog, h.twin, h.pw, h.facets, h.straps, h.siteStatus,
    h.admitted, h.held, h.cds, h.fds, h.pds, h.oes, h.lsms, h.hosts, h.links, h.dirs, h.ctxs, h.owner, h.ecc, h.sems,
    h.arrs, h.slots, h.streams, h.engines, h.topk, h.ubuf, h.tags, h.outst, h.latches, h.fences, h.striped, h.idle⟩

theorem Same.put_hub_pw (s : State) (v0 : HubSt) (v1 : PowerSt)
    (hv0 : s.hub.wf = true → v0.wf = true)
    (hv1 : s.pw.wf = true → v1.wf = true) :
    Same 8224 s { s with hub := v0, pw := v1 } := by
  refine ⟨fun _ => rfl, fun _ => rfl, fun _ => rfl, fun _ => rfl, fun _ => rfl, fun h => absurd h (by decide), fun _ =>
    rfl, fun _ => rfl, fun _ => rfl, fun _ => rfl, fun _ => rfl, fun _ => rfl, fun _ => rfl, fun h => absurd h (by
    decide), fun _ => rfl, fun _ => rfl, fun _ => rfl, fun _ => rfl, fun _ => rfl, fun _ => rfl, fun _ => rfl, fun _
    => rfl, fun _ => rfl, fun _ => rfl, fun _ => rfl, fun _ => rfl, fun _ => rfl, fun _ => rfl, fun _ => rfl, fun _ =>
    rfl, fun _ => rfl, fun _ => rfl, fun _ => rfl, fun _ => rfl, fun _ => rfl, fun _ => rfl, fun _ => rfl, fun _ =>
    rfl, fun _ => rfl, fun _ => rfl, fun _ => rfl, fun _ => rfl, fun _ => rfl, fun _ => rfl, fun _ => rfl, fun _ =>
    rfl, fun _ => rfl, fun _ => rfl, fun _ => rfl, fun _ => rfl, fun _ => rfl, fun _ => rfl, fun _ => rfl, fun _ =>
    rfl, fun _ => rfl, fun h => ?_⟩
  rw [stored_iff] at h ⊢
  exact ⟨h.mem, hv0 h.hub, h.sec, h.flash, h.jrnl, h.mg, h.elog, h.twin, hv1 h.pw, h.facets, h.straps, h.siteStatus,
    h.admitted, h.held, h.cds, h.fds, h.pds, h.oes, h.lsms, h.hosts, h.links, h.dirs, h.ctxs, h.owner, h.ecc, h.sems,
    h.arrs, h.slots, h.streams, h.engines, h.topk, h.ubuf, h.tags, h.outst, h.latches, h.fences, h.striped, h.idle⟩

theorem Same.put_sec_twin (s : State) (v0 : SecSt) (v1 : TwinSt)
    (hv0 : s.sec.wf = true → v0.wf = true)
    (hv1 : s.twin.wf = true → v1.wf = true) :
    Same 2112 s { s with sec := v0, twin := v1 } := by
  refine ⟨fun _ => rfl, fun _ => rfl, fun _ => rfl, fun _ => rfl, fun _ => rfl, fun _ => rfl, fun h => absurd h (by
    decide), fun _ => rfl, fun _ => rfl, fun _ => rfl, fun _ => rfl, fun h => absurd h (by decide), fun _ => rfl, fun
    _ => rfl, fun _ => rfl, fun _ => rfl, fun _ => rfl, fun _ => rfl, fun _ => rfl, fun _ => rfl, fun _ => rfl, fun _
    => rfl, fun _ => rfl, fun _ => rfl, fun _ => rfl, fun _ => rfl, fun _ => rfl, fun _ => rfl, fun _ => rfl, fun _ =>
    rfl, fun _ => rfl, fun _ => rfl, fun _ => rfl, fun _ => rfl, fun _ => rfl, fun _ => rfl, fun _ => rfl, fun _ =>
    rfl, fun _ => rfl, fun _ => rfl, fun _ => rfl, fun _ => rfl, fun _ => rfl, fun _ => rfl, fun _ => rfl, fun _ =>
    rfl, fun _ => rfl, fun _ => rfl, fun _ => rfl, fun _ => rfl, fun _ => rfl, fun _ => rfl, fun _ => rfl, fun _ =>
    rfl, fun _ => rfl, fun h => ?_⟩
  rw [stored_iff] at h ⊢
  exact ⟨h.mem, h.hub, hv0 h.sec, h.flash, h.jrnl, h.mg, h.elog, hv1 h.twin, h.pw, h.facets, h.straps, h.siteStatus,
    h.admitted, h.held, h.cds, h.fds, h.pds, h.oes, h.lsms, h.hosts, h.links, h.dirs, h.ctxs, h.owner, h.ecc, h.sems,
    h.arrs, h.slots, h.streams, h.engines, h.topk, h.ubuf, h.tags, h.outst, h.latches, h.fences, h.striped, h.idle⟩

theorem Same.put_standby_jrnl (s : State) (v0 : StandbySt) (v1 : JournalSt)
    (hv1 : s.jrnl.wf = true → v1.wf = true) :
    Same 768 s { s with standby := v0, jrnl := v1 } := by
  refine ⟨fun _ => rfl, fun _ => rfl, fun _ => rfl, fun _ => rfl, fun _ => rfl, fun _ => rfl, fun _ => rfl, fun _ =>
    rfl, fun h => absurd h (by decide), fun h => absurd h (by decide), fun _ => rfl, fun _ => rfl, fun _ => rfl, fun _
    => rfl, fun _ => rfl, fun _ => rfl, fun _ => rfl, fun _ => rfl, fun _ => rfl, fun _ => rfl, fun _ => rfl, fun _ =>
    rfl, fun _ => rfl, fun _ => rfl, fun _ => rfl, fun _ => rfl, fun _ => rfl, fun _ => rfl, fun _ => rfl, fun _ =>
    rfl, fun _ => rfl, fun _ => rfl, fun _ => rfl, fun _ => rfl, fun _ => rfl, fun _ => rfl, fun _ => rfl, fun _ =>
    rfl, fun _ => rfl, fun _ => rfl, fun _ => rfl, fun _ => rfl, fun _ => rfl, fun _ => rfl, fun _ => rfl, fun _ =>
    rfl, fun _ => rfl, fun _ => rfl, fun _ => rfl, fun _ => rfl, fun _ => rfl, fun _ => rfl, fun _ => rfl, fun _ =>
    rfl, fun _ => rfl, fun h => ?_⟩
  rw [stored_iff] at h ⊢
  exact ⟨h.mem, h.hub, h.sec, h.flash, hv1 h.jrnl, h.mg, h.elog, h.twin, h.pw, h.facets, h.straps, h.siteStatus,
    h.admitted, h.held, h.cds, h.fds, h.pds, h.oes, h.lsms, h.hosts, h.links, h.dirs, h.ctxs, h.owner, h.ecc, h.sems,
    h.arrs, h.slots, h.streams, h.engines, h.topk, h.ubuf, h.tags, h.outst, h.latches, h.fences, h.striped, h.idle⟩

theorem Same.put_standby_pw (s : State) (v0 : StandbySt) (v1 : PowerSt)
    (hv1 : s.pw.wf = true → v1.wf = true) :
    Same 8448 s { s with standby := v0, pw := v1 } := by
  refine ⟨fun _ => rfl, fun _ => rfl, fun _ => rfl, fun _ => rfl, fun _ => rfl, fun _ => rfl, fun _ => rfl, fun _ =>
    rfl, fun h => absurd h (by decide), fun _ => rfl, fun _ => rfl, fun _ => rfl, fun _ => rfl, fun h => absurd h (by
    decide), fun _ => rfl, fun _ => rfl, fun _ => rfl, fun _ => rfl, fun _ => rfl, fun _ => rfl, fun _ => rfl, fun _
    => rfl, fun _ => rfl, fun _ => rfl, fun _ => rfl, fun _ => rfl, fun _ => rfl, fun _ => rfl, fun _ => rfl, fun _ =>
    rfl, fun _ => rfl, fun _ => rfl, fun _ => rfl, fun _ => rfl, fun _ => rfl, fun _ => rfl, fun _ => rfl, fun _ =>
    rfl, fun _ => rfl, fun _ => rfl, fun _ => rfl, fun _ => rfl, fun _ => rfl, fun _ => rfl, fun _ => rfl, fun _ =>
    rfl, fun _ => rfl, fun _ => rfl, fun _ => rfl, fun _ => rfl, fun _ => rfl, fun _ => rfl, fun _ => rfl, fun _ =>
    rfl, fun _ => rfl, fun h => ?_⟩
  rw [stored_iff] at h ⊢
  exact ⟨h.mem, h.hub, h.sec, h.flash, h.jrnl, h.mg, h.elog, h.twin, hv1 h.pw, h.facets, h.straps, h.siteStatus,
    h.admitted, h.held, h.cds, h.fds, h.pds, h.oes, h.lsms, h.hosts, h.links, h.dirs, h.ctxs, h.owner, h.ecc, h.sems,
    h.arrs, h.slots, h.streams, h.engines, h.topk, h.ubuf, h.tags, h.outst, h.latches, h.fences, h.striped, h.idle⟩

theorem Same.put_jrnl_pw (s : State) (v0 : JournalSt) (v1 : PowerSt)
    (hv0 : s.jrnl.wf = true → v0.wf = true)
    (hv1 : s.pw.wf = true → v1.wf = true) :
    Same 8704 s { s with jrnl := v0, pw := v1 } := by
  refine ⟨fun _ => rfl, fun _ => rfl, fun _ => rfl, fun _ => rfl, fun _ => rfl, fun _ => rfl, fun _ => rfl, fun _ =>
    rfl, fun _ => rfl, fun h => absurd h (by decide), fun _ => rfl, fun _ => rfl, fun _ => rfl, fun h => absurd h (by
    decide), fun _ => rfl, fun _ => rfl, fun _ => rfl, fun _ => rfl, fun _ => rfl, fun _ => rfl, fun _ => rfl, fun _
    => rfl, fun _ => rfl, fun _ => rfl, fun _ => rfl, fun _ => rfl, fun _ => rfl, fun _ => rfl, fun _ => rfl, fun _ =>
    rfl, fun _ => rfl, fun _ => rfl, fun _ => rfl, fun _ => rfl, fun _ => rfl, fun _ => rfl, fun _ => rfl, fun _ =>
    rfl, fun _ => rfl, fun _ => rfl, fun _ => rfl, fun _ => rfl, fun _ => rfl, fun _ => rfl, fun _ => rfl, fun _ =>
    rfl, fun _ => rfl, fun _ => rfl, fun _ => rfl, fun _ => rfl, fun _ => rfl, fun _ => rfl, fun _ => rfl, fun _ =>
    rfl, fun _ => rfl, fun h => ?_⟩
  rw [stored_iff] at h ⊢
  exact ⟨h.mem, h.hub, h.sec, h.flash, hv0 h.jrnl, h.mg, h.elog, h.twin, hv1 h.pw, h.facets, h.straps, h.siteStatus,
    h.admitted, h.held, h.cds, h.fds, h.pds, h.oes, h.lsms, h.hosts, h.links, h.dirs, h.ctxs, h.owner, h.ecc, h.sems,
    h.arrs, h.slots, h.streams, h.engines, h.topk, h.ubuf, h.tags, h.outst, h.latches, h.fences, h.striped, h.idle⟩

theorem Same.put_siteStatus_admitted (s : State) (v0 : Tab Nat) (v1 : Tab Nat)
    (hv0 : Tab.wf 0 s.siteStatus = true → Tab.wf 0 v0 = true)
    (hv1 : Tab.wf 0 s.admitted = true → Tab.wf 0 v1 = true) :
    Same 196608 s { s with siteStatus := v0, admitted := v1 } := by
  refine ⟨fun _ => rfl, fun _ => rfl, fun _ => rfl, fun _ => rfl, fun _ => rfl, fun _ => rfl, fun _ => rfl, fun _ =>
    rfl, fun _ => rfl, fun _ => rfl, fun _ => rfl, fun _ => rfl, fun _ => rfl, fun _ => rfl, fun _ => rfl, fun _ =>
    rfl, fun h => absurd h (by decide), fun h => absurd h (by decide), fun _ => rfl, fun _ => rfl, fun _ => rfl, fun _
    => rfl, fun _ => rfl, fun _ => rfl, fun _ => rfl, fun _ => rfl, fun _ => rfl, fun _ => rfl, fun _ => rfl, fun _ =>
    rfl, fun _ => rfl, fun _ => rfl, fun _ => rfl, fun _ => rfl, fun _ => rfl, fun _ => rfl, fun _ => rfl, fun _ =>
    rfl, fun _ => rfl, fun _ => rfl, fun _ => rfl, fun _ => rfl, fun _ => rfl, fun _ => rfl, fun _ => rfl, fun _ =>
    rfl, fun _ => rfl, fun _ => rfl, fun _ => rfl, fun _ => rfl, fun _ => rfl, fun _ => rfl, fun _ => rfl, fun _ =>
    rfl, fun _ => rfl, fun h => ?_⟩
  rw [stored_iff] at h ⊢
  exact ⟨h.mem, h.hub, h.sec, h.flash, h.jrnl, h.mg, h.elog, h.twin, h.pw, h.facets, h.straps, hv0 h.siteStatus, hv1
    h.admitted, h.held, h.cds, h.fds, h.pds, h.oes, h.lsms, h.hosts, h.links, h.dirs, h.ctxs, h.owner, h.ecc, h.sems,
    h.arrs, h.slots, h.streams, h.engines, h.topk, h.ubuf, h.tags, h.outst, h.latches, h.fences, h.striped, h.idle⟩

theorem Same.put_mem_ecc (s : State) (v0 : List Host.Cell) (v1 : Tab Nat)
    (hv0 : Memory.wf s.mem = true → Memory.wf v0 = true)
    (hv1 : Tab.wf 0 s.ecc = true → Tab.wf 0 v1 = true) :
    Same 1610612736 s { s with mem := v0, ecc := v1 } := by
  refine ⟨fun _ => rfl, fun _ => rfl, fun _ => rfl, fun _ => rfl, fun _ => rfl, fun _ => rfl, fun _ => rfl, fun _ =>
    rfl, fun _ => rfl, fun _ => rfl, fun _ => rfl, fun _ => rfl, fun _ => rfl, fun _ => rfl, fun _ => rfl, fun _ =>
    rfl, fun _ => rfl, fun _ => rfl, fun _ => rfl, fun _ => rfl, fun _ => rfl, fun _ => rfl, fun _ => rfl, fun _ =>
    rfl, fun _ => rfl, fun _ => rfl, fun _ => rfl, fun _ => rfl, fun _ => rfl, fun h => absurd h (by decide), fun h =>
    absurd h (by decide), fun _ => rfl, fun _ => rfl, fun _ => rfl, fun _ => rfl, fun _ => rfl, fun _ => rfl, fun _ =>
    rfl, fun _ => rfl, fun _ => rfl, fun _ => rfl, fun _ => rfl, fun _ => rfl, fun _ => rfl, fun _ => rfl, fun _ =>
    rfl, fun _ => rfl, fun _ => rfl, fun _ => rfl, fun _ => rfl, fun _ => rfl, fun _ => rfl, fun _ => rfl, fun _ =>
    rfl, fun _ => rfl, fun h => ?_⟩
  rw [stored_iff] at h ⊢
  exact ⟨hv0 h.mem, h.hub, h.sec, h.flash, h.jrnl, h.mg, h.elog, h.twin, h.pw, h.facets, h.straps, h.siteStatus,
    h.admitted, h.held, h.cds, h.fds, h.pds, h.oes, h.lsms, h.hosts, h.links, h.dirs, h.ctxs, h.owner, hv1 h.ecc,
    h.sems, h.arrs, h.slots, h.streams, h.engines, h.topk, h.ubuf, h.tags, h.outst, h.latches, h.fences, h.striped,
    h.idle⟩

theorem Same.put_txns_xch (s : State) (v0 : List Txn) (v1 : List XchSt) :
    Same 9007749010554880 s { s with txns := v0, xch := v1 } := by
  refine ⟨fun _ => rfl, fun _ => rfl, fun _ => rfl, fun _ => rfl, fun _ => rfl, fun _ => rfl, fun _ => rfl, fun _ =>
    rfl, fun _ => rfl, fun _ => rfl, fun _ => rfl, fun _ => rfl, fun _ => rfl, fun _ => rfl, fun _ => rfl, fun _ =>
    rfl, fun _ => rfl, fun _ => rfl, fun _ => rfl, fun _ => rfl, fun _ => rfl, fun _ => rfl, fun _ => rfl, fun _ =>
    rfl, fun _ => rfl, fun _ => rfl, fun _ => rfl, fun _ => rfl, fun _ => rfl, fun _ => rfl, fun _ => rfl, fun _ =>
    rfl, fun _ => rfl, fun _ => rfl, fun _ => rfl, fun _ => rfl, fun _ => rfl, fun _ => rfl, fun _ => rfl, fun h =>
    absurd h (by decide), fun _ => rfl, fun _ => rfl, fun _ => rfl, fun _ => rfl, fun _ => rfl, fun _ => rfl, fun _ =>
    rfl, fun _ => rfl, fun _ => rfl, fun _ => rfl, fun _ => rfl, fun _ => rfl, fun _ => rfl, fun h => absurd h (by
    decide), fun _ => rfl, fun h => ?_⟩
  exact h

theorem Same.put_hub_jrnl_ubuf (s : State) (v0 : HubSt) (v1 : JournalSt) (v2 : Tab Nat)
    (hv0 : s.hub.wf = true → v0.wf = true)
    (hv1 : s.jrnl.wf = true → v1.wf = true)
    (hv2 : Tab.wf 0 s.ubuf = true → Tab.wf 0 v2 = true) :
    Same 137438954016 s { s with hub := v0, jrnl := v1, ubuf := v2 } := by
  refine ⟨fun _ => rfl, fun _ => rfl, fun _ => rfl, fun _ => rfl, fun _ => rfl, fun h => absurd h (by decide), fun _ =>
    rfl, fun _ => rfl, fun _ => rfl, fun h => absurd h (by decide), fun _ => rfl, fun _ => rfl, fun _ => rfl, fun _ =>
    rfl, fun _ => rfl, fun _ => rfl, fun _ => rfl, fun _ => rfl, fun _ => rfl, fun _ => rfl, fun _ => rfl, fun _ =>
    rfl, fun _ => rfl, fun _ => rfl, fun _ => rfl, fun _ => rfl, fun _ => rfl, fun _ => rfl, fun _ => rfl, fun _ =>
    rfl, fun _ => rfl, fun _ => rfl, fun _ => rfl, fun _ => rfl, fun _ => rfl, fun _ => rfl, fun _ => rfl, fun h =>
    absurd h (by decide), fun _ => rfl, fun _ => rfl, fun _ => rfl, fun _ => rfl, fun _ => rfl, fun _ => rfl, fun _ =>
    rfl, fun _ => rfl, fun _ => rfl, fun _ => rfl, fun _ => rfl, fun _ => rfl, fun _ => rfl, fun _ => rfl, fun _ =>
    rfl, fun _ => rfl, fun _ => rfl, fun h => ?_⟩
  rw [stored_iff] at h ⊢
  exact ⟨h.mem, hv0 h.hub, h.sec, h.flash, hv1 h.jrnl, h.mg, h.elog, h.twin, h.pw, h.facets, h.straps, h.siteStatus,
    h.admitted, h.held, h.cds, h.fds, h.pds, h.oes, h.lsms, h.hosts, h.links, h.dirs, h.ctxs, h.owner, h.ecc, h.sems,
    h.arrs, h.slots, h.streams, h.engines, h.topk, hv2 h.ubuf, h.tags, h.outst, h.latches, h.fences, h.striped,
    h.idle⟩

theorem Same.put_hub_links_dirs (s : State) (v0 : HubSt) (v1 : Tab LinkSt) (v2 : Tab LinkDir)
    (hv0 : s.hub.wf = true → v0.wf = true)
    (hv1 : Tab.wf {} s.links = true → Tab.wf {} v1 = true)
    (hv2 : Tab.wf {} s.dirs = true → Tab.wf {} v2 = true) :
    Same 100663328 s { s with hub := v0, links := v1, dirs := v2 } := by
  refine ⟨fun _ => rfl, fun _ => rfl, fun _ => rfl, fun _ => rfl, fun _ => rfl, fun h => absurd h (by decide), fun _ =>
    rfl, fun _ => rfl, fun _ => rfl, fun _ => rfl, fun _ => rfl, fun _ => rfl, fun _ => rfl, fun _ => rfl, fun _ =>
    rfl, fun _ => rfl, fun _ => rfl, fun _ => rfl, fun _ => rfl, fun _ => rfl, fun _ => rfl, fun _ => rfl, fun _ =>
    rfl, fun _ => rfl, fun _ => rfl, fun h => absurd h (by decide), fun h => absurd h (by decide), fun _ => rfl, fun _
    => rfl, fun _ => rfl, fun _ => rfl, fun _ => rfl, fun _ => rfl, fun _ => rfl, fun _ => rfl, fun _ => rfl, fun _ =>
    rfl, fun _ => rfl, fun _ => rfl, fun _ => rfl, fun _ => rfl, fun _ => rfl, fun _ => rfl, fun _ => rfl, fun _ =>
    rfl, fun _ => rfl, fun _ => rfl, fun _ => rfl, fun _ => rfl, fun _ => rfl, fun _ => rfl, fun _ => rfl, fun _ =>
    rfl, fun _ => rfl, fun _ => rfl, fun h => ?_⟩
  rw [stored_iff] at h ⊢
  exact ⟨h.mem, hv0 h.hub, h.sec, h.flash, h.jrnl, h.mg, h.elog, h.twin, h.pw, h.facets, h.straps, h.siteStatus,
    h.admitted, h.held, h.cds, h.fds, h.pds, h.oes, h.lsms, h.hosts, hv1 h.links, hv2 h.dirs, h.ctxs, h.owner, h.ecc,
    h.sems, h.arrs, h.slots, h.streams, h.engines, h.topk, h.ubuf, h.tags, h.outst, h.latches, h.fences, h.striped,
    h.idle⟩

theorem Same.put_flash_standby_pw (s : State) (v0 : FlashSt) (v1 : StandbySt) (v2 : PowerSt)
    (hv0 : s.flash.wf = true → v0.wf = true)
    (hv2 : s.pw.wf = true → v2.wf = true) :
    Same 8576 s { s with flash := v0, standby := v1, pw := v2 } := by
  refine ⟨fun _ => rfl, fun _ => rfl, fun _ => rfl, fun _ => rfl, fun _ => rfl, fun _ => rfl, fun _ => rfl, fun h =>
    absurd h (by decide), fun h => absurd h (by decide), fun _ => rfl, fun _ => rfl, fun _ => rfl, fun _ => rfl, fun h
    => absurd h (by decide), fun _ => rfl, fun _ => rfl, fun _ => rfl, fun _ => rfl, fun _ => rfl, fun _ => rfl, fun _
    => rfl, fun _ => rfl, fun _ => rfl, fun _ => rfl, fun _ => rfl, fun _ => rfl, fun _ => rfl, fun _ => rfl, fun _ =>
    rfl, fun _ => rfl, fun _ => rfl, fun _ => rfl, fun _ => rfl, fun _ => rfl, fun _ => rfl, fun _ => rfl, fun _ =>
    rfl, fun _ => rfl, fun _ => rfl, fun _ => rfl, fun _ => rfl, fun _ => rfl, fun _ => rfl, fun _ => rfl, fun _ =>
    rfl, fun _ => rfl, fun _ => rfl, fun _ => rfl, fun _ => rfl, fun _ => rfl, fun _ => rfl, fun _ => rfl, fun _ =>
    rfl, fun _ => rfl, fun _ => rfl, fun h => ?_⟩
  rw [stored_iff] at h ⊢
  exact ⟨h.mem, h.hub, h.sec, hv0 h.flash, h.jrnl, h.mg, h.elog, h.twin, hv2 h.pw, h.facets, h.straps, h.siteStatus,
    h.admitted, h.held, h.cds, h.fds, h.pds, h.oes, h.lsms, h.hosts, h.links, h.dirs, h.ctxs, h.owner, h.ecc, h.sems,
    h.arrs, h.slots, h.streams, h.engines, h.topk, h.ubuf, h.tags, h.outst, h.latches, h.fences, h.striped, h.idle⟩

theorem Same.put_txns_terms_mtxns (s : State) (v0 : List Txn) (v1 : List TermSt) (v2 : List MTxn) :
    Same 106102872080384 s { s with txns := v0, terms := v1, mtxns := v2 } := by
  refine ⟨fun _ => rfl, fun _ => rfl, fun _ => rfl, fun _ => rfl, fun _ => rfl, fun _ => rfl, fun _ => rfl, fun _ =>
    rfl, fun _ => rfl, fun _ => rfl, fun _ => rfl, fun _ => rfl, fun _ => rfl, fun _ => rfl, fun _ => rfl, fun _ =>
    rfl, fun _ => rfl, fun _ => rfl, fun _ => rfl, fun _ => rfl, fun _ => rfl, fun _ => rfl, fun _ => rfl, fun _ =>
    rfl, fun _ => rfl, fun _ => rfl, fun _ => rfl, fun _ => rfl, fun _ => rfl, fun _ => rfl, fun _ => rfl, fun _ =>
    rfl, fun _ => rfl, fun _ => rfl, fun _ => rfl, fun _ => rfl, fun _ => rfl, fun _ => rfl, fun _ => rfl, fun h =>
    absurd h (by decide), fun _ => rfl, fun _ => rfl, fun _ => rfl, fun _ => rfl, fun _ => rfl, fun h => absurd h (by
    decide), fun h => absurd h (by decide), fun _ => rfl, fun _ => rfl, fun _ => rfl, fun _ => rfl, fun _ => rfl, fun
    _ => rfl, fun _ => rfl, fun _ => rfl, fun h => ?_⟩
  exact h

theorem Same.put_tags_striped_mtxns (s : State) (v0 : Tab Nat) (v1 : Tab Nat) (v2 : List MTxn)
    (hv0 : Tab.wf 0 s.tags = true → Tab.wf 0 v0 = true)
    (hv1 : Tab.wf 0 s.striped = true → Tab.wf 0 v1 = true) :
    Same 89060441849856 s { s with tags := v0, striped := v1, mtxns := v2 } := by
  refine ⟨fun _ => rfl, fun _ => rfl, fun _ => rfl, fun _ => rfl, fun _ => rfl, fun _ => rfl, fun _ => rfl, fun _ =>
    rfl, fun _ => rfl, fun _ => rfl, fun _ => rfl, fun _ => rfl, fun _ => rfl, fun _ => rfl, fun _ => rfl, fun _ =>
    rfl, fun _ => rfl, fun _ => rfl, fun _ => rfl, fun _ => rfl, fun _ => rfl, fun _ => rfl, fun _ => rfl, fun _ =>
    rfl, fun _ => rfl, fun _ => rfl, fun _ => rfl, fun _ => rfl, fun _ => rfl, fun _ => rfl, fun _ => rfl, fun _ =>
    rfl, fun _ => rfl, fun _ => rfl, fun _ => rfl, fun _ => rfl, fun _ => rfl, fun _ => rfl, fun _ => rfl, fun _ =>
    rfl, fun h => absurd h (by decide), fun _ => rfl, fun _ => rfl, fun _ => rfl, fun h => absurd h (by decide), fun _
    => rfl, fun h => absurd h (by decide), fun _ => rfl, fun _ => rfl, fun _ => rfl, fun _ => rfl, fun _ => rfl, fun _
    => rfl, fun _ => rfl, fun _ => rfl, fun h => ?_⟩
  rw [stored_iff] at h ⊢
  exact ⟨h.mem, h.hub, h.sec, h.flash, h.jrnl, h.mg, h.elog, h.twin, h.pw, h.facets, h.straps, h.siteStatus, h.admitted,
    h.held, h.cds, h.fds, h.pds, h.oes, h.lsms, h.hosts, h.links, h.dirs, h.ctxs, h.owner, h.ecc, h.sems, h.arrs,
    h.slots, h.streams, h.engines, h.topk, h.ubuf, hv0 h.tags, h.outst, h.latches, h.fences, hv1 h.striped, h.idle⟩

theorem Same.put_time_hub_sec_standby_straps (s : State) (v0 : Nat) (v1 : HubSt) (v2 : SecSt) (v3 : StandbySt) (v4 : Tab Nat)
    (hv1 : s.hub.wf = true → v1.wf = true)
    (hv2 : s.sec.wf = true → v2.wf = true)
    (hv4 : Tab.wf 0 s.straps = true → Tab.wf 0 v4 = true) :
    Same 33122 s { s with time := v0, hub := v1, sec := v2, standby := v3, straps := v4 } := by
  refine ⟨fun _ => rfl, fun h => absurd h (by decide), fun _ => rfl, fun _ => rfl, fun _ => rfl, fun h => absurd h (by
    decide), fun h => absurd h (by decide), fun _ => rfl, fun h => absurd h (by decide), fun _ => rfl, fun _ => rfl,
    fun _ => rfl, fun _ => rfl, fun _ => rfl, fun _ => rfl, fun h => absurd h (by decide), fun _ => rfl, fun _ => rfl,
    fun _ => rfl, fun _ => rfl, fun _ => rfl, fun _ => rfl, fun _ => rfl, fun _ => rfl, fun _ => rfl, fun _ => rfl,
    fun _ => rfl, fun _ => rfl, fun _ => rfl, fun _ => rfl, fun _ => rfl, fun _ => rfl, fun _ => rfl, fun _ => rfl,
    fun _ => rfl, fun _ => rfl, fun _ => rfl, fun _ => rfl, fun _ => rfl, fun _ => rfl, fun _ => rfl, fun _ => rfl,
    fun _ => rfl, fun _ => rfl, fun _ => rfl, fun _ => rfl, fun _ => rfl, fun _ => rfl, fun _ => rfl, fun _ => rfl,
    fun _ => rfl, fun _ => rfl, fun _ => rfl, fun _ => rfl, fun _ => rfl, fun h => ?_⟩
  rw [stored_iff] at h ⊢
  exact ⟨h.mem, hv1 h.hub, hv2 h.sec, h.flash, h.jrnl, h.mg, h.elog, h.twin, h.pw, h.facets, hv4 h.straps, h.siteStatus,
    h.admitted, h.held, h.cds, h.fds, h.pds, h.oes, h.lsms, h.hosts, h.links, h.dirs, h.ctxs, h.owner, h.ecc, h.sems,
    h.arrs, h.slots, h.streams, h.engines, h.topk, h.ubuf, h.tags, h.outst, h.latches, h.fences, h.striped, h.idle⟩

theorem Same.put_plans_insts_ctrlTable_tickIncs_barrierHold (s : State) (v0 : List Plan) (v1 : List Inst) (v2 : List (Nat × Mpk)) (v3 : List TickInc) (v4 : List TickInc) :
    Same 4362862139015168 s { s with plans := v0, insts := v1, ctrlTable := v2, tickIncs := v3, barrierHold := v4 } := by
  refine ⟨fun _ => rfl, fun _ => rfl, fun _ => rfl, fun _ => rfl, fun _ => rfl, fun _ => rfl, fun _ => rfl, fun _ =>
    rfl, fun _ => rfl, fun _ => rfl, fun _ => rfl, fun _ => rfl, fun _ => rfl, fun _ => rfl, fun _ => rfl, fun _ =>
    rfl, fun _ => rfl, fun _ => rfl, fun _ => rfl, fun _ => rfl, fun _ => rfl, fun _ => rfl, fun _ => rfl, fun _ =>
    rfl, fun _ => rfl, fun _ => rfl, fun _ => rfl, fun _ => rfl, fun _ => rfl, fun _ => rfl, fun _ => rfl, fun _ =>
    rfl, fun _ => rfl, fun _ => rfl, fun _ => rfl, fun _ => rfl, fun _ => rfl, fun _ => rfl, fun _ => rfl, fun _ =>
    rfl, fun _ => rfl, fun _ => rfl, fun _ => rfl, fun _ => rfl, fun _ => rfl, fun _ => rfl, fun _ => rfl, fun h =>
    absurd h (by decide), fun h => absurd h (by decide), fun h => absurd h (by decide), fun h => absurd h (by decide),
    fun h => absurd h (by decide), fun _ => rfl, fun _ => rfl, fun _ => rfl, fun h => ?_⟩
  exact h

theorem Same.put_sems_arrs_topk_outst_latches_fences (s : State) (v0 : Tab Nat) (v1 : Tab Nat) (v2 : Tab TopK) (v3 : Tab Nat) (v4 : Tab Latch) (v5 : Tab (List Fence))
    (hv0 : Tab.wf 0 s.sems = true → Tab.wf 0 v0 = true)
    (hv1 : Tab.wf 0 s.arrs = true → Tab.wf 0 v1 = true)
    (hv2 : Tab.wf {} s.topk = true → Tab.wf {} v2 = true)
    (hv3 : Tab.wf 0 s.outst = true → Tab.wf 0 v3 = true)
    (hv4 : Tab.wf {} s.latches = true → Tab.wf {} v4 = true)
    (hv5 : Tab.wf [] s.fences = true → Tab.wf [] v5 = true) :
    Same 15468324716544 s { s with sems := v0, arrs := v1, topk := v2, outst := v3, latches := v4, fences := v5 } := by
  refine ⟨fun _ => rfl, fun _ => rfl, fun _ => rfl, fun _ => rfl, fun _ => rfl, fun _ => rfl, fun _ => rfl, fun _ =>
    rfl, fun _ => rfl, fun _ => rfl, fun _ => rfl, fun _ => rfl, fun _ => rfl, fun _ => rfl, fun _ => rfl, fun _ =>
    rfl, fun _ => rfl, fun _ => rfl, fun _ => rfl, fun _ => rfl, fun _ => rfl, fun _ => rfl, fun _ => rfl, fun _ =>
    rfl, fun _ => rfl, fun _ => rfl, fun _ => rfl, fun _ => rfl, fun _ => rfl, fun _ => rfl, fun _ => rfl, fun h =>
    absurd h (by decide), fun h => absurd h (by decide), fun _ => rfl, fun _ => rfl, fun _ => rfl, fun h => absurd h
    (by decide), fun _ => rfl, fun _ => rfl, fun _ => rfl, fun _ => rfl, fun h => absurd h (by decide), fun h =>
    absurd h (by decide), fun h => absurd h (by decide), fun _ => rfl, fun _ => rfl, fun _ => rfl, fun _ => rfl, fun _
    => rfl, fun _ => rfl, fun _ => rfl, fun _ => rfl, fun _ => rfl, fun _ => rfl, fun _ => rfl, fun h => ?_⟩
  rw [stored_iff] at h ⊢
  exact ⟨h.mem, h.hub, h.sec, h.flash, h.jrnl, h.mg, h.elog, h.twin, h.pw, h.facets, h.straps, h.siteStatus, h.admitted,
    h.held, h.cds, h.fds, h.pds, h.oes, h.lsms, h.hosts, h.links, h.dirs, h.ctxs, h.owner, h.ecc, hv0 h.sems, hv1
    h.arrs, h.slots, h.streams, h.engines, hv2 h.topk, h.ubuf, h.tags, hv3 h.outst, hv4 h.latches, hv5 h.fences,
    h.striped, h.idle⟩

theorem Same.put_admitted_held_cds_fds_pds_sems_arrs_slots_streams_engines_topk_ubuf_txns_outst_latches_fences_striped_terms_mtxns_plans_insts_ctrlTable_tickIncs_barrierHold_idle (s : State) (v0 : Tab Nat) (v1 : Tab Nat) (v2 : Tab CdSt) (v3 : Tab FdSt) (v4 : Tab PdSt) (v5 : Tab Nat) (v6 : Tab Nat) (v7 : Tab SlotFlag) (v8 : Tab StreamSt) (v9 : Tab EngineSt) (v10 : Tab TopK) (v11 : Tab Nat) (v12 : List Txn) (v13 : Tab Nat) (v14 : Tab Latch) (v15 : Tab (List Fence)) (v16 : Tab Nat) (v17 : List TermSt) (v18 : List MTxn) (v19 : List Plan) (v20 : List Inst) (v21 : List (Nat × Mpk)) (v22 : List TickInc) (v23 : List TickInc) (v24 : Tab (List Byte))
    (hv0 : Tab.wf 0 s.admitted = true → Tab.wf 0 v0 = true)
    (hv1 : Tab.wf 0 s.held = true → Tab.wf 0 v1 = true)
    (hv2 : Tab.wf {} s.cds = true → Tab.wf {} v2 = true)
    (hv3 : Tab.wf {} s.fds = true → Tab.wf {} v3 = true)
    (hv4 : Tab.wf {} s.pds = true → Tab.wf {} v4 = true)
    (hv5 : Tab.wf 0 s.sems = true → Tab.wf 0 v5 = true)
    (hv6 : Tab.wf 0 s.arrs = true → Tab.wf 0 v6 = true)
    (hv7 : Tab.wf {} s.slots = true → Tab.wf {} v7 = true)
    (hv8 : Tab.wf {} s.streams = true → Tab.wf {} v8 = true)
    (hv9 : Tab.wf {} s.engines = true → Tab.wf {} v9 = true)
    (hv10 : Tab.wf {} s.topk = true → Tab.wf {} v10 = true)
    (hv11 : Tab.wf 0 s.ubuf = true → Tab.wf 0 v11 = true)
    (hv13 : Tab.wf 0 s.outst = true → Tab.wf 0 v13 = true)
    (hv14 : Tab.wf {} s.latches = true → Tab.wf {} v14 = true)
    (hv15 : Tab.wf [] s.fences = true → Tab.wf [] v15 = true)
    (hv16 : Tab.wf 0 s.striped = true → Tab.wf 0 v16 = true)
    (hv24 : Tab.wf [] s.idle = true → Tab.wf [] v24 = true) :
    Same 9005822721785856 s { s with admitted := v0, held := v1, cds := v2, fds := v3, pds := v4, sems := v5, arrs := v6, slots := v7, streams := v8, engines := v9, topk := v10, ubuf := v11, txns := v12, outst := v13, latches := v14, fences := v15, striped := v16, terms := v17, mtxns := v18, plans := v19, insts := v20, ctrlTable := v21, tickIncs := v22, barrierHold := v23, idle := v24 } := by
  refine ⟨fun _ => rfl, fun _ => rfl, fun _ => rfl, fun _ => rfl, fun _ => rfl, fun _ => rfl, fun _ => rfl, fun _ =>
    rfl, fun _ => rfl, fun _ => rfl, fun _ => rfl, fun _ => rfl, fun _ => rfl, fun _ => rfl, fun _ => rfl, fun _ =>
    rfl, fun _ => rfl, fun h => absurd h (by decide), fun h => absurd h (by decide), fun h => absurd h (by decide),
    fun h => absurd h (by decide), fun h => absurd h (by decide), fun _ => rfl, fun _ => rfl, fun _ => rfl, fun _ =>
    rfl, fun _ => rfl, fun _ => rfl, fun _ => rfl, fun _ => rfl, fun _ => rfl, fun h => absurd h (by decide), fun h =>
    absurd h (by decide), fun h => absurd h (by decide), fun h => absurd h (by decide), fun h => absurd h (by decide),
    fun h => absurd h (by decide), fun h => absurd h (by decide), fun _ => rfl, fun h => absurd h (by decide), fun _
    => rfl, fun h => absurd h (by decide), fun h => absurd h (by decide), fun h => absurd h (by decide), fun h =>
    absurd h (by decide), fun h => absurd h (by decide), fun h => absurd h (by decide), fun h => absurd h (by decide),
    fun h => absurd h (by decide), fun h => absurd h (by decide), fun h => absurd h (by decide), fun h => absurd h (by
    decide), fun h => absurd h (by decide), fun _ => rfl, fun _ => rfl, fun h => ?_⟩
  rw [stored_iff] at h ⊢
  exact ⟨h.mem, h.hub, h.sec, h.flash, h.jrnl, h.mg, h.elog, h.twin, h.pw, h.facets, h.straps, h.siteStatus, hv0
    h.admitted, hv1 h.held, hv2 h.cds, hv3 h.fds, hv4 h.pds, h.oes, h.lsms, h.hosts, h.links, h.dirs, h.ctxs, h.owner,
    h.ecc, hv5 h.sems, hv6 h.arrs, hv7 h.slots, hv8 h.streams, hv9 h.engines, hv10 h.topk, hv11 h.ubuf, h.tags, hv13
    h.outst, hv14 h.latches, hv15 h.fences, hv16 h.striped, hv24 h.idle⟩

end Sys2Proof.Machine
end

