-- ==== Sys2Proof/Laws/FrameObjects.lean ====
section
/-! SUPPORT. Laws/FrameObjects.lean: which fields of the state each operation of Machine/Objects.lean may change. -/
namespace Sys2Proof.Machine
open Sys2Proof

theorem numSet_same : ∀ a0 a1 a2 s0, Same 1024 s0 (numSet a0 a1 a2 s0) := by
  intro a0 a1 a2 s0
  unfold numSet
  refine Same.thru (Same.put_mg _ _ (MgmtSt.wf_mk (fun h => rising_tset h) id id id)) rfl ?_
  first | assumption | exact Same.refl _ _

theorem blobSet_same : ∀ a0 a1 a2 s0, Same 1024 s0 (blobSet a0 a1 a2 s0) := by
  intro a0 a1 a2 s0
  unfold blobSet
  refine Same.thru (Same.put_mg _ _ (MgmtSt.wf_mk id (fun h => rising_tset h) id id)) rfl ?_
  first | assumption | exact Same.refl _ _

theorem bump_same : ∀ a0 a1 a2 s0, Same 1024 s0 (bump a0 a1 a2 s0) := by
  intro a0 a1 a2 s0
  unfold bump
  split
  · refine Same.thru (numSet_same ..) rfl ?_
    first | assumption | exact Same.refl _ _
  · first | assumption | exact Same.refl _ _

theorem bumpBlob_same : ∀ a0 a1 a2 a3 a4 s0, Same 1024 s0 (bumpBlob a0 a1 a2 a3 a4 s0) := by
  intro a0 a1 a2 a3 a4 s0
  unfold bumpBlob
  extract_lets -merge -underBinder -useContext +onlyGivenNames x1 x2 x3 x4
  refine Same.thru (blobSet_same ..) rfl ?_
  first | assumption | exact Same.refl _ _

end Sys2Proof.Machine
end

