-- ==== Sys2Proof/Laws/FrameOps.lean ====
section
/-! SUPPORT. Laws/FrameOps.lean: which fields of the state each operation of Machine/Ops.lean may change. -/
namespace Sys2Proof.Machine
open Sys2Proof

theorem idleTick_same : ∀ s0, Same 2 s0 (idleTick s0) := by
  intro s0
  unfold idleTick
  refine Same.ite ?_ ?_
  · refine Same.thru (Same.put_time _ _) rfl ?_
    first | assumption | exact Same.refl _ _
  · first | assumption | exact Same.refl _ _

theorem advanceTo_same : ∀ a0 s0, Same 2 s0 (advanceTo a0 s0) := by
  intro a0 s0
  unfold advanceTo
  refine Same.ite ?_ ?_
  · refine Same.thru (Same.put_time _ _) rfl ?_
    first | assumption | exact Same.refl _ _
  · first | assumption | exact Same.refl _ _

theorem drawFree_same : ∀ s0, Same 4 s0 (drawFree s0).2 := by
  intro s0
  unfold drawFree
  dsimp -zeta only
  refine Same.thru (Same.put_free _ _) rfl ?_
  first | assumption | exact Same.refl _ _

theorem drawRandom_same : ∀ s0, Same 8 s0 (drawRandom s0).2 := by
  intro s0
  unfold drawRandom
  dsimp -zeta only
  refine Same.thru (Same.put_rnd _ _) rfl ?_
  first | assumption | exact Same.refl _ _

theorem setFacet_same : ∀ s0 a1 a2, Same 16384 s0 (setFacet s0 a1 a2) := by
  intro s0 a1 a2
  unfold setFacet
  refine Same.thru (Same.put_facets _ _ (fun h => wf_tset h)) rfl ?_
  first | assumption | exact Same.refl _ _

theorem updFacet_same : ∀ a0 a1 s0, Same 16384 s0 (updFacet a0 a1 s0) := by
  intro a0 a1 s0
  unfold updFacet
  refine Same.thru (setFacet_same ..) rfl ?_
  first | assumption | exact Same.refl _ _

theorem setCd_same : ∀ s0 a1 a2, Same 524288 s0 (setCd s0 a1 a2) := by
  intro s0 a1 a2
  unfold setCd
  refine Same.thru (Same.put_cds _ _ (fun h => wf_tset h)) rfl ?_
  first | assumption | exact Same.refl _ _

theorem updCd_same : ∀ a0 a1 s0, Same 524288 s0 (updCd a0 a1 s0) := by
  intro a0 a1 s0
  unfold updCd
  refine Same.thru (setCd_same ..) rfl ?_
  first | assumption | exact Same.refl _ _

theorem updFd_same : ∀ a0 a1 s0, Same 1048576 s0 (updFd a0 a1 s0) := by
  intro a0 a1 s0
  unfold updFd
  refine Same.thru (Same.put_fds _ _ (fun h => wf_tset h)) rfl ?_
  first | assumption | exact Same.refl _ _

theorem updPd_same : ∀ a0 a1 s0, Same 2097152 s0 (updPd a0 a1 s0) := by
  intro a0 a1 s0
  unfold updPd
  refine Same.thru (Same.put_pds _ _ (fun h => wf_tset h)) rfl ?_
  first | assumption | exact Same.refl _ _

theorem updOe_same : ∀ a0 a1 s0, Same 4194304 s0 (updOe a0 a1 s0) := by
  intro a0 a1 s0
  unfold updOe
  refine Same.thru (Same.put_oes _ _ (fun h => wf_tset h)) rfl ?_
  first | assumption | exact Same.refl _ _

theorem updLsm_same : ∀ a0 a1 s0, Same 8388608 s0 (updLsm a0 a1 s0) := by
  intro a0 a1 s0
  unfold updLsm
  refine Same.thru (Same.put_lsms _ _ (fun h => wf_tset h)) rfl ?_
  first | assumption | exact Same.refl _ _

theorem updHost_same : ∀ a0 a1 s0, Same 16777216 s0 (updHost a0 a1 s0) := by
  intro a0 a1 s0
  unfold updHost
  refine Same.thru (Same.put_hosts _ _ (fun h => wf_tset h)) rfl ?_
  first | assumption | exact Same.refl _ _

theorem updLink_same : ∀ a0 a1 s0, Same 33554432 s0 (updLink a0 a1 s0) := by
  intro a0 a1 s0
  unfold updLink
  refine Same.thru (Same.put_links _ _ (fun h => wf_tset h)) rfl ?_
  first | assumption | exact Same.refl _ _

theorem updDir_same : ∀ a0 a1 s0, Same 67108864 s0 (updDir a0 a1 s0) := by
  intro a0 a1 s0
  unfold updDir
  refine Same.thru (Same.put_dirs _ _ (fun h => wf_tset h)) rfl ?_
  first | assumption | exact Same.refl _ _

theorem updCtx_same : ∀ a0 a1 s0, Same 134217728 s0 (updCtx a0 a1 s0) := by
  intro a0 a1 s0
  unfold updCtx
  refine Same.thru (Same.put_ctxs _ _ (fun h => wf_tset h)) rfl ?_
  first | assumption | exact Same.refl _ _

theorem emit_same : ∀ a0 s0, Same 18014398509481984 s0 (emit a0 s0) := by
  intro a0 s0
  unfold emit
  refine Same.thru (Same.put_out _ _) rfl ?_
  first | assumption | exact Same.refl _ _

theorem memSet_same : ∀ a0 a1 s0, Same 536870912 s0 (memSet a0 a1 s0) := by
  intro a0 a1 s0
  unfold memSet
  refine Same.thru (Same.put_mem _ _ (fun h => wf_tset h)) rfl ?_
  first | assumption | exact Same.refl _ _

theorem writeBytes_same : ∀ a0 a1 s0, Same 1610612736 s0 (writeBytes a0 a1 s0) := by
  intro a0 a1 s0
  unfold writeBytes
  refine Same.thru (Same.put_mem_ecc _ _ _ (fun h => wf_putBytes h) (fun h => wf_tclear h)) rfl ?_
  first | assumption | exact Same.refl _ _

theorem zeroBytes_same : ∀ a0 a1 s0, Same 1610612736 s0 (zeroBytes a0 a1 s0) := by
  intro a0 a1 s0
  unfold zeroBytes
  refine Same.thru (Same.put_mem_ecc _ _ _ (fun h => wf_tclear h) (fun h => wf_tclear h)) rfl ?_
  first | assumption | exact Same.refl _ _

theorem setOwner_same : ∀ a0 a1 a2 a3 s0, Same 268435456 s0 (setOwner a0 a1 a2 a3 s0) := by
  intro a0 a1 a2 a3 s0
  unfold setOwner
  refine Same.thru (Same.put_owner _ _ (fun h => wf_tset h)) rfl ?_
  first | assumption | exact Same.refl _ _

theorem raiseOn_same : ∀ a0 a1 s0, Same 18014398526259200 s0 (raiseOn a0 a1 s0) := by
  intro a0 a1 s0
  unfold raiseOn
  extract_lets -merge -underBinder -useContext +onlyGivenNames x1
  refine Same.ite ?_ ?_
  · first | assumption | exact Same.refl _ _
  · split
    · refine Same.ite ?_ ?_
      · refine Same.thru (updHost_same ..) rfl ?_
        first | assumption | exact Same.refl _ _
      · refine Same.thru (emit_same ..) rfl ?_
        refine Same.thru (updHost_same ..) rfl ?_
        first | assumption | exact Same.refl _ _
    · refine Same.thru (emit_same ..) rfl ?_
      refine Same.thru (updHost_same ..) rfl ?_
      first | assumption | exact Same.refl _ _

theorem msix_same : ∀ a0 s0, Same 18014398526259232 s0 (msix a0 s0) := by
  intro a0 s0
  unfold msix
  extract_lets -merge -underBinder -useContext +onlyGivenNames x1
  have h2 : Same 18014398526259232 s0 x1 := by
    unfold x1
    refine Same.thru (raiseOn_same ..) rfl ?_
    refine Same.thru (raiseOn_same ..) rfl ?_
    first | assumption | exact Same.refl _ _
  clear_value x1
  refine Same.ite ?_ ?_
  · refine Same.thru (emit_same ..) rfl ?_
    refine Same.thru (Same.put_hub _ _ (HubSt.wf_mk id id id)) rfl ?_
    first | assumption | exact Same.refl _ _
  · first | assumption | exact Same.refl _ _

theorem report_same : ∀ a0 a1 a2 a3 a4 a5 s0, Same 4096 s0 (report a0 a1 a2 a3 a4 a5 s0) := by
  intro a0 a1 a2 a3 a4 a5 s0
  unfold report
  extract_lets -merge -underBinder -useContext +onlyGivenNames x1
  refine Same.ite ?_ ?_
  · extract_lets -merge -underBinder -useContext +onlyGivenNames x2
    refine Same.thru (Same.put_elog _ _ (LogSt.wf_mk (fun h => wf_tset h) id id id id id id id)) rfl ?_
    first | assumption | exact Same.refl _ _
  · refine Same.thru (Same.put_elog _ _ (LogSt.wf_mk id (fun h => wf_tset h) (fun h => wf_tset h) id id id id id)) rfl ?_
    first | assumption | exact Same.refl _ _

theorem ckptToFlash_same : ∀ a0 s0, Same 128 s0 (ckptToFlash a0 s0) := by
  intro a0 s0
  unfold ckptToFlash
  refine Same.thru (Same.put_flash _ _ (FlashSt.wf_mk (fun h => wf_tset h) id)) rfl ?_
  first | assumption | exact Same.refl _ _

theorem ckptWait_same : ∀ a0 s0, Same 256 s0 (ckptWait a0 s0) := by
  intro a0 s0
  unfold ckptWait
  refine Same.ite ?_ ?_
  · refine Same.thru (Same.put_standby _ _) rfl ?_
    first | assumption | exact Same.refl _ _
  · refine Same.thru (Same.put_standby _ _) rfl ?_
    first | assumption | exact Same.refl _ _

theorem sendMgmt_same : ∀ a0 a1 a2 s0, Same 18014398509483008 s0 (sendMgmt a0 a1 a2 s0) := by
  intro a0 a1 a2 s0
  unfold sendMgmt
  extract_lets -merge -underBinder -useContext +onlyGivenNames x1
  refine Same.thru (emit_same ..) rfl ?_
  refine Same.thru (Same.put_mg _ _ (MgmtSt.wf_mk id id id (fun h => wf_tset h))) rfl ?_
  first | assumption | exact Same.refl _ _

theorem toTwin_same : ∀ a0 a1 s0, Same 18014398509485056 s0 (toTwin a0 a1 s0) := by
  intro a0 a1 s0
  unfold toTwin
  refine Same.thru (sendMgmt_same ..) rfl ?_
  refine Same.thru (Same.put_twin _ _ (TwinSt.wf_mk id id)) rfl ?_
  first | assumption | exact Same.refl _ _

theorem checkpoint_same : ∀ s0, Same 18014398526263200 s0 (checkpoint s0) := by
  intro s0
  unfold checkpoint
  extract_lets -merge -underBinder -useContext +onlyGivenNames x1 x2 x3 x4 x5
  have h6 : Same 18014398526263200 s0 x4 := by
    unfold x4
    refine Same.thru (Same.put_jrnl _ _ (JournalSt.wf_mk id)) rfl ?_
    first | assumption | exact Same.refl _ _
  clear_value x4
  have h7 : Same 18014398526263200 s0 x5 := by
    unfold x5
    refine Same.ite ?_ ?_
    · refine Same.thru (ckptToFlash_same ..) rfl ?_
      first | assumption | exact Same.refl _ _
    · refine Same.thru (ckptWait_same ..) rfl ?_
      first | assumption | exact Same.refl _ _
  clear_value x5
  extract_lets -merge -underBinder -useContext +onlyGivenNames x8
  have h9 : Same 18014398526263200 s0 x8 := by
    unfold x8
    refine Same.ite ?_ ?_
    · refine Same.thru (toTwin_same ..) rfl ?_
      first | assumption | exact Same.refl _ _
    · first | assumption | exact Same.refl _ _
  clear_value x8
  refine Same.thru (msix_same ..) rfl ?_
  first | assumption | exact Same.refl _ _

theorem journal_same : ∀ a0 a1 a2 a3 a4 s0, Same 18014398526263200 s0 (journal a0 a1 a2 a3 a4 s0) := by
  intro a0 a1 a2 a3 a4 s0
  unfold journal
  refine Same.ite ?_ ?_
  · first | assumption | exact Same.refl _ _
  · extract_lets -merge -underBinder -useContext +onlyGivenNames x1 x2 x3 x4 x5
    extract_lets -merge -underBinder -useContext +onlyGivenNames x6 x7
    have h8 : Same 18014398526263200 s0 x6 := by
      unfold x6
      refine Same.thru (Same.put_standby_jrnl _ _ _ (JournalSt.wf_mk (fun h => wf_tset h))) rfl ?_
      first | assumption | exact Same.refl _ _
    clear_value x6
    have h9 : Same 18014398526263200 s0 x7 := by
      unfold x7
      refine Same.ite ?_ ?_
      · refine Same.thru (toTwin_same ..) rfl ?_
        first | assumption | exact Same.refl _ _
      · first | assumption | exact Same.refl _ _
    clear_value x7
    refine Same.ite ?_ ?_
    · refine Same.thru (checkpoint_same ..) rfl ?_
      first | assumption | exact Same.refl _ _
    · first | assumption | exact Same.refl _ _

theorem flushToFlash_same : ∀ a0 s0, Same 128 s0 (flushToFlash a0 s0) := by
  intro a0 s0
  unfold flushToFlash
  refine Same.ite ?_ ?_
  · refine Same.thru (Same.put_flash _ _ (FlashSt.wf_mk id id)) rfl ?_
    first | assumption | exact Same.refl _ _
  · refine Same.thru (Same.put_flash _ _ (FlashSt.wf_mk id id)) rfl ?_
    first | assumption | exact Same.refl _ _

theorem flush_same : ∀ a0 s0, Same 18014398526263200 s0 (flush a0 s0) := by
  intro a0 s0
  unfold flush
  refine Same.ite ?_ ?_
  · first | assumption | exact Same.refl _ _
  · extract_lets -merge -underBinder -useContext +onlyGivenNames x1 x2 x3 x4
    have h5 : Same 18014398526263200 s0 x1 := by
      unfold x1
      refine Same.thru (journal_same ..) rfl ?_
      first | assumption | exact Same.refl _ _
    clear_value x1
    extract_lets -merge -underBinder -useContext +onlyGivenNames x6
    have h7 : Same 18014398526263200 s0 x6 := by
      unfold x6
      refine Same.thru (msix_same ..) rfl ?_
      refine Same.thru (Same.put_jrnl _ _ (JournalSt.wf_mk id)) rfl ?_
      first | assumption | exact Same.refl _ _
    clear_value x6
    refine Same.ite ?_ ?_
    · refine Same.thru (flushToFlash_same ..) rfl ?_
      first | assumption | exact Same.refl _ _
    · refine Same.thru (Same.put_standby _ _) rfl ?_
      first | assumption | exact Same.refl _ _

theorem facetTo_same : ∀ a0 a1 s0, Same 18014398526279584 s0 (facetTo a0 a1 s0) := by
  intro a0 a1 s0
  unfold facetTo
  extract_lets -merge -underBinder -useContext +onlyGivenNames x1
  refine Same.ite ?_ ?_
  · first | assumption | exact Same.refl _ _
  · extract_lets -merge -underBinder -useContext +onlyGivenNames x2 x3
    have h4 : Same 18014398526279584 s0 x2 := by
      unfold x2
      refine Same.thru (journal_same ..) rfl ?_
      first | assumption | exact Same.refl _ _
    clear_value x2
    have h5 : Same 18014398526279584 s0 x3 := by
      unfold x3
      refine Same.thru (msix_same ..) rfl ?_
      refine Same.thru (updFacet_same ..) rfl ?_
      first | assumption | exact Same.refl _ _
    clear_value x3
    refine Same.thru (Same.put_hub _ _ (HubSt.wf_mk id id id)) rfl ?_
    first | assumption | exact Same.refl _ _

theorem ctxTo_same : ∀ a0 a1 s0, Same 18014398660480928 s0 (ctxTo a0 a1 s0) := by
  intro a0 a1 s0
  unfold ctxTo
  extract_lets -merge -underBinder -useContext +onlyGivenNames x1
  refine Same.thru (journal_same ..) rfl ?_
  refine Same.thru (updCtx_same ..) rfl ?_
  first | assumption | exact Same.refl _ _

theorem discardGen_same : ∀ a0 s0, Same 134218752 s0 (discardGen a0 s0) := by
  intro a0 s0
  unfold discardGen
  extract_lets -merge -underBinder -useContext +onlyGivenNames x1
  have h2 : Same 134218752 s0 x1 := by
    unfold x1
    refine Same.thru (bumpBlob_same ..) rfl ?_
    first | assumption | exact Same.refl _ _
  clear_value x1
  refine Same.ite ?_ ?_
  · first | assumption | exact Same.refl _ _
  · refine Same.thru (updCtx_same ..) rfl ?_
    first | assumption | exact Same.refl _ _

theorem chargeFault_same : ∀ a0 s0, Same 18014398660485024 s0 (chargeFault a0 s0) := by
  intro a0 s0
  unfold chargeFault
  extract_lets -merge -underBinder -useContext +onlyGivenNames x1
  refine Same.ite ?_ ?_
  · first | assumption | exact Same.refl _ _
  · refine Same.ite ?_ ?_
    · refine Same.thru (report_same ..) rfl ?_
      first | assumption | exact Same.refl _ _
    · refine Same.ite ?_ ?_
      · first | assumption | exact Same.refl _ _
      · extract_lets -merge -underBinder -useContext +onlyGivenNames x2 x3 x4
        have h5 : Same 18014398660485024 s0 x3 := by
          unfold x3
          refine Same.thru (updCtx_same ..) rfl ?_
          first | assumption | exact Same.refl _ _
        clear_value x3
        have h6 : Same 18014398660485024 s0 x4 := by
          unfold x4
          refine Same.thru (msix_same ..) rfl ?_
          refine Same.thru (report_same ..) rfl ?_
          first | assumption | exact Same.refl _ _
        clear_value x4
        refine Same.ite ?_ ?_
        · refine Same.thru (ctxTo_same ..) rfl ?_
          first | assumption | exact Same.refl _ _
        · first | assumption | exact Same.refl _ _

end Sys2Proof.Machine
end

