-- ==== Sys2Proof/Laws/FrameClock.lean ====
section
/-! SUPPORT. Laws/FrameClock.lean: which fields of the state each operation of Machine/Clock.lean may change. -/
namespace Sys2Proof.Machine
open Sys2Proof

theorem applyEv_same : ∀ a0 a1 s0, Same 6442455044 s0 (applyEv a0 a1 s0) := by
  intro a0 a1 s0
  unfold applyEv
  extract_lets -merge -underBinder -useContext +onlyGivenNames x1 x2 x3 x4
  refine Same.ite ?_ ?_
  · unfold x4
    refine Same.ite ?_ ?_
    · refine Same.thru (Same.put_arrs _ _ (fun h => wf_tset h)) rfl ?_
      first | assumption | exact Same.refl _ _
    · refine Same.thru (Same.put_sems _ _ (fun h => wf_tset h)) rfl ?_
      first | assumption | exact Same.refl _ _
  · refine Same.ite ?_ ?_
    · refine Same.ite ?_ ?_
      · unfold x4
        refine Same.ite ?_ ?_
        · refine Same.thru (Same.put_arrs _ _ (fun h => wf_tset h)) rfl ?_
          first | assumption | exact Same.refl _ _
        · refine Same.thru (Same.put_sems _ _ (fun h => wf_tset h)) rfl ?_
          first | assumption | exact Same.refl _ _
      · extract_lets -merge -underBinder -useContext +onlyGivenNames x5
        refine Same.thru (report_same ..) rfl ?_
        unfold x4
        refine Same.ite ?_ ?_
        · refine Same.thru (Same.put_arrs _ _ (fun h => wf_tset h)) rfl ?_
          first | assumption | exact Same.refl _ _
        · refine Same.thru (Same.put_sems _ _ (fun h => wf_tset h)) rfl ?_
          first | assumption | exact Same.refl _ _
    · refine Same.ite ?_ ?_
      · unfold x4
        refine Same.ite ?_ ?_
        · refine Same.thru (Same.put_arrs _ _ (fun h => wf_tset h)) rfl ?_
          first | assumption | exact Same.refl _ _
        · refine Same.thru (Same.put_sems _ _ (fun h => wf_tset h)) rfl ?_
          first | assumption | exact Same.refl _ _
      · split
        rename_i v6 v7 v8 hq9
        unfold x4
        refine Same.ite ?_ ?_
        · refine Same.thru (Same.put_arrs _ _ (fun h => wf_tset h)) rfl ?_
          have h10 : Same 6442455044 s0 v8 := Same.of_eq Prod.snd hq9 (by
            refine Same.thru (drawFree_same ..) rfl ?_
            first | assumption | exact Same.refl _ _
            )
          first | assumption | exact Same.refl _ _
        · refine Same.thru (Same.put_sems _ _ (fun h => wf_tset h)) rfl ?_
          have h11 : Same 6442455044 s0 v8 := Same.of_eq Prod.snd hq9 (by
            refine Same.thru (drawFree_same ..) rfl ?_
            first | assumption | exact Same.refl _ _
            )
          first | assumption | exact Same.refl _ _

theorem commitDie_same : ∀ a0 s0, Same 6442979332 s0 (commitDie a0 s0) := by
  intro a0 s0
  unfold commitDie
  extract_lets -merge -underBinder -useContext +onlyGivenNames x1
  refine Same.ite ?_ ?_
  · first | assumption | exact Same.refl _ _
  · refine Same.foldl (fun r2 e3 h4 => ?_) ?_
    · refine Same.thru (applyEv_same ..) rfl ?_
      first | assumption | exact Same.refl _ _
    · refine Same.thru (updCd_same ..) rfl ?_
      first | assumption | exact Same.refl _ _

theorem commitFacet_same : ∀ a0 s0, Same 6442979332 s0 (commitFacet a0 s0) := by
  intro a0 s0
  unfold commitFacet
  refine Same.foldl (fun r1 e2 h3 => ?_) ?_
  · refine Same.thru (commitDie_same ..) rfl ?_
    first | assumption | exact Same.refl _ _
  · first | assumption | exact Same.refl _ _

theorem semEvent_same : ∀ a0 a1 s0, Same 6442979332 s0 (semEvent a0 a1 s0) := by
  intro a0 a1 s0
  unfold semEvent
  extract_lets -merge -underBinder -useContext +onlyGivenNames x1
  have h2 : Same 6442979332 s0 x1 := by
    unfold x1
    refine Same.thru (updCd_same ..) rfl ?_
    first | assumption | exact Same.refl _ _
  clear_value x1
  refine Same.ite ?_ ?_
  · first | assumption | exact Same.refl _ _
  · refine Same.thru (commitDie_same ..) rfl ?_
    first | assumption | exact Same.refl _ _

theorem toCycle_same : ∀ a0 a1 s0, Same 6442995718 s0 (toCycle a0 a1 s0) := by
  intro a0 a1 s0
  unfold toCycle
  extract_lets -merge -underBinder -useContext +onlyGivenNames x1 x2
  refine Same.ite ?_ ?_
  · first | assumption | exact Same.refl _ _
  · extract_lets -merge -underBinder -useContext +onlyGivenNames x3 x4 x5
    have h6 : Same 6442995718 s0 x3 := by
      unfold x3
      refine Same.thru (commitFacet_same ..) rfl ?_
      first | assumption | exact Same.refl _ _
    clear_value x3
    have h7 : Same 6442995718 s0 x4 := by
      unfold x4
      refine Same.thru (updFacet_same ..) rfl ?_
      first | assumption | exact Same.refl _ _
    clear_value x4
    refine Same.thru (Same.put_time _ _) rfl ?_
    first | assumption | exact Same.refl _ _

theorem syncFacet_same : ∀ a0 s0, Same 6442995718 s0 (syncFacet a0 s0) := by
  intro a0 s0
  unfold syncFacet
  extract_lets -merge -underBinder -useContext +onlyGivenNames x1 x2
  refine Same.thru (toCycle_same ..) rfl ?_
  first | assumption | exact Same.refl _ _

theorem raiseLevel_same : ∀ a0 s0, Same 6442995718 s0 (raiseLevel a0 s0) := by
  intro a0 s0
  unfold raiseLevel
  extract_lets -merge -underBinder -useContext +onlyGivenNames x1 x2
  have h3 : Same 6442995718 s0 x1 := by
    unfold x1
    refine Same.ite ?_ ?_
    · refine Same.thru (syncFacet_same ..) rfl ?_
      first | assumption | exact Same.refl _ _
    · first | assumption | exact Same.refl _ _
  clear_value x1
  refine Same.ite ?_ ?_
  · refine Same.thru (updFacet_same ..) rfl ?_
    first | assumption | exact Same.refl _ _
  · first | assumption | exact Same.refl _ _

theorem stopHold_same : ∀ a0 a1 s0, Same 16384 s0 (stopHold a0 a1 s0) := by
  intro a0 a1 s0
  unfold stopHold
  extract_lets -merge -underBinder -useContext +onlyGivenNames x1
  refine Same.thru (updFacet_same ..) rfl ?_
  first | assumption | exact Same.refl _ _

theorem stopHolds_same : ∀ a0 s0, Same 16384 s0 (stopHolds a0 s0) := by
  intro a0 s0
  unfold stopHolds
  extract_lets -merge -underBinder -useContext +onlyGivenNames x1
  refine Same.foldl (fun r2 e3 h4 => ?_) ?_
  · refine Same.thru (stopHold_same ..) rfl ?_
    first | assumption | exact Same.refl _ _
  · first | assumption | exact Same.refl _ _

theorem readyOrActive_same : ∀ a0 s0, Same 18014398526279584 s0 (readyOrActive a0 s0) := by
  intro a0 s0
  unfold readyOrActive
  refine Same.ite ?_ ?_
  · refine Same.thru (facetTo_same ..) rfl ?_
    first | assumption | exact Same.refl _ _
  · first | assumption | exact Same.refl _ _

theorem unbound_same : ∀ a0 s0, Same 18014398526279584 s0 (unbound a0 s0) := by
  intro a0 s0
  unfold unbound
  refine Same.foldl (fun r1 e2 h3 => ?_) ?_
  · refine Same.ite ?_ ?_
    · refine Same.thru (readyOrActive_same ..) rfl ?_
      first | assumption | exact Same.refl _ _
    · first | assumption | exact Same.refl _ _
  · first | assumption | exact Same.refl _ _

end Sys2Proof.Machine
end

