-- ==== Sys2Proof/Laws/FrameFlags.lean ====
section
/-! SUPPORT. Laws/FrameFlags.lean: which fields of the state each operation of Machine/Flags.lean may change. -/
namespace Sys2Proof.Machine
open Sys2Proof

theorem slotSet_same : ∀ a0 a1 a2 s0, Same 8589934592 s0 (slotSet a0 a1 a2 s0) := by
  intro a0 a1 a2 s0
  unfold slotSet
  refine Same.thru (Same.put_slots _ _ (fun h => wf_tset h)) rfl ?_
  first | assumption | exact Same.refl _ _

theorem slotClear_same : ∀ a0 a1 a2 s0, Same 8589934592 s0 (slotClear a0 a1 a2 s0) := by
  intro a0 a1 a2 s0
  unfold slotClear
  extract_lets -merge -underBinder -useContext +onlyGivenNames x1
  refine Same.ite ?_ ?_
  · first | assumption | exact Same.refl _ _
  · refine Same.thru (Same.put_slots _ _ (fun h => wf_tset h)) rfl ?_
    first | assumption | exact Same.refl _ _

theorem slotsReset_same : ∀ a0 a1 a2 s0, Same 8589934592 s0 (slotsReset a0 a1 a2 s0) := by
  intro a0 a1 a2 s0
  unfold slotsReset
  refine Same.thru (Same.put_slots _ _ (fun h => wf_tclear h)) rfl ?_
  first | assumption | exact Same.refl _ _

theorem slotsSet_same : ∀ a0 a1 a2 s0, Same 8589934592 s0 (slotsSet a0 a1 a2 s0) := by
  intro a0 a1 a2 s0
  unfold slotsSet
  refine Same.foldl (fun r1 e2 h3 => ?_) ?_
  · refine Same.thru (slotSet_same ..) rfl ?_
    first | assumption | exact Same.refl _ _
  · first | assumption | exact Same.refl _ _

theorem slotsClear_same : ∀ a0 a1 a2 s0, Same 8589934592 s0 (slotsClear a0 a1 a2 s0) := by
  intro a0 a1 a2 s0
  unfold slotsClear
  refine Same.foldl (fun r1 e2 h3 => ?_) ?_
  · refine Same.thru (slotClear_same ..) rfl ?_
    first | assumption | exact Same.refl _ _
  · first | assumption | exact Same.refl _ _

theorem spStore_same : ∀ a0 a1 a2 a3 s0, Same 1611137024 s0 (spStore a0 a1 a2 a3 s0) := by
  intro a0 a1 a2 a3 s0
  unfold spStore
  extract_lets -merge -underBinder -useContext +onlyGivenNames x1
  refine Same.ite ?_ ?_
  · refine Same.thru (writeBytes_same ..) rfl ?_
    first | assumption | exact Same.refl _ _
  · extract_lets -merge -underBinder -useContext +onlyGivenNames x2 x3 x4
    have h5 : Same 1611137024 s0 x4 := by
      unfold x4
      refine Same.foldl (fun r6 e7 h8 => ?_) ?_
      · refine Same.thru (writeBytes_same ..) rfl ?_
        first | assumption | exact Same.refl _ _
      · first | assumption | exact Same.refl _ _
    clear_value x4
    refine Same.thru (updCd_same ..) rfl ?_
    first | assumption | exact Same.refl _ _

theorem slotUndo_same : ∀ a0 a1 a2 s0, Same 8589934592 s0 (slotUndo a0 a1 a2 s0) := by
  intro a0 a1 a2 s0
  unfold slotUndo
  extract_lets -merge -underBinder -useContext +onlyGivenNames x1
  refine Same.ite ?_ ?_
  · refine Same.thru (Same.put_slots _ _ (fun h => wf_tset h)) rfl ?_
    first | assumption | exact Same.refl _ _
  · first | assumption | exact Same.refl _ _

theorem undoAcc_same : ∀ a0 s0 a2, Same 10201071616 s0 (undoAcc a0 s0 a2) := by
  intro a0 s0 a2
  unfold undoAcc
  extract_lets -merge -underBinder -useContext +onlyGivenNames x1 x2
  have h3 : Same 10201071616 s0 x1 := by
    unfold x1
    refine Same.thru (updCd_same ..) rfl ?_
    first | assumption | exact Same.refl _ _
  clear_value x1
  have h4 : Same 10201071616 s0 x2 := by
    unfold x2
    refine Same.ite ?_ ?_
    · refine Same.thru (spStore_same ..) rfl ?_
      first | assumption | exact Same.refl _ _
    · first | assumption | exact Same.refl _ _
  clear_value x2
  refine Same.foldl (fun r5 e6 h7 => ?_) ?_
  · refine Same.thru (slotUndo_same ..) rfl ?_
    first | assumption | exact Same.refl _ _
  · first | assumption | exact Same.refl _ _

theorem undoAfter_same : ∀ a0 a1 a2 s0, Same 10201071616 s0 (undoAfter a0 a1 a2 s0) := by
  intro a0 a1 a2 s0
  unfold undoAfter
  extract_lets -merge -underBinder -useContext +onlyGivenNames x1 x2 x3
  have h4 : Same 10201071616 s0 x3 := by
    unfold x3
    refine Same.foldl (fun r5 e6 h7 => ?_) ?_
    · refine Same.thru (undoAcc_same ..) rfl ?_
      first | assumption | exact Same.refl _ _
    · first | assumption | exact Same.refl _ _
  clear_value x3
  refine Same.foldl (fun r8 e9 h10 => ?_) ?_
  · refine Same.thru (writeBytes_same ..) rfl ?_
    first | assumption | exact Same.refl _ _
  · refine Same.thru (updCd_same ..) rfl ?_
    first | assumption | exact Same.refl _ _

theorem setCe_same : ∀ a0 a1 s0, Same 524288 s0 (setCe a0 a1 s0) := by
  intro a0 a1 s0
  unfold setCe
  refine Same.ite ?_ ?_
  · refine Same.thru (updCd_same ..) rfl ?_
    first | assumption | exact Same.refl _ _
  · first | assumption | exact Same.refl _ _

theorem noteCollision_same : ∀ a0 a1 s0, Same 525312 s0 (noteCollision a0 a1 s0) := by
  intro a0 a1 s0
  unfold noteCollision
  refine Same.thru (bump_same ..) rfl ?_
  refine Same.thru (updCd_same ..) rfl ?_
  first | assumption | exact Same.refl _ _

theorem collideLocal_same : ∀ a0 a1 a2 s0, Same 525312 s0 (collideLocal a0 a1 a2 s0) := by
  intro a0 a1 a2 s0
  unfold collideLocal
  refine Same.thru (setCe_same ..) rfl ?_
  refine Same.thru (noteCollision_same ..) rfl ?_
  first | assumption | exact Same.refl _ _

theorem collideInbound_same : ∀ a0 a1 s0, Same 525312 s0 (collideInbound a0 a1 s0) := by
  intro a0 a1 s0
  unfold collideInbound
  refine Same.thru (updCd_same ..) rfl ?_
  refine Same.thru (noteCollision_same ..) rfl ?_
  first | assumption | exact Same.refl _ _

theorem clearCollision_same : ∀ a0 a1 s0, Same 524288 s0 (clearCollision a0 a1 s0) := by
  intro a0 a1 s0
  unfold clearCollision
  refine Same.thru (updCd_same ..) rfl ?_
  first | assumption | exact Same.refl _ _

theorem countResults_same : ∀ a0 a1 a2 s0, Same 1024 s0 (countResults a0 a1 a2 s0) := by
  intro a0 a1 a2 s0
  unfold countResults
  extract_lets -merge -underBinder -useContext +onlyGivenNames x1 x2
  refine Same.ite ?_ ?_
  · refine Same.thru (bump_same ..) rfl ?_
    refine Same.thru (bump_same ..) rfl ?_
    first | assumption | exact Same.refl _ _
  · refine Same.ite ?_ ?_
    · refine Same.thru (bump_same ..) rfl ?_
      refine Same.thru (bump_same ..) rfl ?_
      first | assumption | exact Same.refl _ _
    · first | assumption | exact Same.refl _ _

end Sys2Proof.Machine
end

