-- ==== Sys2Proof/Laws/FrameHalt.lean ====
section
/-! SUPPORT. Laws/FrameHalt.lean: which fields of the state each operation of Machine/Halt.lean may change. -/
namespace Sys2Proof.Machine
open Sys2Proof

theorem setStream_same : ∀ a0 a1 a2 a3 s0, Same 17179869184 s0 (setStream a0 a1 a2 a3 s0) := by
  intro a0 a1 a2 a3 s0
  unfold setStream
  refine Same.thru (Same.put_streams _ _ (fun h => wf_tset h)) rfl ?_
  first | assumption | exact Same.refl _ _

theorem setEngine_same : ∀ a0 a1 a2 s0, Same 34359738368 s0 (setEngine a0 a1 a2 s0) := by
  intro a0 a1 a2 s0
  unfold setEngine
  refine Same.thru (Same.put_engines _ _ (fun h => wf_tset h)) rfl ?_
  first | assumption | exact Same.refl _ _

theorem updEngine_same : ∀ a0 a1 a2 s0, Same 34359738368 s0 (updEngine a0 a1 a2 s0) := by
  intro a0 a1 a2 s0
  unfold updEngine
  refine Same.thru (setEngine_same ..) rfl ?_
  first | assumption | exact Same.refl _ _

theorem haltStream_same : ∀ a0 a1 a2 a3 s0, Same 18014466843631526 s0 (haltStream a0 a1 a2 a3 s0) := by
  intro a0 a1 a2 a3 s0
  unfold haltStream
  extract_lets -merge -underBinder -useContext +onlyGivenNames x1 x2 x3 x4 x5 x6 x7
  have h8 : Same 18014466843631526 s0 x2 := by
    unfold x2
    refine Same.thru (toCycle_same ..) rfl ?_
    first | assumption | exact Same.refl _ _
  clear_value x2
  have h9 : Same 18014466843631526 s0 x5 := by
    unfold x5
    refine Same.ite ?_ ?_
    · refine Same.thru (setStream_same ..) rfl ?_
      first | assumption | exact Same.refl _ _
    · first | assumption | exact Same.refl _ _
  clear_value x5
  have h10 : Same 18014466843631526 s0 x7 := by
    unfold x7
    refine Same.ite ?_ ?_
    · first | assumption | exact Same.refl _ _
    · refine Same.thru (undoAfter_same ..) rfl ?_
      refine Same.thru (updEngine_same ..) rfl ?_
      first | assumption | exact Same.refl _ _
  clear_value x7
  extract_lets -merge -underBinder -useContext +onlyGivenNames x11
  have h12 : Same 18014466843631526 s0 x11 := by
    unfold x11
    refine Same.thru (bump_same ..) rfl ?_
    first | assumption | exact Same.refl _ _
  clear_value x11
  refine Same.thru (chargeFault_same ..) rfl ?_
  first | assumption | exact Same.refl _ _

theorem updFly_same : ∀ a0 a1 a2 a3 s0, Same 34359738368 s0 (updFly a0 a1 a2 a3 s0) := by
  intro a0 a1 a2 a3 s0
  unfold updFly
  refine Same.thru (updEngine_same ..) rfl ?_
  first | assumption | exact Same.refl _ _

theorem haltFly_same : ∀ a0 a1 a2 a3 a4 a5 a6 s0, Same 18014466843631526 s0 (haltFly a0 a1 a2 a3 a4 a5 a6 s0) := by
  intro a0 a1 a2 a3 a4 a5 a6 s0
  unfold haltFly
  refine Same.thru (haltStream_same ..) rfl ?_
  first | assumption | exact Same.refl _ _

end Sys2Proof.Machine
end

