-- ==== Sys2Proof/Laws/FrameNet.lean ====
section
/-! SUPPORT. Laws/FrameNet.lean: which fields of the state each operation of Machine/Net.lean may change. -/
namespace Sys2Proof.Machine
open Sys2Proof

theorem linkTo_same : ∀ a0 a1 s0, Same 33554432 s0 (linkTo a0 a1 s0) := by
  intro a0 a1 s0
  unfold linkTo
  refine Same.thru (updLink_same ..) rfl ?_
  first | assumption | exact Same.refl _ _

theorem noteQueue_same : ∀ a0 s0, Same 1049600 s0 (noteQueue a0 s0) := by
  intro a0 s0
  unfold noteQueue
  extract_lets -merge -underBinder -useContext +onlyGivenNames x1 x2 x3
  refine Same.ite ?_ ?_
  · refine Same.thru (updFd_same ..) rfl ?_
    first | assumption | exact Same.refl _ _
  · refine Same.ite ?_ ?_
    · refine Same.thru (bump_same ..) rfl ?_
      refine Same.thru (updFd_same ..) rfl ?_
      first | assumption | exact Same.refl _ _
    · first | assumption | exact Same.refl _ _

theorem noteHome_same : ∀ a0 s0, Same 1049600 s0 (noteHome a0 s0) := by
  intro a0 s0
  unfold noteHome
  split
  · refine Same.ite ?_ ?_
    · refine Same.thru (noteQueue_same ..) rfl ?_
      first | assumption | exact Same.refl _ _
    · first | assumption | exact Same.refl _ _
  · first | assumption | exact Same.refl _ _

theorem countHop_same : ∀ a0 a1 s0, Same 1024 s0 (countHop a0 a1 s0) := by
  intro a0 a1 s0
  unfold countHop
  refine Same.thru (bumpBlob_same ..) rfl ?_
  first | assumption | exact Same.refl _ _

theorem land_same : ∀ a0 a1 a2 s0, Same 2097152 s0 (land a0 a1 a2 s0) := by
  intro a0 a1 a2 s0
  unfold land
  refine Same.thru (updPd_same ..) rfl ?_
  first | assumption | exact Same.refl _ _

theorem lose_same : ∀ a0 a1 a2 a3 s0, Same 274880009216 s0 (lose a0 a1 a2 a3 s0) := by
  intro a0 a1 a2 a3 s0
  unfold lose
  extract_lets -merge -underBinder -useContext +onlyGivenNames x1
  have h2 : Same 274880009216 s0 x1 := by
    unfold x1
    refine Same.thru (bump_same ..) rfl ?_
    refine Same.thru (report_same ..) rfl ?_
    first | assumption | exact Same.refl _ _
  clear_value x1
  split
  · refine Same.thru (land_same ..) rfl ?_
    first | assumption | exact Same.refl _ _
  · refine Same.ite ?_ ?_
    · refine Same.thru (Same.put_net _ _) rfl ?_
      first | assumption | exact Same.refl _ _
    · first | assumption | exact Same.refl _ _

theorem unroutable_same : ∀ a0 a1 a2 s0, Same 274880009216 s0 (unroutable a0 a1 a2 s0) := by
  intro a0 a1 a2 s0
  unfold unroutable
  refine Same.thru (lose_same ..) rfl ?_
  first | assumption | exact Same.refl _ _

theorem place_same : ∀ a0 a1 a2 a3 s0, Same 274948162560 s0 (place a0 a1 a2 a3 s0) := by
  intro a0 a1 a2 a3 s0
  unfold place
  split
  · split
    · refine Same.thru (land_same ..) rfl ?_
      first | assumption | exact Same.refl _ _
    · refine Same.thru (noteHome_same ..) rfl ?_
      refine Same.thru (Same.put_net _ _) rfl ?_
      first | assumption | exact Same.refl _ _
  · extract_lets -merge -underBinder -useContext +onlyGivenNames x1 x2 x3 x4
    have h5 : Same 274948162560 s0 x4 := by
      unfold x4
      refine Same.thru (updDir_same ..) rfl ?_
      first | assumption | exact Same.refl _ _
    clear_value x4
    refine Same.ite ?_ ?_
    · refine Same.thru (bump_same ..) rfl ?_
      first | assumption | exact Same.refl _ _
    · first | assumption | exact Same.refl _ _

theorem keepFlit_same : ∀ a0 a1 s0, Same 67108864 s0 (keepFlit a0 a1 s0) := by
  intro a0 a1 s0
  unfold keepFlit
  extract_lets -merge -underBinder -useContext +onlyGivenNames x1 x2 x3
  split
  extract_lets -merge -underBinder -useContext +onlyGivenNames x4 x5
  refine Same.thru (updDir_same ..) rfl ?_
  refine Same.thru (updDir_same ..) rfl ?_
  first | assumption | exact Same.refl _ _

theorem packStream_same : ∀ a0 s0, Same 67108864 s0 (packStream a0 s0) := by
  intro a0 s0
  unfold packStream
  extract_lets -merge -underBinder -useContext +onlyGivenNames x1 x2 x3
  refine Same.ite ?_ ?_
  · first | assumption | exact Same.refl _ _
  · refine Same.ite ?_ ?_
    · refine Same.thru (updDir_same ..) rfl ?_
      first | assumption | exact Same.refl _ _
    · refine Same.foldl (fun r4 e5 h6 => ?_) ?_
      · refine Same.thru (keepFlit_same ..) rfl ?_
        first | assumption | exact Same.refl _ _
      · refine Same.thru (updDir_same ..) rfl ?_
        first | assumption | exact Same.refl _ _

theorem crossLink_same : ∀ a0 a1 s0, Same 274948166656 s0 (crossLink a0 a1 s0) := by
  intro a0 a1 s0
  unfold crossLink
  extract_lets -merge -underBinder -useContext +onlyGivenNames x1
  refine Same.ite ?_ ?_
  · refine Same.thru (lose_same ..) rfl ?_
    refine Same.thru (updDir_same ..) rfl ?_
    first | assumption | exact Same.refl _ _
  · extract_lets -merge -underBinder -useContext +onlyGivenNames x2 x3
    have h4 : Same 274948166656 s0 x2 := by
      unfold x2
      refine Same.thru (countHop_same ..) rfl ?_
      refine Same.thru (updDir_same ..) rfl ?_
      first | assumption | exact Same.refl _ _
    clear_value x2
    have h5 : Same 274948166656 s0 x3 := by
      unfold x3
      refine Same.ite ?_ ?_
      · refine Same.thru (bump_same ..) rfl ?_
        first | assumption | exact Same.refl _ _
      · first | assumption | exact Same.refl _ _
    clear_value x3
    refine Same.thru (place_same ..) rfl ?_
    first | assumption | exact Same.refl _ _

theorem moveN_same : ∀ a0 s0, Same 274948166656 s0 (moveN a0 s0) := by
  intro a0 s0
  induction a0 generalizing s0
  · unfold moveN
    first | assumption | exact Same.refl _ _
  · rename_i i0 ih
    unfold moveN
    split
    · refine Same.thru (ih ..) rfl ?_
      refine Same.thru (crossLink_same ..) rfl ?_
      first | assumption | exact Same.refl _ _
    · first | assumption | exact Same.refl _ _

theorem packAll_same : ∀ s0, Same 67108864 s0 (packAll s0) := by
  intro s0
  unfold packAll
  refine Same.foldl (fun r1 e2 h3 => ?_) ?_
  · refine Same.ite ?_ ?_
    · first | assumption | exact Same.refl _ _
    · refine Same.thru (packStream_same ..) rfl ?_
      first | assumption | exact Same.refl _ _
  · first | assumption | exact Same.refl _ _

theorem moveNet_same : ∀ s0, Same 274948166656 s0 (moveNet s0) := by
  intro s0
  unfold moveNet
  refine Same.thru (packAll_same ..) rfl ?_
  refine Same.thru (moveN_same ..) rfl ?_
  first | assumption | exact Same.refl _ _

theorem dropQueued_same : ∀ a0 s0, Same 274948166656 s0 (dropQueued a0 s0) := by
  intro a0 s0
  unfold dropQueued
  refine Same.thru (moveNet_same ..) rfl ?_
  refine Same.foldl (fun r1 e2 h3 => ?_) ?_
  · refine Same.thru (noteQueue_same ..) rfl ?_
    first | assumption | exact Same.refl _ _
  · refine Same.thru (Same.put_net _ _) rfl ?_
    first | assumption | exact Same.refl _ _

theorem sendPkg_same : ∀ a0 s0, Same 274948166656 s0 (sendPkg a0 s0) := by
  intro a0 s0
  unfold sendPkg
  extract_lets -merge -underBinder -useContext +onlyGivenNames x1
  refine Same.ite ?_ ?_
  · refine Same.thru (unroutable_same ..) rfl ?_
    first | assumption | exact Same.refl _ _
  · refine Same.thru (moveNet_same ..) rfl ?_
    refine Same.thru (place_same ..) rfl ?_
    first | assumption | exact Same.refl _ _

theorem sendCargo_same : ∀ a0 a1 a2 a3 a4 s0, Same 274948166656 s0 (sendCargo a0 a1 a2 a3 a4 s0) := by
  intro a0 a1 a2 a3 a4 s0
  unfold sendCargo
  extract_lets -merge -underBinder -useContext +onlyGivenNames x1 x2
  refine Same.ite ?_ ?_
  · refine Same.thru (lose_same ..) rfl ?_
    first | assumption | exact Same.refl _ _
  · refine Same.thru (moveNet_same ..) rfl ?_
    refine Same.thru (place_same ..) rfl ?_
    first | assumption | exact Same.refl _ _

theorem arrive_same : ∀ a0 s0, Same 274948166656 s0 (arrive a0 s0) := by
  intro a0 s0
  unfold arrive
  refine Same.thru (moveNet_same ..) rfl ?_
  refine Same.thru (noteHome_same ..) rfl ?_
  refine Same.thru (Same.put_net _ _) rfl ?_
  first | assumption | exact Same.refl _ _

theorem takeTag_same : ∀ a0 s0, Same 1099511627776 s0 (takeTag a0 s0).2 := by
  intro a0 s0
  unfold takeTag
  extract_lets -merge -underBinder -useContext +onlyGivenNames x1
  dsimp -zeta only
  refine Same.thru (Same.put_tags _ _ (fun h => wf_tset h)) rfl ?_
  first | assumption | exact Same.refl _ _

theorem request_same : ∀ a0 a1 s0, Same 1924215608320 s0 (request a0 a1 s0) := by
  intro a0 a1 s0
  unfold request
  split
  rename_i v1 v2 v3 hq4
  extract_lets -merge -underBinder -useContext +onlyGivenNames x5 x6
  have h7 : Same 1924215608320 s0 x6 := by
    unfold x6
    refine Same.thru (Same.put_txns _ _) rfl ?_
    have h8 : Same 1924215608320 s0 v3 := Same.of_eq Prod.snd hq4 (by
      refine Same.thru (takeTag_same ..) rfl ?_
      first | assumption | exact Same.refl _ _
      )
    first | assumption | exact Same.refl _ _
  clear_value x6
  refine Same.thru (sendPkg_same ..) rfl ?_
  first | assumption | exact Same.refl _ _

theorem takeTxn_same : ∀ a0 s0, Same 549755813888 s0 (takeTxn a0 s0).2 := by
  intro a0 s0
  unfold takeTxn
  split
  · dsimp -zeta only
    refine Same.thru (Same.put_txns _ _) rfl ?_
    first | assumption | exact Same.refl _ _
  · first | assumption | exact Same.refl _ _

theorem reply_same : ∀ a0 a1 a2 s0, Same 274948166656 s0 (reply a0 a1 a2 s0) := by
  intro a0 a1 a2 s0
  unfold reply
  refine Same.ite ?_ ?_
  · first | assumption | exact Same.refl _ _
  · refine Same.thru (sendPkg_same ..) rfl ?_
    first | assumption | exact Same.refl _ _

end Sys2Proof.Machine
end

