-- ==== Sys2Proof/Laws/FrameSequencer.lean ====
section
/-! SUPPORT. Laws/FrameSequencer.lean: which fields of the state each operation of Machine/Sequencer.lean may change. -/
namespace Sys2Proof.Machine
open Sys2Proof

theorem doFetch_same : ∀ a0 a1 a2 a3 s0, Same 18014466843631526 s0 (doFetch a0 a1 a2 a3 s0) := by
  intro a0 a1 a2 a3 s0
  unfold doFetch
  extract_lets -merge -underBinder -useContext +onlyGivenNames x1 x2 x3 x4 x5 x6
  have h7 : Same 18014466843631526 s0 x2 := by
    unfold x2
    refine Same.thru (toCycle_same ..) rfl ?_
    first | assumption | exact Same.refl _ _
  clear_value x2
  split
  · first | assumption | exact Same.refl _ _
  · refine Same.ite ?_ ?_
    · first | assumption | exact Same.refl _ _
    · extract_lets -merge -underBinder -useContext +onlyGivenNames x8 x9 x10
      refine Same.ite ?_ ?_
      · split
        rename_i v11 v12 v13 hq14
        refine Same.thru (haltStream_same ..) rfl ?_
        have h15 : Same 18014466843631526 s0 v13 := Same.of_eq Prod.snd hq14 (by
          refine Same.thru (drawFree_same ..) rfl ?_
          first | assumption | exact Same.refl _ _
          )
        first | assumption | exact Same.refl _ _
      · refine Same.thru (setStream_same ..) rfl ?_
        first | assumption | exact Same.refl _ _

theorem applyTakes_same : ∀ a0 a1 a2 s0, Same 6442979332 s0 (applyTakes a0 a1 a2 s0) := by
  intro a0 a1 a2 s0
  unfold applyTakes
  refine Same.foldl (fun r1 e2 h3 => ?_) ?_
  · refine Same.ite ?_ ?_
    · refine Same.thru (semEvent_same ..) rfl ?_
      first | assumption | exact Same.refl _ _
    · first | assumption | exact Same.refl _ _
  · first | assumption | exact Same.refl _ _

theorem reserveLower_same : ∀ a0 a1 s0, Same 6442979332 s0 (reserveLower a0 a1 s0) := by
  intro a0 a1 s0
  unfold reserveLower
  refine Same.foldl (fun r1 e2 h3 => ?_) ?_
  · split
    · refine Same.thru (applyTakes_same ..) rfl ?_
      first | assumption | exact Same.refl _ _
    · first | assumption | exact Same.refl _ _
  · first | assumption | exact Same.refl _ _

theorem doIssue_same : ∀ a0 a1 a2 s0, Same 57982603286 s0 (doIssue a0 a1 a2 s0) := by
  intro a0 a1 a2 s0
  unfold doIssue
  extract_lets -merge -underBinder -useContext +onlyGivenNames x1 x2
  have h3 : Same 57982603286 s0 x2 := by
    unfold x2
    refine Same.thru (toCycle_same ..) rfl ?_
    first | assumption | exact Same.refl _ _
  clear_value x2
  split
  · first | assumption | exact Same.refl _ _
  · extract_lets -merge -underBinder -useContext +onlyGivenNames x4 x5 x6 x7 x8
    have h9 : Same 57982603286 s0 x8 := by
      unfold x8
      refine Same.thru (applyTakes_same ..) rfl ?_
      refine Same.thru (setStream_same ..) rfl ?_
      first | assumption | exact Same.refl _ _
    clear_value x8
    extract_lets -merge -underBinder -useContext +onlyGivenNames x10
    refine Same.thru (updEngine_same ..) rfl ?_
    refine Same.thru (Same.put_nextUid _ _) rfl ?_
    first | assumption | exact Same.refl _ _

theorem markDone_same : ∀ a0 a1 a2 a3 s0, Same 34359738368 s0 (markDone a0 a1 a2 a3 s0) := by
  intro a0 a1 a2 a3 s0
  unfold markDone
  refine Same.thru (updFly_same ..) rfl ?_
  first | assumption | exact Same.refl _ _

theorem sendSignal_same : ∀ a0 a1 a2 a3 s0, Same 1930658583556 s0 (sendSignal a0 a1 a2 a3 s0) := by
  intro a0 a1 a2 a3 s0
  unfold sendSignal
  refine Same.ite ?_ ?_
  · first | assumption | exact Same.refl _ _
  · refine Same.ite ?_ ?_
    · refine Same.thru (semEvent_same ..) rfl ?_
      first | assumption | exact Same.refl _ _
    · refine Same.thru (request_same ..) rfl ?_
      first | assumption | exact Same.refl _ _

theorem giveSurplus_same : ∀ a0 a1 s0, Same 6442979332 s0 (giveSurplus a0 a1 s0) := by
  intro a0 a1 s0
  unfold giveSurplus
  extract_lets -merge -underBinder -useContext +onlyGivenNames x1
  refine Same.foldl (fun r2 e3 h4 => ?_) ?_
  · extract_lets -merge -underBinder -useContext +onlyGivenNames x5 x6
    refine Same.ite ?_ ?_
    · refine Same.thru (semEvent_same ..) rfl ?_
      first | assumption | exact Same.refl _ _
    · first | assumption | exact Same.refl _ _
  · first | assumption | exact Same.refl _ _

theorem endTopk_same : ∀ a0 a1 s0, Same 68719476736 s0 (endTopk a0 a1 s0) := by
  intro a0 a1 s0
  unfold endTopk
  refine Same.ite ?_ ?_
  · refine Same.thru (Same.put_topk _ _ (fun h => wf_tkeep h)) rfl ?_
    first | assumption | exact Same.refl _ _
  · first | assumption | exact Same.refl _ _

theorem retire_same : ∀ a0 a1 a2 s0, Same 2033872016388 s0 (retire a0 a1 a2 s0) := by
  intro a0 a1 a2 s0
  unfold retire
  extract_lets -merge -underBinder -useContext +onlyGivenNames x1 x2 x3
  have h4 : Same 2033872016388 s0 x1 := by
    unfold x1
    refine Same.thru (updEngine_same ..) rfl ?_
    first | assumption | exact Same.refl _ _
  clear_value x1
  have h5 : Same 2033872016388 s0 x2 := by
    unfold x2
    refine Same.thru (updCtx_same ..) rfl ?_
    first | assumption | exact Same.refl _ _
  clear_value x2
  have h6 : Same 2033872016388 s0 x3 := by
    unfold x3
    refine Same.thru (endTopk_same ..) rfl ?_
    refine Same.thru (giveSurplus_same ..) rfl ?_
    first | assumption | exact Same.refl _ _
  clear_value x3
  refine Same.foldl (fun r7 e8 h9 => ?_) ?_
  · refine Same.thru (sendSignal_same ..) rfl ?_
    first | assumption | exact Same.refl _ _
  · first | assumption | exact Same.refl _ _

theorem doRetire_same : ∀ a0 a1 a2 s0, Same 2033872032774 s0 (doRetire a0 a1 a2 s0) := by
  intro a0 a1 a2 s0
  unfold doRetire
  extract_lets -merge -underBinder -useContext +onlyGivenNames x1
  have h2 : Same 2033872032774 s0 x1 := by
    unfold x1
    refine Same.thru (toCycle_same ..) rfl ?_
    first | assumption | exact Same.refl _ _
  clear_value x1
  split
  · refine Same.thru (retire_same ..) rfl ?_
    first | assumption | exact Same.refl _ _
  · first | assumption | exact Same.refl _ _

theorem doOverrun_same : ∀ a0 a1 s0, Same 18014466843631526 s0 (doOverrun a0 a1 s0) := by
  intro a0 a1 s0
  unfold doOverrun
  extract_lets -merge -underBinder -useContext +onlyGivenNames x1 x2 x3
  split
  · refine Same.ite ?_ ?_
    · refine Same.thru (haltFly_same ..) rfl ?_
      first | assumption | exact Same.refl _ _
    · first | assumption | exact Same.refl _ _
  · first | assumption | exact Same.refl _ _

theorem doSync_same : ∀ a0 a1 s0, Same 2033872016388 s0 (doSync a0 a1 s0) := by
  intro a0 a1 s0
  unfold doSync
  split
  · refine Same.ite ?_ ?_
    · refine Same.thru (retire_same ..) rfl ?_
      first | assumption | exact Same.refl _ _
    · first | assumption | exact Same.refl _ _
  · first | assumption | exact Same.refl _ _

theorem dmemRefuse_same : ∀ a0 a1 a2 a3 a4 s0, Same 5120 s0 (dmemRefuse a0 a1 a2 a3 a4 s0) := by
  intro a0 a1 a2 a3 a4 s0
  unfold dmemRefuse
  refine Same.thru (bump_same ..) rfl ?_
  refine Same.thru (report_same ..) rfl ?_
  first | assumption | exact Same.refl _ _

theorem dmemPut_same : ∀ a0 a1 a2 a3 s0, Same 1610612736 s0 (dmemPut a0 a1 a2 a3 s0) := by
  intro a0 a1 a2 a3 s0
  unfold dmemPut
  extract_lets -merge -underBinder -useContext +onlyGivenNames x1
  refine Same.thru (writeBytes_same ..) rfl ?_
  first | assumption | exact Same.refl _ _

theorem refuseHost_same : ∀ a0 a1 a2 s0, Same 18014398526263200 s0 (refuseHost a0 a1 a2 s0) := by
  intro a0 a1 a2 s0
  unfold refuseHost
  extract_lets -merge -underBinder -useContext +onlyGivenNames x1 x2 x3
  have h4 : Same 18014398526263200 s0 x2 := by
    unfold x2
    refine Same.thru (bumpBlob_same ..) rfl ?_
    first | assumption | exact Same.refl _ _
  clear_value x2
  have h5 : Same 18014398526263200 s0 x3 := by
    unfold x3
    refine Same.ite ?_ ?_
    · first | assumption | exact Same.refl _ _
    · refine Same.thru (journal_same ..) rfl ?_
      refine Same.thru (updHost_same ..) rfl ?_
      first | assumption | exact Same.refl _ _
  clear_value x3
  refine Same.ite ?_ ?_
  · first | assumption | exact Same.refl _ _
  · refine Same.thru (emit_same ..) rfl ?_
    first | assumption | exact Same.refl _ _

theorem hostOpen_same : ∀ a0 a1 a2 s0, Same 1649267441664 s0 (hostOpen a0 a1 a2 s0) := by
  intro a0 a1 a2 s0
  unfold hostOpen
  split
  rename_i v1 v2 v3 hq4
  refine Same.thru (Same.put_txns _ _) rfl ?_
  have h5 : Same 1649267441664 s0 v3 := Same.of_eq Prod.snd hq4 (by
    refine Same.thru (takeTag_same ..) rfl ?_
    first | assumption | exact Same.refl _ _
    )
  first | assumption | exact Same.refl _ _

theorem hostAnswer_same : ∀ a0 a1 a2 a3 s0, Same 274948166656 s0 (hostAnswer a0 a1 a2 a3 s0) := by
  intro a0 a1 a2 a3 s0
  unfold hostAnswer
  split
  · refine Same.thru (sendPkg_same ..) rfl ?_
    first | assumption | exact Same.refl _ _
  · first | assumption | exact Same.refl _ _

theorem doDmemSwap_same : ∀ a0 a1 s0, Same 34360262656 s0 (doDmemSwap a0 a1 s0) := by
  intro a0 a1 s0
  unfold doDmemSwap
  split
  · extract_lets -merge -underBinder -useContext +onlyGivenNames x1
    have h2 : Same 34360262656 s0 x1 := by
      unfold x1
      refine Same.thru (markDone_same ..) rfl ?_
      first | assumption | exact Same.refl _ _
    clear_value x1
    refine Same.ite ?_ ?_
    · first | assumption | exact Same.refl _ _
    · extract_lets -merge -underBinder -useContext +onlyGivenNames x3 x4
      have h5 : Same 34360262656 s0 x3 := by
        unfold x3
        refine Same.thru (updFly_same ..) rfl ?_
        first | assumption | exact Same.refl _ _
      clear_value x3
      refine Same.thru (updCd_same ..) rfl ?_
      first | assumption | exact Same.refl _ _
  · first | assumption | exact Same.refl _ _

theorem doSwapRequest_same : ∀ a0 a1 a2 s0, Same 274948690944 s0 (doSwapRequest a0 a1 a2 s0) := by
  intro a0 a1 a2 s0
  unfold doSwapRequest
  refine Same.ite ?_ ?_
  · refine Same.thru (hostAnswer_same ..) rfl ?_
    first | assumption | exact Same.refl _ _
  · extract_lets -merge -underBinder -useContext +onlyGivenNames x1
    refine Same.thru (updCd_same ..) rfl ?_
    first | assumption | exact Same.refl _ _

theorem swapDone_same : ∀ a0 a1 s0, Same 309307905024 s0 (swapDone a0 a1 s0) := by
  intro a0 a1 s0
  unfold swapDone
  refine Same.ite ?_ ?_
  · refine Same.thru (hostAnswer_same ..) rfl ?_
    first | assumption | exact Same.refl _ _
  · refine Same.thru (updFly_same ..) rfl ?_
    first | assumption | exact Same.refl _ _

theorem swapRefused_same : ∀ a0 a1 a2 s0, Same 18014741791793062 s0 (swapRefused a0 a1 a2 s0) := by
  intro a0 a1 a2 s0
  unfold swapRefused
  refine Same.ite ?_ ?_
  · refine Same.thru (hostAnswer_same ..) rfl ?_
    refine Same.thru (report_same ..) rfl ?_
    first | assumption | exact Same.refl _ _
  · split
    · refine Same.thru (haltFly_same ..) rfl ?_
      refine Same.thru (report_same ..) rfl ?_
      first | assumption | exact Same.refl _ _
    · refine Same.thru (report_same ..) rfl ?_
      first | assumption | exact Same.refl _ _

theorem doSwapAccept_same : ∀ a0 s0, Same 18014741791793062 s0 (doSwapAccept a0 s0) := by
  intro a0 s0
  unfold doSwapAccept
  split
  · first | assumption | exact Same.refl _ _
  · refine Same.ite ?_ ?_
    · first | assumption | exact Same.refl _ _
    · extract_lets -merge -underBinder -useContext +onlyGivenNames x1
      have h2 : Same 18014741791793062 s0 x1 := by
        unfold x1
        refine Same.thru (updCd_same ..) rfl ?_
        refine Same.ite ?_ ?_
        · refine Same.thru (syncFacet_same ..) rfl ?_
          first | assumption | exact Same.refl _ _
        · first | assumption | exact Same.refl _ _
      clear_value x1
      refine Same.ite ?_ ?_
      · refine Same.thru (swapDone_same ..) rfl ?_
        first | assumption | exact Same.refl _ _
      · extract_lets -merge -underBinder -useContext +onlyGivenNames x3
        refine Same.ite ?_ ?_
        · refine Same.thru (swapRefused_same ..) rfl ?_
          first | assumption | exact Same.refl _ _
        · extract_lets -merge -underBinder -useContext +onlyGivenNames x4 x5
          refine Same.thru (swapDone_same ..) rfl ?_
          refine Same.thru (updCd_same ..) rfl ?_
          first | assumption | exact Same.refl _ _

theorem doSwapCancel_same : ∀ a0 a1 a2 s0, Same 281391158278 s0 (doSwapCancel a0 a1 a2 s0) := by
  intro a0 a1 a2 s0
  unfold doSwapCancel
  extract_lets -merge -underBinder -useContext +onlyGivenNames x1 x2
  have h3 : Same 281391158278 s0 x1 := by
    unfold x1
    refine Same.thru (syncFacet_same ..) rfl ?_
    first | assumption | exact Same.refl _ _
  clear_value x1
  have h4 : Same 281391158278 s0 x2 := by
    unfold x2
    refine Same.ite ?_ ?_
    · refine Same.thru (updCd_same ..) rfl ?_
      first | assumption | exact Same.refl _ _
    · first | assumption | exact Same.refl _ _
  clear_value x2
  refine Same.thru (hostAnswer_same ..) rfl ?_
  first | assumption | exact Same.refl _ _

theorem hostDmem_same : ∀ a0 a1 a2 a3 s0, Same 283001771014 s0 (hostDmem a0 a1 a2 a3 s0) := by
  intro a0 a1 a2 a3 s0
  unfold hostDmem
  split
  · refine Same.ite ?_ ?_
    · refine Same.thru (hostAnswer_same ..) rfl ?_
      refine Same.thru (dmemRefuse_same ..) rfl ?_
      first | assumption | exact Same.refl _ _
    · extract_lets -merge -underBinder -useContext +onlyGivenNames x1 x2 x3
      have h4 : Same 283001771014 s0 x1 := by
        unfold x1
        refine Same.thru (syncFacet_same ..) rfl ?_
        first | assumption | exact Same.refl _ _
      clear_value x1
      extract_lets -merge -underBinder -useContext +onlyGivenNames x5
      have h6 : Same 283001771014 s0 x5 := by
        unfold x5
        refine Same.ite ?_ ?_
        · refine Same.thru (updCd_same ..) rfl ?_
          first | assumption | exact Same.refl _ _
        · first | assumption | exact Same.refl _ _
      clear_value x5
      refine Same.thru (hostAnswer_same ..) rfl ?_
      refine Same.thru (writeBytes_same ..) rfl ?_
      first | assumption | exact Same.refl _ _
  · first | assumption | exact Same.refl _ _

theorem doHostDmem_same : ∀ a0 a1 a2 a3 s0, Same 18016330795474854 s0 (doHostDmem a0 a1 a2 a3 s0) := by
  intro a0 a1 a2 a3 s0
  unfold doHostDmem
  refine Same.ite ?_ ?_
  · refine Same.thru (hostDmem_same ..) rfl ?_
    refine Same.thru (hostOpen_same ..) rfl ?_
    first | assumption | exact Same.refl _ _
  · refine Same.thru (refuseHost_same ..) rfl ?_
    first | assumption | exact Same.refl _ _

theorem swapTick_same : ∀ a0 a1 s0, Same 17180393472 s0 (swapTick a0 a1 s0).1 := by
  intro a0 a1 s0
  unfold swapTick
  extract_lets -merge -underBinder -useContext +onlyGivenNames x1
  refine Same.iteOf (fun z : State × Bool => z.1) ?_ ?_
  · extract_lets -merge -underBinder -useContext +onlyGivenNames x2 x3 x4
    have h5 : Same 17180393472 s0 x3 := by
      unfold x3
      refine Same.thru (updCd_same ..) rfl ?_
      first | assumption | exact Same.refl _ _
    clear_value x3
    have h6 : Same 17180393472 s0 x4 := by
      unfold x4
      refine Same.foldl (fun r7 e8 h9 => ?_) ?_
      · extract_lets -merge -underBinder -useContext +onlyGivenNames x10
        refine Same.thru (setStream_same ..) rfl ?_
        first | assumption | exact Same.refl _ _
      · first | assumption | exact Same.refl _ _
    clear_value x4
    first | assumption | exact Same.refl _ _
  · first | assumption | exact Same.refl _ _

theorem execDescriptorFetch_same : ∀ a0 a1 a2 a3 s0 t, execDescriptorFetch a0 a1 a2 a3 s0 = .next t → Same 18014466843631526 s0 t := by
  intro a0 a1 a2 a3 s0 t ht
  unfold execDescriptorFetch at ht
  refine Same.next ht ?_
  refine Same.thru (doFetch_same ..) rfl ?_
  first | assumption | exact Same.refl _ _

theorem execDescriptorIssue_same : ∀ a0 a1 a2 a3 s0 t, execDescriptorIssue a0 a1 a2 a3 s0 = .next t → Same 57982603286 s0 t := by
  intro a0 a1 a2 a3 s0 t ht
  unfold execDescriptorIssue at ht
  refine Same.next ht ?_
  refine Same.thru (doIssue_same ..) rfl ?_
  first | assumption | exact Same.refl _ _

theorem execDescriptorRetire_same : ∀ a0 a1 a2 s0 t, execDescriptorRetire a0 a1 a2 s0 = .next t → Same 2033872032774 s0 t := by
  intro a0 a1 a2 s0 t ht
  unfold execDescriptorRetire at ht
  refine Same.next ht ?_
  refine Same.thru (doRetire_same ..) rfl ?_
  first | assumption | exact Same.refl _ _

theorem execFrameOverrun_same : ∀ a0 a1 s0 t, execFrameOverrun a0 a1 s0 = .next t → Same 18014466843631526 s0 t := by
  intro a0 a1 s0 t ht
  unfold execFrameOverrun at ht
  refine Same.next ht ?_
  refine Same.thru (doOverrun_same ..) rfl ?_
  first | assumption | exact Same.refl _ _

theorem execSignalArrival_same : ∀ a0 a1 a2 a3 a4 a5 s0 t, execSignalArrival a0 a1 a2 a3 a4 a5 s0 = .next t → Same 6442979332 s0 t := by
  intro a0 a1 a2 a3 a4 a5 s0 t ht
  unfold execSignalArrival at ht
  refine Same.next ht ?_
  refine Same.ite ?_ ?_
  · refine Same.thru (semEvent_same ..) rfl ?_
    first | assumption | exact Same.refl _ _
  · first | assumption | exact Same.refl _ _

theorem execSync_same : ∀ a0 a1 s0 t, execSync a0 a1 s0 = .next t → Same 2033872016388 s0 t := by
  intro a0 a1 s0 t ht
  unfold execSync at ht
  refine Same.next ht ?_
  refine Same.thru (doSync_same ..) rfl ?_
  first | assumption | exact Same.refl _ _

theorem execDmemSwap_same : ∀ a0 a1 s0 t, execDmemSwap a0 a1 s0 = .next t → Same 34360262656 s0 t := by
  intro a0 a1 s0 t ht
  unfold execDmemSwap at ht
  refine Same.next ht ?_
  refine Same.thru (doDmemSwap_same ..) rfl ?_
  first | assumption | exact Same.refl _ _

theorem execSwapRequest_same : ∀ a0 a1 a2 s0 t, execSwapRequest a0 a1 a2 s0 = .next t → Same 1924216132608 s0 t := by
  intro a0 a1 a2 s0 t ht
  unfold execSwapRequest at ht
  refine Same.next ht ?_
  refine Same.thru (doSwapRequest_same ..) rfl ?_
  refine Same.thru (hostOpen_same ..) rfl ?_
  first | assumption | exact Same.refl _ _

theorem execSwapRequestAccept_same : ∀ a0 s0 t, execSwapRequestAccept a0 s0 = .next t → Same 18014741791793062 s0 t := by
  intro a0 s0 t ht
  unfold execSwapRequestAccept at ht
  refine Same.next ht ?_
  refine Same.thru (doSwapAccept_same ..) rfl ?_
  first | assumption | exact Same.refl _ _

theorem execSwapCancel_same : ∀ a0 a1 a2 s0 t, execSwapCancel a0 a1 a2 s0 = .next t → Same 1930658599942 s0 t := by
  intro a0 a1 a2 s0 t ht
  unfold execSwapCancel at ht
  refine Same.next ht ?_
  refine Same.thru (doSwapCancel_same ..) rfl ?_
  refine Same.thru (hostOpen_same ..) rfl ?_
  first | assumption | exact Same.refl _ _

theorem execHostDmemWrite_same : ∀ a0 a1 a2 a3 s0 t, execHostDmemWrite a0 a1 a2 a3 s0 = .next t → Same 18016330795474854 s0 t := by
  intro a0 a1 a2 a3 s0 t ht
  unfold execHostDmemWrite at ht
  refine Same.next ht ?_
  refine Same.thru (doHostDmem_same ..) rfl ?_
  first | assumption | exact Same.refl _ _

end Sys2Proof.Machine
end

