-- ==== Sys2Proof/Laws/FrameAccess.lean ====
section
/-! SUPPORT. Laws/FrameAccess.lean: which fields of the state each operation of Machine/Access.lean may change. -/
namespace Sys2Proof.Machine
open Sys2Proof

theorem Same.iteRun {m : Nat} {s0 : State} {a b : Run} {c : Prop} [Decidable c] (ha : Same m s0 a.s) (hb : Same m s0 b.s) :
    Same m s0 (if c then a else b).s := by split <;> assumption

theorem inboundFault_same : ∀ a0 a1 a2 s0, Same 18014398660485024 s0 (inboundFault a0 a1 a2 s0) := by
  intro a0 a1 a2 s0
  unfold inboundFault
  refine Same.ite ?_ ?_
  · refine Same.thru (chargeFault_same ..) rfl ?_
    first | assumption | exact Same.refl _ _
  · first | assumption | exact Same.refl _ _

theorem flagSource_same : ∀ a0 a1 s0, Same 18014398661009312 s0 (flagSource a0 a1 s0) := by
  intro a0 a1 s0
  unfold flagSource
  refine Same.thru (inboundFault_same ..) rfl ?_
  refine Same.ite ?_ ?_
  · refine Same.thru (setCe_same ..) rfl ?_
    first | assumption | exact Same.refl _ _
  · refine Same.thru (report_same ..) rfl ?_
    first | assumption | exact Same.refl _ _

theorem pushOne_same : ∀ a0 a1 s0, Same 34360263680 s0 (pushOne a0 a1 s0) := by
  intro a0 a1 s0
  unfold pushOne
  extract_lets -merge -underBinder -useContext +onlyGivenNames x1 x2
  have h3 : Same 34360263680 s0 x2 := by
    unfold x2
    refine Same.thru (updCd_same ..) rfl ?_
    first | assumption | exact Same.refl _ _
  clear_value x2
  refine Same.ite ?_ ?_
  · first | assumption | exact Same.refl _ _
  · extract_lets -merge -underBinder -useContext +onlyGivenNames x4
    have h5 : Same 34360263680 s0 x4 := by
      unfold x4
      refine Same.thru (updEngine_same ..) rfl ?_
      first | assumption | exact Same.refl _ _
    clear_value x4
    refine Same.ite ?_ ?_
    · refine Same.thru (bump_same ..) rfl ?_
      first | assumption | exact Same.refl _ _
    · first | assumption | exact Same.refl _ _

theorem pushAll_same : ∀ a0 a1 a2 s0, Same 34360263680 s0 (pushAll a0 a1 a2 s0) := by
  intro a0 a1 a2 s0
  induction a2 generalizing a0 a1 s0
  · unfold pushAll
    first | assumption | exact Same.refl _ _
  · rename_i i0 ih
    unfold pushAll
    split
    · refine Same.thru (ih ..) rfl ?_
      refine Same.thru (pushOne_same ..) rfl ?_
      first | assumption | exact Same.refl _ _
    · first | assumption | exact Same.refl _ _

theorem noteAcc_same : ∀ a0 a1 s0, Same 34360263680 s0 (noteAcc a0 a1 s0) := by
  intro a0 a1 s0
  unfold noteAcc
  refine Same.ite ?_ ?_
  · extract_lets -merge -underBinder -useContext +onlyGivenNames x1 x2
    have h3 : Same 34360263680 s0 x2 := by
      unfold x2
      refine Same.thru (updCd_same ..) rfl ?_
      first | assumption | exact Same.refl _ _
    clear_value x2
    refine Same.ite ?_ ?_
    · refine Same.thru (pushAll_same ..) rfl ?_
      first | assumption | exact Same.refl _ _
    · first | assumption | exact Same.refl _ _
  · first | assumption | exact Same.refl _ _

theorem lateStatus_same : ∀ a0 s0, Same 274877906944 s0 (lateStatus a0 s0) := by
  intro a0 s0
  unfold lateStatus
  refine Same.thru (Same.put_net _ _) rfl ?_
  first | assumption | exact Same.refl _ _

theorem dropB_same : ∀ a0 s0 a2, Same 18014741721538470 s0 (dropB a0 s0 a2) := by
  intro a0 s0 a2
  unfold dropB
  extract_lets -merge -underBinder -useContext +onlyGivenNames x1
  have h2 : Same 18014741721538470 s0 x1 := by
    unfold x1
    refine Same.thru (undoAcc_same ..) rfl ?_
    first | assumption | exact Same.refl _ _
  clear_value x1
  refine Same.ite ?_ ?_
  · extract_lets -merge -underBinder -useContext +onlyGivenNames x3
    have h4 : Same 18014741721538470 s0 x3 := by
      unfold x3
      refine Same.thru (collideInbound_same ..) rfl ?_
      first | assumption | exact Same.refl _ _
    clear_value x3
    split
    · refine Same.thru (lateStatus_same ..) rfl ?_
      refine Same.thru (flagSource_same ..) rfl ?_
      first | assumption | exact Same.refl _ _
    · first | assumption | exact Same.refl _ _
  · extract_lets -merge -underBinder -useContext +onlyGivenNames x5 x6
    have h7 : Same 18014741721538470 s0 x6 := by
      unfold x6
      refine Same.thru (collideLocal_same ..) rfl ?_
      first | assumption | exact Same.refl _ _
    clear_value x6
    split
    · refine Same.ite ?_ ?_
      · refine Same.thru (haltFly_same ..) rfl ?_
        first | assumption | exact Same.refl _ _
      · first | assumption | exact Same.refl _ _
    · first | assumption | exact Same.refl _ _

theorem spSee_same : ∀ a0 a1 a2 a3 a4 s0, Same 34360263680 s0 (spSee a0 a1 a2 a3 a4 s0) := by
  intro a0 a1 a2 a3 a4 s0
  unfold spSee
  refine Same.thru (noteAcc_same ..) rfl ?_
  first | assumption | exact Same.refl _ _

theorem spPut_same : ∀ a0 a1 a2 a3 a4 s0, Same 18014741721538470 s0 (spPut a0 a1 a2 a3 a4 s0) := by
  intro a0 a1 a2 a3 a4 s0
  unfold spPut
  extract_lets -merge -underBinder -useContext +onlyGivenNames x1 x2
  have h3 : Same 18014741721538470 s0 x1 := by
    unfold x1
    refine Same.ite ?_ ?_
    · refine Same.foldl (fun r4 e5 h6 => ?_) ?_
      · refine Same.thru (dropB_same ..) rfl ?_
        first | assumption | exact Same.refl _ _
      · first | assumption | exact Same.refl _ _
    · first | assumption | exact Same.refl _ _
  clear_value x1
  refine Same.thru (noteAcc_same ..) rfl ?_
  refine Same.thru (spStore_same ..) rfl ?_
  first | assumption | exact Same.refl _ _

theorem Run.stop_same : ∀ r0 a1 a2 a3, Same 0 r0.s (Run.stop r0 a1 a2 a3).s := by
  intro r0 a1 a2 a3
  unfold Run.stop
  first | assumption | exact Same.refl _ _

theorem dropAcc_same : ∀ a0 a1 a2 s0, Same 524288 s0 (dropAcc a0 a1 a2 s0) := by
  intro a0 a1 a2 s0
  unfold dropAcc
  refine Same.thru (updCd_same ..) rfl ?_
  first | assumption | exact Same.refl _ _

theorem holdNear_same : ∀ a0 a1 a2 s0, Same 525312 s0 (holdNear a0 a1 a2 s0) := by
  intro a0 a1 a2 s0
  unfold holdNear
  extract_lets -merge -underBinder -useContext +onlyGivenNames x1
  refine Same.ite ?_ ?_
  · refine Same.thru (bump_same ..) rfl ?_
    refine Same.thru (updCd_same ..) rfl ?_
    first | assumption | exact Same.refl _ _
  · first | assumption | exact Same.refl _ _

theorem runStall_same : ∀ a0 a1 a2 a3 a4 r0, Same 525312 r0.s (runStall a0 a1 a2 a3 a4 r0).s := by
  intro a0 a1 a2 a3 a4 r0
  unfold runStall
  refine Same.iteRun ?_ ?_
  · first | assumption | exact Same.refl _ _
  · extract_lets -merge -underBinder -useContext +onlyGivenNames x1 x2 x3 x4 x5
    have h6 : Same 525312 r0.s x4 := by
      unfold x4
      refine Same.ite ?_ ?_
      · first | assumption | exact Same.refl _ _
      · refine Same.thru (bump_same ..) rfl ?_
        first | assumption | exact Same.refl _ _
    clear_value x4
    have h7 : Same 525312 r0.s x5 := by
      unfold x5
      refine Same.ite ?_ ?_
      · refine Same.thru (holdNear_same ..) rfl ?_
        first | assumption | exact Same.refl _ _
      · first | assumption | exact Same.refl _ _
    clear_value x5
    first | assumption | exact Same.refl _ _

theorem runGo_thru : ∀ {m sb a0 a1 a2 a3 a4 r0} (hm : 525312 ||| m = m) (hf0 : ∀ y0 z, Same m sb z.s → Same m sb (a0 y0 z).s) (hs : Same m sb r0.s), Same m sb (runGo a0 a1 a2 a3 a4 r0).s := by
  intro m sb a0 a1 a2 a3 a4 r0 hm hf0 hs
  induction a4 generalizing a1 a2 a3 r0 hs
  · unfold runGo
    first | assumption | exact Same.refl _ _
  · rename_i i0 i1 ih
    unfold runGo
    extract_lets -merge -underBinder -useContext +onlyGivenNames x1
    have h2 : Same m sb x1.s := by
      unfold x1
      refine Same.thru (runStall_same ..) (Same.sub hm rfl) ?_
      first | assumption | exact Same.refl _ _
    clear_value x1
    refine ih ?_
    refine Same.iteRun ?_ ?_
    · first | assumption | exact Same.refl _ _
    · extract_lets -merge -underBinder -useContext +onlyGivenNames x3
      have h4 : Same m sb x3.s := by
        unfold x3
        refine hf0 _ _ ?_
        first | assumption | exact Same.refl _ _
      clear_value x3
      refine Same.iteRun ?_ ?_
      · first | assumption | exact Same.refl _ _
      · first | assumption | exact Same.refl _ _

theorem runEvs_thru : ∀ {m sb a0 a1 a2 a3 a4 a5 s0} (hm : 525312 ||| m = m) (hf0 : ∀ y0 z, Same m sb z.s → Same m sb (a0 y0 z).s) (hs : Same m sb s0), Same m sb (runEvs a0 a1 a2 a3 a4 a5 s0).s := by
  intro m sb a0 a1 a2 a3 a4 a5 s0 hm hf0 hs
  unfold runEvs
  refine runGo_thru (Same.sub hm rfl) ?_ ?_
  · intro y1 y2 hy3
    refine hf0 _ _ ?_
    first | assumption | exact Same.refl _ _
  · first | assumption | exact Same.refl _ _

theorem spBad_same : ∀ a0 a1 a2 a3 s0, Same 5120 s0 (spBad a0 a1 a2 a3 s0) := by
  intro a0 a1 a2 a3 s0
  unfold spBad
  refine Same.thru (bump_same ..) rfl ?_
  refine Same.thru (report_same ..) rfl ?_
  first | assumption | exact Same.refl _ _

theorem spSoft_same : ∀ a0 a1 a2 s0, Same 1024 s0 (spSoft a0 a1 a2 s0) := by
  intro a0 a1 a2 s0
  unfold spSoft
  extract_lets -merge -underBinder -useContext +onlyGivenNames x1
  refine Same.ite ?_ ?_
  · first | assumption | exact Same.refl _ _
  · refine Same.thru (bump_same ..) rfl ?_
    first | assumption | exact Same.refl _ _

theorem spRead_same : ∀ a0 a1 a2 a3 a4 a5 a6 r0, Same 42950202368 r0.s (spRead a0 a1 a2 a3 a4 a5 a6 r0).2.s := by
  intro a0 a1 a2 a3 a4 a5 a6 r0
  unfold spRead
  refine Same.iteOf (fun z : List Byte × Run => z.2.s) ?_ ?_
  · dsimp -zeta only
    refine Same.thru (Run.stop_same ..) rfl ?_
    first | assumption | exact Same.refl _ _
  · refine Same.iteOf (fun z : List Byte × Run => z.2.s) ?_ ?_
    · dsimp -zeta only
      refine Same.thru (Run.stop_same ..) rfl ?_
      dsimp -zeta only
      refine Same.thru (spBad_same ..) rfl ?_
      first | assumption | exact Same.refl _ _
    · dsimp -zeta only
      refine Same.thru (slotsClear_same ..) rfl ?_
      refine Same.thru (spSee_same ..) rfl ?_
      refine Same.thru (spSoft_same ..) rfl ?_
      first | assumption | exact Same.refl _ _

theorem spWrite_same : ∀ a0 a1 a2 a3 a4 r0, Same 18014741721538470 r0.s (spWrite a0 a1 a2 a3 a4 r0).s := by
  intro a0 a1 a2 a3 a4 r0
  unfold spWrite
  refine Same.iteRun ?_ ?_
  · refine Same.thru (Run.stop_same ..) rfl ?_
    first | assumption | exact Same.refl _ _
  · dsimp -zeta only
    refine Same.thru (slotsSet_same ..) rfl ?_
    refine Same.thru (spPut_same ..) rfl ?_
    first | assumption | exact Same.refl _ _

theorem spMerge_same : ∀ a0 a1 a2 a3 a4 a5 r0, Same 18014741721538470 r0.s (spMerge a0 a1 a2 a3 a4 a5 r0).s := by
  intro a0 a1 a2 a3 a4 a5 r0
  unfold spMerge
  refine Same.iteRun ?_ ?_
  · refine Same.thru (Run.stop_same ..) rfl ?_
    dsimp -zeta only
    refine Same.thru (spBad_same ..) rfl ?_
    first | assumption | exact Same.refl _ _
  · extract_lets -merge -underBinder -useContext +onlyGivenNames x1
    have h2 : Same 18014741721538470 r0.s x1.s := by
      unfold x1
      refine Same.thru (spWrite_same ..) rfl ?_
      first | assumption | exact Same.refl _ _
    clear_value x1
    refine Same.iteRun ?_ ?_
    · first | assumption | exact Same.refl _ _
    · extract_lets -merge -underBinder -useContext +onlyGivenNames x3
      have h4 : Same 18014741721538470 r0.s x3 := by
        unfold x3
        refine Same.thru (spSoft_same ..) rfl ?_
        first | assumption | exact Same.refl _ _
      clear_value x3
      dsimp -zeta only
      refine Same.thru (Same.put_ecc _ _ (fun h => wf_tclear h)) rfl ?_
      first | assumption | exact Same.refl _ _

theorem accFlags_same : ∀ a0 a1 a2 a3 a4 r0, Same 8589934592 r0.s (accFlags a0 a1 a2 a3 a4 r0).s := by
  intro a0 a1 a2 a3 a4 r0
  unfold accFlags
  refine Same.iteRun ?_ ?_
  · refine Same.thru (Run.stop_same ..) rfl ?_
    first | assumption | exact Same.refl _ _
  · extract_lets -merge -underBinder -useContext +onlyGivenNames x1 x2
    have h3 : Same 8589934592 r0.s x1.s := by
      unfold x1
      first | assumption | exact Same.refl _ _
    clear_value x1
    refine Same.iteRun ?_ ?_
    · refine Same.thru (Run.stop_same ..) rfl ?_
      first | assumption | exact Same.refl _ _
    · dsimp -zeta only
      refine Same.thru (slotsSet_same ..) rfl ?_
      refine Same.thru (slotsClear_same ..) rfl ?_
      first | assumption | exact Same.refl _ _

theorem finishRun_same : ∀ a0 a1 a2 a3 r0, Same 18014466843631526 r0.s (finishRun a0 a1 a2 a3 r0) := by
  intro a0 a1 a2 a3 r0
  unfold finishRun
  refine Same.ite ?_ ?_
  · refine Same.thru (haltFly_same ..) rfl ?_
    first | assumption | exact Same.refl _ _
  · refine Same.thru (markDone_same ..) rfl ?_
    first | assumption | exact Same.refl _ _

end Sys2Proof.Machine
end

