-- ==== Sys2Proof/Laws/FrameHome.lean ====
section
/-! SUPPORT. Laws/FrameHome.lean: which fields of the state each operation of Machine/Home.lean may change. -/
namespace Sys2Proof.Machine
open Sys2Proof

theorem holdHere_same : ∀ a0 a1 s0, Same 525312 s0 (holdHere a0 a1 s0) := by
  intro a0 a1 s0
  unfold holdHere
  split
  · refine Same.ite ?_ ?_
    · extract_lets -merge -underBinder -useContext +onlyGivenNames x1 x2
      refine Same.thru (holdNear_same ..) rfl ?_
      first | assumption | exact Same.refl _ _
    · first | assumption | exact Same.refl _ _
  · first | assumption | exact Same.refl _ _

theorem farClass_same : ∀ a0 a1 a2 s0, Same 1024 s0 (farClass a0 a1 a2 s0) := by
  intro a0 a1 a2 s0
  unfold farClass
  refine Same.thru (bumpBlob_same ..) rfl ?_
  first | assumption | exact Same.refl _ _

theorem granuleRound_same : ∀ a0 a1 s0 a3, Same 1048576 s0 (granuleRound a0 a1 s0 a3) := by
  intro a0 a1 s0 a3
  unfold granuleRound
  extract_lets -merge -underBinder -useContext +onlyGivenNames x1
  refine Same.thru (updFd_same ..) rfl ?_
  first | assumption | exact Same.refl _ _

theorem farRound_same : ∀ a0 a1 a2 a3 s0, Same 1048576 s0 (farRound a0 a1 a2 a3 s0) := by
  intro a0 a1 a2 a3 s0
  unfold farRound
  refine Same.ite ?_ ?_
  · first | assumption | exact Same.refl _ _
  · refine Same.foldl (fun r1 e2 h3 => ?_) ?_
    · refine Same.thru (granuleRound_same ..) rfl ?_
      first | assumption | exact Same.refl _ _
    · first | assumption | exact Same.refl _ _

theorem farServe_same : ∀ a0 a1 a2 a3 s0, Same 1049600 s0 (farServe a0 a1 a2 a3 s0) := by
  intro a0 a1 a2 a3 s0
  unfold farServe
  refine Same.ite ?_ ?_
  · extract_lets -merge -underBinder -useContext +onlyGivenNames x1 x2 x3
    have h4 : Same 1049600 s0 x3 := by
      unfold x3
      refine Same.thru (updFd_same ..) rfl ?_
      refine Same.thru (farClass_same ..) rfl ?_
      first | assumption | exact Same.refl _ _
    clear_value x3
    refine Same.ite ?_ ?_
    · first | assumption | exact Same.refl _ _
    · refine Same.thru (farRound_same ..) rfl ?_
      refine Same.thru (farClass_same ..) rfl ?_
      refine Same.thru (bump_same ..) rfl ?_
      first | assumption | exact Same.refl _ _
  · refine Same.thru (farRound_same ..) rfl ?_
    refine Same.thru (farClass_same ..) rfl ?_
    first | assumption | exact Same.refl _ _

theorem servedClass_same : ∀ a0 a1 s0, Same 1049600 s0 (servedClass a0 a1 s0).2 := by
  intro a0 a1 s0
  unfold servedClass
  split
  · refine Same.iteOf Prod.snd ?_ ?_
    · dsimp -zeta only
      refine Same.thru (bump_same ..) rfl ?_
      refine Same.thru (updFd_same ..) rfl ?_
      first | assumption | exact Same.refl _ _
    · first | assumption | exact Same.refl _ _
  · first | assumption | exact Same.refl _ _

theorem memRead_same : ∀ a0 a1 a2 a3 a4 a5 s0, Same 1074795520 s0 (memRead a0 a1 a2 a3 a4 a5 s0).2 := by
  intro a0 a1 a2 a3 a4 a5 s0
  unfold memRead
  split
  · refine Same.iteOf Prod.snd ?_ ?_
    · dsimp -zeta only
      refine Same.thru (bump_same ..) rfl ?_
      refine Same.thru (report_same ..) rfl ?_
      first | assumption | exact Same.refl _ _
    · extract_lets -merge -underBinder -useContext +onlyGivenNames x1
      dsimp -zeta only
      refine Same.ite ?_ ?_
      · first | assumption | exact Same.refl _ _
      · refine Same.thru (bump_same ..) rfl ?_
        first | assumption | exact Same.refl _ _
  · extract_lets -merge -underBinder -useContext +onlyGivenNames x2
    have h3 : Same 1074795520 s0 x2 := by
      unfold x2
      refine Same.thru (farServe_same ..) rfl ?_
      first | assumption | exact Same.refl _ _
    clear_value x2
    refine Same.iteOf Prod.snd ?_ ?_
    · dsimp -zeta only
      refine Same.thru (bump_same ..) rfl ?_
      refine Same.thru (report_same ..) rfl ?_
      first | assumption | exact Same.refl _ _
    · extract_lets -merge -underBinder -useContext +onlyGivenNames x4
      dsimp -zeta only
      refine Same.ite ?_ ?_
      · first | assumption | exact Same.refl _ _
      · refine Same.thru (bump_same ..) rfl ?_
        refine Same.thru (Same.put_ecc _ _ (fun h => wf_tclear h)) rfl ?_
        first | assumption | exact Same.refl _ _
  · refine Same.iteOf Prod.snd ?_ ?_
    · dsimp -zeta only
      refine Same.thru (spBad_same ..) rfl ?_
      first | assumption | exact Same.refl _ _
    · dsimp -zeta only
      refine Same.thru (spSoft_same ..) rfl ?_
      first | assumption | exact Same.refl _ _
  · first | assumption | exact Same.refl _ _

theorem ubufStore_same : ∀ a0 a1 s0, Same 137438953472 s0 (ubufStore a0 a1 s0) := by
  intro a0 a1 s0
  unfold ubufStore
  refine Same.thru (Same.put_ubuf _ _ ?_) rfl ?_
  · (first | with_reducible exact id | (intro h; (try dsimp only); (repeat' (first | assumption | exact wf_nil _ | with_reducible apply wf_tset | with_reducible apply wf_tkeep | with_reducible apply wf_tclear | with_reducible apply wf_filter | with_reducible apply wf_tdel | with_reducible apply rising_tset | with_reducible apply wf_putBytes | with_reducible refine wf_map (fun e => by split <;> rfl) (fun e he => by split <;> first | exact he | simp) ?_ | split)); done) | (intro h; (try dsimp +zetaDelta only); (repeat' (first | assumption | exact wf_nil _ | with_reducible apply wf_tset | with_reducible apply wf_tkeep | with_reducible apply wf_tclear | with_reducible apply wf_filter | with_reducible apply wf_tdel | with_reducible apply rising_tset | with_reducible apply wf_putBytes | with_reducible refine wf_map (fun e => by split <;> rfl) (fun e he => by split <;> first | exact he | simp) ?_ | split))))
  · first | assumption | exact Same.refl _ _

theorem ubufUpdate_same : ∀ a0 s0, Same 137438953472 s0 (ubufUpdate a0 s0) := by
  intro a0 s0
  unfold ubufUpdate
  extract_lets -merge -underBinder -useContext +onlyGivenNames x1 x2 x3
  extract_lets -merge -underBinder -useContext +onlyGivenNames x4
  refine Same.thru (Same.put_ubuf _ _ (fun h => wf_tset (wf_ite (wf_tdel h) (h)))) rfl ?_
  first | assumption | exact Same.refl _ _

theorem memWrite_same : ∀ a0 a1 s0, Same 139050615808 s0 (memWrite a0 a1 s0) := by
  intro a0 a1 s0
  unfold memWrite
  extract_lets -merge -underBinder -useContext +onlyGivenNames x1
  have h2 : Same 139050615808 s0 x1 := by
    unfold x1
    refine Same.thru (writeBytes_same ..) rfl ?_
    first | assumption | exact Same.refl _ _
  clear_value x1
  split
  · refine Same.thru (ubufStore_same ..) rfl ?_
    refine Same.thru (farRound_same ..) rfl ?_
    refine Same.thru (farClass_same ..) rfl ?_
    first | assumption | exact Same.refl _ _
  · refine Same.thru (ubufStore_same ..) rfl ?_
    first | assumption | exact Same.refl _ _
  · first | assumption | exact Same.refl _ _

theorem landPart_same : ∀ a0 a1 a2 a3 a4 a5 r0 a7, Same 18014741721538470 r0.2 (landPart a0 a1 a2 a3 a4 a5 r0 a7).2 := by
  intro a0 a1 a2 a3 a4 a5 r0 a7
  unfold landPart
  extract_lets -merge -underBinder -useContext +onlyGivenNames x1 x2
  have h3 : Same 18014741721538470 r0.snd x2 := by
    unfold x2
    first | assumption | exact Same.refl _ _
  clear_value x2
  refine Same.iteOf Prod.snd ?_ ?_
  · dsimp -zeta only
    refine Same.thru (collideInbound_same ..) rfl ?_
    first | assumption | exact Same.refl _ _
  · refine Same.iteOf Prod.snd ?_ ?_
    · first | assumption | exact Same.refl _ _
    · dsimp -zeta only
      refine Same.thru (slotsSet_same ..) rfl ?_
      refine Same.thru (spPut_same ..) rfl ?_
      first | assumption | exact Same.refl _ _

theorem landBytes_same : ∀ a0 a1 a2 a3 a4 s0, Same 18014741721538470 s0 (landBytes a0 a1 a2 a3 a4 s0).2 := by
  intro a0 a1 a2 a3 a4 s0
  unfold landBytes
  extract_lets -merge -underBinder -useContext +onlyGivenNames x1
  refine Same.foldlPart Prod.snd (fun r2 e3 h4 => ?_) ?_
  · refine Same.thru (landPart_same ..) rfl ?_
    first | assumption | exact Same.refl _ _
  · first | assumption | exact Same.refl _ _

theorem nearSee_same : ∀ a0 a1 a2 a3 s0, Same 34360263680 s0 (nearSee a0 a1 a2 a3 s0) := by
  intro a0 a1 a2 a3 s0
  unfold nearSee
  split
  · refine Same.thru (noteAcc_same ..) rfl ?_
    first | assumption | exact Same.refl _ _
  · first | assumption | exact Same.refl _ _

theorem nearInbound_same : ∀ a0 a1 s0, Same 34360263680 s0 (nearInbound a0 a1 s0) := by
  intro a0 a1 s0
  unfold nearInbound
  split
  · refine Same.thru (nearSee_same ..) rfl ?_
    first | assumption | exact Same.refl _ _
  · first | assumption | exact Same.refl _ _

theorem sendWord_same : ∀ a0 a1 s0, Same 525312 s0 (sendWord a0 a1 s0) := by
  intro a0 a1 s0
  unfold sendWord
  refine Same.thru (bump_same ..) rfl ?_
  refine Same.thru (updCd_same ..) rfl ?_
  first | assumption | exact Same.refl _ _

theorem atomCount_same : ∀ a0 s0, Same 137440003072 s0 (atomCount a0 s0) := by
  intro a0 s0
  unfold atomCount
  split
  · refine Same.thru (ubufUpdate_same ..) rfl ?_
    refine Same.thru (farRound_same ..) rfl ?_
    refine Same.thru (farClass_same ..) rfl ?_
    refine Same.thru (bump_same ..) rfl ?_
    first | assumption | exact Same.refl _ _
  · refine Same.thru (ubufUpdate_same ..) rfl ?_
    refine Same.thru (bump_same ..) rfl ?_
    first | assumption | exact Same.refl _ _
  · first | assumption | exact Same.refl _ _

theorem bankElem_same : ∀ a0 a1 a2 a3 a4 a5 a6 a7 a8 r0 a10, Same 18014741721538470 r0.2 (bankElem a0 a1 a2 a3 a4 a5 a6 a7 a8 r0 a10).2 := by
  intro a0 a1 a2 a3 a4 a5 a6 a7 a8 r0 a10
  unfold bankElem
  extract_lets -merge -underBinder -useContext +onlyGivenNames x1 x2 x3 x4 x5 x6 x7 x8
  have h9 : Same 18014741721538470 r0.snd x2 := by
    unfold x2
    first | assumption | exact Same.refl _ _
  clear_value x2
  refine Same.iteOf Prod.snd ?_ ?_
  · first | assumption | exact Same.refl _ _
  · refine Same.iteOf Prod.snd ?_ ?_
    · dsimp -zeta only
      refine Same.ite ?_ ?_
      · refine Same.thru (collideInbound_same ..) rfl ?_
        first | assumption | exact Same.refl _ _
      · refine Same.thru (collideLocal_same ..) rfl ?_
        first | assumption | exact Same.refl _ _
    · refine Same.iteOf Prod.snd ?_ ?_
      · dsimp -zeta only
        refine Same.thru (spBad_same ..) rfl ?_
        first | assumption | exact Same.refl _ _
      · extract_lets -merge -underBinder -useContext +onlyGivenNames x10
        have h11 : Same 18014741721538470 r0.snd x10 := by
          unfold x10
          refine Same.thru (spPut_same ..) rfl ?_
          refine Same.thru (spSoft_same ..) rfl ?_
          first | assumption | exact Same.refl _ _
        clear_value x10
        dsimp -zeta only
        refine Same.thru (Same.put_ecc _ _ (fun h => wf_tclear h)) rfl ?_
        first | assumption | exact Same.refl _ _

theorem bankAtomics_same : ∀ a0 a1 a2 a3 a4 a5 a6 a7 a8 a9 s0, Same 18014741721538470 s0 (bankAtomics a0 a1 a2 a3 a4 a5 a6 a7 a8 a9 s0).2 := by
  intro a0 a1 a2 a3 a4 a5 a6 a7 a8 a9 s0
  unfold bankAtomics
  extract_lets -merge -underBinder -useContext +onlyGivenNames x1
  refine Same.foldlPart Prod.snd (fun r2 e3 h4 => ?_) ?_
  · refine Same.thru (bankElem_same ..) rfl ?_
    first | assumption | exact Same.refl _ _
  · dsimp -zeta only
    refine Same.thru (Same.put_free _ _) rfl ?_
    first | assumption | exact Same.refl _ _

theorem homeAtomic_same : ∀ a0 a1 a2 a3 a4 a5 a6 a7 a8 s0, Same 18014879161540518 s0 (homeAtomic a0 a1 a2 a3 a4 a5 a6 a7 a8 s0).2 := by
  intro a0 a1 a2 a3 a4 a5 a6 a7 a8 s0
  unfold homeAtomic
  refine Same.iteOf Prod.snd ?_ ?_
  · dsimp -zeta only
    refine Same.thru (report_same ..) rfl ?_
    first | assumption | exact Same.refl _ _
  · extract_lets -merge -underBinder -useContext +onlyGivenNames x1 x2
    split
    · refine Same.thru (bankAtomics_same ..) rfl ?_
      first | assumption | exact Same.refl _ _
    · split
      · rename_i v3 v4 hq5
        have h6 : Same 18014879161540518 s0 v4 := Same.of_eq Prod.snd hq5 (by
          refine Same.thru (memRead_same ..) rfl ?_
          first | assumption | exact Same.refl _ _
          )
        first | assumption | exact Same.refl _ _
      · rename_i v7 v8 v9 hq10
        extract_lets -merge -underBinder -useContext +onlyGivenNames x11
        have h12 : Same 18014879161540518 s0 x11 := by
          unfold x11
          refine Same.thru (atomCount_same ..) rfl ?_
          have h13 : Same 18014879161540518 s0 v9 := Same.of_eq Prod.snd hq10 (by
            refine Same.thru (memRead_same ..) rfl ?_
            first | assumption | exact Same.refl _ _
            )
          first | assumption | exact Same.refl _ _
        clear_value x11
        refine Same.iteOf Prod.snd ?_ ?_
        · extract_lets -merge -underBinder -useContext +onlyGivenNames x14
          dsimp -zeta only
          refine Same.ite ?_ ?_
          · refine Same.thru (writeBytes_same ..) rfl ?_
            first | assumption | exact Same.refl _ _
          · first | assumption | exact Same.refl _ _
        · extract_lets -merge -underBinder -useContext +onlyGivenNames x15
          dsimp -zeta only
          refine Same.thru (writeBytes_same ..) rfl ?_
          refine Same.thru (Same.put_free _ _) rfl ?_
          first | assumption | exact Same.refl _ _

theorem ctrlWrite_same : ∀ a0 a1 a2 a3 a4 a5 s0, Same 6442979332 s0 (ctrlWrite a0 a1 a2 a3 a4 a5 s0) := by
  intro a0 a1 a2 a3 a4 a5 s0
  unfold ctrlWrite
  refine Same.ite ?_ ?_
  · refine Same.foldl (fun r1 e2 h3 => ?_) ?_
    · refine Same.thru (semEvent_same ..) rfl ?_
      first | assumption | exact Same.refl _ _
    · first | assumption | exact Same.refl _ _
  · refine Same.ite ?_ ?_
    · refine Same.foldl (fun r4 e5 h6 => ?_) ?_
      · refine Same.thru (semEvent_same ..) rfl ?_
        first | assumption | exact Same.refl _ _
      · first | assumption | exact Same.refl _ _
    · refine Same.ite ?_ ?_
      · refine Same.thru (clearCollision_same ..) rfl ?_
        first | assumption | exact Same.refl _ _
      · refine Same.ite ?_ ?_
        · extract_lets -merge -underBinder -useContext +onlyGivenNames x7
          refine Same.thru (updCd_same ..) rfl ?_
          first | assumption | exact Same.refl _ _
        · first | assumption | exact Same.refl _ _

theorem refuseAddr_same : ∀ a0 s0, Same 274948166656 s0 (refuseAddr a0 s0) := by
  intro a0 s0
  unfold refuseAddr
  extract_lets -merge -underBinder -useContext +onlyGivenNames x1
  have h2 : Same 274948166656 s0 x1 := by
    unfold x1
    split
    · refine Same.thru (report_same ..) rfl ?_
      first | assumption | exact Same.refl _ _
    · first | assumption | exact Same.refl _ _
  clear_value x1
  refine Same.thru (reply_same ..) rfl ?_
  first | assumption | exact Same.refl _ _

theorem takePkt_same : ∀ a0 s0 {t}, takePkt a0 s0 = some t → Same 274948166656 s0 t := by
  intro p s t h
  unfold takePkt at h
  split at h
  · cases h; exact arrive_same ..
  · cases h

theorem turnAway_same : ∀ a0 s0, Same 275082384384 s0 (turnAway a0 s0) := by
  intro a0 s0
  unfold turnAway
  extract_lets -merge -underBinder -useContext +onlyGivenNames x1
  have h2 : Same 275082384384 s0 x1 := by
    unfold x1
    refine Same.thru (arrive_same ..) rfl ?_
    first | assumption | exact Same.refl _ _
  clear_value x1
  refine Same.ite ?_ ?_
  · refine Same.thru (unroutable_same ..) rfl ?_
    first | assumption | exact Same.refl _ _
  · refine Same.thru (discardGen_same ..) rfl ?_
    first | assumption | exact Same.refl _ _

theorem doRd_same : ∀ a0 s0, Same 18014717632585632 s0 (doRd a0 s0) := by
  intro a0 s0
  unfold doRd
  split
  · rename_i v1 hq2
    refine Same.thru (turnAway_same ..) rfl ?_
    first | assumption | exact Same.refl _ _
  · rename_i v3 v4 hq5
    extract_lets -merge -underBinder -useContext +onlyGivenNames x6 x7
    split
    · refine Same.ite ?_ ?_
      · refine Same.thru (reply_same ..) rfl ?_
        have h8 : Same 18014717632585632 s0 v4 := Same.thru (takePkt_same _ _ hq5) rfl (by
          first | assumption | exact Same.refl _ _
          )
        first | assumption | exact Same.refl _ _
      · refine Same.thru (reply_same ..) rfl ?_
        have h9 : Same 18014717632585632 s0 v4 := Same.thru (takePkt_same _ _ hq5) rfl (by
          first | assumption | exact Same.refl _ _
          )
        first | assumption | exact Same.refl _ _
    · refine Same.ite ?_ ?_
      · refine Same.thru (reply_same ..) rfl ?_
        have h10 : Same 18014717632585632 s0 v4 := Same.thru (takePkt_same _ _ hq5) rfl (by
          first | assumption | exact Same.refl _ _
          )
        first | assumption | exact Same.refl _ _
      · refine Same.thru (reply_same ..) rfl ?_
        have h11 : Same 18014717632585632 s0 v4 := Same.thru (takePkt_same _ _ hq5) rfl (by
          first | assumption | exact Same.refl _ _
          )
        first | assumption | exact Same.refl _ _
    · refine Same.ite ?_ ?_
      · refine Same.thru (reply_same ..) rfl ?_
        have h12 : Same 18014717632585632 s0 v4 := Same.thru (takePkt_same _ _ hq5) rfl (by
          first | assumption | exact Same.refl _ _
          )
        first | assumption | exact Same.refl _ _
      · refine Same.thru (reply_same ..) rfl ?_
        have h13 : Same 18014717632585632 s0 v4 := Same.thru (takePkt_same _ _ hq5) rfl (by
          first | assumption | exact Same.refl _ _
          )
        first | assumption | exact Same.refl _ _
    · refine Same.thru (reply_same ..) rfl ?_
      have h14 : Same 18014717632585632 s0 v4 := Same.thru (takePkt_same _ _ hq5) rfl (by
        first | assumption | exact Same.refl _ _
        )
      first | assumption | exact Same.refl _ _
    · refine Same.ite ?_ ?_
      · refine Same.thru (holdHere_same ..) rfl ?_
        first | assumption | exact Same.refl _ _
      · refine Same.ite ?_ ?_
        · refine Same.thru (refuseAddr_same ..) rfl ?_
          have h15 : Same 18014717632585632 s0 v4 := Same.thru (takePkt_same _ _ hq5) rfl (by
            first | assumption | exact Same.refl _ _
            )
          first | assumption | exact Same.refl _ _
        · extract_lets -merge -underBinder -useContext +onlyGivenNames x16 x17 x18
          refine Same.ite ?_ ?_
          · refine Same.thru (reply_same ..) rfl ?_
            have h19 : Same 18014717632585632 s0 v4 := Same.thru (takePkt_same _ _ hq5) rfl (by
              first | assumption | exact Same.refl _ _
              )
            first | assumption | exact Same.refl _ _
          · split
            rename_i v20 v21 v22 hq23
            split
            · rename_i v24 v25 hq26
              refine Same.thru (reply_same ..) rfl ?_
              refine Same.thru (inboundFault_same ..) rfl ?_
              have h27 : Same 18014717632585632 s0 v25 := Same.of_eq Prod.snd hq26 (by
                refine Same.thru (memRead_same ..) rfl ?_
                have h28 : Same 18014717632585632 s0 v22 := Same.of_eq Prod.snd hq23 (by
                  refine Same.thru (servedClass_same ..) rfl ?_
                  have h29 : Same 18014717632585632 s0 v4 := Same.thru (takePkt_same _ _ hq5) rfl (by
                    first | assumption | exact Same.refl _ _
                    )
                  first | assumption | exact Same.refl _ _
                  )
                first | assumption | exact Same.refl _ _
                )
              first | assumption | exact Same.refl _ _
            · rename_i v30 v31 v32 hq33
              refine Same.thru (reply_same ..) rfl ?_
              refine Same.ite ?_ ?_
              · refine Same.thru (slotsClear_same ..) rfl ?_
                refine Same.thru (spSee_same ..) rfl ?_
                have h34 : Same 18014717632585632 s0 v32 := Same.of_eq Prod.snd hq33 (by
                  refine Same.thru (memRead_same ..) rfl ?_
                  have h35 : Same 18014717632585632 s0 v22 := Same.of_eq Prod.snd hq23 (by
                    refine Same.thru (servedClass_same ..) rfl ?_
                    have h36 : Same 18014717632585632 s0 v4 := Same.thru (takePkt_same _ _ hq5) rfl (by
                      first | assumption | exact Same.refl _ _
                      )
                    first | assumption | exact Same.refl _ _
                    )
                  first | assumption | exact Same.refl _ _
                  )
                first | assumption | exact Same.refl _ _
              · refine Same.thru (nearInbound_same ..) rfl ?_
                have h37 : Same 18014717632585632 s0 v32 := Same.of_eq Prod.snd hq33 (by
                  refine Same.thru (memRead_same ..) rfl ?_
                  have h38 : Same 18014717632585632 s0 v22 := Same.of_eq Prod.snd hq23 (by
                    refine Same.thru (servedClass_same ..) rfl ?_
                    have h39 : Same 18014717632585632 s0 v4 := Same.thru (takePkt_same _ _ hq5) rfl (by
                      first | assumption | exact Same.refl _ _
                      )
                    first | assumption | exact Same.refl _ _
                    )
                  first | assumption | exact Same.refl _ _
                  )
                first | assumption | exact Same.refl _ _

theorem doWr_same : ∀ a0 s0, Same 18014879230746534 s0 (doWr a0 s0) := by
  intro a0 s0
  unfold doWr
  split
  · rename_i v1 hq2
    refine Same.thru (turnAway_same ..) rfl ?_
    first | assumption | exact Same.refl _ _
  · rename_i v3 v4 hq5
    extract_lets -merge -underBinder -useContext +onlyGivenNames x6
    refine Same.ite ?_ ?_
    · first | assumption | exact Same.refl _ _
    · split
      · refine Same.ite ?_ ?_
        · refine Same.thru (reply_same ..) rfl ?_
          refine Same.thru (dmemRefuse_same ..) rfl ?_
          have h7 : Same 18014879230746534 s0 v4 := Same.thru (takePkt_same _ _ hq5) rfl (by
            first | assumption | exact Same.refl _ _
            )
          first | assumption | exact Same.refl _ _
        · refine Same.ite ?_ ?_
          · refine Same.thru (reply_same ..) rfl ?_
            have h8 : Same 18014879230746534 s0 v4 := Same.thru (takePkt_same _ _ hq5) rfl (by
              first | assumption | exact Same.refl _ _
              )
            first | assumption | exact Same.refl _ _
          · refine Same.thru (reply_same ..) rfl ?_
            refine Same.thru (dmemPut_same ..) rfl ?_
            have h9 : Same 18014879230746534 s0 v4 := Same.thru (takePkt_same _ _ hq5) rfl (by
              first | assumption | exact Same.refl _ _
              )
            first | assumption | exact Same.refl _ _
      · refine Same.ite ?_ ?_
        · refine Same.thru (reply_same ..) rfl ?_
          refine Same.thru (ctrlWrite_same ..) rfl ?_
          have h10 : Same 18014879230746534 s0 v4 := Same.thru (takePkt_same _ _ hq5) rfl (by
            first | assumption | exact Same.refl _ _
            )
          first | assumption | exact Same.refl _ _
        · refine Same.thru (reply_same ..) rfl ?_
          have h11 : Same 18014879230746534 s0 v4 := Same.thru (takePkt_same _ _ hq5) rfl (by
            first | assumption | exact Same.refl _ _
            )
          first | assumption | exact Same.refl _ _
      · refine Same.ite ?_ ?_
        · refine Same.thru (reply_same ..) rfl ?_
          have h12 : Same 18014879230746534 s0 v4 := Same.thru (takePkt_same _ _ hq5) rfl (by
            first | assumption | exact Same.refl _ _
            )
          first | assumption | exact Same.refl _ _
        · refine Same.thru (reply_same ..) rfl ?_
          refine Same.thru (writeBytes_same ..) rfl ?_
          have h13 : Same 18014879230746534 s0 v4 := Same.thru (takePkt_same _ _ hq5) rfl (by
            first | assumption | exact Same.refl _ _
            )
          first | assumption | exact Same.refl _ _
      · refine Same.thru (reply_same ..) rfl ?_
        have h14 : Same 18014879230746534 s0 v4 := Same.thru (takePkt_same _ _ hq5) rfl (by
          first | assumption | exact Same.refl _ _
          )
        first | assumption | exact Same.refl _ _
      · refine Same.ite ?_ ?_
        · refine Same.thru (holdHere_same ..) rfl ?_
          first | assumption | exact Same.refl _ _
        · refine Same.ite ?_ ?_
          · refine Same.thru (refuseAddr_same ..) rfl ?_
            have h15 : Same 18014879230746534 s0 v4 := Same.thru (takePkt_same _ _ hq5) rfl (by
              first | assumption | exact Same.refl _ _
              )
            first | assumption | exact Same.refl _ _
          · split
            · refine Same.thru (reply_same ..) rfl ?_
              refine Same.thru (memWrite_same ..) rfl ?_
              refine Same.thru (nearInbound_same ..) rfl ?_
              have h16 : Same 18014879230746534 s0 v4 := Same.thru (takePkt_same _ _ hq5) rfl (by
                first | assumption | exact Same.refl _ _
                )
              first | assumption | exact Same.refl _ _
            · extract_lets -merge -underBinder -useContext +onlyGivenNames x17
              split
              rename_i v18 v19 v20 hq21
              refine Same.thru (reply_same ..) rfl ?_
              refine Same.ite ?_ ?_
              · refine Same.thru (flagSource_same ..) rfl ?_
                have h22 : Same 18014879230746534 s0 v20 := Same.of_eq Prod.snd hq21 (by
                  refine Same.thru (landBytes_same ..) rfl ?_
                  have h23 : Same 18014879230746534 s0 v4 := Same.thru (takePkt_same _ _ hq5) rfl (by
                    first | assumption | exact Same.refl _ _
                    )
                  first | assumption | exact Same.refl _ _
                  )
                first | assumption | exact Same.refl _ _
              · have h24 : Same 18014879230746534 s0 v20 := Same.of_eq Prod.snd hq21 (by
                  refine Same.thru (landBytes_same ..) rfl ?_
                  have h25 : Same 18014879230746534 s0 v4 := Same.thru (takePkt_same _ _ hq5) rfl (by
                    first | assumption | exact Same.refl _ _
                    )
                  first | assumption | exact Same.refl _ _
                  )
                first | assumption | exact Same.refl _ _

theorem hubRefuses_same : ∀ a0 a1 s0, Same 274948166656 s0 (hubRefuses a0 a1 s0) := by
  intro a0 a1 s0
  unfold hubRefuses
  refine Same.thru (reply_same ..) rfl ?_
  first | assumption | exact Same.refl _ _

theorem doAtomic_same : ∀ a0 a1 s0, Same 18014879230746534 s0 (doAtomic a0 a1 s0) := by
  intro a0 a1 s0
  unfold doAtomic
  split
  · rename_i v1 hq2
    refine Same.thru (turnAway_same ..) rfl ?_
    first | assumption | exact Same.refl _ _
  · rename_i v3 v4 hq5
    refine Same.ite ?_ ?_
    · first | assumption | exact Same.refl _ _
    · split
      · refine Same.ite ?_ ?_
        · refine Same.thru (holdHere_same ..) rfl ?_
          first | assumption | exact Same.refl _ _
        · refine Same.ite ?_ ?_
          · refine Same.thru (refuseAddr_same ..) rfl ?_
            have h6 : Same 18014879230746534 s0 v4 := Same.thru (takePkt_same _ _ hq5) rfl (by
              first | assumption | exact Same.refl _ _
              )
            first | assumption | exact Same.refl _ _
          · extract_lets -merge -underBinder -useContext +onlyGivenNames x7 x8 x9 x10
            refine Same.ite ?_ ?_
            · refine Same.thru (reply_same ..) rfl ?_
              have h11 : Same 18014879230746534 s0 v4 := Same.thru (takePkt_same _ _ hq5) rfl (by
                first | assumption | exact Same.refl _ _
                )
              first | assumption | exact Same.refl _ _
            · extract_lets -merge -underBinder -useContext +onlyGivenNames x12
              split
              rename_i v13 v14 v15 hq16
              extract_lets -merge -underBinder -useContext +onlyGivenNames x17
              have h18 : Same 18014879230746534 s0 x17 := by
                unfold x17
                refine Same.ite ?_ ?_
                · refine Same.thru (slotsSet_same ..) rfl ?_
                  have h19 : Same 18014879230746534 s0 v15 := Same.of_eq Prod.snd hq16 (by
                    refine Same.thru (homeAtomic_same ..) rfl ?_
                    refine Same.thru (nearInbound_same ..) rfl ?_
                    have h20 : Same 18014879230746534 s0 v4 := Same.thru (takePkt_same _ _ hq5) rfl (by
                      first | assumption | exact Same.refl _ _
                      )
                    first | assumption | exact Same.refl _ _
                    )
                  first | assumption | exact Same.refl _ _
                · refine Same.ite ?_ ?_
                  · refine Same.thru (flagSource_same ..) rfl ?_
                    have h21 : Same 18014879230746534 s0 v15 := Same.of_eq Prod.snd hq16 (by
                      refine Same.thru (homeAtomic_same ..) rfl ?_
                      refine Same.thru (nearInbound_same ..) rfl ?_
                      have h22 : Same 18014879230746534 s0 v4 := Same.thru (takePkt_same _ _ hq5) rfl (by
                        first | assumption | exact Same.refl _ _
                        )
                      first | assumption | exact Same.refl _ _
                      )
                    first | assumption | exact Same.refl _ _
                  · refine Same.thru (inboundFault_same ..) rfl ?_
                    have h23 : Same 18014879230746534 s0 v15 := Same.of_eq Prod.snd hq16 (by
                      refine Same.thru (homeAtomic_same ..) rfl ?_
                      refine Same.thru (nearInbound_same ..) rfl ?_
                      have h24 : Same 18014879230746534 s0 v4 := Same.thru (takePkt_same _ _ hq5) rfl (by
                        first | assumption | exact Same.refl _ _
                        )
                      first | assumption | exact Same.refl _ _
                      )
                    first | assumption | exact Same.refl _ _
              clear_value x17
              refine Same.thru (reply_same ..) rfl ?_
              first | assumption | exact Same.refl _ _
      · refine Same.ite ?_ ?_
        · refine Same.thru (holdHere_same ..) rfl ?_
          first | assumption | exact Same.refl _ _
        · refine Same.ite ?_ ?_
          · refine Same.thru (refuseAddr_same ..) rfl ?_
            have h25 : Same 18014879230746534 s0 v4 := Same.thru (takePkt_same _ _ hq5) rfl (by
              first | assumption | exact Same.refl _ _
              )
            first | assumption | exact Same.refl _ _
          · extract_lets -merge -underBinder -useContext +onlyGivenNames x26 x27 x28 x29
            refine Same.ite ?_ ?_
            · refine Same.thru (reply_same ..) rfl ?_
              have h30 : Same 18014879230746534 s0 v4 := Same.thru (takePkt_same _ _ hq5) rfl (by
                first | assumption | exact Same.refl _ _
                )
              first | assumption | exact Same.refl _ _
            · extract_lets -merge -underBinder -useContext +onlyGivenNames x31
              split
              rename_i v32 v33 v34 hq35
              extract_lets -merge -underBinder -useContext +onlyGivenNames x36
              have h37 : Same 18014879230746534 s0 x36 := by
                unfold x36
                refine Same.ite ?_ ?_
                · refine Same.thru (slotsSet_same ..) rfl ?_
                  have h38 : Same 18014879230746534 s0 v34 := Same.of_eq Prod.snd hq35 (by
                    refine Same.thru (homeAtomic_same ..) rfl ?_
                    refine Same.thru (nearInbound_same ..) rfl ?_
                    have h39 : Same 18014879230746534 s0 v4 := Same.thru (takePkt_same _ _ hq5) rfl (by
                      first | assumption | exact Same.refl _ _
                      )
                    first | assumption | exact Same.refl _ _
                    )
                  first | assumption | exact Same.refl _ _
                · refine Same.ite ?_ ?_
                  · refine Same.thru (flagSource_same ..) rfl ?_
                    have h40 : Same 18014879230746534 s0 v34 := Same.of_eq Prod.snd hq35 (by
                      refine Same.thru (homeAtomic_same ..) rfl ?_
                      refine Same.thru (nearInbound_same ..) rfl ?_
                      have h41 : Same 18014879230746534 s0 v4 := Same.thru (takePkt_same _ _ hq5) rfl (by
                        first | assumption | exact Same.refl _ _
                        )
                      first | assumption | exact Same.refl _ _
                      )
                    first | assumption | exact Same.refl _ _
                  · refine Same.thru (inboundFault_same ..) rfl ?_
                    have h42 : Same 18014879230746534 s0 v34 := Same.of_eq Prod.snd hq35 (by
                      refine Same.thru (homeAtomic_same ..) rfl ?_
                      refine Same.thru (nearInbound_same ..) rfl ?_
                      have h43 : Same 18014879230746534 s0 v4 := Same.thru (takePkt_same _ _ hq5) rfl (by
                        first | assumption | exact Same.refl _ _
                        )
                      first | assumption | exact Same.refl _ _
                      )
                    first | assumption | exact Same.refl _ _
              clear_value x36
              refine Same.thru (reply_same ..) rfl ?_
              first | assumption | exact Same.refl _ _
      · refine Same.ite ?_ ?_
        · refine Same.thru (holdHere_same ..) rfl ?_
          first | assumption | exact Same.refl _ _
        · refine Same.ite ?_ ?_
          · refine Same.thru (refuseAddr_same ..) rfl ?_
            have h44 : Same 18014879230746534 s0 v4 := Same.thru (takePkt_same _ _ hq5) rfl (by
              first | assumption | exact Same.refl _ _
              )
            first | assumption | exact Same.refl _ _
          · extract_lets -merge -underBinder -useContext +onlyGivenNames x45 x46 x47 x48
            refine Same.ite ?_ ?_
            · refine Same.thru (reply_same ..) rfl ?_
              have h49 : Same 18014879230746534 s0 v4 := Same.thru (takePkt_same _ _ hq5) rfl (by
                first | assumption | exact Same.refl _ _
                )
              first | assumption | exact Same.refl _ _
            · extract_lets -merge -underBinder -useContext +onlyGivenNames x50
              split
              rename_i v51 v52 v53 hq54
              extract_lets -merge -underBinder -useContext +onlyGivenNames x55
              have h56 : Same 18014879230746534 s0 x55 := by
                unfold x55
                refine Same.ite ?_ ?_
                · refine Same.thru (slotsSet_same ..) rfl ?_
                  have h57 : Same 18014879230746534 s0 v53 := Same.of_eq Prod.snd hq54 (by
                    refine Same.thru (homeAtomic_same ..) rfl ?_
                    refine Same.thru (nearInbound_same ..) rfl ?_
                    have h58 : Same 18014879230746534 s0 v4 := Same.thru (takePkt_same _ _ hq5) rfl (by
                      first | assumption | exact Same.refl _ _
                      )
                    first | assumption | exact Same.refl _ _
                    )
                  first | assumption | exact Same.refl _ _
                · refine Same.ite ?_ ?_
                  · refine Same.thru (flagSource_same ..) rfl ?_
                    have h59 : Same 18014879230746534 s0 v53 := Same.of_eq Prod.snd hq54 (by
                      refine Same.thru (homeAtomic_same ..) rfl ?_
                      refine Same.thru (nearInbound_same ..) rfl ?_
                      have h60 : Same 18014879230746534 s0 v4 := Same.thru (takePkt_same _ _ hq5) rfl (by
                        first | assumption | exact Same.refl _ _
                        )
                      first | assumption | exact Same.refl _ _
                      )
                    first | assumption | exact Same.refl _ _
                  · refine Same.thru (inboundFault_same ..) rfl ?_
                    have h61 : Same 18014879230746534 s0 v53 := Same.of_eq Prod.snd hq54 (by
                      refine Same.thru (homeAtomic_same ..) rfl ?_
                      refine Same.thru (nearInbound_same ..) rfl ?_
                      have h62 : Same 18014879230746534 s0 v4 := Same.thru (takePkt_same _ _ hq5) rfl (by
                        first | assumption | exact Same.refl _ _
                        )
                      first | assumption | exact Same.refl _ _
                      )
                    first | assumption | exact Same.refl _ _
              clear_value x55
              refine Same.thru (reply_same ..) rfl ?_
              first | assumption | exact Same.refl _ _
      · refine Same.ite ?_ ?_
        · refine Same.thru (holdHere_same ..) rfl ?_
          first | assumption | exact Same.refl _ _
        · refine Same.ite ?_ ?_
          · refine Same.thru (refuseAddr_same ..) rfl ?_
            have h63 : Same 18014879230746534 s0 v4 := Same.thru (takePkt_same _ _ hq5) rfl (by
              first | assumption | exact Same.refl _ _
              )
            first | assumption | exact Same.refl _ _
          · extract_lets -merge -underBinder -useContext +onlyGivenNames x64 x65 x66 x67
            refine Same.ite ?_ ?_
            · refine Same.thru (reply_same ..) rfl ?_
              have h68 : Same 18014879230746534 s0 v4 := Same.thru (takePkt_same _ _ hq5) rfl (by
                first | assumption | exact Same.refl _ _
                )
              first | assumption | exact Same.refl _ _
            · extract_lets -merge -underBinder -useContext +onlyGivenNames x69
              split
              rename_i v70 v71 v72 hq73
              extract_lets -merge -underBinder -useContext +onlyGivenNames x74
              have h75 : Same 18014879230746534 s0 x74 := by
                unfold x74
                refine Same.ite ?_ ?_
                · refine Same.thru (slotsSet_same ..) rfl ?_
                  have h76 : Same 18014879230746534 s0 v72 := Same.of_eq Prod.snd hq73 (by
                    refine Same.thru (homeAtomic_same ..) rfl ?_
                    refine Same.thru (nearInbound_same ..) rfl ?_
                    have h77 : Same 18014879230746534 s0 v4 := Same.thru (takePkt_same _ _ hq5) rfl (by
                      first | assumption | exact Same.refl _ _
                      )
                    first | assumption | exact Same.refl _ _
                    )
                  first | assumption | exact Same.refl _ _
                · refine Same.ite ?_ ?_
                  · refine Same.thru (flagSource_same ..) rfl ?_
                    have h78 : Same 18014879230746534 s0 v72 := Same.of_eq Prod.snd hq73 (by
                      refine Same.thru (homeAtomic_same ..) rfl ?_
                      refine Same.thru (nearInbound_same ..) rfl ?_
                      have h79 : Same 18014879230746534 s0 v4 := Same.thru (takePkt_same _ _ hq5) rfl (by
                        first | assumption | exact Same.refl _ _
                        )
                      first | assumption | exact Same.refl _ _
                      )
                    first | assumption | exact Same.refl _ _
                  · refine Same.thru (inboundFault_same ..) rfl ?_
                    have h80 : Same 18014879230746534 s0 v72 := Same.of_eq Prod.snd hq73 (by
                      refine Same.thru (homeAtomic_same ..) rfl ?_
                      refine Same.thru (nearInbound_same ..) rfl ?_
                      have h81 : Same 18014879230746534 s0 v4 := Same.thru (takePkt_same _ _ hq5) rfl (by
                        first | assumption | exact Same.refl _ _
                        )
                      first | assumption | exact Same.refl _ _
                      )
                    first | assumption | exact Same.refl _ _
              clear_value x74
              refine Same.thru (reply_same ..) rfl ?_
              first | assumption | exact Same.refl _ _
      · refine Same.thru (hubRefuses_same ..) rfl ?_
        have h82 : Same 18014879230746534 s0 v4 := Same.thru (takePkt_same _ _ hq5) rfl (by
          first | assumption | exact Same.refl _ _
          )
        first | assumption | exact Same.refl _ _
      · refine Same.thru (reply_same ..) rfl ?_
        have h83 : Same 18014879230746534 s0 v4 := Same.thru (takePkt_same _ _ hq5) rfl (by
          first | assumption | exact Same.refl _ _
          )
        first | assumption | exact Same.refl _ _

theorem doSig_same : ∀ a0 a1 s0, Same 281525359620 s0 (doSig a0 a1 s0) := by
  intro a0 a1 s0
  unfold doSig
  split
  · rename_i v1 hq2
    refine Same.thru (turnAway_same ..) rfl ?_
    first | assumption | exact Same.refl _ _
  · rename_i v3 v4 hq5
    split
    · refine Same.ite ?_ ?_
      · refine Same.thru (reply_same ..) rfl ?_
        refine Same.thru (semEvent_same ..) rfl ?_
        have h6 : Same 281525359620 s0 v4 := Same.thru (takePkt_same _ _ hq5) rfl (by
          first | assumption | exact Same.refl _ _
          )
        first | assumption | exact Same.refl _ _
      · refine Same.thru (reply_same ..) rfl ?_
        have h7 : Same 281525359620 s0 v4 := Same.thru (takePkt_same _ _ hq5) rfl (by
          first | assumption | exact Same.refl _ _
          )
        first | assumption | exact Same.refl _ _
    · refine Same.thru (hubRefuses_same ..) rfl ?_
      have h8 : Same 281525359620 s0 v4 := Same.thru (takePkt_same _ _ hq5) rfl (by
        first | assumption | exact Same.refl _ _
        )
      first | assumption | exact Same.refl _ _
    · refine Same.thru (reply_same ..) rfl ?_
      have h9 : Same 281525359620 s0 v4 := Same.thru (takePkt_same _ _ hq5) rfl (by
        first | assumption | exact Same.refl _ _
        )
      first | assumption | exact Same.refl _ _

theorem doArrAdd_same : ∀ a0 s0, Same 281525359620 s0 (doArrAdd a0 s0) := by
  intro a0 s0
  unfold doArrAdd
  split
  · rename_i v1 hq2
    refine Same.thru (turnAway_same ..) rfl ?_
    first | assumption | exact Same.refl _ _
  · rename_i v3 v4 hq5
    split
    · refine Same.ite ?_ ?_
      · refine Same.thru (reply_same ..) rfl ?_
        refine Same.thru (semEvent_same ..) rfl ?_
        have h6 : Same 281525359620 s0 v4 := Same.thru (takePkt_same _ _ hq5) rfl (by
          first | assumption | exact Same.refl _ _
          )
        first | assumption | exact Same.refl _ _
      · refine Same.thru (reply_same ..) rfl ?_
        have h7 : Same 281525359620 s0 v4 := Same.thru (takePkt_same _ _ hq5) rfl (by
          first | assumption | exact Same.refl _ _
          )
        first | assumption | exact Same.refl _ _
    · refine Same.thru (reply_same ..) rfl ?_
      have h8 : Same 281525359620 s0 v4 := Same.thru (takePkt_same _ _ hq5) rfl (by
        first | assumption | exact Same.refl _ _
        )
      first | assumption | exact Same.refl _ _

end Sys2Proof.Machine
end

