-- ==== Sys2Proof/Laws/FrameCopy.lean ====
section
/-! SUPPORT. Laws/FrameCopy.lean: which fields of the state each operation of Machine/Copy.lean may change. -/
namespace Sys2Proof.Machine
open Sys2Proof

theorem oneMore_same : ∀ a0 a1 a2 s0, Same 34359738368 s0 (oneMore a0 a1 a2 s0) := by
  intro a0 a1 a2 s0
  unfold oneMore
  refine Same.thru (updFly_same ..) rfl ?_
  first | assumption | exact Same.refl _ _

theorem askRoom_same : ∀ a0 a1 a2 a3 s0, Same 1958575346688 s0 (askRoom a0 a1 a2 a3 s0) := by
  intro a0 a1 a2 a3 s0
  unfold askRoom
  refine Same.ite ?_ ?_
  · refine Same.thru (updEngine_same ..) rfl ?_
    first | assumption | exact Same.refl _ _
  · refine Same.thru (request_same ..) rfl ?_
    first | assumption | exact Same.refl _ _

theorem sendAsksN_same : ∀ a0 a1 a2 s0, Same 1958575346688 s0 (sendAsksN a0 a1 a2 s0) := by
  intro a0 a1 a2 s0
  induction a0 generalizing a1 a2 s0
  · unfold sendAsksN
    first | assumption | exact Same.refl _ _
  · rename_i i0 ih
    unfold sendAsksN
    split
    · first | assumption | exact Same.refl _ _
    · extract_lets -merge -underBinder -useContext +onlyGivenNames x1 x2
      refine Same.ite ?_ ?_
      · refine Same.thru (ih ..) rfl ?_
        unfold x2
        refine Same.thru (updEngine_same ..) rfl ?_
        first | assumption | exact Same.refl _ _
      · refine Same.ite ?_ ?_
        · first | assumption | exact Same.refl _ _
        · refine Same.thru (ih ..) rfl ?_
          refine Same.thru (request_same ..) rfl ?_
          unfold x2
          refine Same.thru (updEngine_same ..) rfl ?_
          first | assumption | exact Same.refl _ _

theorem sendAsks_same : ∀ a0 a1 s0, Same 1958575346688 s0 (sendAsks a0 a1 s0) := by
  intro a0 a1 s0
  unfold sendAsks
  refine Same.thru (sendAsksN_same ..) rfl ?_
  first | assumption | exact Same.refl _ _

theorem copyWord_same : ∀ a0 a1 a2 a3 a4 a5 a6 r0 a8, Same 18014741721538470 r0.s (copyWord a0 a1 a2 a3 a4 a5 a6 r0 a8).s := by
  intro a0 a1 a2 a3 a4 a5 a6 r0 a8
  unfold copyWord
  refine Same.iteRun ?_ ?_
  · first | assumption | exact Same.refl _ _
  · refine Same.iteRun ?_ ?_
    · extract_lets -merge -underBinder -useContext +onlyGivenNames x1
      have h2 : Same 18014741721538470 r0.s x1.s := by
        unfold x1
        dsimp -zeta only
        refine Same.thru (collideLocal_same ..) rfl ?_
        first | assumption | exact Same.refl _ _
      clear_value x1
      refine Same.iteRun ?_ ?_
      · extract_lets -merge -underBinder -useContext +onlyGivenNames x3
        have h4 : Same 18014741721538470 r0.s x3.s := by
          unfold x3
          refine Same.thru (Run.stop_same ..) rfl ?_
          first | assumption | exact Same.refl _ _
        clear_value x3
        first | assumption | exact Same.refl _ _
      · first | assumption | exact Same.refl _ _
    · refine Same.thru (spWrite_same ..) rfl ?_
      first | assumption | exact Same.refl _ _

theorem copyPut_same : ∀ a0 a1 a2 a3 a4 a5 a6 r0, Same 18016528498188198 r0.s (copyPut a0 a1 a2 a3 a4 a5 a6 r0).s := by
  intro a0 a1 a2 a3 a4 a5 a6 r0
  unfold copyPut
  refine Same.iteRun ?_ ?_
  · first | assumption | exact Same.refl _ _
  · refine Same.iteRun ?_ ?_
    · extract_lets -merge -underBinder -useContext +onlyGivenNames x1
      dsimp -zeta only
      refine Same.thru (request_same ..) rfl ?_
      refine Same.thru (oneMore_same ..) rfl ?_
      first | assumption | exact Same.refl _ _
    · extract_lets -merge -underBinder -useContext +onlyGivenNames x2 x3
      have h4 : Same 18016528498188198 r0.s x3.s := by
        unfold x3
        first | assumption | exact Same.refl _ _
      clear_value x3
      refine Same.iteRun ?_ ?_
      · refine Same.thru (Run.stop_same ..) rfl ?_
        first | assumption | exact Same.refl _ _
      · split
        · refine Same.foldlPart Run.s (fun r5 e6 h7 => ?_) ?_
          · refine Same.thru (copyWord_same ..) rfl ?_
            first | assumption | exact Same.refl _ _
          · first | assumption | exact Same.refl _ _
        · refine Same.iteRun ?_ ?_
          · refine Same.thru (Run.stop_same ..) rfl ?_
            dsimp -zeta only
            refine Same.thru (dmemRefuse_same ..) rfl ?_
            first | assumption | exact Same.refl _ _
          · refine Same.iteRun ?_ ?_
            · extract_lets -merge -underBinder -useContext +onlyGivenNames x8
              have h9 : Same 18016528498188198 r0.s x8.s := by
                unfold x8
                refine Same.thru (Run.stop_same ..) rfl ?_
                first | assumption | exact Same.refl _ _
              clear_value x8
              first | assumption | exact Same.refl _ _
            · dsimp -zeta only
              refine Same.thru (dmemPut_same ..) rfl ?_
              first | assumption | exact Same.refl _ _
        · dsimp -zeta only
          refine Same.thru (ctrlWrite_same ..) rfl ?_
          first | assumption | exact Same.refl _ _
        · dsimp -zeta only
          refine Same.thru (memWrite_same ..) rfl ?_
          refine Same.thru (nearSee_same ..) rfl ?_
          first | assumption | exact Same.refl _ _

theorem Run.part_thru : ∀ {m sb a0 r0} (hm : 0 ||| m = m) (hf0 : ∀ z, Same m sb z.s → Same m sb (a0 z).s) (hs : Same m sb r0.s), Same m sb (Run.part a0 r0).s := by
  intro m sb a0 r0 hm hf0 hs
  unfold Run.part
  extract_lets -merge -underBinder -useContext +onlyGivenNames x1
  have h2 : Same m sb x1.s := by
    unfold x1
    refine hf0 _ ?_
    first | assumption | exact Same.refl _ _
  clear_value x1
  first | assumption | exact Same.refl _ _

theorem oldStep_same : ∀ a0 a1 a2 a3 r0 a5, Same 18016528498188198 r0.s (oldStep a0 a1 a2 a3 r0 a5).s := by
  intro a0 a1 a2 a3 r0 a5
  unfold oldStep
  split
  · first | assumption | exact Same.refl _ _
  · split
    · first | assumption | exact Same.refl _ _
    · refine Same.iteRun ?_ ?_
      · first | assumption | exact Same.refl _ _
      · refine Same.thru (copyPut_same ..) rfl ?_
        dsimp -zeta only
        refine Same.thru (updFly_same ..) rfl ?_
        first | assumption | exact Same.refl _ _

theorem takeOld_same : ∀ a0 a1 a2 a3 a4 a5 r0, Same 18016528498188198 r0.s (takeOld a0 a1 a2 a3 a4 a5 r0).s := by
  intro a0 a1 a2 a3 a4 a5 r0
  unfold takeOld
  refine Same.iteRun ?_ ?_
  · first | assumption | exact Same.refl _ _
  · extract_lets -merge -underBinder -useContext +onlyGivenNames x1 x2
    have h3 : Same 18016528498188198 r0.s x1.s := by
      unfold x1
      dsimp -zeta only
      refine Same.thru (updFly_same ..) rfl ?_
      first | assumption | exact Same.refl _ _
    clear_value x1
    refine Run.part_thru rfl ?_ ?_
    · intro y4 hy5
      refine Same.foldlPart Run.s (fun r6 e7 h8 => ?_) ?_
      · refine Same.thru (oldStep_same ..) rfl ?_
        first | assumption | exact Same.refl _ _
      · first | assumption | exact Same.refl _ _
    · first | assumption | exact Same.refl _ _

theorem atomIter_same : ∀ a0 a1 a2 a3 a4 a5 r0, Same 18016528498188198 r0.s (atomIter a0 a1 a2 a3 a4 a5 r0).s := by
  intro a0 a1 a2 a3 a4 a5 r0
  unfold atomIter
  extract_lets -merge -underBinder -useContext +onlyGivenNames x1 x2 x3
  refine Same.iteRun ?_ ?_
  · first | assumption | exact Same.refl _ _
  · refine Same.iteRun ?_ ?_
    · extract_lets -merge -underBinder -useContext +onlyGivenNames x4
      dsimp -zeta only
      refine Same.thru (askRoom_same ..) rfl ?_
      refine Same.thru (oneMore_same ..) rfl ?_
      first | assumption | exact Same.refl _ _
    · extract_lets -merge -underBinder -useContext +onlyGivenNames x5 x6
      have h7 : Same 18016528498188198 r0.s x6.s := by
        unfold x6
        first | assumption | exact Same.refl _ _
      clear_value x6
      refine Same.iteRun ?_ ?_
      · refine Same.thru (Run.stop_same ..) rfl ?_
        first | assumption | exact Same.refl _ _
      · refine Same.iteRun ?_ ?_
        · refine Same.thru (Run.stop_same ..) rfl ?_
          first | assumption | exact Same.refl _ _
        · split
          rename_i v8 v9 v10 hq11
          extract_lets -merge -underBinder -useContext +onlyGivenNames x12
          have h13 : Same 18016528498188198 r0.s x12.s := by
            unfold x12
            have h14 : Same 18016528498188198 r0.s v10 := Same.of_eq Prod.snd hq11 (by
              refine Same.thru (homeAtomic_same ..) rfl ?_
              refine Same.thru (nearSee_same ..) rfl ?_
              first | assumption | exact Same.refl _ _
              )
            first | assumption | exact Same.refl _ _
          clear_value x12
          refine Same.iteRun ?_ ?_
          · refine Same.thru (Run.stop_same ..) rfl ?_
            first | assumption | exact Same.refl _ _
          · refine Same.iteRun ?_ ?_
            · first | assumption | exact Same.refl _ _
            · refine Same.iteRun ?_ ?_
              · extract_lets -merge -underBinder -useContext +onlyGivenNames x15
                have h16 : Same 18016528498188198 r0.s x15.s := by
                  unfold x15
                  refine Same.thru (Run.stop_same ..) rfl ?_
                  first | assumption | exact Same.refl _ _
                clear_value x15
                first | assumption | exact Same.refl _ _
              · extract_lets -merge -underBinder -useContext +onlyGivenNames x17
                have h18 : Same 18016528498188198 r0.s x17.s := by
                  unfold x17
                  dsimp -zeta only
                  refine Same.thru (slotsSet_same ..) rfl ?_
                  first | assumption | exact Same.refl _ _
                clear_value x17
                refine Same.iteRun ?_ ?_
                · refine Same.thru (takeOld_same ..) rfl ?_
                  first | assumption | exact Same.refl _ _
                · first | assumption | exact Same.refl _ _

theorem keepPart_same : ∀ a0 a1 a2 a3 a4 r0, Same 34359738368 r0.s (keepPart a0 a1 a2 a3 a4 r0).s := by
  intro a0 a1 a2 a3 a4 r0
  unfold keepPart
  dsimp -zeta only
  refine Same.thru (updFly_same ..) rfl ?_
  first | assumption | exact Same.refl _ _

theorem takeParts_same : ∀ a0 a1 a2 a3 a4 a5 r0, Same 34359738368 r0.s (takeParts a0 a1 a2 a3 a4 a5 r0).2.s := by
  intro a0 a1 a2 a3 a4 a5 r0
  unfold takeParts
  extract_lets -merge -underBinder -useContext +onlyGivenNames x1
  dsimp -zeta only
  refine Same.thru (updFly_same ..) rfl ?_
  first | assumption | exact Same.refl _ _

theorem chunkDo_same : ∀ a0 a1 a2 a3 a4 a5 r0, Same 18016528498188198 r0.s (chunkDo a0 a1 a2 a3 a4 a5 r0).s := by
  intro a0 a1 a2 a3 a4 a5 r0
  unfold chunkDo
  extract_lets -merge -underBinder -useContext +onlyGivenNames x1
  refine Same.iteRun ?_ ?_
  · refine Same.thru (atomIter_same ..) rfl ?_
    first | assumption | exact Same.refl _ _
  · extract_lets -merge -underBinder -useContext +onlyGivenNames x2 x3 x4 x5
    refine Same.iteRun ?_ ?_
    · refine Same.thru (copyPut_same ..) rfl ?_
      first | assumption | exact Same.refl _ _
    · refine Same.iteRun ?_ ?_
      · first | assumption | exact Same.refl _ _
      · refine Same.iteRun ?_ ?_
        · refine Same.thru (keepPart_same ..) rfl ?_
          first | assumption | exact Same.refl _ _
        · split
          rename_i v6 v7 v8 hq9
          refine Same.thru (copyPut_same ..) rfl ?_
          have h10 : Same 18016528498188198 r0.s v8.s := Same.of_eq (fun z : List Byte × Run => z.2.s) hq9 (by
            refine Same.thru (takeParts_same ..) rfl ?_
            first | assumption | exact Same.refl _ _
            )
          first | assumption | exact Same.refl _ _

theorem giveStep_thru : ∀ {m sb a0 a1 a2 a3 a4 r0 a6} (hm : 34359738368 ||| m = m) (hf0 : ∀ y0 y1 y2 z, Same m sb z.s → Same m sb (a0 y0 y1 y2 z).s) (hs : Same m sb r0.s), Same m sb (giveStep a0 a1 a2 a3 a4 r0 a6).s := by
  intro m sb a0 a1 a2 a3 a4 r0 a6 hm hf0 hs
  unfold giveStep
  split
  · first | assumption | exact Same.refl _ _
  · split
    · first | assumption | exact Same.refl _ _
    · refine Same.iteRun ?_ ?_
      · first | assumption | exact Same.refl _ _
      · refine hf0 _ _ _ _ ?_
        dsimp -zeta only
        refine Same.thru (updFly_same ..) (Same.sub hm rfl) ?_
        first | assumption | exact Same.refl _ _

theorem giveData_thru : ∀ {m sb a0 a1 a2 a3 a4 a5 a6 r0} (hm : 34359738368 ||| m = m) (hf0 : ∀ y0 y1 y2 z, Same m sb z.s → Same m sb (a0 y0 y1 y2 z).s) (hs : Same m sb r0.s), Same m sb (giveData a0 a1 a2 a3 a4 a5 a6 r0).s := by
  intro m sb a0 a1 a2 a3 a4 a5 a6 r0 hm hf0 hs
  unfold giveData
  refine Same.iteRun ?_ ?_
  · first | assumption | exact Same.refl _ _
  · extract_lets -merge -underBinder -useContext +onlyGivenNames x1 x2 x3
    have h4 : Same m sb x2.s := by
      unfold x2
      dsimp -zeta only
      refine Same.thru (updFly_same ..) (Same.sub hm rfl) ?_
      first | assumption | exact Same.refl _ _
    clear_value x2
    refine Run.part_thru (Same.sub hm rfl) ?_ ?_
    · intro y5 hy6
      refine Same.foldlPart Run.s (fun r7 e8 h9 => ?_) ?_
      · refine giveStep_thru (Same.sub hm rfl) ?_ ?_
        · intro y10 y11 y12 y13 hy14
          refine hf0 _ _ _ _ ?_
          first | assumption | exact Same.refl _ _
        · first | assumption | exact Same.refl _ _
      · first | assumption | exact Same.refl _ _
    · first | assumption | exact Same.refl _ _

theorem resumePuts_same : ∀ a0 a1 a2 a3 r0, Same 18016528498188198 r0.s (resumePuts a0 a1 a2 a3 r0).s := by
  intro a0 a1 a2 a3 r0
  unfold resumePuts
  extract_lets -merge -underBinder -useContext +onlyGivenNames x1
  refine Same.iteRun ?_ ?_
  · first | assumption | exact Same.refl _ _
  · refine Run.part_thru rfl ?_ ?_
    · intro y2 hy3
      refine Same.foldlPart Run.s (fun r4 e5 h6 => ?_) ?_
      · refine giveStep_thru rfl ?_ ?_
        · intro y7 y8 y9 y10 hy11
          refine Same.thru (chunkDo_same ..) rfl ?_
          first | assumption | exact Same.refl _ _
        · first | assumption | exact Same.refl _ _
      · first | assumption | exact Same.refl _ _
    · first | assumption | exact Same.refl _ _

theorem copyGet_same : ∀ a0 a1 a2 a3 a4 a5 a6 r0, Same 44024992768 r0.s (copyGet a0 a1 a2 a3 a4 a5 a6 r0).2.s := by
  intro a0 a1 a2 a3 a4 a5 a6 r0
  unfold copyGet
  split
  · refine Same.thru (spRead_same ..) rfl ?_
    first | assumption | exact Same.refl _ _
  · split
    · rename_i v1 v2 hq3
      dsimp -zeta only
      refine Same.thru (Run.stop_same ..) rfl ?_
      have h4 : Same 44024992768 r0.s v2 := Same.of_eq Prod.snd hq3 (by
        refine Same.thru (memRead_same ..) rfl ?_
        first | assumption | exact Same.refl _ _
        )
      first | assumption | exact Same.refl _ _
    · rename_i v5 v6 v7 hq8
      dsimp -zeta only
      refine Same.thru (nearSee_same ..) rfl ?_
      have h9 : Same 44024992768 r0.s v7 := Same.of_eq Prod.snd hq8 (by
        refine Same.thru (memRead_same ..) rfl ?_
        first | assumption | exact Same.refl _ _
        )
      first | assumption | exact Same.refl _ _
  · first | assumption | exact Same.refl _ _
  · first | assumption | exact Same.refl _ _

theorem copyAsk_same : ∀ a0 a1 a2 a3 a4 a5 a6 a7 s0, Same 1958575346688 s0 (copyAsk a0 a1 a2 a3 a4 a5 a6 a7 s0) := by
  intro a0 a1 a2 a3 a4 a5 a6 a7 s0
  unfold copyAsk
  refine Same.thru (askRoom_same ..) rfl ?_
  refine Same.thru (oneMore_same ..) rfl ?_
  first | assumption | exact Same.refl _ _

theorem chunkRead_thru : ∀ {m sb a0 a1 a2 a3 a4 a5 a6 r0} (hm : 1968239547392 ||| m = m) (hf0 : ∀ y0 y1 y2 z, Same m sb z.s → Same m sb (a0 y0 y1 y2 z).s) (hs : Same m sb r0.s), Same m sb (chunkRead a0 a1 a2 a3 a4 a5 a6 r0).s := by
  intro m sb a0 a1 a2 a3 a4 a5 a6 r0 hm hf0 hs
  unfold chunkRead
  extract_lets -merge -underBinder -useContext +onlyGivenNames x1 x2 x3 x4
  refine Same.iteRun ?_ ?_
  · split
    rename_i v5 v6 v7 hq8
    refine giveData_thru (Same.sub hm rfl) ?_ ?_
    · intro y9 y10 y11 y12 hy13
      refine hf0 _ _ _ _ ?_
      first | assumption | exact Same.refl _ _
    · have h14 : Same m sb v7.s := Same.of_eq (fun z : List Byte × Run => z.2.s) hq8 (by
        refine Same.thru (copyGet_same ..) (Same.sub hm rfl) ?_
        first | assumption | exact Same.refl _ _
        )
      first | assumption | exact Same.refl _ _
  · refine Same.iteRun ?_ ?_
    · dsimp -zeta only
      refine Same.thru (copyAsk_same ..) (Same.sub hm rfl) ?_
      first | assumption | exact Same.refl _ _
    · first | assumption | exact Same.refl _ _

theorem copyStep_same : ∀ a0 a1 a2 a3 r0, Same 18016528498188198 r0.s (copyStep a0 a1 a2 a3 r0).s := by
  intro a0 a1 a2 a3 r0
  unfold copyStep
  extract_lets -merge -underBinder -useContext +onlyGivenNames x1
  refine Same.iteRun ?_ ?_
  · refine giveData_thru rfl ?_ ?_
    · intro y2 y3 y4 y5 hy6
      refine Same.thru (chunkDo_same ..) rfl ?_
      first | assumption | exact Same.refl _ _
    · first | assumption | exact Same.refl _ _
  · refine chunkRead_thru rfl ?_ ?_
    · intro y7 y8 y9 y10 hy11
      refine Same.thru (chunkDo_same ..) rfl ?_
      first | assumption | exact Same.refl _ _
    · first | assumption | exact Same.refl _ _

theorem doCopy_same : ∀ a0 a1 a2 s0, Same 18016528498188198 s0 (doCopy a0 a1 a2 s0) := by
  intro a0 a1 a2 s0
  unfold doCopy
  extract_lets -merge -underBinder -useContext +onlyGivenNames x1
  split
  · first | assumption | exact Same.refl _ _
  · refine Same.ite ?_ ?_
    · first | assumption | exact Same.refl _ _
    · extract_lets -merge -underBinder -useContext +onlyGivenNames x2
      refine Same.thru (finishRun_same ..) rfl ?_
      refine runEvs_thru rfl ?_ ?_
      · intro y3 y4 hy5
        refine Same.thru (copyStep_same ..) rfl ?_
        first | assumption | exact Same.refl _ _
      · first | assumption | exact Same.refl _ _

theorem doBankAtomic_same : ∀ a0 a1 a2 a3 a4 s0, Same 18014741721538470 s0 (doBankAtomic a0 a1 a2 a3 a4 s0) := by
  intro a0 a1 a2 a3 a4 s0
  unfold doBankAtomic
  extract_lets -merge -underBinder -useContext +onlyGivenNames x1 x2
  refine Same.ite ?_ ?_
  · refine Same.thru (report_same ..) rfl ?_
    first | assumption | exact Same.refl _ _
  · refine Same.ite ?_ ?_
    · first | assumption | exact Same.refl _ _
    · extract_lets -merge -underBinder -useContext +onlyGivenNames x3 x4 x5
      refine Same.thru (bankAtomics_same ..) rfl ?_
      first | assumption | exact Same.refl _ _

theorem execCopy_same : ∀ a0 a1 a2 s0 t, execCopy a0 a1 a2 s0 = .next t → Same 18016528498188198 s0 t := by
  intro a0 a1 a2 s0 t ht
  unfold execCopy at ht
  refine Same.next ht ?_
  refine Same.thru (doCopy_same ..) rfl ?_
  first | assumption | exact Same.refl _ _

theorem execFill_same : ∀ a0 a1 a2 s0 t, execFill a0 a1 a2 s0 = .next t → Same 18016528498188198 s0 t := by
  intro a0 a1 a2 s0 t ht
  unfold execFill at ht
  refine Same.next ht ?_
  refine Same.thru (doCopy_same ..) rfl ?_
  first | assumption | exact Same.refl _ _

theorem execAtom_same : ∀ a0 a1 a2 s0 t, execAtom a0 a1 a2 s0 = .next t → Same 18016528498188198 s0 t := by
  intro a0 a1 a2 s0 t ht
  unfold execAtom at ht
  refine Same.next ht ?_
  refine Same.thru (doCopy_same ..) rfl ?_
  first | assumption | exact Same.refl _ _

theorem execBankAtomic_same : ∀ a0 a1 a2 a3 a4 a5 s0 t, execBankAtomic a0 a1 a2 a3 a4 a5 s0 = .next t → Same 18014741721538470 s0 t := by
  intro a0 a1 a2 a3 a4 a5 s0 t ht
  unfold execBankAtomic at ht
  refine Same.next ht ?_
  refine Same.thru (doBankAtomic_same ..) rfl ?_
  first | assumption | exact Same.refl _ _

end Sys2Proof.Machine
end

