-- ==== Sys2Proof/Laws/FramePort.lean ====
section
/-! SUPPORT. Laws/FramePort.lean: which fields of the state each operation of Machine/Port.lean may change. -/
namespace Sys2Proof.Machine
open Sys2Proof

theorem emitFrame_same : ∀ a0 a1 a2 s0, Same 18014398509481984 s0 (emitFrame a0 a1 a2 s0) := by
  intro a0 a1 a2 s0
  unfold emitFrame
  refine Same.thru (emit_same ..) rfl ?_
  first | assumption | exact Same.refl _ _

theorem emitIdle_same : ∀ a0 a1 s0, Same 18014398509481984 s0 (emitIdle a0 a1 s0) := by
  intro a0 a1 s0
  unfold emitIdle
  refine Same.thru (emit_same ..) rfl ?_
  first | assumption | exact Same.refl _ _

theorem cutFrame_same : ∀ a0 s0, Same 18014398513676288 s0 (cutFrame a0 s0) := by
  intro a0 s0
  unfold cutFrame
  extract_lets -merge -underBinder -useContext +onlyGivenNames x1 x2
  split
  extract_lets -merge -underBinder -useContext +onlyGivenNames x3 x4
  refine Same.thru (emitFrame_same ..) rfl ?_
  refine Same.thru (updOe_same ..) rfl ?_
  first | assumption | exact Same.refl _ _

theorem sendCredit_same : ∀ a0 s0, Same 18014398513676288 s0 (sendCredit a0 s0) := by
  intro a0 s0
  unfold sendCredit
  extract_lets -merge -underBinder -useContext +onlyGivenNames x1 x2 x3
  refine Same.ite ?_ ?_
  · first | assumption | exact Same.refl _ _
  · extract_lets -merge -underBinder -useContext +onlyGivenNames x4
    refine Same.thru (emit_same ..) rfl ?_
    refine Same.thru (updOe_same ..) rfl ?_
    first | assumption | exact Same.refl _ _

theorem giveRoom_same : ∀ a0 s0, Same 18014398513676288 s0 (giveRoom a0 s0) := by
  intro a0 s0
  unfold giveRoom
  refine Same.ite ?_ ?_
  · first | assumption | exact Same.refl _ _
  · extract_lets -merge -underBinder -useContext +onlyGivenNames x1 x2 x3 x4
    have h5 : Same 18014398513676288 s0 x4 := by
      unfold x4
      refine Same.thru (updOe_same ..) rfl ?_
      first | assumption | exact Same.refl _ _
    clear_value x4
    refine Same.ite ?_ ?_
    · refine Same.thru (sendCredit_same ..) rfl ?_
      first | assumption | exact Same.refl _ _
    · first | assumption | exact Same.refl _ _

theorem judgeThrottle_same : ∀ a0 a1 s0, Same 4195328 s0 (judgeThrottle a0 a1 s0) := by
  intro a0 a1 s0
  unfold judgeThrottle
  extract_lets -merge -underBinder -useContext +onlyGivenNames x1 x2 x3 x4
  refine Same.ite ?_ ?_
  · refine Same.thru (updOe_same ..) rfl ?_
    first | assumption | exact Same.refl _ _
  · refine Same.ite ?_ ?_
    · refine Same.thru (bumpBlob_same ..) rfl ?_
      refine Same.thru (updOe_same ..) rfl ?_
      first | assumption | exact Same.refl _ _
    · first | assumption | exact Same.refl _ _

theorem giveInjection_same : ∀ a0 a1 s0, Same 6442979332 s0 (giveInjection a0 a1 s0) := by
  intro a0 a1 s0
  unfold giveInjection
  refine Same.ite ?_ ?_
  · refine Same.thru (semEvent_same ..) rfl ?_
    first | assumption | exact Same.refl _ _
  · first | assumption | exact Same.refl _ _

theorem sendReturns_same : ∀ a0 s0, Same 4194304 s0 (sendReturns a0 s0) := by
  intro a0 s0
  unfold sendReturns
  extract_lets -merge -underBinder -useContext +onlyGivenNames x1 x2 x3
  refine Same.thru (updOe_same ..) rfl ?_
  first | assumption | exact Same.refl _ _

theorem dequeue_same : ∀ a0 a1 s0, Same 18014404956656644 s0 (dequeue a0 a1 s0) := by
  intro a0 a1 s0
  unfold dequeue
  extract_lets -merge -underBinder -useContext +onlyGivenNames x1 x2
  have h3 : Same 18014404956656644 s0 x1 := by
    unfold x1
    refine Same.thru (updOe_same ..) rfl ?_
    first | assumption | exact Same.refl _ _
  clear_value x1
  have h4 : Same 18014404956656644 s0 x2 := by
    unfold x2
    refine Same.thru (judgeThrottle_same ..) rfl ?_
    refine Same.thru (giveRoom_same ..) rfl ?_
    refine Same.thru (giveInjection_same ..) rfl ?_
    first | assumption | exact Same.refl _ _
  clear_value x2
  refine Same.ite ?_ ?_
  · first | assumption | exact Same.refl _ _
  · refine Same.thru (sendReturns_same ..) rfl ?_
    first | assumption | exact Same.refl _ _

theorem loseQ_same : ∀ a0 a1 s0, Same 274884203520 s0 (loseQ a0 a1 s0) := by
  intro a0 a1 s0
  unfold loseQ
  extract_lets -merge -underBinder -useContext +onlyGivenNames x1
  have h2 : Same 274884203520 s0 x1 := by
    unfold x1
    refine Same.thru (updOe_same ..) rfl ?_
    first | assumption | exact Same.refl _ _
  clear_value x1
  refine Same.thru (judgeThrottle_same ..) rfl ?_
  refine Same.thru (lose_same ..) rfl ?_
  first | assumption | exact Same.refl _ _

theorem sendQ_same : ∀ a0 a1 a2 s0, Same 18014404956656644 s0 (sendQ a0 a1 a2 s0) := by
  intro a0 a1 a2 s0
  unfold sendQ
  extract_lets -merge -underBinder -useContext +onlyGivenNames x1 x2 x3 x4 x5
  have h6 : Same 18014404956656644 s0 x4 := by
    unfold x4
    refine Same.thru (updOe_same ..) rfl ?_
    first | assumption | exact Same.refl _ _
  clear_value x4
  have h7 : Same 18014404956656644 s0 x5 := by
    unfold x5
    refine Same.thru (countHop_same ..) rfl ?_
    first | assumption | exact Same.refl _ _
  clear_value x5
  refine Same.thru (dequeue_same ..) rfl ?_
  refine Same.thru (bumpBlob_same ..) rfl ?_
  refine Same.thru (emit_same ..) rfl ?_
  first | assumption | exact Same.refl _ _

theorem releaseMarkers_same : ∀ a0 s0, Same 4194304 s0 (releaseMarkers a0 s0) := by
  intro a0 s0
  unfold releaseMarkers
  extract_lets -merge -underBinder -useContext +onlyGivenNames x1 x2 x3
  refine Same.thru (updOe_same ..) rfl ?_
  first | assumption | exact Same.refl _ _

theorem pumpN_same : ∀ a0 a1 s0, Same 18014679836660740 s0 (pumpN a0 a1 s0) := by
  intro a0 a1 s0
  induction a0 generalizing a1 s0
  · unfold pumpN
    first | assumption | exact Same.refl _ _
  · rename_i i0 ih
    unfold pumpN
    extract_lets -merge -underBinder -useContext +onlyGivenNames x1 x2 x3
    have h4 : Same 18014679836660740 s0 x1 := by
      unfold x1
      refine Same.thru (releaseMarkers_same ..) rfl ?_
      first | assumption | exact Same.refl _ _
    clear_value x1
    have h5 : Same 18014679836660740 s0 x2 := by
      unfold x2
      refine Same.ite ?_ ?_
      · refine Same.foldl (fun r6 e7 h8 => ?_) ?_
        · refine Same.thru (loseQ_same ..) rfl ?_
          first | assumption | exact Same.refl _ _
        · first | assumption | exact Same.refl _ _
      · first | assumption | exact Same.refl _ _
    clear_value x2
    refine Same.ite ?_ ?_
    · first | assumption | exact Same.refl _ _
    · refine Same.ite ?_ ?_
      · refine Same.thru (ih ..) rfl ?_
        refine Same.thru (cutFrame_same ..) rfl ?_
        first | assumption | exact Same.refl _ _
      · split
        · refine Same.thru (ih ..) rfl ?_
          refine Same.thru (sendQ_same ..) rfl ?_
          first | assumption | exact Same.refl _ _
        · refine Same.ite ?_ ?_
          · first | assumption | exact Same.refl _ _
          · refine Same.thru (cutFrame_same ..) rfl ?_
            first | assumption | exact Same.refl _ _

theorem pump_same : ∀ a0 s0, Same 18014679836660740 s0 (pump a0 s0) := by
  intro a0 s0
  unfold pump
  extract_lets -merge -underBinder -useContext +onlyGivenNames x1
  refine Same.thru (pumpN_same ..) rfl ?_
  first | assumption | exact Same.refl _ _

theorem enqueue_same : ∀ a0 a1 s0, Same 18014679836660756 s0 (enqueue a0 a1 s0) := by
  intro a0 a1 s0
  unfold enqueue
  extract_lets -merge -underBinder -useContext +onlyGivenNames x1 x2
  have h3 : Same 18014679836660756 s0 x2 := by
    unfold x2
    refine Same.thru (updOe_same ..) rfl ?_
    refine Same.thru (Same.put_nextUid _ _) rfl ?_
    first | assumption | exact Same.refl _ _
  clear_value x2
  refine Same.thru (pump_same ..) rfl ?_
  refine Same.thru (judgeThrottle_same ..) rfl ?_
  first | assumption | exact Same.refl _ _

theorem sendOpt_same : ∀ a0 a1 s0, Same 18014679836660740 s0 (sendOpt a0 a1 s0) := by
  intro a0 a1 s0
  unfold sendOpt
  extract_lets -merge -underBinder -useContext +onlyGivenNames x1
  refine Same.ite ?_ ?_
  · refine Same.thru (pump_same ..) rfl ?_
    refine Same.thru (updOe_same ..) rfl ?_
    refine Same.thru (emit_same ..) rfl ?_
    first | assumption | exact Same.refl _ _
  · refine Same.ite ?_ ?_
    · refine Same.thru (emit_same ..) rfl ?_
      refine Same.thru (emit_same ..) rfl ?_
      first | assumption | exact Same.refl _ _
    · first | assumption | exact Same.refl _ _

end Sys2Proof.Machine
end

