-- ==== Sys2Proof/Laws/FrameFabric.lean ====
section
/-! SUPPORT. Laws/FrameFabric.lean: which fields of the state each operation of Machine/Fabric.lean may change. -/
namespace Sys2Proof.Machine
open Sys2Proof

theorem discardMpk_same : ∀ a0 a1 a2 s0, Same 5120 s0 (discardMpk a0 a1 a2 s0) := by
  intro a0 a1 a2 s0
  unfold discardMpk
  refine Same.thru (bumpBlob_same ..) rfl ?_
  refine Same.thru (report_same ..) rfl ?_
  first | assumption | exact Same.refl _ _

theorem discardOld_same : ∀ a0 a1 s0, Same 134222848 s0 (discardOld a0 a1 s0) := by
  intro a0 a1 s0
  unfold discardOld
  refine Same.thru (discardGen_same ..) rfl ?_
  refine Same.thru (report_same ..) rfl ?_
  first | assumption | exact Same.refl _ _

theorem addOut_same : ∀ a0 a1 a2 a3 s0, Same 2199023255552 s0 (addOut a0 a1 a2 a3 s0) := by
  intro a0 a1 a2 a3 s0
  unfold addOut
  refine Same.thru (Same.put_outst _ _ (fun h => wf_tset h)) rfl ?_
  first | assumption | exact Same.refl _ _

theorem stampFences_same : ∀ a0 a1 s0, Same 8796093022208 s0 (stampFences a0 a1 s0) := by
  intro a0 a1 s0
  unfold stampFences
  refine Same.ite ?_ ?_
  · refine Same.thru (Same.put_fences _ _ (fun h => wf_tset h)) rfl ?_
    first | assumption | exact Same.refl _ _
  · first | assumption | exact Same.refl _ _

theorem subOut_same : ∀ a0 a1 a2 a3 s0, Same 10995116277760 s0 (subOut a0 a1 a2 a3 s0) := by
  intro a0 a1 a2 a3 s0
  unfold subOut
  refine Same.thru (stampFences_same ..) rfl ?_
  refine Same.thru (Same.put_outst _ _ (fun h => wf_tset h)) rfl ?_
  first | assumption | exact Same.refl _ _

theorem openEpoch_same : ∀ a0 s0, Same 18014398526263200 s0 (openEpoch a0 s0) := by
  intro a0 s0
  unfold openEpoch
  extract_lets -merge -underBinder -useContext +onlyGivenNames x1
  have h2 : Same 18014398526263200 s0 x1 := by
    unfold x1
    refine Same.thru (numSet_same ..) rfl ?_
    first | assumption | exact Same.refl _ _
  clear_value x1
  refine Same.thru (journal_same ..) rfl ?_
  first | assumption | exact Same.refl _ _

theorem latch_same : ∀ a0 a1 a2 a3 a4 s0, Same 4398046511104 s0 (latch a0 a1 a2 a3 a4 s0) := by
  intro a0 a1 a2 a3 a4 s0
  unfold latch
  refine Same.ite ?_ ?_
  · refine Same.thru (Same.put_latches _ _ (fun h => wf_tset h)) rfl ?_
    first | assumption | exact Same.refl _ _
  · first | assumption | exact Same.refl _ _

theorem oneLess_same : ∀ a0 a1 a2 s0, Same 34359738368 s0 (oneLess a0 a1 a2 s0) := by
  intro a0 a1 a2 s0
  unfold oneLess
  extract_lets -merge -underBinder -useContext +onlyGivenNames x1
  refine Same.thru (updFly_same ..) rfl ?_
  first | assumption | exact Same.refl _ _

theorem refillLanding_same : ∀ a0 s0, Same 6442979332 s0 (refillLanding a0 s0) := by
  intro a0 s0
  unfold refillLanding
  refine Same.ite ?_ ?_
  · first | assumption | exact Same.refl _ _
  · refine Same.thru (semEvent_same ..) rfl ?_
    first | assumption | exact Same.refl _ _

theorem landDone_same : ∀ a0 s0, Same 72333762499588 s0 (landDone a0 s0) := by
  intro a0 s0
  unfold landDone
  extract_lets -merge -underBinder -useContext +onlyGivenNames x1 x2
  have h3 : Same 72333762499588 s0 x1 := by
    unfold x1
    refine Same.thru (sendAsks_same ..) rfl ?_
    refine Same.thru (refillLanding_same ..) rfl ?_
    refine Same.thru (Same.put_mtxns _ _) rfl ?_
    first | assumption | exact Same.refl _ _
  clear_value x1
  have h4 : Same 72333762499588 s0 x2 := by
    unfold x2
    refine Same.ite ?_ ?_
    · refine Same.thru (semEvent_same ..) rfl ?_
      first | assumption | exact Same.refl _ _
    · first | assumption | exact Same.refl _ _
  clear_value x2
  refine Same.ite ?_ ?_
  · refine Same.thru (oneLess_same ..) rfl ?_
    first | assumption | exact Same.refl _ _
  · first | assumption | exact Same.refl _ _

theorem landFail_same : ∀ a0 a1 a2 s0, Same 18091157849923494 s0 (landFail a0 a1 a2 s0) := by
  intro a0 a1 a2 s0
  unfold landFail
  extract_lets -merge -underBinder -useContext +onlyGivenNames x1
  have h2 : Same 18091157849923494 s0 x1 := by
    unfold x1
    refine Same.thru (sendAsks_same ..) rfl ?_
    refine Same.thru (refillLanding_same ..) rfl ?_
    refine Same.thru (latch_same ..) rfl ?_
    refine Same.thru (Same.put_mtxns _ _) rfl ?_
    first | assumption | exact Same.refl _ _
  clear_value x1
  refine Same.ite ?_ ?_
  · first | assumption | exact Same.refl _ _
  · split
    · extract_lets -merge -underBinder -useContext +onlyGivenNames x3
      refine Same.ite ?_ ?_
      · refine Same.thru (oneLess_same ..) rfl ?_
        first | assumption | exact Same.refl _ _
      · refine Same.thru (haltFly_same ..) rfl ?_
        first | assumption | exact Same.refl _ _
    · first | assumption | exact Same.refl _ _

theorem landWrite_same : ∀ a0 a1 s0, Same 18091295288876966 s0 (landWrite a0 a1 s0) := by
  intro a0 a1 s0
  unfold landWrite
  refine Same.ite ?_ ?_
  · refine Same.thru (request_same ..) rfl ?_
    first | assumption | exact Same.refl _ _
  · split
    · split
      rename_i v1 v2 v3 hq4
      refine Same.ite ?_ ?_
      · refine Same.thru (landDone_same ..) rfl ?_
        have h5 : Same 18091295288876966 s0 v3 := Same.of_eq Prod.snd hq4 (by
          refine Same.thru (landBytes_same ..) rfl ?_
          first | assumption | exact Same.refl _ _
          )
        first | assumption | exact Same.refl _ _
      · refine Same.thru (landFail_same ..) rfl ?_
        have h6 : Same 18091295288876966 s0 v3 := Same.of_eq Prod.snd hq4 (by
          refine Same.thru (landBytes_same ..) rfl ?_
          first | assumption | exact Same.refl _ _
          )
        first | assumption | exact Same.refl _ _
    · refine Same.thru (landDone_same ..) rfl ?_
      refine Same.thru (memWrite_same ..) rfl ?_
      refine Same.thru (nearInbound_same ..) rfl ?_
      first | assumption | exact Same.refl _ _

theorem dataLands_same : ∀ a0 s0, Same 18102290405154726 s0 (dataLands a0 s0) := by
  intro a0 s0
  unfold dataLands
  extract_lets -merge -underBinder -useContext +onlyGivenNames x1
  have h2 : Same 18102290405154726 s0 x1 := by
    unfold x1
    refine Same.thru (subOut_same ..) rfl ?_
    first | assumption | exact Same.refl _ _
  clear_value x1
  split
  · first | assumption | exact Same.refl _ _
  · refine Same.thru (landWrite_same ..) rfl ?_
    first | assumption | exact Same.refl _ _

theorem dataRefused_same : ∀ a0 s0, Same 18102152966201254 s0 (dataRefused a0 s0) := by
  intro a0 s0
  unfold dataRefused
  extract_lets -merge -underBinder -useContext +onlyGivenNames x1
  have h2 : Same 18102152966201254 s0 x1 := by
    unfold x1
    refine Same.thru (subOut_same ..) rfl ?_
    first | assumption | exact Same.refl _ _
  clear_value x1
  split
  · first | assumption | exact Same.refl _ _
  · refine Same.thru (landFail_same ..) rfl ?_
    first | assumption | exact Same.refl _ _

theorem dataHere_same : ∀ a0 s0, Same 18102290405154726 s0 (dataHere a0 s0) := by
  intro a0 s0
  unfold dataHere
  refine Same.ite ?_ ?_
  · refine Same.thru (dataLands_same ..) rfl ?_
    first | assumption | exact Same.refl _ _
  · refine Same.thru (dataRefused_same ..) rfl ?_
    first | assumption | exact Same.refl _ _

theorem atomRefused_same : ∀ a0 s0, Same 18014466843631526 s0 (atomRefused a0 s0) := by
  intro a0 s0
  unfold atomRefused
  split
  · refine Same.ite ?_ ?_
    · refine Same.thru (haltFly_same ..) rfl ?_
      first | assumption | exact Same.refl _ _
    · first | assumption | exact Same.refl _ _
  · first | assumption | exact Same.refl _ _

theorem ackHere_same : ∀ a0 s0, Same 18029860006420390 s0 (ackHere a0 s0) := by
  intro a0 s0
  unfold ackHere
  extract_lets -merge -underBinder -useContext +onlyGivenNames x1
  have h2 : Same 18029860006420390 s0 x1 := by
    unfold x1
    refine Same.thru (subOut_same ..) rfl ?_
    first | assumption | exact Same.refl _ _
  clear_value x1
  refine Same.ite ?_ ?_
  · first | assumption | exact Same.refl _ _
  · extract_lets -merge -underBinder -useContext +onlyGivenNames x3
    have h4 : Same 18029860006420390 s0 x3 := by
      unfold x3
      refine Same.thru (latch_same ..) rfl ?_
      first | assumption | exact Same.refl _ _
    clear_value x3
    refine Same.ite ?_ ?_
    · refine Same.thru (atomRefused_same ..) rfl ?_
      first | assumption | exact Same.refl _ _
    · first | assumption | exact Same.refl _ _

theorem answerHere_same : ∀ a0 s0, Same 18102290405154726 s0 (answerHere a0 s0) := by
  intro a0 s0
  unfold answerHere
  refine Same.ite ?_ ?_
  · refine Same.thru (dataHere_same ..) rfl ?_
    first | assumption | exact Same.refl _ _
  · refine Same.thru (ackHere_same ..) rfl ?_
    first | assumption | exact Same.refl _ _

theorem takeOne_same : ∀ a0 a1 s0, Same 18102290409349046 s0 (takeOne a0 a1 s0) := by
  intro a0 a1 s0
  unfold takeOne
  extract_lets -merge -underBinder -useContext +onlyGivenNames x1
  have h2 : Same 18102290409349046 s0 x1 := by
    unfold x1
    refine Same.thru (updPd_same ..) rfl ?_
    first | assumption | exact Same.refl _ _
  clear_value x1
  split
  · refine Same.thru (enqueue_same ..) rfl ?_
    first | assumption | exact Same.refl _ _
  · refine Same.thru (answerHere_same ..) rfl ?_
    first | assumption | exact Same.refl _ _
  · first | assumption | exact Same.refl _ _

theorem takeCame_same : ∀ a0 s0, Same 18102290409349046 s0 (takeCame a0 s0) := by
  intro a0 s0
  unfold takeCame
  refine Same.foldl (fun r1 e2 h3 => ?_) ?_
  · refine Same.thru (takeOne_same ..) rfl ?_
    first | assumption | exact Same.refl _ _
  · first | assumption | exact Same.refl _ _

theorem sendTo_same : ∀ a0 a1 a2 a3 s0, Same 18102290409349046 s0 (sendTo a0 a1 a2 a3 s0) := by
  intro a0 a1 a2 a3 s0
  unfold sendTo
  refine Same.thru (takeCame_same ..) rfl ?_
  refine Same.thru (sendCargo_same ..) rfl ?_
  first | assumption | exact Same.refl _ _

theorem toDie_same : ∀ a0 a1 s0, Same 18102290409349046 s0 (toDie a0 a1 s0) := by
  intro a0 a1 s0
  unfold toDie
  extract_lets -merge -underBinder -useContext +onlyGivenNames x1
  refine Same.thru (takeCame_same ..) rfl ?_
  refine Same.foldl (fun r2 e3 h4 => ?_) ?_
  · refine Same.thru (sendCargo_same ..) rfl ?_
    first | assumption | exact Same.refl _ _
  · first | assumption | exact Same.refl _ _

theorem routeOut_same : ∀ a0 a1 s0, Same 18102290409349046 s0 (routeOut a0 a1 s0) := by
  intro a0 a1 s0
  unfold routeOut
  split
  · refine Same.thru (discardMpk_same ..) rfl ?_
    first | assumption | exact Same.refl _ _
  · extract_lets -merge -underBinder -useContext +onlyGivenNames x1 x2
    refine Same.ite ?_ ?_
    · refine Same.thru (discardMpk_same ..) rfl ?_
      first | assumption | exact Same.refl _ _
    · refine Same.thru (sendTo_same ..) rfl ?_
      first | assumption | exact Same.refl _ _

theorem sendAnswer_same : ∀ a0 a1 s0, Same 18102290409349046 s0 (sendAnswer a0 a1 s0) := by
  intro a0 a1 s0
  unfold sendAnswer
  refine Same.ite ?_ ?_
  · refine Same.thru (toDie_same ..) rfl ?_
    first | assumption | exact Same.refl _ _
  · refine Same.thru (routeOut_same ..) rfl ?_
    first | assumption | exact Same.refl _ _

theorem bounce_same : ∀ a0 a1 s0, Same 18102290409349046 s0 (bounce a0 a1 s0) := by
  intro a0 a1 s0
  unfold bounce
  refine Same.ite ?_ ?_
  · refine Same.thru (sendAnswer_same ..) rfl ?_
    first | assumption | exact Same.refl _ _
  · first | assumption | exact Same.refl _ _

theorem portDown_same : ∀ a0 a1 s0, Same 18102290409349046 s0 (portDown a0 a1 s0) := by
  intro a0 a1 s0
  unfold portDown
  refine Same.thru (bounce_same ..) rfl ?_
  refine Same.thru (discardMpk_same ..) rfl ?_
  first | assumption | exact Same.refl _ _

theorem lostOne_same : ∀ a0 a1 s0, Same 18102290409349046 s0 (lostOne a0 a1 s0) := by
  intro a0 a1 s0
  unfold lostOne
  extract_lets -merge -underBinder -useContext +onlyGivenNames x1
  have h2 : Same 18102290409349046 s0 x1 := by
    unfold x1
    refine Same.thru (updPd_same ..) rfl ?_
    first | assumption | exact Same.refl _ _
  clear_value x1
  split
  · refine Same.thru (bounce_same ..) rfl ?_
    refine Same.thru (giveRoom_same ..) rfl ?_
    refine Same.thru (giveInjection_same ..) rfl ?_
    first | assumption | exact Same.refl _ _
  · extract_lets -merge -underBinder -useContext +onlyGivenNames x3
    refine Same.thru (bounce_same ..) rfl ?_
    refine Same.thru (oneLess_same ..) rfl ?_
    refine Same.thru (giveInjection_same ..) rfl ?_
    first | assumption | exact Same.refl _ _
  · first | assumption | exact Same.refl _ _

theorem takeLost_same : ∀ a0 s0, Same 18102290409349046 s0 (takeLost a0 s0) := by
  intro a0 s0
  unfold takeLost
  refine Same.foldl (fun r1 e2 h3 => ?_) ?_
  · refine Same.thru (lostOne_same ..) rfl ?_
    first | assumption | exact Same.refl _ _
  · first | assumption | exact Same.refl _ _

theorem acceptInj_same : ∀ a0 a1 s0, Same 309442122768 s0 (acceptInj a0 a1 s0) := by
  intro a0 a1 s0
  unfold acceptInj
  extract_lets -merge -underBinder -useContext +onlyGivenNames x1 x2 x3
  have h4 : Same 309442122768 s0 x2 := by
    unfold x2
    refine Same.thru (updPd_same ..) rfl ?_
    refine Same.thru (Same.put_nextUid _ _) rfl ?_
    first | assumption | exact Same.refl _ _
  clear_value x2
  have h5 : Same 309442122768 s0 x3 := by
    unfold x3
    refine Same.thru (updCtx_same ..) rfl ?_
    first | assumption | exact Same.refl _ _
  clear_value x3
  refine Same.thru (moveNet_same ..) rfl ?_
  refine Same.thru (oneLess_same ..) rfl ?_
  first | assumption | exact Same.refl _ _

theorem leaveInj_same : ∀ a0 a1 s0, Same 18014679836660756 s0 (leaveInj a0 a1 s0) := by
  intro a0 a1 s0
  unfold leaveInj
  refine Same.thru (enqueue_same ..) rfl ?_
  refine Same.thru (updPd_same ..) rfl ?_
  first | assumption | exact Same.refl _ _

theorem flowN_same : ∀ a0 a1 s0, Same 18014714398774292 s0 (flowN a0 a1 s0) := by
  intro a0 a1 s0
  induction a0 generalizing a1 s0
  · unfold flowN
    first | assumption | exact Same.refl _ _
  · rename_i i0 ih
    unfold flowN
    split
    · refine Same.thru (ih ..) rfl ?_
      refine Same.ite ?_ ?_
      · refine Same.thru (leaveInj_same ..) rfl ?_
        first | assumption | exact Same.refl _ _
      · refine Same.thru (acceptInj_same ..) rfl ?_
        first | assumption | exact Same.refl _ _
    · first | assumption | exact Same.refl _ _

theorem freeTerms_same : ∀ a0 s0, Same 18049582885765120 s0 (freeTerms a0 s0) := by
  intro a0 s0
  unfold freeTerms
  refine Same.foldl (fun r1 e2 h3 => ?_) ?_
  · extract_lets -merge -underBinder -useContext +onlyGivenNames x4
    have h5 : Same 18049582885765120 s0 x4 := by
      unfold x4
      refine Same.thru (Same.put_terms _ _) rfl ?_
      first | assumption | exact Same.refl _ _
    clear_value x4
    refine Same.thru (sendReturns_same ..) rfl ?_
    refine Same.thru (giveRoom_same ..) rfl ?_
    first | assumption | exact Same.refl _ _
  · first | assumption | exact Same.refl _ _

theorem flow_same : ∀ a0 s0, Same 18137474781437878 s0 (flow a0 s0) := by
  intro a0 s0
  unfold flow
  extract_lets -merge -underBinder -useContext +onlyGivenNames x1
  have h2 : Same 18137474781437878 s0 x1 := by
    unfold x1
    refine Same.thru (freeTerms_same ..) rfl ?_
    refine Same.thru (takeLost_same ..) rfl ?_
    refine Same.thru (takeCame_same ..) rfl ?_
    first | assumption | exact Same.refl _ _
  clear_value x1
  refine Same.thru (flowN_same ..) rfl ?_
  first | assumption | exact Same.refl _ _

theorem sendOutbox_same : ∀ s0, Same 18102290409349046 s0 (sendOutbox s0) := by
  intro s0
  unfold sendOutbox
  extract_lets -merge -underBinder -useContext +onlyGivenNames x1
  refine Same.ite ?_ ?_
  · first | assumption | exact Same.refl _ _
  · refine Same.foldl (fun r2 e3 h4 => ?_) ?_
    · extract_lets -merge -underBinder -useContext +onlyGivenNames x5
      split
      · refine Same.ite ?_ ?_
        · first | assumption | exact Same.refl _ _
        · refine Same.thru (sendTo_same ..) rfl ?_
          first | assumption | exact Same.refl _ _
      · first | assumption | exact Same.refl _ _
    · refine Same.thru (Same.put_mg _ _ (MgmtSt.wf_mk id id id id)) rfl ?_
      first | assumption | exact Same.refl _ _

theorem runPort_same : ∀ a0 s0, Same 18137474781437878 s0 (runPort a0 s0) := by
  intro a0 s0
  unfold runPort
  refine Same.thru (flow_same ..) rfl ?_
  refine Same.thru (pump_same ..) rfl ?_
  first | assumption | exact Same.refl _ _

theorem useRes_same : ∀ a0 a1 a2 a3 a4 s0, Same 34359738368 s0 (useRes a0 a1 a2 a3 a4 s0) := by
  intro a0 a1 a2 a3 a4 s0
  unfold useRes
  refine Same.thru (updFly_same ..) rfl ?_
  first | assumption | exact Same.refl _ _

theorem remoteReq_same : ∀ a0 a1 a2 a3 a4 s0, Same 18155066967482294 s0 (remoteReq a0 a1 a2 a3 a4 s0) := by
  intro a0 a1 a2 a3 a4 s0
  unfold remoteReq
  extract_lets -merge -underBinder -useContext +onlyGivenNames x1 x2 x3 x4 x5 x6 x7 x8 x9 x10 x11 x12 x13 x14 x15 x16 x17 x18 x19 x20 x21 x22
  have h23 : Same 18155066967482294 s0 x20 := by
    unfold x20
    refine Same.thru (Same.put_tags_striped_mtxns _ _ _ _ (fun h => wf_tset h) (fun h => wf_tset h)) rfl ?_
    first | assumption | exact Same.refl _ _
  clear_value x20
  have h24 : Same 18155066967482294 s0 x21 := by
    unfold x21
    refine Same.thru (useRes_same ..) rfl ?_
    refine Same.thru (useRes_same ..) rfl ?_
    first | assumption | exact Same.refl _ _
  clear_value x21
  have h25 : Same 18155066967482294 s0 x22 := by
    unfold x22
    refine Same.thru (oneMore_same ..) rfl ?_
    refine Same.ite ?_ ?_
    · refine Same.thru (oneMore_same ..) rfl ?_
      first | assumption | exact Same.refl _ _
    · first | assumption | exact Same.refl _ _
  clear_value x22
  refine Same.thru (flow_same ..) rfl ?_
  refine Same.thru (sendCargo_same ..) rfl ?_
  refine Same.thru (addOut_same ..) rfl ?_
  first | assumption | exact Same.refl _ _

theorem remoteDo_same : ∀ a0 a1 a2 a3 a4 a5 r0, Same 18155066967482294 r0.s (remoteDo a0 a1 a2 a3 a4 a5 r0).s := by
  intro a0 a1 a2 a3 a4 a5 r0
  unfold remoteDo
  extract_lets -merge -underBinder -useContext +onlyGivenNames x1
  refine Same.iteRun ?_ ?_
  · first | assumption | exact Same.refl _ _
  · refine Same.iteRun ?_ ?_
    · refine Same.thru (keepPart_same ..) rfl ?_
      first | assumption | exact Same.refl _ _
    · split
      rename_i v2 v3 v4 hq5
      dsimp -zeta only
      refine Same.thru (remoteReq_same ..) rfl ?_
      have h6 : Same 18155066967482294 r0.s v4.s := Same.of_eq (fun z : List Byte × Run => z.2.s) hq5 (by
        refine Same.thru (takeParts_same ..) rfl ?_
        first | assumption | exact Same.refl _ _
        )
      first | assumption | exact Same.refl _ _

theorem remoteStep_same : ∀ a0 a1 a2 a3 r0, Same 18155066967482294 r0.s (remoteStep a0 a1 a2 a3 r0).s := by
  intro a0 a1 a2 a3 r0
  unfold remoteStep
  refine Same.iteRun ?_ ?_
  · dsimp -zeta only
    refine Same.thru (remoteReq_same ..) rfl ?_
    first | assumption | exact Same.refl _ _
  · refine chunkRead_thru rfl ?_ ?_
    · intro y1 y2 y3 y4 hy5
      refine Same.thru (remoteDo_same ..) rfl ?_
      first | assumption | exact Same.refl _ _
    · first | assumption | exact Same.refl _ _

theorem doRemote_same : ∀ a0 a1 a2 s0, Same 18155066967482294 s0 (doRemote a0 a1 a2 s0) := by
  intro a0 a1 a2 s0
  unfold doRemote
  extract_lets -merge -underBinder -useContext +onlyGivenNames x1
  split
  · first | assumption | exact Same.refl _ _
  · refine Same.ite ?_ ?_
    · first | assumption | exact Same.refl _ _
    · extract_lets -merge -underBinder -useContext +onlyGivenNames x2 x3
      have h4 : Same 18155066967482294 s0 x3 := by
        unfold x3
        refine Same.ite ?_ ?_
        · refine Same.thru (updEngine_same ..) rfl ?_
          first | assumption | exact Same.refl _ _
        · first | assumption | exact Same.refl _ _
      clear_value x3
      refine Same.thru (finishRun_same ..) rfl ?_
      refine runEvs_thru rfl ?_ ?_
      · intro y5 y6 hy7
        refine Same.thru (remoteStep_same ..) rfl ?_
        first | assumption | exact Same.refl _ _
      · first | assumption | exact Same.refl _ _

theorem doFence_same : ∀ a0 a1 s0, Same 10829965038596 s0 (doFence a0 a1 s0) := by
  intro a0 a1 s0
  unfold doFence
  extract_lets -merge -underBinder -useContext +onlyGivenNames x1
  split
  · first | assumption | exact Same.refl _ _
  · extract_lets -merge -underBinder -useContext +onlyGivenNames x2 x3
    refine Same.thru (retire_same ..) rfl ?_
    refine Same.thru (stampFences_same ..) rfl ?_
    refine Same.thru (Same.put_fences _ _ (fun h => wf_tset h)) rfl ?_
    first | assumption | exact Same.refl _ _

theorem fenceFault_same : ∀ a0 a1 a2 a3 a4 a5 s0, Same 18014398660485024 s0 (fenceFault a0 a1 a2 a3 a4 a5 s0) := by
  intro a0 a1 a2 a3 a4 a5 s0
  unfold fenceFault
  refine Same.thru (chargeFault_same ..) rfl ?_
  first | assumption | exact Same.refl _ _

theorem completeFence_same : ∀ a0 a1 a2 s0, Same 18018803149971364 s0 (completeFence a0 a1 a2 s0) := by
  intro a0 a1 a2 s0
  unfold completeFence
  extract_lets -merge -underBinder -useContext +onlyGivenNames x1 x2
  refine Same.ite ?_ ?_
  · refine Same.thru (semEvent_same ..) rfl ?_
    first | assumption | exact Same.refl _ _
  · refine Same.thru (fenceFault_same ..) rfl ?_
    refine Same.thru (Same.put_latches _ _ (fun h => wf_tdel h)) rfl ?_
    first | assumption | exact Same.refl _ _

theorem expireFence_same : ∀ a0 a1 a2 s0, Same 18014398660485026 s0 (expireFence a0 a1 a2 s0) := by
  intro a0 a1 a2 s0
  unfold expireFence
  extract_lets -merge -underBinder -useContext +onlyGivenNames x1 x2
  have h3 : Same 18014398660485026 s0 x1 := by
    unfold x1
    refine Same.thru (advanceTo_same ..) rfl ?_
    first | assumption | exact Same.refl _ _
  clear_value x1
  refine Same.thru (fenceFault_same ..) rfl ?_
  refine Same.thru (bump_same ..) rfl ?_
  refine Same.thru (report_same ..) rfl ?_
  first | assumption | exact Same.refl _ _

theorem doFenceComplete_same : ∀ a0 a1 s0, Same 18027599242993574 s0 (doFenceComplete a0 a1 s0) := by
  intro a0 a1 s0
  unfold doFenceComplete
  extract_lets -merge -underBinder -useContext +onlyGivenNames x1 x2
  refine Same.foldl (fun r3 e4 h5 => ?_) ?_
  · refine Same.ite ?_ ?_
    · refine Same.thru (completeFence_same ..) rfl ?_
      first | assumption | exact Same.refl _ _
    · refine Same.thru (expireFence_same ..) rfl ?_
      first | assumption | exact Same.refl _ _
  · refine Same.thru (Same.put_fences _ _ (fun h => wf_tset h)) rfl ?_
    first | assumption | exact Same.refl _ _

theorem doFenceTimeout_same : ∀ a0 a1 s0, Same 18023194753507234 s0 (doFenceTimeout a0 a1 s0) := by
  intro a0 a1 s0
  unfold doFenceTimeout
  extract_lets -merge -underBinder -useContext +onlyGivenNames x1
  split
  · first | assumption | exact Same.refl _ _
  · extract_lets -merge -underBinder -useContext +onlyGivenNames x2
    refine Same.thru (expireFence_same ..) rfl ?_
    refine Same.thru (Same.put_fences _ _ (fun h => wf_tset h)) rfl ?_
    first | assumption | exact Same.refl _ _

theorem updTerm_same : ∀ a0 a1 s0, Same 35184372088832 s0 (updTerm a0 a1 s0) := by
  intro a0 a1 s0
  unfold updTerm
  refine Same.thru (Same.put_terms _ _) rfl ?_
  first | assumption | exact Same.refl _ _

theorem startTerm_same : ∀ a0 s0, Same 37108587697152 s0 (startTerm a0 s0) := by
  intro a0 s0
  unfold startTerm
  extract_lets -merge -underBinder -useContext +onlyGivenNames x1
  refine Same.ite ?_ ?_
  · refine Same.thru (updTerm_same ..) rfl ?_
    first | assumption | exact Same.refl _ _
  · extract_lets -merge -underBinder -useContext +onlyGivenNames x2 x3
    have h4 : Same 37108587697152 s0 x3 := by
      unfold x3
      refine Same.thru (updTerm_same ..) rfl ?_
      first | assumption | exact Same.refl _ _
    clear_value x3
    refine Same.foldl (fun r5 e6 h7 => ?_) ?_
    · split
      refine Same.thru (request_same ..) rfl ?_
      first | assumption | exact Same.refl _ _
    · first | assumption | exact Same.refl _ _

theorem terminate_same : ∀ a0 a1 s0, Same 18051507101373456 s0 (terminate a0 a1 s0) := by
  intro a0 a1 s0
  unfold terminate
  extract_lets -merge -underBinder -useContext +onlyGivenNames x1 x2 x3 x4 x5 x6
  have h7 : Same 18051507101373456 s0 x6 := by
    unfold x6
    refine Same.thru (Same.put_nextUid_terms _ _ _) rfl ?_
    first | assumption | exact Same.refl _ _
  clear_value x6
  refine Same.thru (freeTerms_same ..) rfl ?_
  refine Same.ite ?_ ?_
  · refine Same.thru (startTerm_same ..) rfl ?_
    first | assumption | exact Same.refl _ _
  · first | assumption | exact Same.refl _ _

theorem termAnswer_same : ∀ a0 a1 a2 s0, Same 35184372088832 s0 (termAnswer a0 a1 a2 s0) := by
  intro a0 a1 a2 s0
  unfold termAnswer
  refine Same.thru (updTerm_same ..) rfl ?_
  first | assumption | exact Same.refl _ _

theorem releaseTerms_same : ∀ a0 a1 s0, Same 18051507101373440 s0 (releaseTerms a0 a1 s0) := by
  intro a0 a1 s0
  unfold releaseTerms
  refine Same.thru (freeTerms_same ..) rfl ?_
  refine Same.foldl (fun r1 e2 h3 => ?_) ?_
  · refine Same.ite ?_ ?_
    · refine Same.thru (startTerm_same ..) rfl ?_
      first | assumption | exact Same.refl _ _
    · first | assumption | exact Same.refl _ _
  · first | assumption | exact Same.refl _ _

theorem giveAnswer_same : ∀ a0 a1 s0, Same 18102290409349046 s0 (giveAnswer a0 a1 s0) := by
  intro a0 a1 s0
  unfold giveAnswer
  refine Same.ite ?_ ?_
  · refine Same.thru (sendAnswer_same ..) rfl ?_
    first | assumption | exact Same.refl _ _
  · split
    · extract_lets -merge -underBinder -useContext +onlyGivenNames x1
      refine Same.ite ?_ ?_
      · refine Same.thru (sendAnswer_same ..) rfl ?_
        refine Same.thru (updPd_same ..) rfl ?_
        first | assumption | exact Same.refl _ _
      · refine Same.thru (updPd_same ..) rfl ?_
        first | assumption | exact Same.refl _ _
    · extract_lets -merge -underBinder -useContext +onlyGivenNames x2
      refine Same.thru (updPd_same ..) rfl ?_
      first | assumption | exact Same.refl _ _

theorem doAckTimeout_same : ∀ a0 s0, Same 18102290409349046 s0 (doAckTimeout a0 s0) := by
  intro a0 s0
  unfold doAckTimeout
  split
  · first | assumption | exact Same.refl _ _
  · extract_lets -merge -underBinder -useContext +onlyGivenNames x1 x2 x3 x4
    have h5 : Same 18102290409349046 s0 x2 := by
      unfold x2
      refine Same.thru (advanceTo_same ..) rfl ?_
      first | assumption | exact Same.refl _ _
    clear_value x2
    refine Same.foldl (fun r6 e7 h8 => ?_) ?_
    · refine Same.thru (sendAnswer_same ..) rfl ?_
      first | assumption | exact Same.refl _ _
    · refine Same.thru (updPd_same ..) rfl ?_
      first | assumption | exact Same.refl _ _

theorem doTermComplete_same : ∀ a0 s0, Same 18137474781437878 s0 (doTermComplete a0 s0) := by
  intro a0 s0
  unfold doTermComplete
  split
  · first | assumption | exact Same.refl _ _
  · extract_lets -merge -underBinder -useContext +onlyGivenNames x1 x2 x3
    refine Same.ite ?_ ?_
    · first | assumption | exact Same.refl _ _
    · refine Same.ite ?_ ?_
      · unfold x3
        extract_lets -merge -underBinder -useContext +onlyGivenNames x4
        have h5 : Same 18137474781437878 s0 x4 := by
          unfold x4
          refine Same.thru (giveRoom_same ..) rfl ?_
          first | assumption | exact Same.refl _ _
        clear_value x4
        refine Same.thru (releaseTerms_same ..) rfl ?_
        refine Same.thru (giveAnswer_same ..) rfl ?_
        refine Same.thru (Same.put_terms _ _) rfl ?_
        first | assumption | exact Same.refl _ _
      · refine Same.ite ?_ ?_
        · refine Same.ite ?_ ?_
          · refine Same.thru (request_same ..) rfl ?_
            refine Same.thru (updTerm_same ..) rfl ?_
            first | assumption | exact Same.refl _ _
          · unfold x3
            extract_lets -merge -underBinder -useContext +onlyGivenNames x6
            have h7 : Same 18137474781437878 s0 x6 := by
              unfold x6
              refine Same.thru (giveRoom_same ..) rfl ?_
              first | assumption | exact Same.refl _ _
            clear_value x6
            refine Same.thru (releaseTerms_same ..) rfl ?_
            refine Same.thru (giveAnswer_same ..) rfl ?_
            refine Same.thru (Same.put_terms _ _) rfl ?_
            first | assumption | exact Same.refl _ _
        · extract_lets -merge -underBinder -useContext +onlyGivenNames x8
          unfold x3
          extract_lets -merge -underBinder -useContext +onlyGivenNames x9
          have h10 : Same 18137474781437878 s0 x9 := by
            unfold x9
            refine Same.thru (giveRoom_same ..) rfl ?_
            first | assumption | exact Same.refl _ _
          clear_value x9
          refine Same.thru (releaseTerms_same ..) rfl ?_
          refine Same.thru (giveAnswer_same ..) rfl ?_
          refine Same.thru (Same.put_terms _ _) rfl ?_
          first | assumption | exact Same.refl _ _

theorem receiveQ_thru : ∀ {m sb a0 a1 a2 a3 s0} (hm : 18137474781437878 ||| m = m) (hf3 : ∀ y0 z, Same m sb z → Same m sb (a3 y0 z)) (hs : Same m sb s0), Same m sb (receiveQ a0 a1 a2 a3 s0) := by
  intro m sb a0 a1 a2 a3 s0 hm hf3 hs
  unfold receiveQ
  extract_lets -merge -underBinder -useContext +onlyGivenNames x1 x2 x3
  refine Same.ite ?_ ?_
  · first | assumption | exact Same.refl _ _
  · extract_lets -merge -underBinder -useContext +onlyGivenNames x4
    have h5 : Same m sb x4 := by
      unfold x4
      refine Same.thru (bumpBlob_same ..) (Same.sub hm rfl) ?_
      first | assumption | exact Same.refl _ _
    clear_value x4
    split
    extract_lets -merge -underBinder -useContext +onlyGivenNames x6 x7 x8
    have h9 : Same m sb x7 := by
      unfold x7
      refine Same.thru (updOe_same ..) (Same.sub hm rfl) ?_
      first | assumption | exact Same.refl _ _
    clear_value x7
    refine Same.ite ?_ ?_
    · refine Same.thru (giveRoom_same ..) (Same.sub hm rfl) ?_
      refine Same.thru (discardMpk_same ..) (Same.sub hm rfl) ?_
      first | assumption | exact Same.refl _ _
    · refine Same.ite ?_ ?_
      · refine Same.ite ?_ ?_
        · refine Same.thru (giveRoom_same ..) (Same.sub hm rfl) ?_
          refine Same.thru (bounce_same ..) (Same.sub hm rfl) ?_
          refine Same.thru (lose_same ..) (Same.sub hm rfl) ?_
          first | assumption | exact Same.refl _ _
        · extract_lets -merge -underBinder -useContext +onlyGivenNames x10
          have h11 : Same m sb x10 := by
            unfold x10
            refine Same.thru (countHop_same ..) (Same.sub hm rfl) ?_
            first | assumption | exact Same.refl _ _
          clear_value x10
          refine Same.ite ?_ ?_
          · refine hf3 _ _ ?_
            first | assumption | exact Same.refl _ _
          · refine Same.thru (giveRoom_same ..) (Same.sub hm rfl) ?_
            refine Same.thru (discardOld_same ..) (Same.sub hm rfl) ?_
            first | assumption | exact Same.refl _ _
      · split
        · extract_lets -merge -underBinder -useContext +onlyGivenNames x12
          refine Same.ite ?_ ?_
          · refine Same.thru (giveRoom_same ..) (Same.sub hm rfl) ?_
            refine Same.thru (portDown_same ..) (Same.sub hm rfl) ?_
            first | assumption | exact Same.refl _ _
          · refine Same.thru (flow_same ..) (Same.sub hm rfl) ?_
            refine Same.thru (sendTo_same ..) (Same.sub hm rfl) ?_
            first | assumption | exact Same.refl _ _
        · refine Same.thru (giveRoom_same ..) (Same.sub hm rfl) ?_
          refine Same.thru (portDown_same ..) (Same.sub hm rfl) ?_
          first | assumption | exact Same.refl _ _

theorem receive_thru : ∀ {m sb a0 a1 a2 a3 s0} (hm : 18137474781437878 ||| m = m) (hf3 : ∀ y0 z, Same m sb z → Same m sb (a3 y0 z)) (hs : Same m sb s0), Same m sb (receive a0 a1 a2 a3 s0) := by
  intro m sb a0 a1 a2 a3 s0 hm hf3 hs
  unfold receive
  refine receiveQ_thru (Same.sub hm rfl) ?_ ?_
  · intro y1 y2 hy3
    refine Same.thru (giveRoom_same ..) (Same.sub hm rfl) ?_
    refine hf3 _ _ ?_
    first | assumption | exact Same.refl _ _
  · first | assumption | exact Same.refl _ _

theorem doReservedMop_same : ∀ a0 a1 s0, Same 18014398513681408 s0 (doReservedMop a0 a1 s0) := by
  intro a0 a1 s0
  unfold doReservedMop
  refine Same.ite ?_ ?_
  · first | assumption | exact Same.refl _ _
  · extract_lets -merge -underBinder -useContext +onlyGivenNames x1
    have h2 : Same 18014398513681408 s0 x1 := by
      unfold x1
      refine Same.thru (bumpBlob_same ..) rfl ?_
      first | assumption | exact Same.refl _ _
    clear_value x1
    split
    refine Same.thru (giveRoom_same ..) rfl ?_
    refine Same.thru (discardMpk_same ..) rfl ?_
    refine Same.thru (updOe_same ..) rfl ?_
    first | assumption | exact Same.refl _ _

theorem doCredit_same : ∀ a0 a1 a2 s0, Same 18137474781437878 s0 (doCredit a0 a1 a2 s0) := by
  intro a0 a1 a2 s0
  unfold doCredit
  refine Same.thru (runPort_same ..) rfl ?_
  refine Same.thru (updOe_same ..) rfl ?_
  first | assumption | exact Same.refl _ _

theorem doCreditTimer_same : ∀ a0 s0, Same 18137474781437878 s0 (doCreditTimer a0 s0) := by
  intro a0 s0
  unfold doCreditTimer
  extract_lets -merge -underBinder -useContext +onlyGivenNames x1
  refine Same.ite ?_ ?_
  · first | assumption | exact Same.refl _ _
  · refine Same.thru (runPort_same ..) rfl ?_
    refine Same.thru (sendCredit_same ..) rfl ?_
    refine Same.thru (advanceTo_same ..) rfl ?_
    first | assumption | exact Same.refl _ _

theorem doPortDown_same : ∀ a0 s0, Same 18137474781437878 s0 (doPortDown a0 s0) := by
  intro a0 s0
  unfold doPortDown
  extract_lets -merge -underBinder -useContext +onlyGivenNames x1
  split
  · first | assumption | exact Same.refl _ _
  · refine Same.ite ?_ ?_
    · refine Same.thru (flow_same ..) rfl ?_
      refine Same.thru (portDown_same ..) rfl ?_
      refine Same.thru (dequeue_same ..) rfl ?_
      first | assumption | exact Same.refl _ _
    · first | assumption | exact Same.refl _ _

theorem doFlaggedRelease_same : ∀ a0 s0, Same 18137474781437878 s0 (doFlaggedRelease a0 s0) := by
  intro a0 s0
  unfold doFlaggedRelease
  refine Same.thru (releaseTerms_same ..) rfl ?_
  refine Same.thru (flow_same ..) rfl ?_
  first | assumption | exact Same.refl _ _

theorem execPut_same : ∀ a0 a1 s0 t, execPut a0 a1 s0 = .next t → Same 18155066967482294 s0 t := by
  intro a0 a1 s0 t ht
  unfold execPut at ht
  refine Same.next ht ?_
  refine Same.thru (doRemote_same ..) rfl ?_
  first | assumption | exact Same.refl _ _

theorem execPutFlag_same : ∀ a0 a1 s0 t, execPutFlag a0 a1 s0 = .next t → Same 18155066967482294 s0 t := by
  intro a0 a1 s0 t ht
  unfold execPutFlag at ht
  refine Same.next ht ?_
  refine Same.thru (doRemote_same ..) rfl ?_
  first | assumption | exact Same.refl _ _

theorem execGet_same : ∀ a0 a1 s0 t, execGet a0 a1 s0 = .next t → Same 18155066967482294 s0 t := by
  intro a0 a1 s0 t ht
  unfold execGet at ht
  refine Same.next ht ?_
  refine Same.thru (doRemote_same ..) rfl ?_
  first | assumption | exact Same.refl _ _

theorem execLoad_same : ∀ a0 a1 s0 t, execLoad a0 a1 s0 = .next t → Same 18155066967482294 s0 t := by
  intro a0 a1 s0 t ht
  unfold execLoad at ht
  refine Same.next ht ?_
  refine Same.thru (doRemote_same ..) rfl ?_
  first | assumption | exact Same.refl _ _

theorem execRatom_same : ∀ a0 a1 s0 t, execRatom a0 a1 s0 = .next t → Same 18155066967482294 s0 t := by
  intro a0 a1 s0 t ht
  unfold execRatom at ht
  refine Same.next ht ?_
  refine Same.thru (doRemote_same ..) rfl ?_
  first | assumption | exact Same.refl _ _

theorem execFence_same : ∀ a0 a1 s0 t, execFence a0 a1 s0 = .next t → Same 10829965038596 s0 t := by
  intro a0 a1 s0 t ht
  unfold execFence at ht
  refine Same.next ht ?_
  refine Same.thru (doFence_same ..) rfl ?_
  first | assumption | exact Same.refl _ _

theorem execFenceComplete_same : ∀ a0 a1 s0 t, execFenceComplete a0 a1 s0 = .next t → Same 18027599242993574 s0 t := by
  intro a0 a1 s0 t ht
  unfold execFenceComplete at ht
  refine Same.next ht ?_
  refine Same.thru (doFenceComplete_same ..) rfl ?_
  first | assumption | exact Same.refl _ _

theorem execFenceTimeout_same : ∀ a0 a1 s0 t, execFenceTimeout a0 a1 s0 = .next t → Same 18023194753507234 s0 t := by
  intro a0 a1 s0 t ht
  unfold execFenceTimeout at ht
  refine Same.next ht ?_
  refine Same.thru (doFenceTimeout_same ..) rfl ?_
  first | assumption | exact Same.refl _ _

theorem execMPut_same : ∀ a0 a1 s0 t, execMPut a0 a1 s0 = .next t → Same 18137474781437878 s0 t := by
  intro a0 a1 s0 t ht
  unfold execMPut at ht
  refine Same.next ht ?_
  refine receiveQ_thru rfl ?_ ?_
  · intro y1 y2 hy3
    refine Same.thru (terminate_same ..) rfl ?_
    first | assumption | exact Same.refl _ _
  · first | assumption | exact Same.refl _ _

theorem execMGet_same : ∀ a0 a1 s0 t, execMGet a0 a1 s0 = .next t → Same 18137474781437878 s0 t := by
  intro a0 a1 s0 t ht
  unfold execMGet at ht
  refine Same.next ht ?_
  refine receiveQ_thru rfl ?_ ?_
  · intro y1 y2 hy3
    refine Same.thru (terminate_same ..) rfl ?_
    first | assumption | exact Same.refl _ _
  · first | assumption | exact Same.refl _ _

theorem execMLoad_same : ∀ a0 a1 s0 t, execMLoad a0 a1 s0 = .next t → Same 18137474781437878 s0 t := by
  intro a0 a1 s0 t ht
  unfold execMLoad at ht
  refine Same.next ht ?_
  refine receiveQ_thru rfl ?_ ?_
  · intro y1 y2 hy3
    refine Same.thru (terminate_same ..) rfl ?_
    first | assumption | exact Same.refl _ _
  · first | assumption | exact Same.refl _ _

theorem execMAtom_same : ∀ a0 a1 s0 t, execMAtom a0 a1 s0 = .next t → Same 18137474781437878 s0 t := by
  intro a0 a1 s0 t ht
  unfold execMAtom at ht
  refine Same.next ht ?_
  refine receiveQ_thru rfl ?_ ?_
  · intro y1 y2 hy3
    refine Same.thru (terminate_same ..) rfl ?_
    first | assumption | exact Same.refl _ _
  · first | assumption | exact Same.refl _ _

theorem execMTerminationComplete_same : ∀ a0 s0 t, execMTerminationComplete a0 s0 = .next t → Same 18137474781437878 s0 t := by
  intro a0 s0 t ht
  unfold execMTerminationComplete at ht
  refine Same.next ht ?_
  refine Same.thru (doTermComplete_same ..) rfl ?_
  first | assumption | exact Same.refl _ _

theorem execMData_same : ∀ a0 a1 s0 t, execMData a0 a1 s0 = .next t → Same 18137474781437878 s0 t := by
  intro a0 a1 s0 t ht
  unfold execMData at ht
  refine Same.next ht ?_
  refine receive_thru rfl ?_ ?_
  · intro y1 y2 hy3
    refine Same.thru (toDie_same ..) rfl ?_
    first | assumption | exact Same.refl _ _
  · first | assumption | exact Same.refl _ _

theorem execMAck_same : ∀ a0 a1 s0 t, execMAck a0 a1 s0 = .next t → Same 18137474781437878 s0 t := by
  intro a0 a1 s0 t ht
  unfold execMAck at ht
  refine Same.next ht ?_
  refine receive_thru rfl ?_ ?_
  · intro y1 y2 hy3
    refine Same.thru (toDie_same ..) rfl ?_
    first | assumption | exact Same.refl _ _
  · first | assumption | exact Same.refl _ _

theorem execAckCoalesceTimeout_same : ∀ a0 s0 t, execAckCoalesceTimeout a0 s0 = .next t → Same 18102290409349046 s0 t := by
  intro a0 s0 t ht
  unfold execAckCoalesceTimeout at ht
  refine Same.next ht ?_
  refine Same.thru (doAckTimeout_same ..) rfl ?_
  first | assumption | exact Same.refl _ _

theorem execMCredit_same : ∀ a0 a1 a2 s0 t, execMCredit a0 a1 a2 s0 = .next t → Same 18137474781437878 s0 t := by
  intro a0 a1 a2 s0 t ht
  unfold execMCredit at ht
  refine Same.next ht ?_
  refine Same.thru (doCredit_same ..) rfl ?_
  first | assumption | exact Same.refl _ _

theorem execCreditReturnTimer_same : ∀ a0 s0 t, execCreditReturnTimer a0 s0 = .next t → Same 18137474781437878 s0 t := by
  intro a0 s0 t ht
  unfold execCreditReturnTimer at ht
  refine Same.next ht ?_
  refine Same.thru (doCreditTimer_same ..) rfl ?_
  first | assumption | exact Same.refl _ _

theorem execMachineReservedOp_same : ∀ a0 a1 s0 t, execMachineReservedOp a0 a1 s0 = .next t → Same 18014398513681408 s0 t := by
  intro a0 a1 s0 t ht
  unfold execMachineReservedOp at ht
  refine Same.next ht ?_
  refine Same.thru (doReservedMop_same ..) rfl ?_
  first | assumption | exact Same.refl _ _

theorem execPortDownDiscard_same : ∀ a0 s0 t, execPortDownDiscard a0 s0 = .next t → Same 18137474781437878 s0 t := by
  intro a0 s0 t ht
  unfold execPortDownDiscard at ht
  refine Same.next ht ?_
  refine Same.thru (doPortDown_same ..) rfl ?_
  first | assumption | exact Same.refl _ _

theorem execFlaggedStoreRelease_same : ∀ a0 s0 t, execFlaggedStoreRelease a0 s0 = .next t → Same 18137474781437878 s0 t := by
  intro a0 s0 t ht
  unfold execFlaggedStoreRelease at ht
  refine Same.next ht ?_
  refine Same.thru (doFlaggedRelease_same ..) rfl ?_
  first | assumption | exact Same.refl _ _

end Sys2Proof.Machine
end

