-- ==== Sys2Proof/Laws/FrameApply.lean ====
section
/-! SUPPORT. Laws/FrameApply.lean: which fields of the state each operation of Machine/Apply.lean may change. -/
namespace Sys2Proof.Machine
open Sys2Proof

theorem setValue_same : ∀ a0 a1 s0, Same 1024 s0 (setValue a0 a1 s0) := by
  intro a0 a1 s0
  unfold setValue
  split
  · refine Same.ite ?_ ?_
    · refine Same.thru (blobSet_same ..) rfl ?_
      first | assumption | exact Same.refl _ _
    · refine Same.thru (numSet_same ..) rfl ?_
      first | assumption | exact Same.refl _ _
  · first | assumption | exact Same.refl _ _

theorem applyWrite_same : ∀ a0 a1 s0, Same 18014398526263200 s0 (applyWrite a0 a1 s0) := by
  intro a0 a1 s0
  unfold applyWrite
  refine Same.thru (journal_same ..) rfl ?_
  refine Same.thru (setValue_same ..) rfl ?_
  first | assumption | exact Same.refl _ _

theorem applyDue_same : ∀ a0 a1 a2 s0, Same 18014398526263200 s0 (applyDue a0 a1 a2 s0) := by
  intro a0 a1 a2 s0
  unfold applyDue
  extract_lets -merge -underBinder -useContext +onlyGivenNames x1 x2 x3 x4 x5
  extract_lets -merge -underBinder -useContext +onlyGivenNames x6
  have h7 : Same 18014398526263200 s0 x6 := by
    unfold x6
    refine Same.foldl (fun r8 e9 h10 => ?_) ?_
    · refine Same.thru (applyWrite_same ..) rfl ?_
      first | assumption | exact Same.refl _ _
    · refine Same.thru (Same.put_mg _ _ (MgmtSt.wf_mk id id id id)) rfl ?_
      first | assumption | exact Same.refl _ _
  clear_value x6
  refine Same.ite ?_ ?_
  · refine Same.thru (openEpoch_same ..) rfl ?_
    first | assumption | exact Same.refl _ _
  · first | assumption | exact Same.refl _ _

theorem tickApply_same : ∀ a0 a1 s0, Same 18014398526263200 s0 (tickApply a0 a1 s0) := by
  intro a0 a1 s0
  unfold tickApply
  refine Same.thru (applyDue_same ..) rfl ?_
  first | assumption | exact Same.refl _ _

theorem offApply_same : ∀ s0, Same 18014398526263200 s0 (offApply s0) := by
  intro s0
  unfold offApply
  refine Same.ite ?_ ?_
  · refine Same.thru (applyDue_same ..) rfl ?_
    first | assumption | exact Same.refl _ _
  · first | assumption | exact Same.refl _ _

theorem barrierApply_same : ∀ s0, Same 18014398526263200 s0 (barrierApply s0) := by
  intro s0
  unfold barrierApply
  refine Same.thru (applyDue_same ..) rfl ?_
  first | assumption | exact Same.refl _ _

theorem resetApply_same : ∀ a0 a1 s0, Same 18014398526263200 s0 (resetApply a0 a1 s0) := by
  intro a0 a1 s0
  unfold resetApply
  refine Same.thru (applyDue_same ..) rfl ?_
  first | assumption | exact Same.refl _ _

end Sys2Proof.Machine
end

