-- ==== Sys2Proof/Laws/FrameCollective.lean ====
section
/-! SUPPORT. Laws/FrameCollective.lean: which fields of the state each operation of Machine/Collective.lean may change. -/
namespace Sys2Proof.Machine
open Sys2Proof

theorem updPlan_same : ∀ a0 a1 a2 a3 s0, Same 140737488355328 s0 (updPlan a0 a1 a2 a3 s0) := by
  intro a0 a1 a2 a3 s0
  unfold updPlan
  refine Same.thru (Same.put_plans _ _) rfl ?_
  first | assumption | exact Same.refl _ _

theorem updInst_same : ∀ a0 a1 a2 a3 s0, Same 281474976710656 s0 (updInst a0 a1 a2 a3 s0) := by
  intro a0 a1 a2 a3 s0
  unfold updInst
  refine Same.thru (Same.put_insts _ _) rfl ?_
  first | assumption | exact Same.refl _ _

theorem dropInst_same : ∀ a0 a1 a2 s0, Same 281474976710656 s0 (dropInst a0 a1 a2 s0) := by
  intro a0 a1 a2 s0
  unfold dropInst
  refine Same.thru (Same.put_insts _ _) rfl ?_
  first | assumption | exact Same.refl _ _

theorem collDiscard_same : ∀ a0 s0, Same 1024 s0 (collDiscard a0 s0) := by
  intro a0 s0
  unfold collDiscard
  refine Same.thru (bump_same ..) rfl ?_
  first | assumption | exact Same.refl _ _

theorem abortInst_same : ∀ a0 a1 a2 a3 a4 s0, Same 18524502874415030 s0 (abortInst a0 a1 a2 a3 a4 s0) := by
  intro a0 a1 a2 a3 a4 s0
  unfold abortInst
  split
  · refine Same.ite ?_ ?_
    · first | assumption | exact Same.refl _ _
    · refine Same.ite ?_ ?_
      · refine Same.ite ?_ ?_
        · refine Same.thru (updInst_same ..) rfl ?_
          first | assumption | exact Same.refl _ _
        · first | assumption | exact Same.refl _ _
      · extract_lets -merge -underBinder -useContext +onlyGivenNames x1 x2
        have h3 : Same 18524502874415030 s0 x1 := by
          unfold x1
          refine Same.thru (updInst_same ..) rfl ?_
          first | assumption | exact Same.refl _ _
        clear_value x1
        have h4 : Same 18524502874415030 s0 x2 := by
          unfold x2
          refine Same.thru (updPlan_same ..) rfl ?_
          first | assumption | exact Same.refl _ _
        clear_value x2
        refine Same.foldl (fun r5 e6 h7 => ?_) ?_
        · refine Same.thru (routeOut_same ..) rfl ?_
          first | assumption | exact Same.refl _ _
        · first | assumption | exact Same.refl _ _
  · first | assumption | exact Same.refl _ _

theorem pruneChunk_same : ∀ a0 a1 a2 a3 s0, Same 281474976715776 s0 (pruneChunk a0 a1 a2 a3 s0) := by
  intro a0 a1 a2 a3 s0
  unfold pruneChunk
  extract_lets -merge -underBinder -useContext +onlyGivenNames x1 x2
  have h3 : Same 281474976715776 s0 x1 := by
    unfold x1
    refine Same.thru (bumpBlob_same ..) rfl ?_
    refine Same.thru (bumpBlob_same ..) rfl ?_
    first | assumption | exact Same.refl _ _
  clear_value x1
  have h4 : Same 281474976715776 s0 x2 := by
    unfold x2
    refine Same.ite ?_ ?_
    · first | assumption | exact Same.refl _ _
    · refine Same.thru (report_same ..) rfl ?_
      first | assumption | exact Same.refl _ _
  clear_value x2
  refine Same.thru (updInst_same ..) rfl ?_
  first | assumption | exact Same.refl _ _

theorem flushN_same : ∀ a0 a1 a2 a3 s0, Same 18524502874415030 s0 (flushN a0 a1 a2 a3 s0) := by
  intro a0 a1 a2 a3 s0
  induction a0 generalizing a1 a2 a3 s0
  · unfold flushN
    first | assumption | exact Same.refl _ _
  · rename_i i0 ih
    unfold flushN
    split
    · extract_lets -merge -underBinder -useContext +onlyGivenNames x1
      split
      · first | assumption | exact Same.refl _ _
      · extract_lets -merge -underBinder -useContext +onlyGivenNames x2
        have h3 : Same 18524502874415030 s0 x2 := by
          unfold x2
          refine Same.thru (updInst_same ..) rfl ?_
          first | assumption | exact Same.refl _ _
        clear_value x2
        refine Same.ite ?_ ?_
        · refine Same.ite ?_ ?_
          · refine Same.thru (ih ..) rfl ?_
            refine Same.ite ?_ ?_
            · first | assumption | exact Same.refl _ _
            · refine Same.thru (pruneChunk_same ..) rfl ?_
              first | assumption | exact Same.refl _ _
          · refine Same.thru (abortInst_same ..) rfl ?_
            first | assumption | exact Same.refl _ _
        · extract_lets -merge -underBinder -useContext +onlyGivenNames x4 x5
          have h6 : Same 18524502874415030 s0 x5 := by
            unfold x5
            refine Same.ite ?_ ?_
            · first | assumption | exact Same.refl _ _
            · refine Same.thru (updInst_same ..) rfl ?_
              refine Same.thru (updPlan_same ..) rfl ?_
              first | assumption | exact Same.refl _ _
          clear_value x5
          refine Same.thru (ih ..) rfl ?_
          refine Same.thru (routeOut_same ..) rfl ?_
          first | assumption | exact Same.refl _ _
    · first | assumption | exact Same.refl _ _

theorem flush__same : ∀ a0 a1 a2 s0, Same 18524502874415030 s0 (flush_ a0 a1 a2 s0) := by
  intro a0 a1 a2 s0
  unfold flush_
  split
  · refine Same.ite ?_ ?_
    · refine Same.thru (abortInst_same ..) rfl ?_
      first | assumption | exact Same.refl _ _
    · refine Same.thru (flushN_same ..) rfl ?_
      first | assumption | exact Same.refl _ _
  · first | assumption | exact Same.refl _ _

theorem owe_same : ∀ a0 a1 a2 a3 a4 a5 a6 s0, Same 281474976710656 s0 (owe a0 a1 a2 a3 a4 a5 a6 s0) := by
  intro a0 a1 a2 a3 a4 a5 a6 s0
  unfold owe
  extract_lets -merge -underBinder -useContext +onlyGivenNames x1
  refine Same.thru (updInst_same ..) rfl ?_
  first | assumption | exact Same.refl _ _

theorem giveGrant_same : ∀ a0 a1 a2 s0, Same 140737488355328 s0 (giveGrant a0 a1 a2 s0) := by
  intro a0 a1 a2 s0
  unfold giveGrant
  extract_lets -merge -underBinder -useContext +onlyGivenNames x1
  refine Same.thru (updPlan_same ..) rfl ?_
  first | assumption | exact Same.refl _ _

theorem writeChunk_same : ∀ a0 a1 a2 a3 s0, Same 283399192318976 s0 (writeChunk a0 a1 a2 a3 s0) := by
  intro a0 a1 a2 a3 s0
  unfold writeChunk
  extract_lets -merge -underBinder -useContext +onlyGivenNames x1 x2
  have h3 : Same 283399192318976 s0 x2 := by
    unfold x2
    refine Same.thru (updInst_same ..) rfl ?_
    first | assumption | exact Same.refl _ _
  clear_value x2
  refine Same.foldl (fun r4 e5 h6 => ?_) ?_
  · extract_lets -merge -underBinder -useContext +onlyGivenNames x7 x8
    refine Same.thru (request_same ..) rfl ?_
    first | assumption | exact Same.refl _ _
  · first | assumption | exact Same.refl _ _

theorem finalChunk_same : ∀ a0 a1 a2 a3 a4 s0, Same 283399192318976 s0 (finalChunk a0 a1 a2 a3 a4 s0) := by
  intro a0 a1 a2 a3 a4 s0
  unfold finalChunk
  extract_lets -merge -underBinder -useContext +onlyGivenNames x1
  have h2 : Same 283399192318976 s0 x1 := by
    unfold x1
    refine Same.thru (writeChunk_same ..) rfl ?_
    first | assumption | exact Same.refl _ _
  clear_value x1
  refine Same.ite ?_ ?_
  · refine Same.foldl (fun r3 e4 h5 => ?_) ?_
    · refine Same.thru (owe_same ..) rfl ?_
      first | assumption | exact Same.refl _ _
    · first | assumption | exact Same.refl _ _
  · refine Same.ite ?_ ?_
    · first | assumption | exact Same.refl _ _
    · refine Same.thru (owe_same ..) rfl ?_
      first | assumption | exact Same.refl _ _

theorem tryTree_same : ∀ a0 a1 a2 s0, Same 424136680674304 s0 (tryTree a0 a1 a2 s0) := by
  intro a0 a1 a2 s0
  unfold tryTree
  extract_lets -merge -underBinder -useContext +onlyGivenNames x1 x2
  refine Same.ite ?_ ?_
  · first | assumption | exact Same.refl _ _
  · extract_lets -merge -underBinder -useContext +onlyGivenNames x3 x4 x5
    have h6 : Same 424136680674304 s0 x4 := by
      unfold x4
      refine Same.thru (updInst_same ..) rfl ?_
      first | assumption | exact Same.refl _ _
    clear_value x4
    have h7 : Same 424136680674304 s0 x5 := by
      unfold x5
      refine Same.foldl (fun r8 e9 h10 => ?_) ?_
      · refine Same.thru (giveGrant_same ..) rfl ?_
        first | assumption | exact Same.refl _ _
      · first | assumption | exact Same.refl _ _
    clear_value x5
    refine Same.ite ?_ ?_
    · refine Same.thru (finalChunk_same ..) rfl ?_
      first | assumption | exact Same.refl _ _
    · refine Same.thru (owe_same ..) rfl ?_
      first | assumption | exact Same.refl _ _

theorem tryRing_same : ∀ a0 a1 a2 a3 s0, Same 424136680674304 s0 (tryRing a0 a1 a2 a3 s0) := by
  intro a0 a1 a2 a3 s0
  unfold tryRing
  extract_lets -merge -underBinder -useContext +onlyGivenNames x1 x2 x3
  refine Same.ite ?_ ?_
  · first | assumption | exact Same.refl _ _
  · extract_lets -merge -underBinder -useContext +onlyGivenNames x4 x5 x6
    have h7 : Same 424136680674304 s0 x5 := by
      unfold x5
      refine Same.thru (updInst_same ..) rfl ?_
      first | assumption | exact Same.refl _ _
    clear_value x5
    have h8 : Same 424136680674304 s0 x6 := by
      unfold x6
      refine Same.thru (giveGrant_same ..) rfl ?_
      first | assumption | exact Same.refl _ _
    clear_value x6
    refine Same.ite ?_ ?_
    · refine Same.thru (finalChunk_same ..) rfl ?_
      first | assumption | exact Same.refl _ _
    · refine Same.thru (owe_same ..) rfl ?_
      first | assumption | exact Same.refl _ _

theorem readNext_same : ∀ a0 a1 a2 s0, Same 283399192318976 s0 (readNext a0 a1 a2 s0) := by
  intro a0 a1 a2 s0
  unfold readNext
  split
  · extract_lets -merge -underBinder -useContext +onlyGivenNames x1
    refine Same.ite ?_ ?_
    · first | assumption | exact Same.refl _ _
    · extract_lets -merge -underBinder -useContext +onlyGivenNames x2 x3 x4 x5 x6
      have h7 : Same 283399192318976 s0 x6 := by
        unfold x6
        refine Same.thru (updInst_same ..) rfl ?_
        first | assumption | exact Same.refl _ _
      clear_value x6
      refine Same.foldl (fun r8 e9 h10 => ?_) ?_
      · extract_lets -merge -underBinder -useContext +onlyGivenNames x11
        refine Same.thru (request_same ..) rfl ?_
        first | assumption | exact Same.refl _ _
      · first | assumption | exact Same.refl _ _
  · first | assumption | exact Same.refl _ _

theorem ownChunk_same : ∀ a0 a1 a2 a3 a4 s0, Same 424136680674304 s0 (ownChunk a0 a1 a2 a3 a4 s0) := by
  intro a0 a1 a2 a3 a4 s0
  unfold ownChunk
  refine Same.ite ?_ ?_
  · refine Same.thru (finalChunk_same ..) rfl ?_
    first | assumption | exact Same.refl _ _
  · refine Same.ite ?_ ?_
    · refine Same.thru (owe_same ..) rfl ?_
      first | assumption | exact Same.refl _ _
    · extract_lets -merge -underBinder -useContext +onlyGivenNames x1
      have h2 : Same 424136680674304 s0 x1 := by
        unfold x1
        refine Same.thru (updInst_same ..) rfl ?_
        first | assumption | exact Same.refl _ _
      clear_value x1
      split
      · refine Same.ite ?_ ?_
        · refine Same.thru (tryRing_same ..) rfl ?_
          first | assumption | exact Same.refl _ _
        · refine Same.thru (tryTree_same ..) rfl ?_
          first | assumption | exact Same.refl _ _
      · first | assumption | exact Same.refl _ _

theorem sendInc_same : ∀ a0 a1 a2 s0, Same 142661703963648 s0 (sendInc a0 a1 a2 s0) := by
  intro a0 a1 a2 s0
  unfold sendInc
  split
  · split
    · refine Same.ite ?_ ?_
      · first | assumption | exact Same.refl _ _
      · refine Same.thru (request_same ..) rfl ?_
        refine Same.thru (updPlan_same ..) rfl ?_
        first | assumption | exact Same.refl _ _
    · first | assumption | exact Same.refl _ _
  · first | assumption | exact Same.refl _ _

theorem nextIncN_same : ∀ a0 a1 a2 a3 s0, Same 422212465065984 s0 (nextIncN a0 a1 a2 a3 s0) := by
  intro a0 a1 a2 a3 s0
  induction a0 generalizing a1 a2 a3 s0
  · unfold nextIncN
    first | assumption | exact Same.refl _ _
  · rename_i i0 ih
    unfold nextIncN
    split
    · refine Same.ite ?_ ?_
      · first | assumption | exact Same.refl _ _
      · split
        refine Same.ite ?_ ?_
        · refine Same.thru (ih ..) rfl ?_
          refine Same.thru (updPlan_same ..) rfl ?_
          refine Same.thru (updInst_same ..) rfl ?_
          first | assumption | exact Same.refl _ _
        · first | assumption | exact Same.refl _ _
    · first | assumption | exact Same.refl _ _

theorem nextInc_same : ∀ a0 a1 a2 s0, Same 424136680674304 s0 (nextInc a0 a1 a2 s0) := by
  intro a0 a1 a2 s0
  unfold nextInc
  split
  · refine Same.thru (sendInc_same ..) rfl ?_
    refine Same.thru (nextIncN_same ..) rfl ?_
    first | assumption | exact Same.refl _ _
  · first | assumption | exact Same.refl _ _

theorem returnDown_same : ∀ a0 a1 a2 s0, Same 422212465065984 s0 (returnDown a0 a1 a2 s0) := by
  intro a0 a1 a2 s0
  unfold returnDown
  split
  · extract_lets -merge -underBinder -useContext +onlyGivenNames x1 x2
    refine Same.foldl (fun r3 e4 h5 => ?_) ?_
    · refine Same.thru (giveGrant_same ..) rfl ?_
      first | assumption | exact Same.refl _ _
    · refine Same.thru (updInst_same ..) rfl ?_
      first | assumption | exact Same.refl _ _
  · first | assumption | exact Same.refl _ _

theorem stampDone_same : ∀ a0 a1 a2 s0, Same 281474976710656 s0 (stampDone a0 a1 a2 s0) := by
  intro a0 a1 a2 s0
  unfold stampDone
  split
  · extract_lets -merge -underBinder -useContext +onlyGivenNames x1
    refine Same.ite ?_ ?_
    · refine Same.thru (updInst_same ..) rfl ?_
      first | assumption | exact Same.refl _ _
    · first | assumption | exact Same.refl _ _
  · first | assumption | exact Same.refl _ _

theorem tend_same : ∀ a0 a1 a2 s0, Same 18524502874415030 s0 (tend a0 a1 a2 s0) := by
  intro a0 a1 a2 s0
  unfold tend
  refine Same.thru (stampDone_same ..) rfl ?_
  refine Same.thru (returnDown_same ..) rfl ?_
  refine Same.thru (nextInc_same ..) rfl ?_
  refine Same.thru (flush__same ..) rfl ?_
  first | assumption | exact Same.refl _ _

theorem tendAll_same : ∀ s0, Same 18524502874415030 s0 (tendAll s0) := by
  intro s0
  unfold tendAll
  refine Same.foldl (fun r1 e2 h3 => ?_) ?_
  · refine Same.thru (tend_same ..) rfl ?_
    first | assumption | exact Same.refl _ _
  · first | assumption | exact Same.refl _ _

theorem collAnswer_same : ∀ a0 a1 a2 a3 a4 s0, Same 18524502874415030 s0 (collAnswer a0 a1 a2 a3 a4 s0) := by
  intro a0 a1 a2 a3 a4 s0
  unfold collAnswer
  refine Same.ite ?_ ?_
  · refine Same.ite ?_ ?_
    · first | assumption | exact Same.refl _ _
    · refine Same.thru (sendInc_same ..) rfl ?_
      refine Same.thru (updPlan_same ..) rfl ?_
      first | assumption | exact Same.refl _ _
  · split
    · refine Same.ite ?_ ?_
      · first | assumption | exact Same.refl _ _
      · refine Same.ite ?_ ?_
        · extract_lets -merge -underBinder -useContext +onlyGivenNames x1
          refine Same.ite ?_ ?_
          · refine Same.thru (updInst_same ..) rfl ?_
            first | assumption | exact Same.refl _ _
          · extract_lets -merge -underBinder -useContext +onlyGivenNames x2 x3 x4 x5
            have h6 : Same 18524502874415030 s0 x5 := by
              unfold x5
              refine Same.thru (updInst_same ..) rfl ?_
              first | assumption | exact Same.refl _ _
            clear_value x5
            refine Same.thru (readNext_same ..) rfl ?_
            refine Same.thru (tend_same ..) rfl ?_
            refine Same.thru (ownChunk_same ..) rfl ?_
            first | assumption | exact Same.refl _ _
        · extract_lets -merge -underBinder -useContext +onlyGivenNames x7
          refine Same.thru (tend_same ..) rfl ?_
          refine Same.thru (updInst_same ..) rfl ?_
          first | assumption | exact Same.refl _ _
    · first | assumption | exact Same.refl _ _

theorem endInst_same : ∀ a0 a1 a2 s0, Same 281474978807808 s0 (endInst a0 a1 a2 s0) := by
  intro a0 a1 a2 s0
  unfold endInst
  refine Same.thru (updPd_same ..) rfl ?_
  refine Same.thru (dropInst_same ..) rfl ?_
  first | assumption | exact Same.refl _ _

theorem doCollComplete_same : ∀ a0 a1 a2 s0, Same 18524502874415030 s0 (doCollComplete a0 a1 a2 s0) := by
  intro a0 a1 a2 s0
  unfold doCollComplete
  split
  · refine Same.ite ?_ ?_
    · refine Same.thru (endInst_same ..) rfl ?_
      first | assumption | exact Same.refl _ _
    · refine Same.ite ?_ ?_
      · refine Same.ite ?_ ?_
        · refine Same.thru (abortInst_same ..) rfl ?_
          first | assumption | exact Same.refl _ _
        · refine Same.thru (endInst_same ..) rfl ?_
          first | assumption | exact Same.refl _ _
      · first | assumption | exact Same.refl _ _
  · first | assumption | exact Same.refl _ _

theorem barrierDone_same : ∀ a0 a1 s0, Same 21902202594942902 s0 (barrierDone a0 a1 s0) := by
  intro a0 a1 s0
  unfold barrierDone
  refine Same.ite ?_ ?_
  · refine Same.thru (abortInst_same ..) rfl ?_
    first | assumption | exact Same.refl _ _
  · extract_lets -merge -underBinder -useContext +onlyGivenNames x1 x2 x3 x4
    have h5 : Same 21902202594942902 s0 x1 := by
      unfold x1
      refine Same.foldl (fun r6 e7 h8 => ?_) ?_
      · refine Same.thru (routeOut_same ..) rfl ?_
        first | assumption | exact Same.refl _ _
      · first | assumption | exact Same.refl _ _
    clear_value x1
    have h9 : Same 21902202594942902 s0 x2 := by
      unfold x2
      refine Same.thru (updPd_same ..) rfl ?_
      refine Same.thru (dropInst_same ..) rfl ?_
      first | assumption | exact Same.refl _ _
    clear_value x2
    have h10 : Same 21902202594942902 s0 x3 := by
      unfold x3
      refine Same.thru (barrierApply_same ..) rfl ?_
      first | assumption | exact Same.refl _ _
    clear_value x3
    refine Same.ite ?_ ?_
    · refine Same.thru (journal_same ..) rfl ?_
      refine Same.thru (Same.put_barrierHold _ _) rfl ?_
      first | assumption | exact Same.refl _ _
    · refine Same.thru (Same.put_tickIncs _ _) rfl ?_
      first | assumption | exact Same.refl _ _

theorem tryBarrier_same : ∀ a0 a1 a2 s0, Same 21902202594942902 s0 (tryBarrier a0 a1 a2 s0) := by
  intro a0 a1 a2 s0
  unfold tryBarrier
  split
  · refine Same.ite ?_ ?_
    · first | assumption | exact Same.refl _ _
    · refine Same.ite ?_ ?_
      · refine Same.thru (abortInst_same ..) rfl ?_
        first | assumption | exact Same.refl _ _
      · refine Same.ite ?_ ?_
        · refine Same.thru (barrierDone_same ..) rfl ?_
          first | assumption | exact Same.refl _ _
        · refine Same.thru (routeOut_same ..) rfl ?_
          refine Same.thru (updInst_same ..) rfl ?_
          first | assumption | exact Same.refl _ _
  · first | assumption | exact Same.refl _ _

theorem releaseHolds_same : ∀ s0, Same 21392098246791072 s0 (releaseHolds s0) := by
  intro s0
  unfold releaseHolds
  refine Same.foldl (fun r1 e2 h3 => ?_) ?_
  · refine Same.thru (journal_same ..) rfl ?_
    refine Same.thru (Same.put_tickIncs _ _) rfl ?_
    first | assumption | exact Same.refl _ _
  · refine Same.thru (Same.put_barrierHold _ _) rfl ?_
    first | assumption | exact Same.refl _ _

theorem tickIncApply_same : ∀ a0 a1 s0, Same 1125906349297668 s0 (tickIncApply a0 a1 s0) := by
  intro a0 a1 s0
  unfold tickIncApply
  extract_lets -merge -underBinder -useContext +onlyGivenNames x1 x2
  refine Same.foldl (fun r3 e4 h5 => ?_) ?_
  · refine Same.thru (applyEv_same ..) rfl ?_
    first | assumption | exact Same.refl _ _
  · refine Same.thru (Same.put_tickIncs _ _) rfl ?_
    first | assumption | exact Same.refl _ _

theorem chunkIn_same : ∀ a0 a1 a2 a3 a4 a5 s0, Same 18524502874415030 s0 (chunkIn a0 a1 a2 a3 a4 a5 s0) := by
  intro a0 a1 a2 a3 a4 a5 s0
  unfold chunkIn
  extract_lets -merge -underBinder -useContext +onlyGivenNames x1 x2
  extract_lets -merge -underBinder -useContext +onlyGivenNames x3
  have h4 : Same 18524502874415030 s0 x3 := by
    unfold x3
    refine Same.thru (updInst_same ..) rfl ?_
    first | assumption | exact Same.refl _ _
  clear_value x3
  extract_lets -merge -underBinder -useContext +onlyGivenNames x5
  extract_lets -merge -underBinder -useContext +onlyGivenNames x6
  have h7 : Same 18524502874415030 s0 x6 := by
    unfold x6
    refine Same.ite ?_ ?_
    · split
      · refine Same.ite ?_ ?_
        · refine Same.thru (tryRing_same ..) rfl ?_
          first | assumption | exact Same.refl _ _
        · refine Same.thru (tryTree_same ..) rfl ?_
          first | assumption | exact Same.refl _ _
      · first | assumption | exact Same.refl _ _
    · refine Same.thru (finalChunk_same ..) rfl ?_
      refine Same.thru (updInst_same ..) rfl ?_
      first | assumption | exact Same.refl _ _
  clear_value x6
  refine Same.thru (tend_same ..) rfl ?_
  first | assumption | exact Same.refl _ _

theorem ctrlIn_same : ∀ a0 a1 a2 a3 s0, Same 21902202594942902 s0 (ctrlIn a0 a1 a2 a3 s0) := by
  intro a0 a1 a2 a3 s0
  unfold ctrlIn
  refine Same.ite ?_ ?_
  · refine Same.thru (tryBarrier_same ..) rfl ?_
    refine Same.thru (updInst_same ..) rfl ?_
    first | assumption | exact Same.refl _ _
  · refine Same.ite ?_ ?_
    · refine Same.ite ?_ ?_
      · first | assumption | exact Same.refl _ _
      · refine Same.thru (barrierDone_same ..) rfl ?_
        first | assumption | exact Same.refl _ _
    · refine Same.ite ?_ ?_
      · refine Same.ite ?_ ?_
        · first | assumption | exact Same.refl _ _
        · refine Same.thru (abortInst_same ..) rfl ?_
          first | assumption | exact Same.refl _ _
      · extract_lets -merge -underBinder -useContext +onlyGivenNames x1
        have h2 : Same 21902202594942902 s0 x1 := by
          unfold x1
          refine Same.thru (updInst_same ..) rfl ?_
          first | assumption | exact Same.refl _ _
        clear_value x1
        refine Same.ite ?_ ?_
        · refine Same.thru (tend_same ..) rfl ?_
          first | assumption | exact Same.refl _ _
        · refine Same.thru (abortInst_same ..) rfl ?_
          first | assumption | exact Same.refl _ _

theorem takeIn_same : ∀ a0 a1 s0, Same 21902202594942902 s0 (takeIn a0 a1 s0) := by
  intro a0 a1 s0
  unfold takeIn
  extract_lets -merge -underBinder -useContext +onlyGivenNames x1
  split
  · refine Same.ite ?_ ?_
    · refine Same.ite ?_ ?_
      · first | assumption | exact Same.refl _ _
      · refine Same.thru (collDiscard_same ..) rfl ?_
        first | assumption | exact Same.refl _ _
    · refine Same.ite ?_ ?_
      · refine Same.thru (ctrlIn_same ..) rfl ?_
        first | assumption | exact Same.refl _ _
      · refine Same.ite ?_ ?_
        · first | assumption | exact Same.refl _ _
        · refine Same.thru (chunkIn_same ..) rfl ?_
          first | assumption | exact Same.refl _ _
  · refine Same.ite ?_ ?_
    · first | assumption | exact Same.refl _ _
    · refine Same.thru (collDiscard_same ..) rfl ?_
      first | assumption | exact Same.refl _ _

theorem planIn_same : ∀ a0 a1 s0, Same 21902202594942902 s0 (planIn a0 a1 s0) := by
  intro a0 a1 s0
  unfold planIn
  extract_lets -merge -underBinder -useContext +onlyGivenNames x1 x2 x3 x4 x5
  refine Same.ite ?_ ?_
  · extract_lets -merge -underBinder -useContext +onlyGivenNames x6
    refine Same.ite ?_ ?_
    · first | assumption | exact Same.refl _ _
    · extract_lets -merge -underBinder -useContext +onlyGivenNames x7
      refine Same.thru (tend_same ..) rfl ?_
      refine Same.thru (updPlan_same ..) rfl ?_
      first | assumption | exact Same.refl _ _
  · refine Same.ite ?_ ?_
    · refine Same.ite ?_ ?_
      · first | assumption | exact Same.refl _ _
      · refine Same.thru (updPlan_same ..) rfl ?_
        first | assumption | exact Same.refl _ _
    · refine Same.ite ?_ ?_
      · refine Same.thru (collDiscard_same ..) rfl ?_
        first | assumption | exact Same.refl _ _
      · refine Same.ite ?_ ?_
        · unfold x5
          refine Same.ite ?_ ?_
          · refine Same.thru (updPlan_same ..) rfl ?_
            first | assumption | exact Same.refl _ _
          · refine Same.thru (updPlan_same ..) rfl ?_
            refine Same.thru (updPlan_same ..) rfl ?_
            first | assumption | exact Same.refl _ _
        · refine Same.ite ?_ ?_
          · refine Same.thru (takeIn_same ..) rfl ?_
            unfold x5
            refine Same.ite ?_ ?_
            · first | assumption | exact Same.refl _ _
            · refine Same.thru (updPlan_same ..) rfl ?_
              first | assumption | exact Same.refl _ _
          · refine Same.thru (takeIn_same ..) rfl ?_
            first | assumption | exact Same.refl _ _

theorem collHere_same : ∀ a0 a1 s0, Same 22465152548364214 s0 (collHere a0 a1 s0) := by
  intro a0 a1 s0
  unfold collHere
  extract_lets -merge -underBinder -useContext +onlyGivenNames x1 x2 x3 x4
  refine Same.ite ?_ ?_
  · refine Same.thru (collDiscard_same ..) rfl ?_
    first | assumption | exact Same.refl _ _
  · refine Same.ite ?_ ?_
    · extract_lets -merge -underBinder -useContext +onlyGivenNames x5 x6
      have h7 : Same 22465152548364214 s0 x6 := by
        unfold x6
        refine Same.thru (collDiscard_same ..) rfl ?_
        first | assumption | exact Same.refl _ _
      clear_value x6
      refine Same.ite ?_ ?_
      · first | assumption | exact Same.refl _ _
      · extract_lets -merge -underBinder -useContext +onlyGivenNames x8
        refine Same.thru (routeOut_same ..) rfl ?_
        refine Same.thru (updPd_same ..) rfl ?_
        first | assumption | exact Same.refl _ _
    · clear_value x4
      split
      · refine Same.thru (planIn_same ..) rfl ?_
        first | assumption | exact Same.refl _ _
      · refine Same.ite ?_ ?_
        · refine Same.thru (Same.put_ctrlTable _ _) rfl ?_
          first | assumption | exact Same.refl _ _
        · refine Same.thru (collDiscard_same ..) rfl ?_
          refine Same.ite ?_ ?_
          · refine Same.thru (report_same ..) rfl ?_
            first | assumption | exact Same.refl _ _
          · first | assumption | exact Same.refl _ _

theorem collReceive_same : ∀ a0 a1 a2 a3 s0, Same 22500336920453046 s0 (collReceive a0 a1 a2 a3 s0) := by
  intro a0 a1 a2 a3 s0
  unfold collReceive
  extract_lets -merge -underBinder -useContext +onlyGivenNames x1
  split
  · extract_lets -merge -underBinder -useContext +onlyGivenNames x2
    extract_lets -merge -underBinder -useContext +onlyGivenNames x3
    refine receive_thru rfl ?_ ?_
    · intro y4 y5 hy6
      refine Same.thru (collHere_same ..) rfl ?_
      first | assumption | exact Same.refl _ _
    · first | assumption | exact Same.refl _ _
  · refine receive_thru rfl ?_ ?_
    · intro y7 y8 hy9
      refine Same.thru (collHere_same ..) rfl ?_
      first | assumption | exact Same.refl _ _
    · first | assumption | exact Same.refl _ _

theorem doPlanLoad_same : ∀ a0 a1 s0, Same 22465152548364214 s0 (doPlanLoad a0 a1 s0) := by
  intro a0 a1 s0
  unfold doPlanLoad
  extract_lets -merge -underBinder -useContext +onlyGivenNames x1
  split
  · first | assumption | exact Same.refl _ _
  · refine Same.ite ?_ ?_
    · first | assumption | exact Same.refl _ _
    · extract_lets -merge -underBinder -useContext +onlyGivenNames x2 x3 x4 x5
      have h6 : Same 22465152548364214 s0 x4.s := by
        unfold x4
        first | assumption | exact Same.refl _ _
      clear_value x4
      split
      rename_i v7 v8 v9 hq10
      extract_lets -merge -underBinder -useContext +onlyGivenNames x11 x12 x13
      extract_lets -merge -underBinder -useContext +onlyGivenNames x14
      have h15 : Same 22465152548364214 s0 x14.s := by
        unfold x14
        refine Same.iteRun ?_ ?_
        · refine Same.thru (Run.stop_same ..) rfl ?_
          have h16 : Same 22465152548364214 s0 v9.s := Same.of_eq (fun z : List Byte × Run => z.2.s) hq10 (by
            refine Same.iteOf (fun z : List Byte × Run => z.2.s) ?_ ?_
            · dsimp -zeta only
              refine Same.thru (Run.stop_same ..) rfl ?_
              first | assumption | exact Same.refl _ _
            · refine Same.thru (copyGet_same ..) rfl ?_
              first | assumption | exact Same.refl _ _
            )
          first | assumption | exact Same.refl _ _
        · have h17 : Same 22465152548364214 s0 v9.s := Same.of_eq (fun z : List Byte × Run => z.2.s) hq10 (by
            refine Same.iteOf (fun z : List Byte × Run => z.2.s) ?_ ?_
            · dsimp -zeta only
              refine Same.thru (Run.stop_same ..) rfl ?_
              first | assumption | exact Same.refl _ _
            · refine Same.thru (copyGet_same ..) rfl ?_
              first | assumption | exact Same.refl _ _
            )
          first | assumption | exact Same.refl _ _
      clear_value x14
      refine Same.ite ?_ ?_
      · refine Same.thru (finishRun_same ..) rfl ?_
        first | assumption | exact Same.refl _ _
      · extract_lets -merge -underBinder -useContext +onlyGivenNames x18 x19 x20 x21 x22 x23 x24 x25 x26
        have h27 : Same 22465152548364214 s0 x18 := by
          unfold x18
          first | assumption | exact Same.refl _ _
        clear_value x18
        have h28 : Same 22465152548364214 s0 x19 := by
          unfold x19
          split
          · refine Same.thru (endInst_same ..) rfl ?_
            first | assumption | exact Same.refl _ _
          · first | assumption | exact Same.refl _ _
        clear_value x19
        have h29 : Same 22465152548364214 s0 x21 := by
          unfold x21
          refine Same.thru (Same.put_plans _ _) rfl ?_
          first | assumption | exact Same.refl _ _
        clear_value x21
        have h30 : Same 22465152548364214 s0 x22 := by
          unfold x22
          refine Same.foldl (fun r31 e32 h33 => ?_) ?_
          · split
            refine Same.thru (routeOut_same ..) rfl ?_
            first | assumption | exact Same.refl _ _
          · first | assumption | exact Same.refl _ _
        clear_value x22
        have h34 : Same 22465152548364214 s0 x25 := by
          unfold x25
          refine Same.thru (Same.put_ctrlTable _ _) rfl ?_
          first | assumption | exact Same.refl _ _
        clear_value x25
        have h35 : Same 22465152548364214 s0 x26 := by
          unfold x26
          refine Same.foldl (fun r36 e37 h38 => ?_) ?_
          · split
            · refine Same.thru (planIn_same ..) rfl ?_
              first | assumption | exact Same.refl _ _
            · first | assumption | exact Same.refl _ _
          · first | assumption | exact Same.refl _ _
        clear_value x26
        refine Same.thru (markDone_same ..) rfl ?_
        first | assumption | exact Same.refl _ _

theorem doCollStart_same : ∀ a0 a1 s0, Same 21902271314419638 s0 (doCollStart a0 a1 s0) := by
  intro a0 a1 s0
  unfold doCollStart
  extract_lets -merge -underBinder -useContext +onlyGivenNames x1
  split
  · first | assumption | exact Same.refl _ _
  · extract_lets -merge -underBinder -useContext +onlyGivenNames x2 x3 x4
    have h5 : Same 21902271314419638 s0 x4 := by
      unfold x4
      refine Same.thru (haltFly_same ..) rfl ?_
      first | assumption | exact Same.refl _ _
    clear_value x4
    split
    · first | assumption | exact Same.refl _ _
    · refine Same.ite ?_ ?_
      · first | assumption | exact Same.refl _ _
      · extract_lets -merge -underBinder -useContext +onlyGivenNames x6 x7 x8 x9 x10 x11 x12
        have h13 : Same 21902271314419638 s0 x6 := by
          unfold x6
          split
          · refine Same.thru (endInst_same ..) rfl ?_
            first | assumption | exact Same.refl _ _
          · first | assumption | exact Same.refl _ _
        clear_value x6
        have h14 : Same 21902271314419638 s0 x11 := by
          unfold x11
          refine Same.thru (retire_same ..) rfl ?_
          first | assumption | exact Same.refl _ _
        clear_value x11
        have h15 : Same 21902271314419638 s0 x12 := by
          unfold x12
          refine Same.thru (updPlan_same ..) rfl ?_
          refine Same.thru (Same.put_insts _ _) rfl ?_
          first | assumption | exact Same.refl _ _
        clear_value x12
        clear_value x9
        split
        · refine Same.thru (abortInst_same ..) rfl ?_
          first | assumption | exact Same.refl _ _
        · extract_lets -merge -underBinder -useContext +onlyGivenNames x16
          have h17 : Same 21902271314419638 s0 x16 := by
            unfold x16
            refine Same.foldl (fun r18 e19 h20 => ?_) ?_
            · split
              · refine Same.thru (takeIn_same ..) rfl ?_
                first | assumption | exact Same.refl _ _
              · first | assumption | exact Same.refl _ _
            · first | assumption | exact Same.refl _ _
          clear_value x16
          refine Same.ite ?_ ?_
          · refine Same.thru (readNext_same ..) rfl ?_
            refine Same.thru (tend_same ..) rfl ?_
            first | assumption | exact Same.refl _ _
          · refine Same.thru (tryBarrier_same ..) rfl ?_
            first | assumption | exact Same.refl _ _

theorem doCollTimeout_same : ∀ a0 a1 a2 s0, Same 18524502874415030 s0 (doCollTimeout a0 a1 a2 s0) := by
  intro a0 a1 a2 s0
  unfold doCollTimeout
  split
  · refine Same.ite ?_ ?_
    · refine Same.thru (endInst_same ..) rfl ?_
      first | assumption | exact Same.refl _ _
    · refine Same.ite ?_ ?_
      · first | assumption | exact Same.refl _ _
      · refine Same.thru (abortInst_same ..) rfl ?_
        refine Same.thru (advanceTo_same ..) rfl ?_
        first | assumption | exact Same.refl _ _
  · first | assumption | exact Same.refl _ _

theorem noteAbort_same : ∀ a0 s0, Same 2098176 s0 (noteAbort a0 s0) := by
  intro a0 s0
  unfold noteAbort
  refine Same.thru (blobSet_same ..) rfl ?_
  refine Same.thru (updPd_same ..) rfl ?_
  first | assumption | exact Same.refl _ _

theorem doSettle_same : ∀ a0 a1 a2 s0, Same 18436611127648162 s0 (doSettle a0 a1 a2 s0) := by
  intro a0 a1 a2 s0
  unfold doSettle
  split
  · refine Same.ite ?_ ?_
    · first | assumption | exact Same.refl _ _
    · extract_lets -merge -underBinder -useContext +onlyGivenNames x1 x2 x3
      have h4 : Same 18436611127648162 s0 x1 := by
        unfold x1
        refine Same.thru (advanceTo_same ..) rfl ?_
        first | assumption | exact Same.refl _ _
      clear_value x1
      have h5 : Same 18436611127648162 s0 x2 := by
        unfold x2
        refine Same.thru (updPlan_same ..) rfl ?_
        refine Same.thru (dropInst_same ..) rfl ?_
        first | assumption | exact Same.refl _ _
      clear_value x2
      have h6 : Same 18436611127648162 s0 x3 := by
        unfold x3
        refine Same.thru (noteAbort_same ..) rfl ?_
        first | assumption | exact Same.refl _ _
      clear_value x3
      refine Same.thru (chargeFault_same ..) rfl ?_
      first | assumption | exact Same.refl _ _
  · first | assumption | exact Same.refl _ _

theorem sendGrants_same : ∀ a0 a1 a2 a3 s0, Same 18243027897704374 s0 (sendGrants a0 a1 a2 a3 s0) := by
  intro a0 a1 a2 a3 s0
  unfold sendGrants
  refine Same.foldl (fun r1 e2 h3 => ?_) ?_
  · refine Same.thru (routeOut_same ..) rfl ?_
    first | assumption | exact Same.refl _ _
  · refine Same.thru (updPlan_same ..) rfl ?_
    first | assumption | exact Same.refl _ _

theorem doGrantDeadline_same : ∀ a0 s0, Same 18243027897704374 s0 (doGrantDeadline a0 s0) := by
  intro a0 s0
  unfold doGrantDeadline
  extract_lets -merge -underBinder -useContext +onlyGivenNames x1
  clear_value x1
  split
  · first | assumption | exact Same.refl _ _
  · extract_lets -merge -underBinder -useContext +onlyGivenNames x2 x3
    have h4 : Same 18243027897704374 s0 x3 := by
      unfold x3
      refine Same.thru (advanceTo_same ..) rfl ?_
      first | assumption | exact Same.refl _ _
    clear_value x3
    refine Same.foldl (fun r5 e6 h7 => ?_) ?_
    · extract_lets -merge -underBinder -useContext +onlyGivenNames x8
      have h9 : Same 18243027897704374 s0 x8 := by
        unfold x8
        refine Same.thru (updPlan_same ..) rfl ?_
        first | assumption | exact Same.refl _ _
      clear_value x8
      refine Same.foldl (fun r10 e11 h12 => ?_) ?_
      · refine Same.thru (sendGrants_same ..) rfl ?_
        first | assumption | exact Same.refl _ _
      · first | assumption | exact Same.refl _ _
    · first | assumption | exact Same.refl _ _

theorem purgeColl_same : ∀ a0 s0, Same 22465152548364214 s0 (purgeColl a0 s0) := by
  intro a0 s0
  unfold purgeColl
  extract_lets -merge -underBinder -useContext +onlyGivenNames x1
  have h2 : Same 22465152548364214 s0 x1 := by
    unfold x1
    refine Same.foldl (fun r3 e4 h5 => ?_) ?_
    · refine Same.ite ?_ ?_
      · refine Same.thru (endInst_same ..) rfl ?_
        first | assumption | exact Same.refl _ _
      · refine Same.thru (noteAbort_same ..) rfl ?_
        refine Same.thru (abortInst_same ..) rfl ?_
        first | assumption | exact Same.refl _ _
    · first | assumption | exact Same.refl _ _
  clear_value x1
  refine Same.thru (Same.put_plans_insts_ctrlTable_tickIncs_barrierHold _ _ _ _ _ _) rfl ?_
  first | assumption | exact Same.refl _ _

theorem execPlanLoad_same : ∀ a0 a1 s0 t, execPlanLoad a0 a1 s0 = .next t → Same 22465152548364214 s0 t := by
  intro a0 a1 s0 t ht
  unfold execPlanLoad at ht
  refine Same.next ht ?_
  refine Same.thru (doPlanLoad_same ..) rfl ?_
  first | assumption | exact Same.refl _ _

theorem execCollStart_same : ∀ a0 a1 s0 t, execCollStart a0 a1 s0 = .next t → Same 21902271314419638 s0 t := by
  intro a0 a1 s0 t ht
  unfold execCollStart at ht
  refine Same.next ht ?_
  refine Same.thru (doCollStart_same ..) rfl ?_
  first | assumption | exact Same.refl _ _

theorem execCUp_same : ∀ a0 a1 s0 t, execCUp a0 a1 s0 = .next t → Same 22500336920453046 s0 t := by
  intro a0 a1 s0 t ht
  unfold execCUp at ht
  refine Same.next ht ?_
  refine Same.thru (collReceive_same ..) rfl ?_
  first | assumption | exact Same.refl _ _

theorem execCDown_same : ∀ a0 a1 s0 t, execCDown a0 a1 s0 = .next t → Same 22500336920453046 s0 t := by
  intro a0 a1 s0 t ht
  unfold execCDown at ht
  refine Same.next ht ?_
  refine Same.thru (collReceive_same ..) rfl ?_
  first | assumption | exact Same.refl _ _

theorem execArrive_same : ∀ a0 a1 s0 t, execArrive a0 a1 s0 = .next t → Same 22500336920453046 s0 t := by
  intro a0 a1 s0 t ht
  unfold execArrive at ht
  refine Same.next ht ?_
  refine Same.thru (collReceive_same ..) rfl ?_
  first | assumption | exact Same.refl _ _

theorem execRelease_same : ∀ a0 a1 s0 t, execRelease a0 a1 s0 = .next t → Same 22500336920453046 s0 t := by
  intro a0 a1 s0 t ht
  unfold execRelease at ht
  refine Same.next ht ?_
  refine Same.thru (collReceive_same ..) rfl ?_
  first | assumption | exact Same.refl _ _

theorem execGrant_same : ∀ a0 a1 s0 t, execGrant a0 a1 s0 = .next t → Same 22500336920453046 s0 t := by
  intro a0 a1 s0 t ht
  unfold execGrant at ht
  refine Same.next ht ?_
  refine Same.thru (collReceive_same ..) rfl ?_
  first | assumption | exact Same.refl _ _

theorem execAbort_same : ∀ a0 a1 s0 t, execAbort a0 a1 s0 = .next t → Same 22500336920453046 s0 t := by
  intro a0 a1 s0 t ht
  unfold execAbort at ht
  refine Same.next ht ?_
  refine Same.thru (collReceive_same ..) rfl ?_
  first | assumption | exact Same.refl _ _

theorem execPrune_same : ∀ a0 a1 s0 t, execPrune a0 a1 s0 = .next t → Same 22500336920453046 s0 t := by
  intro a0 a1 s0 t ht
  unfold execPrune at ht
  refine Same.next ht ?_
  refine Same.thru (collReceive_same ..) rfl ?_
  first | assumption | exact Same.refl _ _

theorem execCollComplete_same : ∀ a0 a1 a2 s0 t, execCollComplete a0 a1 a2 s0 = .next t → Same 18524502874415030 s0 t := by
  intro a0 a1 a2 s0 t ht
  unfold execCollComplete at ht
  refine Same.next ht ?_
  refine Same.thru (doCollComplete_same ..) rfl ?_
  first | assumption | exact Same.refl _ _

theorem execCollTimeout_same : ∀ a0 a1 a2 s0 t, execCollTimeout a0 a1 a2 s0 = .next t → Same 18524502874415030 s0 t := by
  intro a0 a1 a2 s0 t ht
  unfold execCollTimeout at ht
  refine Same.next ht ?_
  refine Same.thru (doCollTimeout_same ..) rfl ?_
  first | assumption | exact Same.refl _ _

theorem execSettleWindowClose_same : ∀ a0 a1 a2 s0 t, execSettleWindowClose a0 a1 a2 s0 = .next t → Same 18436611127648162 s0 t := by
  intro a0 a1 a2 s0 t ht
  unfold execSettleWindowClose at ht
  refine Same.next ht ?_
  refine Same.thru (doSettle_same ..) rfl ?_
  first | assumption | exact Same.refl _ _

theorem execGrantReturnDeadline_same : ∀ a0 s0 t, execGrantReturnDeadline a0 s0 = .next t → Same 18243027897704374 s0 t := by
  intro a0 s0 t ht
  unfold execGrantReturnDeadline at ht
  refine Same.next ht ?_
  refine Same.thru (doGrantDeadline_same ..) rfl ?_
  first | assumption | exact Same.refl _ _

end Sys2Proof.Machine
end

