-- ==== Sys2Proof/Laws/FrameExchange.lean ====
section
/-! SUPPORT. Laws/FrameExchange.lean: which fields of the state each operation of Machine/Exchange.lean may change. -/
namespace Sys2Proof.Machine
open Sys2Proof

theorem setKey_same : ∀ a0 a1 s0, Same 64 s0 (setKey a0 a1 s0) := by
  intro a0 a1 s0
  unfold setKey
  refine Same.thru (Same.put_sec _ _ (SecSt.wf_mk (fun h => wf_tset h))) rfl ?_
  first | assumption | exact Same.refl _ _

theorem countSeal_same : ∀ a0 s0, Same 64 s0 (countSeal a0 s0) := by
  intro a0 s0
  unfold countSeal
  refine Same.thru (setKey_same ..) rfl ?_
  first | assumption | exact Same.refl _ _

theorem zeroDoor_same : ∀ a0 s0, Same 1610612736 s0 (zeroDoor a0 s0) := by
  intro a0 s0
  unfold zeroDoor
  refine Same.thru (zeroBytes_same ..) rfl ?_
  refine Same.thru (zeroBytes_same ..) rfl ?_
  first | assumption | exact Same.refl _ _

theorem xchEnd_same : ∀ a0 a1 a2 a3 s0, Same 18014400136877056 s0 (xchEnd a0 a1 a2 a3 s0) := by
  intro a0 a1 a2 a3 s0
  unfold xchEnd
  extract_lets -merge -underBinder -useContext +onlyGivenNames x1 x2 x3 x4
  have h5 : Same 18014400136877056 s0 x2 := by
    unfold x2
    refine Same.thru (writeBytes_same ..) rfl ?_
    refine Same.thru (writeBytes_same ..) rfl ?_
    first | assumption | exact Same.refl _ _
  clear_value x2
  have h6 : Same 18014400136877056 s0 x3 := by
    unfold x3
    refine Same.ite ?_ ?_
    · refine Same.thru (bumpBlob_same ..) rfl ?_
      first | assumption | exact Same.refl _ _
    · first | assumption | exact Same.refl _ _
  clear_value x3
  have h7 : Same 18014400136877056 s0 x4 := by
    unfold x4
    refine Same.ite ?_ ?_
    · refine Same.thru (report_same ..) rfl ?_
      first | assumption | exact Same.refl _ _
    · first | assumption | exact Same.refl _ _
  clear_value x4
  refine Same.thru (raiseOn_same ..) rfl ?_
  first | assumption | exact Same.refl _ _

theorem xchDrop_same : ∀ a0 s0, Same 9007749010554880 s0 (xchDrop a0 s0) := by
  intro a0 s0
  unfold xchDrop
  refine Same.thru (Same.put_txns_xch _ _ _) rfl ?_
  first | assumption | exact Same.refl _ _

theorem xchStop_same : ∀ a0 a1 s0, Same 27022149147431936 s0 (xchStop a0 a1 s0) := by
  intro a0 a1 s0
  unfold xchStop
  refine Same.thru (xchEnd_same ..) rfl ?_
  refine Same.thru (xchDrop_same ..) rfl ?_
  first | assumption | exact Same.refl _ _

theorem xchFlush_same : ∀ a0 a1 a2 a3 s0, Same 18014400136877056 s0 (xchFlush a0 a1 a2 a3 s0) := by
  intro a0 a1 a2 a3 s0
  induction a0 generalizing a1 a2 a3 s0
  · unfold xchFlush
    first | assumption | exact Same.refl _ _
  · rename_i i0 ih
    unfold xchFlush
    refine Same.thru (ih ..) rfl ?_
    refine Same.thru (xchEnd_same ..) rfl ?_
    first | assumption | exact Same.refl _ _

theorem xchAbort_same : ∀ a0 a1 s0, Same 27022149147431936 s0 (xchAbort a0 a1 s0) := by
  intro a0 a1 s0
  unfold xchAbort
  extract_lets -merge -underBinder -useContext +onlyGivenNames x1
  have h2 : Same 27022149147431936 s0 x1 := by
    unfold x1
    refine Same.foldl (fun r3 e4 h5 => ?_) ?_
    · refine Same.thru (xchStop_same ..) rfl ?_
      first | assumption | exact Same.refl _ _
    · first | assumption | exact Same.refl _ _
  clear_value x1
  refine Same.foldl (fun r6 e7 h8 => ?_) ?_
  · refine Same.thru (xchFlush_same ..) rfl ?_
    first | assumption | exact Same.refl _ _
  · first | assumption | exact Same.refl _ _

theorem xchSend_same : ∀ a0 s0, Same 9009123470349312 s0 (xchSend a0 s0) := by
  intro a0 s0
  unfold xchSend
  split
  · first | assumption | exact Same.refl _ _
  · extract_lets -merge -underBinder -useContext +onlyGivenNames x1 x2 x3
    refine Same.ite ?_ ?_
    · first | assumption | exact Same.refl _ _
    · extract_lets -merge -underBinder -useContext +onlyGivenNames x4
      refine Same.thru (request_same ..) rfl ?_
      refine Same.thru (Same.put_xch _ _) rfl ?_
      first | assumption | exact Same.refl _ _

theorem doXchRequest_same : ∀ a0 a1 s0, Same 27023523607221248 s0 (doXchRequest a0 a1 s0) := by
  intro a0 a1 s0
  unfold doXchRequest
  refine Same.ite ?_ ?_
  · first | assumption | exact Same.refl _ _
  · extract_lets -merge -underBinder -useContext +onlyGivenNames x1 x2 x3 x4 x5
    have h6 : Same 27023523607221248 s0 x4 := by
      unfold x4
      refine Same.thru (updHost_same ..) rfl ?_
      first | assumption | exact Same.refl _ _
    clear_value x4
    refine Same.ite ?_ ?_
    · refine Same.thru (xchEnd_same ..) rfl ?_
      first | assumption | exact Same.refl _ _
    · extract_lets -merge -underBinder -useContext +onlyGivenNames x7 x8 x9 x10 x11 x12 x13 x14
      refine Same.ite ?_ ?_
      · refine Same.thru (xchEnd_same ..) rfl ?_
        first | assumption | exact Same.refl _ _
      · extract_lets -merge -underBinder -useContext +onlyGivenNames x15 x16
        refine Same.thru (xchSend_same ..) rfl ?_
        refine Same.thru (Same.put_xch _ _) rfl ?_
        first | assumption | exact Same.refl _ _

theorem xchAnswer_same : ∀ a0 a1 a2 s0, Same 27023523741441952 s0 (xchAnswer a0 a1 a2 s0) := by
  intro a0 a1 a2 s0
  unfold xchAnswer
  split
  · first | assumption | exact Same.refl _ _
  · refine Same.ite ?_ ?_
    · extract_lets -merge -underBinder -useContext +onlyGivenNames x1
      refine Same.thru (xchSend_same ..) rfl ?_
      refine Same.thru (Same.put_xch _ _) rfl ?_
      first | assumption | exact Same.refl _ _
    · extract_lets -merge -underBinder -useContext +onlyGivenNames x2
      have h3 : Same 27023523741441952 s0 x2 := by
        unfold x2
        refine Same.thru (chargeFault_same ..) rfl ?_
        first | assumption | exact Same.refl _ _
      clear_value x2
      refine Same.thru (xchStop_same ..) rfl ?_
      first | assumption | exact Same.refl _ _

theorem doXchComplete_same : ∀ a0 s0, Same 27022424095593536 s0 (doXchComplete a0 s0) := by
  intro a0 s0
  unfold doXchComplete
  split
  · first | assumption | exact Same.refl _ _
  · refine Same.ite ?_ ?_
    · refine Same.thru (xchStop_same ..) rfl ?_
      first | assumption | exact Same.refl _ _
    · extract_lets -merge -underBinder -useContext +onlyGivenNames x1 x2 x3
      extract_lets -merge -underBinder -useContext +onlyGivenNames x4 x5
      extract_lets -merge -underBinder -useContext +onlyGivenNames x6 x7
      have h8 : Same 27022424095593536 s0 x7 := by
        unfold x7
        refine Same.ite ?_ ?_
        · refine Same.thru (countSeal_same ..) rfl ?_
          refine Same.thru (writeBytes_same ..) rfl ?_
          refine Same.thru (writeBytes_same ..) rfl ?_
          refine Same.thru (writeBytes_same ..) rfl ?_
          first | assumption | exact Same.refl _ _
        · first | assumption | exact Same.refl _ _
      clear_value x7
      extract_lets -merge -underBinder -useContext +onlyGivenNames x9
      have h10 : Same 27022424095593536 s0 x9 := by
        unfold x9
        refine Same.ite ?_ ?_
        · refine Same.thru (sendPkg_same ..) rfl ?_
          first | assumption | exact Same.refl _ _
        · first | assumption | exact Same.refl _ _
      clear_value x9
      refine Same.thru (xchStop_same ..) rfl ?_
      refine Same.thru (bumpBlob_same ..) rfl ?_
      first | assumption | exact Same.refl _ _

theorem doXchTail_same : ∀ a0 a1 a2 s0, Same 1610613760 s0 (doXchTail a0 a1 a2 s0) := by
  intro a0 a1 a2 s0
  unfold doXchTail
  refine Same.ite ?_ ?_
  · first | assumption | exact Same.refl _ _
  · refine Same.ite ?_ ?_
    · refine Same.thru (bumpBlob_same ..) rfl ?_
      first | assumption | exact Same.refl _ _
    · refine Same.thru (writeBytes_same ..) rfl ?_
      first | assumption | exact Same.refl _ _

theorem execXchTail_same : ∀ a0 a1 a2 s0 t, execXchTail a0 a1 a2 s0 = .next t → Same 1610613760 s0 t := by
  intro a0 a1 a2 s0 t ht
  unfold execXchTail at ht
  refine Same.next ht ?_
  refine Same.thru (doXchTail_same ..) rfl ?_
  first | assumption | exact Same.refl _ _

theorem execExchangeRequest_same : ∀ a0 a1 s0 t, execExchangeRequest a0 a1 s0 = .next t → Same 27023523607221248 s0 t := by
  intro a0 a1 s0 t ht
  unfold execExchangeRequest at ht
  refine Same.next ht ?_
  refine Same.thru (doXchRequest_same ..) rfl ?_
  first | assumption | exact Same.refl _ _

theorem execExchangeComplete_same : ∀ a0 s0 t, execExchangeComplete a0 s0 = .next t → Same 27022424095593536 s0 t := by
  intro a0 s0 t ht
  unfold execExchangeComplete at ht
  refine Same.next ht ?_
  refine Same.thru (doXchComplete_same ..) rfl ?_
  first | assumption | exact Same.refl _ _

end Sys2Proof.Machine
end

