-- ==== Sys2Proof/Laws/FrameTeardown.lean ====
section
/-! SUPPORT. Laws/FrameTeardown.lean: which fields of the state each operation of Machine/Teardown.lean may change. -/
namespace Sys2Proof.Machine
open Sys2Proof

theorem mirrorKeys_same : ∀ s0, Same 18014398509485056 s0 (mirrorKeys s0) := by
  intro s0
  unfold mirrorKeys
  refine Same.ite ?_ ?_
  · extract_lets -merge -underBinder -useContext +onlyGivenNames x1 x2 x3 x4
    refine Same.thru (toTwin_same ..) rfl ?_
    refine Same.thru (Same.put_twin _ _ (TwinSt.wf_mk id id)) rfl ?_
    first | assumption | exact Same.refl _ _
  · first | assumption | exact Same.refl _ _

theorem eraseKey_same : ∀ a0 s0, Same 18014398509485120 s0 (eraseKey a0 s0) := by
  intro a0 s0
  unfold eraseKey
  extract_lets -merge -underBinder -useContext +onlyGivenNames x1 x2
  have h3 : Same 18014398509485120 s0 x2 := by
    unfold x2
    refine Same.thru (setKey_same ..) rfl ?_
    first | assumption | exact Same.refl _ _
  clear_value x2
  refine Same.ite ?_ ?_
  · refine Same.thru (mirrorKeys_same ..) rfl ?_
    first | assumption | exact Same.refl _ _
  · first | assumption | exact Same.refl _ _

theorem updTd_same : ∀ a0 a1 s0, Same 134217728 s0 (updTd a0 a1 s0) := by
  intro a0 a1 s0
  unfold updTd
  refine Same.thru (updCtx_same ..) rfl ?_
  first | assumption | exact Same.refl _ _

theorem abandon_same : ∀ a0 s0, Same 34360262656 s0 (abandon a0 s0) := by
  intro a0 s0
  unfold abandon
  refine Same.foldl (fun r1 e2 h3 => ?_) ?_
  · extract_lets -merge -underBinder -useContext +onlyGivenNames x4 x5
    have h6 : Same 34360262656 s0 x5 := by
      unfold x5
      refine Same.foldl (fun r7 e8 h9 => ?_) ?_
      · refine Same.thru (updEngine_same ..) rfl ?_
        first | assumption | exact Same.refl _ _
      · first | assumption | exact Same.refl _ _
    clear_value x5
    refine Same.thru (updCd_same ..) rfl ?_
    first | assumption | exact Same.refl _ _
  · first | assumption | exact Same.refl _ _

theorem sampleFaults_same : ∀ a0 s0, Same 18014398660485024 s0 (sampleFaults a0 s0) := by
  intro a0 s0
  unfold sampleFaults
  refine Same.foldl (fun r1 e2 h3 => ?_) ?_
  · refine Same.ite ?_ ?_
    · first | assumption | exact Same.refl _ _
    · split
      · refine Same.thru (chargeFault_same ..) rfl ?_
        first | assumption | exact Same.refl _ _
      · first | assumption | exact Same.refl _ _
  · first | assumption | exact Same.refl _ _

theorem writeDump_same : ∀ a0 s0, Same 18014400271097828 s0 (writeDump a0 s0) := by
  intro a0 s0
  unfold writeDump
  extract_lets -merge -underBinder -useContext +onlyGivenNames x1 x2 x3 x4
  refine Same.ite ?_ ?_
  · refine Same.thru (report_same ..) rfl ?_
    refine Same.thru (updTd_same ..) rfl ?_
    first | assumption | exact Same.refl _ _
  · extract_lets -merge -underBinder -useContext +onlyGivenNames x5 x6 x7 x8 x9 x10 x11 x12
    have h13 : Same 18014400271097828 s0 x11 := by
      unfold x11
      refine Same.thru (sampleFaults_same ..) rfl ?_
      refine Same.thru (countSeal_same ..) rfl ?_
      refine Same.thru (Same.put_free _ _) rfl ?_
      first | assumption | exact Same.refl _ _
    clear_value x11
    have h14 : Same 18014400271097828 s0 x12 := by
      unfold x12
      refine Same.thru (writeBytes_same ..) rfl ?_
      first | assumption | exact Same.refl _ _
    clear_value x12
    refine Same.thru (updTd_same ..) rfl ?_
    first | assumption | exact Same.refl _ _

theorem cancelBind_same : ∀ a0 s0, Same 16384 s0 (cancelBind a0 s0) := by
  intro a0 s0
  unfold cancelBind
  refine Same.ite ?_ ?_
  · extract_lets -merge -underBinder -useContext +onlyGivenNames x1
    refine Same.foldl (fun r2 e3 h4 => ?_) ?_
    · refine Same.ite ?_ ?_
      · refine Same.thru (stopHolds_same ..) rfl ?_
        first | assumption | exact Same.refl _ _
      · first | assumption | exact Same.refl _ _
    · first | assumption | exact Same.refl _ _
  · first | assumption | exact Same.refl _ _

theorem bumpGen_same : ∀ a0 s0, Same 134217728 s0 (bumpGen a0 s0) := by
  intro a0 s0
  unfold bumpGen
  refine Same.thru (updCtx_same ..) rfl ?_
  first | assumption | exact Same.refl _ _

theorem startTear_same : ∀ a0 a1 a2 a3 a4 a5 s0, Same 27022183641931680 s0 (startTear a0 a1 a2 a3 a4 a5 s0) := by
  intro a0 a1 a2 a3 a4 a5 s0
  unfold startTear
  extract_lets -merge -underBinder -useContext +onlyGivenNames x1 x2 x3 x4 x5 x6
  have h7 : Same 27022183641931680 s0 x4 := by
    unfold x4
    refine Same.thru (cancelBind_same ..) rfl ?_
    first | assumption | exact Same.refl _ _
  clear_value x4
  have h8 : Same 27022183641931680 s0 x5 := by
    unfold x5
    refine Same.thru (ctxTo_same ..) rfl ?_
    refine Same.thru (updCtx_same ..) rfl ?_
    first | assumption | exact Same.refl _ _
  clear_value x5
  have h9 : Same 27022183641931680 s0 x6 := by
    unfold x6
    refine Same.thru (xchAbort_same ..) rfl ?_
    first | assumption | exact Same.refl _ _
  clear_value x6
  refine Same.ite ?_ ?_
  · refine Same.thru (abandon_same ..) rfl ?_
    first | assumption | exact Same.refl _ _
  · refine Same.thru (bumpGen_same ..) rfl ?_
    first | assumption | exact Same.refl _ _

theorem sendAllAsks_same : ∀ s0, Same 1958575346688 s0 (sendAllAsks s0) := by
  intro s0
  unfold sendAllAsks
  refine Same.foldl (fun r1 e2 h3 => ?_) ?_
  · refine Same.foldl (fun r4 e5 h6 => ?_) ?_
    · refine Same.thru (sendAsks_same ..) rfl ?_
      first | assumption | exact Same.refl _ _
    · first | assumption | exact Same.refl _ _
  · first | assumption | exact Same.refl _ _

theorem purge_same : ∀ a0 a1 s0, Same 22500336920453046 s0 (purge a0 a1 s0) := by
  intro a0 a1 s0
  unfold purge
  extract_lets -merge -underBinder -useContext +onlyGivenNames x1 x2 x3 x4 x5 x6 x7 x8 x9
  have h10 : Same 22500336920453046 s0 x2 := by
    unfold x2
    refine Same.foldl (fun r11 e12 h13 => ?_) ?_
    · extract_lets -merge -underBinder -useContext +onlyGivenNames x14
      have h15 : Same 22500336920453046 s0 x14 := by
        unfold x14
        refine Same.foldl (fun r16 e17 h18 => ?_) ?_
        · refine Same.thru (setStream_same ..) rfl ?_
          first | assumption | exact Same.refl _ _
        · first | assumption | exact Same.refl _ _
      clear_value x14
      refine Same.foldl (fun r19 e20 h21 => ?_) ?_
      · refine Same.thru (updEngine_same ..) rfl ?_
        first | assumption | exact Same.refl _ _
      · first | assumption | exact Same.refl _ _
    · first | assumption | exact Same.refl _ _
  clear_value x2
  have h22 : Same 22500336920453046 s0 x3 := by
    unfold x3
    refine Same.thru (purgeColl_same ..) rfl ?_
    first | assumption | exact Same.refl _ _
  clear_value x3
  have h23 : Same 22500336920453046 s0 x4 := by
    unfold x4
    refine Same.foldl (fun r24 e25 h26 => ?_) ?_
    · refine Same.thru (updPd_same ..) rfl ?_
      first | assumption | exact Same.refl _ _
    · first | assumption | exact Same.refl _ _
  clear_value x4
  have h27 : Same 22500336920453046 s0 x5 := by
    unfold x5
    refine Same.foldl (fun r28 e29 h30 => ?_) ?_
    · refine Same.thru (updOe_same ..) rfl ?_
      first | assumption | exact Same.refl _ _
    · first | assumption | exact Same.refl _ _
  clear_value x5
  have h31 : Same 22500336920453046 s0 x6 := by
    unfold x6
    refine Same.foldl (fun r32 e33 h34 => ?_) ?_
    · refine Same.foldl (fun r35 e36 h37 => ?_) ?_
      · refine Same.thru (updEngine_same ..) rfl ?_
        first | assumption | exact Same.refl _ _
      · first | assumption | exact Same.refl _ _
    · first | assumption | exact Same.refl _ _
  clear_value x6
  have h38 : Same 22500336920453046 s0 x7 := by
    unfold x7
    refine Same.foldl (fun r39 e40 h41 => ?_) ?_
    · refine Same.ite ?_ ?_
      · first | assumption | exact Same.refl _ _
      · refine Same.thru (updDir_same ..) rfl ?_
        first | assumption | exact Same.refl _ _
    · first | assumption | exact Same.refl _ _
  clear_value x7
  have h42 : Same 22500336920453046 s0 x8 := by
    unfold x8
    refine Same.thru (dropQueued_same ..) rfl ?_
    first | assumption | exact Same.refl _ _
  clear_value x8
  have h43 : Same 22500336920453046 s0 x9 := by
    unfold x9
    refine Same.foldl (fun r44 e45 h46 => ?_) ?_
    · refine Same.thru (giveRoom_same ..) rfl ?_
      first | assumption | exact Same.refl _ _
    · first | assumption | exact Same.refl _ _
  clear_value x9
  refine Same.thru (sendAllAsks_same ..) rfl ?_
  refine Same.thru (Same.put_txns_terms_mtxns _ _ _ _) rfl ?_
  first | assumption | exact Same.refl _ _

theorem startDrain_same : ∀ a0 s0, Same 18137474781437878 s0 (startDrain a0 s0) := by
  intro a0 s0
  unfold startDrain
  extract_lets -merge -underBinder -useContext +onlyGivenNames x1
  refine Same.ite ?_ ?_
  · refine Same.thru (updTd_same ..) rfl ?_
    first | assumption | exact Same.refl _ _
  · extract_lets -merge -underBinder -useContext +onlyGivenNames x2 x3 x4 x5
    have h6 : Same 18137474781437878 s0 x5 := by
      unfold x5
      refine Same.thru (updTd_same ..) rfl ?_
      first | assumption | exact Same.refl _ _
    clear_value x5
    refine Same.foldl (fun r7 e8 h9 => ?_) ?_
    · refine Same.thru (runPort_same ..) rfl ?_
      refine Same.thru (updOe_same ..) rfl ?_
      first | assumption | exact Same.refl _ _
    · first | assumption | exact Same.refl _ _

theorem doTearResume_same : ∀ a0 s0, Same 22500336920453110 s0 (doTearResume a0 s0) := by
  intro a0 s0
  unfold doTearResume
  extract_lets -merge -underBinder -useContext +onlyGivenNames x1 x2 x3
  refine Same.ite ?_ ?_
  · first | assumption | exact Same.refl _ _
  · refine Same.thru (startDrain_same ..) rfl ?_
    refine Same.thru (purge_same ..) rfl ?_
    refine Same.thru (bumpGen_same ..) rfl ?_
    refine Same.thru (writeDump_same ..) rfl ?_
    first | assumption | exact Same.refl _ _

theorem portDrained_same : ∀ a0 a1 s0, Same 134217728 s0 (portDrained a0 a1 s0) := by
  intro a0 a1 s0
  unfold portDrained
  refine Same.thru (updTd_same ..) rfl ?_
  first | assumption | exact Same.refl _ _

theorem dropDrain_same : ∀ a0 s0, Same 138412032 s0 (dropDrain a0 s0) := by
  intro a0 s0
  unfold dropDrain
  extract_lets -merge -underBinder -useContext +onlyGivenNames x1
  have h2 : Same 138412032 s0 x1 := by
    unfold x1
    refine Same.thru (updOe_same ..) rfl ?_
    first | assumption | exact Same.refl _ _
  clear_value x1
  refine Same.foldl (fun r3 e4 h5 => ?_) ?_
  · refine Same.ite ?_ ?_
    · refine Same.thru (portDrained_same ..) rfl ?_
      first | assumption | exact Same.refl _ _
    · first | assumption | exact Same.refl _ _
  · first | assumption | exact Same.refl _ _

theorem drainOver_same : ∀ a0 s0, Same 138416128 s0 (drainOver a0 s0) := by
  intro a0 s0
  unfold drainOver
  extract_lets -merge -underBinder -useContext +onlyGivenNames x1 x2 x3
  have h4 : Same 138416128 s0 x2 := by
    unfold x2
    refine Same.thru (report_same ..) rfl ?_
    first | assumption | exact Same.refl _ _
  clear_value x2
  have h5 : Same 138416128 s0 x3 := by
    unfold x3
    refine Same.foldl (fun r6 e7 h8 => ?_) ?_
    · refine Same.thru (updOe_same ..) rfl ?_
      first | assumption | exact Same.refl _ _
    · first | assumption | exact Same.refl _ _
  clear_value x3
  refine Same.thru (updTd_same ..) rfl ?_
  first | assumption | exact Same.refl _ _

theorem doDrainTimeout_same : ∀ a0 s0, Same 138416130 s0 (doDrainTimeout a0 s0) := by
  intro a0 s0
  unfold doDrainTimeout
  refine Same.ite ?_ ?_
  · first | assumption | exact Same.refl _ _
  · refine Same.thru (drainOver_same ..) rfl ?_
    refine Same.thru (advanceTo_same ..) rfl ?_
    first | assumption | exact Same.refl _ _

theorem drainHere_same : ∀ a0 a1 s0, Same 18137474781437878 s0 (drainHere a0 a1 s0) := by
  intro a0 a1 s0
  unfold drainHere
  refine Same.ite ?_ ?_
  · extract_lets -merge -underBinder -useContext +onlyGivenNames x1 x2 x3
    have h4 : Same 18137474781437878 s0 x3 := by
      unfold x3
      refine Same.thru (updOe_same ..) rfl ?_
      refine Same.thru (Same.put_nextUid _ _) rfl ?_
      first | assumption | exact Same.refl _ _
    clear_value x3
    refine Same.thru (runPort_same ..) rfl ?_
    refine Same.thru (sendReturns_same ..) rfl ?_
    first | assumption | exact Same.refl _ _
  · extract_lets -merge -underBinder -useContext +onlyGivenNames x5
    refine Same.ite ?_ ?_
    · refine Same.ite ?_ ?_
      · refine Same.thru (drainOver_same ..) rfl ?_
        first | assumption | exact Same.refl _ _
      · refine Same.thru (portDrained_same ..) rfl ?_
        first | assumption | exact Same.refl _ _
    · first | assumption | exact Same.refl _ _

theorem doMDrain_same : ∀ a0 a1 s0, Same 18137474781437878 s0 (doMDrain a0 a1 s0) := by
  intro a0 a1 s0
  unfold doMDrain
  refine receive_thru rfl ?_ ?_
  · intro y1 y2 hy3
    refine Same.thru (drainHere_same ..) rfl ?_
    first | assumption | exact Same.refl _ _
  · first | assumption | exact Same.refl _ _

theorem clearSlot_same : ∀ a0 a1 s0, Same 15468325244932 s0 (clearSlot a0 a1 s0) := by
  intro a0 a1 s0
  unfold clearSlot
  extract_lets -merge -underBinder -useContext +onlyGivenNames x1
  have h2 : Same 15468325244932 s0 x1 := by
    unfold x1
    refine Same.thru (commitDie_same ..) rfl ?_
    first | assumption | exact Same.refl _ _
  clear_value x1
  split
  split
  extract_lets -merge -underBinder -useContext +onlyGivenNames x3 x4
  have h5 : Same 15468325244932 s0 x4 := by
    unfold x4
    refine Same.thru (Same.put_sems_arrs_topk_outst_latches_fences _ _ _ _ _ _ _ (fun h => wf_tclear h) (fun h => wf_tclear h) (fun h => wf_tclear h) (fun h => wf_tclear h) (fun h => wf_tdel h) (fun h => wf_tdel h)) rfl ?_
    first | assumption | exact Same.refl _ _
  clear_value x4
  refine Same.thru (updCd_same ..) rfl ?_
  first | assumption | exact Same.refl _ _

theorem clearFlags_same : ∀ a0 s0, Same 8589934592 s0 (clearFlags a0 s0) := by
  intro a0 s0
  unfold clearFlags
  refine Same.foldl (fun r1 e2 h3 => ?_) ?_
  · refine Same.foldl (fun r4 e5 h6 => ?_) ?_
    · refine Same.thru (slotsReset_same ..) rfl ?_
      first | assumption | exact Same.refl _ _
    · first | assumption | exact Same.refl _ _
  · first | assumption | exact Same.refl _ _

theorem zeroUnits_same : ∀ a0 s0, Same 268435456 s0 (zeroUnits a0 s0) := by
  intro a0 s0
  unfold zeroUnits
  refine Same.thru (Same.put_owner _ _ ?_) rfl ?_
  · (first | with_reducible exact id | (intro h; (try dsimp only); (repeat' (first | assumption | exact wf_nil _ | with_reducible apply wf_tset | with_reducible apply wf_tkeep | with_reducible apply wf_tclear | with_reducible apply wf_filter | with_reducible apply wf_tdel | with_reducible apply rising_tset | with_reducible apply wf_putBytes | with_reducible refine wf_map (fun e => by split <;> rfl) (fun e he => by split <;> first | exact he | simp) ?_ | split)); done) | (intro h; (try dsimp +zetaDelta only); (repeat' (first | assumption | exact wf_nil _ | with_reducible apply wf_tset | with_reducible apply wf_tkeep | with_reducible apply wf_tclear | with_reducible apply wf_filter | with_reducible apply wf_tdel | with_reducible apply rising_tset | with_reducible apply wf_putBytes | with_reducible refine wf_map (fun e => by split <;> rfl) (fun e he => by split <;> first | exact he | simp) ?_ | split))))
  · first | assumption | exact Same.refl _ _

theorem freeIfDone_same : ∀ a0 s0, Same 18014398660480928 s0 (freeIfDone a0 s0) := by
  intro a0 s0
  unfold freeIfDone
  refine Same.ite ?_ ?_
  · refine Same.thru (ctxTo_same ..) rfl ?_
    first | assumption | exact Same.refl _ _
  · first | assumption | exact Same.refl _ _

theorem clearCtx_same : ∀ a0 s0, Same 22551069268140004 s0 (clearCtx a0 s0) := by
  intro a0 s0
  unfold clearCtx
  extract_lets -merge -underBinder -useContext +onlyGivenNames x1 x2 x3 x4 x5 x6 x7 x8
  have h9 : Same 22551069268140004 s0 x3 := by
    unfold x3
    refine Same.foldl (fun r10 e11 h12 => ?_) ?_
    · refine Same.thru (clearSlot_same ..) rfl ?_
      first | assumption | exact Same.refl _ _
    · first | assumption | exact Same.refl _ _
  clear_value x3
  have h13 : Same 22551069268140004 s0 x4 := by
    unfold x4
    refine Same.foldl (fun r14 e15 h16 => ?_) ?_
    · refine Same.thru (Same.put_striped _ _ (fun h => wf_tdel h)) rfl ?_
      first | assumption | exact Same.refl _ _
    · first | assumption | exact Same.refl _ _
  clear_value x4
  have h17 : Same 22551069268140004 s0 x5 := by
    unfold x5
    refine Same.ite ?_ ?_
    · refine Same.ite ?_ ?_
      · refine Same.foldl (fun r18 e19 h20 => ?_) ?_
        · refine Same.thru (Same.put_idle _ _ (fun h => wf_tdel h)) rfl ?_
          first | assumption | exact Same.refl _ _
        · first | assumption | exact Same.refl _ _
      · first | assumption | exact Same.refl _ _
    · first | assumption | exact Same.refl _ _
  clear_value x5
  have h21 : Same 22551069268140004 s0 x6 := by
    unfold x6
    refine Same.thru (clearFlags_same ..) rfl ?_
    first | assumption | exact Same.refl _ _
  clear_value x6
  have h22 : Same 22551069268140004 s0 x8 := by
    unfold x8
    refine Same.thru (updCtx_same ..) rfl ?_
    first | assumption | exact Same.refl _ _
  clear_value x8
  extract_lets -merge -underBinder -useContext +onlyGivenNames x23 x24
  have h25 : Same 22551069268140004 s0 x23 := by
    unfold x23
    refine Same.thru (bump_same ..) rfl ?_
    first | assumption | exact Same.refl _ _
  clear_value x23
  have h26 : Same 22551069268140004 s0 x24 := by
    unfold x24
    refine Same.ite ?_ ?_
    · refine Same.thru (zeroDoor_same ..) rfl ?_
      first | assumption | exact Same.refl _ _
    · first | assumption | exact Same.refl _ _
  clear_value x24
  refine Same.thru (unbound_same ..) rfl ?_
  refine Same.ite ?_ ?_
  · refine Same.thru (freeIfDone_same ..) rfl ?_
    refine Same.thru (ctxTo_same ..) rfl ?_
    refine Same.thru (zeroUnits_same ..) rfl ?_
    refine Same.thru (eraseKey_same ..) rfl ?_
    first | assumption | exact Same.refl _ _
  · refine Same.thru (ctxTo_same ..) rfl ?_
    first | assumption | exact Same.refl _ _

end Sys2Proof.Machine
end

