-- ==== Sys2Proof/Laws/FrameFacet.lean ====
section
/-! SUPPORT. Laws/FrameFacet.lean: which fields of the state each operation of Machine/Facet.lean may change. -/
namespace Sys2Proof.Machine
open Sys2Proof

theorem setJoin_same : ∀ a0 a1 s0, Same 18014398526279584 s0 (setJoin a0 a1 s0) := by
  intro a0 a1 s0
  unfold setJoin
  extract_lets -merge -underBinder -useContext +onlyGivenNames x1 x2
  have h3 : Same 18014398526279584 s0 x2 := by
    unfold x2
    refine Same.thru (updFacet_same ..) rfl ?_
    first | assumption | exact Same.refl _ _
  clear_value x2
  refine Same.thru (journal_same ..) rfl ?_
  first | assumption | exact Same.refl _ _

theorem releaseJoin_same : ∀ a0 s0, Same 18014398526279584 s0 (releaseJoin a0 s0) := by
  intro a0 s0
  unfold releaseJoin
  extract_lets -merge -underBinder -useContext +onlyGivenNames x1
  have h2 : Same 18014398526279584 s0 x1 := by
    unfold x1
    refine Same.thru (stopHolds_same ..) rfl ?_
    first | assumption | exact Same.refl _ _
  clear_value x1
  refine Same.foldl (fun r3 e4 h5 => ?_) ?_
  · refine Same.ite ?_ ?_
    · refine Same.thru (setJoin_same ..) rfl ?_
      first | assumption | exact Same.refl _ _
    · first | assumption | exact Same.refl _ _
  · first | assumption | exact Same.refl _ _

theorem chargeLost_same : ∀ a0 a1 s0, Same 18014398660485024 s0 (chargeLost a0 a1 s0) := by
  intro a0 a1 s0
  unfold chargeLost
  refine Same.thru (chargeFault_same ..) rfl ?_
  first | assumption | exact Same.refl _ _

theorem loseBound_same : ∀ a0 s0, Same 18014398660485024 s0 (loseBound a0 s0) := by
  intro a0 s0
  unfold loseBound
  refine Same.foldl (fun r1 e2 h3 => ?_) ?_
  · refine Same.ite ?_ ?_
    · refine Same.thru (chargeLost_same ..) rfl ?_
      first | assumption | exact Same.refl _ _
    · first | assumption | exact Same.refl _ _
  · first | assumption | exact Same.refl _ _

theorem leaveJoin_same : ∀ a0 s0, Same 18014398660501408 s0 (leaveJoin a0 s0) := by
  intro a0 s0
  unfold leaveJoin
  extract_lets -merge -underBinder -useContext +onlyGivenNames x1
  refine Same.ite ?_ ?_
  · first | assumption | exact Same.refl _ _
  · refine Same.thru (releaseJoin_same ..) rfl ?_
    refine Same.thru (loseBound_same ..) rfl ?_
    first | assumption | exact Same.refl _ _

theorem startupDone_same : ∀ s0, Same 32 s0 (startupDone s0) := by
  intro s0
  unfold startupDone
  refine Same.ite ?_ ?_
  · extract_lets -merge -underBinder -useContext +onlyGivenNames x1
    extract_lets -merge -underBinder -useContext +onlyGivenNames x2
    have h3 : Same 32 s0 x2 := by
      unfold x2
      refine Same.thru (Same.put_hub _ _ (HubSt.wf_mk id id id)) rfl ?_
      first | assumption | exact Same.refl _ _
    clear_value x2
    refine Same.thru (Same.put_hub _ _ (HubSt.wf_mk id id id)) rfl ?_
    first | assumption | exact Same.refl _ _
  · first | assumption | exact Same.refl _ _

theorem failFacet_same : ∀ a0 s0, Same 18014398660501408 s0 (failFacet a0 s0) := by
  intro a0 s0
  unfold failFacet
  extract_lets -merge -underBinder -useContext +onlyGivenNames x1
  refine Same.ite ?_ ?_
  · first | assumption | exact Same.refl _ _
  · extract_lets -merge -underBinder -useContext +onlyGivenNames x2
    have h3 : Same 18014398660501408 s0 x2 := by
      unfold x2
      refine Same.ite ?_ ?_
      · refine Same.thru (loseBound_same ..) rfl ?_
        refine Same.thru (stopHolds_same ..) rfl ?_
        first | assumption | exact Same.refl _ _
      · refine Same.thru (leaveJoin_same ..) rfl ?_
        first | assumption | exact Same.refl _ _
    clear_value x2
    refine Same.thru (startupDone_same ..) rfl ?_
    refine Same.thru (updFacet_same ..) rfl ?_
    refine Same.thru (facetTo_same ..) rfl ?_
    first | assumption | exact Same.refl _ _

theorem clearObjs_same : ∀ a0 a1 a2 s0, Same 1024 s0 (clearObjs a0 a1 a2 s0) := by
  intro a0 a1 a2 s0
  unfold clearObjs
  refine Same.foldl (fun r1 e2 h3 => ?_) ?_
  · split
    · refine Same.ite ?_ ?_
      · first | assumption | exact Same.refl _ _
      · refine Same.thru (Same.put_mg _ _ (MgmtSt.wf_mk (fun h => rising_tclear h) (fun h => rising_tclear h) id id)) rfl ?_
        first | assumption | exact Same.refl _ _
    · first | assumption | exact Same.refl _ _
  · first | assumption | exact Same.refl _ _

theorem clearLinkObjs_same : ∀ a0 s0, Same 1024 s0 (clearLinkObjs a0 s0) := by
  intro a0 s0
  unfold clearLinkObjs
  refine Same.foldl (fun r1 e2 h3 => ?_) ?_
  · refine Same.thru (clearObjs_same ..) rfl ?_
    first | assumption | exact Same.refl _ _
  · first | assumption | exact Same.refl _ _

theorem clearCounters_same : ∀ a0 s0, Same 1024 s0 (clearCounters a0 s0) := by
  intro a0 s0
  unfold clearCounters
  extract_lets -merge -underBinder -useContext +onlyGivenNames x1 x2 x3 x4
  extract_lets -merge -underBinder -useContext +onlyGivenNames x5 x6 x7 x8
  have h9 : Same 1024 s0 x8 := by
    unfold x8
    refine Same.thru (clearObjs_same ..) rfl ?_
    first | assumption | exact Same.refl _ _
  clear_value x8
  extract_lets -merge -underBinder -useContext +onlyGivenNames x10 x11 x12
  have h13 : Same 1024 s0 x10 := by
    unfold x10
    refine Same.thru (clearObjs_same ..) rfl ?_
    first | assumption | exact Same.refl _ _
  clear_value x10
  have h14 : Same 1024 s0 x11 := by
    unfold x11
    refine Same.thru (clearObjs_same ..) rfl ?_
    first | assumption | exact Same.refl _ _
  clear_value x11
  have h15 : Same 1024 s0 x12 := by
    unfold x12
    refine Same.thru (clearObjs_same ..) rfl ?_
    first | assumption | exact Same.refl _ _
  clear_value x12
  refine Same.foldl (fun r16 e17 h18 => ?_) ?_
  · refine Same.foldl (fun r19 e20 h21 => ?_) ?_
    · refine Same.ite ?_ ?_
      · first | assumption | exact Same.refl _ _
      · extract_lets -merge -underBinder -useContext +onlyGivenNames x22
        refine Same.thru (Same.put_mg _ _ (MgmtSt.wf_mk (fun h => rising_tclear h) (fun h => rising_tclear h) id id)) rfl ?_
        first | assumption | exact Same.refl _ _
    · first | assumption | exact Same.refl _ _
  · first | assumption | exact Same.refl _ _

theorem stripPorts_same : ∀ a0 s0, Same 67108864 s0 (stripPorts a0 s0) := by
  intro a0 s0
  unfold stripPorts
  refine Same.foldl (fun r1 e2 h3 => ?_) ?_
  · refine Same.ite ?_ ?_
    · first | assumption | exact Same.refl _ _
    · refine Same.thru (updDir_same ..) rfl ?_
      first | assumption | exact Same.refl _ _
  · first | assumption | exact Same.refl _ _

theorem eraseFacet_same : ∀ a0 s0, Same 9006099281630208 s0 (eraseFacet a0 s0) := by
  intro a0 s0
  unfold eraseFacet
  extract_lets -merge -underBinder -useContext +onlyGivenNames x1 x2 x3 x4 x5 x6 x7 x8
  have h9 : Same 9006099281630208 s0 x2 := by
    unfold x2
    refine Same.foldl (fun r10 e11 h12 => ?_) ?_
    · refine Same.thru (zeroBytes_same ..) rfl ?_
      refine Same.thru (zeroBytes_same ..) rfl ?_
      refine Same.thru (zeroBytes_same ..) rfl ?_
      refine Same.thru (zeroBytes_same ..) rfl ?_
      refine Same.thru (zeroBytes_same ..) rfl ?_
      first | assumption | exact Same.refl _ _
    · first | assumption | exact Same.refl _ _
  clear_value x2
  have h13 : Same 9006099281630208 s0 x5 := by
    unfold x5
    refine Same.thru (Same.put_admitted_held_cds_fds_pds_sems_arrs_slots_streams_engines_topk_ubuf_txns_outst_latches_fences_striped_terms_mtxns_plans_insts_ctrlTable_tickIncs_barrierHold_idle _ _ _ _ _ _ _ _ _ _ _ _ _ _ _ _ _ _ _ _ _ _ _ _ _ _ ?_ (fun h => wf_tkeep h) (fun h => wf_tclear h) (fun h => wf_foldl (fun _ _ k => wf_tset k) (h)) (fun h => wf_foldl (fun _ _ k => wf_tset k) (h)) (fun h => wf_tkeep h) (fun h => wf_tkeep h) (fun h => wf_tkeep h) (fun h => wf_tkeep h) (fun h => wf_tkeep h) (fun h => wf_tkeep h) (fun h => wf_tkeep h) (fun h => wf_tkeep h) (fun h => wf_tkeep h) (fun h => wf_tkeep h) (fun h => wf_tkeep h) (fun h => wf_tkeep h)) rfl ?_
    · (first | with_reducible exact id | (intro h; (try dsimp only); (repeat' (first | assumption | exact wf_nil _ | with_reducible apply wf_tset | with_reducible apply wf_tkeep | with_reducible apply wf_tclear | with_reducible apply wf_filter | with_reducible apply wf_tdel | with_reducible apply rising_tset | with_reducible apply wf_putBytes | with_reducible refine wf_map (fun e => by split <;> rfl) (fun e he => by split <;> first | exact he | simp) ?_ | split)); done) | (intro h; (try dsimp +zetaDelta only); (repeat' (first | assumption | exact wf_nil _ | with_reducible apply wf_tset | with_reducible apply wf_tkeep | with_reducible apply wf_tclear | with_reducible apply wf_filter | with_reducible apply wf_tdel | with_reducible apply rising_tset | with_reducible apply wf_putBytes | with_reducible refine wf_map (fun e => by split <;> rfl) (fun e he => by split <;> first | exact he | simp) ?_ | split))))
    · first | assumption | exact Same.refl _ _
  clear_value x5
  have h14 : Same 9006099281630208 s0 x7 := by
    unfold x7
    refine Same.thru (stripPorts_same ..) rfl ?_
    refine Same.foldl (fun r15 e16 h17 => ?_) ?_
    · refine Same.thru (updOe_same ..) rfl ?_
      first | assumption | exact Same.refl _ _
    · first | assumption | exact Same.refl _ _
  clear_value x7
  have h18 : Same 9006099281630208 s0 x8 := by
    unfold x8
    refine Same.thru (updFacet_same ..) rfl ?_
    first | assumption | exact Same.refl _ _
  clear_value x8
  refine Same.thru (dropQueued_same ..) rfl ?_
  refine Same.thru (clearCounters_same ..) rfl ?_
  first | assumption | exact Same.refl _ _

theorem loseUnits_same : ∀ a0 s0, Same 18014398928916384 s0 (loseUnits a0 s0) := by
  intro a0 s0
  unfold loseUnits
  extract_lets -merge -underBinder -useContext +onlyGivenNames x1 x2 x3
  have h4 : Same 18014398928916384 s0 x3 := by
    unfold x3
    refine Same.thru (Same.put_owner _ _ (fun h => wf_tkeep h)) rfl ?_
    first | assumption | exact Same.refl _ _
  clear_value x3
  refine Same.foldl (fun r5 e6 h7 => ?_) ?_
  · refine Same.ite ?_ ?_
    · refine Same.thru (freeIfDone_same ..) rfl ?_
      first | assumption | exact Same.refl _ _
    · first | assumption | exact Same.refl _ _
  · first | assumption | exact Same.refl _ _

theorem chargeOwners_same : ∀ a0 a1 s0, Same 18014398660485024 s0 (chargeOwners a0 a1 s0) := by
  intro a0 a1 s0
  unfold chargeOwners
  refine Same.foldl (fun r1 e2 h3 => ?_) ?_
  · extract_lets -merge -underBinder -useContext +onlyGivenNames x4
    refine Same.ite ?_ ?_
    · first | assumption | exact Same.refl _ _
    · split
      · refine Same.thru (chargeLost_same ..) rfl ?_
        first | assumption | exact Same.refl _ _
      · first | assumption | exact Same.refl _ _
  · first | assumption | exact Same.refl _ _

theorem linksOff_same : ∀ s0, Same 100663296 s0 (linksOff s0) := by
  intro s0
  unfold linksOff
  refine Same.ite ?_ ?_
  · first | assumption | exact Same.refl _ _
  · extract_lets -merge -underBinder -useContext +onlyGivenNames x1
    refine Same.foldl (fun r2 e3 h4 => ?_) ?_
    · refine Same.ite ?_ ?_
      · refine Same.thru (updDir_same ..) rfl ?_
        refine Same.thru (updDir_same ..) rfl ?_
        refine Same.thru (updLink_same ..) rfl ?_
        first | assumption | exact Same.refl _ _
      · first | assumption | exact Same.refl _ _
    · first | assumption | exact Same.refl _ _

theorem facetOff_same : ∀ a0 a1 s0, Same 27020497975664544 s0 (facetOff a0 a1 s0) := by
  intro a0 a1 s0
  unfold facetOff
  refine Same.ite ?_ ?_
  · first | assumption | exact Same.refl _ _
  · extract_lets -merge -underBinder -useContext +onlyGivenNames x1 x2 x3 x4
    have h5 : Same 27020497975664544 s0 x1 := by
      unfold x1
      refine Same.thru (releaseJoin_same ..) rfl ?_
      first | assumption | exact Same.refl _ _
    clear_value x1
    have h6 : Same 27020497975664544 s0 x2 := by
      unfold x2
      refine Same.thru (eraseFacet_same ..) rfl ?_
      first | assumption | exact Same.refl _ _
    clear_value x2
    have h7 : Same 27020497975664544 s0 x3 := by
      unfold x3
      refine Same.thru (Same.put_admitted _ _ (fun h => wf_tkeep h)) rfl ?_
      first | assumption | exact Same.refl _ _
    clear_value x3
    have h8 : Same 27020497975664544 s0 x4 := by
      unfold x4
      refine Same.foldl (fun r9 e10 h11 => ?_) ?_
      · refine Same.thru (dropDrain_same ..) rfl ?_
        first | assumption | exact Same.refl _ _
      · first | assumption | exact Same.refl _ _
    clear_value x4
    refine Same.thru (offApply_same ..) rfl ?_
    refine Same.thru (linksOff_same ..) rfl ?_
    refine Same.thru (updFacet_same ..) rfl ?_
    refine Same.thru (facetTo_same ..) rfl ?_
    first | assumption | exact Same.refl _ _

theorem lightFacet_same : ∀ a0 s0, Same 4194304 s0 (lightFacet a0 s0) := by
  intro a0 s0
  unfold lightFacet
  extract_lets -merge -underBinder -useContext +onlyGivenNames x1
  refine Same.foldl (fun r2 e3 h4 => ?_) ?_
  · refine Same.ite ?_ ?_
    · refine Same.thru (updOe_same ..) rfl ?_
      first | assumption | exact Same.refl _ _
    · first | assumption | exact Same.refl _ _
  · first | assumption | exact Same.refl _ _

theorem powerFacet_same : ∀ a0 a1 s0, Same 102253600 s0 (powerFacet a0 a1 s0) := by
  intro a0 a1 s0
  unfold powerFacet
  extract_lets -merge -underBinder -useContext +onlyGivenNames x1 x2 x3 x4 x5 x6
  have h7 : Same 102253600 s0 x2 := by
    unfold x2
    refine Same.ite ?_ ?_
    · refine Same.thru (clearLinkObjs_same ..) rfl ?_
      first | assumption | exact Same.refl _ _
    · first | assumption | exact Same.refl _ _
  clear_value x2
  have h8 : Same 102253600 s0 x3 := by
    unfold x3
    refine Same.foldl (fun r9 e10 h11 => ?_) ?_
    · extract_lets -merge -underBinder -useContext +onlyGivenNames x12
      refine Same.ite ?_ ?_
      · refine Same.thru (updDir_same ..) rfl ?_
        refine Same.thru (updDir_same ..) rfl ?_
        refine Same.thru (updLink_same ..) rfl ?_
        first | assumption | exact Same.refl _ _
      · first | assumption | exact Same.refl _ _
    · first | assumption | exact Same.refl _ _
  clear_value x3
  have h13 : Same 102253600 s0 x5 := by
    unfold x5
    refine Same.foldl (fun r14 e15 h16 => ?_) ?_
    · refine Same.thru (updFd_same ..) rfl ?_
      refine Same.thru (updCd_same ..) rfl ?_
      first | assumption | exact Same.refl _ _
    · first | assumption | exact Same.refl _ _
  clear_value x5
  have h17 : Same 102253600 s0 x6 := by
    unfold x6
    refine Same.thru (updFacet_same ..) rfl ?_
    first | assumption | exact Same.refl _ _
  clear_value x6
  refine Same.thru (Same.put_hub _ _ (HubSt.wf_mk (fun h => wf_tset h) id id)) rfl ?_
  first | assumption | exact Same.refl _ _

theorem tearFacet_same : ∀ a0 s0, Same 27022183641931680 s0 (tearFacet a0 s0) := by
  intro a0 s0
  unfold tearFacet
  extract_lets -merge -underBinder -useContext +onlyGivenNames x1 x2
  have h3 : Same 27022183641931680 s0 x2 := by
    unfold x2
    refine Same.thru (updFacet_same ..) rfl ?_
    first | assumption | exact Same.refl _ _
  clear_value x2
  refine Same.foldl (fun r4 e5 h6 => ?_) ?_
  · extract_lets -merge -underBinder -useContext +onlyGivenNames x7
    refine Same.ite ?_ ?_
    · first | assumption | exact Same.refl _ _
    · refine Same.thru (startTear_same ..) rfl ?_
      first | assumption | exact Same.refl _ _
  · first | assumption | exact Same.refl _ _

theorem facetResetGo_same : ∀ a0 s0, Same 36027697498840992 s0 (facetResetGo a0 s0) := by
  intro a0 s0
  unfold facetResetGo
  extract_lets -merge -underBinder -useContext +onlyGivenNames x1 x2
  have h3 : Same 36027697498840992 s0 x1 := by
    unfold x1
    refine Same.ite ?_ ?_
    · refine Same.thru (tearFacet_same ..) rfl ?_
      first | assumption | exact Same.refl _ _
    · first | assumption | exact Same.refl _ _
  clear_value x1
  refine Same.ite ?_ ?_
  · first | assumption | exact Same.refl _ _
  · extract_lets -merge -underBinder -useContext +onlyGivenNames x4 x5 x6 x7 x8 x9
    have h10 : Same 36027697498840992 s0 x4 := by
      unfold x4
      refine Same.thru (resetApply_same ..) rfl ?_
      first | assumption | exact Same.refl _ _
    clear_value x4
    have h11 : Same 36027697498840992 s0 x5 := by
      unfold x5
      refine Same.thru (leaveJoin_same ..) rfl ?_
      refine Same.thru (stopHolds_same ..) rfl ?_
      first | assumption | exact Same.refl _ _
    clear_value x5
    have h12 : Same 36027697498840992 s0 x6 := by
      unfold x6
      refine Same.thru (facetTo_same ..) rfl ?_
      first | assumption | exact Same.refl _ _
    clear_value x6
    have h13 : Same 36027697498840992 s0 x7 := by
      unfold x7
      refine Same.thru (loseUnits_same ..) rfl ?_
      refine Same.thru (chargeOwners_same ..) rfl ?_
      first | assumption | exact Same.refl _ _
    clear_value x7
    have h14 : Same 36027697498840992 s0 x8 := by
      unfold x8
      refine Same.foldl (fun r15 e16 h17 => ?_) ?_
      · refine Same.thru (zeroDoor_same ..) rfl ?_
        refine Same.thru (updCtx_same ..) rfl ?_
        first | assumption | exact Same.refl _ _
      · first | assumption | exact Same.refl _ _
    clear_value x8
    have h18 : Same 36027697498840992 s0 x9 := by
      unfold x9
      refine Same.thru (eraseFacet_same ..) rfl ?_
      first | assumption | exact Same.refl _ _
    clear_value x9
    refine Same.thru (linksOff_same ..) rfl ?_
    refine Same.thru (updFacet_same ..) rfl ?_
    first | assumption | exact Same.refl _ _

theorem facetResetStart_same : ∀ a0 s0, Same 36027697498840992 s0 (facetResetStart a0 s0) := by
  intro a0 s0
  unfold facetResetStart
  extract_lets -merge -underBinder -useContext +onlyGivenNames x1
  refine Same.ite ?_ ?_
  · first | assumption | exact Same.refl _ _
  · refine Same.ite ?_ ?_
    · extract_lets -merge -underBinder -useContext +onlyGivenNames x2
      have h3 : Same 36027697498840992 s0 x2 := by
        unfold x2
        refine Same.thru (resetApply_same ..) rfl ?_
        first | assumption | exact Same.refl _ _
      clear_value x2
      refine Same.ite ?_ ?_
      · refine Same.thru (powerFacet_same ..) rfl ?_
        refine Same.thru (updFacet_same ..) rfl ?_
        refine Same.thru (facetTo_same ..) rfl ?_
        first | assumption | exact Same.refl _ _
      · first | assumption | exact Same.refl _ _
    · refine Same.thru (facetResetGo_same ..) rfl ?_
      refine Same.thru (updFacet_same ..) rfl ?_
      first | assumption | exact Same.refl _ _

theorem doFacetOffEnd_same : ∀ a0 s0, Same 27020497975664546 s0 (doFacetOffEnd a0 s0) := by
  intro a0 s0
  unfold doFacetOffEnd
  extract_lets -merge -underBinder -useContext +onlyGivenNames x1
  refine Same.ite ?_ ?_
  · first | assumption | exact Same.refl _ _
  · extract_lets -merge -underBinder -useContext +onlyGivenNames x2
    have h3 : Same 27020497975664546 s0 x2 := by
      unfold x2
      refine Same.thru (advanceTo_same ..) rfl ?_
      first | assumption | exact Same.refl _ _
    clear_value x2
    refine Same.ite ?_ ?_
    · refine Same.thru (facetOff_same ..) rfl ?_
      first | assumption | exact Same.refl _ _
    · refine Same.thru (powerFacet_same ..) rfl ?_
      refine Same.thru (updFacet_same ..) rfl ?_
      first | assumption | exact Same.refl _ _

theorem execFacetResetOffEnd_same : ∀ a0 s0 t, execFacetResetOffEnd a0 s0 = .next t → Same 27020497975664546 s0 t := by
  intro a0 s0 t ht
  unfold execFacetResetOffEnd at ht
  refine Same.next ht ?_
  refine Same.thru (doFacetOffEnd_same ..) rfl ?_
  first | assumption | exact Same.refl _ _

end Sys2Proof.Machine
end

