-- ==== Sys2Proof/Laws/FrameContext.lean ====
section
/-! SUPPORT. Laws/FrameContext.lean: which fields of the state each operation of Machine/Context.lean may change. -/
namespace Sys2Proof.Machine
open Sys2Proof

theorem mailRespond_same : ∀ a0 a1 a2 a3 a4 s0, Same 1610612736 s0 (mailRespond a0 a1 a2 a3 a4 s0) := by
  intro a0 a1 a2 a3 a4 s0
  unfold mailRespond
  extract_lets -merge -underBinder -useContext +onlyGivenNames x1
  refine Same.thru (writeBytes_same ..) rfl ?_
  first | assumption | exact Same.refl _ _

theorem countPath_same : ∀ a0 a1 s0, Same 1024 s0 (countPath a0 a1 s0) := by
  intro a0 a1 s0
  unfold countPath
  refine Same.thru (bumpBlob_same ..) rfl ?_
  refine Same.thru (bumpBlob_same ..) rfl ?_
  first | assumption | exact Same.refl _ _

theorem copyOver_same : ∀ s0, Same 18014398509482016 s0 (copyOver s0) := by
  intro s0
  unfold copyOver
  extract_lets -merge -underBinder -useContext +onlyGivenNames x1 x2
  refine Same.ite ?_ ?_
  · first | assumption | exact Same.refl _ _
  · refine Same.foldl (fun r3 e4 h5 => ?_) ?_
    · refine Same.thru (emit_same ..) rfl ?_
      first | assumption | exact Same.refl _ _
    · refine Same.thru (Same.put_hub _ _ (HubSt.wf_mk id id id)) rfl ?_
      first | assumption | exact Same.refl _ _

theorem mailDone_same : ∀ a0 a1 a2 a3 s0, Same 18014400136872992 s0 (mailDone a0 a1 a2 a3 s0) := by
  intro a0 a1 a2 a3 s0
  unfold mailDone
  extract_lets -merge -underBinder -useContext +onlyGivenNames x1 x2 x3
  have h4 : Same 18014400136872992 s0 x1 := by
    unfold x1
    refine Same.thru (copyOver_same ..) rfl ?_
    refine Same.thru (countPath_same ..) rfl ?_
    first | assumption | exact Same.refl _ _
  clear_value x1
  have h5 : Same 18014400136872992 s0 x2 := by
    unfold x2
    refine Same.thru (mailRespond_same ..) rfl ?_
    first | assumption | exact Same.refl _ _
  clear_value x2
  have h6 : Same 18014400136872992 s0 x3 := by
    unfold x3
    refine Same.thru (updHost_same ..) rfl ?_
    first | assumption | exact Same.refl _ _
  clear_value x3
  refine Same.thru (raiseOn_same ..) rfl ?_
  refine Same.thru (writeBytes_same ..) rfl ?_
  first | assumption | exact Same.refl _ _

theorem answerBusy_same : ∀ a0 s0, Same 18014400136871936 s0 (answerBusy a0 s0) := by
  intro a0 s0
  unfold answerBusy
  split
  · refine Same.ite ?_ ?_
    · first | assumption | exact Same.refl _ _
    · refine Same.thru (raiseOn_same ..) rfl ?_
      refine Same.thru (mailRespond_same ..) rfl ?_
      refine Same.thru (updHost_same ..) rfl ?_
      first | assumption | exact Same.refl _ _
  · first | assumption | exact Same.refl _ _

theorem mailRun_thru : ∀ {m sb a0 a1 a2 a3 a4 a5 s0} (hm : 18014400136875936 ||| m = m) (hf5 : ∀ z, Same m sb z → Same m sb (a5 z)) (hs : Same m sb s0), Same m sb (mailRun a0 a1 a2 a3 a4 a5 s0) := by
  intro m sb a0 a1 a2 a3 a4 a5 s0 hm hf5 hs
  unfold mailRun
  refine Same.ite ?_ ?_
  · first | assumption | exact Same.refl _ _
  · extract_lets -merge -underBinder -useContext +onlyGivenNames x1 x2 x3
    have h4 : Same m sb x2 := by
      unfold x2
      refine Same.thru (journal_same ..) (Same.sub hm rfl) ?_
      first | assumption | exact Same.refl _ _
    clear_value x2
    refine Same.ite ?_ ?_
    · refine Same.thru (mailDone_same ..) (Same.sub hm rfl) ?_
      refine hf5 _ ?_
      first | assumption | exact Same.refl _ _
    · refine Same.thru (mailDone_same ..) (Same.sub hm rfl) ?_
      first | assumption | exact Same.refl _ _

theorem doCtxCreate_same : ∀ a0 s0, Same 18014400271093664 s0 (doCtxCreate a0 s0) := by
  intro a0 s0
  unfold doCtxCreate
  split
  · refine mailRun_thru rfl ?_ ?_
    · intro y1 hy2
      first | assumption | exact Same.refl _ _
    · first | assumption | exact Same.refl _ _
  · extract_lets -merge -underBinder -useContext +onlyGivenNames x3
    refine mailRun_thru rfl ?_ ?_
    · intro y4 hy5
      refine Same.thru (ctxTo_same ..) rfl ?_
      refine Same.thru (updCtx_same ..) rfl ?_
      first | assumption | exact Same.refl _ _
    · first | assumption | exact Same.refl _ _

theorem wakeDomain_same : ∀ a0 a1 s0, Same 10201071616 s0 (wakeDomain a0 a1 s0) := by
  intro a0 a1 s0
  unfold wakeDomain
  extract_lets -merge -underBinder -useContext +onlyGivenNames x1 x2
  refine Same.ite ?_ ?_
  · first | assumption | exact Same.refl _ _
  · split
    extract_lets -merge -underBinder -useContext +onlyGivenNames x3 x4 x5
    have h6 : Same 10201071616 s0 x3 := by
      unfold x3
      refine Same.thru (slotsReset_same ..) rfl ?_
      refine Same.thru (zeroBytes_same ..) rfl ?_
      first | assumption | exact Same.refl _ _
    clear_value x3
    have h7 : Same 10201071616 s0 x4 := by
      unfold x4
      refine Same.thru (dropAcc_same ..) rfl ?_
      first | assumption | exact Same.refl _ _
    clear_value x4
    refine Same.thru (updCd_same ..) rfl ?_
    first | assumption | exact Same.refl _ _

theorem doSpZeroed_same : ∀ a0 a1 s0, Same 6442995718 s0 (doSpZeroed a0 a1 s0) := by
  intro a0 a1 s0
  unfold doSpZeroed
  extract_lets -merge -underBinder -useContext +onlyGivenNames x1
  refine Same.ite ?_ ?_
  · first | assumption | exact Same.refl _ _
  · extract_lets -merge -underBinder -useContext +onlyGivenNames x2 x3
    have h4 : Same 6442995718 s0 x2 := by
      unfold x2
      refine Same.thru (syncFacet_same ..) rfl ?_
      refine Same.thru (Same.put_time _ _) rfl ?_
      first | assumption | exact Same.refl _ _
    clear_value x2
    refine Same.thru (updCd_same ..) rfl ?_
    first | assumption | exact Same.refl _ _

theorem doCtxAssign_same : ∀ a0 a1 a2 a3 a4 a5 s0, Same 18014408995770272 s0 (doCtxAssign a0 a1 a2 a3 a4 a5 s0) := by
  intro a0 a1 a2 a3 a4 a5 s0
  unfold doCtxAssign
  extract_lets -merge -underBinder -useContext +onlyGivenNames x1 x2 x3 x4
  refine Same.ite ?_ ?_
  · refine mailRun_thru rfl ?_ ?_
    · intro y5 hy6
      first | assumption | exact Same.refl _ _
    · first | assumption | exact Same.refl _ _
  · refine Same.ite ?_ ?_
    · refine mailRun_thru rfl ?_ ?_
      · intro y7 hy8
        first | assumption | exact Same.refl _ _
      · first | assumption | exact Same.refl _ _
    · refine Same.ite ?_ ?_
      · refine mailRun_thru rfl ?_ ?_
        · intro y9 hy10
          first | assumption | exact Same.refl _ _
        · first | assumption | exact Same.refl _ _
      · refine Same.ite ?_ ?_
        · refine mailRun_thru rfl ?_ ?_
          · intro y11 hy12
            first | assumption | exact Same.refl _ _
          · first | assumption | exact Same.refl _ _
        · refine mailRun_thru rfl ?_ ?_
          · intro y13 hy14
            extract_lets -merge -underBinder -useContext +onlyGivenNames x15
            have h16 : Same 18014408995770272 s0 x15 := by
              unfold x15
              refine Same.foldl (fun r17 e18 h19 => ?_) ?_
              · refine Same.thru (setOwner_same ..) rfl ?_
                first | assumption | exact Same.refl _ _
              · first | assumption | exact Same.refl _ _
            clear_value x15
            refine Same.ite ?_ ?_
            · extract_lets -merge -underBinder -useContext +onlyGivenNames x20
              have h21 : Same 18014408995770272 s0 x20 := by
                unfold x20
                refine Same.ite ?_ ?_
                · refine Same.thru (wakeDomain_same ..) rfl ?_
                  first | assumption | exact Same.refl _ _
                · first | assumption | exact Same.refl _ _
              clear_value x20
              refine Same.ite ?_ ?_
              · refine Same.thru (wakeDomain_same ..) rfl ?_
                first | assumption | exact Same.refl _ _
              · first | assumption | exact Same.refl _ _
            · first | assumption | exact Same.refl _ _
          · first | assumption | exact Same.refl _ _

theorem doCtxUnassign_same : ∀ a0 a1 a2 a3 a4 a5 s0, Same 18014400405311392 s0 (doCtxUnassign a0 a1 a2 a3 a4 a5 s0) := by
  intro a0 a1 a2 a3 a4 a5 s0
  unfold doCtxUnassign
  extract_lets -merge -underBinder -useContext +onlyGivenNames x1 x2 x3 x4
  refine Same.ite ?_ ?_
  · refine mailRun_thru rfl ?_ ?_
    · intro y5 hy6
      first | assumption | exact Same.refl _ _
    · first | assumption | exact Same.refl _ _
  · refine Same.ite ?_ ?_
    · refine mailRun_thru rfl ?_ ?_
      · intro y7 hy8
        first | assumption | exact Same.refl _ _
      · first | assumption | exact Same.refl _ _
    · refine Same.ite ?_ ?_
      · refine mailRun_thru rfl ?_ ?_
        · intro y9 hy10
          first | assumption | exact Same.refl _ _
        · first | assumption | exact Same.refl _ _
      · refine Same.ite ?_ ?_
        · refine mailRun_thru rfl ?_ ?_
          · intro y11 hy12
            first | assumption | exact Same.refl _ _
          · first | assumption | exact Same.refl _ _
        · refine mailRun_thru rfl ?_ ?_
          · intro y13 hy14
            refine Same.foldl (fun r15 e16 h17 => ?_) ?_
            · refine Same.thru (setOwner_same ..) rfl ?_
              first | assumption | exact Same.refl _ _
            · first | assumption | exact Same.refl _ _
          · first | assumption | exact Same.refl _ _

theorem doUnitZeroed_same : ∀ a0 a1 a2 s0, Same 18014409129988000 s0 (doUnitZeroed a0 a1 a2 s0) := by
  intro a0 a1 a2 s0
  unfold doUnitZeroed
  extract_lets -merge -underBinder -useContext +onlyGivenNames x1
  refine Same.ite ?_ ?_
  · first | assumption | exact Same.refl _ _
  · extract_lets -merge -underBinder -useContext +onlyGivenNames x2 x3
    have h4 : Same 18014409129988000 s0 x2 := by
      unfold x2
      refine Same.thru (setOwner_same ..) rfl ?_
      refine Same.thru (zeroBytes_same ..) rfl ?_
      first | assumption | exact Same.refl _ _
    clear_value x2
    have h5 : Same 18014409129988000 s0 x3 := by
      unfold x3
      refine Same.ite ?_ ?_
      · refine Same.thru (dropAcc_same ..) rfl ?_
        refine Same.thru (slotsReset_same ..) rfl ?_
        first | assumption | exact Same.refl _ _
      · first | assumption | exact Same.refl _ _
    clear_value x3
    refine Same.thru (freeIfDone_same ..) rfl ?_
    first | assumption | exact Same.refl _ _

theorem doCtxBind_same : ∀ a0 a1 a2 a3 a4 a5 a6 a7 s0, Same 18014408861552544 s0 (doCtxBind a0 a1 a2 a3 a4 a5 a6 a7 s0) := by
  intro a0 a1 a2 a3 a4 a5 a6 a7 s0
  unfold doCtxBind
  extract_lets -merge -underBinder -useContext +onlyGivenNames x1 x2 x3
  refine Same.ite ?_ ?_
  · refine mailRun_thru rfl ?_ ?_
    · intro y4 hy5
      first | assumption | exact Same.refl _ _
    · first | assumption | exact Same.refl _ _
  · refine Same.ite ?_ ?_
    · refine mailRun_thru rfl ?_ ?_
      · intro y6 hy7
        first | assumption | exact Same.refl _ _
      · first | assumption | exact Same.refl _ _
    · split
      · refine mailRun_thru rfl ?_ ?_
        · intro y8 hy9
          first | assumption | exact Same.refl _ _
        · first | assumption | exact Same.refl _ _
      · refine mailRun_thru rfl ?_ ?_
        · intro y10 hy11
          extract_lets -merge -underBinder -useContext +onlyGivenNames x12
          have h13 : Same 18014408861552544 s0 x12 := by
            unfold x12
            refine Same.thru (updCtx_same ..) rfl ?_
            first | assumption | exact Same.refl _ _
          clear_value x12
          refine Same.foldl (fun r14 e15 h16 => ?_) ?_
          · refine Same.thru (wakeDomain_same ..) rfl ?_
            refine Same.thru (wakeDomain_same ..) rfl ?_
            first | assumption | exact Same.refl _ _
          · refine Same.thru (ctxTo_same ..) rfl ?_
            first | assumption | exact Same.refl _ _
        · first | assumption | exact Same.refl _ _

theorem doCtxReset_same : ∀ a0 a1 a2 a3 a4 s0, Same 27022183641931680 s0 (doCtxReset a0 a1 a2 a3 a4 s0) := by
  intro a0 a1 a2 a3 a4 s0
  unfold doCtxReset
  extract_lets -merge -underBinder -useContext +onlyGivenNames x1 x2 x3
  refine Same.ite ?_ ?_
  · refine mailRun_thru rfl ?_ ?_
    · intro y4 hy5
      first | assumption | exact Same.refl _ _
    · first | assumption | exact Same.refl _ _
  · refine Same.ite ?_ ?_
    · refine mailRun_thru rfl ?_ ?_
      · intro y6 hy7
        first | assumption | exact Same.refl _ _
      · first | assumption | exact Same.refl _ _
    · refine Same.ite ?_ ?_
      · refine mailRun_thru rfl ?_ ?_
        · intro y8 hy9
          first | assumption | exact Same.refl _ _
        · first | assumption | exact Same.refl _ _
      · refine mailRun_thru rfl ?_ ?_
        · intro y10 hy11
          refine Same.ite ?_ ?_
          · refine Same.thru (startTear_same ..) rfl ?_
            first | assumption | exact Same.refl _ _
          · refine Same.thru (startTear_same ..) rfl ?_
            first | assumption | exact Same.refl _ _
        · first | assumption | exact Same.refl _ _

theorem doCtxRelease_same : ∀ a0 a1 s0, Same 27022183641931680 s0 (doCtxRelease a0 a1 s0) := by
  intro a0 a1 s0
  unfold doCtxRelease
  extract_lets -merge -underBinder -useContext +onlyGivenNames x1 x2
  refine Same.ite ?_ ?_
  · refine mailRun_thru rfl ?_ ?_
    · intro y3 hy4
      first | assumption | exact Same.refl _ _
    · first | assumption | exact Same.refl _ _
  · refine Same.ite ?_ ?_
    · refine mailRun_thru rfl ?_ ?_
      · intro y5 hy6
        first | assumption | exact Same.refl _ _
      · first | assumption | exact Same.refl _ _
    · refine Same.ite ?_ ?_
      · refine mailRun_thru rfl ?_ ?_
        · intro y7 hy8
          refine Same.thru (updTd_same ..) rfl ?_
          first | assumption | exact Same.refl _ _
        · first | assumption | exact Same.refl _ _
      · refine mailRun_thru rfl ?_ ?_
        · intro y9 hy10
          refine Same.thru (startTear_same ..) rfl ?_
          first | assumption | exact Same.refl _ _
        · first | assumption | exact Same.refl _ _

theorem doTearClear_same : ∀ a0 s0, Same 36027697498841060 s0 (doTearClear a0 s0) := by
  intro a0 s0
  unfold doTearClear
  refine Same.ite ?_ ?_
  · refine Same.foldl (fun r1 e2 h3 => ?_) ?_
    · refine Same.thru (facetResetGo_same ..) rfl ?_
      first | assumption | exact Same.refl _ _
    · refine Same.thru (clearCtx_same ..) rfl ?_
      first | assumption | exact Same.refl _ _
  · first | assumption | exact Same.refl _ _

theorem execCtxCreate_same : ∀ a0 s0 t, execCtxCreate a0 s0 = .next t → Same 18014400271093664 s0 t := by
  intro a0 s0 t ht
  unfold execCtxCreate at ht
  refine Same.next ht ?_
  refine Same.thru (doCtxCreate_same ..) rfl ?_
  first | assumption | exact Same.refl _ _

theorem execCtxAssign_same : ∀ a0 a1 a2 a3 a4 a5 s0 t, execCtxAssign a0 a1 a2 a3 a4 a5 s0 = .next t → Same 18014408995770272 s0 t := by
  intro a0 a1 a2 a3 a4 a5 s0 t ht
  unfold execCtxAssign at ht
  refine Same.next ht ?_
  refine Same.thru (doCtxAssign_same ..) rfl ?_
  first | assumption | exact Same.refl _ _

theorem execCtxUnassign_same : ∀ a0 a1 a2 a3 a4 a5 s0 t, execCtxUnassign a0 a1 a2 a3 a4 a5 s0 = .next t → Same 18014400405311392 s0 t := by
  intro a0 a1 a2 a3 a4 a5 s0 t ht
  unfold execCtxUnassign at ht
  refine Same.next ht ?_
  refine Same.thru (doCtxUnassign_same ..) rfl ?_
  first | assumption | exact Same.refl _ _

theorem execCtxBind_same : ∀ a0 a1 a2 a3 a4 a5 a6 a7 s0 t, execCtxBind a0 a1 a2 a3 a4 a5 a6 a7 s0 = .next t → Same 18014408861552544 s0 t := by
  intro a0 a1 a2 a3 a4 a5 a6 a7 s0 t ht
  unfold execCtxBind at ht
  refine Same.next ht ?_
  refine Same.thru (doCtxBind_same ..) rfl ?_
  first | assumption | exact Same.refl _ _

theorem execCtxReset_same : ∀ a0 a1 a2 a3 a4 s0 t, execCtxReset a0 a1 a2 a3 a4 s0 = .next t → Same 27022183641931680 s0 t := by
  intro a0 a1 a2 a3 a4 s0 t ht
  unfold execCtxReset at ht
  refine Same.next ht ?_
  refine Same.thru (doCtxReset_same ..) rfl ?_
  first | assumption | exact Same.refl _ _

theorem execCtxRelease_same : ∀ a0 a1 s0 t, execCtxRelease a0 a1 s0 = .next t → Same 27022183641931680 s0 t := by
  intro a0 a1 s0 t ht
  unfold execCtxRelease at ht
  refine Same.next ht ?_
  refine Same.thru (doCtxRelease_same ..) rfl ?_
  first | assumption | exact Same.refl _ _

theorem execTeardownResume_same : ∀ a0 s0 t, execTeardownResume a0 s0 = .next t → Same 22500336920453110 s0 t := by
  intro a0 s0 t ht
  unfold execTeardownResume at ht
  refine Same.next ht ?_
  refine Same.thru (doTearResume_same ..) rfl ?_
  first | assumption | exact Same.refl _ _

theorem execDrainTimeout_same : ∀ a0 s0 t, execDrainTimeout a0 s0 = .next t → Same 138416130 s0 t := by
  intro a0 s0 t ht
  unfold execDrainTimeout at ht
  refine Same.next ht ?_
  refine Same.thru (doDrainTimeout_same ..) rfl ?_
  first | assumption | exact Same.refl _ _

theorem execTeardownClear_same : ∀ a0 s0 t, execTeardownClear a0 s0 = .next t → Same 36027697498841060 s0 t := by
  intro a0 s0 t ht
  unfold execTeardownClear at ht
  refine Same.next ht ?_
  refine Same.thru (doTearClear_same ..) rfl ?_
  first | assumption | exact Same.refl _ _

theorem execMDrain_same : ∀ a0 a1 s0 t, execMDrain a0 a1 s0 = .next t → Same 18137474781437878 s0 t := by
  intro a0 a1 s0 t ht
  unfold execMDrain at ht
  refine Same.next ht ?_
  refine Same.thru (doMDrain_same ..) rfl ?_
  first | assumption | exact Same.refl _ _

theorem execUnitZeroingDone_same : ∀ a0 a1 a2 s0 t, execUnitZeroingDone a0 a1 a2 s0 = .next t → Same 18014409129988000 s0 t := by
  intro a0 a1 a2 s0 t ht
  unfold execUnitZeroingDone at ht
  refine Same.next ht ?_
  refine Same.thru (doUnitZeroed_same ..) rfl ?_
  first | assumption | exact Same.refl _ _

theorem execSpDomainWake_same : ∀ a0 a1 s0 t, execSpDomainWake a0 a1 s0 = .next t → Same 10201071616 s0 t := by
  intro a0 a1 s0 t ht
  unfold execSpDomainWake at ht
  refine Same.next ht ?_
  refine Same.thru (wakeDomain_same ..) rfl ?_
  first | assumption | exact Same.refl _ _

theorem execSpZeroingDone_same : ∀ a0 a1 s0 t, execSpZeroingDone a0 a1 s0 = .next t → Same 6442995718 s0 t := by
  intro a0 a1 s0 t ht
  unfold execSpZeroingDone at ht
  refine Same.next ht ?_
  refine Same.thru (doSpZeroed_same ..) rfl ?_
  first | assumption | exact Same.refl _ _

end Sys2Proof.Machine
end

