-- ==== Sys2Proof/Laws/FrameHeat.lean ====
section
/-! SUPPORT. Laws/FrameHeat.lean: which fields of the state each operation of Machine/Heat.lean may change. -/
namespace Sys2Proof.Machine
open Sys2Proof

theorem powerEvent_same : ∀ a0 a1 a2 a3 a4 s0, Same 18014398526267296 s0 (powerEvent a0 a1 a2 a3 a4 s0) := by
  intro a0 a1 a2 a3 a4 s0
  unfold powerEvent
  extract_lets -merge -underBinder -useContext +onlyGivenNames x1 x2
  have h3 : Same 18014398526267296 s0 x1 := by
    unfold x1
    refine Same.ite ?_ ?_
    · refine Same.thru (journal_same ..) rfl ?_
      first | assumption | exact Same.refl _ _
    · first | assumption | exact Same.refl _ _
  clear_value x1
  have h4 : Same 18014398526267296 s0 x2 := by
    unfold x2
    refine Same.ite ?_ ?_
    · refine Same.thru (report_same ..) rfl ?_
      first | assumption | exact Same.refl _ _
    · first | assumption | exact Same.refl _ _
  clear_value x2
  refine Same.ite ?_ ?_
  · refine Same.thru (msix_same ..) rfl ?_
    first | assumption | exact Same.refl _ _
  · first | assumption | exact Same.refl _ _

theorem setTherm_same : ∀ a0 a1 s0, Same 18014398526283680 s0 (setTherm a0 a1 s0) := by
  intro a0 a1 s0
  unfold setTherm
  refine Same.ite ?_ ?_
  · first | assumption | exact Same.refl _ _
  · extract_lets -merge -underBinder -useContext +onlyGivenNames x1 x2
    have h3 : Same 18014398526283680 s0 x2 := by
      unfold x2
      refine Same.thru (updFacet_same ..) rfl ?_
      first | assumption | exact Same.refl _ _
    clear_value x2
    refine Same.ite ?_ ?_
    · refine Same.thru (powerEvent_same ..) rfl ?_
      first | assumption | exact Same.refl _ _
    · refine Same.thru (msix_same ..) rfl ?_
      first | assumption | exact Same.refl _ _

theorem raiseTherm_same : ∀ a0 s0, Same 18014404969258918 s0 (raiseTherm a0 s0) := by
  intro a0 s0
  unfold raiseTherm
  extract_lets -merge -underBinder -useContext +onlyGivenNames x1
  refine Same.ite ?_ ?_
  · refine Same.thru (raiseLevel_same ..) rfl ?_
    refine Same.thru (setTherm_same ..) rfl ?_
    first | assumption | exact Same.refl _ _
  · first | assumption | exact Same.refl _ _

theorem riseBand_same : ∀ a0 a1 s0, Same 1572864 s0 (riseBand a0 a1 s0) := by
  intro a0 a1 s0
  unfold riseBand
  refine Same.ite ?_ ?_
  · refine Same.thru (updCd_same ..) rfl ?_
    first | assumption | exact Same.refl _ _
  · refine Same.ite ?_ ?_
    · refine Same.thru (updFd_same ..) rfl ?_
      first | assumption | exact Same.refl _ _
    · first | assumption | exact Same.refl _ _

theorem fallBand_same : ∀ a0 s0, Same 1572864 s0 (fallBand a0 s0) := by
  intro a0 s0
  unfold fallBand
  refine Same.foldl (fun r1 e2 h3 => ?_) ?_
  · extract_lets -merge -underBinder -useContext +onlyGivenNames x4
    have h5 : Same 1572864 s0 x4 := by
      unfold x4
      refine Same.thru (updCd_same ..) rfl ?_
      first | assumption | exact Same.refl _ _
    clear_value x4
    refine Same.thru (updFd_same ..) rfl ?_
    first | assumption | exact Same.refl _ _
  · first | assumption | exact Same.refl _ _

theorem setTemp_same : ∀ a0 s0, Same 5775360 s0 (setTemp a0 s0) := by
  intro a0 s0
  unfold setTemp
  refine Same.ite ?_ ?_
  · first | assumption | exact Same.refl _ _
  · extract_lets -merge -underBinder -useContext +onlyGivenNames x1 x2 x3
    have h4 : Same 5775360 s0 x3 := by
      unfold x3
      refine Same.thru (Same.put_pw _ _ (PowerSt.wf_mk (fun h => wf_tset h) id id)) rfl ?_
      first | assumption | exact Same.refl _ _
    clear_value x3
    extract_lets -merge -underBinder -useContext +onlyGivenNames x5
    have h6 : Same 5775360 s0 x5 := by
      unfold x5
      refine Same.thru (riseBand_same ..) rfl ?_
      first | assumption | exact Same.refl _ _
    clear_value x5
    refine Same.ite ?_ ?_
    · refine Same.thru (updOe_same ..) rfl ?_
      first | assumption | exact Same.refl _ _
    · first | assumption | exact Same.refl _ _

theorem setTemps_same : ∀ a0 s0, Same 18014404974509990 s0 (setTemps a0 s0) := by
  intro a0 s0
  unfold setTemps
  refine Same.foldl (fun r1 e2 h3 => ?_) ?_
  · refine Same.thru (raiseTherm_same ..) rfl ?_
    first | assumption | exact Same.refl _ _
  · refine Same.foldl (fun r4 e5 h6 => ?_) ?_
    · refine Same.thru (setTemp_same ..) rfl ?_
      first | assumption | exact Same.refl _ _
    · first | assumption | exact Same.refl _ _

theorem powerTick_same : ∀ a0 a1 a2 s0, Same 16384 s0 (powerTick a0 a1 a2 s0) := by
  intro a0 a1 a2 s0
  unfold powerTick
  extract_lets -merge -underBinder -useContext +onlyGivenNames x1
  refine Same.ite ?_ ?_
  · refine Same.thru (updFacet_same ..) rfl ?_
    first | assumption | exact Same.refl _ _
  · extract_lets -merge -underBinder -useContext +onlyGivenNames x2
    refine Same.thru (updFacet_same ..) rfl ?_
    first | assumption | exact Same.refl _ _

theorem levelTick_same : ∀ a0 s0, Same 18014398526283680 s0 (levelTick a0 s0) := by
  intro a0 s0
  unfold levelTick
  extract_lets -merge -underBinder -useContext +onlyGivenNames x1 x2 x3 x4 x5
  have h6 : Same 18014398526283680 s0 x2 := by
    unfold x2
    refine Same.ite ?_ ?_
    · refine Same.thru (setTherm_same ..) rfl ?_
      first | assumption | exact Same.refl _ _
    · first | assumption | exact Same.refl _ _
  clear_value x2
  have h7 : Same 18014398526283680 s0 x3 := by
    unfold x3
    refine Same.thru (updFacet_same ..) rfl ?_
    first | assumption | exact Same.refl _ _
  clear_value x3
  refine Same.thru (updFacet_same ..) rfl ?_
  first | assumption | exact Same.refl _ _

end Sys2Proof.Machine
end

