-- ==== Sys2Proof/Laws/FrameFrame.lean ====
section
/-! SUPPORT. Laws/FrameFrame.lean: which fields of the state each operation of Machine/Frame.lean may change. -/
namespace Sys2Proof.Machine
open Sys2Proof

theorem writeRec_same : ∀ a0 s0, Same 16384 s0 (writeRec a0 s0) := by
  intro a0 s0
  unfold writeRec
  extract_lets -merge -underBinder -useContext +onlyGivenNames x1
  refine Same.thru (updFacet_same ..) rfl ?_
  first | assumption | exact Same.refl _ _

theorem overrunEngine_same : ∀ a0 a1 a2 s0, Same 18016459778711462 s0 (overrunEngine a0 a1 a2 s0) := by
  intro a0 a1 a2 s0
  unfold overrunEngine
  extract_lets -merge -underBinder -useContext +onlyGivenNames x1 x2 x3 x4
  have h5 : Same 18016459778711462 s0 x4 := by
    unfold x4
    refine Same.foldl (fun r6 e7 h8 => ?_) ?_
    · refine Same.thru (retire_same ..) rfl ?_
      first | assumption | exact Same.refl _ _
    · first | assumption | exact Same.refl _ _
  clear_value x4
  refine Same.foldl (fun r9 e10 h11 => ?_) ?_
  · split
    · refine Same.thru (updFacet_same ..) rfl ?_
      refine Same.thru (haltStream_same ..) rfl ?_
      first | assumption | exact Same.refl _ _
    · first | assumption | exact Same.refl _ _
  · first | assumption | exact Same.refl _ _

theorem overrunFacet_same : ∀ a0 a1 s0, Same 18016459778711462 s0 (overrunFacet a0 a1 s0) := by
  intro a0 a1 s0
  unfold overrunFacet
  refine Same.foldl (fun r1 e2 h3 => ?_) ?_
  · refine Same.foldl (fun r4 e5 h6 => ?_) ?_
    · refine Same.thru (overrunEngine_same ..) rfl ?_
      first | assumption | exact Same.refl _ _
    · first | assumption | exact Same.refl _ _
  · first | assumption | exact Same.refl _ _

theorem setShares_same : ∀ a0 a1 s0, Same 4294967296 s0 (setShares a0 a1 s0) := by
  intro a0 a1 s0
  unfold setShares
  split
  refine Same.foldl (fun r1 e2 h3 => ?_) ?_
  · refine Same.thru (Same.put_arrs _ _ (fun h => wf_tset h)) rfl ?_
    first | assumption | exact Same.refl _ _
  · first | assumption | exact Same.refl _ _

theorem startStreams_same : ∀ a0 a1 s0, Same 17179869184 s0 (startStreams a0 a1 s0) := by
  intro a0 a1 s0
  unfold startStreams
  extract_lets -merge -underBinder -useContext +onlyGivenNames x1
  refine Same.foldl (fun r2 e3 h4 => ?_) ?_
  · refine Same.thru (setStream_same ..) rfl ?_
    first | assumption | exact Same.refl _ _
  · first | assumption | exact Same.refl _ _

theorem formJoin_same : ∀ a0 s0, Same 18014398526279584 s0 (formJoin a0 s0) := by
  intro a0 s0
  unfold formJoin
  refine Same.ite ?_ ?_
  · first | assumption | exact Same.refl _ _
  · extract_lets -merge -underBinder -useContext +onlyGivenNames x1
    refine Same.foldl (fun r2 e3 h4 => ?_) ?_
    · refine Same.ite ?_ ?_
      · refine Same.thru (setJoin_same ..) rfl ?_
        first | assumption | exact Same.refl _ _
      · first | assumption | exact Same.refl _ _
    · first | assumption | exact Same.refl _ _

theorem bindCtx_same : ∀ a0 a1 s0, Same 22518019762704288 s0 (bindCtx a0 a1 s0) := by
  intro a0 a1 s0
  unfold bindCtx
  extract_lets -merge -underBinder -useContext +onlyGivenNames x1 x2 x3 x4 x5
  have h6 : Same 22518019762704288 s0 x3 := by
    unfold x3
    refine Same.thru (updCtx_same ..) rfl ?_
    first | assumption | exact Same.refl _ _
  clear_value x3
  have h7 : Same 22518019762704288 s0 x4 := by
    unfold x4
    refine Same.foldl (fun r8 e9 h10 => ?_) ?_
    · refine Same.thru (startStreams_same ..) rfl ?_
      refine Same.thru (setShares_same ..) rfl ?_
      first | assumption | exact Same.refl _ _
    · first | assumption | exact Same.refl _ _
  clear_value x4
  have h11 : Same 22518019762704288 s0 x5 := by
    unfold x5
    refine Same.foldl (fun r12 e13 h14 => ?_) ?_
    · refine Same.thru (Same.put_idle _ _ (fun h => wf_tset h)) rfl ?_
      first | assumption | exact Same.refl _ _
    · first | assumption | exact Same.refl _ _
  clear_value x5
  extract_lets -merge -underBinder -useContext +onlyGivenNames x15
  have h16 : Same 22518019762704288 s0 x15 := by
    unfold x15
    refine Same.ite ?_ ?_
    · refine Same.foldl (fun r17 e18 h19 => ?_) ?_
      · refine Same.ite ?_ ?_
        · refine Same.thru (updFacet_same ..) rfl ?_
          first | assumption | exact Same.refl _ _
        · first | assumption | exact Same.refl _ _
      · first | assumption | exact Same.refl _ _
    · first | assumption | exact Same.refl _ _
  clear_value x15
  refine Same.thru (formJoin_same ..) rfl ?_
  refine Same.thru (ctxTo_same ..) rfl ?_
  first | assumption | exact Same.refl _ _

theorem refuseBind_same : ∀ a0 s0, Same 18014398660480928 s0 (refuseBind a0 s0) := by
  intro a0 s0
  unfold refuseBind
  refine Same.thru (ctxTo_same ..) rfl ?_
  refine Same.thru (updCtx_same ..) rfl ?_
  first | assumption | exact Same.refl _ _

theorem tryBind_same : ∀ a0 a1 s0, Same 22518019762704288 s0 (tryBind a0 a1 s0) := by
  intro a0 a1 s0
  unfold tryBind
  extract_lets -merge -underBinder -useContext +onlyGivenNames x1 x2 x3
  refine Same.ite ?_ ?_
  · first | assumption | exact Same.refl _ _
  · refine Same.ite ?_ ?_
    · refine Same.thru (bindCtx_same ..) rfl ?_
      first | assumption | exact Same.refl _ _
    · refine Same.thru (refuseBind_same ..) rfl ?_
      first | assumption | exact Same.refl _ _

theorem endJoin_same : ∀ a0 s0, Same 18014398526279584 s0 (endJoin a0 s0) := by
  intro a0 s0
  unfold endJoin
  extract_lets -merge -underBinder -useContext +onlyGivenNames x1
  refine Same.ite ?_ ?_
  · first | assumption | exact Same.refl _ _
  · refine Same.thru (releaseJoin_same ..) rfl ?_
    first | assumption | exact Same.refl _ _

theorem bindStep_same : ∀ a0 a1 s0, Same 22518019762704288 s0 (bindStep a0 a1 s0) := by
  intro a0 a1 s0
  unfold bindStep
  extract_lets -merge -underBinder -useContext +onlyGivenNames x1 x2
  have h3 : Same 22518019762704288 s0 x1 := by
    unfold x1
    refine Same.foldl (fun r4 e5 h6 => ?_) ?_
    · refine Same.thru (endJoin_same ..) rfl ?_
      first | assumption | exact Same.refl _ _
    · first | assumption | exact Same.refl _ _
  clear_value x1
  refine Same.foldl (fun r7 e8 h9 => ?_) ?_
  · refine Same.thru (readyOrActive_same ..) rfl ?_
    first | assumption | exact Same.refl _ _
  · refine Same.foldl (fun r10 e11 h12 => ?_) ?_
    · refine Same.thru (tryBind_same ..) rfl ?_
      first | assumption | exact Same.refl _ _
    · first | assumption | exact Same.refl _ _

theorem countFrame_same : ∀ a0 s0, Same 134217728 s0 (countFrame a0 s0) := by
  intro a0 s0
  unfold countFrame
  refine Same.foldl (fun r1 e2 h3 => ?_) ?_
  · refine Same.thru (updCtx_same ..) rfl ?_
    first | assumption | exact Same.refl _ _
  · first | assumption | exact Same.refl _ _

theorem publish_same : ∀ a0 a1 s0, Same 134217728 s0 (publish a0 a1 s0) := by
  intro a0 a1 s0
  unfold publish
  refine Same.foldl (fun r1 e2 h3 => ?_) ?_
  · refine Same.thru (updCtx_same ..) rfl ?_
    first | assumption | exact Same.refl _ _
  · first | assumption | exact Same.refl _ _

theorem gateDomains_same : ∀ a0 s0, Same 524288 s0 (gateDomains a0 s0) := by
  intro a0 s0
  unfold gateDomains
  extract_lets -merge -underBinder -useContext +onlyGivenNames x1
  refine Same.ite ?_ ?_
  · refine Same.foldl (fun r2 e3 h4 => ?_) ?_
    · refine Same.ite ?_ ?_
      · first | assumption | exact Same.refl _ _
      · extract_lets -merge -underBinder -useContext +onlyGivenNames x5
        have h6 : Same 524288 s0 x5 := by
          unfold x5
          refine Same.ite ?_ ?_
          · first | assumption | exact Same.refl _ _
          · refine Same.thru (updCd_same ..) rfl ?_
            first | assumption | exact Same.refl _ _
        clear_value x5
        refine Same.ite ?_ ?_
        · first | assumption | exact Same.refl _ _
        · refine Same.thru (updCd_same ..) rfl ?_
          first | assumption | exact Same.refl _ _
    · first | assumption | exact Same.refl _ _
  · first | assumption | exact Same.refl _ _

theorem openFrame_same : ∀ a0 a1 a2 a3 a4 s0, Same 16384 s0 (openFrame a0 a1 a2 a3 a4 s0) := by
  intro a0 a1 a2 a3 a4 s0
  unfold openFrame
  extract_lets -merge -underBinder -useContext +onlyGivenNames x1 x2
  refine Same.thru (setFacet_same ..) rfl ?_
  first | assumption | exact Same.refl _ _

theorem tickSteps_same : ∀ a0 a1 a2 a3 a4 s0, Same 18014415841943456 s0 (tickSteps a0 a1 a2 a3 a4 s0) := by
  intro a0 a1 a2 a3 a4 s0
  unfold tickSteps
  extract_lets -merge -underBinder -useContext +onlyGivenNames x1 x2 x3 x4 x5
  have h6 : Same 18014415841943456 s0 x1.1 := by
    unfold x1
    refine Same.foldlPart (fun z : State × Bool => z.1) (fun r7 e8 h9 => ?_) ?_
    · split
      rename_i v10 v11 v12 hq13
      extract_lets -merge -underBinder -useContext +onlyGivenNames x14
      have h15 : Same 18014415841943456 s0 x14 := by
        unfold x14
        refine Same.thru (updCd_same ..) rfl ?_
        have h16 : Same 18014415841943456 s0 v11 := Same.of_eq (fun z : State × Bool => z.1) hq13 (by
          refine Same.iteOf (fun z : State × Bool => z.1) ?_ ?_
          · first | assumption | exact Same.refl _ _
          · refine Same.thru (swapTick_same ..) rfl ?_
            first | assumption | exact Same.refl _ _
          )
        first | assumption | exact Same.refl _ _
      clear_value x14
      first | assumption | exact Same.refl _ _
    · first | assumption | exact Same.refl _ _
  clear_value x1
  have h17 : Same 18014415841943456 s0 x2 := by
    unfold x2
    refine Same.thru (tickApply_same ..) rfl ?_
    first | assumption | exact Same.refl _ _
  clear_value x2
  have h18 : Same 18014415841943456 s0 x3 := by
    unfold x3
    refine Same.ite ?_ ?_
    · first | assumption | exact Same.refl _ _
    · refine Same.thru (powerTick_same ..) rfl ?_
      first | assumption | exact Same.refl _ _
  clear_value x3
  have h19 : Same 18014415841943456 s0 x4 := by
    unfold x4
    refine Same.thru (fallBand_same ..) rfl ?_
    refine Same.thru (levelTick_same ..) rfl ?_
    first | assumption | exact Same.refl _ _
  clear_value x4
  have h20 : Same 18014415841943456 s0 x5 := by
    unfold x5
    refine Same.ite ?_ ?_
    · first | assumption | exact Same.refl _ _
    · refine Same.thru (countFrame_same ..) rfl ?_
      first | assumption | exact Same.refl _ _
  clear_value x5
  refine Same.thru (updFacet_same ..) rfl ?_
  first | assumption | exact Same.refl _ _

theorem openNext_same : ∀ a0 a1 a2 a3 s0, Same 1125906484056068 s0 (openNext a0 a1 a2 a3 s0) := by
  intro a0 a1 a2 a3 s0
  unfold openNext
  extract_lets -merge -underBinder -useContext +onlyGivenNames x1
  refine Same.thru (gateDomains_same ..) rfl ?_
  refine Same.thru (tickIncApply_same ..) rfl ?_
  refine Same.thru (publish_same ..) rfl ?_
  refine Same.thru (openFrame_same ..) rfl ?_
  first | assumption | exact Same.refl _ _

theorem finishTick_same : ∀ a0 a1 a2 s0, Same 23643921817558948 s0 (finishTick a0 a1 a2 s0) := by
  intro a0 a1 a2 s0
  unfold finishTick
  extract_lets -merge -underBinder -useContext +onlyGivenNames x1
  refine Same.ite ?_ ?_
  · refine Same.foldl (fun r2 e3 h4 => ?_) ?_
    · refine Same.thru (openNext_same ..) rfl ?_
      first | assumption | exact Same.refl _ _
    · refine Same.thru (bindStep_same ..) rfl ?_
      first | assumption | exact Same.refl _ _
  · first | assumption | exact Same.refl _ _

theorem firstTick_same : ∀ a0 a1 s0, Same 23643921822810022 s0 (firstTick a0 a1 s0) := by
  intro a0 a1 s0
  unfold firstTick
  extract_lets -merge -underBinder -useContext +onlyGivenNames x1 x2 x3 x4
  have h5 : Same 23643921822810022 s0 x3 := by
    unfold x3
    refine Same.thru (facetTo_same ..) rfl ?_
    refine Same.thru (Same.put_time _ _) rfl ?_
    first | assumption | exact Same.refl _ _
  clear_value x3
  have h6 : Same 23643921822810022 s0 x4 := by
    unfold x4
    refine Same.thru (openNext_same ..) rfl ?_
    refine Same.thru (bindStep_same ..) rfl ?_
    refine Same.thru (tickSteps_same ..) rfl ?_
    first | assumption | exact Same.refl _ _
  clear_value x4
  refine Same.thru (lightFacet_same ..) rfl ?_
  refine Same.thru (startupDone_same ..) rfl ?_
  refine Same.thru (setTemps_same ..) rfl ?_
  refine Same.thru (Same.put_hub _ _ (HubSt.wf_mk id (fun h => wf_tset h) id)) rfl ?_
  first | assumption | exact Same.refl _ _

theorem closingTick_same : ∀ a0 a1 s0, Same 23645959317127078 s0 (closingTick a0 a1 s0) := by
  intro a0 a1 s0
  unfold closingTick
  extract_lets -merge -underBinder -useContext +onlyGivenNames x1 x2 x3 x4 x5 x6 x7 x8
  have h9 : Same 23645959317127078 s0 x5 := by
    unfold x5
    refine Same.thru (commitFacet_same ..) rfl ?_
    refine Same.thru (toCycle_same ..) rfl ?_
    first | assumption | exact Same.refl _ _
  clear_value x5
  have h10 : Same 23645959317127078 s0 x6 := by
    unfold x6
    refine Same.thru (updFacet_same ..) rfl ?_
    refine Same.thru (Same.put_time _ _) rfl ?_
    first | assumption | exact Same.refl _ _
  clear_value x6
  have h11 : Same 23645959317127078 s0 x7 := by
    unfold x7
    refine Same.foldl (fun r12 e13 h14 => ?_) ?_
    · refine Same.thru (updFacet_same ..) rfl ?_
      first | assumption | exact Same.refl _ _
    · first | assumption | exact Same.refl _ _
  clear_value x7
  have h15 : Same 23645959317127078 s0 x8 := by
    unfold x8
    refine Same.thru (writeRec_same ..) rfl ?_
    refine Same.thru (commitFacet_same ..) rfl ?_
    refine Same.thru (overrunFacet_same ..) rfl ?_
    first | assumption | exact Same.refl _ _
  clear_value x8
  refine Same.thru (setTemps_same ..) rfl ?_
  refine Same.thru (finishTick_same ..) rfl ?_
  refine Same.thru (tickSteps_same ..) rfl ?_
  first | assumption | exact Same.refl _ _

theorem doFrameTick_same : ∀ a0 a1 s0, Same 27021597487300518 s0 (doFrameTick a0 a1 s0) := by
  intro a0 a1 s0
  unfold doFrameTick
  extract_lets -merge -underBinder -useContext +onlyGivenNames x1
  refine Same.ite ?_ ?_
  · refine Same.thru (facetOff_same ..) rfl ?_
    refine Same.thru (Same.put_time _ _) rfl ?_
    first | assumption | exact Same.refl _ _
  · refine Same.ite ?_ ?_
    · refine Same.ite ?_ ?_
      · refine Same.thru (firstTick_same ..) rfl ?_
        first | assumption | exact Same.refl _ _
      · first | assumption | exact Same.refl _ _
    · refine Same.ite ?_ ?_
      · first | assumption | exact Same.refl _ _
      · split
        · refine Same.thru (finishTick_same ..) rfl ?_
          first | assumption | exact Same.refl _ _
        · refine Same.thru (closingTick_same ..) rfl ?_
          first | assumption | exact Same.refl _ _

theorem doJoinHold_same : ∀ a0 s0, Same 6442995718 s0 (doJoinHold a0 s0) := by
  intro a0 s0
  unfold doJoinHold
  extract_lets -merge -underBinder -useContext +onlyGivenNames x1
  refine Same.ite ?_ ?_
  · first | assumption | exact Same.refl _ _
  · refine Same.thru (updFacet_same ..) rfl ?_
    refine Same.thru (toCycle_same ..) rfl ?_
    first | assumption | exact Same.refl _ _

theorem execFrameTick_same : ∀ a0 a1 s0 t, execFrameTick a0 a1 s0 = .next t → Same 27021597487300518 s0 t := by
  intro a0 a1 s0 t ht
  unfold execFrameTick at ht
  refine Same.next ht ?_
  refine Same.thru (doFrameTick_same ..) rfl ?_
  first | assumption | exact Same.refl _ _

theorem execJoinHold_same : ∀ a0 s0 t, execJoinHold a0 s0 = .next t → Same 6442995718 s0 t := by
  intro a0 s0 t ht
  unfold execJoinHold at ht
  refine Same.next ht ?_
  refine Same.thru (doJoinHold_same ..) rfl ?_
  first | assumption | exact Same.refl _ _

end Sys2Proof.Machine
end

