-- ==== Sys2Proof/Laws/FramePkgLink.lean ====
section
/-! SUPPORT. Laws/FramePkgLink.lean: which fields of the state each operation of Machine/PkgLink.lean may change. -/
namespace Sys2Proof.Machine
open Sys2Proof

theorem sendFlit_same : ∀ a0 a1 a2 s0, Same 18014398576590848 s0 (sendFlit a0 a1 a2 s0) := by
  intro a0 a1 a2 s0
  unfold sendFlit
  extract_lets -merge -underBinder -useContext +onlyGivenNames x1
  refine Same.ite ?_ ?_
  · first | assumption | exact Same.refl _ _
  · extract_lets -merge -underBinder -useContext +onlyGivenNames x2
    have h3 : Same 18014398576590848 s0 x2 := by
      unfold x2
      refine Same.thru (keepFlit_same ..) rfl ?_
      first | assumption | exact Same.refl _ _
    clear_value x2
    split
    · refine Same.thru (emit_same ..) rfl ?_
      first | assumption | exact Same.refl _ _
    · first | assumption | exact Same.refl _ _

theorem dropFlit_same : ∀ a0 a1 s0, Same 18014398576590848 s0 (dropFlit a0 a1 s0) := by
  intro a0 a1 s0
  unfold dropFlit
  extract_lets -merge -underBinder -useContext +onlyGivenNames x1 x2
  refine Same.ite ?_ ?_
  · first | assumption | exact Same.refl _ _
  · refine Same.thru (sendFlit_same ..) rfl ?_
    refine Same.thru (updDir_same ..) rfl ?_
    first | assumption | exact Same.refl _ _

theorem resend_same : ∀ a0 a1 a2 s0, Same 18014398509483008 s0 (resend a0 a1 a2 s0) := by
  intro a0 a1 a2 s0
  unfold resend
  extract_lets -merge -underBinder -useContext +onlyGivenNames x1 x2 x3
  have h4 : Same 18014398509483008 s0 x3 := by
    unfold x3
    refine Same.foldl (fun r5 e6 h7 => ?_) ?_
    · refine Same.thru (emit_same ..) rfl ?_
      first | assumption | exact Same.refl _ _
    · first | assumption | exact Same.refl _ _
  clear_value x3
  refine Same.thru (bump_same ..) rfl ?_
  first | assumption | exact Same.refl _ _

theorem retrain_same : ∀ a0 s0, Same 100668416 s0 (retrain a0 s0) := by
  intro a0 s0
  unfold retrain
  refine Same.ite ?_ ?_
  · first | assumption | exact Same.refl _ _
  · extract_lets -merge -underBinder -useContext +onlyGivenNames x1 x2
    have h3 : Same 100668416 s0 x1 := by
      unfold x1
      refine Same.thru (report_same ..) rfl ?_
      refine Same.thru (bump_same ..) rfl ?_
      refine Same.thru (linkTo_same ..) rfl ?_
      first | assumption | exact Same.refl _ _
    clear_value x1
    refine Same.thru (updDir_same ..) rfl ?_
    refine Same.thru (updDir_same ..) rfl ?_
    first | assumption | exact Same.refl _ _

theorem noteSent_same : ∀ a0 a1 a2 s0, Same 67108868 s0 (noteSent a0 a1 a2 s0) := by
  intro a0 a1 a2 s0
  unfold noteSent
  extract_lets -merge -underBinder -useContext +onlyGivenNames x1 x2
  refine Same.ite ?_ ?_
  · refine Same.ite ?_ ?_
    · refine Same.thru (updDir_same ..) rfl ?_
      first | assumption | exact Same.refl _ _
    · first | assumption | exact Same.refl _ _
  · refine Same.ite ?_ ?_
    · extract_lets -merge -underBinder -useContext +onlyGivenNames x3
      refine Same.thru (updDir_same ..) rfl ?_
      refine Same.thru (Same.put_free _ _) rfl ?_
      first | assumption | exact Same.refl _ _
    · first | assumption | exact Same.refl _ _

theorem acceptFlit_same : ∀ a0 a1 a2 s0, Same 67108864 s0 (acceptFlit a0 a1 a2 s0) := by
  intro a0 a1 a2 s0
  unfold acceptFlit
  extract_lets -merge -underBinder -useContext +onlyGivenNames x1
  split
  extract_lets -merge -underBinder -useContext +onlyGivenNames x2 x3
  have h4 : Same 67108864 s0 x3 := by
    unfold x3
    refine Same.thru (updDir_same ..) rfl ?_
    first | assumption | exact Same.refl _ _
  clear_value x3
  refine Same.thru (updDir_same ..) rfl ?_
  first | assumption | exact Same.refl _ _

theorem acceptEarlyN_same : ∀ a0 a1 a2 s0, Same 67108864 s0 (acceptEarlyN a0 a1 a2 s0) := by
  intro a0 a1 a2 s0
  induction a0 generalizing a1 a2 s0
  · unfold acceptEarlyN
    first | assumption | exact Same.refl _ _
  · rename_i i0 ih
    unfold acceptEarlyN
    extract_lets -merge -underBinder -useContext +onlyGivenNames x1
    split
    · refine Same.thru (ih ..) rfl ?_
      refine Same.thru (acceptFlit_same ..) rfl ?_
      first | assumption | exact Same.refl _ _
    · first | assumption | exact Same.refl _ _

theorem doFlit_same : ∀ a0 a1 a2 s0, Same 18014398576590852 s0 (doFlit a0 a1 a2 s0) := by
  intro a0 a1 a2 s0
  unfold doFlit
  extract_lets -merge -underBinder -useContext +onlyGivenNames x1
  refine Same.ite ?_ ?_
  · first | assumption | exact Same.refl _ _
  · refine Same.ite ?_ ?_
    · refine Same.thru (dropFlit_same ..) rfl ?_
      first | assumption | exact Same.refl _ _
    · extract_lets -merge -underBinder -useContext +onlyGivenNames x2 x3 x4 x5
      have h6 : Same 18014398576590852 s0 x3 := by
        unfold x3
        refine Same.thru (noteSent_same ..) rfl ?_
        refine Same.thru (updDir_same ..) rfl ?_
        first | assumption | exact Same.refl _ _
      clear_value x3
      refine Same.ite ?_ ?_
      · refine Same.thru (sendFlit_same ..) rfl ?_
        refine Same.thru (acceptEarlyN_same ..) rfl ?_
        refine Same.thru (acceptFlit_same ..) rfl ?_
        first | assumption | exact Same.refl _ _
      · refine Same.ite ?_ ?_
        · refine Same.thru (updDir_same ..) rfl ?_
          first | assumption | exact Same.refl _ _
        · refine Same.thru (dropFlit_same ..) rfl ?_
          first | assumption | exact Same.refl _ _

theorem doReplay_same : ∀ a0 a1 a2 s0, Same 18014398610150400 s0 (doReplay a0 a1 a2 s0) := by
  intro a0 a1 a2 s0
  unfold doReplay
  refine Same.ite ?_ ?_
  · first | assumption | exact Same.refl _ _
  · extract_lets -merge -underBinder -useContext +onlyGivenNames x1 x2
    have h3 : Same 18014398610150400 s0 x1 := by
      unfold x1
      refine Same.thru (resend_same ..) rfl ?_
      first | assumption | exact Same.refl _ _
    clear_value x1
    have h4 : Same 18014398610150400 s0 x2 := by
      unfold x2
      refine Same.thru (updDir_same ..) rfl ?_
      first | assumption | exact Same.refl _ _
    clear_value x2
    refine Same.ite ?_ ?_
    · refine Same.thru (retrain_same ..) rfl ?_
      first | assumption | exact Same.refl _ _
    · first | assumption | exact Same.refl _ _

theorem doFlitTimeout_same : ∀ a0 a1 s0, Same 18014398610150400 s0 (doFlitTimeout a0 a1 s0) := by
  intro a0 a1 s0
  unfold doFlitTimeout
  extract_lets -merge -underBinder -useContext +onlyGivenNames x1
  refine Same.ite ?_ ?_
  · first | assumption | exact Same.refl _ _
  · extract_lets -merge -underBinder -useContext +onlyGivenNames x2 x3
    have h4 : Same 18014398610150400 s0 x2 := by
      unfold x2
      refine Same.thru (doReplay_same ..) rfl ?_
      first | assumption | exact Same.refl _ _
    clear_value x2
    have h5 : Same 18014398610150400 s0 x3 := by
      unfold x3
      refine Same.thru (updDir_same ..) rfl ?_
      first | assumption | exact Same.refl _ _
    clear_value x3
    refine Same.ite ?_ ?_
    · refine Same.thru (retrain_same ..) rfl ?_
      first | assumption | exact Same.refl _ _
    · first | assumption | exact Same.refl _ _

theorem settleNet_same : ∀ s0, Same 18137474781437878 s0 (settleNet s0) := by
  intro s0
  unfold settleNet
  refine Same.foldl (fun r1 e2 h3 => ?_) ?_
  · refine Same.ite ?_ ?_
    · first | assumption | exact Same.refl _ _
    · refine Same.thru (runPort_same ..) rfl ?_
      first | assumption | exact Same.refl _ _
  · refine Same.foldl (fun r4 e5 h6 => ?_) ?_
    · refine Same.thru (flow_same ..) rfl ?_
      first | assumption | exact Same.refl _ _
    · refine Same.thru (sendOutbox_same ..) rfl ?_
      refine Same.thru (moveNet_same ..) rfl ?_
      first | assumption | exact Same.refl _ _

theorem failLink_same : ∀ a0 s0, Same 18137474814992310 s0 (failLink a0 s0) := by
  intro a0 s0
  unfold failLink
  extract_lets -merge -underBinder -useContext +onlyGivenNames x1 x2
  have h3 : Same 18137474814992310 s0 x1 := by
    unfold x1
    refine Same.thru (report_same ..) rfl ?_
    refine Same.thru (linkTo_same ..) rfl ?_
    first | assumption | exact Same.refl _ _
  clear_value x1
  have h4 : Same 18137474814992310 s0 x2 := by
    unfold x2
    refine Same.foldl (fun r5 e6 h7 => ?_) ?_
    · refine Same.thru (failFacet_same ..) rfl ?_
      first | assumption | exact Same.refl _ _
    · first | assumption | exact Same.refl _ _
  clear_value x2
  refine Same.thru (settleNet_same ..) rfl ?_
  first | assumption | exact Same.refl _ _

theorem setStatus_same : ∀ a0 a1 s0, Same 65536 s0 (setStatus a0 a1 s0) := by
  intro a0 a1 s0
  unfold setStatus
  refine Same.thru (Same.put_siteStatus _ _ (fun h => wf_tset h)) rfl ?_
  first | assumption | exact Same.refl _ _

theorem doSelfTest_same : ∀ a0 a1 a2 a3 s0, Same 18137474815057846 s0 (doSelfTest a0 a1 a2 a3 s0) := by
  intro a0 a1 a2 a3 s0
  unfold doSelfTest
  refine Same.ite ?_ ?_
  · first | assumption | exact Same.refl _ _
  · refine Same.ite ?_ ?_
    · refine Same.thru (failLink_same ..) rfl ?_
      refine Same.thru (setStatus_same ..) rfl ?_
      first | assumption | exact Same.refl _ _
    · refine Same.thru (updLink_same ..) rfl ?_
      first | assumption | exact Same.refl _ _

theorem doTrained_same : ∀ a0 a1 a2 s0, Same 18137474814992310 s0 (doTrained a0 a1 a2 s0) := by
  intro a0 a1 a2 s0
  unfold doTrained
  refine Same.ite ?_ ?_
  · first | assumption | exact Same.refl _ _
  · refine Same.ite ?_ ?_
    · refine Same.thru (failLink_same ..) rfl ?_
      first | assumption | exact Same.refl _ _
    · extract_lets -merge -underBinder -useContext +onlyGivenNames x1 x2
      have h3 : Same 18137474814992310 s0 x1 := by
        unfold x1
        refine Same.thru (updLink_same ..) rfl ?_
        refine Same.thru (linkTo_same ..) rfl ?_
        first | assumption | exact Same.refl _ _
      clear_value x1
      have h4 : Same 18137474814992310 s0 x2 := by
        unfold x2
        refine Same.thru (updDir_same ..) rfl ?_
        refine Same.thru (updDir_same ..) rfl ?_
        first | assumption | exact Same.refl _ _
      clear_value x2
      refine Same.thru (settleNet_same ..) rfl ?_
      refine Same.ite ?_ ?_
      · first | assumption | exact Same.refl _ _
      · refine Same.thru (report_same ..) rfl ?_
        first | assumption | exact Same.refl _ _

theorem retrainFailed_same : ∀ a0 s0, Same 18137474814992310 s0 (retrainFailed a0 s0) := by
  intro a0 s0
  unfold retrainFailed
  extract_lets -merge -underBinder -useContext +onlyGivenNames x1 x2
  have h3 : Same 18137474814992310 s0 x2 := by
    unfold x2
    refine Same.thru (updLink_same ..) rfl ?_
    first | assumption | exact Same.refl _ _
  clear_value x2
  refine Same.ite ?_ ?_
  · refine Same.thru (failLink_same ..) rfl ?_
    first | assumption | exact Same.refl _ _
  · first | assumption | exact Same.refl _ _

theorem doRetrainDone_same : ∀ a0 a1 s0, Same 18137474814992310 s0 (doRetrainDone a0 a1 s0) := by
  intro a0 a1 s0
  unfold doRetrainDone
  refine Same.ite ?_ ?_
  · first | assumption | exact Same.refl _ _
  · refine Same.ite ?_ ?_
    · extract_lets -merge -underBinder -useContext +onlyGivenNames x1
      have h2 : Same 18137474814992310 s0 x1 := by
        unfold x1
        refine Same.thru (updLink_same ..) rfl ?_
        refine Same.thru (linkTo_same ..) rfl ?_
        first | assumption | exact Same.refl _ _
      clear_value x1
      refine Same.thru (settleNet_same ..) rfl ?_
      refine Same.foldl (fun r3 e4 h5 => ?_) ?_
      · extract_lets -merge -underBinder -useContext +onlyGivenNames x6
        refine Same.ite ?_ ?_
        · first | assumption | exact Same.refl _ _
        · refine Same.thru (resend_same ..) rfl ?_
          first | assumption | exact Same.refl _ _
      · first | assumption | exact Same.refl _ _
    · refine Same.thru (retrainFailed_same ..) rfl ?_
      first | assumption | exact Same.refl _ _

theorem doTrainingBound_same : ∀ a0 s0, Same 18137474814992310 s0 (doTrainingBound a0 s0) := by
  intro a0 s0
  unfold doTrainingBound
  extract_lets -merge -underBinder -useContext +onlyGivenNames x1
  refine Same.ite ?_ ?_
  · refine Same.thru (failLink_same ..) rfl ?_
    refine Same.thru (advanceTo_same ..) rfl ?_
    first | assumption | exact Same.refl _ _
  · refine Same.ite ?_ ?_
    · refine Same.thru (retrainFailed_same ..) rfl ?_
      refine Same.thru (advanceTo_same ..) rfl ?_
      first | assumption | exact Same.refl _ _
    · first | assumption | exact Same.refl _ _

theorem startLinkTest_same : ∀ a0 s0, Same 33554432 s0 (startLinkTest a0 s0) := by
  intro a0 s0
  unfold startLinkTest
  refine Same.thru (updLink_same ..) rfl ?_
  refine Same.thru (linkTo_same ..) rfl ?_
  first | assumption | exact Same.refl _ _

theorem execFlitReceive_same : ∀ a0 a1 a2 s0 t, execFlitReceive a0 a1 a2 s0 = .next t → Same 18014398576590852 s0 t := by
  intro a0 a1 a2 s0 t ht
  unfold execFlitReceive at ht
  refine Same.next ht ?_
  refine Same.thru (doFlit_same ..) rfl ?_
  first | assumption | exact Same.refl _ _

theorem execReplay_same : ∀ a0 a1 a2 s0 t, execReplay a0 a1 a2 s0 = .next t → Same 18014398610150400 s0 t := by
  intro a0 a1 a2 s0 t ht
  unfold execReplay at ht
  refine Same.next ht ?_
  refine Same.thru (doReplay_same ..) rfl ?_
  first | assumption | exact Same.refl _ _

theorem execFlitReplayTimeout_same : ∀ a0 a1 s0 t, execFlitReplayTimeout a0 a1 s0 = .next t → Same 18014398610150400 s0 t := by
  intro a0 a1 s0 t ht
  unfold execFlitReplayTimeout at ht
  refine Same.next ht ?_
  refine Same.thru (doFlitTimeout_same ..) rfl ?_
  first | assumption | exact Same.refl _ _

theorem execLinkSelfTestDone_same : ∀ a0 a1 a2 a3 s0 t, execLinkSelfTestDone a0 a1 a2 a3 s0 = .next t → Same 18137474815057846 s0 t := by
  intro a0 a1 a2 a3 s0 t ht
  unfold execLinkSelfTestDone at ht
  refine Same.next ht ?_
  refine Same.thru (doSelfTest_same ..) rfl ?_
  first | assumption | exact Same.refl _ _

theorem execPkgLinkTrained_same : ∀ a0 a1 a2 s0 t, execPkgLinkTrained a0 a1 a2 s0 = .next t → Same 18137474814992310 s0 t := by
  intro a0 a1 a2 s0 t ht
  unfold execPkgLinkTrained at ht
  refine Same.next ht ?_
  refine Same.thru (doTrained_same ..) rfl ?_
  first | assumption | exact Same.refl _ _

theorem execPkgLinkRetrainDone_same : ∀ a0 a1 s0 t, execPkgLinkRetrainDone a0 a1 s0 = .next t → Same 18137474814992310 s0 t := by
  intro a0 a1 s0 t ht
  unfold execPkgLinkRetrainDone at ht
  refine Same.next ht ?_
  refine Same.thru (doRetrainDone_same ..) rfl ?_
  first | assumption | exact Same.refl _ _

theorem execPkgLinkTrainingBoundExceeded_same : ∀ a0 s0 t, execPkgLinkTrainingBoundExceeded a0 s0 = .next t → Same 18137474814992310 s0 t := by
  intro a0 s0 t ht
  unfold execPkgLinkTrainingBoundExceeded at ht
  refine Same.next ht ?_
  refine Same.thru (doTrainingBound_same ..) rfl ?_
  first | assumption | exact Same.refl _ _

end Sys2Proof.Machine
end

