-- ==== Sys2Proof/Laws/FrameMemTiers.lean ====
section
/-! SUPPORT. Laws/FrameMemTiers.lean: which fields of the state each operation of Machine/MemTiers.lean may change. -/
namespace Sys2Proof.Machine
open Sys2Proof

theorem failTraining_same : ∀ a0 a1 a2 s0, Same 18014398660501408 s0 (failTraining a0 a1 a2 s0) := by
  intro a0 a1 a2 s0
  unfold failTraining
  extract_lets -merge -underBinder -useContext +onlyGivenNames x1
  have h2 : Same 18014398660501408 s0 x1 := by
    unfold x1
    refine Same.foldl (fun r3 e4 h5 => ?_) ?_
    · refine Same.thru (report_same ..) rfl ?_
      first | assumption | exact Same.refl _ _
    · first | assumption | exact Same.refl _ _
  clear_value x1
  refine Same.thru (failFacet_same ..) rfl ?_
  first | assumption | exact Same.refl _ _

theorem logSpares_same : ∀ a0 a1 s0, Same 4096 s0 (logSpares a0 a1 s0) := by
  intro a0 a1 s0
  unfold logSpares
  refine Same.foldl (fun r1 e2 h3 => ?_) ?_
  · refine Same.thru (report_same ..) rfl ?_
    first | assumption | exact Same.refl _ _
  · first | assumption | exact Same.refl _ _

theorem doNearTrained_same : ∀ a0 a1 s0, Same 18014398661025696 s0 (doNearTrained a0 a1 s0) := by
  intro a0 a1 s0
  unfold doNearTrained
  refine Same.ite ?_ ?_
  · first | assumption | exact Same.refl _ _
  · extract_lets -merge -underBinder -useContext +onlyGivenNames x1 x2
    refine Same.ite ?_ ?_
    · refine Same.thru (logSpares_same ..) rfl ?_
      refine Same.thru (updCd_same ..) rfl ?_
      first | assumption | exact Same.refl _ _
    · refine Same.thru (failTraining_same ..) rfl ?_
      refine Same.thru (updCd_same ..) rfl ?_
      first | assumption | exact Same.refl _ _

theorem doNearZeroed_same : ∀ a0 s0, Same 524288 s0 (doNearZeroed a0 s0) := by
  intro a0 s0
  unfold doNearZeroed
  refine Same.ite ?_ ?_
  · first | assumption | exact Same.refl _ _
  · extract_lets -merge -underBinder -useContext +onlyGivenNames x1
    refine Same.thru (updCd_same ..) rfl ?_
    first | assumption | exact Same.refl _ _

theorem doFarTrained_same : ∀ a0 a1 s0, Same 18014398661549984 s0 (doFarTrained a0 a1 s0) := by
  intro a0 a1 s0
  unfold doFarTrained
  refine Same.ite ?_ ?_
  · first | assumption | exact Same.refl _ _
  · extract_lets -merge -underBinder -useContext +onlyGivenNames x1 x2
    refine Same.ite ?_ ?_
    · refine Same.thru (logSpares_same ..) rfl ?_
      refine Same.thru (updFd_same ..) rfl ?_
      first | assumption | exact Same.refl _ _
    · refine Same.thru (failTraining_same ..) rfl ?_
      refine Same.thru (updFd_same ..) rfl ?_
      first | assumption | exact Same.refl _ _

theorem openWindow_same : ∀ a0 a1 s0, Same 1048576 s0 (openWindow a0 a1 s0) := by
  intro a0 a1 s0
  unfold openWindow
  extract_lets -merge -underBinder -useContext +onlyGivenNames x1 x2 x3 x4
  refine Same.thru (updFd_same ..) rfl ?_
  first | assumption | exact Same.refl _ _

theorem doFarZeroed_same : ∀ a0 s0, Same 1048576 s0 (doFarZeroed a0 s0) := by
  intro a0 s0
  unfold doFarZeroed
  refine Same.ite ?_ ?_
  · first | assumption | exact Same.refl _ _
  · extract_lets -merge -underBinder -useContext +onlyGivenNames x1 x2
    refine Same.thru (openWindow_same ..) rfl ?_
    refine Same.thru (updFd_same ..) rfl ?_
    first | assumption | exact Same.refl _ _

theorem doFarWindow_same : ∀ a0 s0, Same 1048578 s0 (doFarWindow a0 s0) := by
  intro a0 s0
  unfold doFarWindow
  extract_lets -merge -underBinder -useContext +onlyGivenNames x1
  refine Same.ite ?_ ?_
  · first | assumption | exact Same.refl _ _
  · refine Same.thru (openWindow_same ..) rfl ?_
    refine Same.thru (advanceTo_same ..) rfl ?_
    first | assumption | exact Same.refl _ _

theorem takeSpare_same : ∀ a0 s0, Same 528384 s0 (takeSpare a0 s0) := by
  intro a0 s0
  unfold takeSpare
  split
  · first | assumption | exact Same.refl _ _
  · refine Same.thru (report_same ..) rfl ?_
    refine Same.thru (updCd_same ..) rfl ?_
    first | assumption | exact Same.refl _ _

theorem recheck_same : ∀ a0 a1 s0, Same 529408 s0 (recheck a0 a1 s0) := by
  intro a0 a1 s0
  unfold recheck
  extract_lets -merge -underBinder -useContext +onlyGivenNames x1 x2 x3 x4 x5 x6
  have h7 : Same 529408 s0 x6 := by
    unfold x6
    refine Same.thru (updCd_same ..) rfl ?_
    first | assumption | exact Same.refl _ _
  clear_value x6
  refine Same.foldl (fun r8 e9 h10 => ?_) ?_
  · refine Same.thru (report_same ..) rfl ?_
    first | assumption | exact Same.refl _ _
  · refine Same.thru (sendWord_same ..) rfl ?_
    first | assumption | exact Same.refl _ _

theorem doRefreshWindow_same : ∀ a0 a1 s0, Same 6442996742 s0 (doRefreshWindow a0 a1 s0) := by
  intro a0 a1 s0
  unfold doRefreshWindow
  extract_lets -merge -underBinder -useContext +onlyGivenNames x1
  refine Same.ite ?_ ?_
  · first | assumption | exact Same.refl _ _
  · extract_lets -merge -underBinder -useContext +onlyGivenNames x2 x3
    have h4 : Same 6442996742 s0 x2 := by
      unfold x2
      refine Same.thru (toCycle_same ..) rfl ?_
      first | assumption | exact Same.refl _ _
    clear_value x2
    have h5 : Same 6442996742 s0 x3 := by
      unfold x3
      refine Same.thru (updFacet_same ..) rfl ?_
      first | assumption | exact Same.refl _ _
    clear_value x3
    refine Same.foldl (fun r6 e7 h8 => ?_) ?_
    · refine Same.ite ?_ ?_
      · first | assumption | exact Same.refl _ _
      · extract_lets -merge -underBinder -useContext +onlyGivenNames x9
        have h10 : Same 6442996742 s0 x9 := by
          unfold x9
          refine Same.thru (takeSpare_same ..) rfl ?_
          first | assumption | exact Same.refl _ _
        clear_value x9
        refine Same.ite ?_ ?_
        · refine Same.thru (recheck_same ..) rfl ?_
          first | assumption | exact Same.refl _ _
        · first | assumption | exact Same.refl _ _
    · first | assumption | exact Same.refl _ _

theorem doDebt_same : ∀ a0 s0, Same 529410 s0 (doDebt a0 s0) := by
  intro a0 s0
  unfold doDebt
  extract_lets -merge -underBinder -useContext +onlyGivenNames x1
  refine Same.ite ?_ ?_
  · first | assumption | exact Same.refl _ _
  · extract_lets -merge -underBinder -useContext +onlyGivenNames x2 x3
    have h4 : Same 529410 s0 x3 := by
      unfold x3
      refine Same.thru (updCd_same ..) rfl ?_
      refine Same.thru (Same.put_time _ _) rfl ?_
      first | assumption | exact Same.refl _ _
    clear_value x3
    refine Same.ite ?_ ?_
    · refine Same.thru (bump_same ..) rfl ?_
      refine Same.thru (report_same ..) rfl ?_
      first | assumption | exact Same.refl _ _
    · first | assumption | exact Same.refl _ _

theorem doRowGroup_same : ∀ a0 s0, Same 6442996742 s0 (doRowGroup a0 s0) := by
  intro a0 s0
  unfold doRowGroup
  extract_lets -merge -underBinder -useContext +onlyGivenNames x1 x2
  have h3 : Same 6442996742 s0 x1 := by
    unfold x1
    refine Same.thru (Same.put_time _ _) rfl ?_
    first | assumption | exact Same.refl _ _
  clear_value x1
  have h4 : Same 6442996742 s0 x2 := by
    unfold x2
    refine Same.foldl (fun r5 e6 h7 => ?_) ?_
    · refine Same.thru (syncFacet_same ..) rfl ?_
      first | assumption | exact Same.refl _ _
    · first | assumption | exact Same.refl _ _
  clear_value x2
  refine Same.ite ?_ ?_
  · extract_lets -merge -underBinder -useContext +onlyGivenNames x8
    refine Same.thru (sendWord_same ..) rfl ?_
    refine Same.thru (updCd_same ..) rfl ?_
    first | assumption | exact Same.refl _ _
  · first | assumption | exact Same.refl _ _

theorem doMargin_same : ∀ a0 a1 a2 s0, Same 1053696 s0 (doMargin a0 a1 a2 s0) := by
  intro a0 a1 a2 s0
  unfold doMargin
  extract_lets -merge -underBinder -useContext +onlyGivenNames x1
  refine Same.ite ?_ ?_
  · first | assumption | exact Same.refl _ _
  · extract_lets -merge -underBinder -useContext +onlyGivenNames x2 x3 x4 x5 x6
    have h7 : Same 1053696 s0 x6 := by
      unfold x6
      refine Same.thru (updFd_same ..) rfl ?_
      first | assumption | exact Same.refl _ _
    clear_value x6
    refine Same.ite ?_ ?_
    · first | assumption | exact Same.refl _ _
    · refine Same.foldl (fun r8 e9 h10 => ?_) ?_
      · refine Same.thru (report_same ..) rfl ?_
        first | assumption | exact Same.refl _ _
      · refine Same.thru (blobSet_same ..) rfl ?_
        first | assumption | exact Same.refl _ _

theorem doWriteback_same : ∀ a0 s0, Same 1073741824 s0 (doWriteback a0 s0) := by
  intro a0 s0
  unfold doWriteback
  refine Same.ite ?_ ?_
  · refine Same.thru (Same.put_ecc _ _ (fun h => wf_tdel h)) rfl ?_
    first | assumption | exact Same.refl _ _
  · first | assumption | exact Same.refl _ _

theorem doEvict_same : ∀ a0 s0, Same 137438953474 s0 (doEvict a0 s0) := by
  intro a0 s0
  unfold doEvict
  extract_lets -merge -underBinder -useContext +onlyGivenNames x1
  refine Same.ite ?_ ?_
  · first | assumption | exact Same.refl _ _
  · refine Same.thru (advanceTo_same ..) rfl ?_
    refine Same.thru (Same.put_ubuf _ _ (fun h => wf_tdel h)) rfl ?_
    first | assumption | exact Same.refl _ _

theorem doScrub_same : ∀ a0 s0, Same 1074795522 s0 (doScrub a0 s0) := by
  intro a0 s0
  unfold doScrub
  refine Same.ite ?_ ?_
  · first | assumption | exact Same.refl _ _
  · extract_lets -merge -underBinder -useContext +onlyGivenNames x1 x2 x3 x4 x5 x6 x7 x8
    have h9 : Same 1074795522 s0 x1 := by
      unfold x1
      refine Same.thru (advanceTo_same ..) rfl ?_
      first | assumption | exact Same.refl _ _
    clear_value x1
    have h10 : Same 1074795522 s0 x3 := by
      unfold x3
      refine Same.thru (updFd_same ..) rfl ?_
      first | assumption | exact Same.refl _ _
    clear_value x3
    have h11 : Same 1074795522 s0 x6 := by
      unfold x6
      refine Same.thru (farClass_same ..) rfl ?_
      first | assumption | exact Same.refl _ _
    clear_value x6
    have h12 : Same 1074795522 s0 x7 := by
      unfold x7
      refine Same.ite ?_ ?_
      · first | assumption | exact Same.refl _ _
      · refine Same.thru (bump_same ..) rfl ?_
        first | assumption | exact Same.refl _ _
    clear_value x7
    have h13 : Same 1074795522 s0 x8 := by
      unfold x8
      refine Same.thru (Same.put_ecc _ _ (fun h => wf_foldl (fun _ _ k => wf_tdel k) (h))) rfl ?_
      first | assumption | exact Same.refl _ _
    clear_value x8
    refine Same.foldl (fun r14 e15 h16 => ?_) ?_
    · refine Same.thru (report_same ..) rfl ?_
      first | assumption | exact Same.refl _ _
    · first | assumption | exact Same.refl _ _

theorem execNearTrainingDone_same : ∀ a0 a1 s0 t, execNearTrainingDone a0 a1 s0 = .next t → Same 18014398661025696 s0 t := by
  intro a0 a1 s0 t ht
  unfold execNearTrainingDone at ht
  refine Same.next ht ?_
  refine Same.thru (doNearTrained_same ..) rfl ?_
  first | assumption | exact Same.refl _ _

theorem execNearZeroingDone_same : ∀ a0 s0 t, execNearZeroingDone a0 s0 = .next t → Same 524288 s0 t := by
  intro a0 s0 t ht
  unfold execNearZeroingDone at ht
  refine Same.next ht ?_
  refine Same.thru (doNearZeroed_same ..) rfl ?_
  first | assumption | exact Same.refl _ _

theorem execFarTrainingDone_same : ∀ a0 a1 s0 t, execFarTrainingDone a0 a1 s0 = .next t → Same 18014398661549984 s0 t := by
  intro a0 a1 s0 t ht
  unfold execFarTrainingDone at ht
  refine Same.next ht ?_
  refine Same.thru (doFarTrained_same ..) rfl ?_
  first | assumption | exact Same.refl _ _

theorem execFarZeroingDone_same : ∀ a0 s0 t, execFarZeroingDone a0 s0 = .next t → Same 1048576 s0 t := by
  intro a0 s0 t ht
  unfold execFarZeroingDone at ht
  refine Same.next ht ?_
  refine Same.thru (doFarZeroed_same ..) rfl ?_
  first | assumption | exact Same.refl _ _

theorem execEccWriteback_same : ∀ a0 s0 t, execEccWriteback a0 s0 = .next t → Same 1073741824 s0 t := by
  intro a0 s0 t ht
  unfold execEccWriteback at ht
  refine Same.next ht ?_
  refine Same.thru (doWriteback_same ..) rfl ?_
  first | assumption | exact Same.refl _ _

theorem execRefreshWindowStart_same : ∀ a0 a1 s0 t, execRefreshWindowStart a0 a1 s0 = .next t → Same 6442996742 s0 t := by
  intro a0 a1 s0 t ht
  unfold execRefreshWindowStart at ht
  refine Same.next ht ?_
  refine Same.thru (doRefreshWindow_same ..) rfl ?_
  first | assumption | exact Same.refl _ _

theorem execRefreshDebtAccrue_same : ∀ a0 s0 t, execRefreshDebtAccrue a0 s0 = .next t → Same 529410 s0 t := by
  intro a0 s0 t ht
  unfold execRefreshDebtAccrue at ht
  refine Same.next ht ?_
  refine Same.thru (doDebt_same ..) rfl ?_
  first | assumption | exact Same.refl _ _

theorem execRowGroupRefresh_same : ∀ a0 s0 t, execRowGroupRefresh a0 s0 = .next t → Same 6442996742 s0 t := by
  intro a0 s0 t ht
  unfold execRowGroupRefresh at ht
  refine Same.next ht ?_
  refine Same.thru (doRowGroup_same ..) rfl ?_
  first | assumption | exact Same.refl _ _

theorem execFarPriorityWindow_same : ∀ a0 s0 t, execFarPriorityWindow a0 s0 = .next t → Same 1048578 s0 t := by
  intro a0 s0 t ht
  unfold execFarPriorityWindow at ht
  refine Same.next ht ?_
  refine Same.thru (doFarWindow_same ..) rfl ?_
  first | assumption | exact Same.refl _ _

theorem execFarLaneMarginCheck_same : ∀ a0 a1 a2 s0 t, execFarLaneMarginCheck a0 a1 a2 s0 = .next t → Same 1053696 s0 t := by
  intro a0 a1 a2 s0 t ht
  unfold execFarLaneMarginCheck at ht
  refine Same.next ht ?_
  refine Same.thru (doMargin_same ..) rfl ?_
  first | assumption | exact Same.refl _ _

theorem execUpdateBufferEvict_same : ∀ a0 s0 t, execUpdateBufferEvict a0 s0 = .next t → Same 137438953474 s0 t := by
  intro a0 s0 t ht
  unfold execUpdateBufferEvict at ht
  refine Same.next ht ?_
  refine Same.thru (doEvict_same ..) rfl ?_
  first | assumption | exact Same.refl _ _

theorem execFarScrub_same : ∀ a0 s0 t, execFarScrub a0 s0 = .next t → Same 1074795522 s0 t := by
  intro a0 s0 t ht
  unfold execFarScrub at ht
  refine Same.next ht ?_
  refine Same.thru (doScrub_same ..) rfl ?_
  first | assumption | exact Same.refl _ _

end Sys2Proof.Machine
end

