-- ==== Sys2Proof/Laws/FramePkgPacket.lean ====
section
/-! SUPPORT. Laws/FramePkgPacket.lean: which fields of the state each operation of Machine/PkgPacket.lean may change. -/
namespace Sys2Proof.Machine
open Sys2Proof

theorem engData_same : ∀ a0 a1 a2 a3 a4 a5 s0, Same 18155066967482294 s0 (engData a0 a1 a2 a3 a4 a5 s0).s := by
  intro a0 a1 a2 a3 a4 a5 s0
  unfold engData
  extract_lets -merge -underBinder -useContext +onlyGivenNames x1 x2
  have h3 : Same 18155066967482294 s0 x2.s := by
    unfold x2
    first | assumption | exact Same.refl _ _
  clear_value x2
  refine Same.iteRun ?_ ?_
  · refine giveData_thru rfl ?_ ?_
    · intro y4 y5 y6 y7 hy8
      split
      · refine Same.thru (remoteDo_same ..) rfl ?_
        first | assumption | exact Same.refl _ _
      · refine Same.thru (chunkDo_same ..) rfl ?_
        first | assumption | exact Same.refl _ _
    · first | assumption | exact Same.refl _ _
  · extract_lets -merge -underBinder -useContext +onlyGivenNames x9
    have h10 : Same 18155066967482294 s0 x9.s := by
      unfold x9
      refine Same.iteRun ?_ ?_
      · refine Same.thru (takeOld_same ..) rfl ?_
        first | assumption | exact Same.refl _ _
      · first | assumption | exact Same.refl _ _
    clear_value x9
    refine Same.iteRun ?_ ?_
    · refine Same.thru (resumePuts_same ..) rfl ?_
      first | assumption | exact Same.refl _ _
    · first | assumption | exact Same.refl _ _

theorem engAnswer_same : ∀ a0 a1 a2 a3 a4 s0, Same 18155066967482294 s0 (engAnswer a0 a1 a2 a3 a4 s0) := by
  intro a0 a1 a2 a3 a4 s0
  unfold engAnswer
  split
  · first | assumption | exact Same.refl _ _
  · extract_lets -merge -underBinder -useContext +onlyGivenNames x1
    refine Same.ite ?_ ?_
    · refine Same.thru (haltFly_same ..) rfl ?_
      first | assumption | exact Same.refl _ _
    · refine Same.ite ?_ ?_
      · extract_lets -merge -underBinder -useContext +onlyGivenNames x2
        refine Same.ite ?_ ?_
        · refine Same.thru (oneLess_same ..) rfl ?_
          first | assumption | exact Same.refl _ _
        · refine Same.thru (haltFly_same ..) rfl ?_
          first | assumption | exact Same.refl _ _
      · extract_lets -merge -underBinder -useContext +onlyGivenNames x3
        have h4 : Same 18155066967482294 s0 x3.s := by
          unfold x3
          refine Same.thru (engData_same ..) rfl ?_
          first | assumption | exact Same.refl _ _
        clear_value x3
        refine Same.ite ?_ ?_
        · refine Same.thru (haltFly_same ..) rfl ?_
          first | assumption | exact Same.refl _ _
        · refine Same.thru (updFly_same ..) rfl ?_
          refine Same.thru (oneLess_same ..) rfl ?_
          first | assumption | exact Same.refl _ _

theorem respond_same : ∀ a0 s0, Same 27584478687289270 s0 (respond a0 s0) := by
  intro a0 s0
  unfold respond
  split
  · rename_i v1 v2 hq3
    have h4 : Same 27584478687289270 s0 v2 := Same.of_eq Prod.snd hq3 (by
      refine Same.thru (takeTxn_same ..) rfl ?_
      first | assumption | exact Same.refl _ _
      )
    first | assumption | exact Same.refl _ _
  · rename_i v5 v6 v7 hq8
    split
    · refine Same.thru (sendAsks_same ..) rfl ?_
      refine Same.thru (engAnswer_same ..) rfl ?_
      have h9 : Same 27584478687289270 s0 v7 := Same.of_eq Prod.snd hq8 (by
        refine Same.thru (takeTxn_same ..) rfl ?_
        first | assumption | exact Same.refl _ _
        )
      first | assumption | exact Same.refl _ _
    · refine Same.thru (termAnswer_same ..) rfl ?_
      have h10 : Same 27584478687289270 s0 v7 := Same.of_eq Prod.snd hq8 (by
        refine Same.thru (takeTxn_same ..) rfl ?_
        first | assumption | exact Same.refl _ _
        )
      first | assumption | exact Same.refl _ _
    · split
      · refine Same.ite ?_ ?_
        · refine Same.thru (landDone_same ..) rfl ?_
          have h11 : Same 27584478687289270 s0 v7 := Same.of_eq Prod.snd hq8 (by
            refine Same.thru (takeTxn_same ..) rfl ?_
            first | assumption | exact Same.refl _ _
            )
          first | assumption | exact Same.refl _ _
        · refine Same.thru (landFail_same ..) rfl ?_
          have h12 : Same 27584478687289270 s0 v7 := Same.of_eq Prod.snd hq8 (by
            refine Same.thru (takeTxn_same ..) rfl ?_
            first | assumption | exact Same.refl _ _
            )
          first | assumption | exact Same.refl _ _
      · have h13 : Same 27584478687289270 s0 v7 := Same.of_eq Prod.snd hq8 (by
          refine Same.thru (takeTxn_same ..) rfl ?_
          first | assumption | exact Same.refl _ _
          )
        first | assumption | exact Same.refl _ _
    · refine Same.thru (collAnswer_same ..) rfl ?_
      have h14 : Same 27584478687289270 s0 v7 := Same.of_eq Prod.snd hq8 (by
        refine Same.thru (takeTxn_same ..) rfl ?_
        first | assumption | exact Same.refl _ _
        )
      first | assumption | exact Same.refl _ _
    · refine Same.thru (xchAnswer_same ..) rfl ?_
      have h15 : Same 27584478687289270 s0 v7 := Same.of_eq Prod.snd hq8 (by
        refine Same.thru (takeTxn_same ..) rfl ?_
        first | assumption | exact Same.refl _ _
        )
      first | assumption | exact Same.refl _ _
    · refine Same.thru (emit_same ..) rfl ?_
      have h16 : Same 27584478687289270 s0 v7 := Same.of_eq Prod.snd hq8 (by
        refine Same.thru (takeTxn_same ..) rfl ?_
        first | assumption | exact Same.refl _ _
        )
      first | assumption | exact Same.refl _ _
    · have h17 : Same 27584478687289270 s0 v7 := Same.of_eq Prod.snd hq8 (by
        refine Same.thru (takeTxn_same ..) rfl ?_
        first | assumption | exact Same.refl _ _
        )
      first | assumption | exact Same.refl _ _

theorem doResponse_same : ∀ a0 s0, Same 27584478687289270 s0 (doResponse a0 s0) := by
  intro a0 s0
  unfold doResponse
  split
  · rename_i v1 hq2
    refine Same.thru (turnAway_same ..) rfl ?_
    first | assumption | exact Same.refl _ _
  · rename_i v3 v4 hq5
    refine Same.ite ?_ ?_
    · first | assumption | exact Same.refl _ _
    · refine Same.thru (respond_same ..) rfl ?_
      have h6 : Same 27584478687289270 s0 v4 := Same.thru (takePkt_same _ _ hq5) rfl (by
        first | assumption | exact Same.refl _ _
        )
      first | assumption | exact Same.refl _ _

theorem hostCtrl_same : ∀ a0 a1 a2 a3 s0, Same 281391158278 s0 (hostCtrl a0 a1 a2 a3 s0) := by
  intro a0 a1 a2 a3 s0
  unfold hostCtrl
  refine Same.ite ?_ ?_
  · refine Same.thru (doSwapRequest_same ..) rfl ?_
    first | assumption | exact Same.refl _ _
  · refine Same.ite ?_ ?_
    · refine Same.thru (doSwapCancel_same ..) rfl ?_
      first | assumption | exact Same.refl _ _
    · refine Same.thru (hostAnswer_same ..) rfl ?_
      first | assumption | exact Same.refl _ _

theorem hostHere_same : ∀ a0 s0, Same 283001771014 s0 (hostHere a0 s0) := by
  intro a0 s0
  unfold hostHere
  split
  split
  · refine Same.ite ?_ ?_
    · refine Same.thru (reply_same ..) rfl ?_
      first | assumption | exact Same.refl _ _
    · refine Same.thru (hostDmem_same ..) rfl ?_
      first | assumption | exact Same.refl _ _
  · refine Same.ite ?_ ?_
    · refine Same.thru (reply_same ..) rfl ?_
      first | assumption | exact Same.refl _ _
    · refine Same.ite ?_ ?_
      · refine Same.thru (hostCtrl_same ..) rfl ?_
        first | assumption | exact Same.refl _ _
      · refine Same.thru (reply_same ..) rfl ?_
        first | assumption | exact Same.refl _ _
  · refine Same.thru (reply_same ..) rfl ?_
    first | assumption | exact Same.refl _ _

theorem doHost_same : ∀ a0 s0, Same 27584478687289270 s0 (doHost a0 s0) := by
  intro a0 s0
  unfold doHost
  split
  · rename_i v1 hq2
    refine Same.thru (turnAway_same ..) rfl ?_
    first | assumption | exact Same.refl _ _
  · rename_i v3 v4 hq5
    refine Same.ite ?_ ?_
    · refine Same.thru (respond_same ..) rfl ?_
      have h6 : Same 27584478687289270 s0 v4 := Same.thru (takePkt_same _ _ hq5) rfl (by
        first | assumption | exact Same.refl _ _
        )
      first | assumption | exact Same.refl _ _
    · refine Same.thru (hostHere_same ..) rfl ?_
      have h7 : Same 27584478687289270 s0 v4 := Same.thru (takePkt_same _ _ hq5) rfl (by
        first | assumption | exact Same.refl _ _
        )
      first | assumption | exact Same.refl _ _

theorem doMgmtPkg_same : ∀ a0 s0, Same 275082384384 s0 (doMgmtPkg a0 s0) := by
  intro a0 s0
  unfold doMgmtPkg
  refine Same.ite ?_ ?_
  · refine Same.thru (arrive_same ..) rfl ?_
    first | assumption | exact Same.refl _ _
  · refine Same.thru (turnAway_same ..) rfl ?_
    first | assumption | exact Same.refl _ _

theorem doReservedPop_same : ∀ a0 a1 s0, Same 274948166656 s0 (doReservedPop a0 a1 s0) := by
  intro a0 a1 s0
  unfold doReservedPop
  refine Same.ite ?_ ?_
  · first | assumption | exact Same.refl _ _
  · refine Same.thru (report_same ..) rfl ?_
    refine Same.thru (arrive_same ..) rfl ?_
    first | assumption | exact Same.refl _ _

theorem execRd_same : ∀ a0 s0 t, execRd a0 s0 = .next t → Same 18014717632585632 s0 t := by
  intro a0 s0 t ht
  unfold execRd at ht
  refine Same.next ht ?_
  refine Same.thru (doRd_same ..) rfl ?_
  first | assumption | exact Same.refl _ _

theorem execWr_same : ∀ a0 a1 s0 t, execWr a0 a1 s0 = .next t → Same 18014879230746534 s0 t := by
  intro a0 a1 s0 t ht
  unfold execWr at ht
  refine Same.next ht ?_
  refine Same.thru (doWr_same ..) rfl ?_
  first | assumption | exact Same.refl _ _

theorem execSigAdd_same : ∀ a0 s0 t, execSigAdd a0 s0 = .next t → Same 281525359620 s0 t := by
  intro a0 s0 t ht
  unfold execSigAdd at ht
  refine Same.next ht ?_
  refine Same.thru (doSig_same ..) rfl ?_
  first | assumption | exact Same.refl _ _

theorem execSigSet_same : ∀ a0 s0 t, execSigSet a0 s0 = .next t → Same 281525359620 s0 t := by
  intro a0 s0 t ht
  unfold execSigSet at ht
  refine Same.next ht ?_
  refine Same.thru (doSig_same ..) rfl ?_
  first | assumption | exact Same.refl _ _

theorem execAtAdd_same : ∀ a0 s0 t, execAtAdd a0 s0 = .next t → Same 18014879230746534 s0 t := by
  intro a0 s0 t ht
  unfold execAtAdd at ht
  refine Same.next ht ?_
  refine Same.thru (doAtomic_same ..) rfl ?_
  first | assumption | exact Same.refl _ _

theorem execAtMin_same : ∀ a0 s0 t, execAtMin a0 s0 = .next t → Same 18014879230746534 s0 t := by
  intro a0 s0 t ht
  unfold execAtMin at ht
  refine Same.next ht ?_
  refine Same.thru (doAtomic_same ..) rfl ?_
  first | assumption | exact Same.refl _ _

theorem execAtMax_same : ∀ a0 s0 t, execAtMax a0 s0 = .next t → Same 18014879230746534 s0 t := by
  intro a0 s0 t ht
  unfold execAtMax at ht
  refine Same.next ht ?_
  refine Same.thru (doAtomic_same ..) rfl ?_
  first | assumption | exact Same.refl _ _

theorem execAtSwap_same : ∀ a0 s0 t, execAtSwap a0 s0 = .next t → Same 18014879230746534 s0 t := by
  intro a0 s0 t ht
  unfold execAtSwap at ht
  refine Same.next ht ?_
  refine Same.thru (doAtomic_same ..) rfl ?_
  first | assumption | exact Same.refl _ _

theorem execAtCas_same : ∀ a0 s0 t, execAtCas a0 s0 = .next t → Same 18014879230746534 s0 t := by
  intro a0 s0 t ht
  unfold execAtCas at ht
  refine Same.next ht ?_
  refine Same.thru (doAtomic_same ..) rfl ?_
  first | assumption | exact Same.refl _ _

theorem execRdRsp_same : ∀ a0 s0 t, execRdRsp a0 s0 = .next t → Same 27584478687289270 s0 t := by
  intro a0 s0 t ht
  unfold execRdRsp at ht
  refine Same.next ht ?_
  refine Same.thru (doResponse_same ..) rfl ?_
  first | assumption | exact Same.refl _ _

theorem execWrAck_same : ∀ a0 s0 t, execWrAck a0 s0 = .next t → Same 27584478687289270 s0 t := by
  intro a0 s0 t ht
  unfold execWrAck at ht
  refine Same.next ht ?_
  refine Same.thru (doResponse_same ..) rfl ?_
  first | assumption | exact Same.refl _ _

theorem execAtRsp_same : ∀ a0 s0 t, execAtRsp a0 s0 = .next t → Same 27584478687289270 s0 t := by
  intro a0 s0 t ht
  unfold execAtRsp at ht
  refine Same.next ht ?_
  refine Same.thru (doResponse_same ..) rfl ?_
  first | assumption | exact Same.refl _ _

theorem execArrAdd_same : ∀ a0 s0 t, execArrAdd a0 s0 = .next t → Same 281525359620 s0 t := by
  intro a0 s0 t ht
  unfold execArrAdd at ht
  refine Same.next ht ?_
  refine Same.thru (doArrAdd_same ..) rfl ?_
  first | assumption | exact Same.refl _ _

theorem execHost_same : ∀ a0 s0 t, execHost a0 s0 = .next t → Same 27584478687289270 s0 t := by
  intro a0 s0 t ht
  unfold execHost at ht
  refine Same.next ht ?_
  refine Same.thru (doHost_same ..) rfl ?_
  first | assumption | exact Same.refl _ _

theorem execMgmt_same : ∀ a0 s0 t, execMgmt a0 s0 = .next t → Same 275082384384 s0 t := by
  intro a0 s0 t ht
  unfold execMgmt at ht
  refine Same.next ht ?_
  refine Same.thru (doMgmtPkg_same ..) rfl ?_
  first | assumption | exact Same.refl _ _

theorem execPkgReservedOp_same : ∀ a0 a1 s0 t, execPkgReservedOp a0 a1 s0 = .next t → Same 274948166656 s0 t := by
  intro a0 a1 s0 t ht
  unfold execPkgReservedOp at ht
  refine Same.next ht ?_
  refine Same.thru (doReservedPop_same ..) rfl ?_
  first | assumption | exact Same.refl _ _

end Sys2Proof.Machine
end

