-- ==== Sys2Proof/Laws/FrameErrLog.lean ====
section
/-! SUPPORT. Laws/FrameErrLog.lean: which fields of the state each operation of Machine/ErrLog.lean may change. -/
namespace Sys2Proof.Machine
open Sys2Proof

theorem openEntry_same : ∀ a0 s0, Same 18014398526263328 s0 (openEntry a0 s0) := by
  intro a0 s0
  unfold openEntry
  extract_lets -merge -underBinder -useContext +onlyGivenNames x1 x2 x3 x4 x5
  refine Same.thru (msix_same ..) rfl ?_
  refine Same.thru (Same.put_elog _ _ (LogSt.wf_mk id id id id id id (fun h => wf_tset h) (fun h => wf_tdel h))) rfl ?_
  first | assumption | exact Same.refl _ _

theorem takeReport_same : ∀ a0 s0, Same 18014398526263328 s0 (takeReport a0 s0) := by
  intro a0 s0
  unfold takeReport
  split
  · refine Same.thru (Same.put_elog _ _ (LogSt.wf_mk id id id id id id id id)) rfl ?_
    first | assumption | exact Same.refl _ _
  · refine Same.ite ?_ ?_
    · refine Same.thru (openEntry_same ..) rfl ?_
      first | assumption | exact Same.refl _ _
    · refine Same.thru (Same.put_elog _ _ (LogSt.wf_mk id id id id id id id id)) rfl ?_
      first | assumption | exact Same.refl _ _

theorem doDelivery_same : ∀ a0 a1 s0, Same 18014398526263328 s0 (doDelivery a0 a1 s0) := by
  intro a0 a1 s0
  unfold doDelivery
  extract_lets -merge -underBinder -useContext +onlyGivenNames x1
  refine Same.ite ?_ ?_
  · first | assumption | exact Same.refl _ _
  · extract_lets -merge -underBinder -useContext +onlyGivenNames x2 x3 x4 x5 x6 x7 x8
    extract_lets -merge -underBinder -useContext +onlyGivenNames x9
    have h10 : Same 18014398526263328 s0 x9 := by
      unfold x9
      refine Same.thru (Same.put_elog _ _ (LogSt.wf_mk (fun h => wf_tset h) id (fun h => wf_tdel h) id (fun h => wf_tset h) (fun h => wf_tset h) id id)) rfl ?_
      first | assumption | exact Same.refl _ _
    clear_value x9
    refine Same.foldl (fun r11 e12 h13 => ?_) ?_
    · refine Same.thru (takeReport_same ..) rfl ?_
      first | assumption | exact Same.refl _ _
    · first | assumption | exact Same.refl _ _

theorem doClose_same : ∀ a0 s0, Same 18014398526263330 s0 (doClose a0 s0) := by
  intro a0 s0
  unfold doClose
  split
  · first | assumption | exact Same.refl _ _
  · extract_lets -merge -underBinder -useContext +onlyGivenNames x1 x2 x3 x4 x5
    have h6 : Same 18014398526263330 s0 x1 := by
      unfold x1
      refine Same.thru (advanceTo_same ..) rfl ?_
      first | assumption | exact Same.refl _ _
    clear_value x1
    extract_lets -merge -underBinder -useContext +onlyGivenNames x7
    have h8 : Same 18014398526263330 s0 x7 := by
      unfold x7
      refine Same.thru (Same.put_elog _ _ (LogSt.wf_mk id id id id id id (fun h => wf_ite (wf_tset h) (h)) id)) rfl ?_
      first | assumption | exact Same.refl _ _
    clear_value x7
    refine Same.foldl (fun r9 e10 h11 => ?_) ?_
    · refine Same.thru (takeReport_same ..) rfl ?_
      first | assumption | exact Same.refl _ _
    · first | assumption | exact Same.refl _ _

theorem doDropPoll_same : ∀ s0, Same 4098 s0 (doDropPoll s0) := by
  intro s0
  unfold doDropPoll
  extract_lets -merge -underBinder -useContext +onlyGivenNames x1 x2 x3 x4
  have h1 : Same 4098 s0 x1 := by
    unfold x1
    exact Same.thru (advanceTo_same ..) rfl (Same.refl _ _)
  clear_value x1
  have h3 : Same 4098 s0 x3 := by
    unfold x3
    exact Same.thru (Same.put_elog _ _ (LogSt.wf_mk id id id id id id id id)) rfl h1
  clear_value x3
  clear_value x4
  refine Same.thru (Same.put_elog _ _ fun h => ?_) rfl h3
  refine LogSt.wf_mk (x := x3.elog) id id id (fun _ => ?_) id id id id h
  simp only [LogSt.wf, Bool.and_eq_true, and_assoc] at h
  exact h.2.1

theorem markRead_same : ∀ a0 a1 s0, Same 4096 s0 (markRead a0 a1 s0) := by
  intro a0 a1 s0
  unfold markRead
  extract_lets -merge -underBinder -useContext +onlyGivenNames x1 x2
  refine Same.thru (Same.put_elog _ _ (LogSt.wf_mk id id id id id id id (fun h => wf_foldl (fun _ _ k => wf_ite (k) (wf_tset k)) (h)))) rfl ?_
  first | assumption | exact Same.refl _ _

theorem execLogDelivery_same : ∀ a0 a1 s0 t, execLogDelivery a0 a1 s0 = .next t → Same 18014398526263328 s0 t := by
  intro a0 a1 s0 t ht
  unfold execLogDelivery at ht
  refine Same.next ht ?_
  refine Same.thru (doDelivery_same ..) rfl ?_
  first | assumption | exact Same.refl _ _

theorem execLogEntryClose_same : ∀ a0 s0 t, execLogEntryClose a0 s0 = .next t → Same 18014398526263330 s0 t := by
  intro a0 s0 t ht
  unfold execLogEntryClose at ht
  refine Same.next ht ?_
  refine Same.thru (doClose_same ..) rfl ?_
  first | assumption | exact Same.refl _ _

theorem execLogDropPoll_same : ∀ s0 t, execLogDropPoll s0 = .next t → Same 4098 s0 t := by
  intro s0 t ht
  unfold execLogDropPoll at ht
  refine Same.next ht ?_
  refine Same.thru (doDropPoll_same ..) rfl ?_
  first | assumption | exact Same.refl _ _

end Sys2Proof.Machine
end

