-- ==== Sys2Proof/Laws/FrameAttest.lean ====
section
/-! SUPPORT. Laws/FrameAttest.lean: which fields of the state each operation of Machine/Attest.lean may change. -/
namespace Sys2Proof.Machine
open Sys2Proof

theorem commitImage_same : ∀ a0 a1 s0, Same 128 s0 (commitImage a0 a1 s0) := by
  intro a0 a1 s0
  unfold commitImage
  split
  · refine Same.thru (Same.put_flash _ _ (FlashSt.wf_mk id id)) rfl ?_
    first | assumption | exact Same.refl _ _
  · refine Same.thru (Same.put_flash _ _ (FlashSt.wf_mk id id)) rfl ?_
    first | assumption | exact Same.refl _ _
  · refine Same.ite ?_ ?_
    · refine Same.thru (Same.put_flash _ _ (FlashSt.wf_mk id id)) rfl ?_
      first | assumption | exact Same.refl _ _
    · refine Same.thru (Same.put_flash _ _ (FlashSt.wf_mk id id)) rfl ?_
      first | assumption | exact Same.refl _ _

end Sys2Proof.Machine
end

