-- ==== Sys2Proof/Laws/FrameLanes.lean ====
section
/-! SUPPORT. Laws/FrameLanes.lean: which fields of the state each operation of Machine/Lanes.lean may change. -/
namespace Sys2Proof.Machine
open Sys2Proof

theorem oeTo_same : ∀ a0 a1 s0, Same 4194304 s0 (oeTo a0 a1 s0) := by
  intro a0 a1 s0
  unfold oeTo
  extract_lets -merge -underBinder -useContext +onlyGivenNames x1
  refine Same.thru (updOe_same ..) rfl ?_
  first | assumption | exact Same.refl _ _

theorem linkEntry_same : ∀ a0 s0, Same 18014398526263200 s0 (linkEntry a0 s0) := by
  intro a0 s0
  unfold linkEntry
  extract_lets -merge -underBinder -useContext +onlyGivenNames x1
  refine Same.thru (journal_same ..) rfl ?_
  first | assumption | exact Same.refl _ _

theorem goDown_same : ∀ a0 a1 a2 s0, Same 18014398664679328 s0 (goDown a0 a1 a2 s0) := by
  intro a0 a1 a2 s0
  unfold goDown
  extract_lets -merge -underBinder -useContext +onlyGivenNames x1 x2
  have h3 : Same 18014398664679328 s0 x1 := by
    unfold x1
    refine Same.thru (updOe_same ..) rfl ?_
    refine Same.thru (oeTo_same ..) rfl ?_
    first | assumption | exact Same.refl _ _
  clear_value x1
  have h4 : Same 18014398664679328 s0 x2 := by
    unfold x2
    refine Same.thru (report_same ..) rfl ?_
    refine Same.thru (numSet_same ..) rfl ?_
    first | assumption | exact Same.refl _ _
  clear_value x2
  refine Same.thru (dropDrain_same ..) rfl ?_
  refine Same.thru (linkEntry_same ..) rfl ?_
  first | assumption | exact Same.refl _ _

theorem goRelock_same : ∀ a0 a1 s0, Same 4199424 s0 (goRelock a0 a1 s0) := by
  intro a0 a1 s0
  unfold goRelock
  refine Same.ite ?_ ?_
  · first | assumption | exact Same.refl _ _
  · extract_lets -merge -underBinder -useContext +onlyGivenNames x1
    have h2 : Same 4199424 s0 x1 := by
      unfold x1
      refine Same.thru (updOe_same ..) rfl ?_
      refine Same.thru (oeTo_same ..) rfl ?_
      first | assumption | exact Same.refl _ _
    clear_value x1
    refine Same.thru (report_same ..) rfl ?_
    refine Same.thru (bump_same ..) rfl ?_
    first | assumption | exact Same.refl _ _

theorem relockRings_same : ∀ a0 s0, Same 4194308 s0 (relockRings a0 s0) := by
  intro a0 s0
  unfold relockRings
  extract_lets -merge -underBinder -useContext +onlyGivenNames x1
  refine Same.thru (updOe_same ..) rfl ?_
  refine Same.thru (Same.put_free _ _) rfl ?_
  first | assumption | exact Same.refl _ _

theorem goRingLock_same : ∀ a0 s0, Same 4194308 s0 (goRingLock a0 s0) := by
  intro a0 s0
  unfold goRingLock
  refine Same.thru (updOe_same ..) rfl ?_
  refine Same.thru (oeTo_same ..) rfl ?_
  refine Same.thru (relockRings_same ..) rfl ?_
  first | assumption | exact Same.refl _ _

theorem forgetRoom_same : ∀ a0 s0, Same 4194304 s0 (forgetRoom a0 s0) := by
  intro a0 s0
  unfold forgetRoom
  refine Same.foldl (fun r1 e2 h3 => ?_) ?_
  · refine Same.thru (updOe_same ..) rfl ?_
    first | assumption | exact Same.refl _ _
  · first | assumption | exact Same.refl _ _

theorem measureEff_same : ∀ a0 a1 a2 a3 s0, Same 4194308 s0 (measureEff a0 a1 a2 a3 s0) := by
  intro a0 a1 a2 a3 s0
  unfold measureEff
  extract_lets -merge -underBinder -useContext +onlyGivenNames x1
  refine Same.thru (updOe_same ..) rfl ?_
  refine Same.thru (Same.put_free _ _) rfl ?_
  first | assumption | exact Same.refl _ _

theorem measureRing_same : ∀ a0 a1 a2 a3 s0, Same 4194308 s0 (measureRing a0 a1 a2 a3 s0) := by
  intro a0 a1 a2 a3 s0
  unfold measureRing
  extract_lets -merge -underBinder -useContext +onlyGivenNames x1
  refine Same.thru (measureEff_same ..) rfl ?_
  refine Same.thru (updOe_same ..) rfl ?_
  refine Same.thru (Same.put_free _ _) rfl ?_
  first | assumption | exact Same.refl _ _

theorem stepHeater_same : ∀ a0 a1 a2 a3 a4 s0, Same 4194304 s0 (stepHeater a0 a1 a2 a3 a4 s0) := by
  intro a0 a1 a2 a3 a4 s0
  unfold stepHeater
  refine Same.thru (updOe_same ..) rfl ?_
  first | assumption | exact Same.refl _ _

theorem recentre_same : ∀ a0 a1 a2 a3 s0, Same 4195328 s0 (recentre a0 a1 a2 a3 s0) := by
  intro a0 a1 a2 a3 s0
  unfold recentre
  refine Same.thru (bump_same ..) rfl ?_
  refine Same.thru (stepHeater_same ..) rfl ?_
  first | assumption | exact Same.refl _ _

theorem goActive_same : ∀ a0 a1 s0, Same 18137474781437878 s0 (goActive a0 a1 s0) := by
  intro a0 a1 s0
  unfold goActive
  extract_lets -merge -underBinder -useContext +onlyGivenNames x1 x2 x3 x4 x5 x6
  have h7 : Same 18137474781437878 s0 x2 := by
    unfold x2
    refine Same.thru (updOe_same ..) rfl ?_
    refine Same.thru (oeTo_same ..) rfl ?_
    first | assumption | exact Same.refl _ _
  clear_value x2
  have h8 : Same 18137474781437878 s0 x3 := by
    unfold x3
    refine Same.thru (updOe_same ..) rfl ?_
    first | assumption | exact Same.refl _ _
  clear_value x3
  have h9 : Same 18137474781437878 s0 x4 := by
    unfold x4
    refine Same.ite ?_ ?_
    · refine Same.thru (numSet_same ..) rfl ?_
      refine Same.thru (forgetRoom_same ..) rfl ?_
      first | assumption | exact Same.refl _ _
    · first | assumption | exact Same.refl _ _
  clear_value x4
  have h10 : Same 18137474781437878 s0 x5 := by
    unfold x5
    refine Same.thru (linkEntry_same ..) rfl ?_
    first | assumption | exact Same.refl _ _
  clear_value x5
  extract_lets -merge -underBinder -useContext +onlyGivenNames x11
  have h12 : Same 18137474781437878 s0 x11 := by
    unfold x11
    refine Same.ite ?_ ?_
    · first | assumption | exact Same.refl _ _
    · refine Same.thru (sendOpt_same ..) rfl ?_
      refine Same.thru (updOe_same ..) rfl ?_
      first | assumption | exact Same.refl _ _
  clear_value x11
  refine Same.thru (runPort_same ..) rfl ?_
  first | assumption | exact Same.refl _ _

theorem setTx_same : ∀ a0 a1 a2 a3 s0, Same 4194304 s0 (setTx a0 a1 a2 a3 s0) := by
  intro a0 a1 a2 a3 s0
  unfold setTx
  refine Same.thru (updOe_same ..) rfl ?_
  first | assumption | exact Same.refl _ _

theorem setRx_same : ∀ a0 a1 a2 a3 s0, Same 4194304 s0 (setRx a0 a1 a2 a3 s0) := by
  intro a0 a1 a2 a3 s0
  unfold setRx
  refine Same.thru (updOe_same ..) rfl ?_
  first | assumption | exact Same.refl _ _

theorem setCal_same : ∀ a0 a1 a2 s0, Same 4194304 s0 (setCal a0 a1 a2 s0) := by
  intro a0 a1 a2 s0
  unfold setCal
  refine Same.thru (updOe_same ..) rfl ?_
  first | assumption | exact Same.refl _ _

theorem takeLine_same : ∀ a0 a1 a2 a3 a4 a5 s0, Same 4198400 s0 (takeLine a0 a1 a2 a3 a4 a5 s0) := by
  intro a0 a1 a2 a3 a4 a5 s0
  unfold takeLine
  refine Same.thru (report_same ..) rfl ?_
  refine Same.thru (setTx_same ..) rfl ?_
  refine Same.thru (setTx_same ..) rfl ?_
  first | assumption | exact Same.refl _ _

theorem endCal_same : ∀ a0 a1 a2 s0, Same 18014679836660740 s0 (endCal a0 a1 a2 s0) := by
  intro a0 a1 a2 s0
  unfold endCal
  extract_lets -merge -underBinder -useContext +onlyGivenNames x1 x2
  extract_lets -merge -underBinder -useContext +onlyGivenNames x3
  have h4 : Same 18014679836660740 s0 x3 := by
    unfold x3
    refine Same.ite ?_ ?_
    · refine Same.thru (setTx_same ..) rfl ?_
      first | assumption | exact Same.refl _ _
    · refine Same.thru (setTx_same ..) rfl ?_
      refine Same.thru (setTx_same ..) rfl ?_
      first | assumption | exact Same.refl _ _
  clear_value x3
  refine Same.thru (sendOpt_same ..) rfl ?_
  refine Same.thru (setCal_same ..) rfl ?_
  first | assumption | exact Same.refl _ _

theorem abortCal_same : ∀ a0 a1 s0, Same 18014679836660740 s0 (abortCal a0 a1 s0) := by
  intro a0 a1 s0
  unfold abortCal
  refine Same.ite ?_ ?_
  · refine Same.thru (endCal_same ..) rfl ?_
    first | assumption | exact Same.refl _ _
  · first | assumption | exact Same.refl _ _

theorem yieldCal_same : ∀ a0 a1 s0, Same 18014679836660740 s0 (yieldCal a0 a1 s0) := by
  intro a0 a1 s0
  unfold yieldCal
  extract_lets -merge -underBinder -useContext +onlyGivenNames x1 x2
  refine Same.ite ?_ ?_
  · refine Same.thru (bump_same ..) rfl ?_
    refine Same.thru (abortCal_same ..) rfl ?_
    first | assumption | exact Same.refl _ _
  · refine Same.thru (abortCal_same ..) rfl ?_
    first | assumption | exact Same.refl _ _

theorem yieldUrgent_same : ∀ a0 a1 s0, Same 4194304 s0 (yieldUrgent a0 a1 s0) := by
  intro a0 a1 s0
  unfold yieldUrgent
  split
  · first | assumption | exact Same.refl _ _
  · extract_lets -merge -underBinder -useContext +onlyGivenNames x1
    have h2 : Same 4194304 s0 x1 := by
      unfold x1
      split
      · refine Same.thru (setTx_same ..) rfl ?_
        refine Same.thru (setTx_same ..) rfl ?_
        first | assumption | exact Same.refl _ _
      · first | assumption | exact Same.refl _ _
    clear_value x1
    refine Same.thru (updOe_same ..) rfl ?_
    first | assumption | exact Same.refl _ _

theorem withdrawTx_same : ∀ a0 a1 s0, Same 18014398664679328 s0 (withdrawTx a0 a1 s0) := by
  intro a0 a1 s0
  unfold withdrawTx
  extract_lets -merge -underBinder -useContext +onlyGivenNames x1
  refine Same.ite ?_ ?_
  · first | assumption | exact Same.refl _ _
  · extract_lets -merge -underBinder -useContext +onlyGivenNames x2
    have h3 : Same 18014398664679328 s0 x2 := by
      unfold x2
      refine Same.thru (report_same ..) rfl ?_
      refine Same.thru (updOe_same ..) rfl ?_
      first | assumption | exact Same.refl _ _
    clear_value x2
    refine Same.ite ?_ ?_
    · refine Same.thru (goDown_same ..) rfl ?_
      first | assumption | exact Same.refl _ _
    · refine Same.thru (goRelock_same ..) rfl ?_
      first | assumption | exact Same.refl _ _

theorem withdrawRx_same : ∀ a0 a1 s0, Same 18014398664679328 s0 (withdrawRx a0 a1 s0) := by
  intro a0 a1 s0
  unfold withdrawRx
  extract_lets -merge -underBinder -useContext +onlyGivenNames x1
  refine Same.ite ?_ ?_
  · first | assumption | exact Same.refl _ _
  · extract_lets -merge -underBinder -useContext +onlyGivenNames x2
    have h3 : Same 18014398664679328 s0 x2 := by
      unfold x2
      refine Same.thru (report_same ..) rfl ?_
      refine Same.thru (updOe_same ..) rfl ?_
      first | assumption | exact Same.refl _ _
    clear_value x2
    refine Same.ite ?_ ?_
    · refine Same.thru (goDown_same ..) rfl ?_
      first | assumption | exact Same.refl _ _
    · refine Same.thru (goRelock_same ..) rfl ?_
      first | assumption | exact Same.refl _ _

theorem spareBy_thru : ∀ {m sb a0 a1 a2 s0} (hm : 0 ||| m = m) (hf2 : ∀ z, Same m sb z → Same m sb (a2 z)) (hs : Same m sb s0), Same m sb (spareBy a0 a1 a2 s0) := by
  intro m sb a0 a1 a2 s0 hm hf2 hs
  unfold spareBy
  refine Same.ite ?_ ?_
  · refine hf2 _ ?_
    first | assumption | exact Same.refl _ _
  · first | assumption | exact Same.refl _ _

theorem rehome_same : ∀ a0 a1 a2 a3 s0, Same 18014679987658660 s0 (rehome a0 a1 a2 a3 s0) := by
  intro a0 a1 a2 a3 s0
  unfold rehome
  extract_lets -merge -underBinder -useContext +onlyGivenNames x1
  have h2 : Same 18014679987658660 s0 x1 := by
    unfold x1
    refine spareBy_thru rfl ?_ ?_
    · intro y3 hy4
      refine Same.thru (yieldUrgent_same ..) rfl ?_
      first | assumption | exact Same.refl _ _
    · refine spareBy_thru rfl ?_ ?_
      · intro y5 hy6
        refine Same.thru (yieldCal_same ..) rfl ?_
        first | assumption | exact Same.refl _ _
      · first | assumption | exact Same.refl _ _
  clear_value x1
  split
  · refine Same.thru (takeLine_same ..) rfl ?_
    first | assumption | exact Same.refl _ _
  · refine Same.thru (withdrawTx_same ..) rfl ?_
    first | assumption | exact Same.refl _ _

theorem moveUrgent_same : ∀ a0 a1 a2 a3 s0, Same 18014679836660740 s0 (moveUrgent a0 a1 a2 a3 s0) := by
  intro a0 a1 a2 a3 s0
  unfold moveUrgent
  extract_lets -merge -underBinder -useContext +onlyGivenNames x1
  have h2 : Same 18014679836660740 s0 x1 := by
    unfold x1
    refine spareBy_thru rfl ?_ ?_
    · intro y3 hy4
      refine Same.thru (yieldCal_same ..) rfl ?_
      first | assumption | exact Same.refl _ _
    · first | assumption | exact Same.refl _ _
  clear_value x1
  split
  · extract_lets -merge -underBinder -useContext +onlyGivenNames x5
    refine Same.thru (updOe_same ..) rfl ?_
    refine Same.thru (takeLine_same ..) rfl ?_
    first | assumption | exact Same.refl _ _
  · first | assumption | exact Same.refl _ _

theorem failTxLine_same : ∀ a0 a1 a2 s0, Same 18014679987658660 s0 (failTxLine a0 a1 a2 s0) := by
  intro a0 a1 a2 s0
  unfold failTxLine
  extract_lets -merge -underBinder -useContext +onlyGivenNames x1 x2
  refine Same.ite ?_ ?_
  · first | assumption | exact Same.refl _ _
  · extract_lets -merge -underBinder -useContext +onlyGivenNames x3
    have h4 : Same 18014679987658660 s0 x3 := by
      unfold x3
      refine Same.thru (report_same ..) rfl ?_
      first | assumption | exact Same.refl _ _
    clear_value x3
    refine Same.ite ?_ ?_
    · refine Same.thru (sendOpt_same ..) rfl ?_
      refine Same.thru (setCal_same ..) rfl ?_
      refine Same.thru (setTx_same ..) rfl ?_
      first | assumption | exact Same.refl _ _
    · refine Same.ite ?_ ?_
      · refine Same.thru (setTx_same ..) rfl ?_
        refine Same.thru (endCal_same ..) rfl ?_
        first | assumption | exact Same.refl _ _
      · refine Same.ite ?_ ?_
        · refine Same.thru (rehome_same ..) rfl ?_
          refine Same.thru (setTx_same ..) rfl ?_
          first | assumption | exact Same.refl _ _
        · refine Same.thru (setTx_same ..) rfl ?_
          first | assumption | exact Same.refl _ _

theorem logMislock_same : ∀ a0 a1 a2 a3 a4 s0, Same 5120 s0 (logMislock a0 a1 a2 a3 a4 s0) := by
  intro a0 a1 a2 a3 a4 s0
  unfold logMislock
  extract_lets -merge -underBinder -useContext +onlyGivenNames x1
  refine Same.thru (report_same ..) rfl ?_
  refine Same.thru (bump_same ..) rfl ?_
  first | assumption | exact Same.refl _ _

end Sys2Proof.Machine
end

