-- ==== Sys2Proof/Laws/FrameLight.lean ====
section
/-! SUPPORT. Laws/FrameLight.lean: which fields of the state each operation of Machine/Light.lean may change. -/
namespace Sys2Proof.Machine
open Sys2Proof

theorem setFeeds_same : ∀ a0 a1 s0, Same 18014398517870592 s0 (setFeeds a0 a1 s0) := by
  intro a0 a1 s0
  unfold setFeeds
  extract_lets -merge -underBinder -useContext +onlyGivenNames x1 x2 x3
  have h4 : Same 18014398517870592 s0 x3 := by
    unfold x3
    refine Same.thru (updLsm_same ..) rfl ?_
    first | assumption | exact Same.refl _ _
  clear_value x3
  refine Same.thru (emit_same ..) rfl ?_
  first | assumption | exact Same.refl _ _

theorem lightModule_same : ∀ a0 s0, Same 18014398517870592 s0 (lightModule a0 s0) := by
  intro a0 s0
  unfold lightModule
  refine Same.foldl (fun r1 e2 h3 => ?_) ?_
  · refine Same.thru (setFeeds_same ..) rfl ?_
    first | assumption | exact Same.refl _ _
  · first | assumption | exact Same.refl _ _

theorem setLsmEnable_same : ∀ a0 s0, Same 18014398517870592 s0 (setLsmEnable a0 s0) := by
  intro a0 s0
  unfold setLsmEnable
  refine Same.thru (lightModule_same ..) rfl ?_
  first | assumption | exact Same.refl _ _

theorem doLsmInsert_same : ∀ a0 s0, Same 18014398517874688 s0 (doLsmInsert a0 s0) := by
  intro a0 s0
  unfold doLsmInsert
  refine Same.ite ?_ ?_
  · first | assumption | exact Same.refl _ _
  · refine Same.ite ?_ ?_
    · refine Same.thru (report_same ..) rfl ?_
      refine Same.thru (updLsm_same ..) rfl ?_
      first | assumption | exact Same.refl _ _
    · refine Same.thru (emit_same ..) rfl ?_
      refine Same.thru (report_same ..) rfl ?_
      refine Same.thru (updLsm_same ..) rfl ?_
      first | assumption | exact Same.refl _ _

theorem restartLink_same : ∀ a0 s0, Same 4194304 s0 (restartLink a0 s0) := by
  intro a0 s0
  unfold restartLink
  extract_lets -merge -underBinder -useContext +onlyGivenNames x1
  have h2 : Same 4194304 s0 x1 := by
    unfold x1
    refine Same.thru (updOe_same ..) rfl ?_
    first | assumption | exact Same.refl _ _
  clear_value x1
  refine Same.ite ?_ ?_
  · first | assumption | exact Same.refl _ _
  · refine Same.thru (oeTo_same ..) rfl ?_
    first | assumption | exact Same.refl _ _

theorem doLsmReady_same : ∀ a0 a1 s0, Same 18014398522064896 s0 (doLsmReady a0 a1 s0) := by
  intro a0 a1 s0
  unfold doLsmReady
  refine Same.ite ?_ ?_
  · first | assumption | exact Same.refl _ _
  · extract_lets -merge -underBinder -useContext +onlyGivenNames x1
    have h2 : Same 18014398522064896 s0 x1 := by
      unfold x1
      refine Same.thru (updLsm_same ..) rfl ?_
      first | assumption | exact Same.refl _ _
    clear_value x1
    refine Same.thru (lightModule_same ..) rfl ?_
    refine Same.thru (restartLink_same ..) rfl ?_
    refine Same.thru (restartLink_same ..) rfl ?_
    first | assumption | exact Same.refl _ _

theorem loseFeeds_same : ∀ a0 s0, Same 4194304 s0 (loseFeeds a0 s0) := by
  intro a0 s0
  unfold loseFeeds
  refine Same.ite ?_ ?_
  · refine Same.thru (oeTo_same ..) rfl ?_
    first | assumption | exact Same.refl _ _
  · first | assumption | exact Same.refl _ _

theorem doLsmRemove_same : ∀ a0 s0, Same 12587008 s0 (doLsmRemove a0 s0) := by
  intro a0 s0
  unfold doLsmRemove
  refine Same.ite ?_ ?_
  · first | assumption | exact Same.refl _ _
  · extract_lets -merge -underBinder -useContext +onlyGivenNames x1
    have h2 : Same 12587008 s0 x1 := by
      unfold x1
      refine Same.thru (report_same ..) rfl ?_
      refine Same.thru (updLsm_same ..) rfl ?_
      first | assumption | exact Same.refl _ _
    clear_value x1
    refine Same.thru (loseFeeds_same ..) rfl ?_
    refine Same.thru (loseFeeds_same ..) rfl ?_
    first | assumption | exact Same.refl _ _

theorem doLsmFault_same : ∀ a0 a1 s0, Same 8392704 s0 (doLsmFault a0 a1 s0) := by
  intro a0 a1 s0
  unfold doLsmFault
  refine Same.ite ?_ ?_
  · first | assumption | exact Same.refl _ _
  · refine Same.thru (report_same ..) rfl ?_
    refine Same.thru (updLsm_same ..) rfl ?_
    first | assumption | exact Same.refl _ _

theorem doOpenFibre_same : ∀ a0 s0, Same 18014398522064898 s0 (doOpenFibre a0 s0) := by
  intro a0 s0
  unfold doOpenFibre
  extract_lets -merge -underBinder -useContext +onlyGivenNames x1
  refine Same.ite ?_ ?_
  · first | assumption | exact Same.refl _ _
  · extract_lets -merge -underBinder -useContext +onlyGivenNames x2 x3
    have h4 : Same 18014398522064898 s0 x2 := by
      unfold x2
      refine Same.thru (advanceTo_same ..) rfl ?_
      first | assumption | exact Same.refl _ _
    clear_value x2
    refine Same.thru (updOe_same ..) rfl ?_
    refine Same.thru (setFeeds_same ..) rfl ?_
    first | assumption | exact Same.refl _ _

theorem doProbe_same : ∀ a0 s0, Same 18014398522064898 s0 (doProbe a0 s0) := by
  intro a0 s0
  unfold doProbe
  extract_lets -merge -underBinder -useContext +onlyGivenNames x1
  refine Same.ite ?_ ?_
  · first | assumption | exact Same.refl _ _
  · extract_lets -merge -underBinder -useContext +onlyGivenNames x2 x3 x4
    have h5 : Same 18014398522064898 s0 x2 := by
      unfold x2
      refine Same.thru (advanceTo_same ..) rfl ?_
      first | assumption | exact Same.refl _ _
    clear_value x2
    have h6 : Same 18014398522064898 s0 x4 := by
      unfold x4
      refine Same.thru (updOe_same ..) rfl ?_
      refine Same.thru (setFeeds_same ..) rfl ?_
      first | assumption | exact Same.refl _ _
    clear_value x4
    refine Same.thru (setFeeds_same ..) rfl ?_
    refine Same.thru (advanceTo_same ..) rfl ?_
    first | assumption | exact Same.refl _ _

theorem doRxLight_same : ∀ a0 s0, Same 18014398522064896 s0 (doRxLight a0 s0) := by
  intro a0 s0
  unfold doRxLight
  refine Same.ite ?_ ?_
  · refine Same.thru (setFeeds_same ..) rfl ?_
    refine Same.thru (updOe_same ..) rfl ?_
    first | assumption | exact Same.refl _ _
  · first | assumption | exact Same.refl _ _

theorem hear_same : ∀ a0 a1 s0, Same 4194304 s0 (hear a0 a1 s0) := by
  intro a0 a1 s0
  unfold hear
  refine Same.thru (updOe_same ..) rfl ?_
  first | assumption | exact Same.refl _ _

theorem setLinkEnable_same : ∀ a0 a1 s0, Same 18014398656282624 s0 (setLinkEnable a0 a1 s0) := by
  intro a0 a1 s0
  unfold setLinkEnable
  extract_lets -merge -underBinder -useContext +onlyGivenNames x1 x2
  have h3 : Same 18014398656282624 s0 x2 := by
    unfold x2
    refine Same.ite ?_ ?_
    · refine Same.ite ?_ ?_
      · first | assumption | exact Same.refl _ _
      · refine Same.thru (dropDrain_same ..) rfl ?_
        refine Same.thru (oeTo_same ..) rfl ?_
        first | assumption | exact Same.refl _ _
    · refine Same.ite ?_ ?_
      · refine Same.thru (oeTo_same ..) rfl ?_
        first | assumption | exact Same.refl _ _
      · first | assumption | exact Same.refl _ _
  clear_value x2
  refine Same.ite ?_ ?_
  · refine Same.thru (lightModule_same ..) rfl ?_
    first | assumption | exact Same.refl _ _
  · first | assumption | exact Same.refl _ _

theorem doFeedsGood_same : ∀ a0 s0, Same 4194308 s0 (doFeedsGood a0 s0) := by
  intro a0 s0
  unfold doFeedsGood
  extract_lets -merge -underBinder -useContext +onlyGivenNames x1 x2
  refine Same.ite ?_ ?_
  · refine Same.thru (goRingLock_same ..) rfl ?_
    first | assumption | exact Same.refl _ _
  · first | assumption | exact Same.refl _ _

theorem doRingLock_same : ∀ a0 a1 s0, Same 18014679845049348 s0 (doRingLock a0 a1 s0) := by
  intro a0 a1 s0
  unfold doRingLock
  extract_lets -merge -underBinder -useContext +onlyGivenNames x1 x2
  refine Same.ite ?_ ?_
  · first | assumption | exact Same.refl _ _
  · extract_lets -merge -underBinder -useContext +onlyGivenNames x3 x4 x5
    have h6 : Same 18014679845049348 s0 x3 := by
      unfold x3
      refine Same.thru (doRxLight_same ..) rfl ?_
      first | assumption | exact Same.refl _ _
    clear_value x3
    have h7 : Same 18014679845049348 s0 x4 := by
      unfold x4
      refine Same.ite ?_ ?_
      · refine Same.foldl (fun r8 e9 h10 => ?_) ?_
        · refine Same.thru (report_same ..) rfl ?_
          first | assumption | exact Same.refl _ _
        · refine Same.thru (relockRings_same ..) rfl ?_
          first | assumption | exact Same.refl _ _
      · first | assumption | exact Same.refl _ _
    clear_value x4
    have h11 : Same 18014679845049348 s0 x5 := by
      unfold x5
      refine Same.thru (updOe_same ..) rfl ?_
      refine Same.thru (oeTo_same ..) rfl ?_
      first | assumption | exact Same.refl _ _
    clear_value x5
    refine Same.thru (sendOpt_same ..) rfl ?_
    refine Same.thru (sendOpt_same ..) rfl ?_
    first | assumption | exact Same.refl _ _

theorem sendReport_same : ∀ a0 a1 s0, Same 18014679836660740 s0 (sendReport a0 a1 s0) := by
  intro a0 a1 s0
  unfold sendReport
  refine Same.foldl (fun r1 e2 h3 => ?_) ?_
  · refine Same.thru (sendOpt_same ..) rfl ?_
    first | assumption | exact Same.refl _ _
  · first | assumption | exact Same.refl _ _

theorem refuseLink_same : ∀ a0 s0, Same 18014679987658660 s0 (refuseLink a0 s0) := by
  intro a0 s0
  unfold refuseLink
  refine Same.thru (goDown_same ..) rfl ?_
  refine Same.thru (report_same ..) rfl ?_
  refine Same.thru (sendOpt_same ..) rfl ?_
  first | assumption | exact Same.refl _ _

theorem tryShare_same : ∀ a0 s0, Same 18014679987658660 s0 (tryShare a0 s0) := by
  intro a0 s0
  unfold tryShare
  extract_lets -merge -underBinder -useContext +onlyGivenNames x1
  refine Same.ite ?_ ?_
  · first | assumption | exact Same.refl _ _
  · refine Same.ite ?_ ?_
    · refine Same.thru (refuseLink_same ..) rfl ?_
      first | assumption | exact Same.refl _ _
    · extract_lets -merge -underBinder -useContext +onlyGivenNames x2 x3
      refine Same.ite ?_ ?_
      · refine Same.thru (refuseLink_same ..) rfl ?_
        first | assumption | exact Same.refl _ _
      · extract_lets -merge -underBinder -useContext +onlyGivenNames x4 x5
        refine Same.thru (sendOpt_same ..) rfl ?_
        refine Same.thru (updOe_same ..) rfl ?_
        first | assumption | exact Same.refl _ _

theorem startKeys_same : ∀ a0 s0, Same 18014679987658668 s0 (startKeys a0 s0) := by
  intro a0 s0
  unfold startKeys
  extract_lets -merge -underBinder -useContext +onlyGivenNames x1
  have h2 : Same 18014679987658668 s0 x1 := by
    unfold x1
    refine Same.thru (updOe_same ..) rfl ?_
    refine Same.thru (oeTo_same ..) rfl ?_
    first | assumption | exact Same.refl _ _
  clear_value x1
  refine Same.ite ?_ ?_
  · refine Same.thru (refuseLink_same ..) rfl ?_
    first | assumption | exact Same.refl _ _
  · split
    rename_i v3 v4 v5 hq6
    extract_lets -merge -underBinder -useContext +onlyGivenNames x7
    refine Same.thru (tryShare_same ..) rfl ?_
    refine Same.thru (sendReport_same ..) rfl ?_
    refine Same.thru (updOe_same ..) rfl ?_
    have h8 : Same 18014679987658668 s0 v5 := Same.of_eq Prod.snd hq6 (by
      refine Same.thru (drawRandom_same ..) rfl ?_
      first | assumption | exact Same.refl _ _
      )
    first | assumption | exact Same.refl _ _

theorem inSetup_thru : ∀ {m sb a0 a1 s0} (hm : 18014398664679328 ||| m = m) (hf1 : ∀ z, Same m sb z → Same m sb (a1 z)) (hs : Same m sb s0), Same m sb (inSetup a0 a1 s0) := by
  intro m sb a0 a1 s0 hm hf1 hs
  unfold inSetup
  refine Same.ite ?_ ?_
  · refine Same.thru (goDown_same ..) (Same.sub hm rfl) ?_
    first | assumption | exact Same.refl _ _
  · refine hf1 _ ?_
    first | assumption | exact Same.refl _ _

theorem doAlign_same : ∀ a0 a1 s0, Same 18137474781437886 s0 (doAlign a0 a1 s0) := by
  intro a0 a1 s0
  unfold doAlign
  extract_lets -merge -underBinder -useContext +onlyGivenNames x1
  refine Same.ite ?_ ?_
  · first | assumption | exact Same.refl _ _
  · refine inSetup_thru rfl ?_ ?_
    · intro y2 hy3
      extract_lets -merge -underBinder -useContext +onlyGivenNames x4
      have h5 : Same 18137474781437886 s0 x4 := by
        unfold x4
        refine Same.ite ?_ ?_
        · refine Same.thru (report_same ..) rfl ?_
          first | assumption | exact Same.refl _ _
        · first | assumption | exact Same.refl _ _
      clear_value x4
      refine Same.ite ?_ ?_
      · refine Same.thru (goDown_same ..) rfl ?_
        first | assumption | exact Same.refl _ _
      · refine Same.ite ?_ ?_
        · refine Same.thru (goDown_same ..) rfl ?_
          first | assumption | exact Same.refl _ _
        · refine Same.ite ?_ ?_
          · refine Same.thru (goDown_same ..) rfl ?_
            first | assumption | exact Same.refl _ _
          · refine Same.ite ?_ ?_
            · refine Same.thru (goActive_same ..) rfl ?_
              first | assumption | exact Same.refl _ _
            · refine Same.thru (startKeys_same ..) rfl ?_
              first | assumption | exact Same.refl _ _
    · first | assumption | exact Same.refl _ _

theorem doSetupTimeout_same : ∀ a0 s0, Same 18014398664679330 s0 (doSetupTimeout a0 s0) := by
  intro a0 s0
  unfold doSetupTimeout
  extract_lets -merge -underBinder -useContext +onlyGivenNames x1
  refine Same.ite ?_ ?_
  · refine Same.thru (goDown_same ..) rfl ?_
    refine Same.thru (advanceTo_same ..) rfl ?_
    first | assumption | exact Same.refl _ _
  · first | assumption | exact Same.refl _ _

theorem doRelockTimeout_same : ∀ a0 s0, Same 18014398664679330 s0 (doRelockTimeout a0 s0) := by
  intro a0 s0
  unfold doRelockTimeout
  split
  · refine Same.thru (goDown_same ..) rfl ?_
    refine Same.thru (advanceTo_same ..) rfl ?_
    first | assumption | exact Same.refl _ _
  · first | assumption | exact Same.refl _ _

theorem doRetry_same : ∀ a0 s0, Same 4194306 s0 (doRetry a0 s0) := by
  intro a0 s0
  unfold doRetry
  extract_lets -merge -underBinder -useContext +onlyGivenNames x1
  refine Same.ite ?_ ?_
  · refine Same.thru (oeTo_same ..) rfl ?_
    refine Same.thru (advanceTo_same ..) rfl ?_
    first | assumption | exact Same.refl _ _
  · first | assumption | exact Same.refl _ _

theorem doPing_same : ∀ a0 a1 s0, Same 18014679836660740 s0 (doPing a0 a1 s0) := by
  intro a0 a1 s0
  unfold doPing
  refine Same.ite ?_ ?_
  · refine Same.thru (sendOpt_same ..) rfl ?_
    first | assumption | exact Same.refl _ _
  · first | assumption | exact Same.refl _ _

theorem doEcho_same : ∀ a0 a1 s0, Same 4194304 s0 (doEcho a0 a1 s0) := by
  intro a0 a1 s0
  unfold doEcho
  extract_lets -merge -underBinder -useContext +onlyGivenNames x1
  refine Same.ite ?_ ?_
  · refine Same.thru (updOe_same ..) rfl ?_
    first | assumption | exact Same.refl _ _
  · first | assumption | exact Same.refl _ _

theorem doIdent_same : ∀ a0 a1 s0, Same 4194304 s0 (doIdent a0 a1 s0) := by
  intro a0 a1 s0
  unfold doIdent
  refine Same.ite ?_ ?_
  · refine Same.thru (updOe_same ..) rfl ?_
    first | assumption | exact Same.refl _ _
  · first | assumption | exact Same.refl _ _

theorem doFrag_same : ∀ a0 a1 s0, Same 18014679987658660 s0 (doFrag a0 a1 s0) := by
  intro a0 a1 s0
  unfold doFrag
  extract_lets -merge -underBinder -useContext +onlyGivenNames x1 x2
  refine Same.ite ?_ ?_
  · first | assumption | exact Same.refl _ _
  · extract_lets -merge -underBinder -useContext +onlyGivenNames x3 x4
    have h5 : Same 18014679987658660 s0 x3 := by
      unfold x3
      refine Same.ite ?_ ?_
      · refine Same.thru (updOe_same ..) rfl ?_
        first | assumption | exact Same.refl _ _
      · first | assumption | exact Same.refl _ _
    clear_value x3
    refine Same.ite ?_ ?_
    · first | assumption | exact Same.refl _ _
    · extract_lets -merge -underBinder -useContext +onlyGivenNames x6
      refine Same.thru (tryShare_same ..) rfl ?_
      refine Same.thru (updOe_same ..) rfl ?_
      first | assumption | exact Same.refl _ _

theorem doShare_same : ∀ a0 a1 a2 s0, Same 18014679987658660 s0 (doShare a0 a1 a2 s0) := by
  intro a0 a1 a2 s0
  unfold doShare
  extract_lets -merge -underBinder -useContext +onlyGivenNames x1 x2
  refine Same.ite ?_ ?_
  · first | assumption | exact Same.refl _ _
  · refine Same.ite ?_ ?_
    · refine Same.thru (refuseLink_same ..) rfl ?_
      first | assumption | exact Same.refl _ _
    · refine Same.ite ?_ ?_
      · refine Same.thru (refuseLink_same ..) rfl ?_
        first | assumption | exact Same.refl _ _
      · extract_lets -merge -underBinder -useContext +onlyGivenNames x3 x4 x5
        have h6 : Same 18014679987658660 s0 x5 := by
          unfold x5
          refine Same.thru (updOe_same ..) rfl ?_
          first | assumption | exact Same.refl _ _
        clear_value x5
        refine Same.thru (sendOpt_same ..) rfl ?_
        first | assumption | exact Same.refl _ _

theorem doConfirm_same : ∀ a0 a1 s0, Same 18137474781437878 s0 (doConfirm a0 a1 s0) := by
  intro a0 a1 s0
  unfold doConfirm
  extract_lets -merge -underBinder -useContext +onlyGivenNames x1
  refine Same.ite ?_ ?_
  · first | assumption | exact Same.refl _ _
  · refine Same.ite ?_ ?_
    · refine Same.thru (refuseLink_same ..) rfl ?_
      first | assumption | exact Same.refl _ _
    · refine Same.ite ?_ ?_
      · refine Same.thru (refuseLink_same ..) rfl ?_
        first | assumption | exact Same.refl _ _
      · refine inSetup_thru rfl ?_ ?_
        · intro y2 hy3
          refine Same.thru (goActive_same ..) rfl ?_
          first | assumption | exact Same.refl _ _
        · first | assumption | exact Same.refl _ _

theorem doRefuse_same : ∀ a0 a1 s0, Same 18014398664679328 s0 (doRefuse a0 a1 s0) := by
  intro a0 a1 s0
  unfold doRefuse
  refine Same.ite ?_ ?_
  · refine Same.thru (goDown_same ..) rfl ?_
    refine Same.thru (report_same ..) rfl ?_
    first | assumption | exact Same.refl _ _
  · first | assumption | exact Same.refl _ _

theorem execLsmInsert_same : ∀ a0 s0 t, execLsmInsert a0 s0 = .next t → Same 18014398517874688 s0 t := by
  intro a0 s0 t ht
  unfold execLsmInsert at ht
  refine Same.next ht ?_
  refine Same.thru (doLsmInsert_same ..) rfl ?_
  first | assumption | exact Same.refl _ _

theorem execLsmModuleReady_same : ∀ a0 a1 s0 t, execLsmModuleReady a0 a1 s0 = .next t → Same 18014398522064896 s0 t := by
  intro a0 a1 s0 t ht
  unfold execLsmModuleReady at ht
  refine Same.next ht ?_
  refine Same.thru (doLsmReady_same ..) rfl ?_
  first | assumption | exact Same.refl _ _

theorem execLsmRemove_same : ∀ a0 s0 t, execLsmRemove a0 s0 = .next t → Same 12587008 s0 t := by
  intro a0 s0 t ht
  unfold execLsmRemove at ht
  refine Same.next ht ?_
  refine Same.thru (doLsmRemove_same ..) rfl ?_
  first | assumption | exact Same.refl _ _

theorem execLsmFault_same : ∀ a0 a1 s0 t, execLsmFault a0 a1 s0 = .next t → Same 8392704 s0 t := by
  intro a0 a1 s0 t ht
  unfold execLsmFault at ht
  refine Same.next ht ?_
  refine Same.thru (doLsmFault_same ..) rfl ?_
  first | assumption | exact Same.refl _ _

theorem execOpenFibreTimeout_same : ∀ a0 s0 t, execOpenFibreTimeout a0 s0 = .next t → Same 18014398522064898 s0 t := by
  intro a0 s0 t ht
  unfold execOpenFibreTimeout at ht
  refine Same.next ht ?_
  refine Same.thru (doOpenFibre_same ..) rfl ?_
  first | assumption | exact Same.refl _ _

theorem execLaserProbe_same : ∀ a0 s0 t, execLaserProbe a0 s0 = .next t → Same 18014398522064898 s0 t := by
  intro a0 s0 t ht
  unfold execLaserProbe at ht
  refine Same.next ht ?_
  refine Same.thru (doProbe_same ..) rfl ?_
  first | assumption | exact Same.refl _ _

theorem execRxLightReturn_same : ∀ a0 s0 t, execRxLightReturn a0 s0 = .next t → Same 18014398522064896 s0 t := by
  intro a0 s0 t ht
  unfold execRxLightReturn at ht
  refine Same.next ht ?_
  refine Same.thru (doRxLight_same ..) rfl ?_
  first | assumption | exact Same.refl _ _

theorem execFeedsGood_same : ∀ a0 s0 t, execFeedsGood a0 s0 = .next t → Same 4194308 s0 t := by
  intro a0 s0 t ht
  unfold execFeedsGood at ht
  refine Same.next ht ?_
  refine Same.thru (doFeedsGood_same ..) rfl ?_
  first | assumption | exact Same.refl _ _

theorem execFeedsLost_same : ∀ a0 s0 t, execFeedsLost a0 s0 = .next t → Same 4194304 s0 t := by
  intro a0 s0 t ht
  unfold execFeedsLost at ht
  refine Same.next ht ?_
  refine Same.thru (loseFeeds_same ..) rfl ?_
  first | assumption | exact Same.refl _ _

theorem execRingLockDone_same : ∀ a0 a1 s0 t, execRingLockDone a0 a1 s0 = .next t → Same 18014679845049348 s0 t := by
  intro a0 a1 s0 t ht
  unfold execRingLockDone at ht
  refine Same.next ht ?_
  refine Same.thru (doRingLock_same ..) rfl ?_
  first | assumption | exact Same.refl _ _

theorem execAlignDone_same : ∀ a0 a1 s0 t, execAlignDone a0 a1 s0 = .next t → Same 18137474781437886 s0 t := by
  intro a0 a1 s0 t ht
  unfold execAlignDone at ht
  refine Same.next ht ?_
  refine Same.thru (doAlign_same ..) rfl ?_
  first | assumption | exact Same.refl _ _

theorem execOptSetupTimeout_same : ∀ a0 s0 t, execOptSetupTimeout a0 s0 = .next t → Same 18014398664679330 s0 t := by
  intro a0 s0 t ht
  unfold execOptSetupTimeout at ht
  refine Same.next ht ?_
  refine Same.thru (doSetupTimeout_same ..) rfl ?_
  first | assumption | exact Same.refl _ _

theorem execRelockTimeout_same : ∀ a0 s0 t, execRelockTimeout a0 s0 = .next t → Same 18014398664679330 s0 t := by
  intro a0 s0 t ht
  unfold execRelockTimeout at ht
  refine Same.next ht ?_
  refine Same.thru (doRelockTimeout_same ..) rfl ?_
  first | assumption | exact Same.refl _ _

theorem execDownRetry_same : ∀ a0 s0 t, execDownRetry a0 s0 = .next t → Same 4194306 s0 t := by
  intro a0 s0 t ht
  unfold execDownRetry at ht
  refine Same.next ht ?_
  refine Same.thru (doRetry_same ..) rfl ?_
  first | assumption | exact Same.refl _ _

theorem execPing_same : ∀ a0 a1 s0 t, execPing a0 a1 s0 = .next t → Same 18014679836660740 s0 t := by
  intro a0 a1 s0 t ht
  unfold execPing at ht
  refine Same.next ht ?_
  refine Same.thru (doPing_same ..) rfl ?_
  refine Same.thru (hear_same ..) rfl ?_
  first | assumption | exact Same.refl _ _

theorem execEcho_same : ∀ a0 a1 s0 t, execEcho a0 a1 s0 = .next t → Same 4194304 s0 t := by
  intro a0 a1 s0 t ht
  unfold execEcho at ht
  refine Same.next ht ?_
  refine Same.thru (doEcho_same ..) rfl ?_
  refine Same.thru (hear_same ..) rfl ?_
  first | assumption | exact Same.refl _ _

theorem execIdent_same : ∀ a0 a1 s0 t, execIdent a0 a1 s0 = .next t → Same 4194304 s0 t := by
  intro a0 a1 s0 t ht
  unfold execIdent at ht
  refine Same.next ht ?_
  refine Same.thru (doIdent_same ..) rfl ?_
  refine Same.thru (hear_same ..) rfl ?_
  first | assumption | exact Same.refl _ _

theorem execAttestFrag_same : ∀ a0 a1 s0 t, execAttestFrag a0 a1 s0 = .next t → Same 18014679987658660 s0 t := by
  intro a0 a1 s0 t ht
  unfold execAttestFrag at ht
  refine Same.next ht ?_
  refine Same.thru (doFrag_same ..) rfl ?_
  refine Same.thru (hear_same ..) rfl ?_
  first | assumption | exact Same.refl _ _

theorem execKeyShare_same : ∀ a0 a1 a2 s0 t, execKeyShare a0 a1 a2 s0 = .next t → Same 18014679987658660 s0 t := by
  intro a0 a1 a2 s0 t ht
  unfold execKeyShare at ht
  refine Same.next ht ?_
  refine Same.thru (doShare_same ..) rfl ?_
  refine Same.thru (hear_same ..) rfl ?_
  first | assumption | exact Same.refl _ _

theorem execKeyConfirm_same : ∀ a0 a1 s0 t, execKeyConfirm a0 a1 s0 = .next t → Same 18137474781437878 s0 t := by
  intro a0 a1 s0 t ht
  unfold execKeyConfirm at ht
  refine Same.next ht ?_
  refine Same.thru (doConfirm_same ..) rfl ?_
  refine Same.thru (hear_same ..) rfl ?_
  first | assumption | exact Same.refl _ _

theorem execRefuse_same : ∀ a0 a1 s0 t, execRefuse a0 a1 s0 = .next t → Same 18014398664679328 s0 t := by
  intro a0 a1 s0 t ht
  unfold execRefuse at ht
  refine Same.next ht ?_
  refine Same.thru (doRefuse_same ..) rfl ?_
  refine Same.thru (hear_same ..) rfl ?_
  first | assumption | exact Same.refl _ _

end Sys2Proof.Machine
end

