-- ==== Sys2Proof/Laws/FrameOptical.lean ====
section
/-! SUPPORT. Laws/FrameOptical.lean: which fields of the state each operation of Machine/Optical.lean may change. -/
namespace Sys2Proof.Machine
open Sys2Proof

theorem resendAll_same : ∀ a0 s0, Same 18014398513681408 s0 (resendAll a0 s0) := by
  intro a0 s0
  unfold resendAll
  extract_lets -merge -underBinder -useContext +onlyGivenNames x1
  refine Same.ite ?_ ?_
  · first | assumption | exact Same.refl _ _
  · extract_lets -merge -underBinder -useContext +onlyGivenNames x2 x3
    have h4 : Same 18014398513681408 s0 x2 := by
      unfold x2
      refine Same.foldl (fun r5 e6 h7 => ?_) ?_
      · refine Same.thru (emitFrame_same ..) rfl ?_
        first | assumption | exact Same.refl _ _
      · first | assumption | exact Same.refl _ _
    clear_value x2
    have h8 : Same 18014398513681408 s0 x3 := by
      unfold x3
      refine Same.thru (updOe_same ..) rfl ?_
      refine Same.thru (bump_same ..) rfl ?_
      first | assumption | exact Same.refl _ _
    clear_value x3
    refine Same.ite ?_ ?_
    · refine Same.thru (goRelock_same ..) rfl ?_
      first | assumption | exact Same.refl _ _
    · first | assumption | exact Same.refl _ _

theorem takeOptAck_same : ∀ a0 a1 a2 s0, Same 18137474781437878 s0 (takeOptAck a0 a1 a2 s0) := by
  intro a0 a1 a2 s0
  unfold takeOptAck
  extract_lets -merge -underBinder -useContext +onlyGivenNames x1 x2 x3 x4
  have h5 : Same 18137474781437878 s0 x3 := by
    unfold x3
    split
    · refine Same.thru (updOe_same ..) rfl ?_
      first | assumption | exact Same.refl _ _
    · first | assumption | exact Same.refl _ _
  clear_value x3
  have h6 : Same 18137474781437878 s0 x4 := by
    unfold x4
    refine Same.ite ?_ ?_
    · refine Same.thru (resendAll_same ..) rfl ?_
      refine Same.thru (updOe_same ..) rfl ?_
      first | assumption | exact Same.refl _ _
    · first | assumption | exact Same.refl _ _
  clear_value x4
  refine Same.thru (runPort_same ..) rfl ?_
  first | assumption | exact Same.refl _ _

theorem doOptTimeout_same : ∀ a0 s0, Same 18014398513681410 s0 (doOptTimeout a0 s0) := by
  intro a0 s0
  unfold doOptTimeout
  extract_lets -merge -underBinder -useContext +onlyGivenNames x1
  refine Same.ite ?_ ?_
  · first | assumption | exact Same.refl _ _
  · extract_lets -merge -underBinder -useContext +onlyGivenNames x2 x3 x4
    have h5 : Same 18014398513681410 s0 x2 := by
      unfold x2
      refine Same.thru (advanceTo_same ..) rfl ?_
      first | assumption | exact Same.refl _ _
    clear_value x2
    have h6 : Same 18014398513681410 s0 x4 := by
      unfold x4
      refine Same.thru (updOe_same ..) rfl ?_
      refine Same.thru (resendAll_same ..) rfl ?_
      first | assumption | exact Same.refl _ _
    clear_value x4
    refine Same.ite ?_ ?_
    · refine Same.thru (goRelock_same ..) rfl ?_
      first | assumption | exact Same.refl _ _
    · first | assumption | exact Same.refl _ _

theorem followLane_same : ∀ a0 a1 a2 a3 s0, Same 4194304 s0 (followLane a0 a1 a2 a3 s0) := by
  intro a0 a1 a2 a3 s0
  unfold followLane
  extract_lets -merge -underBinder -useContext +onlyGivenNames x1
  refine Same.ite ?_ ?_
  · extract_lets -merge -underBinder -useContext +onlyGivenNames x2
    have h3 : Same 4194304 s0 x2 := by
      unfold x2
      split
      · refine Same.thru (setRx_same ..) rfl ?_
        first | assumption | exact Same.refl _ _
      · first | assumption | exact Same.refl _ _
    clear_value x2
    refine Same.thru (setRx_same ..) rfl ?_
    first | assumption | exact Same.refl _ _
  · first | assumption | exact Same.refl _ _

theorem relocked_same : ∀ a0 a1 a2 a3 s0, Same 18014679836660740 s0 (relocked a0 a1 a2 a3 s0) := by
  intro a0 a1 a2 a3 s0
  unfold relocked
  extract_lets -merge -underBinder -useContext +onlyGivenNames x1
  have h2 : Same 18014679836660740 s0 x1 := by
    unfold x1
    refine Same.thru (measureEff_same ..) rfl ?_
    refine Same.thru (updOe_same ..) rfl ?_
    first | assumption | exact Same.refl _ _
  clear_value x1
  refine Same.ite ?_ ?_
  · refine Same.thru (sendOpt_same ..) rfl ?_
    first | assumption | exact Same.refl _ _
  · first | assumption | exact Same.refl _ _

theorem watchLock_same : ∀ a0 a1 a2 a3 s0, Same 18014679836660740 s0 (watchLock a0 a1 a2 a3 s0) := by
  intro a0 a1 a2 a3 s0
  unfold watchLock
  extract_lets -merge -underBinder -useContext +onlyGivenNames x1 x2 x3
  refine Same.ite ?_ ?_
  · refine Same.ite ?_ ?_
    · refine Same.ite ?_ ?_
      · refine Same.thru (relocked_same ..) rfl ?_
        first | assumption | exact Same.refl _ _
      · unfold x3
        refine Same.thru (updOe_same ..) rfl ?_
        first | assumption | exact Same.refl _ _
    · refine Same.ite ?_ ?_
      · first | assumption | exact Same.refl _ _
      · unfold x3
        refine Same.thru (updOe_same ..) rfl ?_
        first | assumption | exact Same.refl _ _
  · extract_lets -merge -underBinder -useContext +onlyGivenNames x4 x5
    refine Same.ite ?_ ?_
    · unfold x3
      refine Same.thru (updOe_same ..) rfl ?_
      first | assumption | exact Same.refl _ _
    · extract_lets -merge -underBinder -useContext +onlyGivenNames x6 x7
      have h8 : Same 18014679836660740 s0 x6 := by
        unfold x6
        refine Same.thru (logMislock_same ..) rfl ?_
        unfold x3
        refine Same.thru (updOe_same ..) rfl ?_
        first | assumption | exact Same.refl _ _
      clear_value x6
      refine Same.ite ?_ ?_
      · refine Same.thru (sendOpt_same ..) rfl ?_
        first | assumption | exact Same.refl _ _
      · first | assumption | exact Same.refl _ _

theorem doLaneFrame_same : ∀ a0 a1 a2 a3 a4 s0, Same 18137474781437878 s0 (doLaneFrame a0 a1 a2 a3 a4 s0) := by
  intro a0 a1 a2 a3 a4 s0
  unfold doLaneFrame
  extract_lets -merge -underBinder -useContext +onlyGivenNames x1
  refine Same.ite ?_ ?_
  · first | assumption | exact Same.refl _ _
  · extract_lets -merge -underBinder -useContext +onlyGivenNames x2 x3 x4
    have h5 : Same 18137474781437878 s0 x3 := by
      unfold x3
      refine Same.thru (updOe_same ..) rfl ?_
      first | assumption | exact Same.refl _ _
    clear_value x3
    refine Same.ite ?_ ?_
    · refine Same.thru (goRelock_same ..) rfl ?_
      first | assumption | exact Same.refl _ _
    · refine Same.ite ?_ ?_
      · first | assumption | exact Same.refl _ _
      · refine Same.ite ?_ ?_
        · refine Same.thru (bump_same ..) rfl ?_
          first | assumption | exact Same.refl _ _
        · extract_lets -merge -underBinder -useContext +onlyGivenNames x6 x7 x8
          have h9 : Same 18137474781437878 s0 x6 := by
            unfold x6
            refine Same.ite ?_ ?_
            · refine Same.thru (updOe_same ..) rfl ?_
              first | assumption | exact Same.refl _ _
            · first | assumption | exact Same.refl _ _
          clear_value x6
          have h10 : Same 18137474781437878 s0 x7 := by
            unfold x7
            refine Same.thru (watchLock_same ..) rfl ?_
            first | assumption | exact Same.refl _ _
          clear_value x7
          have h11 : Same 18137474781437878 s0 x8 := by
            unfold x8
            refine Same.ite ?_ ?_
            · refine Same.thru (followLane_same ..) rfl ?_
              first | assumption | exact Same.refl _ _
            · first | assumption | exact Same.refl _ _
          clear_value x8
          refine Same.ite ?_ ?_
          · refine Same.thru (takeOptAck_same ..) rfl ?_
            first | assumption | exact Same.refl _ _
          · first | assumption | exact Same.refl _ _

theorem sendNak_same : ∀ a0 s0, Same 18014398513676288 s0 (sendNak a0 s0) := by
  intro a0 s0
  unfold sendNak
  extract_lets -merge -underBinder -useContext +onlyGivenNames x1
  refine Same.thru (emitIdle_same ..) rfl ?_
  refine Same.thru (updOe_same ..) rfl ?_
  first | assumption | exact Same.refl _ _

theorem dropFrame_same : ∀ a0 s0, Same 18014398513676288 s0 (dropFrame a0 s0) := by
  intro a0 s0
  unfold dropFrame
  refine Same.ite ?_ ?_
  · first | assumption | exact Same.refl _ _
  · refine Same.thru (sendNak_same ..) rfl ?_
    first | assumption | exact Same.refl _ _

theorem acceptFrame_same : ∀ a0 a1 s0, Same 18014398513676288 s0 (acceptFrame a0 a1 s0) := by
  intro a0 a1 s0
  unfold acceptFrame
  extract_lets -merge -underBinder -useContext +onlyGivenNames x1
  split
  refine Same.thru (emitIdle_same ..) rfl ?_
  refine Same.thru (updOe_same ..) rfl ?_
  first | assumption | exact Same.refl _ _

theorem doLinkFrame_same : ∀ a0 a1 s0, Same 18014398664679328 s0 (doLinkFrame a0 a1 s0) := by
  intro a0 a1 s0
  unfold doLinkFrame
  extract_lets -merge -underBinder -useContext +onlyGivenNames x1
  refine Same.ite ?_ ?_
  · refine Same.thru (updOe_same ..) rfl ?_
    first | assumption | exact Same.refl _ _
  · refine Same.ite ?_ ?_
    · first | assumption | exact Same.refl _ _
    · refine Same.ite ?_ ?_
      · refine Same.thru (dropFrame_same ..) rfl ?_
        first | assumption | exact Same.refl _ _
      · refine Same.ite ?_ ?_
        · extract_lets -merge -underBinder -useContext +onlyGivenNames x2 x3
          have h4 : Same 18014398664679328 s0 x3 := by
            unfold x3
            refine Same.thru (dropFrame_same ..) rfl ?_
            refine Same.thru (bump_same ..) rfl ?_
            refine Same.thru (updOe_same ..) rfl ?_
            first | assumption | exact Same.refl _ _
          clear_value x3
          refine Same.ite ?_ ?_
          · refine Same.thru (goDown_same ..) rfl ?_
            refine Same.thru (report_same ..) rfl ?_
            first | assumption | exact Same.refl _ _
          · first | assumption | exact Same.refl _ _
        · refine Same.thru (acceptFrame_same ..) rfl ?_
          first | assumption | exact Same.refl _ _

theorem doNakRepeat_same : ∀ a0 s0, Same 18014398513676290 s0 (doNakRepeat a0 s0) := by
  intro a0 s0
  unfold doNakRepeat
  extract_lets -merge -underBinder -useContext +onlyGivenNames x1
  refine Same.ite ?_ ?_
  · refine Same.thru (sendNak_same ..) rfl ?_
    refine Same.thru (advanceTo_same ..) rfl ?_
    first | assumption | exact Same.refl _ _
  · first | assumption | exact Same.refl _ _

theorem doEpoch_same : ∀ a0 a1 s0, Same 18137474781437878 s0 (doEpoch a0 a1 s0) := by
  intro a0 a1 s0
  unfold doEpoch
  extract_lets -merge -underBinder -useContext +onlyGivenNames x1
  refine Same.ite ?_ ?_
  · refine Same.ite ?_ ?_
    · refine Same.thru (runPort_same ..) rfl ?_
      refine Same.thru (numSet_same ..) rfl ?_
      refine Same.thru (updOe_same ..) rfl ?_
      first | assumption | exact Same.refl _ _
    · first | assumption | exact Same.refl _ _
  · refine Same.ite ?_ ?_
    · refine Same.thru (updOe_same ..) rfl ?_
      first | assumption | exact Same.refl _ _
    · first | assumption | exact Same.refl _ _

theorem doWidth_same : ∀ a0 a1 s0, Same 18014398664679328 s0 (doWidth a0 a1 s0) := by
  intro a0 a1 s0
  unfold doWidth
  extract_lets -merge -underBinder -useContext +onlyGivenNames x1 x2
  refine Same.ite ?_ ?_
  · first | assumption | exact Same.refl _ _
  · refine Same.ite ?_ ?_
    · refine Same.thru (goDown_same ..) rfl ?_
      first | assumption | exact Same.refl _ _
    · refine Same.ite ?_ ?_
      · first | assumption | exact Same.refl _ _
      · extract_lets -merge -underBinder -useContext +onlyGivenNames x3
        have h4 : Same 18014398664679328 s0 x3 := by
          unfold x3
          refine Same.thru (updOe_same ..) rfl ?_
          first | assumption | exact Same.refl _ _
        clear_value x3
        refine Same.ite ?_ ?_
        · first | assumption | exact Same.refl _ _
        · refine Same.thru (goRelock_same ..) rfl ?_
          first | assumption | exact Same.refl _ _

theorem failRxLine_same : ∀ a0 a1 a2 s0, Same 18014679836660740 s0 (failRxLine a0 a1 a2 s0) := by
  intro a0 a1 a2 s0
  unfold failRxLine
  refine Same.ite ?_ ?_
  · first | assumption | exact Same.refl _ _
  · refine Same.thru (sendOpt_same ..) rfl ?_
    refine Same.thru (setRx_same ..) rfl ?_
    refine Same.thru (report_same ..) rfl ?_
    first | assumption | exact Same.refl _ _

theorem doSuspect_same : ∀ a0 a1 s0, Same 4199424 s0 (doSuspect a0 a1 s0) := by
  intro a0 a1 s0
  unfold doSuspect
  extract_lets -merge -underBinder -useContext +onlyGivenNames x1
  refine Same.ite ?_ ?_
  · first | assumption | exact Same.refl _ _
  · refine Same.thru (logMislock_same ..) rfl ?_
    refine Same.thru (updOe_same ..) rfl ?_
    first | assumption | exact Same.refl _ _

theorem doMislock_same : ∀ a0 a1 a2 a3 a4 s0, Same 18014679987658660 s0 (doMislock a0 a1 a2 a3 a4 s0) := by
  intro a0 a1 a2 a3 a4 s0
  unfold doMislock
  extract_lets -merge -underBinder -useContext +onlyGivenNames x1 x2 x3
  refine Same.ite ?_ ?_
  · first | assumption | exact Same.refl _ _
  · extract_lets -merge -underBinder -useContext +onlyGivenNames x4 x5
    have h6 : Same 18014679987658660 s0 x4 := by
      unfold x4
      refine Same.ite ?_ ?_
      · first | assumption | exact Same.refl _ _
      · refine Same.thru (stepHeater_same ..) rfl ?_
        first | assumption | exact Same.refl _ _
    clear_value x4
    refine Same.ite ?_ ?_
    · refine Same.ite ?_ ?_
      · refine Same.thru (relocked_same ..) rfl ?_
        first | assumption | exact Same.refl _ _
      · refine Same.ite ?_ ?_
        · first | assumption | exact Same.refl _ _
        · unfold x5
          refine Same.thru (updOe_same ..) rfl ?_
          first | assumption | exact Same.refl _ _
    · refine Same.ite ?_ ?_
      · unfold x5
        refine Same.thru (updOe_same ..) rfl ?_
        first | assumption | exact Same.refl _ _
      · extract_lets -merge -underBinder -useContext +onlyGivenNames x7
        have h8 : Same 18014679987658660 s0 x7 := by
          unfold x7
          refine Same.thru (updOe_same ..) rfl ?_
          first | assumption | exact Same.refl _ _
        clear_value x7
        refine Same.ite ?_ ?_
        · refine Same.thru (failRxLine_same ..) rfl ?_
          first | assumption | exact Same.refl _ _
        · refine Same.thru (failTxLine_same ..) rfl ?_
          first | assumption | exact Same.refl _ _

theorem doRingHold_same : ∀ a0 a1 a2 a3 s0, Same 4194304 s0 (doRingHold a0 a1 a2 a3 s0) := by
  intro a0 a1 a2 a3 s0
  unfold doRingHold
  extract_lets -merge -underBinder -useContext +onlyGivenNames x1
  refine Same.thru (updOe_same ..) rfl ?_
  first | assumption | exact Same.refl _ _

theorem doUrgent_same : ∀ a0 a1 a2 a3 s0, Same 18014679836660740 s0 (doUrgent a0 a1 a2 a3 s0) := by
  intro a0 a1 a2 a3 s0
  unfold doUrgent
  extract_lets -merge -underBinder -useContext +onlyGivenNames x1
  refine Same.ite ?_ ?_
  · first | assumption | exact Same.refl _ _
  · extract_lets -merge -underBinder -useContext +onlyGivenNames x2 x3
    have h4 : Same 18014679836660740 s0 x2 := by
      unfold x2
      refine Same.thru (report_same ..) rfl ?_
      first | assumption | exact Same.refl _ _
    clear_value x2
    extract_lets -merge -underBinder -useContext +onlyGivenNames x5
    extract_lets -merge -underBinder -useContext +onlyGivenNames x6
    have h7 : Same 18014679836660740 s0 x6 := by
      unfold x6
      refine Same.ite ?_ ?_
      · refine Same.ite ?_ ?_
        · refine Same.thru (sendOpt_same ..) rfl ?_
          first | assumption | exact Same.refl _ _
        · first | assumption | exact Same.refl _ _
      · refine Same.ite ?_ ?_
        · refine Same.thru (moveUrgent_same ..) rfl ?_
          first | assumption | exact Same.refl _ _
        · first | assumption | exact Same.refl _ _
    clear_value x6
    refine Same.thru (recentre_same ..) rfl ?_
    first | assumption | exact Same.refl _ _

theorem doMoveSpare_same : ∀ a0 a1 s0, Same 18014679836660740 s0 (doMoveSpare a0 a1 s0) := by
  intro a0 a1 s0
  unfold doMoveSpare
  refine Same.ite ?_ ?_
  · first | assumption | exact Same.refl _ _
  · split
    · refine Same.ite ?_ ?_
      · first | assumption | exact Same.refl _ _
      · refine Same.thru (moveUrgent_same ..) rfl ?_
        first | assumption | exact Same.refl _ _
    · first | assumption | exact Same.refl _ _

theorem doMoveBack_same : ∀ a0 a1 s0, Same 4194304 s0 (doMoveBack a0 a1 s0) := by
  intro a0 a1 s0
  unfold doMoveBack
  refine Same.ite ?_ ?_
  · first | assumption | exact Same.refl _ _
  · split
    · refine Same.thru (setTx_same ..) rfl ?_
      refine Same.thru (setTx_same ..) rfl ?_
      first | assumption | exact Same.refl _ _
    · first | assumption | exact Same.refl _ _

theorem judgeFibre_same : ∀ a0 a1 a2 s0, Same 18014679836660740 s0 (judgeFibre a0 a1 a2 s0) := by
  intro a0 a1 a2 s0
  unfold judgeFibre
  extract_lets -merge -underBinder -useContext +onlyGivenNames x1 x2 x3 x4 x5 x6
  have h7 : Same 18014679836660740 s0 x5 := by
    unfold x5
    refine Same.ite ?_ ?_
    · first | assumption | exact Same.refl _ _
    · refine Same.thru (updOe_same ..) rfl ?_
      first | assumption | exact Same.refl _ _
  clear_value x5
  split
  · refine Same.foldl (fun r8 e9 h10 => ?_) ?_
    · refine Same.thru (failRxLine_same ..) rfl ?_
      first | assumption | exact Same.refl _ _
    · refine Same.thru (sendOpt_same ..) rfl ?_
      first | assumption | exact Same.refl _ _
  · refine Same.foldl (fun r11 e12 h13 => ?_) ?_
    · refine Same.thru (failRxLine_same ..) rfl ?_
      first | assumption | exact Same.refl _ _
    · first | assumption | exact Same.refl _ _

theorem doJudge_same : ∀ a0 a1 s0, Same 18014679836660740 s0 (doJudge a0 a1 s0) := by
  intro a0 a1 s0
  unfold doJudge
  refine Same.ite ?_ ?_
  · first | assumption | exact Same.refl _ _
  · refine Same.foldl (fun r1 e2 h3 => ?_) ?_
    · refine Same.thru (judgeFibre_same ..) rfl ?_
      first | assumption | exact Same.refl _ _
    · first | assumption | exact Same.refl _ _

theorem doTxUnlock_same : ∀ a0 a1 a2 s0, Same 18014679987658660 s0 (doTxUnlock a0 a1 a2 s0) := by
  intro a0 a1 a2 s0
  unfold doTxUnlock
  refine Same.ite ?_ ?_
  · refine Same.thru (failTxLine_same ..) rfl ?_
    first | assumption | exact Same.refl _ _
  · first | assumption | exact Same.refl _ _

theorem beginCal_same : ∀ a0 a1 a2 s0, Same 18014679836660740 s0 (beginCal a0 a1 a2 s0) := by
  intro a0 a1 a2 s0
  unfold beginCal
  extract_lets -merge -underBinder -useContext +onlyGivenNames x1 x2
  have h3 : Same 18014679836660740 s0 x1 := by
    unfold x1
    refine Same.thru (sendOpt_same ..) rfl ?_
    first | assumption | exact Same.refl _ _
  clear_value x1
  refine Same.thru (emit_same ..) rfl ?_
  first | assumption | exact Same.refl _ _

theorem doCalStart_same : ∀ a0 a1 s0, Same 18014679836660742 s0 (doCalStart a0 a1 s0) := by
  intro a0 a1 s0
  unfold doCalStart
  extract_lets -merge -underBinder -useContext +onlyGivenNames x1 x2
  refine Same.ite ?_ ?_
  · first | assumption | exact Same.refl _ _
  · extract_lets -merge -underBinder -useContext +onlyGivenNames x3 x4 x5 x6 x7
    have h8 : Same 18014679836660742 s0 x4 := by
      unfold x4
      refine Same.thru (advanceTo_same ..) rfl ?_
      first | assumption | exact Same.refl _ _
    clear_value x4
    refine Same.ite ?_ ?_
    · refine Same.thru (setCal_same ..) rfl ?_
      first | assumption | exact Same.refl _ _
    · refine Same.ite ?_ ?_
      · split
        · refine Same.thru (bump_same ..) rfl ?_
          refine Same.thru (setCal_same ..) rfl ?_
          first | assumption | exact Same.refl _ _
        · refine Same.thru (beginCal_same ..) rfl ?_
          refine Same.thru (setTx_same ..) rfl ?_
          refine Same.thru (setTx_same ..) rfl ?_
          refine Same.thru (setCal_same ..) rfl ?_
          first | assumption | exact Same.refl _ _
      · refine Same.thru (beginCal_same ..) rfl ?_
        refine Same.thru (setTx_same ..) rfl ?_
        refine Same.thru (setCal_same ..) rfl ?_
        first | assumption | exact Same.refl _ _

theorem tendRing_same : ∀ a0 a1 a2 a3 s0, Same 4195332 s0 (tendRing a0 a1 a2 a3 s0) := by
  intro a0 a1 a2 a3 s0
  unfold tendRing
  extract_lets -merge -underBinder -useContext +onlyGivenNames x1
  have h2 : Same 4195332 s0 x1 := by
    unfold x1
    refine Same.thru (measureRing_same ..) rfl ?_
    first | assumption | exact Same.refl _ _
  clear_value x1
  refine Same.ite ?_ ?_
  · refine Same.thru (recentre_same ..) rfl ?_
    first | assumption | exact Same.refl _ _
  · first | assumption | exact Same.refl _ _

theorem doCalFinish_same : ∀ a0 a1 a2 s0, Same 18014679987658660 s0 (doCalFinish a0 a1 a2 s0) := by
  intro a0 a1 a2 s0
  unfold doCalFinish
  extract_lets -merge -underBinder -useContext +onlyGivenNames x1
  refine Same.ite ?_ ?_
  · first | assumption | exact Same.refl _ _
  · refine Same.ite ?_ ?_
    · refine Same.thru (failTxLine_same ..) rfl ?_
      refine Same.thru (endCal_same ..) rfl ?_
      first | assumption | exact Same.refl _ _
    · refine Same.ite ?_ ?_
      · refine Same.thru (endCal_same ..) rfl ?_
        first | assumption | exact Same.refl _ _
      · refine Same.ite ?_ ?_
        · refine Same.thru (endCal_same ..) rfl ?_
          refine Same.thru (tendRing_same ..) rfl ?_
          first | assumption | exact Same.refl _ _
        · refine Same.thru (failTxLine_same ..) rfl ?_
          first | assumption | exact Same.refl _ _

theorem doCalBegin_same : ∀ a0 a1 s0, Same 4195332 s0 (doCalBegin a0 a1 s0) := by
  intro a0 a1 s0
  unfold doCalBegin
  refine Same.ite ?_ ?_
  · first | assumption | exact Same.refl _ _
  · refine Same.thru (tendRing_same ..) rfl ?_
    refine Same.thru (setRx_same ..) rfl ?_
    first | assumption | exact Same.refl _ _

theorem doCalEnd_same : ∀ a0 a1 s0, Same 18014679836660740 s0 (doCalEnd a0 a1 s0) := by
  intro a0 a1 s0
  unfold doCalEnd
  extract_lets -merge -underBinder -useContext +onlyGivenNames x1
  refine Same.ite ?_ ?_
  · first | assumption | exact Same.refl _ _
  · extract_lets -merge -underBinder -useContext +onlyGivenNames x2
    have h3 : Same 18014679836660740 s0 x2 := by
      unfold x2
      refine Same.thru (setRx_same ..) rfl ?_
      first | assumption | exact Same.refl _ _
    clear_value x2
    refine Same.ite ?_ ?_
    · refine Same.thru (failRxLine_same ..) rfl ?_
      first | assumption | exact Same.refl _ _
    · first | assumption | exact Same.refl _ _

theorem withdrawAt_same : ∀ a0 a1 s0, Same 18014398664679328 s0 (withdrawAt a0 a1 s0) := by
  intro a0 a1 s0
  unfold withdrawAt
  refine Same.ite ?_ ?_
  · refine Same.foldl (fun r1 e2 h3 => ?_) ?_
    · refine Same.thru (withdrawTx_same ..) rfl ?_
      first | assumption | exact Same.refl _ _
    · first | assumption | exact Same.refl _ _
  · refine Same.ite ?_ ?_
    · refine Same.thru (withdrawTx_same ..) rfl ?_
      first | assumption | exact Same.refl _ _
    · refine Same.ite ?_ ?_
      · refine Same.thru (withdrawTx_same ..) rfl ?_
        first | assumption | exact Same.refl _ _
      · refine Same.ite ?_ ?_
        · refine Same.thru (withdrawRx_same ..) rfl ?_
          first | assumption | exact Same.refl _ _
        · refine Same.thru (withdrawTx_same ..) rfl ?_
          first | assumption | exact Same.refl _ _

theorem warnLoss_same : ∀ a0 a1 s0, Same 4096 s0 (warnLoss a0 a1 s0) := by
  intro a0 a1 s0
  unfold warnLoss
  extract_lets -merge -underBinder -useContext +onlyGivenNames x1 x2
  refine Same.thru (report_same ..) rfl ?_
  first | assumption | exact Same.refl _ _

theorem judgeMon_same : ∀ a0 a1 s0, Same 18014398664679328 s0 (judgeMon a0 a1 s0) := by
  intro a0 a1 s0
  unfold judgeMon
  extract_lets -merge -underBinder -useContext +onlyGivenNames x1 x2
  have h3 : Same 18014398664679328 s0 x2 := by
    unfold x2
    refine Same.ite ?_ ?_
    · refine Same.thru (warnLoss_same ..) rfl ?_
      first | assumption | exact Same.refl _ _
    · first | assumption | exact Same.refl _ _
  clear_value x2
  refine Same.ite ?_ ?_
  · refine Same.thru (withdrawAt_same ..) rfl ?_
    first | assumption | exact Same.refl _ _
  · first | assumption | exact Same.refl _ _

theorem doLineFailed_same : ∀ a0 a1 s0, Same 18014679987658660 s0 (doLineFailed a0 a1 s0) := by
  intro a0 a1 s0
  unfold doLineFailed
  extract_lets -merge -underBinder -useContext +onlyGivenNames x1 x2 x3
  refine Same.ite ?_ ?_
  · first | assumption | exact Same.refl _ _
  · extract_lets -merge -underBinder -useContext +onlyGivenNames x4 x5
    have h6 : Same 18014679987658660 s0 x5 := by
      unfold x5
      refine Same.ite ?_ ?_
      · refine Same.thru (report_same ..) rfl ?_
        first | assumption | exact Same.refl _ _
      · first | assumption | exact Same.refl _ _
    clear_value x5
    refine Same.thru (failTxLine_same ..) rfl ?_
    first | assumption | exact Same.refl _ _

theorem judgeFeed_same : ∀ a0 a1 s0, Same 18014398664679328 s0 (judgeFeed a0 a1 s0) := by
  intro a0 a1 s0
  unfold judgeFeed
  refine Same.ite ?_ ?_
  · refine Same.thru (withdrawAt_same ..) rfl ?_
    first | assumption | exact Same.refl _ _
  · first | assumption | exact Same.refl _ _

theorem doMonitor_same : ∀ a0 a1 a2 a3 a4 s0, Same 18014679987658660 s0 (doMonitor a0 a1 a2 a3 a4 s0) := by
  intro a0 a1 a2 a3 a4 s0
  unfold doMonitor
  extract_lets -merge -underBinder -useContext +onlyGivenNames x1 x2 x3
  have h4 : Same 18014679987658660 s0 x3 := by
    unfold x3
    refine Same.thru (updOe_same ..) rfl ?_
    first | assumption | exact Same.refl _ _
  clear_value x3
  refine Same.ite ?_ ?_
  · first | assumption | exact Same.refl _ _
  · refine Same.ite ?_ ?_
    · refine Same.thru (loseFeeds_same ..) rfl ?_
      first | assumption | exact Same.refl _ _
    · extract_lets -merge -underBinder -useContext +onlyGivenNames x5
      have h6 : Same 18014679987658660 s0 x5 := by
        unfold x5
        refine Same.thru (sendOpt_same ..) rfl ?_
        first | assumption | exact Same.refl _ _
      clear_value x5
      refine Same.ite ?_ ?_
      · refine Same.foldl (fun r7 e8 h9 => ?_) ?_
        · refine Same.thru (judgeMon_same ..) rfl ?_
          first | assumption | exact Same.refl _ _
        · first | assumption | exact Same.refl _ _
      · refine Same.thru (judgeFeed_same ..) rfl ?_
        refine Same.thru (judgeFeed_same ..) rfl ?_
        refine Same.thru (updOe_same ..) rfl ?_
        first | assumption | exact Same.refl _ _

theorem doMonReport_same : ∀ a0 a1 s0, Same 18014398664679328 s0 (doMonReport a0 a1 s0) := by
  intro a0 a1 s0
  unfold doMonReport
  extract_lets -merge -underBinder -useContext +onlyGivenNames x1 x2
  refine Same.ite ?_ ?_
  · first | assumption | exact Same.refl _ _
  · extract_lets -merge -underBinder -useContext +onlyGivenNames x3
    have h4 : Same 18014398664679328 s0 x3 := by
      unfold x3
      refine Same.thru (updOe_same ..) rfl ?_
      first | assumption | exact Same.refl _ _
    clear_value x3
    refine Same.foldl (fun r5 e6 h7 => ?_) ?_
    · refine Same.thru (judgeMon_same ..) rfl ?_
      first | assumption | exact Same.refl _ _
    · first | assumption | exact Same.refl _ _

theorem doUnknownType_same : ∀ a0 a1 s0, Same 4096 s0 (doUnknownType a0 a1 s0) := by
  intro a0 a1 s0
  unfold doUnknownType
  refine Same.ite ?_ ?_
  · first | assumption | exact Same.refl _ _
  · refine Same.thru (report_same ..) rfl ?_
    first | assumption | exact Same.refl _ _

theorem execLaneFrame_same : ∀ a0 a1 a2 a3 a4 s0 t, execLaneFrame a0 a1 a2 a3 a4 s0 = .next t → Same 18137474781437878 s0 t := by
  intro a0 a1 a2 a3 a4 s0 t ht
  unfold execLaneFrame at ht
  refine Same.next ht ?_
  refine Same.thru (doLaneFrame_same ..) rfl ?_
  first | assumption | exact Same.refl _ _

theorem execLinkFrame_same : ∀ a0 a1 s0 t, execLinkFrame a0 a1 s0 = .next t → Same 18014398664679328 s0 t := by
  intro a0 a1 s0 t ht
  unfold execLinkFrame at ht
  refine Same.next ht ?_
  refine Same.thru (doLinkFrame_same ..) rfl ?_
  first | assumption | exact Same.refl _ _

theorem execNakRepeat_same : ∀ a0 s0 t, execNakRepeat a0 s0 = .next t → Same 18014398513676290 s0 t := by
  intro a0 s0 t ht
  unfold execNakRepeat at ht
  refine Same.next ht ?_
  refine Same.thru (doNakRepeat_same ..) rfl ?_
  first | assumption | exact Same.refl _ _

theorem execOptReplayTimeout_same : ∀ a0 s0 t, execOptReplayTimeout a0 s0 = .next t → Same 18014398513681410 s0 t := by
  intro a0 s0 t ht
  unfold execOptReplayTimeout at ht
  refine Same.next ht ?_
  refine Same.thru (doOptTimeout_same ..) rfl ?_
  first | assumption | exact Same.refl _ _

theorem execKeyEpochAdvance_same : ∀ a0 a1 s0 t, execKeyEpochAdvance a0 a1 s0 = .next t → Same 18137474781437878 s0 t := by
  intro a0 a1 s0 t ht
  unfold execKeyEpochAdvance at ht
  refine Same.next ht ?_
  refine Same.thru (doEpoch_same ..) rfl ?_
  first | assumption | exact Same.refl _ _

theorem execMislockRelock_same : ∀ a0 a1 a2 a3 a4 s0 t, execMislockRelock a0 a1 a2 a3 a4 s0 = .next t → Same 18014679987658660 s0 t := by
  intro a0 a1 a2 a3 a4 s0 t ht
  unfold execMislockRelock at ht
  refine Same.next ht ?_
  refine Same.thru (doMislock_same ..) rfl ?_
  first | assumption | exact Same.refl _ _

theorem execRingHoldTimeout_same : ∀ a0 a1 a2 a3 s0 t, execRingHoldTimeout a0 a1 a2 a3 s0 = .next t → Same 4194304 s0 t := by
  intro a0 a1 a2 a3 s0 t ht
  unfold execRingHoldTimeout at ht
  refine Same.next ht ?_
  refine Same.thru (doRingHold_same ..) rfl ?_
  first | assumption | exact Same.refl _ _

theorem execTxRingUnlockTimeout_same : ∀ a0 a1 a2 s0 t, execTxRingUnlockTimeout a0 a1 a2 s0 = .next t → Same 18014679987658660 s0 t := by
  intro a0 a1 a2 s0 t ht
  unfold execTxRingUnlockTimeout at ht
  refine Same.next ht ?_
  refine Same.thru (doTxUnlock_same ..) rfl ?_
  first | assumption | exact Same.refl _ _

theorem execUrgentRecentre_same : ∀ a0 a1 a2 a3 s0 t, execUrgentRecentre a0 a1 a2 a3 s0 = .next t → Same 18014679836660740 s0 t := by
  intro a0 a1 a2 a3 s0 t ht
  unfold execUrgentRecentre at ht
  refine Same.next ht ?_
  refine Same.thru (doUrgent_same ..) rfl ?_
  first | assumption | exact Same.refl _ _

theorem execLineJudgeWindow_same : ∀ a0 a1 s0 t, execLineJudgeWindow a0 a1 s0 = .next t → Same 18014679836660740 s0 t := by
  intro a0 a1 s0 t ht
  unfold execLineJudgeWindow at ht
  refine Same.next ht ?_
  refine Same.thru (doJudge_same ..) rfl ?_
  first | assumption | exact Same.refl _ _

theorem execCalSlotStart_same : ∀ a0 a1 s0 t, execCalSlotStart a0 a1 s0 = .next t → Same 18014679836660742 s0 t := by
  intro a0 a1 s0 t ht
  unfold execCalSlotStart at ht
  refine Same.next ht ?_
  refine Same.thru (doCalStart_same ..) rfl ?_
  first | assumption | exact Same.refl _ _

theorem execCalSlotFinish_same : ∀ a0 a1 a2 s0 t, execCalSlotFinish a0 a1 a2 s0 = .next t → Same 18014679987658660 s0 t := by
  intro a0 a1 a2 s0 t ht
  unfold execCalSlotFinish at ht
  refine Same.next ht ?_
  refine Same.thru (doCalFinish_same ..) rfl ?_
  first | assumption | exact Same.refl _ _

theorem execMonitorWindow_same : ∀ a0 a1 a2 a3 a4 s0 t, execMonitorWindow a0 a1 a2 a3 a4 s0 = .next t → Same 18014679987658660 s0 t := by
  intro a0 a1 a2 a3 a4 s0 t ht
  unfold execMonitorWindow at ht
  refine Same.next ht ?_
  refine Same.thru (doMonitor_same ..) rfl ?_
  first | assumption | exact Same.refl _ _

theorem execMoveToSpare_same : ∀ a0 a1 s0 t, execMoveToSpare a0 a1 s0 = .next t → Same 18014679836660740 s0 t := by
  intro a0 a1 s0 t ht
  unfold execMoveToSpare at ht
  refine Same.next ht ?_
  refine Same.thru (doMoveSpare_same ..) rfl ?_
  refine Same.thru (hear_same ..) rfl ?_
  first | assumption | exact Same.refl _ _

theorem execMoveBack_same : ∀ a0 a1 s0 t, execMoveBack a0 a1 s0 = .next t → Same 4194304 s0 t := by
  intro a0 a1 s0 t ht
  unfold execMoveBack at ht
  refine Same.next ht ?_
  refine Same.thru (doMoveBack_same ..) rfl ?_
  refine Same.thru (hear_same ..) rfl ?_
  first | assumption | exact Same.refl _ _

theorem execLineFailed_same : ∀ a0 a1 s0 t, execLineFailed a0 a1 s0 = .next t → Same 18014679987658660 s0 t := by
  intro a0 a1 s0 t ht
  unfold execLineFailed at ht
  refine Same.next ht ?_
  refine Same.thru (doLineFailed_same ..) rfl ?_
  refine Same.thru (hear_same ..) rfl ?_
  first | assumption | exact Same.refl _ _

theorem execTxSuspect_same : ∀ a0 a1 s0 t, execTxSuspect a0 a1 s0 = .next t → Same 4199424 s0 t := by
  intro a0 a1 s0 t ht
  unfold execTxSuspect at ht
  refine Same.next ht ?_
  refine Same.thru (doSuspect_same ..) rfl ?_
  refine Same.thru (hear_same ..) rfl ?_
  first | assumption | exact Same.refl _ _

theorem execMonReport_same : ∀ a0 a1 s0 t, execMonReport a0 a1 s0 = .next t → Same 18014398664679328 s0 t := by
  intro a0 a1 s0 t ht
  unfold execMonReport at ht
  refine Same.next ht ?_
  refine Same.thru (doMonReport_same ..) rfl ?_
  refine Same.thru (hear_same ..) rfl ?_
  first | assumption | exact Same.refl _ _

theorem execCalBegin_same : ∀ a0 a1 s0 t, execCalBegin a0 a1 s0 = .next t → Same 4195332 s0 t := by
  intro a0 a1 s0 t ht
  unfold execCalBegin at ht
  refine Same.next ht ?_
  refine Same.thru (doCalBegin_same ..) rfl ?_
  refine Same.thru (hear_same ..) rfl ?_
  first | assumption | exact Same.refl _ _

theorem execCalEnd_same : ∀ a0 a1 s0 t, execCalEnd a0 a1 s0 = .next t → Same 18014679836660740 s0 t := by
  intro a0 a1 s0 t ht
  unfold execCalEnd at ht
  refine Same.next ht ?_
  refine Same.thru (doCalEnd_same ..) rfl ?_
  refine Same.thru (hear_same ..) rfl ?_
  first | assumption | exact Same.refl _ _

theorem execWidth_same : ∀ a0 a1 s0 t, execWidth a0 a1 s0 = .next t → Same 18014398664679328 s0 t := by
  intro a0 a1 s0 t ht
  unfold execWidth at ht
  refine Same.next ht ?_
  refine Same.thru (doWidth_same ..) rfl ?_
  refine Same.thru (hear_same ..) rfl ?_
  first | assumption | exact Same.refl _ _

theorem execUnknownControlType_same : ∀ a0 a1 s0 t, execUnknownControlType a0 a1 s0 = .next t → Same 4198400 s0 t := by
  intro a0 a1 s0 t ht
  unfold execUnknownControlType at ht
  refine Same.next ht ?_
  refine Same.thru (doUnknownType_same ..) rfl ?_
  refine Same.thru (hear_same ..) rfl ?_
  first | assumption | exact Same.refl _ _

end Sys2Proof.Machine
end

