-- ==== Sys2Proof/Laws/FramePower.lean ====
section
/-! SUPPORT. Laws/FramePower.lean: which fields of the state each operation of Machine/Power.lean may change. -/
namespace Sys2Proof.Machine
open Sys2Proof

theorem stopStreams_same : ∀ s0, Same 34360262656 s0 (stopStreams s0) := by
  intro s0
  unfold stopStreams
  refine Same.foldl (fun r1 e2 h3 => ?_) ?_
  · refine Same.thru (abandon_same ..) rfl ?_
    first | assumption | exact Same.refl _ _
  · first | assumption | exact Same.refl _ _

theorem darkModule_same : ∀ a0 s0, Same 18014398517870592 s0 (darkModule a0 s0) := by
  intro a0 s0
  unfold darkModule
  refine Same.ite ?_ ?_
  · first | assumption | exact Same.refl _ _
  · refine Same.thru (emit_same ..) rfl ?_
    refine Same.thru (updLsm_same ..) rfl ?_
    first | assumption | exact Same.refl _ _

theorem darkLasers_same : ∀ s0, Same 18014398517870592 s0 (darkLasers s0) := by
  intro s0
  unfold darkLasers
  refine Same.foldl (fun r1 e2 h3 => ?_) ?_
  · refine Same.thru (darkModule_same ..) rfl ?_
    first | assumption | exact Same.refl _ _
  · first | assumption | exact Same.refl _ _

theorem allOff_same : ∀ s0, Same 27020497975664544 s0 (allOff s0) := by
  intro s0
  unfold allOff
  extract_lets -merge -underBinder -useContext +onlyGivenNames x1
  have h2 : Same 27020497975664544 s0 x1 := by
    unfold x1
    refine Same.foldl (fun r3 e4 h5 => ?_) ?_
    · refine Same.thru (facetOff_same ..) rfl ?_
      first | assumption | exact Same.refl _ _
    · first | assumption | exact Same.refl _ _
  clear_value x1
  refine Same.thru (Same.put_hub_links_dirs _ _ _ _ (HubSt.wf_mk id id id) (fun h => wf_tkeep h) (fun h => wf_tkeep h)) rfl ?_
  first | assumption | exact Same.refl _ _

theorem doSagEnter_same : ∀ a0 s0, Same 18014404969267110 s0 (doSagEnter a0 s0) := by
  intro a0 s0
  unfold doSagEnter
  refine Same.ite ?_ ?_
  · first | assumption | exact Same.refl _ _
  · extract_lets -merge -underBinder -useContext +onlyGivenNames x1 x2 x3
    have h4 : Same 18014404969267110 s0 x3 := by
      unfold x3
      refine Same.thru (Same.put_pw _ _ (PowerSt.wf_mk id id id)) rfl ?_
      first | assumption | exact Same.refl _ _
    clear_value x3
    extract_lets -merge -underBinder -useContext +onlyGivenNames x5
    have h6 : Same 18014404969267110 s0 x5 := by
      unfold x5
      refine Same.foldl (fun r7 e8 h9 => ?_) ?_
      · refine Same.ite ?_ ?_
        · first | assumption | exact Same.refl _ _
        · refine Same.thru (raiseLevel_same ..) rfl ?_
          refine Same.thru (updFacet_same ..) rfl ?_
          first | assumption | exact Same.refl _ _
      · first | assumption | exact Same.refl _ _
    clear_value x5
    refine Same.thru (powerEvent_same ..) rfl ?_
    first | assumption | exact Same.refl _ _

theorem leaveSag_same : ∀ s0, Same 8192 s0 (leaveSag s0) := by
  intro s0
  unfold leaveSag
  refine Same.ite ?_ ?_
  · refine Same.thru (Same.put_pw _ _ (PowerSt.wf_mk id id id)) rfl ?_
    first | assumption | exact Same.refl _ _
  · first | assumption | exact Same.refl _ _

theorem startStop_same : ∀ a0 s0, Same 27020497984061344 s0 (startStop a0 s0) := by
  intro a0 s0
  unfold startStop
  extract_lets -merge -underBinder -useContext +onlyGivenNames x1 x2 x3 x4
  have h5 : Same 27020497984061344 s0 x1 := by
    unfold x1
    refine Same.thru (leaveSag_same ..) rfl ?_
    first | assumption | exact Same.refl _ _
  clear_value x1
  have h6 : Same 27020497984061344 s0 x3 := by
    unfold x3
    refine Same.thru (powerEvent_same ..) rfl ?_
    refine Same.thru (Same.put_pw _ _ (PowerSt.wf_mk id id id)) rfl ?_
    first | assumption | exact Same.refl _ _
  clear_value x3
  have h7 : Same 27020497984061344 s0 x4 := by
    unfold x4
    refine Same.thru (stopStreams_same ..) rfl ?_
    first | assumption | exact Same.refl _ _
  clear_value x4
  extract_lets -merge -underBinder -useContext +onlyGivenNames x8 x9
  have h10 : Same 27020497984061344 s0 x8 := by
    unfold x8
    refine Same.thru (allOff_same ..) rfl ?_
    refine Same.thru (darkLasers_same ..) rfl ?_
    refine Same.thru (Same.put_ubuf _ _ (fun _ => wf_nil _)) rfl ?_
    first | assumption | exact Same.refl _ _
  clear_value x8
  have h11 : Same 27020497984061344 s0 x9 := by
    unfold x9
    refine Same.thru (flush_same ..) rfl ?_
    refine Same.thru (powerEvent_same ..) rfl ?_
    first | assumption | exact Same.refl _ _
  clear_value x9
  refine Same.thru (Same.put_jrnl _ _ (JournalSt.wf_mk id)) rfl ?_
  first | assumption | exact Same.refl _ _

theorem doStop_same : ∀ a0 a1 s0, Same 27020497984061344 s0 (doStop a0 a1 s0) := by
  intro a0 a1 s0
  unfold doStop
  refine Same.ite ?_ ?_
  · first | assumption | exact Same.refl _ _
  · refine Same.thru (startStop_same ..) rfl ?_
    refine Same.thru (Same.put_pw _ _ (PowerSt.wf_mk id id id)) rfl ?_
    first | assumption | exact Same.refl _ _

theorem doSagTimeout_same : ∀ s0, Same 27020497984061346 s0 (doSagTimeout s0) := by
  intro s0
  unfold doSagTimeout
  refine Same.ite ?_ ?_
  · refine Same.thru (startStop_same ..) rfl ?_
    refine Same.thru (advanceTo_same ..) rfl ?_
    first | assumption | exact Same.refl _ _
  · first | assumption | exact Same.refl _ _

theorem doSagExit_same : ∀ a0 s0, Same 27020497984061346 s0 (doSagExit a0 s0) := by
  intro a0 s0
  unfold doSagExit
  refine Same.ite ?_ ?_
  · first | assumption | exact Same.refl _ _
  · refine Same.ite ?_ ?_
    · refine Same.thru (doSagTimeout_same ..) rfl ?_
      refine Same.thru (Same.put_pw _ _ (PowerSt.wf_mk id id id)) rfl ?_
      first | assumption | exact Same.refl _ _
    · extract_lets -merge -underBinder -useContext +onlyGivenNames x1
      have h2 : Same 27020497984061346 s0 x1 := by
        unfold x1
        refine Same.thru (leaveSag_same ..) rfl ?_
        refine Same.thru (advanceTo_same ..) rfl ?_
        first | assumption | exact Same.refl _ _
      clear_value x1
      refine Same.thru (powerEvent_same ..) rfl ?_
      refine Same.thru (Same.put_pw _ _ (PowerSt.wf_mk id id id)) rfl ?_
      first | assumption | exact Same.refl _ _

theorem doStopComplete_same : ∀ s0, Same 8224 s0 (doStopComplete s0) := by
  intro s0
  unfold doStopComplete
  refine Same.ite ?_ ?_
  · refine Same.thru (Same.put_hub_pw _ _ _ (HubSt.wf_mk id id id) (PowerSt.wf_mk id id id)) rfl ?_
    first | assumption | exact Same.refl _ _
  · first | assumption | exact Same.refl _ _

theorem hubsGone_same : ∀ s0, Same 27020497984053152 s0 (hubsGone s0) := by
  intro s0
  unfold hubsGone
  extract_lets -merge -underBinder -useContext +onlyGivenNames x1
  have h2 : Same 27020497984053152 s0 x1 := by
    unfold x1
    refine Same.thru (stopStreams_same ..) rfl ?_
    first | assumption | exact Same.refl _ _
  clear_value x1
  extract_lets -merge -underBinder -useContext +onlyGivenNames x3
  extract_lets -merge -underBinder -useContext +onlyGivenNames x4
  extract_lets -merge -underBinder -useContext +onlyGivenNames x5
  have h6 : Same 27020497984053152 s0 x5 := by
    unfold x5
    refine Same.thru (darkLasers_same ..) rfl ?_
    refine Same.thru (Same.put_hub_jrnl_ubuf _ _ _ _ (HubSt.wf_mk id id id) (JournalSt.wf_mk id) (fun _ => wf_nil _)) rfl ?_
    first | assumption | exact Same.refl _ _
  clear_value x5
  refine Same.foldl (fun r7 e8 h9 => ?_) ?_
  · refine Same.ite ?_ ?_
    · first | assumption | exact Same.refl _ _
    · refine Same.thru (facetOff_same ..) rfl ?_
      first | assumption | exact Same.refl _ _
  · first | assumption | exact Same.refl _ _

theorem doCapWindow_same : ∀ a0 s0, Same 18014398526275490 s0 (doCapWindow a0 s0) := by
  intro a0 s0
  unfold doCapWindow
  refine Same.ite ?_ ?_
  · first | assumption | exact Same.refl _ _
  · extract_lets -merge -underBinder -useContext +onlyGivenNames x1 x2 x3 x4 x5 x6 x7
    have h8 : Same 18014398526275490 s0 x1 := by
      unfold x1
      refine Same.thru (advanceTo_same ..) rfl ?_
      first | assumption | exact Same.refl _ _
    clear_value x1
    have h9 : Same 18014398526275490 s0 x4 := by
      unfold x4
      refine Same.thru (Same.put_pw _ _ (PowerSt.wf_mk id id id)) rfl ?_
      first | assumption | exact Same.refl _ _
    clear_value x4
    extract_lets -merge -underBinder -useContext +onlyGivenNames x10 x11
    have h12 : Same 18014398526275490 s0 x10 := by
      unfold x10
      refine Same.thru (Same.put_pw _ _ (PowerSt.wf_mk id id id)) rfl ?_
      first | assumption | exact Same.refl _ _
    clear_value x10
    refine Same.ite ?_ ?_
    · refine Same.thru (powerEvent_same ..) rfl ?_
      refine Same.thru (Same.put_pw _ _ (PowerSt.wf_mk id id id)) rfl ?_
      first | assumption | exact Same.refl _ _
    · first | assumption | exact Same.refl _ _

theorem doSharedModel_same : ∀ a0 a1 s0, Same 18014404974509990 s0 (doSharedModel a0 a1 s0) := by
  intro a0 a1 s0
  unfold doSharedModel
  refine Same.ite ?_ ?_
  · first | assumption | exact Same.refl _ _
  · extract_lets -merge -underBinder -useContext +onlyGivenNames x1 x2
    have h3 : Same 18014404974509990 s0 x1 := by
      unfold x1
      refine Same.thru (advanceTo_same ..) rfl ?_
      first | assumption | exact Same.refl _ _
    clear_value x1
    extract_lets -merge -underBinder -useContext +onlyGivenNames x4
    have h5 : Same 18014404974509990 s0 x4 := by
      unfold x4
      refine Same.thru (Same.put_pw _ _ (PowerSt.wf_mk id id id)) rfl ?_
      first | assumption | exact Same.refl _ _
    clear_value x4
    refine Same.thru (setTemps_same ..) rfl ?_
    first | assumption | exact Same.refl _ _

theorem failSensor_same : ∀ a0 a1 s0, Same 18014398526275488 s0 (failSensor a0 a1 s0) := by
  intro a0 a1 s0
  unfold failSensor
  extract_lets -merge -underBinder -useContext +onlyGivenNames x1 x2
  extract_lets -merge -underBinder -useContext +onlyGivenNames x3
  have h4 : Same 18014398526275488 s0 x3 := by
    unfold x3
    refine Same.thru (powerEvent_same ..) rfl ?_
    refine Same.thru (Same.put_pw _ _ (PowerSt.wf_mk id (fun h => wf_tset h) id)) rfl ?_
    first | assumption | exact Same.refl _ _
  clear_value x3
  refine Same.ite ?_ ?_
  · refine Same.thru (powerEvent_same ..) rfl ?_
    first | assumption | exact Same.refl _ _
  · first | assumption | exact Same.refl _ _

theorem readSensor_same : ∀ a0 s0, Same 18014398526275488 s0 (readSensor a0 s0) := by
  intro a0 s0
  unfold readSensor
  refine Same.ite ?_ ?_
  · first | assumption | exact Same.refl _ _
  · extract_lets -merge -underBinder -useContext +onlyGivenNames x1
    refine Same.ite ?_ ?_
    · refine Same.thru (failSensor_same ..) rfl ?_
      first | assumption | exact Same.refl _ _
    · refine Same.thru (Same.put_pw _ _ (PowerSt.wf_mk id id (fun h => wf_tset h))) rfl ?_
      first | assumption | exact Same.refl _ _

theorem doAnchor_same : ∀ a0 s0, Same 18014398526275490 s0 (doAnchor a0 s0) := by
  intro a0 s0
  unfold doAnchor
  refine Same.ite ?_ ?_
  · first | assumption | exact Same.refl _ _
  · extract_lets -merge -underBinder -useContext +onlyGivenNames x1 x2
    have h3 : Same 18014398526275490 s0 x1 := by
      unfold x1
      refine Same.thru (advanceTo_same ..) rfl ?_
      first | assumption | exact Same.refl _ _
    clear_value x1
    refine Same.foldl (fun r4 e5 h6 => ?_) ?_
    · refine Same.thru (readSensor_same ..) rfl ?_
      first | assumption | exact Same.refl _ _
    · refine Same.thru (Same.put_pw _ _ (PowerSt.wf_mk id id id)) rfl ?_
      first | assumption | exact Same.refl _ _

theorem doDieSensors_same : ∀ a0 a1 a2 s0, Same 18014398526275488 s0 (doDieSensors a0 a1 a2 s0) := by
  intro a0 a1 a2 s0
  unfold doDieSensors
  split
  · refine Same.ite ?_ ?_
    · refine Same.foldl (fun r1 e2 h3 => ?_) ?_
      · refine Same.thru (readSensor_same ..) rfl ?_
        first | assumption | exact Same.refl _ _
      · first | assumption | exact Same.refl _ _
    · first | assumption | exact Same.refl _ _
  · first | assumption | exact Same.refl _ _

theorem commitTrip_same : ∀ a0 s0, Same 8576 s0 (commitTrip a0 s0) := by
  intro a0 s0
  unfold commitTrip
  extract_lets -merge -underBinder -useContext +onlyGivenNames x1 x2
  refine Same.thru (Same.put_flash_standby_pw _ _ _ _ (FlashSt.wf_mk id (fun h => wf_tset (wf_ite (wf_tclear h) (h)))) (PowerSt.wf_mk id id id)) rfl ?_
  first | assumption | exact Same.refl _ _

theorem tripStop_same : ∀ a0 s0, Same 27020497984061344 s0 (tripStop a0 s0) := by
  intro a0 s0
  unfold tripStop
  extract_lets -merge -underBinder -useContext +onlyGivenNames x1
  extract_lets -merge -underBinder -useContext +onlyGivenNames x2
  extract_lets -merge -underBinder -useContext +onlyGivenNames x3
  have h4 : Same 27020497984061344 s0 x3 := by
    unfold x3
    refine Same.thru (allOff_same ..) rfl ?_
    refine Same.thru (darkLasers_same ..) rfl ?_
    refine Same.thru (Same.put_hub_pw _ _ _ (HubSt.wf_mk id id id) (PowerSt.wf_mk id id id)) rfl ?_
    first | assumption | exact Same.refl _ _
  clear_value x3
  refine Same.thru (Same.put_standby_pw _ _ _ (PowerSt.wf_mk id id id)) rfl ?_
  first | assumption | exact Same.refl _ _

theorem tripJournal_same : ∀ a0 a1 s0, Same 18014398526275488 s0 (tripJournal a0 a1 s0) := by
  intro a0 a1 s0
  unfold tripJournal
  extract_lets -merge -underBinder -useContext +onlyGivenNames x1 x2 x3
  have h4 : Same 18014398526275488 s0 x1 := by
    unfold x1
    refine Same.thru (powerEvent_same ..) rfl ?_
    first | assumption | exact Same.refl _ _
  clear_value x1
  have h5 : Same 18014398526275488 s0 x2 := by
    unfold x2
    refine Same.ite ?_ ?_
    · refine Same.thru (commitTrip_same ..) rfl ?_
      first | assumption | exact Same.refl _ _
    · first | assumption | exact Same.refl _ _
  clear_value x2
  have h6 : Same 18014398526275488 s0 x3 := by
    unfold x3
    refine Same.thru (flush_same ..) rfl ?_
    first | assumption | exact Same.refl _ _
  clear_value x3
  refine Same.thru (Same.put_jrnl _ _ (JournalSt.wf_mk id)) rfl ?_
  first | assumption | exact Same.refl _ _

theorem doTrip_same : ∀ a0 a1 a2 a3 s0, Same 27020497984061344 s0 (doTrip a0 a1 a2 a3 s0) := by
  intro a0 a1 a2 a3 s0
  unfold doTrip
  refine Same.ite ?_ ?_
  · first | assumption | exact Same.refl _ _
  · extract_lets -merge -underBinder -useContext +onlyGivenNames x1 x2
    have h3 : Same 27020497984061344 s0 x2 := by
      unfold x2
      refine Same.thru (Same.put_pw _ _ (PowerSt.wf_mk (fun h => wf_ite (wf_tset h) (h)) id id)) rfl ?_
      first | assumption | exact Same.refl _ _
    clear_value x2
    extract_lets -merge -underBinder -useContext +onlyGivenNames x4
    refine Same.ite ?_ ?_
    · extract_lets -merge -underBinder -useContext +onlyGivenNames x5
      have h6 : Same 27020497984061344 s0 x5 := by
        unfold x5
        refine Same.thru (tripStop_same ..) rfl ?_
        first | assumption | exact Same.refl _ _
      clear_value x5
      refine Same.thru (Same.put_jrnl_pw _ _ _ (JournalSt.wf_mk id) (PowerSt.wf_mk id id id)) rfl ?_
      first | assumption | exact Same.refl _ _
    · refine Same.thru (tripJournal_same ..) rfl ?_
      refine Same.thru (tripStop_same ..) rfl ?_
      first | assumption | exact Same.refl _ _

theorem doCoolant_same : ∀ a0 s0, Same 8192 s0 (doCoolant a0 s0) := by
  intro a0 s0
  unfold doCoolant
  refine Same.ite ?_ ?_
  · refine Same.thru (Same.put_pw _ _ (PowerSt.wf_mk id id id)) rfl ?_
    first | assumption | exact Same.refl _ _
  · first | assumption | exact Same.refl _ _

theorem execSagEnter_same : ∀ a0 s0 t, execSagEnter a0 s0 = .next t → Same 18014404969267110 s0 t := by
  intro a0 s0 t ht
  unfold execSagEnter at ht
  refine Same.next ht ?_
  refine Same.thru (doSagEnter_same ..) rfl ?_
  first | assumption | exact Same.refl _ _

theorem execSagExit_same : ∀ a0 s0 t, execSagExit a0 s0 = .next t → Same 27020497984061346 s0 t := by
  intro a0 s0 t ht
  unfold execSagExit at ht
  refine Same.next ht ?_
  refine Same.thru (doSagExit_same ..) rfl ?_
  first | assumption | exact Same.refl _ _

theorem execSagTimeout_same : ∀ s0 t, execSagTimeout s0 = .next t → Same 27020497984061346 s0 t := by
  intro s0 t ht
  unfold execSagTimeout at ht
  refine Same.next ht ?_
  refine Same.thru (doSagTimeout_same ..) rfl ?_
  first | assumption | exact Same.refl _ _

theorem execOrderlyStop_same : ∀ a0 a1 s0 t, execOrderlyStop a0 a1 s0 = .next t → Same 27020497984061344 s0 t := by
  intro a0 a1 s0 t ht
  unfold execOrderlyStop at ht
  refine Same.next ht ?_
  refine Same.thru (doStop_same ..) rfl ?_
  first | assumption | exact Same.refl _ _

theorem execStopComplete_same : ∀ s0 t, execStopComplete s0 = .next t → Same 8224 s0 t := by
  intro s0 t ht
  unfold execStopComplete at ht
  refine Same.next ht ?_
  refine Same.thru (doStopComplete_same ..) rfl ?_
  first | assumption | exact Same.refl _ _

theorem execPowerCapWindow_same : ∀ a0 s0 t, execPowerCapWindow a0 s0 = .next t → Same 18014398526275490 s0 t := by
  intro a0 s0 t ht
  unfold execPowerCapWindow at ht
  refine Same.next ht ?_
  refine Same.thru (doCapWindow_same ..) rfl ?_
  first | assumption | exact Same.refl _ _

theorem execSharedModelUpdate_same : ∀ a0 a1 s0 t, execSharedModelUpdate a0 a1 s0 = .next t → Same 18014404974509990 s0 t := by
  intro a0 a1 s0 t ht
  unfold execSharedModelUpdate at ht
  refine Same.next ht ?_
  refine Same.thru (doSharedModel_same ..) rfl ?_
  first | assumption | exact Same.refl _ _

theorem execThermalAnchor_same : ∀ a0 s0 t, execThermalAnchor a0 s0 = .next t → Same 18014398526275490 s0 t := by
  intro a0 s0 t ht
  unfold execThermalAnchor at ht
  refine Same.next ht ?_
  refine Same.thru (doAnchor_same ..) rfl ?_
  first | assumption | exact Same.refl _ _

theorem execDieSensors_same : ∀ a0 a1 a2 s0 t, execDieSensors a0 a1 a2 s0 = .next t → Same 18014398526275488 s0 t := by
  intro a0 a1 a2 s0 t ht
  unfold execDieSensors at ht
  refine Same.next ht ?_
  refine Same.thru (doDieSensors_same ..) rfl ?_
  first | assumption | exact Same.refl _ _

theorem execThermalTrip_same : ∀ a0 a1 a2 a3 s0 t, execThermalTrip a0 a1 a2 a3 s0 = .next t → Same 27020497984061344 s0 t := by
  intro a0 a1 a2 a3 s0 t ht
  unfold execThermalTrip at ht
  refine Same.next ht ?_
  refine Same.thru (doTrip_same ..) rfl ?_
  first | assumption | exact Same.refl _ _

theorem execCoolantInletReport_same : ∀ a0 s0 t, execCoolantInletReport a0 s0 = .next t → Same 8192 s0 t := by
  intro a0 s0 t ht
  unfold execCoolantInletReport at ht
  refine Same.next ht ?_
  refine Same.thru (doCoolant_same ..) rfl ?_
  first | assumption | exact Same.refl _ _

end Sys2Proof.Machine
end

