-- ==== Sys2Proof/Laws/FrameSecure.lean ====
section
/-! SUPPORT. Laws/FrameSecure.lean: which fields of the state each operation of Machine/Secure.lean may change. -/
namespace Sys2Proof.Machine
open Sys2Proof

theorem secEvent_same : ∀ a0 a1 a2 s0, Same 18014398526263200 s0 (secEvent a0 a1 a2 s0) := by
  intro a0 a1 a2 s0
  unfold secEvent
  refine Same.thru (journal_same ..) rfl ?_
  first | assumption | exact Same.refl _ _

theorem coldRefusal_same : ∀ s0, Same 18014398526267296 s0 (coldRefusal s0) := by
  intro s0
  unfold coldRefusal
  refine Same.thru (powerEvent_same ..) rfl ?_
  first | assumption | exact Same.refl _ _

theorem wipeSecure_same : ∀ s0, Same 18014398513679424 s0 (wipeSecure s0) := by
  intro s0
  unfold wipeSecure
  extract_lets -merge -underBinder -useContext +onlyGivenNames x1 x2 x3 x4
  have h5 : Same 18014398513679424 s0 x3 := by
    unfold x3
    refine Same.thru (Same.put_sec _ _ (SecSt.wf_mk (fun _ => wf_nil _))) rfl ?_
    first | assumption | exact Same.refl _ _
  clear_value x3
  have h6 : Same 18014398513679424 s0 x4 := by
    unfold x4
    refine Same.ite ?_ ?_
    · refine Same.thru (mirrorKeys_same ..) rfl ?_
      first | assumption | exact Same.refl _ _
    · first | assumption | exact Same.refl _ _
  clear_value x4
  extract_lets -merge -underBinder -useContext +onlyGivenNames x7
  extract_lets -merge -underBinder -useContext +onlyGivenNames x8
  extract_lets -merge -underBinder -useContext +onlyGivenNames x9
  have h10 : Same 18014398513679424 s0 x9 := by
    unfold x9
    refine Same.thru (Same.put_sec_twin _ _ _ (SecSt.wf_mk id) (TwinSt.wf_mk id id)) rfl ?_
    first | assumption | exact Same.refl _ _
  clear_value x9
  refine Same.foldl (fun r11 e12 h13 => ?_) ?_
  · refine Same.thru (updOe_same ..) rfl ?_
    first | assumption | exact Same.refl _ _
  · first | assumption | exact Same.refl _ _

theorem doTamper_same : ∀ a0 s0, Same 27022183646126048 s0 (doTamper a0 s0) := by
  intro a0 s0
  unfold doTamper
  refine Same.ite ?_ ?_
  · first | assumption | exact Same.refl _ _
  · extract_lets -merge -underBinder -useContext +onlyGivenNames x1 x2 x3 x4 x5 x6
    have h7 : Same 27022183646126048 s0 x3 := by
      unfold x3
      refine Same.thru (wipeSecure_same ..) rfl ?_
      first | assumption | exact Same.refl _ _
    clear_value x3
    have h8 : Same 27022183646126048 s0 x6 := by
      unfold x6
      refine Same.thru (Same.put_sec _ _ (SecSt.wf_mk id)) rfl ?_
      first | assumption | exact Same.refl _ _
    clear_value x6
    extract_lets -merge -underBinder -useContext +onlyGivenNames x9
    have h10 : Same 27022183646126048 s0 x9 := by
      unfold x9
      refine Same.thru (secEvent_same ..) rfl ?_
      refine Same.thru (report_same ..) rfl ?_
      first | assumption | exact Same.refl _ _
    clear_value x9
    refine Same.foldl (fun r11 e12 h13 => ?_) ?_
    · extract_lets -merge -underBinder -useContext +onlyGivenNames x14 x15
      have h16 : Same 27022183646126048 s0 x15 := by
        unfold x15
        refine Same.thru (chargeFault_same ..) rfl ?_
        first | assumption | exact Same.refl _ _
      clear_value x15
      refine Same.thru (startTear_same ..) rfl ?_
      first | assumption | exact Same.refl _ _
    · first | assumption | exact Same.refl _ _

theorem writeImage_same : ∀ a0 s0, Same 128 s0 (writeImage a0 s0) := by
  intro a0 s0
  unfold writeImage
  refine Same.thru (Same.put_flash _ _ (FlashSt.wf_mk id id)) rfl ?_
  first | assumption | exact Same.refl _ _

theorem sessionOpen_same : ∀ a0 s0, Same 72 s0 (sessionOpen a0 s0).2 := by
  intro a0 s0
  unfold sessionOpen
  extract_lets -merge -underBinder -useContext +onlyGivenNames x1 x2 x3
  split
  rename_i v4 v5 v6 hq7
  extract_lets -merge -underBinder -useContext +onlyGivenNames x8 x9 x10 x11 x12
  dsimp -zeta only
  refine Same.thru (Same.put_sec _ _ (SecSt.wf_mk id)) rfl ?_
  have h13 : Same 72 s0 v6 := Same.of_eq Prod.snd hq7 (by
    refine Same.thru (drawRandom_same ..) rfl ?_
    first | assumption | exact Same.refl _ _
    )
  first | assumption | exact Same.refl _ _

theorem dropSession_same : ∀ a0 s0, Same 64 s0 (dropSession a0 s0) := by
  intro a0 s0
  unfold dropSession
  refine Same.thru (Same.put_sec _ _ (SecSt.wf_mk id)) rfl ?_
  first | assumption | exact Same.refl _ _

theorem provisionRefused_same : ∀ a0 a1 s0, Same 64 s0 (provisionRefused a0 a1 s0) := by
  intro a0 a1 s0
  unfold provisionRefused
  refine Same.ite ?_ ?_
  · refine Same.thru (dropSession_same ..) rfl ?_
    first | assumption | exact Same.refl _ _
  · first | assumption | exact Same.refl _ _

theorem installKey_same : ∀ a0 a1 a2 a3 a4 s0, Same 18014398509485120 s0 (installKey a0 a1 a2 a3 a4 s0) := by
  intro a0 a1 a2 a3 a4 s0
  unfold installKey
  extract_lets -merge -underBinder -useContext +onlyGivenNames x1
  have h2 : Same 18014398509485120 s0 x1 := by
    unfold x1
    refine Same.thru (setKey_same ..) rfl ?_
    first | assumption | exact Same.refl _ _
  clear_value x1
  refine Same.ite ?_ ?_
  · refine Same.thru (mirrorKeys_same ..) rfl ?_
    first | assumption | exact Same.refl _ _
  · first | assumption | exact Same.refl _ _

theorem keyProvision_same : ∀ a0 s0, Same 18014398509485120 s0 (keyProvision a0 s0).2 := by
  intro a0 s0
  unfold keyProvision
  extract_lets -merge -underBinder -useContext +onlyGivenNames x1
  split
  · first | assumption | exact Same.refl _ _
  · extract_lets -merge -underBinder -useContext +onlyGivenNames x2
    dsimp -zeta only
    refine Same.thru (installKey_same ..) rfl ?_
    refine Same.thru (dropSession_same ..) rfl ?_
    first | assumption | exact Same.refl _ _

theorem doSessionTimeout_same : ∀ a0 s0, Same 66 s0 (doSessionTimeout a0 s0) := by
  intro a0 s0
  unfold doSessionTimeout
  split
  · refine Same.thru (dropSession_same ..) rfl ?_
    refine Same.thru (advanceTo_same ..) rfl ?_
    first | assumption | exact Same.refl _ _
  · first | assumption | exact Same.refl _ _

theorem sendReport4_same : ∀ a0 a1 a2 a3 s0, Same 18014398509483008 s0 (sendReport4 a0 a1 a2 a3 s0) := by
  intro a0 a1 a2 a3 s0
  unfold sendReport4
  refine Same.thru (sendMgmt_same ..) rfl ?_
  first | assumption | exact Same.refl _ _

theorem keyRecover_same : ∀ a0 a1 s0, Same 18014398509485128 s0 (keyRecover a0 a1 s0) := by
  intro a0 a1 s0
  unfold keyRecover
  extract_lets -merge -underBinder -useContext +onlyGivenNames x1 x2 x3
  refine Same.ite ?_ ?_
  · split
    · refine Same.thru (installKey_same ..) rfl ?_
      first | assumption | exact Same.refl _ _
    · first | assumption | exact Same.refl _ _
  · extract_lets -merge -underBinder -useContext +onlyGivenNames x4 x5 x6
    split
    rename_i v7 v8 v9 hq10
    extract_lets -merge -underBinder -useContext +onlyGivenNames x11 x12 x13
    refine Same.thru (sendReport4_same ..) rfl ?_
    refine Same.thru (Same.put_sec _ _ (SecSt.wf_mk id)) rfl ?_
    have h14 : Same 18014398509485128 s0 v9 := Same.of_eq Prod.snd hq10 (by
      refine Same.thru (drawRandom_same ..) rfl ?_
      first | assumption | exact Same.refl _ _
      )
    first | assumption | exact Same.refl _ _

theorem doRecoverResponse_same : ∀ a0 a1 a2 a3 a4 s0, Same 18014398526263264 s0 (doRecoverResponse a0 a1 a2 a3 a4 s0) := by
  intro a0 a1 a2 a3 a4 s0
  unfold doRecoverResponse
  split
  · first | assumption | exact Same.refl _ _
  · refine Same.ite ?_ ?_
    · first | assumption | exact Same.refl _ _
    · extract_lets -merge -underBinder -useContext +onlyGivenNames x1 x2 x3 x4 x5
      extract_lets -merge -underBinder -useContext +onlyGivenNames x6
      have h7 : Same 18014398526263264 s0 x6 := by
        unfold x6
        refine Same.thru (Same.put_sec _ _ (SecSt.wf_mk id)) rfl ?_
        first | assumption | exact Same.refl _ _
      clear_value x6
      refine Same.ite ?_ ?_
      · refine Same.thru (secEvent_same ..) rfl ?_
        refine Same.thru (installKey_same ..) rfl ?_
        first | assumption | exact Same.refl _ _
      · refine Same.thru (secEvent_same ..) rfl ?_
        first | assumption | exact Same.refl _ _

theorem doRecoverTimeout_same : ∀ s0, Same 18014398526263266 s0 (doRecoverTimeout s0) := by
  intro s0
  unfold doRecoverTimeout
  split
  · first | assumption | exact Same.refl _ _
  · refine Same.thru (secEvent_same ..) rfl ?_
    extract_lets -merge -underBinder -useContext +onlyGivenNames x1
    have h2 : Same 18014398526263266 s0 x1 := by
      unfold x1
      refine Same.thru (advanceTo_same ..) rfl ?_
      first | assumption | exact Same.refl _ _
    clear_value x1
    refine Same.thru (Same.put_sec _ _ (SecSt.wf_mk id)) rfl ?_
    first | assumption | exact Same.refl _ _

theorem recoverServe_same : ∀ a0 a1 a2 s0, Same 18014398526263208 s0 (recoverServe a0 a1 a2 s0) := by
  intro a0 a1 a2 s0
  unfold recoverServe
  extract_lets -merge -underBinder -useContext +onlyGivenNames x1 x2 x3 x4 x5
  refine Same.ite ?_ ?_
  · refine Same.thru (secEvent_same ..) rfl ?_
    first | assumption | exact Same.refl _ _
  · split
    rename_i v6 v7 v8 hq9
    extract_lets -merge -underBinder -useContext +onlyGivenNames x10 x11 x12 x13
    refine Same.thru (sendReport4_same ..) rfl ?_
    refine Same.thru (secEvent_same ..) rfl ?_
    have h14 : Same 18014398526263208 s0 v8 := Same.of_eq Prod.snd hq9 (by
      refine Same.thru (drawRandom_same ..) rfl ?_
      first | assumption | exact Same.refl _ _
      )
    first | assumption | exact Same.refl _ _

theorem lcBurn_same : ∀ a0 a1 s0, Same 18014398530457568 s0 (lcBurn a0 a1 s0) := by
  intro a0 a1 s0
  unfold lcBurn
  extract_lets -merge -underBinder -useContext +onlyGivenNames x1 x2 x3
  have h4 : Same 18014398530457568 s0 x3 := by
    unfold x3
    refine Same.thru (Same.put_sec _ _ (SecSt.wf_mk id)) rfl ?_
    first | assumption | exact Same.refl _ _
  clear_value x3
  extract_lets -merge -underBinder -useContext +onlyGivenNames x5
  have h6 : Same 18014398530457568 s0 x5 := by
    unfold x5
    refine Same.ite ?_ ?_
    · refine Same.thru (wipeSecure_same ..) rfl ?_
      first | assumption | exact Same.refl _ _
    · first | assumption | exact Same.refl _ _
  clear_value x5
  refine Same.thru (secEvent_same ..) rfl ?_
  first | assumption | exact Same.refl _ _

theorem lcApply_same : ∀ a0 s0, Same 18014398530457568 s0 (lcApply a0 s0) := by
  intro a0 s0
  unfold lcApply
  extract_lets -merge -underBinder -useContext +onlyGivenNames x1
  refine Same.ite ?_ ?_
  · refine Same.thru (lcBurn_same ..) rfl ?_
    first | assumption | exact Same.refl _ _
  · refine Same.ite ?_ ?_
    · refine Same.thru (lcBurn_same ..) rfl ?_
      first | assumption | exact Same.refl _ _
    · refine Same.ite ?_ ?_
      · refine Same.thru (lcBurn_same ..) rfl ?_
        refine Same.thru (Same.put_sec _ _ (SecSt.wf_mk id)) rfl ?_
        first | assumption | exact Same.refl _ _
      · refine Same.ite ?_ ?_
        · refine Same.thru (lcBurn_same ..) rfl ?_
          refine Same.thru (Same.put_sec _ _ (SecSt.wf_mk id)) rfl ?_
          first | assumption | exact Same.refl _ _
        · refine Same.thru (Same.put_sec _ _ (SecSt.wf_mk id)) rfl ?_
          first | assumption | exact Same.refl _ _

theorem doProvision_same : ∀ s0, Same 18014398530461676 s0 (doProvision s0) := by
  intro s0
  unfold doProvision
  refine Same.ite ?_ ?_
  · first | assumption | exact Same.refl _ _
  · refine Same.ite ?_ ?_
    · refine Same.thru (secEvent_same ..) rfl ?_
      first | assumption | exact Same.refl _ _
    · refine Same.ite ?_ ?_
      · refine Same.thru (secEvent_same ..) rfl ?_
        refine Same.thru (coldRefusal_same ..) rfl ?_
        first | assumption | exact Same.refl _ _
      · split
        rename_i v1 v2 v3 hq4
        split
        rename_i v5 v6 v7 hq8
        refine Same.thru (lcBurn_same ..) rfl ?_
        refine Same.thru (Same.put_sec _ _ (SecSt.wf_mk id)) rfl ?_
        have h9 : Same 18014398530461676 s0 v7 := Same.of_eq Prod.snd hq8 (by
          refine Same.thru (drawFree_same ..) rfl ?_
          have h10 : Same 18014398530461676 s0 v3 := Same.of_eq Prod.snd hq4 (by
            refine Same.thru (drawRandom_same ..) rfl ?_
            first | assumption | exact Same.refl _ _
            )
          first | assumption | exact Same.refl _ _
          )
        first | assumption | exact Same.refl _ _

theorem execTamperWipe_same : ∀ a0 s0 t, execTamperWipe a0 s0 = .next t → Same 27022183646126048 s0 t := by
  intro a0 s0 t ht
  unfold execTamperWipe at ht
  refine Same.next ht ?_
  refine Same.thru (doTamper_same ..) rfl ?_
  first | assumption | exact Same.refl _ _

theorem execSessionTimeout_same : ∀ a0 s0 t, execSessionTimeout a0 s0 = .next t → Same 66 s0 t := by
  intro a0 s0 t ht
  unfold execSessionTimeout at ht
  refine Same.next ht ?_
  refine Same.thru (doSessionTimeout_same ..) rfl ?_
  first | assumption | exact Same.refl _ _

theorem execKeyRecoverResponse_same : ∀ a0 a1 a2 a3 a4 s0 t, execKeyRecoverResponse a0 a1 a2 a3 a4 s0 = .next t → Same 18014398526263264 s0 t := by
  intro a0 a1 a2 a3 a4 s0 t ht
  unfold execKeyRecoverResponse at ht
  refine Same.next ht ?_
  refine Same.thru (doRecoverResponse_same ..) rfl ?_
  first | assumption | exact Same.refl _ _

theorem execKeyRecoverTimeout_same : ∀ s0 t, execKeyRecoverTimeout s0 = .next t → Same 18014398526263266 s0 t := by
  intro s0 t ht
  unfold execKeyRecoverTimeout at ht
  refine Same.next ht ?_
  refine Same.thru (doRecoverTimeout_same ..) rfl ?_
  first | assumption | exact Same.refl _ _

theorem execProvision_same : ∀ s0 t, execProvision s0 = .next t → Same 18014398530461676 s0 t := by
  intro s0 t ht
  unfold execProvision at ht
  refine Same.next ht ?_
  refine Same.thru (doProvision_same ..) rfl ?_
  first | assumption | exact Same.refl _ _

end Sys2Proof.Machine
end

