-- ==== Sys2Proof/Laws/FrameWrite.lean ====
section
/-! SUPPORT. Laws/FrameWrite.lean: which fields of the state each operation of Machine/Write.lean may change. -/
namespace Sys2Proof.Machine
open Sys2Proof

theorem addPend_same : ∀ a0 a1 a2 a3 s0, Same 18014398526263200 s0 (addPend a0 a1 a2 a3 s0) := by
  intro a0 a1 a2 a3 s0
  unfold addPend
  extract_lets -merge -underBinder -useContext +onlyGivenNames x1 x2
  refine Same.ite ?_ ?_
  · split
    · refine Same.thru (Same.put_mg _ _ (MgmtSt.wf_mk id id id id)) rfl ?_
      first | assumption | exact Same.refl _ _
    · extract_lets -merge -underBinder -useContext +onlyGivenNames x3 x4
      have h5 : Same 18014398526263200 s0 x4 := by
        unfold x4
        refine Same.thru (setValue_same ..) rfl ?_
        first | assumption | exact Same.refl _ _
      clear_value x4
      refine Same.ite ?_ ?_
      · first | assumption | exact Same.refl _ _
      · refine Same.thru (openEpoch_same ..) rfl ?_
        first | assumption | exact Same.refl _ _
  · refine Same.thru (Same.put_mg _ _ (MgmtSt.wf_mk id id id id)) rfl ?_
    first | assumption | exact Same.refl _ _

theorem setNow_same : ∀ a0 a1 a2 s0, Same 18524502882803638 s0 (setNow a0 a1 a2 s0) := by
  intro a0 a1 a2 s0
  unfold setNow
  extract_lets -merge -underBinder -useContext +onlyGivenNames x1 x2
  have h3 : Same 18524502882803638 s0 x2 := by
    unfold x2
    refine Same.thru (setValue_same ..) rfl ?_
    first | assumption | exact Same.refl _ _
  clear_value x2
  refine Same.ite ?_ ?_
  · refine Same.thru (openEpoch_same ..) rfl ?_
    first | assumption | exact Same.refl _ _
  · refine Same.ite ?_ ?_
    · refine Same.thru (tendAll_same ..) rfl ?_
      refine Same.thru (setLinkEnable_same ..) rfl ?_
      first | assumption | exact Same.refl _ _
    · refine Same.ite ?_ ?_
      · refine Same.thru (setLsmEnable_same ..) rfl ?_
        first | assumption | exact Same.refl _ _
      · refine Same.ite ?_ ?_
        · refine Same.thru (tendAll_same ..) rfl ?_
          first | assumption | exact Same.refl _ _
        · refine Same.ite ?_ ?_
          · refine Same.thru (updHost_same ..) rfl ?_
            first | assumption | exact Same.refl _ _
          · first | assumption | exact Same.refl _ _

theorem addPersist_same : ∀ a0 a1 a2 a3 s0, Same 1024 s0 (addPersist a0 a1 a2 a3 s0) := by
  intro a0 a1 a2 a3 s0
  unfold addPersist
  refine Same.thru (Same.put_mg _ _ (MgmtSt.wf_mk id id id id)) rfl ?_
  first | assumption | exact Same.refl _ _

theorem runCommand_same : ∀ a0 a1 a2 a3 s0, Same 36027697498841064 s0 (runCommand a0 a1 a2 a3 s0) := by
  intro a0 a1 a2 a3 s0
  unfold runCommand
  refine Same.ite ?_ ?_
  · refine Same.thru (facetResetStart_same ..) rfl ?_
    first | assumption | exact Same.refl _ _
  · refine Same.ite ?_ ?_
    · refine Same.thru (startLinkTest_same ..) rfl ?_
      first | assumption | exact Same.refl _ _
    · refine Same.ite ?_ ?_
      · refine Same.thru (releaseHolds_same ..) rfl ?_
        first | assumption | exact Same.refl _ _
      · refine Same.ite ?_ ?_
        · refine Same.thru (lcApply_same ..) rfl ?_
          first | assumption | exact Same.refl _ _
        · refine Same.ite ?_ ?_
          · refine Same.thru (writeImage_same ..) rfl ?_
            first | assumption | exact Same.refl _ _
          · refine Same.ite ?_ ?_
            · refine Same.thru (blobSet_same ..) rfl ?_
              first | assumption | exact Same.refl _ _
            · refine Same.ite ?_ ?_
              · split
                rename_i v1 v2 v3 hq4
                refine Same.thru (blobSet_same ..) rfl ?_
                have h5 : Same 36027697498841064 s0 v3 := Same.of_eq Prod.snd hq4 (by
                  refine Same.thru (sessionOpen_same ..) rfl ?_
                  first | assumption | exact Same.refl _ _
                  )
                first | assumption | exact Same.refl _ _
              · refine Same.ite ?_ ?_
                · split
                  rename_i v6 v7 v8 hq9
                  refine Same.thru (blobSet_same ..) rfl ?_
                  have h10 : Same 36027697498841064 s0 v8 := Same.of_eq Prod.snd hq9 (by
                    refine Same.thru (keyProvision_same ..) rfl ?_
                    first | assumption | exact Same.refl _ _
                    )
                  first | assumption | exact Same.refl _ _
                · refine Same.ite ?_ ?_
                  · refine Same.thru (keyRecover_same ..) rfl ?_
                    first | assumption | exact Same.refl _ _
                  · refine Same.ite ?_ ?_
                    · refine Same.thru (flush_same ..) rfl ?_
                      first | assumption | exact Same.refl _ _
                    · first | assumption | exact Same.refl _ _

theorem applyWriteOf_same : ∀ a0 a1 a2 a3 a4 s0, Same 36028797018857470 s0 (applyWriteOf a0 a1 a2 a3 a4 s0) := by
  intro a0 a1 a2 a3 a4 s0
  unfold applyWriteOf
  extract_lets -merge -underBinder -useContext +onlyGivenNames x1
  have h2 : Same 36028797018857470 s0 x1 := by
    unfold x1
    refine Same.thru (journal_same ..) rfl ?_
    first | assumption | exact Same.refl _ _
  clear_value x1
  refine Same.ite ?_ ?_
  · refine Same.thru (runCommand_same ..) rfl ?_
    first | assumption | exact Same.refl _ _
  · extract_lets -merge -underBinder -useContext +onlyGivenNames x3 x4
    have h5 : Same 36028797018857470 s0 x4 := by
      unfold x4
      refine Same.ite ?_ ?_
      · refine Same.thru (addPersist_same ..) rfl ?_
        first | assumption | exact Same.refl _ _
      · first | assumption | exact Same.refl _ _
    clear_value x4
    refine Same.ite ?_ ?_
    · refine Same.thru (setNow_same ..) rfl ?_
      first | assumption | exact Same.refl _ _
    · refine Same.thru (addPend_same ..) rfl ?_
      first | assumption | exact Same.refl _ _

theorem warmed_same : ∀ s0, Same 8192 s0 (warmed s0) := by
  intro s0
  unfold warmed
  refine Same.thru (Same.put_pw _ _ (PowerSt.wf_mk (fun h => wf_tset h) id id)) rfl ?_
  first | assumption | exact Same.refl _ _

theorem refuseWrite_same : ∀ a0 a1 a2 a3 a4 a5 s0, Same 18014398526267360 s0 (refuseWrite a0 a1 a2 a3 a4 a5 s0) := by
  intro a0 a1 a2 a3 a4 a5 s0
  unfold refuseWrite
  extract_lets -merge -underBinder -useContext +onlyGivenNames x1 x2 x3
  have h4 : Same 18014398526267360 s0 x2 := by
    unfold x2
    refine Same.ite ?_ ?_
    · refine Same.thru (coldRefusal_same ..) rfl ?_
      first | assumption | exact Same.refl _ _
    · first | assumption | exact Same.refl _ _
  clear_value x2
  have h5 : Same 18014398526267360 s0 x3 := by
    unfold x3
    refine Same.ite ?_ ?_
    · refine Same.thru (provisionRefused_same ..) rfl ?_
      first | assumption | exact Same.refl _ _
    · first | assumption | exact Same.refl _ _
  clear_value x3
  refine Same.ite ?_ ?_
  · refine Same.thru (journal_same ..) rfl ?_
    first | assumption | exact Same.refl _ _
  · first | assumption | exact Same.refl _ _

end Sys2Proof.Machine
end

