-- ==== Sys2Proof/Laws/FrameTwin.lean ====
section
/-! SUPPORT. Laws/FrameTwin.lean: which fields of the state each operation of Machine/Twin.lean may change. -/
namespace Sys2Proof.Machine
open Sys2Proof

theorem twinTo_same : ∀ a0 s0, Same 18014398526263200 s0 (twinTo a0 s0) := by
  intro a0 s0
  unfold twinTo
  extract_lets -merge -underBinder -useContext +onlyGivenNames x1
  refine Same.thru (journal_same ..) rfl ?_
  refine Same.thru (Same.put_twin _ _ (TwinSt.wf_mk id id)) rfl ?_
  first | assumption | exact Same.refl _ _

theorem mirrorLost_same : ∀ s0, Same 4096 s0 (mirrorLost s0) := by
  intro s0
  unfold mirrorLost
  refine Same.ite ?_ ?_
  · refine Same.thru (report_same ..) rfl ?_
    first | assumption | exact Same.refl _ _
  · first | assumption | exact Same.refl _ _

theorem twinNone_same : ∀ s0, Same 18014398526267360 s0 (twinNone s0) := by
  intro s0
  unfold twinNone
  extract_lets -merge -underBinder -useContext +onlyGivenNames x1
  have h2 : Same 18014398526267360 s0 x1 := by
    unfold x1
    refine Same.thru (twinTo_same ..) rfl ?_
    refine Same.thru (mirrorLost_same ..) rfl ?_
    first | assumption | exact Same.refl _ _
  clear_value x1
  refine Same.thru (Same.put_sec_twin _ _ _ (SecSt.wf_mk id) (TwinSt.wf_mk (fun _ => wf_nil _) id)) rfl ?_
  first | assumption | exact Same.refl _ _

theorem freshHold_same : ∀ s0, Same 2048 s0 (freshHold s0) := by
  intro s0
  unfold freshHold
  refine Same.thru (Same.put_twin _ _ (TwinSt.wf_mk (fun _ => wf_nil _) id)) rfl ?_
  first | assumption | exact Same.refl _ _

theorem twinBad_same : ∀ s0, Same 1024 s0 (twinBad s0) := by
  intro s0
  unfold twinBad
  refine Same.thru (countPath_same ..) rfl ?_
  first | assumption | exact Same.refl _ _

theorem fromTwin_thru : ∀ {m sb a0 a1 a2 a3 s0} (hm : 3072 ||| m = m) (hf3 : ∀ y0 z, Same m sb z → Same m sb (a3 y0 z)) (hs : Same m sb s0), Same m sb (fromTwin a0 a1 a2 a3 s0) := by
  intro m sb a0 a1 a2 a3 s0 hm hf3 hs
  unfold fromTwin
  split
  · refine Same.thru (twinBad_same ..) (Same.sub hm rfl) ?_
    first | assumption | exact Same.refl _ _
  · refine hf3 _ _ ?_
    refine Same.thru (Same.put_twin _ _ (TwinSt.wf_mk id id)) (Same.sub hm rfl) ?_
    first | assumption | exact Same.refl _ _

theorem ackTwin_same : ∀ a0 a1 s0, Same 18014398509485056 s0 (ackTwin a0 a1 s0) := by
  intro a0 a1 s0
  unfold ackTwin
  refine Same.thru (toTwin_same ..) rfl ?_
  first | assumption | exact Same.refl _ _

theorem sendImage_same : ∀ a0 s0, Same 18014398509485056 s0 (sendImage a0 s0) := by
  intro a0 s0
  unfold sendImage
  refine Same.foldl (fun r1 e2 h3 => ?_) ?_
  · refine Same.thru (toTwin_same ..) rfl ?_
    first | assumption | exact Same.refl _ _
  · first | assumption | exact Same.refl _ _

theorem sendBlob_same : ∀ a0 s0, Same 18014398509485056 s0 (sendBlob a0 s0) := by
  intro a0 s0
  unfold sendBlob
  extract_lets -merge -underBinder -useContext +onlyGivenNames x1 x2 x3 x4
  refine Same.thru (toTwin_same ..) rfl ?_
  refine Same.thru (Same.put_twin _ _ (TwinSt.wf_mk id id)) rfl ?_
  first | assumption | exact Same.refl _ _

theorem sendAll_thru : ∀ {m sb a0 s0} (hm : 2048 ||| m = m) (hf0 : ∀ z, Same m sb z → Same m sb (a0 z)) (hs : Same m sb s0), Same m sb (sendAll a0 s0) := by
  intro m sb a0 s0 hm hf0 hs
  unfold sendAll
  extract_lets -merge -underBinder -useContext +onlyGivenNames x1 x2
  have h3 : Same m sb x2 := by
    unfold x2
    refine hf0 _ ?_
    first | assumption | exact Same.refl _ _
  clear_value x2
  refine Same.thru (Same.put_twin _ _ (TwinSt.wf_mk id id)) (Same.sub hm rfl) ?_
  first | assumption | exact Same.refl _ _

theorem sendMirrors_same : ∀ s0, Same 18014398509485056 s0 (sendMirrors s0) := by
  intro s0
  unfold sendMirrors
  refine sendAll_thru rfl ?_ ?_
  · intro y1 hy2
    extract_lets -merge -underBinder -useContext +onlyGivenNames x3 x4
    have h5 : Same 18014398509485056 s0 x4 := by
      unfold x4
      refine Same.thru (sendBlob_same ..) rfl ?_
      refine Same.thru (sendImage_same ..) rfl ?_
      first | assumption | exact Same.refl _ _
    clear_value x4
    refine Same.foldl (fun r6 e7 h8 => ?_) ?_
    · refine Same.thru (toTwin_same ..) rfl ?_
      first | assumption | exact Same.refl _ _
    · first | assumption | exact Same.refl _ _
  · first | assumption | exact Same.refl _ _

theorem sendHeld_same : ∀ s0, Same 18014398509485056 s0 (sendHeld s0) := by
  intro s0
  unfold sendHeld
  refine sendAll_thru rfl ?_ ?_
  · intro y1 hy2
    extract_lets -merge -underBinder -useContext +onlyGivenNames x3 x4 x5 x6
    have h7 : Same 18014398509485056 s0 x3 := by
      unfold x3
      refine Same.ite ?_ ?_
      · first | assumption | exact Same.refl _ _
      · refine Same.thru (sendImage_same ..) rfl ?_
        first | assumption | exact Same.refl _ _
    clear_value x3
    have h8 : Same 18014398509485056 s0 x6 := by
      unfold x6
      refine Same.ite ?_ ?_
      · first | assumption | exact Same.refl _ _
      · refine Same.thru (sendBlob_same ..) rfl ?_
        first | assumption | exact Same.refl _ _
    clear_value x6
    refine Same.foldl (fun r9 e10 h11 => ?_) ?_
    · refine Same.thru (toTwin_same ..) rfl ?_
      first | assumption | exact Same.refl _ _
    · first | assumption | exact Same.refl _ _
  · first | assumption | exact Same.refl _ _

theorem twinPair_same : ∀ a0 s0, Same 18014398526263208 s0 (twinPair a0 s0) := by
  intro a0 s0
  unfold twinPair
  extract_lets -merge -underBinder -useContext +onlyGivenNames x1 x2 x3
  split
  rename_i v4 v5 v6 hq7
  extract_lets -merge -underBinder -useContext +onlyGivenNames x8 x9 x10 x11 x12
  refine Same.thru (sendReport4_same ..) rfl ?_
  refine Same.thru (twinTo_same ..) rfl ?_
  refine Same.thru (Same.put_twin _ _ (fun h => TwinSt.wf_ite ((TwinSt.wf_mk (fun _ => wf_nil _) (fun _ => wf_nil _)) h) ((TwinSt.wf_mk (fun _ => wf_nil _) id) h))) rfl ?_
  have h13 : Same 18014398526263208 s0 v6 := Same.of_eq Prod.snd hq7 (by
    refine Same.thru (drawRandom_same ..) rfl ?_
    first | assumption | exact Same.refl _ _
    )
  first | assumption | exact Same.refl _ _

theorem pairKeys_same : ∀ a0 a1 s0, Same 2112 s0 (pairKeys a0 a1 s0) := by
  intro a0 a1 s0
  unfold pairKeys
  extract_lets -merge -underBinder -useContext +onlyGivenNames x1
  refine Same.thru (Same.put_sec_twin _ _ _ (SecSt.wf_mk id) (TwinSt.wf_mk id id)) rfl ?_
  first | assumption | exact Same.refl _ _

theorem twinReport_same : ∀ a0 a1 a2 s0, Same 18014398526267368 s0 (twinReport a0 a1 a2 s0) := by
  intro a0 a1 a2 s0
  unfold twinReport
  extract_lets -merge -underBinder -useContext +onlyGivenNames x1
  refine Same.ite ?_ ?_
  · refine Same.ite ?_ ?_
    · first | assumption | exact Same.refl _ _
    · refine Same.ite ?_ ?_
      · refine Same.thru (twinNone_same ..) rfl ?_
        first | assumption | exact Same.refl _ _
      · extract_lets -merge -underBinder -useContext +onlyGivenNames x2 x3
        have h4 : Same 18014398526267368 s0 x3 := by
          unfold x3
          refine Same.thru (pairKeys_same ..) rfl ?_
          refine Same.thru (sendReport4_same ..) rfl ?_
          first | assumption | exact Same.refl _ _
        clear_value x3
        refine Same.thru (sendMirrors_same ..) rfl ?_
        refine Same.thru (freshHold_same ..) rfl ?_
        refine Same.thru (Same.put_twin _ _ (TwinSt.wf_mk id id)) rfl ?_
        first | assumption | exact Same.refl _ _
  · refine Same.ite ?_ ?_
    · refine Same.ite ?_ ?_
      · refine Same.thru (pairKeys_same ..) rfl ?_
        first | assumption | exact Same.refl _ _
      · refine Same.thru (twinNone_same ..) rfl ?_
        first | assumption | exact Same.refl _ _
    · refine Same.ite ?_ ?_
      · split
        rename_i v5 v6 v7 hq8
        extract_lets -merge -underBinder -useContext +onlyGivenNames x9 x10 x11
        extract_lets -merge -underBinder -useContext +onlyGivenNames x12
        have h13 : Same 18014398526267368 s0 x12 := by
          unfold x12
          refine Same.thru (Same.put_twin _ _ (TwinSt.wf_mk id id)) rfl ?_
          have h14 : Same 18014398526267368 s0 v7 := Same.of_eq Prod.snd hq8 (by
            refine Same.thru (drawRandom_same ..) rfl ?_
            first | assumption | exact Same.refl _ _
            )
          first | assumption | exact Same.refl _ _
        clear_value x12
        refine Same.thru (sendHeld_same ..) rfl ?_
        refine Same.thru (pairKeys_same ..) rfl ?_
        refine Same.thru (sendReport4_same ..) rfl ?_
        first | assumption | exact Same.refl _ _
      · first | assumption | exact Same.refl _ _

theorem doReportExchange_same : ∀ a0 a1 a2 s0, Same 18014398526267368 s0 (doReportExchange a0 a1 a2 s0) := by
  intro a0 a1 a2 s0
  unfold doReportExchange
  refine Same.ite ?_ ?_
  · first | assumption | exact Same.refl _ _
  · refine Same.ite ?_ ?_
    · refine Same.thru (recoverServe_same ..) rfl ?_
      first | assumption | exact Same.refl _ _
    · refine Same.thru (twinReport_same ..) rfl ?_
      first | assumption | exact Same.refl _ _

theorem tryPaired_same : ∀ s0, Same 18014398526263200 s0 (tryPaired s0) := by
  intro s0
  unfold tryPaired
  extract_lets -merge -underBinder -useContext +onlyGivenNames x1
  refine Same.ite ?_ ?_
  · extract_lets -merge -underBinder -useContext +onlyGivenNames x2
    extract_lets -merge -underBinder -useContext +onlyGivenNames x3
    have h4 : Same 18014398526263200 s0 x3 := by
      unfold x3
      refine Same.thru (twinTo_same ..) rfl ?_
      refine Same.thru (Same.put_twin _ _ (TwinSt.wf_mk id id)) rfl ?_
      first | assumption | exact Same.refl _ _
    clear_value x3
    refine Same.foldl (fun r5 e6 h7 => ?_) ?_
    · refine Same.thru (toTwin_same ..) rfl ?_
      first | assumption | exact Same.refl _ _
    · first | assumption | exact Same.refl _ _
  · first | assumption | exact Same.refl _ _

theorem pullDone_same : ∀ s0, Same 18014398526263200 s0 (pullDone s0) := by
  intro s0
  unfold pullDone
  extract_lets -merge -underBinder -useContext +onlyGivenNames x1
  extract_lets -merge -underBinder -useContext +onlyGivenNames x2
  have h3 : Same 18014398526263200 s0 x2 := by
    unfold x2
    refine Same.thru (Same.put_twin _ _ (TwinSt.wf_mk id id)) rfl ?_
    first | assumption | exact Same.refl _ _
  clear_value x2
  refine Same.thru (sendMirrors_same ..) rfl ?_
  refine Same.thru (freshHold_same ..) rfl ?_
  refine Same.thru (twinTo_same ..) rfl ?_
  first | assumption | exact Same.refl _ _

theorem keepUnit_same : ∀ a0 s0, Same 2048 s0 (keepUnit a0 s0) := by
  intro a0 s0
  unfold keepUnit
  refine Same.ite ?_ ?_
  · refine Same.thru (Same.put_twin _ _ (TwinSt.wf_mk id (fun h => wf_addEntries h))) rfl ?_
    first | assumption | exact Same.refl _ _
  · refine Same.thru (Same.put_twin _ _ (TwinSt.wf_mk (fun h => wf_addEntries h) id)) rfl ?_
    first | assumption | exact Same.refl _ _

theorem takeUnit_same : ∀ a0 s0, Same 18014398526263200 s0 (takeUnit a0 s0) := by
  intro a0 s0
  unfold takeUnit
  extract_lets -merge -underBinder -useContext +onlyGivenNames x1 x2 x3
  extract_lets -merge -underBinder -useContext +onlyGivenNames x4
  extract_lets -merge -underBinder -useContext +onlyGivenNames x5
  clear_value x5
  split
  · refine Same.thru (twinBad_same ..) rfl ?_
    first | assumption | exact Same.refl _ _
  · refine Same.thru (tryPaired_same ..) rfl ?_
    refine Same.thru (ackTwin_same ..) rfl ?_
    refine Same.thru (keepUnit_same ..) rfl ?_
    first | assumption | exact Same.refl _ _

theorem doMirrorUnit_same : ∀ a0 a1 a2 s0, Same 18014398526263200 s0 (doMirrorUnit a0 a1 a2 s0) := by
  intro a0 a1 a2 s0
  unfold doMirrorUnit
  refine Same.ite ?_ ?_
  · refine fromTwin_thru rfl ?_ ?_
    · intro y1 y2 hy3
      refine Same.thru (takeUnit_same ..) rfl ?_
      first | assumption | exact Same.refl _ _
    · first | assumption | exact Same.refl _ _
  · refine Same.thru (twinBad_same ..) rfl ?_
    first | assumption | exact Same.refl _ _

theorem inheritOne_same : ∀ a0 s0 {t}, inheritOne a0 s0 = some t → Same 36028797018857470 s0 t := by
  intro x s t e
  unfold inheritOne at e
  extract_lets ix sub at e
  split at e
  · cases e
  · split at e
    · cases e; exact Same.refl _ _
    · split at e
      · cases e
      · cases e; exact applyWriteOf_same ..


theorem inheritImage_same : ∀ a0 s0, Same 36028797018857470 s0 (inheritImage a0 s0) := by
  intro img s
  unfold inheritImage
  extract_lets es
  have key : ∀ (l : List (Nat × List Byte)) (o : Option State), (∀ t, o = some t → Same 36028797018857470 s t) →
      ∀ t, l.foldl (fun a e => match a with | none => none | some s => inheritOne e s) o = some t → Same 36028797018857470 s t := by
    intro l
    induction l with
    | nil => exact fun o ho t h => ho t h
    | cons e l ih =>
      intro o ho t h
      refine ih _ ?_ t h
      intro u hu
      cases o with
      | none => cases hu
      | some v => exact Same.thru (inheritOne_same _ _ hu) rfl (ho v rfl)
  split
  · rename_i t h
    exact Same.thru (Same.put_twin _ _ id) rfl (key es (some s) (fun u hu => by cases hu; exact Same.refl _ _) t h)
  · exact Same.refl _ _

theorem takePart_same : ∀ a0 s0, Same 36028797018857470 s0 (takePart a0 s0) := by
  intro a0 s0
  unfold takePart
  extract_lets -merge -underBinder -useContext +onlyGivenNames x1 x2 x3
  refine Same.ite ?_ ?_
  · refine Same.thru (twinBad_same ..) rfl ?_
    first | assumption | exact Same.refl _ _
  · extract_lets -merge -underBinder -useContext +onlyGivenNames x4 x5 x6
    refine Same.ite ?_ ?_
    · refine Same.thru (ackTwin_same ..) rfl ?_
      refine Same.thru (Same.put_twin _ _ (TwinSt.wf_mk id id)) rfl ?_
      first | assumption | exact Same.refl _ _
    · refine Same.ite ?_ ?_
      · refine Same.thru (twinBad_same ..) rfl ?_
        refine Same.thru (Same.put_twin _ _ (TwinSt.wf_mk id id)) rfl ?_
        first | assumption | exact Same.refl _ _
      · extract_lets -merge -underBinder -useContext +onlyGivenNames x7 x8
        have h9 : Same 36028797018857470 s0 x8 := by
          unfold x8
          refine Same.thru (Same.put_twin _ _ (TwinSt.wf_mk id id)) rfl ?_
          first | assumption | exact Same.refl _ _
        clear_value x8
        extract_lets -merge -underBinder -useContext +onlyGivenNames x10
        extract_lets -merge -underBinder -useContext +onlyGivenNames x11
        have h12 : Same 36028797018857470 s0 x11 := by
          unfold x11
          refine Same.ite ?_ ?_
          · refine Same.thru (inheritImage_same ..) rfl ?_
            first | assumption | exact Same.refl _ _
          · refine Same.thru (Same.put_twin _ _ (TwinSt.wf_mk id id)) rfl ?_
            first | assumption | exact Same.refl _ _
        clear_value x11
        refine Same.thru (tryPaired_same ..) rfl ?_
        refine Same.thru (ackTwin_same ..) rfl ?_
        first | assumption | exact Same.refl _ _

theorem doImagePart_same : ∀ a0 a1 a2 s0, Same 36028797018857470 s0 (doImagePart a0 a1 a2 s0) := by
  intro a0 a1 a2 s0
  unfold doImagePart
  refine Same.ite ?_ ?_
  · refine fromTwin_thru rfl ?_ ?_
    · intro y1 y2 hy3
      refine Same.thru (takePart_same ..) rfl ?_
      first | assumption | exact Same.refl _ _
    · first | assumption | exact Same.refl _ _
  · refine Same.thru (twinBad_same ..) rfl ?_
    first | assumption | exact Same.refl _ _

theorem takeBlob_same : ∀ a0 s0, Same 18014398526263264 s0 (takeBlob a0 s0) := by
  intro a0 s0
  unfold takeBlob
  extract_lets -merge -underBinder -useContext +onlyGivenNames x1
  refine Same.ite ?_ ?_
  · refine Same.thru (twinBad_same ..) rfl ?_
    first | assumption | exact Same.refl _ _
  · refine Same.ite ?_ ?_
    · refine Same.thru (tryPaired_same ..) rfl ?_
      refine Same.thru (ackTwin_same ..) rfl ?_
      refine Same.thru (Same.put_twin _ _ (TwinSt.wf_mk id id)) rfl ?_
      first | assumption | exact Same.refl _ _
    · extract_lets -merge -underBinder -useContext +onlyGivenNames x2 x3 x4
      refine Same.ite ?_ ?_
      · refine Same.thru (twinBad_same ..) rfl ?_
        first | assumption | exact Same.refl _ _
      · refine Same.thru (ackTwin_same ..) rfl ?_
        refine Same.thru (Same.put_sec_twin _ _ _ (SecSt.wf_mk id) (TwinSt.wf_mk id id)) rfl ?_
        first | assumption | exact Same.refl _ _

theorem doKeyBlob_same : ∀ a0 a1 a2 s0, Same 18014398526263264 s0 (doKeyBlob a0 a1 a2 s0) := by
  intro a0 a1 a2 s0
  unfold doKeyBlob
  refine Same.ite ?_ ?_
  · refine fromTwin_thru rfl ?_ ?_
    · intro y1 y2 hy3
      refine Same.thru (takeBlob_same ..) rfl ?_
      first | assumption | exact Same.refl _ _
    · first | assumption | exact Same.refl _ _
  · refine Same.thru (twinBad_same ..) rfl ?_
    first | assumption | exact Same.refl _ _

theorem takeTwinAck_same : ∀ a0 s0, Same 18014398526267360 s0 (takeTwinAck a0 s0) := by
  intro a0 s0
  unfold takeTwinAck
  extract_lets -merge -underBinder -useContext +onlyGivenNames x1 x2
  refine Same.ite ?_ ?_
  · refine Same.ite ?_ ?_
    · refine Same.thru (pullDone_same ..) rfl ?_
      refine Same.thru (Same.put_twin _ _ (TwinSt.wf_mk id id)) rfl ?_
      first | assumption | exact Same.refl _ _
    · first | assumption | exact Same.refl _ _
  · extract_lets -merge -underBinder -useContext +onlyGivenNames x3 x4
    have h5 : Same 18014398526267360 s0 x4 := by
      unfold x4
      refine Same.thru (Same.put_twin _ _ (TwinSt.wf_mk id id)) rfl ?_
      first | assumption | exact Same.refl _ _
    clear_value x4
    extract_lets -merge -underBinder -useContext +onlyGivenNames x6
    extract_lets -merge -underBinder -useContext +onlyGivenNames x7
    extract_lets -merge -underBinder -useContext +onlyGivenNames x8
    have h9 : Same 18014398526267360 s0 x8 := by
      unfold x8
      refine Same.ite ?_ ?_
      · refine Same.thru (Same.put_twin _ _ (TwinSt.wf_mk id id)) rfl ?_
        first | assumption | exact Same.refl _ _
      · refine Same.ite ?_ ?_
        · refine Same.thru (Same.put_twin _ _ (TwinSt.wf_mk id id)) rfl ?_
          first | assumption | exact Same.refl _ _
        · first | assumption | exact Same.refl _ _
    clear_value x8
    refine Same.ite ?_ ?_
    · refine Same.ite ?_ ?_
      · refine Same.thru (pullDone_same ..) rfl ?_
        refine Same.thru (ackTwin_same ..) rfl ?_
        first | assumption | exact Same.refl _ _
      · first | assumption | exact Same.refl _ _
    · split
      · refine Same.ite ?_ ?_
        · refine Same.thru (twinNone_same ..) rfl ?_
          first | assumption | exact Same.refl _ _
        · first | assumption | exact Same.refl _ _
      · refine Same.thru (tryPaired_same ..) rfl ?_
        first | assumption | exact Same.refl _ _

theorem doTwinAck_same : ∀ a0 a1 a2 s0, Same 18014398526267360 s0 (doTwinAck a0 a1 a2 s0) := by
  intro a0 a1 a2 s0
  unfold doTwinAck
  refine Same.ite ?_ ?_
  · refine Same.thru (twinBad_same ..) rfl ?_
    first | assumption | exact Same.refl _ _
  · refine fromTwin_thru rfl ?_ ?_
    · intro y1 y2 hy3
      refine Same.thru (takeTwinAck_same ..) rfl ?_
      first | assumption | exact Same.refl _ _
    · first | assumption | exact Same.refl _ _

theorem signHeld_same : ∀ s0, Same 2048 s0 (signHeld s0) := by
  intro s0
  unfold signHeld
  split
  · first | assumption | exact Same.refl _ _
  · refine Same.ite ?_ ?_
    · first | assumption | exact Same.refl _ _
    · extract_lets -merge -underBinder -useContext +onlyGivenNames x1 x2
      refine Same.thru (Same.put_twin _ _ (TwinSt.wf_mk id id)) rfl ?_
      first | assumption | exact Same.refl _ _

theorem enterHolding_same : ∀ s0, Same 18014398526267360 s0 (enterHolding s0) := by
  intro s0
  unfold enterHolding
  extract_lets -merge -underBinder -useContext +onlyGivenNames x1 x2
  have h3 : Same 18014398526267360 s0 x2 := by
    unfold x2
    refine Same.thru (signHeld_same ..) rfl ?_
    refine Same.thru (twinTo_same ..) rfl ?_
    refine Same.thru (mirrorLost_same ..) rfl ?_
    first | assumption | exact Same.refl _ _
  clear_value x2
  refine Same.thru (Same.put_sec_twin _ _ _ (SecSt.wf_mk id) (TwinSt.wf_mk id id)) rfl ?_
  first | assumption | exact Same.refl _ _

theorem holderLost_same : ∀ s0, Same 18014398526267360 s0 (holderLost s0) := by
  intro s0
  unfold holderLost
  extract_lets -merge -underBinder -useContext +onlyGivenNames x1 x2
  have h3 : Same 18014398526267360 s0 x2 := by
    unfold x2
    split
    · refine Same.thru (journal_same ..) rfl ?_
      first | assumption | exact Same.refl _ _
    · first | assumption | exact Same.refl _ _
  clear_value x2
  refine Same.thru (twinNone_same ..) rfl ?_
  refine Same.thru (report_same ..) rfl ?_
  first | assumption | exact Same.refl _ _

theorem doTwinLost_same : ∀ s0, Same 18014398526267362 s0 (doTwinLost s0) := by
  intro s0
  unfold doTwinLost
  refine Same.ite ?_ ?_
  · extract_lets -merge -underBinder -useContext +onlyGivenNames x1
    have h2 : Same 18014398526267362 s0 x1 := by
      unfold x1
      refine Same.thru (advanceTo_same ..) rfl ?_
      first | assumption | exact Same.refl _ _
    clear_value x1
    refine Same.thru (enterHolding_same ..) rfl ?_
    refine Same.thru (report_same ..) rfl ?_
    first | assumption | exact Same.refl _ _
  · refine Same.ite ?_ ?_
    · refine Same.thru (holderLost_same ..) rfl ?_
      refine Same.thru (advanceTo_same ..) rfl ?_
      first | assumption | exact Same.refl _ _
    · first | assumption | exact Same.refl _ _

theorem doTwinBeat_same : ∀ a0 s0, Same 18014398526267362 s0 (doTwinBeat a0 s0) := by
  intro a0 s0
  unfold doTwinBeat
  refine Same.ite ?_ ?_
  · first | assumption | exact Same.refl _ _
  · refine Same.ite ?_ ?_
    · refine Same.thru (doTwinLost_same ..) rfl ?_
      first | assumption | exact Same.refl _ _
    · refine Same.thru (Same.put_twin _ _ (TwinSt.wf_mk id id)) rfl ?_
      first | assumption | exact Same.refl _ _

theorem doPairingTimeout_same : ∀ s0, Same 18014398526267362 s0 (doPairingTimeout s0) := by
  intro s0
  unfold doPairingTimeout
  refine Same.ite ?_ ?_
  · refine Same.thru (twinNone_same ..) rfl ?_
    refine Same.thru (advanceTo_same ..) rfl ?_
    first | assumption | exact Same.refl _ _
  · first | assumption | exact Same.refl _ _

theorem detach_same : ∀ a0 a1 s0, Same 18014398526267360 s0 (detach a0 a1 s0) := by
  intro a0 a1 s0
  unfold detach
  extract_lets -merge -underBinder -useContext +onlyGivenNames x1
  refine Same.ite ?_ ?_
  · extract_lets -merge -underBinder -useContext +onlyGivenNames x2
    have h3 : Same 18014398526267360 s0 x2 := by
      unfold x2
      refine Same.ite ?_ ?_
      · unfold x1
        refine Same.thru (toTwin_same ..) rfl ?_
        first | assumption | exact Same.refl _ _
      · first | assumption | exact Same.refl _ _
    clear_value x2
    refine Same.thru (twinNone_same ..) rfl ?_
    first | assumption | exact Same.refl _ _
  · refine Same.ite ?_ ?_
    · refine Same.thru (enterHolding_same ..) rfl ?_
      first | assumption | exact Same.refl _ _
    · extract_lets -merge -underBinder -useContext +onlyGivenNames x4 x5
      have h6 : Same 18014398526267360 s0 x4 := by
        unfold x4
        refine Same.thru (flush_same ..) rfl ?_
        first | assumption | exact Same.refl _ _
      clear_value x4
      have h7 : Same 18014398526267360 s0 x5 := by
        unfold x5
        refine Same.foldl (fun r8 e9 h10 => ?_) ?_
        · refine Same.thru (toTwin_same ..) rfl ?_
          first | assumption | exact Same.refl _ _
        · first | assumption | exact Same.refl _ _
      clear_value x5
      unfold x1
      refine Same.thru (toTwin_same ..) rfl ?_
      refine Same.thru (Same.put_twin _ _ (TwinSt.wf_mk id id)) rfl ?_
      first | assumption | exact Same.refl _ _

theorem writeObj_same : ∀ a0 a1 a2 a3 s0, Same 36028797018857470 s0 (writeObj a0 a1 a2 a3 s0) := by
  intro a0 a1 a2 a3 s0
  unfold writeObj
  extract_lets -merge -underBinder -useContext +onlyGivenNames x1 x2
  split
  · refine Same.ite ?_ ?_
    · refine Same.thru (refuseWrite_same ..) rfl ?_
      first | assumption | exact Same.refl _ _
    · refine Same.ite ?_ ?_
      · refine Same.thru (twinPair_same ..) rfl ?_
        refine Same.thru (journal_same ..) rfl ?_
        first | assumption | exact Same.refl _ _
      · refine Same.ite ?_ ?_
        · refine Same.thru (detach_same ..) rfl ?_
          refine Same.thru (journal_same ..) rfl ?_
          first | assumption | exact Same.refl _ _
        · refine Same.thru (applyWriteOf_same ..) rfl ?_
          first | assumption | exact Same.refl _ _
  · refine Same.thru (refuseWrite_same ..) rfl ?_
    first | assumption | exact Same.refl _ _

theorem execTwinHeartbeat_same : ∀ a0 s0 t, execTwinHeartbeat a0 s0 = .next t → Same 18014398526267362 s0 t := by
  intro a0 s0 t ht
  unfold execTwinHeartbeat at ht
  refine Same.next ht ?_
  refine Same.thru (doTwinBeat_same ..) rfl ?_
  first | assumption | exact Same.refl _ _

theorem execTwinHeartbeatTimeout_same : ∀ s0 t, execTwinHeartbeatTimeout s0 = .next t → Same 18014398526267362 s0 t := by
  intro s0 t ht
  unfold execTwinHeartbeatTimeout at ht
  refine Same.next ht ?_
  refine Same.thru (doTwinLost_same ..) rfl ?_
  first | assumption | exact Same.refl _ _

theorem execTwinPairingTimeout_same : ∀ s0 t, execTwinPairingTimeout s0 = .next t → Same 18014398526267362 s0 t := by
  intro s0 t ht
  unfold execTwinPairingTimeout at ht
  refine Same.next ht ?_
  refine Same.thru (doPairingTimeout_same ..) rfl ?_
  first | assumption | exact Same.refl _ _

theorem execReportExchange_same : ∀ a0 a1 a2 s0 t, execReportExchange a0 a1 a2 s0 = .next t → Same 18014398526267368 s0 t := by
  intro a0 a1 a2 s0 t ht
  unfold execReportExchange at ht
  refine Same.next ht ?_
  refine Same.thru (doReportExchange_same ..) rfl ?_
  first | assumption | exact Same.refl _ _

theorem execJournalMirrorUnit_same : ∀ a0 a1 a2 s0 t, execJournalMirrorUnit a0 a1 a2 s0 = .next t → Same 18014398526263200 s0 t := by
  intro a0 a1 a2 s0 t ht
  unfold execJournalMirrorUnit at ht
  refine Same.next ht ?_
  refine Same.thru (doMirrorUnit_same ..) rfl ?_
  first | assumption | exact Same.refl _ _

theorem execPersistentImagePart_same : ∀ a0 a1 a2 s0 t, execPersistentImagePart a0 a1 a2 s0 = .next t → Same 36028797018857470 s0 t := by
  intro a0 a1 a2 s0 t ht
  unfold execPersistentImagePart at ht
  refine Same.next ht ?_
  refine Same.thru (doImagePart_same ..) rfl ?_
  first | assumption | exact Same.refl _ _

theorem execKeyBlob_same : ∀ a0 a1 a2 s0 t, execKeyBlob a0 a1 a2 s0 = .next t → Same 18014398526263264 s0 t := by
  intro a0 a1 a2 s0 t ht
  unfold execKeyBlob at ht
  refine Same.next ht ?_
  refine Same.thru (doKeyBlob_same ..) rfl ?_
  first | assumption | exact Same.refl _ _

theorem execMgmtAcknowledgement_same : ∀ a0 a1 a2 s0 t, execMgmtAcknowledgement a0 a1 a2 s0 = .next t → Same 18014398526267360 s0 t := by
  intro a0 a1 a2 s0 t ht
  unfold execMgmtAcknowledgement at ht
  refine Same.next ht ?_
  refine Same.thru (doTwinAck_same ..) rfl ?_
  first | assumption | exact Same.refl _ _

end Sys2Proof.Machine
end

