-- ==== Sys2Proof/Laws/FrameBoot.lean ====
section
/-! SUPPORT. Laws/FrameBoot.lean: which fields of the state each operation of Machine/Boot.lean may change. -/
namespace Sys2Proof.Machine
open Sys2Proof

theorem bootWith_same : ∀ a0 a1 s0, Same 4192 s0 (bootWith a0 a1 s0) := by
  intro a0 a1 s0
  unfold bootWith
  extract_lets -merge -underBinder -useContext +onlyGivenNames x1 x2 x3
  extract_lets -merge -underBinder -useContext +onlyGivenNames x4
  have h5 : Same 4192 s0 x4 := by
    unfold x4
    refine Same.thru (Same.put_sec _ _ (SecSt.wf_mk id)) rfl ?_
    first | assumption | exact Same.refl _ _
  clear_value x4
  refine Same.ite ?_ ?_
  · refine Same.thru (report_same ..) rfl ?_
    refine Same.thru (report_same ..) rfl ?_
    refine Same.thru (Same.put_hub_sec _ _ _ (HubSt.wf_mk id id (fun _ => wf_nil _)) (SecSt.wf_mk id)) rfl ?_
    first | assumption | exact Same.refl _ _
  · extract_lets -merge -underBinder -useContext +onlyGivenNames x6
    extract_lets -merge -underBinder -useContext +onlyGivenNames x7
    extract_lets -merge -underBinder -useContext +onlyGivenNames x8
    have h9 : Same 4192 s0 x8 := by
      unfold x8
      refine Same.thru (Same.put_hub_sec _ _ _ (HubSt.wf_mk id id (fun _ => wf_nil _)) (SecSt.wf_mk id)) rfl ?_
      first | assumption | exact Same.refl _ _
    clear_value x8
    refine Same.ite ?_ ?_
    · first | assumption | exact Same.refl _ _
    · refine Same.thru (report_same ..) rfl ?_
      first | assumption | exact Same.refl _ _

theorem bootHubs_same : ∀ a0 a1 a2 s0, Same 4192 s0 (bootHubs a0 a1 a2 s0) := by
  intro a0 a1 a2 s0
  unfold bootHubs
  refine Same.ite ?_ ?_
  · refine Same.thru (bootWith_same ..) rfl ?_
    refine Same.thru (Same.put_hub _ _ (HubSt.wf_mk id id id)) rfl ?_
    first | assumption | exact Same.refl _ _
  · extract_lets -merge -underBinder -useContext +onlyGivenNames x1
    refine Same.thru (bootWith_same ..) rfl ?_
    first | assumption | exact Same.refl _ _

theorem imageWritten_same : ∀ s0, Same 4320 s0 (imageWritten s0) := by
  intro s0
  unfold imageWritten
  split
  · extract_lets -merge -underBinder -useContext +onlyGivenNames x1
    extract_lets -merge -underBinder -useContext +onlyGivenNames x2
    have h3 : Same 4320 s0 x2 := by
      unfold x2
      refine Same.thru (Same.put_flash _ _ (FlashSt.wf_mk id id)) rfl ?_
      first | assumption | exact Same.refl _ _
    clear_value x2
    refine Same.ite ?_ ?_
    · refine Same.thru (bootHubs_same ..) rfl ?_
      first | assumption | exact Same.refl _ _
    · first | assumption | exact Same.refl _ _
  · first | assumption | exact Same.refl _ _

theorem doPowerUp_same : ∀ a0 s0, Same 37218 s0 (doPowerUp a0 s0) := by
  intro a0 s0
  unfold doPowerUp
  refine Same.ite ?_ ?_
  · first | assumption | exact Same.refl _ _
  · extract_lets -merge -underBinder -useContext +onlyGivenNames x1 x2
    extract_lets -merge -underBinder -useContext +onlyGivenNames x3 x4
    have h5 : Same 37218 s0 x3 := by
      unfold x3
      refine Same.thru (Same.put_time_hub_sec_standby_straps _ _ _ _ _ _ (HubSt.wf_mk id id id) (SecSt.wf_mk id) (fun h => wf_tset (wf_tset h))) rfl ?_
      first | assumption | exact Same.refl _ _
    clear_value x3
    extract_lets -merge -underBinder -useContext +onlyGivenNames x6
    have h7 : Same 37218 s0 x6 := by
      unfold x6
      refine Same.ite ?_ ?_
      · first | assumption | exact Same.refl _ _
      · refine Same.thru (Same.put_sec _ _ (SecSt.wf_mk id)) rfl ?_
        first | assumption | exact Same.refl _ _
    clear_value x6
    refine Same.thru (bootHubs_same ..) rfl ?_
    first | assumption | exact Same.refl _ _

theorem commitHeld_same : ∀ s0, Same 8576 s0 (commitHeld s0) := by
  intro s0
  unfold commitHeld
  extract_lets -merge -underBinder -useContext +onlyGivenNames x1 x2
  have h3 : Same 8576 s0 x1 := by
    unfold x1
    split
    · refine Same.thru (commitTrip_same ..) rfl ?_
      first | assumption | exact Same.refl _ _
    · refine Same.thru (Same.put_pw _ _ (PowerSt.wf_mk id id id)) rfl ?_
      first | assumption | exact Same.refl _ _
  clear_value x1
  have h4 : Same 8576 s0 x2 := by
    unfold x2
    split
    · refine Same.thru (flushToFlash_same ..) rfl ?_
      refine Same.thru (Same.put_standby _ _) rfl ?_
      first | assumption | exact Same.refl _ _
    · first | assumption | exact Same.refl _ _
  clear_value x2
  refine Same.foldl (fun r5 e6 h7 => ?_) ?_
  · refine Same.thru (ckptToFlash_same ..) rfl ?_
    first | assumption | exact Same.refl _ _
  · refine Same.thru (Same.put_standby _ _) rfl ?_
    first | assumption | exact Same.refl _ _

theorem resumeJournal_same : ∀ a0 s0, Same 18014398526267296 s0 (resumeJournal a0 s0) := by
  intro a0 s0
  unfold resumeJournal
  extract_lets -merge -underBinder -useContext +onlyGivenNames x1 x2 x3 x4 x5 x6 x7
  have h8 : Same 18014398526267296 s0 x4 := by
    unfold x4
    refine Same.thru (Same.put_hub_jrnl _ _ _ (HubSt.wf_mk id id id) (JournalSt.wf_mk (fun _ => wf_foldl (fun _ _ k => wf_tset k) (wf_nil _)))) rfl ?_
    first | assumption | exact Same.refl _ _
  clear_value x4
  have h9 : Same 18014398526267296 s0 x5 := by
    unfold x5
    refine Same.thru (journal_same ..) rfl ?_
    first | assumption | exact Same.refl _ _
  clear_value x5
  have h10 : Same 18014398526267296 s0 x6 := by
    unfold x6
    split
    · refine Same.thru (journal_same ..) rfl ?_
      first | assumption | exact Same.refl _ _
    · first | assumption | exact Same.refl _ _
  clear_value x6
  have h11 : Same 18014398526267296 s0 x7 := by
    unfold x7
    refine Same.ite ?_ ?_
    · refine Same.thru (secEvent_same ..) rfl ?_
      first | assumption | exact Same.refl _ _
    · first | assumption | exact Same.refl _ _
  clear_value x7
  extract_lets -merge -underBinder -useContext +onlyGivenNames x12
  have h13 : Same 18014398526267296 s0 x12 := by
    unfold x12
    refine Same.thru (flush_same ..) rfl ?_
    first | assumption | exact Same.refl _ _
  clear_value x12
  refine Same.ite ?_ ?_
  · refine Same.thru (powerEvent_same ..) rfl ?_
    first | assumption | exact Same.refl _ _
  · first | assumption | exact Same.refl _ _

theorem doResume_same : ∀ s0, Same 18014398534811552 s0 (doResume s0) := by
  intro s0
  unfold doResume
  refine Same.ite ?_ ?_
  · first | assumption | exact Same.refl _ _
  · extract_lets -merge -underBinder -useContext +onlyGivenNames x1
    extract_lets -merge -underBinder -useContext +onlyGivenNames x2
    have h3 : Same 18014398534811552 s0 x2 := by
      unfold x2
      refine Same.ite ?_ ?_
      · refine Same.thru (Same.put_hub _ _ (HubSt.wf_mk id id id)) rfl ?_
        first | assumption | exact Same.refl _ _
      · first | assumption | exact Same.refl _ _
    clear_value x2
    refine Same.ite ?_ ?_
    · refine Same.thru (Same.put_hub _ _ (HubSt.wf_mk id id id)) rfl ?_
      first | assumption | exact Same.refl _ _
    · extract_lets -merge -underBinder -useContext +onlyGivenNames x4 x5 x6 x7 x8 x9 x10 x11
      have h12 : Same 18014398534811552 s0 x5 := by
        unfold x5
        refine Same.thru (resumeJournal_same ..) rfl ?_
        refine Same.thru (commitHeld_same ..) rfl ?_
        first | assumption | exact Same.refl _ _
      clear_value x5
      have h13 : Same 18014398534811552 s0 x6 := by
        unfold x6
        refine Same.foldl (fun r14 e15 h16 => ?_) ?_
        · refine Same.thru (setValue_same ..) rfl ?_
          first | assumption | exact Same.refl _ _
        · first | assumption | exact Same.refl _ _
      clear_value x6
      have h17 : Same 18014398534811552 s0 x8 := by
        unfold x8
        refine Same.thru (Same.put_admitted _ _ (fun h => wf_ite (wf_ite (h) (wf_tset h)) (wf_tset (wf_ite (h) (wf_tset h))))) rfl ?_
        first | assumption | exact Same.refl _ _
      clear_value x8
      have h18 : Same 18014398534811552 s0 x9 := by
        unfold x9
        refine Same.foldl (fun r19 e20 h21 => ?_) ?_
        · refine Same.ite ?_ ?_
          · first | assumption | exact Same.refl _ _
          · refine Same.thru (updHost_same ..) rfl ?_
            first | assumption | exact Same.refl _ _
        · first | assumption | exact Same.refl _ _
      clear_value x9
      have h22 : Same 18014398534811552 s0 x10 := by
        unfold x10
        refine Same.foldl (fun r23 e24 h25 => ?_) ?_
        · refine Same.ite ?_ ?_
          · refine Same.thru (emit_same ..) rfl ?_
            refine Same.thru (updLsm_same ..) rfl ?_
            first | assumption | exact Same.refl _ _
          · first | assumption | exact Same.refl _ _
        · first | assumption | exact Same.refl _ _
      clear_value x10
      have h26 : Same 18014398534811552 s0 x11 := by
        unfold x11
        refine Same.foldl (fun r27 e28 h29 => ?_) ?_
        · refine Same.ite ?_ ?_
          · refine Same.thru (updFacet_same ..) rfl ?_
            first | assumption | exact Same.refl _ _
          · first | assumption | exact Same.refl _ _
        · first | assumption | exact Same.refl _ _
      clear_value x11
      refine Same.thru (Same.put_hub _ _ (HubSt.wf_mk id id id)) rfl ?_
      first | assumption | exact Same.refl _ _

theorem journalWait_same : ∀ a0 s0, Same 18014398526263200 s0 (journalWait a0 s0) := by
  intro a0 s0
  unfold journalWait
  extract_lets -merge -underBinder -useContext +onlyGivenNames x1
  refine Same.thru (journal_same ..) rfl ?_
  first | assumption | exact Same.refl _ _

theorem doFacetPower_same : ∀ a0 s0, Same 18014398628515746 s0 (doFacetPower a0 s0) := by
  intro a0 s0
  unfold doFacetPower
  refine Same.ite ?_ ?_
  · first | assumption | exact Same.refl _ _
  · extract_lets -merge -underBinder -useContext +onlyGivenNames x1 x2 x3
    have h4 : Same 18014398628515746 s0 x1 := by
      unfold x1
      split
      · refine Same.thru (advanceTo_same ..) rfl ?_
        first | assumption | exact Same.refl _ _
      · first | assumption | exact Same.refl _ _
    clear_value x1
    refine Same.ite ?_ ?_
    · extract_lets -merge -underBinder -useContext +onlyGivenNames x5
      have h6 : Same 18014398628515746 s0 x5 := by
        unfold x5
        refine Same.ite ?_ ?_
        · first | assumption | exact Same.refl _ _
        · refine Same.thru (journalWait_same ..) rfl ?_
          refine Same.ite ?_ ?_
          · refine Same.thru (journalWait_same ..) rfl ?_
            first | assumption | exact Same.refl _ _
          · first | assumption | exact Same.refl _ _
      clear_value x5
      refine Same.thru (Same.put_hub _ _ (HubSt.wf_mk id id id)) rfl ?_
      first | assumption | exact Same.refl _ _
    · extract_lets -merge -underBinder -useContext +onlyGivenNames x7 x8 x9
      have h10 : Same 18014398628515746 s0 x7 := by
        unfold x7
        refine Same.ite ?_ ?_
        · refine Same.thru (journalWait_same ..) rfl ?_
          first | assumption | exact Same.refl _ _
        · first | assumption | exact Same.refl _ _
      clear_value x7
      have h11 : Same 18014398628515746 s0 x9 := by
        unfold x9
        refine Same.thru (powerFacet_same ..) rfl ?_
        refine Same.thru (facetTo_same ..) rfl ?_
        first | assumption | exact Same.refl _ _
      clear_value x9
      refine Same.thru (Same.put_hub _ _ (HubSt.wf_mk id id id)) rfl ?_
      first | assumption | exact Same.refl _ _

theorem doStrap_same : ∀ a0 a1 s0, Same 49152 s0 (doStrap a0 a1 s0) := by
  intro a0 a1 s0
  unfold doStrap
  extract_lets -merge -underBinder -useContext +onlyGivenNames x1 x2
  have h3 : Same 49152 s0 x2 := by
    unfold x2
    split
    · refine Same.ite ?_ ?_
      · refine Same.thru (updFacet_same ..) rfl ?_
        refine Same.thru (Same.put_straps _ _ (fun h => wf_tdel h)) rfl ?_
        first | assumption | exact Same.refl _ _
      · first | assumption | exact Same.refl _ _
    · first | assumption | exact Same.refl _ _
  clear_value x2
  refine Same.ite ?_ ?_
  · refine Same.thru (Same.put_straps _ _ (fun h => wf_tset h)) rfl ?_
    first | assumption | exact Same.refl _ _
  · first | assumption | exact Same.refl _ _

theorem doAdmission_same : ∀ a0 s0, Same 18137474781896630 s0 (doAdmission a0 s0) := by
  intro a0 s0
  unfold doAdmission
  extract_lets -merge -underBinder -useContext +onlyGivenNames x1 x2
  refine Same.thru (settleNet_same ..) rfl ?_
  refine Same.foldl (fun r3 e4 h5 => ?_) ?_
  · extract_lets -merge -underBinder -useContext +onlyGivenNames x6
    have h7 : Same 18137474781896630 s0 x6 := by
      unfold x6
      refine Same.thru (Same.put_siteStatus _ _ (fun h => wf_tset h)) rfl ?_
      first | assumption | exact Same.refl _ _
    clear_value x6
    refine Same.ite ?_ ?_
    · refine Same.thru (Same.put_admitted _ _ (fun h => wf_tset h)) rfl ?_
      first | assumption | exact Same.refl _ _
    · refine Same.thru (failFacet_same ..) rfl ?_
      refine Same.thru (report_same ..) rfl ?_
      refine Same.thru (Same.put_held _ _ (fun h => wf_tset h)) rfl ?_
      first | assumption | exact Same.refl _ _
  · first | assumption | exact Same.refl _ _

theorem doPowerDown_same : ∀ held s0, Same 36028797018963967 s0 (doPowerDown held s0) := by
  intro held s
  constructor
  case sto =>
    intro h
    rw [stored_iff] at h ⊢
    have hne : ({ state := 1 } : LsmSt) ≠ {} := by decide
    have hl : Tab.wf {} ((s.lsms.filter fun e => e.2.state != 0).map fun e => (e.1, ({ state := 1 } : LsmSt))) = true :=
      wf_map' (fun _ => rfl) (fun _ _ => hne) (rising_filter (wf_rising h.lsms))
    have hf : Tab.wf {} ((s.fds.filter fun e => e.2.marginal != 0).map fun e =>
        (e.1, ({ marginal := e.2.marginal } : FdSt))) = true := by
      refine wf_map' (fun _ => rfl) (fun e he hd => ?_) (rising_filter (wf_rising h.fds))
      have hm := (List.mem_filter.mp he).2
      rw [show e.2.marginal = 0 from congrArg FdSt.marginal hd] at hm
      simp at hm
    constructor <;> first | exact hl | exact hf | exact h.flash | rfl
  all_goals first | exact fun _ => rfl | exact fun h => absurd h (by decide)

theorem doHeartbeat_same : ∀ s0, Same 32 s0 (doHeartbeat s0) := by
  intro s0
  unfold doHeartbeat
  refine Same.ite ?_ ?_
  · refine Same.thru (Same.put_hub _ _ (HubSt.wf_mk id id id)) rfl ?_
    first | assumption | exact Same.refl _ _
  · first | assumption | exact Same.refl _ _

theorem loseHub_same : ∀ a0 s0, Same 9007750638075904 s0 (loseHub a0 s0) := by
  intro a0 s0
  unfold loseHub
  extract_lets -merge -underBinder -useContext +onlyGivenNames x1 x2
  have h3 : Same 9007750638075904 s0 x1 := by
    unfold x1
    refine Same.thru (zeroBytes_same ..) rfl ?_
    refine Same.thru (zeroBytes_same ..) rfl ?_
    refine Same.thru (zeroBytes_same ..) rfl ?_
    first | assumption | exact Same.refl _ _
  clear_value x1
  have h4 : Same 9007750638075904 s0 x2 := by
    unfold x2
    refine Same.thru (updHost_same ..) rfl ?_
    first | assumption | exact Same.refl _ _
  clear_value x2
  refine Same.thru (xchDrop_same ..) rfl ?_
  refine Same.thru (Same.put_admitted _ _ (fun h => wf_tdel (wf_tdel h))) rfl ?_
  first | assumption | exact Same.refl _ _

theorem doTakeover_same : ∀ a0 s0, Same 36027697238794146 s0 (doTakeover a0 s0) := by
  intro a0 s0
  unfold doTakeover
  refine Same.ite ?_ ?_
  · first | assumption | exact Same.refl _ _
  · refine Same.ite ?_ ?_
    · refine Same.ite ?_ ?_
      · refine Same.thru (hubsGone_same ..) rfl ?_
        first | assumption | exact Same.refl _ _
      · first | assumption | exact Same.refl _ _
    · extract_lets -merge -underBinder -useContext +onlyGivenNames x1 x2
      have h3 : Same 36027697238794146 s0 x1 := by
        unfold x1
        refine Same.ite ?_ ?_
        · first | assumption | exact Same.refl _ _
        · refine Same.thru (advanceTo_same ..) rfl ?_
          first | assumption | exact Same.refl _ _
      clear_value x1
      extract_lets -merge -underBinder -useContext +onlyGivenNames x4
      have h5 : Same 36027697238794146 s0 x4 := by
        unfold x4
        refine Same.thru (loseHub_same ..) rfl ?_
        refine Same.thru (Same.put_hub _ _ (HubSt.wf_mk id id id)) rfl ?_
        first | assumption | exact Same.refl _ _
      clear_value x4
      refine Same.thru (secEvent_same ..) rfl ?_
      first | assumption | exact Same.refl _ _

theorem doStandbyFails_same : ∀ s0, Same 36027697238794144 s0 (doStandbyFails s0) := by
  intro s0
  unfold doStandbyFails
  refine Same.ite ?_ ?_
  · first | assumption | exact Same.refl _ _
  · refine Same.ite ?_ ?_
    · refine Same.thru (hubsGone_same ..) rfl ?_
      refine Same.thru (Same.put_hub _ _ (HubSt.wf_mk id id id)) rfl ?_
      first | assumption | exact Same.refl _ _
    · refine Same.thru (loseHub_same ..) rfl ?_
      refine Same.thru (Same.put_hub _ _ (HubSt.wf_mk id id id)) rfl ?_
      first | assumption | exact Same.refl _ _

theorem execPowerUp_same : ∀ a0 s0 t, execPowerUp a0 s0 = .next t → Same 37218 s0 t := by
  intro a0 s0 t ht
  unfold execPowerUp at ht
  refine Same.next ht ?_
  refine Same.thru (doPowerUp_same ..) rfl ?_
  first | assumption | exact Same.refl _ _

theorem execStartupResume_same : ∀ s0 t, execStartupResume s0 = .next t → Same 18014398534811552 s0 t := by
  intro s0 t ht
  unfold execStartupResume at ht
  refine Same.next ht ?_
  refine Same.thru (doResume_same ..) rfl ?_
  first | assumption | exact Same.refl _ _

theorem execFacetPowerOn_same : ∀ a0 s0 t, execFacetPowerOn a0 s0 = .next t → Same 18014398628515746 s0 t := by
  intro a0 s0 t ht
  unfold execFacetPowerOn at ht
  refine Same.next ht ?_
  refine Same.thru (doFacetPower_same ..) rfl ?_
  first | assumption | exact Same.refl _ _

theorem execStrapLatch_same : ∀ a0 a1 s0 t, execStrapLatch a0 a1 s0 = .next t → Same 49152 s0 t := by
  intro a0 a1 s0 t ht
  unfold execStrapLatch at ht
  refine Same.next ht ?_
  refine Same.thru (doStrap_same ..) rfl ?_
  first | assumption | exact Same.refl _ _

theorem execDieAdmission_same : ∀ a0 s0 t, execDieAdmission a0 s0 = .next t → Same 18137474781896630 s0 t := by
  intro a0 s0 t ht
  unfold execDieAdmission at ht
  refine Same.next ht ?_
  refine Same.thru (doAdmission_same ..) rfl ?_
  first | assumption | exact Same.refl _ _

theorem execPowerDown_same : ∀ a0 s0 t, execPowerDown a0 s0 = .next t → Same 36028797018963967 s0 t := by
  intro a0 s0 t ht
  unfold execPowerDown at ht
  refine Same.next ht ?_
  refine Same.thru (doPowerDown_same ..) rfl ?_
  first | assumption | exact Same.refl _ _

theorem execHeartbeat_same : ∀ s0 t, execHeartbeat s0 = .next t → Same 32 s0 t := by
  intro s0 t ht
  unfold execHeartbeat at ht
  refine Same.next ht ?_
  refine Same.thru (doHeartbeat_same ..) rfl ?_
  first | assumption | exact Same.refl _ _

theorem execHubTakeover_same : ∀ a0 s0 t, execHubTakeover a0 s0 = .next t → Same 36027697238794146 s0 t := by
  intro a0 s0 t ht
  unfold execHubTakeover at ht
  refine Same.next ht ?_
  refine Same.thru (doTakeover_same ..) rfl ?_
  first | assumption | exact Same.refl _ _

theorem execStandbyHubFailure_same : ∀ s0 t, execStandbyHubFailure s0 = .next t → Same 36027697238794144 s0 t := by
  intro s0 t ht
  unfold execStandbyHubFailure at ht
  refine Same.next ht ?_
  refine Same.thru (doStandbyFails_same ..) rfl ?_
  first | assumption | exact Same.refl _ _

end Sys2Proof.Machine
end

