-- ==== Sys2Proof/Laws/FrameManage.lean ====
section
/-! SUPPORT. Laws/FrameManage.lean: which fields of the state each operation of Machine/Manage.lean may change. -/
namespace Sys2Proof.Machine
open Sys2Proof

theorem sendResp_same : ∀ a0 s0, Same 18014398509485056 s0 (sendResp a0 s0) := by
  intro a0 s0
  unfold sendResp
  extract_lets -merge -underBinder -useContext +onlyGivenNames x1
  refine Same.ite ?_ ?_
  · refine Same.ite ?_ ?_
    · refine Same.thru (toTwin_same ..) rfl ?_
      first | assumption | exact Same.refl _ _
    · first | assumption | exact Same.refl _ _
  · refine Same.ite ?_ ?_
    · extract_lets -merge -underBinder -useContext +onlyGivenNames x2
      extract_lets -merge -underBinder -useContext +onlyGivenNames x3
      have h4 : Same 18014398509485056 s0 x3 := by
        unfold x3
        refine Same.thru (Same.put_mg _ _ (MgmtSt.wf_mk id id id id)) rfl ?_
        first | assumption | exact Same.refl _ _
      clear_value x3
      refine Same.thru (emit_same ..) rfl ?_
      refine Same.thru (emit_same ..) rfl ?_
      first | assumption | exact Same.refl _ _
    · refine Same.thru (emit_same ..) rfl ?_
      first | assumption | exact Same.refl _ _

theorem keepResp_same : ∀ a0 s0, Same 1024 s0 (keepResp a0 s0) := by
  intro a0 s0
  unfold keepResp
  extract_lets -merge -underBinder -useContext +onlyGivenNames x1 x2
  refine Same.ite ?_ ?_
  · first | assumption | exact Same.refl _ _
  · refine Same.thru (Same.put_mg _ _ (MgmtSt.wf_mk id id id id)) rfl ?_
    first | assumption | exact Same.refl _ _

theorem giveResp_same : ∀ a0 s0, Same 18014398509485088 s0 (giveResp a0 s0) := by
  intro a0 s0
  unfold giveResp
  refine Same.thru (sendResp_same ..) rfl ?_
  refine Same.thru (keepResp_same ..) rfl ?_
  refine Same.thru (copyOver_same ..) rfl ?_
  refine Same.thru (countPath_same ..) rfl ?_
  first | assumption | exact Same.refl _ _

theorem serve_thru : ∀ {m sb a0 a1 a2 a3 a4 a5 a6 a7 s0} (hm : 18014398509485056 ||| m = m) (hf7 : ∀ y0 z, Same m sb z → Same m sb (a7 y0 z)) (hs : Same m sb s0), Same m sb (serve a0 a1 a2 a3 a4 a5 a6 a7 s0) := by
  intro m sb a0 a1 a2 a3 a4 a5 a6 a7 s0 hm hf7 hs
  unfold serve
  extract_lets -merge -underBinder -useContext +onlyGivenNames x1 x2
  refine Same.ite ?_ ?_
  · first | assumption | exact Same.refl _ _
  · refine Same.ite ?_ ?_
    · first | assumption | exact Same.refl _ _
    · refine Same.ite ?_ ?_
      · first | assumption | exact Same.refl _ _
      · split
        · refine Same.thru (sendResp_same ..) (Same.sub hm rfl) ?_
          first | assumption | exact Same.refl _ _
        · refine hf7 _ _ ?_
          first | assumption | exact Same.refl _ _

theorem readDone_same : ∀ a0 a1 a2 s0, Same 4100 s0 (readDone a0 a1 a2 s0) := by
  intro a0 a1 a2 s0
  unfold readDone
  extract_lets -merge -underBinder -useContext +onlyGivenNames x1
  have h2 : Same 4100 s0 x1 := by
    unfold x1
    refine Same.ite ?_ ?_
    · refine Same.thru (Same.put_free _ _) rfl ?_
      first | assumption | exact Same.refl _ _
    · first | assumption | exact Same.refl _ _
  clear_value x1
  refine Same.ite ?_ ?_
  · refine Same.thru (markRead_same ..) rfl ?_
    first | assumption | exact Same.refl _ _
  · first | assumption | exact Same.refl _ _

theorem doRead_same : ∀ a0 a1 a2 a3 a4 a5 a6 s0, Same 18014398509489188 s0 (doRead a0 a1 a2 a3 a4 a5 a6 s0) := by
  intro a0 a1 a2 a3 a4 a5 a6 s0
  unfold doRead
  refine serve_thru rfl ?_ ?_
  · intro y1 y2 hy3
    split
    refine Same.ite ?_ ?_
    · refine Same.thru (giveResp_same ..) rfl ?_
      first | assumption | exact Same.refl _ _
    · refine Same.ite ?_ ?_
      · refine Same.thru (giveResp_same ..) rfl ?_
        first | assumption | exact Same.refl _ _
      · extract_lets -merge -underBinder -useContext +onlyGivenNames x4
        refine Same.thru (giveResp_same ..) rfl ?_
        refine Same.thru (readDone_same ..) rfl ?_
        first | assumption | exact Same.refl _ _
  · first | assumption | exact Same.refl _ _

theorem doDescribe_same : ∀ a0 a1 a2 a3 a4 s0, Same 18014398509485088 s0 (doDescribe a0 a1 a2 a3 a4 s0) := by
  intro a0 a1 a2 a3 a4 s0
  unfold doDescribe
  refine serve_thru rfl ?_ ?_
  · intro y1 y2 hy3
    split
    · refine Same.thru (giveResp_same ..) rfl ?_
      first | assumption | exact Same.refl _ _
    · extract_lets -merge -underBinder -useContext +onlyGivenNames x4
      refine Same.thru (giveResp_same ..) rfl ?_
      first | assumption | exact Same.refl _ _
  · first | assumption | exact Same.refl _ _

theorem doPingOp_same : ∀ a0 a1 a2 s0, Same 18014398509485088 s0 (doPingOp a0 a1 a2 s0) := by
  intro a0 a1 a2 s0
  unfold doPingOp
  refine serve_thru rfl ?_ ?_
  · intro y1 y2 hy3
    refine Same.thru (giveResp_same ..) rfl ?_
    first | assumption | exact Same.refl _ _
  · first | assumption | exact Same.refl _ _

theorem doBootStatus_same : ∀ a0 a1 a2 s0, Same 18014398509485088 s0 (doBootStatus a0 a1 a2 s0) := by
  intro a0 a1 a2 s0
  unfold doBootStatus
  refine serve_thru rfl ?_ ?_
  · intro y1 y2 hy3
    refine Same.thru (giveResp_same ..) rfl ?_
    first | assumption | exact Same.refl _ _
  · first | assumption | exact Same.refl _ _

theorem doUnknownOp_same : ∀ a0 a1 a2 a3 s0, Same 18014398509485088 s0 (doUnknownOp a0 a1 a2 a3 s0) := by
  intro a0 a1 a2 a3 s0
  unfold doUnknownOp
  refine serve_thru rfl ?_ ?_
  · intro y1 y2 hy3
    refine Same.thru (giveResp_same ..) rfl ?_
    first | assumption | exact Same.refl _ _
  · first | assumption | exact Same.refl _ _

theorem finishWrite_same : ∀ a0 a1 a2 s0, Same 36028797018857470 s0 (finishWrite a0 a1 a2 s0) := by
  intro a0 a1 a2 s0
  unfold finishWrite
  extract_lets -merge -underBinder -useContext +onlyGivenNames x1 x2 x3 x4 x5
  have h6 : Same 36028797018857470 s0 x4 := by
    unfold x4
    refine Same.thru (writeObj_same ..) rfl ?_
    first | assumption | exact Same.refl _ _
  clear_value x4
  refine Same.ite ?_ ?_
  · extract_lets -merge -underBinder -useContext +onlyGivenNames x7
    refine Same.thru (Same.put_mg _ _ (MgmtSt.wf_mk id id id id)) rfl ?_
    first | assumption | exact Same.refl _ _
  · refine Same.thru (giveResp_same ..) rfl ?_
    first | assumption | exact Same.refl _ _

theorem doWrite_same : ∀ a0 a1 a2 a3 a4 a5 a6 a7 s0, Same 36028797018857470 s0 (doWrite a0 a1 a2 a3 a4 a5 a6 a7 s0) := by
  intro a0 a1 a2 a3 a4 a5 a6 a7 s0
  unfold doWrite
  extract_lets -merge -underBinder -useContext +onlyGivenNames x1 x2
  refine Same.ite ?_ ?_
  · refine Same.thru (countPath_same ..) rfl ?_
    first | assumption | exact Same.refl _ _
  · refine serve_thru rfl ?_ ?_
    · intro y3 y4 hy5
      extract_lets -merge -underBinder -useContext +onlyGivenNames x6 x7 x8 x9 x10
      refine Same.ite ?_ ?_
      · refine Same.thru (giveResp_same ..) rfl ?_
        first | assumption | exact Same.refl _ _
      · refine Same.ite ?_ ?_
        · refine Same.ite ?_ ?_
          · refine Same.thru (finishWrite_same ..) rfl ?_
            unfold x9
            refine Same.thru (Same.put_mg _ _ (MgmtSt.wf_mk id id (fun h => wf_tset h) id)) rfl ?_
            first | assumption | exact Same.refl _ _
          · refine Same.thru (giveResp_same ..) rfl ?_
            unfold x10
            refine Same.thru (Same.put_mg _ _ (MgmtSt.wf_mk id id (fun h => wf_tset h) id)) rfl ?_
            first | assumption | exact Same.refl _ _
        · refine Same.ite ?_ ?_
          · refine Same.thru (giveResp_same ..) rfl ?_
            first | assumption | exact Same.refl _ _
          · refine Same.ite ?_ ?_
            · refine Same.thru (finishWrite_same ..) rfl ?_
              unfold x9
              refine Same.thru (Same.put_mg _ _ (MgmtSt.wf_mk id id (fun h => wf_tset h) id)) rfl ?_
              first | assumption | exact Same.refl _ _
            · refine Same.thru (giveResp_same ..) rfl ?_
              unfold x10
              refine Same.thru (Same.put_mg _ _ (MgmtSt.wf_mk id id (fun h => wf_tset h) id)) rfl ?_
              first | assumption | exact Same.refl _ _
    · first | assumption | exact Same.refl _ _

theorem doStagedTimeout_same : ∀ a0 s0, Same 1026 s0 (doStagedTimeout a0 s0) := by
  intro a0 s0
  unfold doStagedTimeout
  extract_lets -merge -underBinder -useContext +onlyGivenNames x1
  refine Same.ite ?_ ?_
  · first | assumption | exact Same.refl _ _
  · extract_lets -merge -underBinder -useContext +onlyGivenNames x2
    have h3 : Same 1026 s0 x2 := by
      unfold x2
      refine Same.thru (advanceTo_same ..) rfl ?_
      first | assumption | exact Same.refl _ _
    clear_value x2
    refine Same.thru (Same.put_mg _ _ (MgmtSt.wf_mk id id (fun h => wf_tset h) id)) rfl ?_
    first | assumption | exact Same.refl _ _

theorem hostWrite_same : ∀ a0 a1 a2 a3 s0, Same 36028797018857470 s0 (hostWrite a0 a1 a2 a3 s0) := by
  intro a0 a1 a2 a3 s0
  unfold hostWrite
  refine Same.ite ?_ ?_
  · first | assumption | exact Same.refl _ _
  · extract_lets -merge -underBinder -useContext +onlyGivenNames x1 x2 x3 x4 x5
    have h6 : Same 36028797018857470 s0 x5 := by
      unfold x5
      refine Same.thru (writeObj_same ..) rfl ?_
      first | assumption | exact Same.refl _ _
    clear_value x5
    refine Same.ite ?_ ?_
    · first | assumption | exact Same.refl _ _
    · refine Same.thru (mailDone_same ..) rfl ?_
      first | assumption | exact Same.refl _ _

theorem pathWrite_same : ∀ a0 a1 a2 a3 s0, Same 36028797018857470 s0 (pathWrite a0 a1 a2 a3 s0) := by
  intro a0 a1 a2 a3 s0
  unfold pathWrite
  split
  · refine Same.thru (hostWrite_same ..) rfl ?_
    first | assumption | exact Same.refl _ _
  · refine Same.thru (hostWrite_same ..) rfl ?_
    first | assumption | exact Same.refl _ _
  · refine Same.ite ?_ ?_
    · refine Same.thru (finishWrite_same ..) rfl ?_
      first | assumption | exact Same.refl _ _
    · first | assumption | exact Same.refl _ _

theorem doCommitted_same : ∀ s0, Same 18014400136875168 s0 (doCommitted s0) := by
  intro s0
  unfold doCommitted
  split
  · first | assumption | exact Same.refl _ _
  · extract_lets -merge -underBinder -useContext +onlyGivenNames x1 x2 x3 x4 x5 x6 x7
    have h8 : Same 18014400136875168 s0 x7 := by
      unfold x7
      refine Same.thru (commitImage_same ..) rfl ?_
      refine Same.thru (Same.put_mg _ _ (MgmtSt.wf_mk id id id id)) rfl ?_
      first | assumption | exact Same.refl _ _
    clear_value x7
    extract_lets -merge -underBinder -useContext +onlyGivenNames x9
    have h10 : Same 18014400136875168 s0 x9 := by
      unfold x9
      refine Same.ite ?_ ?_
      · refine Same.thru (sendImage_same ..) rfl ?_
        first | assumption | exact Same.refl _ _
      · first | assumption | exact Same.refl _ _
    clear_value x9
    split
    · refine Same.thru (giveResp_same ..) rfl ?_
      first | assumption | exact Same.refl _ _
    · refine Same.ite ?_ ?_
      · refine Same.thru (mailDone_same ..) rfl ?_
        first | assumption | exact Same.refl _ _
      · first | assumption | exact Same.refl _ _

theorem doChunk_same : ∀ a0 a1 a2 a3 a4 s0, Same 18014398509485088 s0 (doChunk a0 a1 a2 a3 a4 s0) := by
  intro a0 a1 a2 a3 a4 s0
  unfold doChunk
  refine serve_thru rfl ?_ ?_
  · intro y1 y2 hy3
    refine Same.ite ?_ ?_
    · refine Same.thru (giveResp_same ..) rfl ?_
      first | assumption | exact Same.refl _ _
    · refine Same.ite ?_ ?_
      · refine Same.thru (giveResp_same ..) rfl ?_
        first | assumption | exact Same.refl _ _
      · refine Same.ite ?_ ?_
        · refine Same.thru (giveResp_same ..) rfl ?_
          first | assumption | exact Same.refl _ _
        · refine Same.thru (giveResp_same ..) rfl ?_
          refine Same.thru (Same.put_hub _ _ (HubSt.wf_mk id id (fun h => wf_putBytes h))) rfl ?_
          first | assumption | exact Same.refl _ _
  · first | assumption | exact Same.refl _ _

theorem doCommit_same : ∀ a0 a1 a2 s0, Same 18014398526267296 s0 (doCommit a0 a1 a2 s0) := by
  intro a0 a1 a2 s0
  unfold doCommit
  refine serve_thru rfl ?_ ?_
  · intro y1 y2 hy3
    extract_lets -merge -underBinder -useContext +onlyGivenNames x4 x5 x6 x7 x8 x9
    have h10 : Same 18014398526267296 s0 x9 := by
      unfold x9
      refine Same.ite ?_ ?_
      · first | assumption | exact Same.refl _ _
      · refine Same.thru (Same.put_hub _ _ (HubSt.wf_mk id id (fun _ => wf_nil _))) rfl ?_
        first | assumption | exact Same.refl _ _
    clear_value x9
    extract_lets -merge -underBinder -useContext +onlyGivenNames x11
    have h12 : Same 18014398526267296 s0 x11 := by
      unfold x11
      refine Same.ite ?_ ?_
      · refine Same.thru (writeImage_same ..) rfl ?_
        first | assumption | exact Same.refl _ _
      · first | assumption | exact Same.refl _ _
    clear_value x11
    refine Same.ite ?_ ?_
    · refine Same.thru (giveResp_same ..) rfl ?_
      first | assumption | exact Same.refl _ _
    · extract_lets -merge -underBinder -useContext +onlyGivenNames x13
      have h14 : Same 18014398526267296 s0 x13 := by
        unfold x13
        refine Same.thru (secEvent_same ..) rfl ?_
        refine Same.ite ?_ ?_
        · refine Same.thru (coldRefusal_same ..) rfl ?_
          first | assumption | exact Same.refl _ _
        · first | assumption | exact Same.refl _ _
      clear_value x13
      refine Same.thru (giveResp_same ..) rfl ?_
      first | assumption | exact Same.refl _ _
  · first | assumption | exact Same.refl _ _

theorem doIoap_same : ∀ a0 a1 a2 s0, Same 36028797018857470 s0 (doIoap a0 a1 a2 s0) := by
  intro a0 a1 a2 s0
  unfold doIoap
  extract_lets -merge -underBinder -useContext +onlyGivenNames x1 x2 x3 x4 x5 x6 x7 x8 x9
  refine Same.ite ?_ ?_
  · first | assumption | exact Same.refl _ _
  · refine Same.ite ?_ ?_
    · refine Same.thru (countPath_same ..) rfl ?_
      first | assumption | exact Same.refl _ _
    · refine Same.ite ?_ ?_
      · refine Same.ite ?_ ?_
        · first | assumption | exact Same.refl _ _
        · refine Same.thru (countPath_same ..) rfl ?_
          first | assumption | exact Same.refl _ _
      · refine Same.ite ?_ ?_
        · refine Same.thru (doRead_same ..) rfl ?_
          first | assumption | exact Same.refl _ _
        · refine Same.ite ?_ ?_
          · refine Same.thru (doWrite_same ..) rfl ?_
            first | assumption | exact Same.refl _ _
          · refine Same.ite ?_ ?_
            · refine Same.thru (doDescribe_same ..) rfl ?_
              first | assumption | exact Same.refl _ _
            · refine Same.ite ?_ ?_
              · refine Same.thru (doPingOp_same ..) rfl ?_
                first | assumption | exact Same.refl _ _
              · refine Same.ite ?_ ?_
                · refine Same.thru (doBootStatus_same ..) rfl ?_
                  first | assumption | exact Same.refl _ _
                · refine Same.ite ?_ ?_
                  · refine Same.thru (doChunk_same ..) rfl ?_
                    first | assumption | exact Same.refl _ _
                  · refine Same.ite ?_ ?_
                    · refine Same.thru (doCommit_same ..) rfl ?_
                      first | assumption | exact Same.refl _ _
                    · refine Same.thru (doUnknownOp_same ..) rfl ?_
                      first | assumption | exact Same.refl _ _

theorem mctpMessage_same : ∀ a0 a1 a2 s0, Same 36028797018857470 s0 (mctpMessage a0 a1 a2 s0) := by
  intro a0 a1 a2 s0
  unfold mctpMessage
  extract_lets -merge -underBinder -useContext +onlyGivenNames x1 x2
  refine Same.ite ?_ ?_
  · first | assumption | exact Same.refl _ _
  · refine Same.thru (doIoap_same ..) rfl ?_
    refine Same.thru (Same.put_mg _ _ (MgmtSt.wf_mk id id id id)) rfl ?_
    first | assumption | exact Same.refl _ _

theorem mctpIn_same : ∀ a0 s0, Same 36028797018857470 s0 (mctpIn a0 s0) := by
  intro a0 s0
  unfold mctpIn
  extract_lets -merge -underBinder -useContext +onlyGivenNames x1 x2 x3 x4 x5 x6
  refine Same.ite ?_ ?_
  · first | assumption | exact Same.refl _ _
  · extract_lets -merge -underBinder -useContext +onlyGivenNames x7
    extract_lets -merge -underBinder -useContext +onlyGivenNames x8
    have h9 : Same 36028797018857470 s0 x8 := by
      unfold x8
      refine Same.thru (Same.put_mg _ _ (MgmtSt.wf_mk id id id id)) rfl ?_
      first | assumption | exact Same.refl _ _
    clear_value x8
    clear_value x6
    split
    · first | assumption | exact Same.refl _ _
    · extract_lets -merge -underBinder -useContext +onlyGivenNames x10
      refine Same.ite ?_ ?_
      · first | assumption | exact Same.refl _ _
      · refine Same.ite ?_ ?_
        · refine Same.thru (mctpMessage_same ..) rfl ?_
          first | assumption | exact Same.refl _ _
        · refine Same.thru (Same.put_mg _ _ (MgmtSt.wf_mk id id id id)) rfl ?_
          first | assumption | exact Same.refl _ _

theorem ioapArrive_same : ∀ a0 a1 a2 s0, Same 36028797018857470 s0 (ioapArrive a0 a1 a2 s0) := by
  intro a0 a1 a2 s0
  unfold ioapArrive
  split
  · refine Same.ite ?_ ?_
    · refine Same.thru (doIoap_same ..) rfl ?_
      first | assumption | exact Same.refl _ _
    · first | assumption | exact Same.refl _ _
  · refine Same.ite ?_ ?_
    · refine Same.thru (doIoap_same ..) rfl ?_
      first | assumption | exact Same.refl _ _
    · first | assumption | exact Same.refl _ _
  · refine Same.ite ?_ ?_
    · refine Same.thru (mctpIn_same ..) rfl ?_
      first | assumption | exact Same.refl _ _
    · first | assumption | exact Same.refl _ _
  · refine Same.thru (doIoap_same ..) rfl ?_
    first | assumption | exact Same.refl _ _

theorem rxDrop_same : ∀ s0, Same 5120 s0 (rxDrop s0) := by
  intro s0
  unfold rxDrop
  extract_lets -merge -underBinder -useContext +onlyGivenNames x1 x2
  have h3 : Same 5120 s0 x2 := by
    unfold x2
    refine Same.thru (bump_same ..) rfl ?_
    first | assumption | exact Same.refl _ _
  clear_value x2
  refine Same.ite ?_ ?_
  · first | assumption | exact Same.refl _ _
  · refine Same.thru (report_same ..) rfl ?_
    refine Same.thru (Same.put_mg _ _ (MgmtSt.wf_mk id id id id)) rfl ?_
    first | assumption | exact Same.refl _ _

theorem mgmtMessage_same : ∀ a0 a1 a2 s0, Same 36028797018857470 s0 (mgmtMessage a0 a1 a2 s0) := by
  intro a0 a1 a2 s0
  unfold mgmtMessage
  extract_lets -merge -underBinder -useContext +onlyGivenNames x1 x2 x3 x4
  refine Same.ite ?_ ?_
  · refine Same.thru (doTwinBeat_same ..) rfl ?_
    first | assumption | exact Same.refl _ _
  · refine Same.ite ?_ ?_
    · refine Same.ite ?_ ?_
      · refine Same.thru (doReportExchange_same ..) rfl ?_
        first | assumption | exact Same.refl _ _
      · refine Same.ite ?_ ?_
        · refine Same.thru (doRecoverResponse_same ..) rfl ?_
          first | assumption | exact Same.refl _ _
        · refine Same.thru (countPath_same ..) rfl ?_
          first | assumption | exact Same.refl _ _
    · refine Same.ite ?_ ?_
      · refine Same.thru (countPath_same ..) rfl ?_
        first | assumption | exact Same.refl _ _
      · refine Same.ite ?_ ?_
        · refine fromTwin_thru rfl ?_ ?_
          · intro y5 y6 hy7
            refine Same.thru (doIoap_same ..) rfl ?_
            first | assumption | exact Same.refl _ _
          · first | assumption | exact Same.refl _ _
        · refine Same.ite ?_ ?_
          · refine Same.thru (doMirrorUnit_same ..) rfl ?_
            first | assumption | exact Same.refl _ _
          · refine Same.ite ?_ ?_
            · refine Same.thru (doImagePart_same ..) rfl ?_
              first | assumption | exact Same.refl _ _
            · refine Same.ite ?_ ?_
              · refine Same.thru (doKeyBlob_same ..) rfl ?_
                first | assumption | exact Same.refl _ _
              · refine Same.thru (doTwinAck_same ..) rfl ?_
                first | assumption | exact Same.refl _ _

theorem doFragTimeout_same : ∀ a0 a1 s0, Same 1026 s0 (doFragTimeout a0 a1 s0) := by
  intro a0 a1 s0
  unfold doFragTimeout
  split
  · first | assumption | exact Same.refl _ _
  · refine Same.thru (countPath_same ..) rfl ?_
    extract_lets -merge -underBinder -useContext +onlyGivenNames x1
    have h2 : Same 1026 s0 x1 := by
      unfold x1
      refine Same.thru (advanceTo_same ..) rfl ?_
      first | assumption | exact Same.refl _ _
    clear_value x1
    refine Same.thru (Same.put_mg _ _ (MgmtSt.wf_mk id id id id)) rfl ?_
    first | assumption | exact Same.refl _ _

theorem dropLate_same : ∀ a0 a1 s0, Same 1026 s0 (dropLate a0 a1 s0) := by
  intro a0 a1 s0
  unfold dropLate
  refine Same.ite ?_ ?_
  · refine Same.thru (doFragTimeout_same ..) rfl ?_
    first | assumption | exact Same.refl _ _
  · first | assumption | exact Same.refl _ _

theorem takeFragment_same : ∀ a0 a1 s0, Same 36028797018857470 s0 (takeFragment a0 a1 s0) := by
  intro a0 a1 s0
  unfold takeFragment
  extract_lets -merge -underBinder -useContext +onlyGivenNames x1 x2 x3 x4 x5 x6 x7 x8 x9 x10
  have h11 : Same 36028797018857470 s0 x8 := by
    unfold x8
    refine Same.thru (dropLate_same ..) rfl ?_
    first | assumption | exact Same.refl _ _
  clear_value x8
  refine Same.ite ?_ ?_
  · first | assumption | exact Same.refl _ _
  · refine Same.ite ?_ ?_
    · unfold x10
      refine Same.thru (countPath_same ..) rfl ?_
      refine Same.thru (Same.put_mg _ _ (MgmtSt.wf_mk id id id id)) rfl ?_
      first | assumption | exact Same.refl _ _
    · refine Same.ite ?_ ?_
      · refine Same.thru (rxDrop_same ..) rfl ?_
        first | assumption | exact Same.refl _ _
      · extract_lets -merge -underBinder -useContext +onlyGivenNames x12
        refine Same.ite ?_ ?_
        · unfold x10
          refine Same.thru (countPath_same ..) rfl ?_
          refine Same.thru (Same.put_mg _ _ (MgmtSt.wf_mk id id id id)) rfl ?_
          first | assumption | exact Same.refl _ _
        · extract_lets -merge -underBinder -useContext +onlyGivenNames x13 x14
          refine Same.ite ?_ ?_
          · refine Same.thru (mgmtMessage_same ..) rfl ?_
            refine Same.thru (Same.put_mg _ _ (MgmtSt.wf_mk id id id id)) rfl ?_
            first | assumption | exact Same.refl _ _
          · refine Same.thru (Same.put_mg _ _ (MgmtSt.wf_mk id id id id)) rfl ?_
            first | assumption | exact Same.refl _ _

theorem doMMgmt_same : ∀ a0 a1 s0, Same 36028797018857470 s0 (doMMgmt a0 a1 s0) := by
  intro a0 a1 s0
  unfold doMMgmt
  refine receive_thru rfl ?_ ?_
  · intro y1 y2 hy3
    refine Same.thru (takeFragment_same ..) rfl ?_
    first | assumption | exact Same.refl _ _
  · first | assumption | exact Same.refl _ _

theorem doIcmpEcho_same : ∀ a0 a1 a2 s0, Same 18014398509481984 s0 (doIcmpEcho a0 a1 a2 s0) := by
  intro a0 a1 a2 s0
  unfold doIcmpEcho
  refine Same.ite ?_ ?_
  · refine Same.thru (emit_same ..) rfl ?_
    first | assumption | exact Same.refl _ _
  · first | assumption | exact Same.refl _ _

theorem doNeighbour_same : ∀ a0 a1 s0, Same 18014398509481984 s0 (doNeighbour a0 a1 s0) := by
  intro a0 a1 s0
  unfold doNeighbour
  refine Same.ite ?_ ?_
  · refine Same.thru (emit_same ..) rfl ?_
    first | assumption | exact Same.refl _ _
  · first | assumption | exact Same.refl _ _

theorem doMldQuery_same : ∀ a0 s0, Same 18014398509481984 s0 (doMldQuery a0 s0) := by
  intro a0 s0
  unfold doMldQuery
  refine Same.ite ?_ ?_
  · refine Same.thru (emit_same ..) rfl ?_
    first | assumption | exact Same.refl _ _
  · first | assumption | exact Same.refl _ _

theorem doMctp_same : ∀ a0 a1 s0, Same 1056 s0 (doMctp a0 a1 s0) := by
  intro a0 a1 s0
  unfold doMctp
  refine Same.ite ?_ ?_
  · refine Same.thru (numSet_same ..) rfl ?_
    refine Same.thru (Same.put_hub _ _ (HubSt.wf_mk id id id)) rfl ?_
    first | assumption | exact Same.refl _ _
  · first | assumption | exact Same.refl _ _

theorem doPortLink_same : ∀ a0 a1 s0, Same 1024 s0 (doPortLink a0 a1 s0) := by
  intro a0 a1 s0
  unfold doPortLink
  refine Same.ite ?_ ?_
  · refine Same.thru (numSet_same ..) rfl ?_
    first | assumption | exact Same.refl _ _
  · first | assumption | exact Same.refl _ _

theorem doCkptCommit_same : ∀ s0, Same 384 s0 (doCkptCommit s0) := by
  intro s0
  unfold doCkptCommit
  split
  · first | assumption | exact Same.refl _ _
  · refine Same.ite ?_ ?_
    · refine Same.thru (ckptToFlash_same ..) rfl ?_
      refine Same.thru (Same.put_standby _ _) rfl ?_
      first | assumption | exact Same.refl _ _
    · first | assumption | exact Same.refl _ _

theorem mailAttest_same : ∀ a0 a1 s0, Same 18014400136875936 s0 (mailAttest a0 a1 s0) := by
  intro a0 a1 s0
  unfold mailAttest
  extract_lets -merge -underBinder -useContext +onlyGivenNames x1
  refine mailRun_thru rfl ?_ ?_
  · intro y2 hy3
    first | assumption | exact Same.refl _ _
  · first | assumption | exact Same.refl _ _

theorem mailSession_same : ∀ a0 a1 s0, Same 18014400136876008 s0 (mailSession a0 a1 s0) := by
  intro a0 a1 s0
  unfold mailSession
  extract_lets -merge -underBinder -useContext +onlyGivenNames x1
  refine mailRun_thru rfl ?_ ?_
  · intro y2 hy3
    refine Same.thru (sessionOpen_same ..) rfl ?_
    first | assumption | exact Same.refl _ _
  · first | assumption | exact Same.refl _ _

theorem mailProvision_same : ∀ a0 a1 s0, Same 18014400136876000 s0 (mailProvision a0 a1 s0) := by
  intro a0 a1 s0
  unfold mailProvision
  extract_lets -merge -underBinder -useContext +onlyGivenNames x1
  refine Same.ite ?_ ?_
  · extract_lets -merge -underBinder -useContext +onlyGivenNames x2 x3 x4
    have h5 : Same 18014400136876000 s0 x2 := by
      unfold x2
      refine Same.thru (journal_same ..) rfl ?_
      first | assumption | exact Same.refl _ _
    clear_value x2
    split
    rename_i v6 v7 v8 hq9
    refine Same.thru (updHost_same ..) rfl ?_
    have h10 : Same 18014400136876000 s0 v8 := Same.of_eq Prod.snd hq9 (by
      refine Same.thru (keyProvision_same ..) rfl ?_
      first | assumption | exact Same.refl _ _
      )
    first | assumption | exact Same.refl _ _
  · extract_lets -merge -underBinder -useContext +onlyGivenNames x11
    have h12 : Same 18014400136876000 s0 x11 := by
      unfold x11
      refine mailRun_thru rfl ?_ ?_
      · intro y13 hy14
        refine Same.thru (keyProvision_same ..) rfl ?_
        first | assumption | exact Same.refl _ _
      · first | assumption | exact Same.refl _ _
    clear_value x11
    refine Same.ite ?_ ?_
    · refine Same.thru (provisionRefused_same ..) rfl ?_
      first | assumption | exact Same.refl _ _
    · first | assumption | exact Same.refl _ _

theorem answerKey_same : ∀ a0 s0, Same 18014400136872992 s0 (answerKey a0 s0) := by
  intro a0 s0
  unfold answerKey
  split
  · extract_lets -merge -underBinder -useContext +onlyGivenNames x1
    refine Same.ite ?_ ?_
    · refine Same.thru (mailDone_same ..) rfl ?_
      refine Same.thru (updHost_same ..) rfl ?_
      first | assumption | exact Same.refl _ _
    · first | assumption | exact Same.refl _ _
  · first | assumption | exact Same.refl _ _

theorem trustCommand_thru : ∀ {m sb a0 a1 a2 a3 s0} (hm : 36028797018857470 ||| m = m) (hf2 : ∀ y0 z, Same m sb z → Same m sb (a2 y0 z)) (hs : Same m sb s0), Same m sb (trustCommand a0 a1 a2 a3 s0) := by
  intro m sb a0 a1 a2 a3 s0 hm hf2 hs
  unfold trustCommand
  split
  · refine hf2 _ _ ?_
    first | assumption | exact Same.refl _ _
  · refine hf2 _ _ ?_
    first | assumption | exact Same.refl _ _
  · refine Same.thru (pathWrite_same ..) (Same.sub hm rfl) ?_
    first | assumption | exact Same.refl _ _

theorem execIoapMessage_same : ∀ a0 a1 a2 s0 t, execIoapMessage a0 a1 a2 s0 = .next t → Same 36028797018857470 s0 t := by
  intro a0 a1 a2 s0 t ht
  unfold execIoapMessage at ht
  refine Same.next ht ?_
  refine Same.thru (ioapArrive_same ..) rfl ?_
  first | assumption | exact Same.refl _ _

theorem execRead_same : ∀ a0 a1 a2 a3 a4 a5 a6 s0 t, execRead a0 a1 a2 a3 a4 a5 a6 s0 = .next t → Same 18014398509489188 s0 t := by
  intro a0 a1 a2 a3 a4 a5 a6 s0 t ht
  unfold execRead at ht
  refine Same.next ht ?_
  refine Same.ite ?_ ?_
  · first | assumption | exact Same.refl _ _
  · refine Same.thru (doRead_same ..) rfl ?_
    first | assumption | exact Same.refl _ _

theorem execWrite_same : ∀ a0 a1 a2 a3 a4 a5 a6 a7 s0 t, execWrite a0 a1 a2 a3 a4 a5 a6 a7 s0 = .next t → Same 36028797018857470 s0 t := by
  intro a0 a1 a2 a3 a4 a5 a6 a7 s0 t ht
  unfold execWrite at ht
  refine Same.next ht ?_
  refine Same.ite ?_ ?_
  · first | assumption | exact Same.refl _ _
  · refine Same.thru (doWrite_same ..) rfl ?_
    first | assumption | exact Same.refl _ _

theorem execObjectWrite_same : ∀ a0 a1 a2 a3 s0 t, execObjectWrite a0 a1 a2 a3 s0 = .next t → Same 36028797018857470 s0 t := by
  intro a0 a1 a2 a3 s0 t ht
  unfold execObjectWrite at ht
  refine Same.next ht ?_
  refine Same.thru (pathWrite_same ..) rfl ?_
  first | assumption | exact Same.refl _ _

theorem execDescribe_same : ∀ a0 a1 a2 a3 a4 s0 t, execDescribe a0 a1 a2 a3 a4 s0 = .next t → Same 18014398509485088 s0 t := by
  intro a0 a1 a2 a3 a4 s0 t ht
  unfold execDescribe at ht
  refine Same.next ht ?_
  refine Same.ite ?_ ?_
  · first | assumption | exact Same.refl _ _
  · refine Same.thru (doDescribe_same ..) rfl ?_
    first | assumption | exact Same.refl _ _

theorem execIoapPing_same : ∀ a0 a1 a2 s0 t, execIoapPing a0 a1 a2 s0 = .next t → Same 18014398509485088 s0 t := by
  intro a0 a1 a2 s0 t ht
  unfold execIoapPing at ht
  refine Same.next ht ?_
  refine Same.ite ?_ ?_
  · first | assumption | exact Same.refl _ _
  · refine Same.thru (doPingOp_same ..) rfl ?_
    first | assumption | exact Same.refl _ _

theorem execBootStatus_same : ∀ a0 a1 a2 s0 t, execBootStatus a0 a1 a2 s0 = .next t → Same 18014398509485088 s0 t := by
  intro a0 a1 a2 s0 t ht
  unfold execBootStatus at ht
  refine Same.next ht ?_
  refine Same.ite ?_ ?_
  · first | assumption | exact Same.refl _ _
  · refine Same.thru (doBootStatus_same ..) rfl ?_
    first | assumption | exact Same.refl _ _

theorem execImageChunk_same : ∀ a0 a1 a2 a3 a4 s0 t, execImageChunk a0 a1 a2 a3 a4 s0 = .next t → Same 18014398509485088 s0 t := by
  intro a0 a1 a2 a3 a4 s0 t ht
  unfold execImageChunk at ht
  refine Same.next ht ?_
  refine Same.ite ?_ ?_
  · first | assumption | exact Same.refl _ _
  · refine Same.thru (doChunk_same ..) rfl ?_
    first | assumption | exact Same.refl _ _

theorem execCommit_same : ∀ a0 a1 a2 s0 t, execCommit a0 a1 a2 s0 = .next t → Same 18014398526267296 s0 t := by
  intro a0 a1 a2 s0 t ht
  unfold execCommit at ht
  refine Same.next ht ?_
  refine Same.ite ?_ ?_
  · first | assumption | exact Same.refl _ _
  · refine Same.thru (doCommit_same ..) rfl ?_
    first | assumption | exact Same.refl _ _

theorem execStagedWriteTimeout_same : ∀ a0 s0 t, execStagedWriteTimeout a0 s0 = .next t → Same 1026 s0 t := by
  intro a0 s0 t ht
  unfold execStagedWriteTimeout at ht
  refine Same.next ht ?_
  refine Same.thru (doStagedTimeout_same ..) rfl ?_
  first | assumption | exact Same.refl _ _

theorem execFragmentTimeout_same : ∀ a0 a1 s0 t, execFragmentTimeout a0 a1 s0 = .next t → Same 1026 s0 t := by
  intro a0 a1 s0 t ht
  unfold execFragmentTimeout at ht
  refine Same.next ht ?_
  refine Same.thru (doFragTimeout_same ..) rfl ?_
  first | assumption | exact Same.refl _ _

theorem execIcmpv6Echo_same : ∀ a0 a1 a2 s0 t, execIcmpv6Echo a0 a1 a2 s0 = .next t → Same 18014398509481984 s0 t := by
  intro a0 a1 a2 s0 t ht
  unfold execIcmpv6Echo at ht
  refine Same.next ht ?_
  refine Same.thru (doIcmpEcho_same ..) rfl ?_
  first | assumption | exact Same.refl _ _

theorem execNeighbourDiscovery_same : ∀ a0 a1 s0 t, execNeighbourDiscovery a0 a1 s0 = .next t → Same 18014398509481984 s0 t := by
  intro a0 a1 s0 t ht
  unfold execNeighbourDiscovery at ht
  refine Same.next ht ?_
  refine Same.thru (doNeighbour_same ..) rfl ?_
  first | assumption | exact Same.refl _ _

theorem execMulticastListenerQuery_same : ∀ a0 s0 t, execMulticastListenerQuery a0 s0 = .next t → Same 18014398509481984 s0 t := by
  intro a0 s0 t ht
  unfold execMulticastListenerQuery at ht
  refine Same.next ht ?_
  refine Same.thru (doMldQuery_same ..) rfl ?_
  first | assumption | exact Same.refl _ _

theorem execMctpAddressAssign_same : ∀ a0 a1 s0 t, execMctpAddressAssign a0 a1 s0 = .next t → Same 1056 s0 t := by
  intro a0 a1 s0 t ht
  unfold execMctpAddressAssign at ht
  refine Same.next ht ?_
  refine Same.thru (doMctp_same ..) rfl ?_
  first | assumption | exact Same.refl _ _

theorem execMgtPortLinkChange_same : ∀ a0 a1 s0 t, execMgtPortLinkChange a0 a1 s0 = .next t → Same 1024 s0 t := by
  intro a0 a1 s0 t ht
  unfold execMgtPortLinkChange at ht
  refine Same.next ht ?_
  refine Same.thru (doPortLink_same ..) rfl ?_
  first | assumption | exact Same.refl _ _

theorem execPersistentWriteCommitted_same : ∀ s0 t, execPersistentWriteCommitted s0 = .next t → Same 18014400136875168 s0 t := by
  intro s0 t ht
  unfold execPersistentWriteCommitted at ht
  refine Same.next ht ?_
  refine Same.thru (doCommitted_same ..) rfl ?_
  first | assumption | exact Same.refl _ _

theorem execCheckpointCommit_same : ∀ s0 t, execCheckpointCommit s0 = .next t → Same 384 s0 t := by
  intro s0 t ht
  unfold execCheckpointCommit at ht
  refine Same.next ht ?_
  refine Same.thru (doCkptCommit_same ..) rfl ?_
  first | assumption | exact Same.refl _ _

theorem execMMgmt_same : ∀ a0 a1 s0 t, execMMgmt a0 a1 s0 = .next t → Same 36028797018857470 s0 t := by
  intro a0 a1 s0 t ht
  unfold execMMgmt at ht
  refine Same.next ht ?_
  refine Same.thru (doMMgmt_same ..) rfl ?_
  first | assumption | exact Same.refl _ _

theorem execJournalFlush_same : ∀ a0 a1 s0 t, execJournalFlush a0 a1 s0 = .next t → Same 36028797018857470 s0 t := by
  intro a0 a1 s0 t ht
  unfold execJournalFlush at ht
  refine Same.next ht ?_
  refine Same.thru (pathWrite_same ..) rfl ?_
  first | assumption | exact Same.refl _ _

theorem execPortMask_same : ∀ a0 a1 s0 t, execPortMask a0 a1 s0 = .next t → Same 36028797018857470 s0 t := by
  intro a0 a1 s0 t ht
  unfold execPortMask at ht
  refine Same.next ht ?_
  refine Same.thru (pathWrite_same ..) rfl ?_
  first | assumption | exact Same.refl _ _

theorem execCollHoldRelease_same : ∀ a0 a1 s0 t, execCollHoldRelease a0 a1 s0 = .next t → Same 36028797018857470 s0 t := by
  intro a0 a1 s0 t ht
  unfold execCollHoldRelease at ht
  refine Same.next ht ?_
  refine Same.thru (pathWrite_same ..) rfl ?_
  first | assumption | exact Same.refl _ _

theorem execPkgLinkTest_same : ∀ a0 a1 a2 s0 t, execPkgLinkTest a0 a1 a2 s0 = .next t → Same 36028797018857470 s0 t := by
  intro a0 a1 a2 s0 t ht
  unfold execPkgLinkTest at ht
  refine Same.next ht ?_
  refine Same.thru (pathWrite_same ..) rfl ?_
  first | assumption | exact Same.refl _ _

theorem execFacetReset_same : ∀ a0 a1 a2 s0 t, execFacetReset a0 a1 a2 s0 = .next t → Same 36028797018857470 s0 t := by
  intro a0 a1 a2 s0 t ht
  unfold execFacetReset at ht
  refine Same.next ht ?_
  refine Same.thru (pathWrite_same ..) rfl ?_
  first | assumption | exact Same.refl _ _

theorem execOptLinkEnable_same : ∀ a0 a1 a2 s0 t, execOptLinkEnable a0 a1 a2 s0 = .next t → Same 36028797018857470 s0 t := by
  intro a0 a1 a2 s0 t ht
  unfold execOptLinkEnable at ht
  refine Same.next ht ?_
  refine Same.thru (pathWrite_same ..) rfl ?_
  first | assumption | exact Same.refl _ _

theorem execOptLsmEnable_same : ∀ a0 a1 a2 s0 t, execOptLsmEnable a0 a1 a2 s0 = .next t → Same 36028797018857470 s0 t := by
  intro a0 a1 a2 s0 t ht
  unfold execOptLsmEnable at ht
  refine Same.next ht ?_
  refine Same.thru (pathWrite_same ..) rfl ?_
  first | assumption | exact Same.refl _ _

theorem execFwTableWrite_same : ∀ a0 a1 a2 s0 t, execFwTableWrite a0 a1 a2 s0 = .next t → Same 36028797018857470 s0 t := by
  intro a0 a1 a2 s0 t ht
  unfold execFwTableWrite at ht
  refine Same.next ht ?_
  refine Same.thru (pathWrite_same ..) rfl ?_
  first | assumption | exact Same.refl _ _

theorem execFwImage_same : ∀ a0 a1 s0 t, execFwImage a0 a1 s0 = .next t → Same 36028797018857470 s0 t := by
  intro a0 a1 s0 t ht
  unfold execFwImage at ht
  refine Same.next ht ?_
  refine Same.thru (pathWrite_same ..) rfl ?_
  first | assumption | exact Same.refl _ _

theorem execDeviceCert_same : ∀ a0 a1 s0 t, execDeviceCert a0 a1 s0 = .next t → Same 36028797018857470 s0 t := by
  intro a0 a1 s0 t ht
  unfold execDeviceCert at ht
  refine Same.next ht ?_
  refine Same.thru (pathWrite_same ..) rfl ?_
  first | assumption | exact Same.refl _ _

theorem execAttest_same : ∀ a0 a1 s0 t, execAttest a0 a1 s0 = .next t → Same 36028797018857470 s0 t := by
  intro a0 a1 s0 t ht
  unfold execAttest at ht
  refine Same.next ht ?_
  refine trustCommand_thru rfl ?_ ?_
  · intro y1 y2 hy3
    refine Same.thru (mailAttest_same ..) rfl ?_
    first | assumption | exact Same.refl _ _
  · first | assumption | exact Same.refl _ _

theorem execSessionOpen_same : ∀ a0 a1 s0 t, execSessionOpen a0 a1 s0 = .next t → Same 36028797018857470 s0 t := by
  intro a0 a1 s0 t ht
  unfold execSessionOpen at ht
  refine Same.next ht ?_
  refine trustCommand_thru rfl ?_ ?_
  · intro y1 y2 hy3
    refine Same.thru (mailSession_same ..) rfl ?_
    first | assumption | exact Same.refl _ _
  · first | assumption | exact Same.refl _ _

theorem execKeyProvision_same : ∀ a0 a1 s0 t, execKeyProvision a0 a1 s0 = .next t → Same 36028797018857470 s0 t := by
  intro a0 a1 s0 t ht
  unfold execKeyProvision at ht
  refine Same.next ht ?_
  refine trustCommand_thru rfl ?_ ?_
  · intro y1 y2 hy3
    refine Same.thru (mailProvision_same ..) rfl ?_
    first | assumption | exact Same.refl _ _
  · first | assumption | exact Same.refl _ _

theorem execKeyRecover_same : ∀ a0 a1 s0 t, execKeyRecover a0 a1 s0 = .next t → Same 36028797018857470 s0 t := by
  intro a0 a1 s0 t ht
  unfold execKeyRecover at ht
  refine Same.next ht ?_
  refine Same.thru (pathWrite_same ..) rfl ?_
  first | assumption | exact Same.refl _ _

theorem execDeploy_same : ∀ a0 s0 t, execDeploy a0 s0 = .next t → Same 36028797018857470 s0 t := by
  intro a0 s0 t ht
  unfold execDeploy at ht
  refine Same.next ht ?_
  refine Same.thru (pathWrite_same ..) rfl ?_
  first | assumption | exact Same.refl _ _

theorem execEnterService_same : ∀ a0 s0 t, execEnterService a0 s0 = .next t → Same 36028797018857470 s0 t := by
  intro a0 s0 t ht
  unfold execEnterService at ht
  refine Same.next ht ?_
  refine Same.thru (pathWrite_same ..) rfl ?_
  first | assumption | exact Same.refl _ _

theorem execLeaveService_same : ∀ a0 s0 t, execLeaveService a0 s0 = .next t → Same 36028797018857470 s0 t := by
  intro a0 s0 t ht
  unfold execLeaveService at ht
  refine Same.next ht ?_
  refine Same.thru (pathWrite_same ..) rfl ?_
  first | assumption | exact Same.refl _ _

theorem execRetire_same : ∀ a0 s0 t, execRetire a0 s0 = .next t → Same 36028797018857470 s0 t := by
  intro a0 s0 t ht
  unfold execRetire at ht
  refine Same.next ht ?_
  refine Same.thru (pathWrite_same ..) rfl ?_
  first | assumption | exact Same.refl _ _

theorem execSvCommit_same : ∀ a0 s0 t, execSvCommit a0 s0 = .next t → Same 36028797018857470 s0 t := by
  intro a0 s0 t ht
  unfold execSvCommit at ht
  refine Same.next ht ?_
  refine Same.thru (pathWrite_same ..) rfl ?_
  first | assumption | exact Same.refl _ _

theorem execTwinPair_same : ∀ a0 a1 a2 s0 t, execTwinPair a0 a1 a2 s0 = .next t → Same 36028797018857470 s0 t := by
  intro a0 a1 a2 s0 t ht
  unfold execTwinPair at ht
  refine Same.next ht ?_
  refine Same.thru (pathWrite_same ..) rfl ?_
  first | assumption | exact Same.refl _ _

theorem execTwinReplace_same : ∀ a0 a1 a2 s0 t, execTwinReplace a0 a1 a2 s0 = .next t → Same 36028797018857470 s0 t := by
  intro a0 a1 a2 s0 t ht
  unfold execTwinReplace at ht
  refine Same.next ht ?_
  refine Same.thru (pathWrite_same ..) rfl ?_
  first | assumption | exact Same.refl _ _

theorem execTwinDetachRelease_same : ∀ a0 s0 t, execTwinDetachRelease a0 s0 = .next t → Same 36028797018857470 s0 t := by
  intro a0 s0 t ht
  unfold execTwinDetachRelease at ht
  refine Same.next ht ?_
  refine Same.thru (pathWrite_same ..) rfl ?_
  first | assumption | exact Same.refl _ _

theorem execTwinDetachHandover_same : ∀ a0 s0 t, execTwinDetachHandover a0 s0 = .next t → Same 36028797018857470 s0 t := by
  intro a0 s0 t ht
  unfold execTwinDetachHandover at ht
  refine Same.next ht ?_
  refine Same.thru (pathWrite_same ..) rfl ?_
  first | assumption | exact Same.refl _ _

end Sys2Proof.Machine
end

