-- ==== Sys2Proof/Laws/FrameHost.lean ====
section
/-! SUPPORT. Laws/FrameHost.lean: which fields of the state each operation of Machine/Host.lean may change. -/
namespace Sys2Proof.Machine
open Sys2Proof

theorem hostEntry_same : ∀ a0 a1 s0, Same 18014398526263200 s0 (hostEntry a0 a1 s0) := by
  intro a0 a1 s0
  unfold hostEntry
  refine Same.thru (journal_same ..) rfl ?_
  refine Same.thru (updHost_same ..) rfl ?_
  first | assumption | exact Same.refl _ _

theorem hostRefused_same : ∀ a0 a1 s0, Same 18014398526328736 s0 (hostRefused a0 a1 s0) := by
  intro a0 a1 s0
  unfold hostRefused
  refine Same.thru (hostEntry_same ..) rfl ?_
  refine Same.thru (Same.put_siteStatus _ _ (fun h => wf_ite (h) (wf_tset h))) rfl ?_
  first | assumption | exact Same.refl _ _

theorem doHostAdmit_same : ∀ a0 a1 a2 a3 a4 s0, Same 18014398526463904 s0 (doHostAdmit a0 a1 a2 a3 a4 s0) := by
  intro a0 a1 a2 a3 a4 s0
  unfold doHostAdmit
  extract_lets -merge -underBinder -useContext +onlyGivenNames x1 x2 x3
  refine Same.ite ?_ ?_
  · first | assumption | exact Same.refl _ _
  · refine Same.ite ?_ ?_
    · refine Same.thru (hostRefused_same ..) rfl ?_
      refine Same.thru (report_same ..) rfl ?_
      first | assumption | exact Same.refl _ _
    · refine Same.ite ?_ ?_
      · refine Same.thru (hostRefused_same ..) rfl ?_
        first | assumption | exact Same.refl _ _
      · refine Same.ite ?_ ?_
        · refine Same.thru (hostRefused_same ..) rfl ?_
          first | assumption | exact Same.refl _ _
        · extract_lets -merge -underBinder -useContext +onlyGivenNames x4
          have h5 : Same 18014398526463904 s0 x4 := by
            unfold x4
            refine Same.thru (updHost_same ..) rfl ?_
            first | assumption | exact Same.refl _ _
          clear_value x4
          refine Same.thru (hostEntry_same ..) rfl ?_
          refine Same.thru (Same.put_siteStatus_admitted _ _ _ (fun h => wf_tset h) (fun h => wf_tset h)) rfl ?_
          first | assumption | exact Same.refl _ _

theorem doSideband_same : ∀ a0 s0, Same 16842752 s0 (doSideband a0 s0) := by
  intro a0 s0
  unfold doSideband
  refine Same.ite ?_ ?_
  · first | assumption | exact Same.refl _ _
  · refine Same.thru (updHost_same ..) rfl ?_
    refine Same.thru (Same.put_siteStatus _ _ (fun h => wf_tset h)) rfl ?_
    first | assumption | exact Same.refl _ _

theorem doHostReset_same : ∀ a0 s0, Same 16777216 s0 (doHostReset a0 s0) := by
  intro a0 s0
  unfold doHostReset
  refine Same.thru (updHost_same ..) rfl ?_
  first | assumption | exact Same.refl _ _

theorem doHostLost_same : ∀ a0 a1 s0, Same 18014398526398368 s0 (doHostLost a0 a1 s0) := by
  intro a0 a1 s0
  unfold doHostLost
  refine Same.ite ?_ ?_
  · first | assumption | exact Same.refl _ _
  · extract_lets -merge -underBinder -useContext +onlyGivenNames x1
    have h2 : Same 18014398526398368 s0 x1 := by
      unfold x1
      refine Same.thru (doHostReset_same ..) rfl ?_
      refine Same.thru (report_same ..) rfl ?_
      first | assumption | exact Same.refl _ _
    clear_value x1
    refine Same.ite ?_ ?_
    · first | assumption | exact Same.refl _ _
    · refine Same.thru (hostEntry_same ..) rfl ?_
      refine Same.thru (updHost_same ..) rfl ?_
      refine Same.thru (Same.put_admitted _ _ (fun h => wf_tdel h)) rfl ?_
      first | assumption | exact Same.refl _ _

theorem doHoldoff_same : ∀ a0 a1 s0, Same 18014398526259202 s0 (doHoldoff a0 a1 s0) := by
  intro a0 a1 s0
  unfold doHoldoff
  extract_lets -merge -underBinder -useContext +onlyGivenNames x1
  refine Same.ite ?_ ?_
  · first | assumption | exact Same.refl _ _
  · extract_lets -merge -underBinder -useContext +onlyGivenNames x2 x3
    have h4 : Same 18014398526259202 s0 x2 := by
      unfold x2
      refine Same.thru (advanceTo_same ..) rfl ?_
      first | assumption | exact Same.refl _ _
    clear_value x2
    refine Same.thru (emit_same ..) rfl ?_
    refine Same.thru (updHost_same ..) rfl ?_
    first | assumption | exact Same.refl _ _

theorem charge_same : ∀ a0 a1 a2 a3 a4 s0 {t}, charge a0 a1 a2 a3 a4 s0 = some t → Same 16777216 s0 t := by
  intro h i rate burst n s t e
  unfold charge at e
  extract_lets b now at e
  split at e
  · cases e
  · cases e; exact updHost_same ..

theorem fwAdmit_same : ∀ a0 a1 a2 s0 {t}, fwAdmit a0 a1 a2 s0 = .ok t → Same 16777216 s0 t := by
  intro h a r s t e
  unfold fwAdmit at e
  extract_lets n at e
  split at e
  · split at e
    · rename_i q; cases e; exact charge_same _ _ _ _ _ _ q
    · cases e
  · split at e
    · cases e
    · extract_lets x at e
      split at e
      · cases e
      · split at e
        · cases e; exact Same.refl _ _
        · split at e
          · rename_i q; cases e; exact charge_same _ _ _ _ _ _ q
          · cases e

theorem doSemRing_same : ∀ a0 a1 a2 a3 s0, Same 274948166656 s0 (doSemRing a0 a1 a2 a3 s0) := by
  intro a0 a1 a2 a3 s0
  unfold doSemRing
  extract_lets -merge -underBinder -useContext +onlyGivenNames x1 x2
  refine Same.ite ?_ ?_
  · first | assumption | exact Same.refl _ _
  · refine Same.ite ?_ ?_
    · refine Same.thru (sendPkg_same ..) rfl ?_
      first | assumption | exact Same.refl _ _
    · refine Same.thru (bump_same ..) rfl ?_
      first | assumption | exact Same.refl _ _

theorem doGo_same : ∀ a0 s0, Same 18014400136875936 s0 (doGo a0 s0) := by
  intro a0 s0
  unfold doGo
  refine Same.ite ?_ ?_
  · first | assumption | exact Same.refl _ _
  · extract_lets -merge -underBinder -useContext +onlyGivenNames x1 x2 x3
    refine Same.ite ?_ ?_
    · refine Same.thru (updHost_same ..) rfl ?_
      first | assumption | exact Same.refl _ _
    · extract_lets -merge -underBinder -useContext +onlyGivenNames x4
      have h5 : Same 18014400136875936 s0 x4 := by
        unfold x4
        refine Same.thru (updHost_same ..) rfl ?_
        refine Same.thru (writeBytes_same ..) rfl ?_
        first | assumption | exact Same.refl _ _
      clear_value x4
      refine Same.ite ?_ ?_
      · first | assumption | exact Same.refl _ _
      · refine mailRun_thru rfl ?_ ?_
        · intro y6 hy7
          first | assumption | exact Same.refl _ _
        · first | assumption | exact Same.refl _ _

theorem storePart_same : ∀ a0 a1 a2 a3 a4 s0, Same 1610612736 s0 (storePart a0 a1 a2 a3 a4 s0) := by
  intro a0 a1 a2 a3 a4 s0
  unfold storePart
  extract_lets -merge -underBinder -useContext +onlyGivenNames x1 x2
  refine Same.ite ?_ ?_
  · first | assumption | exact Same.refl _ _
  · refine Same.thru (writeBytes_same ..) rfl ?_
    first | assumption | exact Same.refl _ _

theorem doorWrite_same : ∀ a0 a1 a2 a3 s0, Same 276558779392 s0 (doorWrite a0 a1 a2 a3 s0) := by
  intro a0 a1 a2 a3 s0
  unfold doorWrite
  extract_lets -merge -underBinder -useContext +onlyGivenNames x1 x2 x3
  have h4 : Same 276558779392 s0 x2 := by
    unfold x2
    refine Same.foldl (fun r5 e6 h7 => ?_) ?_
    · refine Same.ite ?_ ?_
      · refine Same.thru (doSemRing_same ..) rfl ?_
        first | assumption | exact Same.refl _ _
      · first | assumption | exact Same.refl _ _
    · first | assumption | exact Same.refl _ _
  clear_value x2
  have h8 : Same 276558779392 s0 x3 := by
    unfold x3
    refine Same.thru (storePart_same ..) rfl ?_
    first | assumption | exact Same.refl _ _
  clear_value x3
  split
  · refine Same.thru (doXchTail_same ..) rfl ?_
    first | assumption | exact Same.refl _ _
  · first | assumption | exact Same.refl _ _

theorem mailWrite_same : ∀ a0 a1 a2 s0, Same 18014400136875936 s0 (mailWrite a0 a1 a2 s0) := by
  intro a0 a1 a2 s0
  unfold mailWrite
  extract_lets -merge -underBinder -useContext +onlyGivenNames x1
  have h2 : Same 18014400136875936 s0 x1 := by
    unfold x1
    refine Same.thru (storePart_same ..) rfl ?_
    first | assumption | exact Same.refl _ _
  clear_value x1
  refine Same.ite ?_ ?_
  · refine Same.thru (doGo_same ..) rfl ?_
    first | assumption | exact Same.refl _ _
  · first | assumption | exact Same.refl _ _

theorem xchWrite_same : ∀ a0 a1 a2 s0, Same 1610613760 s0 (xchWrite a0 a1 a2 s0) := by
  intro a0 a1 a2 s0
  unfold xchWrite
  refine Same.ite ?_ ?_
  · refine Same.thru (bump_same ..) rfl ?_
    first | assumption | exact Same.refl _ _
  · refine Same.thru (writeBytes_same ..) rfl ?_
    first | assumption | exact Same.refl _ _

theorem hostToDie_same : ∀ a0 a1 a2 s0, Same 1924215608320 s0 (hostToDie a0 a1 a2 s0) := by
  intro a0 a1 a2 s0
  unfold hostToDie
  extract_lets -merge -underBinder -useContext +onlyGivenNames x1 x2
  refine Same.thru (request_same ..) rfl ?_
  first | assumption | exact Same.refl _ _

theorem sendWaitReq_same : ∀ a0 s0, Same 1924232385536 s0 (sendWaitReq a0 s0) := by
  intro a0 s0
  unfold sendWaitReq
  split
  · refine Same.ite ?_ ?_
    · refine Same.thru (hostToDie_same ..) rfl ?_
      refine Same.thru (updHost_same ..) rfl ?_
      first | assumption | exact Same.refl _ _
    · first | assumption | exact Same.refl _ _
  · first | assumption | exact Same.refl _ _

theorem sendHub_same : ∀ a0 s0, Same 9009123487126528 s0 (sendHub a0 s0) := by
  intro a0 s0
  unfold sendHub
  refine Same.thru (xchSend_same ..) rfl ?_
  refine Same.foldl (fun r1 e2 h3 => ?_) ?_
  · refine Same.thru (sendWaitReq_same ..) rfl ?_
    first | assumption | exact Same.refl _ _
  · first | assumption | exact Same.refl _ _

theorem hostServe_same : ∀ a0 a1 a2 s0, Same 27023523607224224 s0 (hostServe a0 a1 a2 s0) := by
  intro a0 a1 a2 s0
  unfold hostServe
  extract_lets -merge -underBinder -useContext +onlyGivenNames x1 x2 x3 x4
  split
  · refine Same.thru (sendHub_same ..) rfl ?_
    refine Same.thru (updHost_same ..) rfl ?_
    first | assumption | exact Same.refl _ _
  · refine Same.thru (sendHub_same ..) rfl ?_
    refine Same.thru (updHost_same ..) rfl ?_
    first | assumption | exact Same.refl _ _
  · refine Same.ite ?_ ?_
    · refine Same.ite ?_ ?_
      · unfold x4
        refine Same.thru (emit_same ..) rfl ?_
        refine Same.thru (report_same ..) rfl ?_
        first | assumption | exact Same.refl _ _
      · unfold x2
        refine Same.ite ?_ ?_
        · first | assumption | exact Same.refl _ _
        · refine Same.thru (emit_same ..) rfl ?_
          first | assumption | exact Same.refl _ _
    · refine Same.ite ?_ ?_
      · unfold x2
        refine Same.ite ?_ ?_
        · refine Same.ite ?_ ?_
          · refine Same.foldl (fun r5 e6 h7 => ?_) ?_
            · extract_lets -merge -underBinder -useContext +onlyGivenNames x8 x9 x10
              refine Same.ite ?_ ?_
              · refine Same.thru (doorWrite_same ..) rfl ?_
                first | assumption | exact Same.refl _ _
              · first | assumption | exact Same.refl _ _
            · first | assumption | exact Same.refl _ _
          · refine Same.ite ?_ ?_
            · refine Same.thru (mailWrite_same ..) rfl ?_
              first | assumption | exact Same.refl _ _
            · refine Same.thru (xchWrite_same ..) rfl ?_
              first | assumption | exact Same.refl _ _
        · refine Same.thru (emit_same ..) rfl ?_
          refine Same.ite ?_ ?_
          · refine Same.foldl (fun r11 e12 h13 => ?_) ?_
            · extract_lets -merge -underBinder -useContext +onlyGivenNames x14 x15 x16
              refine Same.ite ?_ ?_
              · refine Same.thru (doorWrite_same ..) rfl ?_
                first | assumption | exact Same.refl _ _
              · first | assumption | exact Same.refl _ _
            · first | assumption | exact Same.refl _ _
          · refine Same.ite ?_ ?_
            · refine Same.thru (mailWrite_same ..) rfl ?_
              first | assumption | exact Same.refl _ _
            · refine Same.thru (xchWrite_same ..) rfl ?_
              first | assumption | exact Same.refl _ _
      · refine Same.ite ?_ ?_
        · unfold x4
          refine Same.thru (emit_same ..) rfl ?_
          refine Same.thru (report_same ..) rfl ?_
          first | assumption | exact Same.refl _ _
        · extract_lets -merge -underBinder -useContext +onlyGivenNames x17
          unfold x2
          refine Same.ite ?_ ?_
          · refine Same.thru (xchWrite_same ..) rfl ?_
            first | assumption | exact Same.refl _ _
          · refine Same.thru (emit_same ..) rfl ?_
            refine Same.thru (xchWrite_same ..) rfl ?_
            first | assumption | exact Same.refl _ _

theorem doHostRequest_same : ∀ a0 a1 s0, Same 27023523607224224 s0 (doHostRequest a0 a1 s0) := by
  intro a0 a1 s0
  unfold doHostRequest
  refine Same.ite ?_ ?_
  · first | assumption | exact Same.refl _ _
  · split
    · refine Same.thru (refuseHost_same ..) rfl ?_
      first | assumption | exact Same.refl _ _
    · split
      · refine Same.thru (refuseHost_same ..) rfl ?_
        first | assumption | exact Same.refl _ _
      · split
        · rename_i v1 v2 hq3
          refine Same.thru (refuseHost_same ..) rfl ?_
          first | assumption | exact Same.refl _ _
        · rename_i v4 v5 hq6
          refine Same.thru (hostServe_same ..) rfl ?_
          have h7 : Same 27023523607224224 s0 v5 := Same.thru (fwAdmit_same _ _ _ _ hq6) rfl (by
            first | assumption | exact Same.refl _ _
            )
          first | assumption | exact Same.refl _ _

theorem hostRead_same : ∀ a0 a1 a2 s0, Same 18014400136877092 s0 (hostRead a0 a1 a2 s0) := by
  intro a0 a1 a2 s0
  unfold hostRead
  refine Same.ite ?_ ?_
  · first | assumption | exact Same.refl _ _
  · refine Same.ite ?_ ?_
    · refine Same.thru (mailDone_same ..) rfl ?_
      first | assumption | exact Same.refl _ _
    · split
      extract_lets -merge -underBinder -useContext +onlyGivenNames x1
      refine Same.thru (mailDone_same ..) rfl ?_
      refine Same.ite ?_ ?_
      · refine Same.thru (readDone_same ..) rfl ?_
        first | assumption | exact Same.refl _ _
      · first | assumption | exact Same.refl _ _

theorem execHostAdmission_same : ∀ a0 a1 a2 a3 a4 s0 t, execHostAdmission a0 a1 a2 a3 a4 s0 = .next t → Same 18014398526463904 s0 t := by
  intro a0 a1 a2 a3 a4 s0 t ht
  unfold execHostAdmission at ht
  refine Same.next ht ?_
  refine Same.thru (doHostAdmit_same ..) rfl ?_
  first | assumption | exact Same.refl _ _

theorem execHostSidebandTimeout_same : ∀ a0 s0 t, execHostSidebandTimeout a0 s0 = .next t → Same 16842752 s0 t := by
  intro a0 s0 t ht
  unfold execHostSidebandTimeout at ht
  refine Same.next ht ?_
  refine Same.thru (doSideband_same ..) rfl ?_
  first | assumption | exact Same.refl _ _

theorem execHostRequest_same : ∀ a0 a1 s0 t, execHostRequest a0 a1 s0 = .next t → Same 27023523607224224 s0 t := by
  intro a0 a1 s0 t ht
  unfold execHostRequest at ht
  refine Same.next ht ?_
  refine Same.thru (doHostRequest_same ..) rfl ?_
  first | assumption | exact Same.refl _ _

theorem execSemRing_same : ∀ a0 a1 a2 a3 s0 t, execSemRing a0 a1 a2 a3 s0 = .next t → Same 274948166656 s0 t := by
  intro a0 a1 a2 a3 s0 t ht
  unfold execSemRing at ht
  refine Same.next ht ?_
  refine Same.thru (doSemRing_same ..) rfl ?_
  first | assumption | exact Same.refl _ _

theorem execHostReset_same : ∀ a0 s0 t, execHostReset a0 s0 = .next t → Same 16777216 s0 t := by
  intro a0 s0 t ht
  unfold execHostReset at ht
  refine Same.next ht ?_
  refine Same.thru (doHostReset_same ..) rfl ?_
  first | assumption | exact Same.refl _ _

theorem execHostLinkLost_same : ∀ a0 a1 s0 t, execHostLinkLost a0 a1 s0 = .next t → Same 18014398526398368 s0 t := by
  intro a0 a1 s0 t ht
  unfold execHostLinkLost at ht
  refine Same.next ht ?_
  refine Same.thru (doHostLost_same ..) rfl ?_
  first | assumption | exact Same.refl _ _

theorem execMsixHoldoffExpiry_same : ∀ a0 a1 s0 t, execMsixHoldoffExpiry a0 a1 s0 = .next t → Same 18014398526259202 s0 t := by
  intro a0 a1 s0 t ht
  unfold execMsixHoldoffExpiry at ht
  refine Same.next ht ?_
  refine Same.thru (doHoldoff_same ..) rfl ?_
  first | assumption | exact Same.refl _ _

theorem execGo_same : ∀ a0 s0 t, execGo a0 s0 = .next t → Same 18014400136875936 s0 t := by
  intro a0 s0 t ht
  unfold execGo at ht
  refine Same.next ht ?_
  refine Same.thru (doGo_same ..) rfl ?_
  first | assumption | exact Same.refl _ _

theorem execObjRead_same : ∀ a0 a1 a2 s0 t, execObjRead a0 a1 a2 s0 = .next t → Same 18014400136877092 s0 t := by
  intro a0 a1 a2 s0 t ht
  unfold execObjRead at ht
  refine Same.next ht ?_
  refine Same.thru (hostRead_same ..) rfl ?_
  first | assumption | exact Same.refl _ _

theorem execObjWrite_same : ∀ a0 a1 a2 a3 s0 t, execObjWrite a0 a1 a2 a3 s0 = .next t → Same 36028797018857470 s0 t := by
  intro a0 a1 a2 a3 s0 t ht
  unfold execObjWrite at ht
  refine Same.next ht ?_
  refine Same.thru (hostWrite_same ..) rfl ?_
  first | assumption | exact Same.refl _ _

end Sys2Proof.Machine
end

