-- ==== Sys2Proof/Laws/FrameIdle.lean ====
section
/-! SUPPORT. Laws/FrameIdle.lean: which fields of the state each operation of Machine/Idle.lean may change. -/
namespace Sys2Proof.Machine
open Sys2Proof

theorem twinBeats_same : ∀ s0, Same 18014398509485060 s0 (twinBeats s0) := by
  intro s0
  unfold twinBeats
  refine Same.ite ?_ ?_
  · split
    rename_i v1 v2 v3 hq4
    refine Same.thru (sendMgmt_same ..) rfl ?_
    refine Same.thru (Same.put_twin _ _ (TwinSt.wf_mk id id)) rfl ?_
    have h5 : Same 18014398509485060 s0 v3 := Same.of_eq Prod.snd hq4 (by
      refine Same.thru (drawFree_same ..) rfl ?_
      first | assumption | exact Same.refl _ _
      )
    first | assumption | exact Same.refl _ _
  · first | assumption | exact Same.refl _ _

theorem idleStep_same : ∀ s0, Same 27566886501244918 s0 (idleStep s0) := by
  intro s0
  unfold idleStep
  extract_lets -merge -underBinder -useContext +onlyGivenNames x1
  have h2 : Same 27566886501244918 s0 x1 := by
    unfold x1
    refine Same.thru (sendHub_same ..) rfl ?_
    refine Same.thru (sendHub_same ..) rfl ?_
    refine Same.thru (tendAll_same ..) rfl ?_
    refine Same.thru (settleNet_same ..) rfl ?_
    refine Same.thru (twinBeats_same ..) rfl ?_
    refine Same.thru (idleTick_same ..) rfl ?_
    first | assumption | exact Same.refl _ _
  clear_value x1
  refine Same.thru (imageWritten_same ..) rfl ?_
  refine Same.thru (answerBusy_same ..) rfl ?_
  refine Same.thru (answerBusy_same ..) rfl ?_
  refine Same.thru (answerKey_same ..) rfl ?_
  refine Same.thru (answerKey_same ..) rfl ?_
  first | assumption | exact Same.refl _ _

end Sys2Proof.Machine
end

