-- ==== Sys2Proof/Laws/FrameMatrix.lean ====
section
/-! SUPPORT. Laws/FrameMatrix.lean: which fields of the state each operation of Machine/Matrix.lean may change. -/
namespace Sys2Proof.Machine
open Sys2Proof

theorem accRead_same : ∀ a0 a1 a2 a3 a4 r0, Same 34360267776 r0.s (accRead a0 a1 a2 a3 a4 r0).2.s := by
  intro a0 a1 a2 a3 a4 r0
  unfold accRead
  refine Same.iteOf (fun z : List Byte × Run => z.2.s) ?_ ?_
  · dsimp -zeta only
    refine Same.thru (Run.stop_same ..) rfl ?_
    dsimp -zeta only
    refine Same.thru (spBad_same ..) rfl ?_
    first | assumption | exact Same.refl _ _
  · dsimp -zeta only
    refine Same.thru (spSee_same ..) rfl ?_
    refine Same.thru (spSoft_same ..) rfl ?_
    first | assumption | exact Same.refl _ _

theorem accWrite_same : ∀ a0 a1 a2 a3 a4 a5 a6 a7 a8 a9 r0, Same 18014741721538470 r0.s (accWrite a0 a1 a2 a3 a4 a5 a6 a7 a8 a9 r0).s := by
  intro a0 a1 a2 a3 a4 a5 a6 a7 a8 a9 r0
  unfold accWrite
  extract_lets -merge -underBinder -useContext +onlyGivenNames x1 x2 x3 x4 x5 x6 x7
  have h8 : Same 18014741721538470 r0.s x7.s := by
    unfold x7
    refine Same.thru (accFlags_same ..) rfl ?_
    first | assumption | exact Same.refl _ _
  clear_value x7
  refine Same.iteRun ?_ ?_
  · first | assumption | exact Same.refl _ _
  · split
    rename_i v9 v10 v11 hq12
    refine Same.iteRun ?_ ?_
    · have h13 : Same 18014741721538470 r0.s v11.s := Same.of_eq (fun z : List Byte × Run => z.2.s) hq12 (by
        refine Same.iteOf (fun z : List Byte × Run => z.2.s) ?_ ?_
        · refine Same.thru (accRead_same ..) rfl ?_
          first | assumption | exact Same.refl _ _
        · first | assumption | exact Same.refl _ _
        )
      first | assumption | exact Same.refl _ _
    · extract_lets -merge -underBinder -useContext +onlyGivenNames x14
      have h15 : Same 18014741721538470 r0.s x14.s := by
        unfold x14
        refine Same.thru (accFlags_same ..) rfl ?_
        have h16 : Same 18014741721538470 r0.s v11.s := Same.of_eq (fun z : List Byte × Run => z.2.s) hq12 (by
          refine Same.iteOf (fun z : List Byte × Run => z.2.s) ?_ ?_
          · refine Same.thru (accRead_same ..) rfl ?_
            first | assumption | exact Same.refl _ _
          · first | assumption | exact Same.refl _ _
          )
        first | assumption | exact Same.refl _ _
      clear_value x14
      split
      extract_lets -merge -underBinder -useContext +onlyGivenNames x17
      have h18 : Same 18014741721538470 r0.s x17 := by
        unfold x17
        refine Same.thru (spPut_same ..) rfl ?_
        first | assumption | exact Same.refl _ _
      clear_value x17
      dsimp -zeta only
      refine Same.ite ?_ ?_
      · refine Same.thru (countResults_same ..) rfl ?_
        first | assumption | exact Same.refl _ _
      · first | assumption | exact Same.refl _ _

theorem maAct_same : ∀ a0 a1 a2 a3 a4 r0, Same 18014741721538470 r0.s (maAct a0 a1 a2 a3 a4 r0).s := by
  intro a0 a1 a2 a3 a4 r0
  unfold maAct
  extract_lets -merge -underBinder -useContext +onlyGivenNames x1
  refine Same.iteRun ?_ ?_
  · extract_lets -merge -underBinder -useContext +onlyGivenNames x2 x3
    split
    rename_i v4 v5 v6 hq7
    have h8 : Same 18014741721538470 r0.s v6.s := Same.of_eq (fun z : List Byte × Run => z.2.s) hq7 (by
      refine Same.thru (spRead_same ..) rfl ?_
      first | assumption | exact Same.refl _ _
      )
    first | assumption | exact Same.refl _ _
  · refine Same.iteRun ?_ ?_
    · extract_lets -merge -underBinder -useContext +onlyGivenNames x9
      split
      rename_i v10 v11 v12 hq13
      have h14 : Same 18014741721538470 r0.s v12.s := Same.of_eq (fun z : List Byte × Run => z.2.s) hq13 (by
        refine Same.thru (spRead_same ..) rfl ?_
        first | assumption | exact Same.refl _ _
        )
      first | assumption | exact Same.refl _ _
    · extract_lets -merge -underBinder -useContext +onlyGivenNames x15 x16 x17
      refine Same.thru (accWrite_same ..) rfl ?_
      first | assumption | exact Same.refl _ _

theorem maCount_same : ∀ a0 a1 a2 a3 a4 s0, Same 1024 s0 (maCount a0 a1 a2 a3 a4 s0) := by
  intro a0 a1 a2 a3 a4 s0
  unfold maCount
  extract_lets -merge -underBinder -useContext +onlyGivenNames x1 x2
  refine Same.thru (bump_same ..) rfl ?_
  refine Same.thru (bump_same ..) rfl ?_
  first | assumption | exact Same.refl _ _

theorem doProduct_same : ∀ a0 a1 a2 s0, Same 18014741721538470 s0 (doProduct a0 a1 a2 s0) := by
  intro a0 a1 a2 s0
  unfold doProduct
  split
  · first | assumption | exact Same.refl _ _
  · refine Same.ite ?_ ?_
    · first | assumption | exact Same.refl _ _
    · extract_lets -merge -underBinder -useContext +onlyGivenNames x1 x2 x3 x4 x5 x6 x7 x8 x9 x10 x11
      have h12 : Same 18014741721538470 s0 x8.s := by
        unfold x8
        refine runEvs_thru rfl ?_ ?_
        · intro y13 y14 hy15
          refine Same.thru (maAct_same ..) rfl ?_
          first | assumption | exact Same.refl _ _
        · first | assumption | exact Same.refl _ _
      clear_value x8
      have h16 : Same 18014741721538470 s0 x10 := by
        unfold x10
        refine Same.thru (maCount_same ..) rfl ?_
        first | assumption | exact Same.refl _ _
      clear_value x10
      have h17 : Same 18014741721538470 s0 x11 := by
        unfold x11
        refine Same.thru (updEngine_same ..) rfl ?_
        first | assumption | exact Same.refl _ _
      clear_value x11
      refine Same.thru (finishRun_same ..) rfl ?_
      first | assumption | exact Same.refl _ _

theorem ewAct_same : ∀ a0 a1 a2 a3 r0, Same 18014741721538470 r0.s (ewAct a0 a1 a2 a3 r0).s := by
  intro a0 a1 a2 a3 r0
  unfold ewAct
  extract_lets -merge -underBinder -useContext +onlyGivenNames x1
  refine Same.iteRun ?_ ?_
  · extract_lets -merge -underBinder -useContext +onlyGivenNames x2
    split
    rename_i v3 v4 v5 hq6
    have h7 : Same 18014741721538470 r0.s v5.s := Same.of_eq (fun z : List Byte × Run => z.2.s) hq6 (by
      refine Same.thru (spRead_same ..) rfl ?_
      first | assumption | exact Same.refl _ _
      )
    first | assumption | exact Same.refl _ _
  · refine Same.iteRun ?_ ?_
    · extract_lets -merge -underBinder -useContext +onlyGivenNames x8
      split
      rename_i v9 v10 v11 hq12
      have h13 : Same 18014741721538470 r0.s v11.s := Same.of_eq (fun z : List Byte × Run => z.2.s) hq12 (by
        refine Same.thru (spRead_same ..) rfl ?_
        first | assumption | exact Same.refl _ _
        )
      first | assumption | exact Same.refl _ _
    · extract_lets -merge -underBinder -useContext +onlyGivenNames x14 x15 x16
      refine Same.thru (accWrite_same ..) rfl ?_
      first | assumption | exact Same.refl _ _

theorem doEwMul_same : ∀ a0 a1 s0, Same 18014741721538470 s0 (doEwMul a0 a1 s0) := by
  intro a0 a1 s0
  unfold doEwMul
  split
  · first | assumption | exact Same.refl _ _
  · refine Same.ite ?_ ?_
    · first | assumption | exact Same.refl _ _
    · extract_lets -merge -underBinder -useContext +onlyGivenNames x1 x2 x3 x4 x5 x6 x7
      have h8 : Same 18014741721538470 s0 x5.s := by
        unfold x5
        refine runEvs_thru rfl ?_ ?_
        · intro y9 y10 hy11
          refine Same.thru (ewAct_same ..) rfl ?_
          first | assumption | exact Same.refl _ _
        · first | assumption | exact Same.refl _ _
      clear_value x5
      have h12 : Same 18014741721538470 s0 x6 := by
        unfold x6
        refine Same.thru (bump_same ..) rfl ?_
        first | assumption | exact Same.refl _ _
      clear_value x6
      have h13 : Same 18014741721538470 s0 x7 := by
        unfold x7
        refine Same.thru (updEngine_same ..) rfl ?_
        first | assumption | exact Same.refl _ _
      clear_value x7
      refine Same.thru (finishRun_same ..) rfl ?_
      first | assumption | exact Same.refl _ _

theorem execMm_same : ∀ a0 a1 s0 t, execMm a0 a1 s0 = .next t → Same 18014741721538470 s0 t := by
  intro a0 a1 s0 t ht
  unfold execMm at ht
  refine Same.next ht ?_
  refine Same.thru (doProduct_same ..) rfl ?_
  first | assumption | exact Same.refl _ _

theorem execMmX3_same : ∀ a0 a1 s0 t, execMmX3 a0 a1 s0 = .next t → Same 18014741721538470 s0 t := by
  intro a0 a1 s0 t ht
  unfold execMmX3 at ht
  refine Same.next ht ?_
  refine Same.thru (doProduct_same ..) rfl ?_
  first | assumption | exact Same.refl _ _

theorem execMmC3_same : ∀ a0 a1 s0 t, execMmC3 a0 a1 s0 = .next t → Same 18014741721538470 s0 t := by
  intro a0 a1 s0 t ht
  unfold execMmC3 at ht
  refine Same.next ht ?_
  refine Same.thru (doProduct_same ..) rfl ?_
  first | assumption | exact Same.refl _ _

theorem execMmC4_same : ∀ a0 a1 s0 t, execMmC4 a0 a1 s0 = .next t → Same 18014741721538470 s0 t := by
  intro a0 a1 s0 t ht
  unfold execMmC4 at ht
  refine Same.next ht ?_
  refine Same.thru (doProduct_same ..) rfl ?_
  first | assumption | exact Same.refl _ _

theorem execMmSlice_same : ∀ a0 a1 s0 t, execMmSlice a0 a1 s0 = .next t → Same 18014741721538470 s0 t := by
  intro a0 a1 s0 t ht
  unfold execMmSlice at ht
  refine Same.next ht ?_
  refine Same.thru (doProduct_same ..) rfl ?_
  first | assumption | exact Same.refl _ _

theorem execEwMul_same : ∀ a0 a1 s0 t, execEwMul a0 a1 s0 = .next t → Same 18014741721538470 s0 t := by
  intro a0 a1 s0 t ht
  unfold execEwMul at ht
  refine Same.next ht ?_
  refine Same.thru (doEwMul_same ..) rfl ?_
  first | assumption | exact Same.refl _ _

end Sys2Proof.Machine
end

