-- ==== Sys2Proof/Laws/FrameVector.lean ====
section
/-! SUPPORT. Laws/FrameVector.lean: which fields of the state each operation of Machine/Vector.lean may change. -/
namespace Sys2Proof.Machine
open Sys2Proof

theorem tableCycle_same : ∀ a0 a1 a2 a3 a4 r0, Same 1024 r0.s (tableCycle a0 a1 a2 a3 a4 r0).2.s := by
  intro a0 a1 a2 a3 a4 r0
  unfold tableCycle
  extract_lets -merge -underBinder -useContext +onlyGivenNames x1
  dsimp -zeta only
  refine Same.iteRun ?_ ?_
  · first | assumption | exact Same.refl _ _
  · dsimp -zeta only
    refine Same.thru (bump_same ..) rfl ?_
    first | assumption | exact Same.refl _ _

theorem gatherElem_same : ∀ a0 a1 a2 a3 a4 a5 r0 a7, Same 42950202368 r0.2.s (gatherElem a0 a1 a2 a3 a4 a5 r0 a7).2.s := by
  intro a0 a1 a2 a3 a4 a5 r0 a7
  unfold gatherElem
  refine Same.iteOf (fun z : List Byte × Run => z.2.s) ?_ ?_
  · first | assumption | exact Same.refl _ _
  · extract_lets -merge -underBinder -useContext +onlyGivenNames x1
    split
    rename_i v2 v3 v4 hq5
    split
    rename_i v6 v7 v8 hq9
    have h10 : Same 42950202368 r0.snd.s v8.s := Same.of_eq (fun z : List Byte × Run => z.2.s) hq9 (by
      refine Same.iteOf (fun z : List Byte × Run => z.2.s) ?_ ?_
      · dsimp -zeta only
        refine Same.thru (Run.stop_same ..) rfl ?_
        have h11 : Same 42950202368 r0.snd.s v4.s := Same.of_eq (fun z : Nat × Run => z.2.s) hq5 (by
          refine Same.thru (tableCycle_same ..) rfl ?_
          first | assumption | exact Same.refl _ _
          )
        first | assumption | exact Same.refl _ _
      · refine Same.thru (spRead_same ..) rfl ?_
        have h12 : Same 42950202368 r0.snd.s v4.s := Same.of_eq (fun z : Nat × Run => z.2.s) hq5 (by
          refine Same.thru (tableCycle_same ..) rfl ?_
          first | assumption | exact Same.refl _ _
          )
        first | assumption | exact Same.refl _ _
      )
    first | assumption | exact Same.refl _ _

theorem gatherElems_same : ∀ a0 a1 a2 a3 a4 a5 r0, Same 42950202368 r0.s (gatherElems a0 a1 a2 a3 a4 a5 r0).2.s := by
  intro a0 a1 a2 a3 a4 a5 r0
  unfold gatherElems
  refine Same.foldlPart (fun z : List Byte × Run => z.2.s) (fun r1 e2 h3 => ?_) ?_
  · refine Same.thru (gatherElem_same ..) rfl ?_
    first | assumption | exact Same.refl _ _
  · first | assumption | exact Same.refl _ _

theorem scatterElem_same : ∀ a0 a1 a2 a3 a4 a5 r0 a7, Same 18014741721538470 r0.s (scatterElem a0 a1 a2 a3 a4 a5 r0 a7).s := by
  intro a0 a1 a2 a3 a4 a5 r0 a7
  unfold scatterElem
  refine Same.iteRun ?_ ?_
  · first | assumption | exact Same.refl _ _
  · refine Same.iteRun ?_ ?_
    · refine Same.thru (Run.stop_same ..) rfl ?_
      first | assumption | exact Same.refl _ _
    · extract_lets -merge -underBinder -useContext +onlyGivenNames x1
      split
      rename_i v2 v3 v4 hq5
      refine Same.iteRun ?_ ?_
      · refine Same.thru (Run.stop_same ..) rfl ?_
        have h6 : Same 18014741721538470 r0.s v4.s := Same.of_eq (fun z : Nat × Run => z.2.s) hq5 (by
          refine Same.thru (tableCycle_same ..) rfl ?_
          first | assumption | exact Same.refl _ _
          )
        first | assumption | exact Same.refl _ _
      · refine Same.thru (spMerge_same ..) rfl ?_
        have h7 : Same 18014741721538470 r0.s v4.s := Same.of_eq (fun z : Nat × Run => z.2.s) hq5 (by
          refine Same.thru (tableCycle_same ..) rfl ?_
          first | assumption | exact Same.refl _ _
          )
        first | assumption | exact Same.refl _ _

theorem scatterElems_same : ∀ a0 a1 a2 a3 a4 a5 r0, Same 18014741721538470 r0.s (scatterElems a0 a1 a2 a3 a4 a5 r0).s := by
  intro a0 a1 a2 a3 a4 a5 r0
  unfold scatterElems
  refine Same.foldlPart Run.s (fun r1 e2 h3 => ?_) ?_
  · refine Same.thru (scatterElem_same ..) rfl ?_
    first | assumption | exact Same.refl _ _
  · first | assumption | exact Same.refl _ _

theorem vecRead_same : ∀ a0 a1 a2 a3 r0, Same 42950202368 r0.s (vecRead a0 a1 a2 a3 r0).s := by
  intro a0 a1 a2 a3 r0
  unfold vecRead
  extract_lets -merge -underBinder -useContext +onlyGivenNames x1 x2
  split
  extract_lets -merge -underBinder -useContext +onlyGivenNames x3
  split
  rename_i v4 v5 v6 hq7
  refine Same.iteRun ?_ ?_
  · have h8 : Same 42950202368 r0.s v6.s := Same.of_eq (fun z : List Byte × Run => z.2.s) hq7 (by
      refine Same.iteOf (fun z : List Byte × Run => z.2.s) ?_ ?_
      · refine Same.thru (spRead_same ..) rfl ?_
        first | assumption | exact Same.refl _ _
      · first | assumption | exact Same.refl _ _
      )
    first | assumption | exact Same.refl _ _
  · extract_lets -merge -underBinder -useContext +onlyGivenNames x9
    have h10 : Same 42950202368 r0.s x9.s := by
      unfold x9
      have h11 : Same 42950202368 r0.s v6.s := Same.of_eq (fun z : List Byte × Run => z.2.s) hq7 (by
        refine Same.iteOf (fun z : List Byte × Run => z.2.s) ?_ ?_
        · refine Same.thru (spRead_same ..) rfl ?_
          first | assumption | exact Same.refl _ _
        · first | assumption | exact Same.refl _ _
        )
      first | assumption | exact Same.refl _ _
    clear_value x9
    refine Same.iteRun ?_ ?_
    · split
      rename_i v12 v13 v14 hq15
      have h16 : Same 42950202368 r0.s v14.s := Same.of_eq (fun z : List Byte × Run => z.2.s) hq15 (by
        refine Same.thru (gatherElems_same ..) rfl ?_
        first | assumption | exact Same.refl _ _
        )
      first | assumption | exact Same.refl _ _
    · refine Same.iteRun ?_ ?_
      · split
        rename_i v17 v18 v19 hq20
        have h21 : Same 42950202368 r0.s v19.s := Same.of_eq (fun z : List Byte × Run => z.2.s) hq20 (by
          refine Same.thru (spRead_same ..) rfl ?_
          first | assumption | exact Same.refl _ _
          )
        first | assumption | exact Same.refl _ _
      · first | assumption | exact Same.refl _ _

theorem vecWrite_same : ∀ a0 a1 a2 a3 a4 r0, Same 18014741721538470 r0.s (vecWrite a0 a1 a2 a3 a4 r0).s := by
  intro a0 a1 a2 a3 a4 r0
  unfold vecWrite
  extract_lets -merge -underBinder -useContext +onlyGivenNames x1 x2 x3 x4 x5 x6 x7
  refine Same.iteRun ?_ ?_
  · split
    extract_lets -merge -underBinder -useContext +onlyGivenNames x8
    have h9 : Same 18014741721538470 r0.s x8.s := by
      unfold x8
      refine Same.thru (spWrite_same ..) rfl ?_
      first | assumption | exact Same.refl _ _
    clear_value x8
    refine Same.iteRun ?_ ?_
    · first | assumption | exact Same.refl _ _
    · dsimp -zeta only
      refine Same.thru (countResults_same ..) rfl ?_
      first | assumption | exact Same.refl _ _
  · refine Same.iteRun ?_ ?_
    · extract_lets -merge -underBinder -useContext +onlyGivenNames x10 x11 x12
      have h13 : Same 18014741721538470 r0.s x12.s := by
        unfold x12
        refine Same.thru (spWrite_same ..) rfl ?_
        first | assumption | exact Same.refl _ _
      clear_value x12
      refine Same.iteRun ?_ ?_
      · first | assumption | exact Same.refl _ _
      · dsimp -zeta only
        refine Same.thru (countResults_same ..) rfl ?_
        first | assumption | exact Same.refl _ _
    · refine Same.iteRun ?_ ?_
      · extract_lets -merge -underBinder -useContext +onlyGivenNames x14
        split
        extract_lets -merge -underBinder -useContext +onlyGivenNames x15 x16
        have h17 : Same 18014741721538470 r0.s x15.s := by
          unfold x15
          refine Same.thru (spWrite_same ..) rfl ?_
          first | assumption | exact Same.refl _ _
        clear_value x15
        have h18 : Same 18014741721538470 r0.s x16.s := by
          unfold x16
          refine Same.iteRun ?_ ?_
          · first | assumption | exact Same.refl _ _
          · refine Same.thru (spMerge_same ..) rfl ?_
            first | assumption | exact Same.refl _ _
        clear_value x16
        refine Same.iteRun ?_ ?_
        · first | assumption | exact Same.refl _ _
        · dsimp -zeta only
          refine Same.thru (bump_same ..) rfl ?_
          refine Same.thru (bump_same ..) rfl ?_
          first | assumption | exact Same.refl _ _
      · refine Same.iteRun ?_ ?_
        · split
          extract_lets -merge -underBinder -useContext +onlyGivenNames x19
          have h20 : Same 18014741721538470 r0.s x19.s := by
            unfold x19
            refine Same.thru (spMerge_same ..) rfl ?_
            first | assumption | exact Same.refl _ _
          clear_value x19
          refine Same.iteRun ?_ ?_
          · first | assumption | exact Same.refl _ _
          · dsimp -zeta only
            refine Same.thru (countResults_same ..) rfl ?_
            first | assumption | exact Same.refl _ _
        · refine Same.iteRun ?_ ?_
          · extract_lets -merge -underBinder -useContext +onlyGivenNames x21 x22
            refine Same.iteRun ?_ ?_
            · extract_lets -merge -underBinder -useContext +onlyGivenNames x23
              have h24 : Same 18014741721538470 r0.s x23.s := by
                unfold x23
                refine Same.thru (spWrite_same ..) rfl ?_
                first | assumption | exact Same.refl _ _
              clear_value x23
              refine Same.iteRun ?_ ?_
              · first | assumption | exact Same.refl _ _
              · dsimp -zeta only
                refine Same.ite ?_ ?_
                · first | assumption | exact Same.refl _ _
                · refine Same.thru (countResults_same ..) rfl ?_
                  first | assumption | exact Same.refl _ _
            · extract_lets -merge -underBinder -useContext +onlyGivenNames x25 x26
              have h27 : Same 18014741721538470 r0.s x25.s := by
                unfold x25
                refine Same.thru (spMerge_same ..) rfl ?_
                first | assumption | exact Same.refl _ _
              clear_value x25
              refine Same.iteRun ?_ ?_
              · first | assumption | exact Same.refl _ _
              · refine Same.thru (Run.stop_same ..) rfl ?_
                dsimp -zeta only
                refine Same.ite ?_ ?_
                · first | assumption | exact Same.refl _ _
                · refine Same.thru (countResults_same ..) rfl ?_
                  first | assumption | exact Same.refl _ _
          · refine Same.iteRun ?_ ?_
            · extract_lets -merge -underBinder -useContext +onlyGivenNames x28 x29 x30 x31 x32
              have h33 : Same 18014741721538470 r0.s x32.s := by
                unfold x32
                refine Same.thru (scatterElems_same ..) rfl ?_
                first | assumption | exact Same.refl _ _
              clear_value x32
              dsimp -zeta only
              refine Same.ite ?_ ?_
              · first | assumption | exact Same.refl _ _
              · refine Same.thru (countResults_same ..) rfl ?_
                first | assumption | exact Same.refl _ _
            · extract_lets -merge -underBinder -useContext +onlyGivenNames x34 x35 x36
              refine Same.thru (accWrite_same ..) rfl ?_
              first | assumption | exact Same.refl _ _

theorem vecAct_same : ∀ a0 a1 a2 a3 r0, Same 18014741721538470 r0.s (vecAct a0 a1 a2 a3 r0).s := by
  intro a0 a1 a2 a3 r0
  unfold vecAct
  refine Same.iteRun ?_ ?_
  · refine Same.thru (vecRead_same ..) rfl ?_
    first | assumption | exact Same.refl _ _
  · refine Same.thru (vecWrite_same ..) rfl ?_
    first | assumption | exact Same.refl _ _

theorem doVector_same : ∀ a0 a1 s0, Same 18014741721538470 s0 (doVector a0 a1 s0) := by
  intro a0 a1 s0
  unfold doVector
  split
  · first | assumption | exact Same.refl _ _
  · refine Same.ite ?_ ?_
    · first | assumption | exact Same.refl _ _
    · extract_lets -merge -underBinder -useContext +onlyGivenNames x1 x2 x3
      refine Same.thru (finishRun_same ..) rfl ?_
      refine runEvs_thru rfl ?_ ?_
      · intro y4 y5 hy6
        refine Same.thru (vecAct_same ..) rfl ?_
        first | assumption | exact Same.refl _ _
      · refine Same.thru (Same.put_free _ _) rfl ?_
        first | assumption | exact Same.refl _ _

theorem execVadd_same : ∀ a0 s0 t, execVadd a0 s0 = .next t → Same 18014741721538470 s0 t := by
  intro a0 s0 t ht
  unfold execVadd at ht
  refine Same.next ht ?_
  refine Same.thru (doVector_same ..) rfl ?_
  first | assumption | exact Same.refl _ _

theorem execVsub_same : ∀ a0 s0 t, execVsub a0 s0 = .next t → Same 18014741721538470 s0 t := by
  intro a0 s0 t ht
  unfold execVsub at ht
  refine Same.next ht ?_
  refine Same.thru (doVector_same ..) rfl ?_
  first | assumption | exact Same.refl _ _

theorem execVmul_same : ∀ a0 s0 t, execVmul a0 s0 = .next t → Same 18014741721538470 s0 t := by
  intro a0 s0 t ht
  unfold execVmul at ht
  refine Same.next ht ?_
  refine Same.thru (doVector_same ..) rfl ?_
  first | assumption | exact Same.refl _ _

theorem execVfma_same : ∀ a0 s0 t, execVfma a0 s0 = .next t → Same 18014741721538470 s0 t := by
  intro a0 s0 t ht
  unfold execVfma at ht
  refine Same.next ht ?_
  refine Same.thru (doVector_same ..) rfl ?_
  first | assumption | exact Same.refl _ _

theorem execVmax_same : ∀ a0 s0 t, execVmax a0 s0 = .next t → Same 18014741721538470 s0 t := by
  intro a0 s0 t ht
  unfold execVmax at ht
  refine Same.next ht ?_
  refine Same.thru (doVector_same ..) rfl ?_
  first | assumption | exact Same.refl _ _

theorem execVmin_same : ∀ a0 s0 t, execVmin a0 s0 = .next t → Same 18014741721538470 s0 t := by
  intro a0 s0 t ht
  unfold execVmin at ht
  refine Same.next ht ?_
  refine Same.thru (doVector_same ..) rfl ?_
  first | assumption | exact Same.refl _ _

theorem execVselect_same : ∀ a0 s0 t, execVselect a0 s0 = .next t → Same 18014741721538470 s0 t := by
  intro a0 s0 t ht
  unfold execVselect at ht
  refine Same.next ht ?_
  refine Same.thru (doVector_same ..) rfl ?_
  first | assumption | exact Same.refl _ _

theorem execVexp_same : ∀ a0 s0 t, execVexp a0 s0 = .next t → Same 18014741721538470 s0 t := by
  intro a0 s0 t ht
  unfold execVexp at ht
  refine Same.next ht ?_
  refine Same.thru (doVector_same ..) rfl ?_
  first | assumption | exact Same.refl _ _

theorem execVlog_same : ∀ a0 s0 t, execVlog a0 s0 = .next t → Same 18014741721538470 s0 t := by
  intro a0 s0 t ht
  unfold execVlog at ht
  refine Same.next ht ?_
  refine Same.thru (doVector_same ..) rfl ?_
  first | assumption | exact Same.refl _ _

theorem execVrecip_same : ∀ a0 s0 t, execVrecip a0 s0 = .next t → Same 18014741721538470 s0 t := by
  intro a0 s0 t ht
  unfold execVrecip at ht
  refine Same.next ht ?_
  refine Same.thru (doVector_same ..) rfl ?_
  first | assumption | exact Same.refl _ _

theorem execVrsqrt_same : ∀ a0 s0 t, execVrsqrt a0 s0 = .next t → Same 18014741721538470 s0 t := by
  intro a0 s0 t ht
  unfold execVrsqrt at ht
  refine Same.next ht ?_
  refine Same.thru (doVector_same ..) rfl ?_
  first | assumption | exact Same.refl _ _

theorem execVtanh_same : ∀ a0 s0 t, execVtanh a0 s0 = .next t → Same 18014741721538470 s0 t := by
  intro a0 s0 t ht
  unfold execVtanh at ht
  refine Same.next ht ?_
  refine Same.thru (doVector_same ..) rfl ?_
  first | assumption | exact Same.refl _ _

theorem execVsigmoid_same : ∀ a0 s0 t, execVsigmoid a0 s0 = .next t → Same 18014741721538470 s0 t := by
  intro a0 s0 t ht
  unfold execVsigmoid at ht
  refine Same.next ht ?_
  refine Same.thru (doVector_same ..) rfl ?_
  first | assumption | exact Same.refl _ _

theorem execVcvt_same : ∀ a0 s0 t, execVcvt a0 s0 = .next t → Same 18014741721538470 s0 t := by
  intro a0 s0 t ht
  unfold execVcvt at ht
  refine Same.next ht ?_
  refine Same.thru (doVector_same ..) rfl ?_
  first | assumption | exact Same.refl _ _

theorem execVquant_same : ∀ a0 s0 t, execVquant a0 s0 = .next t → Same 18014741721538470 s0 t := by
  intro a0 s0 t ht
  unfold execVquant at ht
  refine Same.next ht ?_
  refine Same.thru (doVector_same ..) rfl ?_
  first | assumption | exact Same.refl _ _

theorem execVdequant_same : ∀ a0 s0 t, execVdequant a0 s0 = .next t → Same 18014741721538470 s0 t := by
  intro a0 s0 t ht
  unfold execVdequant at ht
  refine Same.next ht ?_
  refine Same.thru (doVector_same ..) rfl ?_
  first | assumption | exact Same.refl _ _

theorem execVslice_same : ∀ a0 s0 t, execVslice a0 s0 = .next t → Same 18014741721538470 s0 t := by
  intro a0 s0 t ht
  unfold execVslice at ht
  refine Same.next ht ?_
  refine Same.thru (doVector_same ..) rfl ?_
  first | assumption | exact Same.refl _ _

theorem execVred_same : ∀ a0 s0 t, execVred a0 s0 = .next t → Same 18014741721538470 s0 t := by
  intro a0 s0 t ht
  unfold execVred at ht
  refine Same.next ht ?_
  refine Same.thru (doVector_same ..) rfl ?_
  first | assumption | exact Same.refl _ _

theorem execVhred_same : ∀ a0 s0 t, execVhred a0 s0 = .next t → Same 18014741721538470 s0 t := by
  intro a0 s0 t ht
  unfold execVhred at ht
  refine Same.next ht ?_
  refine Same.thru (doVector_same ..) rfl ?_
  first | assumption | exact Same.refl _ _

theorem execVgather_same : ∀ a0 s0 t, execVgather a0 s0 = .next t → Same 18014741721538470 s0 t := by
  intro a0 s0 t ht
  unfold execVgather at ht
  refine Same.next ht ?_
  refine Same.thru (doVector_same ..) rfl ?_
  first | assumption | exact Same.refl _ _

theorem execVscatter_same : ∀ a0 s0 t, execVscatter a0 s0 = .next t → Same 18014741721538470 s0 t := by
  intro a0 s0 t ht
  unfold execVscatter at ht
  refine Same.next ht ?_
  refine Same.thru (doVector_same ..) rfl ?_
  first | assumption | exact Same.refl _ _

end Sys2Proof.Machine
end

