-- ==== Sys2Proof/Laws/FrameNearBank.lean ====
section
/-! SUPPORT. Laws/FrameNearBank.lean: which fields of the state each operation of Machine/NearBank.lean may change. -/
namespace Sys2Proof.Machine
open Sys2Proof

theorem joinWord_same : ∀ a0 a1 a2 a3 z, Same 0 z.2 (joinWord a0 a1 a2 a3 z).2.s := by
  rintro a0 a1 a2 a3 ⟨_ | _, s⟩
  · exact Same.refl _ _
  · exact Same.refl _ _

theorem readWord_same : ∀ a0 a1 a2 a3 a4 r0, Same 1074795520 r0.2.s (readWord a0 a1 a2 a3 a4 r0).2.s := by
  intro a0 a1 a2 a3 a4 r0
  unfold readWord
  refine Same.iteOf (fun z : List Byte × Run => z.2.s) (Same.refl _ _) ?_
  exact Same.thru (joinWord_same ..) rfl (Same.thru (memRead_same ..) rfl (Same.refl _ _))

theorem readLocal_same : ∀ a0 a1 a2 a3 a4 a5 r0, Same 1074795520 r0.s (readLocal a0 a1 a2 a3 a4 a5 r0).2.s := by
  intro a0 a1 a2 a3 a4 a5 r0
  unfold readLocal
  refine Same.foldlPart (fun z : List Byte × Run => z.2.s) (fun r1 e2 h3 => ?_) ?_
  · refine Same.thru (readWord_same ..) rfl ?_
    first | assumption | exact Same.refl _ _
  · first | assumption | exact Same.refl _ _

theorem writeLocal_same : ∀ a0 a1 a2 a3 a4 s0, Same 1610612736 s0 (writeLocal a0 a1 a2 a3 a4 s0) := by
  intro a0 a1 a2 a3 a4 s0
  unfold writeLocal
  refine Same.foldl (fun r1 e2 h3 => ?_) ?_
  · refine Same.thru (writeBytes_same ..) rfl ?_
    first | assumption | exact Same.refl _ _
  · first | assumption | exact Same.refl _ _

theorem setTop_same : ∀ a0 a1 a2 a3 s0, Same 68719476736 s0 (setTop a0 a1 a2 a3 s0) := by
  intro a0 a1 a2 a3 s0
  unfold setTop
  refine Same.thru (Same.put_topk _ _ (fun h => wf_tset h)) rfl ?_
  first | assumption | exact Same.refl _ _

theorem startCmd_same : ∀ a0 a1 a2 a3 a4 s0, Same 137439478784 s0 (startCmd a0 a1 a2 a3 a4 s0) := by
  intro a0 a1 a2 a3 a4 s0
  unfold startCmd
  extract_lets -merge -underBinder -useContext +onlyGivenNames x1 x2
  have h3 : Same 137439478784 s0 x2 := by
    unfold x2
    refine Same.thru (updCd_same ..) rfl ?_
    refine Same.thru (sendWord_same ..) rfl ?_
    first | assumption | exact Same.refl _ _
  clear_value x2
  refine Same.thru (Same.put_ubuf _ _ (fun h => wf_filter h)) rfl ?_
  first | assumption | exact Same.refl _ _

theorem nbResult_same : ∀ a0 a1 a2 a3 a4 r0 a6, Same 1075319808 r0.2.s (nbResult a0 a1 a2 a3 a4 r0 a6).2.s := by
  intro a0 a1 a2 a3 a4 r0 a6
  unfold nbResult
  refine Same.iteOf (fun z : List Byte × Run => z.2.s) ?_ ?_
  · first | assumption | exact Same.refl _ _
  · extract_lets -merge -underBinder -useContext +onlyGivenNames x1 x2
    split
    rename_i v3 v4 v5 hq6
    extract_lets -merge -underBinder -useContext +onlyGivenNames x7 x8
    dsimp -zeta only
    refine Same.iteRun ?_ ?_
    · have h9 : Same 1075319808 r0.snd.s v5.s := Same.of_eq (fun z : List Byte × Run => z.2.s) hq6 (by
        refine Same.thru (readLocal_same ..) rfl ?_
        first | assumption | exact Same.refl _ _
        )
      first | assumption | exact Same.refl _ _
    · dsimp -zeta only
      refine Same.thru (updCd_same ..) rfl ?_
      have h10 : Same 1075319808 r0.snd.s v5.s := Same.of_eq (fun z : List Byte × Run => z.2.s) hq6 (by
        refine Same.thru (readLocal_same ..) rfl ?_
        first | assumption | exact Same.refl _ _
        )
      first | assumption | exact Same.refl _ _

theorem writeRow_same : ∀ a0 a1 a2 a3 a4 a5 a6 s0, Same 1611137024 s0 (writeRow a0 a1 a2 a3 a4 a5 a6 s0) := by
  intro a0 a1 a2 a3 a4 a5 a6 s0
  unfold writeRow
  extract_lets -merge -underBinder -useContext +onlyGivenNames x1 x2
  refine Same.thru (writeLocal_same ..) rfl ?_
  refine Same.thru (updCd_same ..) rfl ?_
  first | assumption | exact Same.refl _ _

theorem nbUpdate_same : ∀ a0 a1 a2 a3 a4 a5 a6 r0 a8, Same 1612190720 r0.s (nbUpdate a0 a1 a2 a3 a4 a5 a6 r0 a8).s := by
  intro a0 a1 a2 a3 a4 a5 a6 r0 a8
  unfold nbUpdate
  extract_lets -merge -underBinder -useContext +onlyGivenNames x1 x2 x3 x4
  split
  rename_i v5 v6 v7 hq8
  split
  rename_i v9 v10 v11 hq12
  refine Same.iteRun ?_ ?_
  · have h13 : Same 1612190720 r0.s v11.s := Same.of_eq (fun z : List Byte × Run => z.2.s) hq12 (by
      refine Same.thru (readLocal_same ..) rfl ?_
      have h14 : Same 1612190720 r0.s v7.s := Same.of_eq (fun z : List Byte × Run => z.2.s) hq8 (by
        refine Same.iteOf (fun z : List Byte × Run => z.2.s) ?_ ?_
        · refine Same.thru (readLocal_same ..) rfl ?_
          first | assumption | exact Same.refl _ _
        · first | assumption | exact Same.refl _ _
        )
      first | assumption | exact Same.refl _ _
      )
    first | assumption | exact Same.refl _ _
  · extract_lets -merge -underBinder -useContext +onlyGivenNames x15 x16 x17 x18
    dsimp -zeta only
    refine Same.thru (writeRow_same ..) rfl ?_
    have h19 : Same 1612190720 r0.s v11.s := Same.of_eq (fun z : List Byte × Run => z.2.s) hq12 (by
      refine Same.thru (readLocal_same ..) rfl ?_
      have h20 : Same 1612190720 r0.s v7.s := Same.of_eq (fun z : List Byte × Run => z.2.s) hq8 (by
        refine Same.iteOf (fun z : List Byte × Run => z.2.s) ?_ ?_
        · refine Same.thru (readLocal_same ..) rfl ?_
          first | assumption | exact Same.refl _ _
        · first | assumption | exact Same.refl _ _
        )
      first | assumption | exact Same.refl _ _
      )
    first | assumption | exact Same.refl _ _

theorem nbRow_same : ∀ a0 a1 a2 a3 a4 a5 a6 a7 r0, Same 1612190720 r0.s (nbRow a0 a1 a2 a3 a4 a5 a6 a7 r0).s := by
  intro a0 a1 a2 a3 a4 a5 a6 a7 r0
  unfold nbRow
  refine Same.foldlPart Run.s (fun r1 e2 h3 => ?_) ?_
  · extract_lets -merge -underBinder -useContext +onlyGivenNames x4
    have h5 : Same 1612190720 r0.s x4.s := by
      unfold x4
      refine Same.thru (nbUpdate_same ..) rfl ?_
      first | assumption | exact Same.refl _ _
    clear_value x4
    refine Same.iteRun ?_ ?_
    · first | assumption | exact Same.refl _ _
    · first | assumption | exact Same.refl _ _
  · first | assumption | exact Same.refl _ _

theorem nbScore_same : ∀ a0 a1 a2 a3 a4 r0 a6, Same 69794272256 r0.s (nbScore a0 a1 a2 a3 a4 r0 a6).s := by
  intro a0 a1 a2 a3 a4 r0 a6
  unfold nbScore
  refine Same.iteRun ?_ ?_
  · first | assumption | exact Same.refl _ _
  · extract_lets -merge -underBinder -useContext +onlyGivenNames x1 x2
    split
    rename_i v3 v4 v5 hq6
    refine Same.iteRun ?_ ?_
    · have h7 : Same 69794272256 r0.s v5.s := Same.of_eq (fun z : List Byte × Run => z.2.s) hq6 (by
        refine Same.thru (readLocal_same ..) rfl ?_
        first | assumption | exact Same.refl _ _
        )
      first | assumption | exact Same.refl _ _
    · extract_lets -merge -underBinder -useContext +onlyGivenNames x8 x9
      dsimp -zeta only
      refine Same.thru (setTop_same ..) rfl ?_
      have h10 : Same 69794272256 r0.s v5.s := Same.of_eq (fun z : List Byte × Run => z.2.s) hq6 (by
        refine Same.thru (readLocal_same ..) rfl ?_
        first | assumption | exact Same.refl _ _
        )
      first | assumption | exact Same.refl _ _

theorem nbBegin_same : ∀ a0 a1 a2 a3 a4 a5 r0, Same 180389155840 r0.s (nbBegin a0 a1 a2 a3 a4 a5 r0).s := by
  intro a0 a1 a2 a3 a4 a5 r0
  unfold nbBegin
  extract_lets -merge -underBinder -useContext +onlyGivenNames x1 x2
  have h3 : Same 180389155840 r0.s x2.s := by
    unfold x2
    refine Same.iteRun ?_ ?_
    · split
      rename_i v4 v5 v6 hq7
      extract_lets -merge -underBinder -useContext +onlyGivenNames x8
      refine Same.iteRun ?_ ?_
      · have h9 : Same 180389155840 r0.s v6.s := Same.of_eq (fun z : List Byte × Run => z.2.s) hq7 (by
          refine Same.thru (spRead_same ..) rfl ?_
          first | assumption | exact Same.refl _ _
          )
        first | assumption | exact Same.refl _ _
      · dsimp -zeta only
        refine Same.thru (updCd_same ..) rfl ?_
        refine Same.thru (sendWord_same ..) rfl ?_
        have h10 : Same 180389155840 r0.s v6.s := Same.of_eq (fun z : List Byte × Run => z.2.s) hq7 (by
          refine Same.thru (spRead_same ..) rfl ?_
          first | assumption | exact Same.refl _ _
          )
        first | assumption | exact Same.refl _ _
    · first | assumption | exact Same.refl _ _
  clear_value x2
  refine Same.iteRun ?_ ?_
  · first | assumption | exact Same.refl _ _
  · dsimp -zeta only
    refine Same.thru (startCmd_same ..) rfl ?_
    first | assumption | exact Same.refl _ _

theorem nbIter_same : ∀ a0 a1 a2 a3 a4 a5 r0, Same 18014947881017254 r0.s (nbIter a0 a1 a2 a3 a4 a5 r0).s := by
  intro a0 a1 a2 a3 a4 a5 r0
  unfold nbIter
  extract_lets -merge -underBinder -useContext +onlyGivenNames x1 x2 x3
  refine Same.iteRun ?_ ?_
  · refine Same.thru (nbBegin_same ..) rfl ?_
    first | assumption | exact Same.refl _ _
  · extract_lets -merge -underBinder -useContext +onlyGivenNames x4 x5 x6
    refine Same.iteRun ?_ ?_
    · split
      rename_i v7 v8 v9 hq10
      refine Same.iteRun ?_ ?_
      · have h11 : Same 18014947881017254 r0.s v9.s := Same.of_eq (fun z : List Byte × Run => z.2.s) hq10 (by
          refine Same.foldlPart (fun z : List Byte × Run => z.2.s) (fun r12 e13 h14 => ?_) ?_
          · refine Same.thru (nbResult_same ..) rfl ?_
            first | assumption | exact Same.refl _ _
          · first | assumption | exact Same.refl _ _
          )
        first | assumption | exact Same.refl _ _
      · refine Same.thru (spWrite_same ..) rfl ?_
        have h15 : Same 18014947881017254 r0.s v9.s := Same.of_eq (fun z : List Byte × Run => z.2.s) hq10 (by
          refine Same.foldlPart (fun z : List Byte × Run => z.2.s) (fun r16 e17 h18 => ?_) ?_
          · refine Same.thru (nbResult_same ..) rfl ?_
            first | assumption | exact Same.refl _ _
          · first | assumption | exact Same.refl _ _
          )
        first | assumption | exact Same.refl _ _
    · refine Same.iteRun ?_ ?_
      · refine Same.thru (nbRow_same ..) rfl ?_
        first | assumption | exact Same.refl _ _
      · extract_lets -merge -underBinder -useContext +onlyGivenNames x19 x20
        have h21 : Same 18014947881017254 r0.s x19 := by
          unfold x19
          refine Same.ite ?_ ?_
          · refine Same.thru (bump_same ..) rfl ?_
            first | assumption | exact Same.refl _ _
          · first | assumption | exact Same.refl _ _
        clear_value x19
        have h22 : Same 18014947881017254 r0.s x20.s := by
          unfold x20
          refine Same.foldlPart Run.s (fun r23 e24 h25 => ?_) ?_
          · refine Same.thru (nbScore_same ..) rfl ?_
            first | assumption | exact Same.refl _ _
          · first | assumption | exact Same.refl _ _
        clear_value x20
        refine Same.iteRun ?_ ?_
        · refine Same.thru (spWrite_same ..) rfl ?_
          dsimp -zeta only
          refine Same.thru (sendWord_same ..) rfl ?_
          first | assumption | exact Same.refl _ _
        · first | assumption | exact Same.refl _ _

theorem nbMove_same : ∀ a0 a1 a2 a3 a4 r0, Same 18014879161540518 r0.s (nbMove a0 a1 a2 a3 a4 r0).s := by
  intro a0 a1 a2 a3 a4 r0
  unfold nbMove
  extract_lets -merge -underBinder -useContext +onlyGivenNames x1 x2 x3
  refine Same.iteRun ?_ ?_
  · dsimp -zeta only
    refine Same.thru (startCmd_same ..) rfl ?_
    first | assumption | exact Same.refl _ _
  · refine Same.iteRun ?_ ?_
    · split
      · rename_i v4 v5 hq6
        refine Same.thru (Run.stop_same ..) rfl ?_
        have h7 : Same 18014879161540518 r0.s v5 := Same.of_eq Prod.snd hq6 (by
          refine Same.thru (memRead_same ..) rfl ?_
          first | assumption | exact Same.refl _ _
          )
        first | assumption | exact Same.refl _ _
      · rename_i v8 v9 v10 hq11
        refine Same.thru (spWrite_same ..) rfl ?_
        have h12 : Same 18014879161540518 r0.s v10 := Same.of_eq Prod.snd hq11 (by
          refine Same.thru (memRead_same ..) rfl ?_
          first | assumption | exact Same.refl _ _
          )
        first | assumption | exact Same.refl _ _
    · split
      rename_i v13 v14 v15 hq16
      refine Same.iteRun ?_ ?_
      · have h17 : Same 18014879161540518 r0.s v15.s := Same.of_eq (fun z : List Byte × Run => z.2.s) hq16 (by
          refine Same.thru (spRead_same ..) rfl ?_
          first | assumption | exact Same.refl _ _
          )
        first | assumption | exact Same.refl _ _
      · dsimp -zeta only
        refine Same.thru (memWrite_same ..) rfl ?_
        have h18 : Same 18014879161540518 r0.s v15.s := Same.of_eq (fun z : List Byte × Run => z.2.s) hq16 (by
          refine Same.thru (spRead_same ..) rfl ?_
          first | assumption | exact Same.refl _ _
          )
        first | assumption | exact Same.refl _ _

theorem doNearBank_same : ∀ a0 a1 s0, Same 18014947881017254 s0 (doNearBank a0 a1 s0) := by
  intro a0 a1 s0
  unfold doNearBank
  split
  · first | assumption | exact Same.refl _ _
  · refine Same.ite ?_ ?_
    · first | assumption | exact Same.refl _ _
    · extract_lets -merge -underBinder -useContext +onlyGivenNames x1 x2 x3 x4 x5 x6 x7 x8 x9 x10 x11
      have h12 : Same 18014947881017254 s0 x9.s := by
        unfold x9
        refine runEvs_thru rfl ?_ ?_
        · intro y13 y14 hy15
          unfold x8
          split
          · refine Same.thru (nbIter_same ..) rfl ?_
            first | assumption | exact Same.refl _ _
          · refine Same.thru (nbMove_same ..) rfl ?_
            first | assumption | exact Same.refl _ _
        · refine Same.thru (Same.put_free _ _) rfl ?_
          first | assumption | exact Same.refl _ _
      clear_value x9
      refine Same.thru (finishRun_same ..) rfl ?_
      dsimp -zeta only
      refine Same.thru (updCd_same ..) rfl ?_
      first | assumption | exact Same.refl _ _

theorem execNbLoad_same : ∀ a0 s0 t, execNbLoad a0 s0 = .next t → Same 18014947881017254 s0 t := by
  intro a0 s0 t ht
  unfold execNbLoad at ht
  refine Same.next ht ?_
  refine Same.thru (doNearBank_same ..) rfl ?_
  first | assumption | exact Same.refl _ _

theorem execNbStore_same : ∀ a0 s0 t, execNbStore a0 s0 = .next t → Same 18014947881017254 s0 t := by
  intro a0 s0 t ht
  unfold execNbStore at ht
  refine Same.next ht ?_
  refine Same.thru (doNearBank_same ..) rfl ?_
  first | assumption | exact Same.refl _ _

theorem execNbMv_same : ∀ a0 s0 t, execNbMv a0 s0 = .next t → Same 18014947881017254 s0 t := by
  intro a0 s0 t ht
  unfold execNbMv at ht
  refine Same.next ht ?_
  refine Same.thru (doNearBank_same ..) rfl ?_
  first | assumption | exact Same.refl _ _

theorem execNbReduce_same : ∀ a0 s0 t, execNbReduce a0 s0 = .next t → Same 18014947881017254 s0 t := by
  intro a0 s0 t ht
  unfold execNbReduce at ht
  refine Same.next ht ?_
  refine Same.thru (doNearBank_same ..) rfl ?_
  first | assumption | exact Same.refl _ _

theorem execNbAxpy_same : ∀ a0 s0 t, execNbAxpy a0 s0 = .next t → Same 18014947881017254 s0 t := by
  intro a0 s0 t ht
  unfold execNbAxpy at ht
  refine Same.next ht ?_
  refine Same.thru (doNearBank_same ..) rfl ?_
  first | assumption | exact Same.refl _ _

theorem execNbScale_same : ∀ a0 s0 t, execNbScale a0 s0 = .next t → Same 18014947881017254 s0 t := by
  intro a0 s0 t ht
  unfold execNbScale at ht
  refine Same.next ht ?_
  refine Same.thru (doNearBank_same ..) rfl ?_
  first | assumption | exact Same.refl _ _

theorem execNbSearch_same : ∀ a0 s0 t, execNbSearch a0 s0 = .next t → Same 18014947881017254 s0 t := by
  intro a0 s0 t ht
  unfold execNbSearch at ht
  refine Same.next ht ?_
  refine Same.thru (doNearBank_same ..) rfl ?_
  first | assumption | exact Same.refl _ _

theorem execNbTopk_same : ∀ a0 s0 t, execNbTopk a0 s0 = .next t → Same 18014947881017254 s0 t := by
  intro a0 s0 t ht
  unfold execNbTopk at ht
  refine Same.next ht ?_
  refine Same.thru (doNearBank_same ..) rfl ?_
  first | assumption | exact Same.refl _ _

end Sys2Proof.Machine
end

