-- ==== Sys2Proof/Laws/FrameStep.lean ====
section
/-! SUPPORT. Laws/FrameStep.lean: which fields of the state each operation of Machine/Step.lean may change. -/
namespace Sys2Proof.Machine
open Sys2Proof

theorem State.withFetchWord_same : ∀ s0 a1 a2, Same 1 s0 (State.withFetchWord s0 a1 a2) := by
  intro s0 a1 a2
  unfold State.withFetchWord
  split
  · first | assumption | exact Same.refl _ _
  · refine Same.thru (Same.put_pending _ _) rfl ?_
    first | assumption | exact Same.refl _ _

end Sys2Proof.Machine
end

