-- ==== Sys2Proof/Laws/Keeps.lean ====
section
/-! SUPPORT. Laws/Keeps.lean: from the masks of the frame lemmas to `Keeps`. -/
namespace Sys2Proof.Machine
open Sys2Proof

/-- The bit of a part in the masks of `Same`. -/
def Part.bit (p : Part) : Nat := p.ctorIdx

/-- A frame lemma gives `Keeps` for every list that names the parts of its mask. -/
theorem Same.keeps {m : Nat} {l : List Part} {s t : State} (h : Same m s t)
    (hm : ∀ p : Part, p ∈ l ∨ m.testBit p.bit = false) : Keeps l s t := by
  intro p hp
  have hb : m.testBit p.bit = false := (hm p).resolve_left hp
  cases p
  case pending => exact h.pending hb
  case time => exact h.time hb
  case free => exact h.free hb
  case rnd => exact h.rnd hb
  case nextUid => exact h.nextUid hb
  case hub => exact h.hub hb
  case sec => exact h.sec hb
  case flash => exact h.flash hb
  case standby => exact h.standby hb
  case jrnl => exact h.jrnl hb
  case mg => exact h.mg hb
  case twin => exact h.twin hb
  case elog => exact h.elog hb
  case pw => exact h.pw hb
  case facets => exact h.facets hb
  case straps => exact h.straps hb
  case siteStatus => exact h.siteStatus hb
  case admitted => exact h.admitted hb
  case held => exact h.held hb
  case cds => exact h.cds hb
  case fds => exact h.fds hb
  case pds => exact h.pds hb
  case oes => exact h.oes hb
  case lsms => exact h.lsms hb
  case hosts => exact h.hosts hb
  case links => exact h.links hb
  case dirs => exact h.dirs hb
  case ctxs => exact h.ctxs hb
  case owner => exact h.owner hb
  case mem => intro a; unfold memGet; rw [h.mem hb]
  case ecc => exact h.ecc hb
  case sems => exact h.sems hb
  case arrs => exact h.arrs hb
  case slots => exact h.slots hb
  case streams => exact h.streams hb
  case engines => exact h.engines hb
  case topk => exact h.topk hb
  case ubuf => exact h.ubuf hb
  case net => exact h.net hb
  case txns => exact h.txns hb
  case tags => exact h.tags hb
  case outst => exact h.outst hb
  case latches => exact h.latches hb
  case fences => exact h.fences hb
  case striped => exact h.striped hb
  case terms => exact h.terms hb
  case mtxns => exact h.mtxns hb
  case plans => exact h.plans hb
  case insts => exact h.insts hb
  case ctrlTable => exact h.ctrlTable hb
  case tickIncs => exact h.tickIncs hb
  case barrierHold => exact h.barrierHold hb
  case idle => exact h.idle hb
  case xch => exact h.xch hb
  case out => exact h.out hb

/-- The condition of `Same.keeps`, as a check over the 55 bits. -/
def coversMask (m : Nat) (l : List Part) : Bool :=
  (List.range 55).all fun i => !m.testBit i || l.any fun p => p.bit == i

theorem Same.keeps' {m : Nat} {l : List Part} {s t : State} (h : Same m s t) (hm : coversMask m l = true) :
    Keeps l s t := by
  refine h.keeps fun p => ?_
  by_cases hb : m.testBit p.bit = false
  · exact .inr hb
  · refine .inl ?_
    have hlt : p.bit < 55 := by cases p <;> decide
    have := List.all_eq_true.mp hm p.bit (List.mem_range.mpr hlt)
    simp only [Bool.or_eq_true, Bool.not_eq_true', List.any_eq_true, beq_iff_eq] at this
    obtain h1 | ⟨q, hq, he⟩ := this
    · exact absurd h1 hb
    · have : q = p := by
        revert he; cases p <;> cases q <;> first | (intro _; rfl) | (intro e; exact absurd e (by decide))
      exact this ▸ hq

end Sys2Proof.Machine
end

