-- ==== Sys2Proof/Laws/Mem.lean ====
section
/-! SUPPORT. Laws/Mem.lean: one byte written is read back and no other changes; every memory operation keeps the canonical
form, and the memory at reset has it. -/
namespace Sys2Proof.Machine
open Sys2Proof

theorem reset_mem_wf : Memory.wf State.reset.mem = true := rfl

theorem memGet_memSet_same {s : State} (a : Nat) (b : Byte) (h : Memory.wf s.mem = true) : memGet (memSet a b s) a = b :=
  tget_tset_same (wf_rising h)

theorem memGet_memSet_ne {s : State} {a x : Nat} (b : Byte) (h : Memory.wf s.mem = true) (hx : x ≠ a) :
    memGet (memSet a b s) x = memGet s x := tget_tset_ne (wf_rising h) hx

theorem memSet_wf {s : State} (a : Nat) (b : Byte) (h : Memory.wf s.mem = true) : Memory.wf (memSet a b s).mem = true :=
  wf_tset h

theorem putBytes_wf {m : List Host.Cell} (a : Nat) (bs : List Byte) (h : Memory.wf m = true) :
    Memory.wf (putBytes m a bs) = true := by
  induction bs generalizing m a with
  | nil => exact h
  | cons b bs ih => exact ih (a + 1) (wf_tset h)

theorem writeBytes_wf {s : State} (a : Nat) (bs : List Byte) (h : Memory.wf s.mem = true) :
    Memory.wf (writeBytes a bs s).mem = true := putBytes_wf a bs h

theorem zeroBytes_wf {s : State} (a n : Nat) (h : Memory.wf s.mem = true) : Memory.wf (zeroBytes a n s).mem = true :=
  wf_tclear h

theorem readBytes_length (s : State) (a n : Nat) : (readBytes s a n).length = n := by
  induction n generalizing a with
  | zero => rfl
  | succ n ih => simp [readBytes, ih]

/-- A read depends on the bytes it reads alone. -/
theorem readBytes_congr {s t : State} (a n : Nat) (h : ∀ x, a ≤ x → x < a + n → memGet t x = memGet s x) :
    readBytes t a n = readBytes s a n := by
  induction n generalizing a with
  | zero => rfl
  | succ n ih =>
    have h0 := h a (Nat.le_refl a) (by omega)
    have h1 := ih (a + 1) fun x hx hy => h x (by omega) (by omega)
    simp only [readBytes, h0, h1]

theorem tget_putBytes_below {m : List Host.Cell} {a x : Nat} (bs : List Byte) (h : rising none m = true) (hx : x < a) :
    tget 0 (putBytes m a bs) x = tget 0 m x := by
  induction bs generalizing m a with
  | nil => rfl
  | cons b bs ih =>
    rw [putBytes, ih (rising_tset h) (by omega), tget_tset_ne h (by omega)]

/-- What `putBytes` wrote is what `readBytes` reads there. -/
theorem readBytes_putBytes {s : State} {m : List Host.Cell} {a : Nat} {bs : List Byte} (h : rising none m = true)
    (hs : s.mem = putBytes m a bs) : readBytes s a bs.length = bs := by
  induction bs generalizing m a with
  | nil => rfl
  | cons b bs ih =>
    have h1 : memGet s a = b := by
      rw [memGet, hs, putBytes, tget_putBytes_below bs (rising_tset h) (by omega), tget_tset_same h]
    rw [List.length_cons, readBytes, h1, ih (rising_tset h) hs]

end Sys2Proof.Machine
end

