-- ==== Sys2Proof/Laws/State.lean ====
section
/-! SUPPORT. Laws/State.lean: what each update of the state leaves alone, one lemma for each field, and what the updated
table reads at its key and at every other key. -/
namespace Sys2Proof.Machine
open Sys2Proof

/-! ## setFacet -/

@[simp] theorem setFacet_pending (s : State) (f : Nat) (x : FacetSt) : (setFacet s f x).pending = s.pending := rfl
@[simp] theorem setFacet_time (s : State) (f : Nat) (x : FacetSt) : (setFacet s f x).time = s.time := rfl
@[simp] theorem setFacet_free (s : State) (f : Nat) (x : FacetSt) : (setFacet s f x).free = s.free := rfl
@[simp] theorem setFacet_rnd (s : State) (f : Nat) (x : FacetSt) : (setFacet s f x).rnd = s.rnd := rfl
@[simp] theorem setFacet_nextUid (s : State) (f : Nat) (x : FacetSt) : (setFacet s f x).nextUid = s.nextUid := rfl
@[simp] theorem setFacet_hub (s : State) (f : Nat) (x : FacetSt) : (setFacet s f x).hub = s.hub := rfl
@[simp] theorem setFacet_sec (s : State) (f : Nat) (x : FacetSt) : (setFacet s f x).sec = s.sec := rfl
@[simp] theorem setFacet_flash (s : State) (f : Nat) (x : FacetSt) : (setFacet s f x).flash = s.flash := rfl
@[simp] theorem setFacet_standby (s : State) (f : Nat) (x : FacetSt) : (setFacet s f x).standby = s.standby := rfl
@[simp] theorem setFacet_jrnl (s : State) (f : Nat) (x : FacetSt) : (setFacet s f x).jrnl = s.jrnl := rfl
@[simp] theorem setFacet_mg (s : State) (f : Nat) (x : FacetSt) : (setFacet s f x).mg = s.mg := rfl
@[simp] theorem setFacet_twin (s : State) (f : Nat) (x : FacetSt) : (setFacet s f x).twin = s.twin := rfl
@[simp] theorem setFacet_elog (s : State) (f : Nat) (x : FacetSt) : (setFacet s f x).elog = s.elog := rfl
@[simp] theorem setFacet_pw (s : State) (f : Nat) (x : FacetSt) : (setFacet s f x).pw = s.pw := rfl
@[simp] theorem setFacet_straps (s : State) (f : Nat) (x : FacetSt) : (setFacet s f x).straps = s.straps := rfl
@[simp] theorem setFacet_siteStatus (s : State) (f : Nat) (x : FacetSt) : (setFacet s f x).siteStatus = s.siteStatus := rfl
@[simp] theorem setFacet_admitted (s : State) (f : Nat) (x : FacetSt) : (setFacet s f x).admitted = s.admitted := rfl
@[simp] theorem setFacet_held (s : State) (f : Nat) (x : FacetSt) : (setFacet s f x).held = s.held := rfl
@[simp] theorem setFacet_cds (s : State) (f : Nat) (x : FacetSt) : (setFacet s f x).cds = s.cds := rfl
@[simp] theorem setFacet_fds (s : State) (f : Nat) (x : FacetSt) : (setFacet s f x).fds = s.fds := rfl
@[simp] theorem setFacet_pds (s : State) (f : Nat) (x : FacetSt) : (setFacet s f x).pds = s.pds := rfl
@[simp] theorem setFacet_oes (s : State) (f : Nat) (x : FacetSt) : (setFacet s f x).oes = s.oes := rfl
@[simp] theorem setFacet_lsms (s : State) (f : Nat) (x : FacetSt) : (setFacet s f x).lsms = s.lsms := rfl
@[simp] theorem setFacet_hosts (s : State) (f : Nat) (x : FacetSt) : (setFacet s f x).hosts = s.hosts := rfl
@[simp] theorem setFacet_links (s : State) (f : Nat) (x : FacetSt) : (setFacet s f x).links = s.links := rfl
@[simp] theorem setFacet_dirs (s : State) (f : Nat) (x : FacetSt) : (setFacet s f x).dirs = s.dirs := rfl
@[simp] theorem setFacet_ctxs (s : State) (f : Nat) (x : FacetSt) : (setFacet s f x).ctxs = s.ctxs := rfl
@[simp] theorem setFacet_owner (s : State) (f : Nat) (x : FacetSt) : (setFacet s f x).owner = s.owner := rfl
@[simp] theorem setFacet_mem (s : State) (f : Nat) (x : FacetSt) : (setFacet s f x).mem = s.mem := rfl
@[simp] theorem setFacet_ecc (s : State) (f : Nat) (x : FacetSt) : (setFacet s f x).ecc = s.ecc := rfl
@[simp] theorem setFacet_sems (s : State) (f : Nat) (x : FacetSt) : (setFacet s f x).sems = s.sems := rfl
@[simp] theorem setFacet_arrs (s : State) (f : Nat) (x : FacetSt) : (setFacet s f x).arrs = s.arrs := rfl
@[simp] theorem setFacet_slots (s : State) (f : Nat) (x : FacetSt) : (setFacet s f x).slots = s.slots := rfl
@[simp] theorem setFacet_streams (s : State) (f : Nat) (x : FacetSt) : (setFacet s f x).streams = s.streams := rfl
@[simp] theorem setFacet_engines (s : State) (f : Nat) (x : FacetSt) : (setFacet s f x).engines = s.engines := rfl
@[simp] theorem setFacet_topk (s : State) (f : Nat) (x : FacetSt) : (setFacet s f x).topk = s.topk := rfl
@[simp] theorem setFacet_ubuf (s : State) (f : Nat) (x : FacetSt) : (setFacet s f x).ubuf = s.ubuf := rfl
@[simp] theorem setFacet_net (s : State) (f : Nat) (x : FacetSt) : (setFacet s f x).net = s.net := rfl
@[simp] theorem setFacet_txns (s : State) (f : Nat) (x : FacetSt) : (setFacet s f x).txns = s.txns := rfl
@[simp] theorem setFacet_tags (s : State) (f : Nat) (x : FacetSt) : (setFacet s f x).tags = s.tags := rfl
@[simp] theorem setFacet_outst (s : State) (f : Nat) (x : FacetSt) : (setFacet s f x).outst = s.outst := rfl
@[simp] theorem setFacet_latches (s : State) (f : Nat) (x : FacetSt) : (setFacet s f x).latches = s.latches := rfl
@[simp] theorem setFacet_fences (s : State) (f : Nat) (x : FacetSt) : (setFacet s f x).fences = s.fences := rfl
@[simp] theorem setFacet_striped (s : State) (f : Nat) (x : FacetSt) : (setFacet s f x).striped = s.striped := rfl
@[simp] theorem setFacet_terms (s : State) (f : Nat) (x : FacetSt) : (setFacet s f x).terms = s.terms := rfl
@[simp] theorem setFacet_mtxns (s : State) (f : Nat) (x : FacetSt) : (setFacet s f x).mtxns = s.mtxns := rfl
@[simp] theorem setFacet_plans (s : State) (f : Nat) (x : FacetSt) : (setFacet s f x).plans = s.plans := rfl
@[simp] theorem setFacet_insts (s : State) (f : Nat) (x : FacetSt) : (setFacet s f x).insts = s.insts := rfl
@[simp] theorem setFacet_ctrlTable (s : State) (f : Nat) (x : FacetSt) : (setFacet s f x).ctrlTable = s.ctrlTable := rfl
@[simp] theorem setFacet_tickIncs (s : State) (f : Nat) (x : FacetSt) : (setFacet s f x).tickIncs = s.tickIncs := rfl
@[simp] theorem setFacet_barrierHold (s : State) (f : Nat) (x : FacetSt) : (setFacet s f x).barrierHold = s.barrierHold := rfl
@[simp] theorem setFacet_idle (s : State) (f : Nat) (x : FacetSt) : (setFacet s f x).idle = s.idle := rfl
@[simp] theorem setFacet_xch (s : State) (f : Nat) (x : FacetSt) : (setFacet s f x).xch = s.xch := rfl
@[simp] theorem setFacet_out (s : State) (f : Nat) (x : FacetSt) : (setFacet s f x).out = s.out := rfl

/-! ## updFacet -/

@[simp] theorem updFacet_pending (f : Nat) (g : FacetSt → FacetSt) (s : State) : (updFacet f g s).pending = s.pending := rfl
@[simp] theorem updFacet_time (f : Nat) (g : FacetSt → FacetSt) (s : State) : (updFacet f g s).time = s.time := rfl
@[simp] theorem updFacet_free (f : Nat) (g : FacetSt → FacetSt) (s : State) : (updFacet f g s).free = s.free := rfl
@[simp] theorem updFacet_rnd (f : Nat) (g : FacetSt → FacetSt) (s : State) : (updFacet f g s).rnd = s.rnd := rfl
@[simp] theorem updFacet_nextUid (f : Nat) (g : FacetSt → FacetSt) (s : State) : (updFacet f g s).nextUid = s.nextUid := rfl
@[simp] theorem updFacet_hub (f : Nat) (g : FacetSt → FacetSt) (s : State) : (updFacet f g s).hub = s.hub := rfl
@[simp] theorem updFacet_sec (f : Nat) (g : FacetSt → FacetSt) (s : State) : (updFacet f g s).sec = s.sec := rfl
@[simp] theorem updFacet_flash (f : Nat) (g : FacetSt → FacetSt) (s : State) : (updFacet f g s).flash = s.flash := rfl
@[simp] theorem updFacet_standby (f : Nat) (g : FacetSt → FacetSt) (s : State) : (updFacet f g s).standby = s.standby := rfl
@[simp] theorem updFacet_jrnl (f : Nat) (g : FacetSt → FacetSt) (s : State) : (updFacet f g s).jrnl = s.jrnl := rfl
@[simp] theorem updFacet_mg (f : Nat) (g : FacetSt → FacetSt) (s : State) : (updFacet f g s).mg = s.mg := rfl
@[simp] theorem updFacet_twin (f : Nat) (g : FacetSt → FacetSt) (s : State) : (updFacet f g s).twin = s.twin := rfl
@[simp] theorem updFacet_elog (f : Nat) (g : FacetSt → FacetSt) (s : State) : (updFacet f g s).elog = s.elog := rfl
@[simp] theorem updFacet_pw (f : Nat) (g : FacetSt → FacetSt) (s : State) : (updFacet f g s).pw = s.pw := rfl
@[simp] theorem updFacet_straps (f : Nat) (g : FacetSt → FacetSt) (s : State) : (updFacet f g s).straps = s.straps := rfl
@[simp] theorem updFacet_siteStatus (f : Nat) (g : FacetSt → FacetSt) (s : State) : (updFacet f g s).siteStatus = s.siteStatus := rfl
@[simp] theorem updFacet_admitted (f : Nat) (g : FacetSt → FacetSt) (s : State) : (updFacet f g s).admitted = s.admitted := rfl
@[simp] theorem updFacet_held (f : Nat) (g : FacetSt → FacetSt) (s : State) : (updFacet f g s).held = s.held := rfl
@[simp] theorem updFacet_cds (f : Nat) (g : FacetSt → FacetSt) (s : State) : (updFacet f g s).cds = s.cds := rfl
@[simp] theorem updFacet_fds (f : Nat) (g : FacetSt → FacetSt) (s : State) : (updFacet f g s).fds = s.fds := rfl
@[simp] theorem updFacet_pds (f : Nat) (g : FacetSt → FacetSt) (s : State) : (updFacet f g s).pds = s.pds := rfl
@[simp] theorem updFacet_oes (f : Nat) (g : FacetSt → FacetSt) (s : State) : (updFacet f g s).oes = s.oes := rfl
@[simp] theorem updFacet_lsms (f : Nat) (g : FacetSt → FacetSt) (s : State) : (updFacet f g s).lsms = s.lsms := rfl
@[simp] theorem updFacet_hosts (f : Nat) (g : FacetSt → FacetSt) (s : State) : (updFacet f g s).hosts = s.hosts := rfl
@[simp] theorem updFacet_links (f : Nat) (g : FacetSt → FacetSt) (s : State) : (updFacet f g s).links = s.links := rfl
@[simp] theorem updFacet_dirs (f : Nat) (g : FacetSt → FacetSt) (s : State) : (updFacet f g s).dirs = s.dirs := rfl
@[simp] theorem updFacet_ctxs (f : Nat) (g : FacetSt → FacetSt) (s : State) : (updFacet f g s).ctxs = s.ctxs := rfl
@[simp] theorem updFacet_owner (f : Nat) (g : FacetSt → FacetSt) (s : State) : (updFacet f g s).owner = s.owner := rfl
@[simp] theorem updFacet_mem (f : Nat) (g : FacetSt → FacetSt) (s : State) : (updFacet f g s).mem = s.mem := rfl
@[simp] theorem updFacet_ecc (f : Nat) (g : FacetSt → FacetSt) (s : State) : (updFacet f g s).ecc = s.ecc := rfl
@[simp] theorem updFacet_sems (f : Nat) (g : FacetSt → FacetSt) (s : State) : (updFacet f g s).sems = s.sems := rfl
@[simp] theorem updFacet_arrs (f : Nat) (g : FacetSt → FacetSt) (s : State) : (updFacet f g s).arrs = s.arrs := rfl
@[simp] theorem updFacet_slots (f : Nat) (g : FacetSt → FacetSt) (s : State) : (updFacet f g s).slots = s.slots := rfl
@[simp] theorem updFacet_streams (f : Nat) (g : FacetSt → FacetSt) (s : State) : (updFacet f g s).streams = s.streams := rfl
@[simp] theorem updFacet_engines (f : Nat) (g : FacetSt → FacetSt) (s : State) : (updFacet f g s).engines = s.engines := rfl
@[simp] theorem updFacet_topk (f : Nat) (g : FacetSt → FacetSt) (s : State) : (updFacet f g s).topk = s.topk := rfl
@[simp] theorem updFacet_ubuf (f : Nat) (g : FacetSt → FacetSt) (s : State) : (updFacet f g s).ubuf = s.ubuf := rfl
@[simp] theorem updFacet_net (f : Nat) (g : FacetSt → FacetSt) (s : State) : (updFacet f g s).net = s.net := rfl
@[simp] theorem updFacet_txns (f : Nat) (g : FacetSt → FacetSt) (s : State) : (updFacet f g s).txns = s.txns := rfl
@[simp] theorem updFacet_tags (f : Nat) (g : FacetSt → FacetSt) (s : State) : (updFacet f g s).tags = s.tags := rfl
@[simp] theorem updFacet_outst (f : Nat) (g : FacetSt → FacetSt) (s : State) : (updFacet f g s).outst = s.outst := rfl
@[simp] theorem updFacet_latches (f : Nat) (g : FacetSt → FacetSt) (s : State) : (updFacet f g s).latches = s.latches := rfl
@[simp] theorem updFacet_fences (f : Nat) (g : FacetSt → FacetSt) (s : State) : (updFacet f g s).fences = s.fences := rfl
@[simp] theorem updFacet_striped (f : Nat) (g : FacetSt → FacetSt) (s : State) : (updFacet f g s).striped = s.striped := rfl
@[simp] theorem updFacet_terms (f : Nat) (g : FacetSt → FacetSt) (s : State) : (updFacet f g s).terms = s.terms := rfl
@[simp] theorem updFacet_mtxns (f : Nat) (g : FacetSt → FacetSt) (s : State) : (updFacet f g s).mtxns = s.mtxns := rfl
@[simp] theorem updFacet_plans (f : Nat) (g : FacetSt → FacetSt) (s : State) : (updFacet f g s).plans = s.plans := rfl
@[simp] theorem updFacet_insts (f : Nat) (g : FacetSt → FacetSt) (s : State) : (updFacet f g s).insts = s.insts := rfl
@[simp] theorem updFacet_ctrlTable (f : Nat) (g : FacetSt → FacetSt) (s : State) : (updFacet f g s).ctrlTable = s.ctrlTable := rfl
@[simp] theorem updFacet_tickIncs (f : Nat) (g : FacetSt → FacetSt) (s : State) : (updFacet f g s).tickIncs = s.tickIncs := rfl
@[simp] theorem updFacet_barrierHold (f : Nat) (g : FacetSt → FacetSt) (s : State) : (updFacet f g s).barrierHold = s.barrierHold := rfl
@[simp] theorem updFacet_idle (f : Nat) (g : FacetSt → FacetSt) (s : State) : (updFacet f g s).idle = s.idle := rfl
@[simp] theorem updFacet_xch (f : Nat) (g : FacetSt → FacetSt) (s : State) : (updFacet f g s).xch = s.xch := rfl
@[simp] theorem updFacet_out (f : Nat) (g : FacetSt → FacetSt) (s : State) : (updFacet f g s).out = s.out := rfl

/-! ## setCd -/

@[simp] theorem setCd_pending (s : State) (c : Nat) (x : CdSt) : (setCd s c x).pending = s.pending := rfl
@[simp] theorem setCd_time (s : State) (c : Nat) (x : CdSt) : (setCd s c x).time = s.time := rfl
@[simp] theorem setCd_free (s : State) (c : Nat) (x : CdSt) : (setCd s c x).free = s.free := rfl
@[simp] theorem setCd_rnd (s : State) (c : Nat) (x : CdSt) : (setCd s c x).rnd = s.rnd := rfl
@[simp] theorem setCd_nextUid (s : State) (c : Nat) (x : CdSt) : (setCd s c x).nextUid = s.nextUid := rfl
@[simp] theorem setCd_hub (s : State) (c : Nat) (x : CdSt) : (setCd s c x).hub = s.hub := rfl
@[simp] theorem setCd_sec (s : State) (c : Nat) (x : CdSt) : (setCd s c x).sec = s.sec := rfl
@[simp] theorem setCd_flash (s : State) (c : Nat) (x : CdSt) : (setCd s c x).flash = s.flash := rfl
@[simp] theorem setCd_standby (s : State) (c : Nat) (x : CdSt) : (setCd s c x).standby = s.standby := rfl
@[simp] theorem setCd_jrnl (s : State) (c : Nat) (x : CdSt) : (setCd s c x).jrnl = s.jrnl := rfl
@[simp] theorem setCd_mg (s : State) (c : Nat) (x : CdSt) : (setCd s c x).mg = s.mg := rfl
@[simp] theorem setCd_twin (s : State) (c : Nat) (x : CdSt) : (setCd s c x).twin = s.twin := rfl
@[simp] theorem setCd_elog (s : State) (c : Nat) (x : CdSt) : (setCd s c x).elog = s.elog := rfl
@[simp] theorem setCd_pw (s : State) (c : Nat) (x : CdSt) : (setCd s c x).pw = s.pw := rfl
@[simp] theorem setCd_facets (s : State) (c : Nat) (x : CdSt) : (setCd s c x).facets = s.facets := rfl
@[simp] theorem setCd_straps (s : State) (c : Nat) (x : CdSt) : (setCd s c x).straps = s.straps := rfl
@[simp] theorem setCd_siteStatus (s : State) (c : Nat) (x : CdSt) : (setCd s c x).siteStatus = s.siteStatus := rfl
@[simp] theorem setCd_admitted (s : State) (c : Nat) (x : CdSt) : (setCd s c x).admitted = s.admitted := rfl
@[simp] theorem setCd_held (s : State) (c : Nat) (x : CdSt) : (setCd s c x).held = s.held := rfl
@[simp] theorem setCd_fds (s : State) (c : Nat) (x : CdSt) : (setCd s c x).fds = s.fds := rfl
@[simp] theorem setCd_pds (s : State) (c : Nat) (x : CdSt) : (setCd s c x).pds = s.pds := rfl
@[simp] theorem setCd_oes (s : State) (c : Nat) (x : CdSt) : (setCd s c x).oes = s.oes := rfl
@[simp] theorem setCd_lsms (s : State) (c : Nat) (x : CdSt) : (setCd s c x).lsms = s.lsms := rfl
@[simp] theorem setCd_hosts (s : State) (c : Nat) (x : CdSt) : (setCd s c x).hosts = s.hosts := rfl
@[simp] theorem setCd_links (s : State) (c : Nat) (x : CdSt) : (setCd s c x).links = s.links := rfl
@[simp] theorem setCd_dirs (s : State) (c : Nat) (x : CdSt) : (setCd s c x).dirs = s.dirs := rfl
@[simp] theorem setCd_ctxs (s : State) (c : Nat) (x : CdSt) : (setCd s c x).ctxs = s.ctxs := rfl
@[simp] theorem setCd_owner (s : State) (c : Nat) (x : CdSt) : (setCd s c x).owner = s.owner := rfl
@[simp] theorem setCd_mem (s : State) (c : Nat) (x : CdSt) : (setCd s c x).mem = s.mem := rfl
@[simp] theorem setCd_ecc (s : State) (c : Nat) (x : CdSt) : (setCd s c x).ecc = s.ecc := rfl
@[simp] theorem setCd_sems (s : State) (c : Nat) (x : CdSt) : (setCd s c x).sems = s.sems := rfl
@[simp] theorem setCd_arrs (s : State) (c : Nat) (x : CdSt) : (setCd s c x).arrs = s.arrs := rfl
@[simp] theorem setCd_slots (s : State) (c : Nat) (x : CdSt) : (setCd s c x).slots = s.slots := rfl
@[simp] theorem setCd_streams (s : State) (c : Nat) (x : CdSt) : (setCd s c x).streams = s.streams := rfl
@[simp] theorem setCd_engines (s : State) (c : Nat) (x : CdSt) : (setCd s c x).engines = s.engines := rfl
@[simp] theorem setCd_topk (s : State) (c : Nat) (x : CdSt) : (setCd s c x).topk = s.topk := rfl
@[simp] theorem setCd_ubuf (s : State) (c : Nat) (x : CdSt) : (setCd s c x).ubuf = s.ubuf := rfl
@[simp] theorem setCd_net (s : State) (c : Nat) (x : CdSt) : (setCd s c x).net = s.net := rfl
@[simp] theorem setCd_txns (s : State) (c : Nat) (x : CdSt) : (setCd s c x).txns = s.txns := rfl
@[simp] theorem setCd_tags (s : State) (c : Nat) (x : CdSt) : (setCd s c x).tags = s.tags := rfl
@[simp] theorem setCd_outst (s : State) (c : Nat) (x : CdSt) : (setCd s c x).outst = s.outst := rfl
@[simp] theorem setCd_latches (s : State) (c : Nat) (x : CdSt) : (setCd s c x).latches = s.latches := rfl
@[simp] theorem setCd_fences (s : State) (c : Nat) (x : CdSt) : (setCd s c x).fences = s.fences := rfl
@[simp] theorem setCd_striped (s : State) (c : Nat) (x : CdSt) : (setCd s c x).striped = s.striped := rfl
@[simp] theorem setCd_terms (s : State) (c : Nat) (x : CdSt) : (setCd s c x).terms = s.terms := rfl
@[simp] theorem setCd_mtxns (s : State) (c : Nat) (x : CdSt) : (setCd s c x).mtxns = s.mtxns := rfl
@[simp] theorem setCd_plans (s : State) (c : Nat) (x : CdSt) : (setCd s c x).plans = s.plans := rfl
@[simp] theorem setCd_insts (s : State) (c : Nat) (x : CdSt) : (setCd s c x).insts = s.insts := rfl
@[simp] theorem setCd_ctrlTable (s : State) (c : Nat) (x : CdSt) : (setCd s c x).ctrlTable = s.ctrlTable := rfl
@[simp] theorem setCd_tickIncs (s : State) (c : Nat) (x : CdSt) : (setCd s c x).tickIncs = s.tickIncs := rfl
@[simp] theorem setCd_barrierHold (s : State) (c : Nat) (x : CdSt) : (setCd s c x).barrierHold = s.barrierHold := rfl
@[simp] theorem setCd_idle (s : State) (c : Nat) (x : CdSt) : (setCd s c x).idle = s.idle := rfl
@[simp] theorem setCd_xch (s : State) (c : Nat) (x : CdSt) : (setCd s c x).xch = s.xch := rfl
@[simp] theorem setCd_out (s : State) (c : Nat) (x : CdSt) : (setCd s c x).out = s.out := rfl

/-! ## updCd -/

@[simp] theorem updCd_pending (c : Nat) (g : CdSt → CdSt) (s : State) : (updCd c g s).pending = s.pending := rfl
@[simp] theorem updCd_time (c : Nat) (g : CdSt → CdSt) (s : State) : (updCd c g s).time = s.time := rfl
@[simp] theorem updCd_free (c : Nat) (g : CdSt → CdSt) (s : State) : (updCd c g s).free = s.free := rfl
@[simp] theorem updCd_rnd (c : Nat) (g : CdSt → CdSt) (s : State) : (updCd c g s).rnd = s.rnd := rfl
@[simp] theorem updCd_nextUid (c : Nat) (g : CdSt → CdSt) (s : State) : (updCd c g s).nextUid = s.nextUid := rfl
@[simp] theorem updCd_hub (c : Nat) (g : CdSt → CdSt) (s : State) : (updCd c g s).hub = s.hub := rfl
@[simp] theorem updCd_sec (c : Nat) (g : CdSt → CdSt) (s : State) : (updCd c g s).sec = s.sec := rfl
@[simp] theorem updCd_flash (c : Nat) (g : CdSt → CdSt) (s : State) : (updCd c g s).flash = s.flash := rfl
@[simp] theorem updCd_standby (c : Nat) (g : CdSt → CdSt) (s : State) : (updCd c g s).standby = s.standby := rfl
@[simp] theorem updCd_jrnl (c : Nat) (g : CdSt → CdSt) (s : State) : (updCd c g s).jrnl = s.jrnl := rfl
@[simp] theorem updCd_mg (c : Nat) (g : CdSt → CdSt) (s : State) : (updCd c g s).mg = s.mg := rfl
@[simp] theorem updCd_twin (c : Nat) (g : CdSt → CdSt) (s : State) : (updCd c g s).twin = s.twin := rfl
@[simp] theorem updCd_elog (c : Nat) (g : CdSt → CdSt) (s : State) : (updCd c g s).elog = s.elog := rfl
@[simp] theorem updCd_pw (c : Nat) (g : CdSt → CdSt) (s : State) : (updCd c g s).pw = s.pw := rfl
@[simp] theorem updCd_facets (c : Nat) (g : CdSt → CdSt) (s : State) : (updCd c g s).facets = s.facets := rfl
@[simp] theorem updCd_straps (c : Nat) (g : CdSt → CdSt) (s : State) : (updCd c g s).straps = s.straps := rfl
@[simp] theorem updCd_siteStatus (c : Nat) (g : CdSt → CdSt) (s : State) : (updCd c g s).siteStatus = s.siteStatus := rfl
@[simp] theorem updCd_admitted (c : Nat) (g : CdSt → CdSt) (s : State) : (updCd c g s).admitted = s.admitted := rfl
@[simp] theorem updCd_held (c : Nat) (g : CdSt → CdSt) (s : State) : (updCd c g s).held = s.held := rfl
@[simp] theorem updCd_fds (c : Nat) (g : CdSt → CdSt) (s : State) : (updCd c g s).fds = s.fds := rfl
@[simp] theorem updCd_pds (c : Nat) (g : CdSt → CdSt) (s : State) : (updCd c g s).pds = s.pds := rfl
@[simp] theorem updCd_oes (c : Nat) (g : CdSt → CdSt) (s : State) : (updCd c g s).oes = s.oes := rfl
@[simp] theorem updCd_lsms (c : Nat) (g : CdSt → CdSt) (s : State) : (updCd c g s).lsms = s.lsms := rfl
@[simp] theorem updCd_hosts (c : Nat) (g : CdSt → CdSt) (s : State) : (updCd c g s).hosts = s.hosts := rfl
@[simp] theorem updCd_links (c : Nat) (g : CdSt → CdSt) (s : State) : (updCd c g s).links = s.links := rfl
@[simp] theorem updCd_dirs (c : Nat) (g : CdSt → CdSt) (s : State) : (updCd c g s).dirs = s.dirs := rfl
@[simp] theorem updCd_ctxs (c : Nat) (g : CdSt → CdSt) (s : State) : (updCd c g s).ctxs = s.ctxs := rfl
@[simp] theorem updCd_owner (c : Nat) (g : CdSt → CdSt) (s : State) : (updCd c g s).owner = s.owner := rfl
@[simp] theorem updCd_mem (c : Nat) (g : CdSt → CdSt) (s : State) : (updCd c g s).mem = s.mem := rfl
@[simp] theorem updCd_ecc (c : Nat) (g : CdSt → CdSt) (s : State) : (updCd c g s).ecc = s.ecc := rfl
@[simp] theorem updCd_sems (c : Nat) (g : CdSt → CdSt) (s : State) : (updCd c g s).sems = s.sems := rfl
@[simp] theorem updCd_arrs (c : Nat) (g : CdSt → CdSt) (s : State) : (updCd c g s).arrs = s.arrs := rfl
@[simp] theorem updCd_slots (c : Nat) (g : CdSt → CdSt) (s : State) : (updCd c g s).slots = s.slots := rfl
@[simp] theorem updCd_streams (c : Nat) (g : CdSt → CdSt) (s : State) : (updCd c g s).streams = s.streams := rfl
@[simp] theorem updCd_engines (c : Nat) (g : CdSt → CdSt) (s : State) : (updCd c g s).engines = s.engines := rfl
@[simp] theorem updCd_topk (c : Nat) (g : CdSt → CdSt) (s : State) : (updCd c g s).topk = s.topk := rfl
@[simp] theorem updCd_ubuf (c : Nat) (g : CdSt → CdSt) (s : State) : (updCd c g s).ubuf = s.ubuf := rfl
@[simp] theorem updCd_net (c : Nat) (g : CdSt → CdSt) (s : State) : (updCd c g s).net = s.net := rfl
@[simp] theorem updCd_txns (c : Nat) (g : CdSt → CdSt) (s : State) : (updCd c g s).txns = s.txns := rfl
@[simp] theorem updCd_tags (c : Nat) (g : CdSt → CdSt) (s : State) : (updCd c g s).tags = s.tags := rfl
@[simp] theorem updCd_outst (c : Nat) (g : CdSt → CdSt) (s : State) : (updCd c g s).outst = s.outst := rfl
@[simp] theorem updCd_latches (c : Nat) (g : CdSt → CdSt) (s : State) : (updCd c g s).latches = s.latches := rfl
@[simp] theorem updCd_fences (c : Nat) (g : CdSt → CdSt) (s : State) : (updCd c g s).fences = s.fences := rfl
@[simp] theorem updCd_striped (c : Nat) (g : CdSt → CdSt) (s : State) : (updCd c g s).striped = s.striped := rfl
@[simp] theorem updCd_terms (c : Nat) (g : CdSt → CdSt) (s : State) : (updCd c g s).terms = s.terms := rfl
@[simp] theorem updCd_mtxns (c : Nat) (g : CdSt → CdSt) (s : State) : (updCd c g s).mtxns = s.mtxns := rfl
@[simp] theorem updCd_plans (c : Nat) (g : CdSt → CdSt) (s : State) : (updCd c g s).plans = s.plans := rfl
@[simp] theorem updCd_insts (c : Nat) (g : CdSt → CdSt) (s : State) : (updCd c g s).insts = s.insts := rfl
@[simp] theorem updCd_ctrlTable (c : Nat) (g : CdSt → CdSt) (s : State) : (updCd c g s).ctrlTable = s.ctrlTable := rfl
@[simp] theorem updCd_tickIncs (c : Nat) (g : CdSt → CdSt) (s : State) : (updCd c g s).tickIncs = s.tickIncs := rfl
@[simp] theorem updCd_barrierHold (c : Nat) (g : CdSt → CdSt) (s : State) : (updCd c g s).barrierHold = s.barrierHold := rfl
@[simp] theorem updCd_idle (c : Nat) (g : CdSt → CdSt) (s : State) : (updCd c g s).idle = s.idle := rfl
@[simp] theorem updCd_xch (c : Nat) (g : CdSt → CdSt) (s : State) : (updCd c g s).xch = s.xch := rfl
@[simp] theorem updCd_out (c : Nat) (g : CdSt → CdSt) (s : State) : (updCd c g s).out = s.out := rfl

/-! ## updFd -/

@[simp] theorem updFd_pending (c : Nat) (g : FdSt → FdSt) (s : State) : (updFd c g s).pending = s.pending := rfl
@[simp] theorem updFd_time (c : Nat) (g : FdSt → FdSt) (s : State) : (updFd c g s).time = s.time := rfl
@[simp] theorem updFd_free (c : Nat) (g : FdSt → FdSt) (s : State) : (updFd c g s).free = s.free := rfl
@[simp] theorem updFd_rnd (c : Nat) (g : FdSt → FdSt) (s : State) : (updFd c g s).rnd = s.rnd := rfl
@[simp] theorem updFd_nextUid (c : Nat) (g : FdSt → FdSt) (s : State) : (updFd c g s).nextUid = s.nextUid := rfl
@[simp] theorem updFd_hub (c : Nat) (g : FdSt → FdSt) (s : State) : (updFd c g s).hub = s.hub := rfl
@[simp] theorem updFd_sec (c : Nat) (g : FdSt → FdSt) (s : State) : (updFd c g s).sec = s.sec := rfl
@[simp] theorem updFd_flash (c : Nat) (g : FdSt → FdSt) (s : State) : (updFd c g s).flash = s.flash := rfl
@[simp] theorem updFd_standby (c : Nat) (g : FdSt → FdSt) (s : State) : (updFd c g s).standby = s.standby := rfl
@[simp] theorem updFd_jrnl (c : Nat) (g : FdSt → FdSt) (s : State) : (updFd c g s).jrnl = s.jrnl := rfl
@[simp] theorem updFd_mg (c : Nat) (g : FdSt → FdSt) (s : State) : (updFd c g s).mg = s.mg := rfl
@[simp] theorem updFd_twin (c : Nat) (g : FdSt → FdSt) (s : State) : (updFd c g s).twin = s.twin := rfl
@[simp] theorem updFd_elog (c : Nat) (g : FdSt → FdSt) (s : State) : (updFd c g s).elog = s.elog := rfl
@[simp] theorem updFd_pw (c : Nat) (g : FdSt → FdSt) (s : State) : (updFd c g s).pw = s.pw := rfl
@[simp] theorem updFd_facets (c : Nat) (g : FdSt → FdSt) (s : State) : (updFd c g s).facets = s.facets := rfl
@[simp] theorem updFd_straps (c : Nat) (g : FdSt → FdSt) (s : State) : (updFd c g s).straps = s.straps := rfl
@[simp] theorem updFd_siteStatus (c : Nat) (g : FdSt → FdSt) (s : State) : (updFd c g s).siteStatus = s.siteStatus := rfl
@[simp] theorem updFd_admitted (c : Nat) (g : FdSt → FdSt) (s : State) : (updFd c g s).admitted = s.admitted := rfl
@[simp] theorem updFd_held (c : Nat) (g : FdSt → FdSt) (s : State) : (updFd c g s).held = s.held := rfl
@[simp] theorem updFd_cds (c : Nat) (g : FdSt → FdSt) (s : State) : (updFd c g s).cds = s.cds := rfl
@[simp] theorem updFd_pds (c : Nat) (g : FdSt → FdSt) (s : State) : (updFd c g s).pds = s.pds := rfl
@[simp] theorem updFd_oes (c : Nat) (g : FdSt → FdSt) (s : State) : (updFd c g s).oes = s.oes := rfl
@[simp] theorem updFd_lsms (c : Nat) (g : FdSt → FdSt) (s : State) : (updFd c g s).lsms = s.lsms := rfl
@[simp] theorem updFd_hosts (c : Nat) (g : FdSt → FdSt) (s : State) : (updFd c g s).hosts = s.hosts := rfl
@[simp] theorem updFd_links (c : Nat) (g : FdSt → FdSt) (s : State) : (updFd c g s).links = s.links := rfl
@[simp] theorem updFd_dirs (c : Nat) (g : FdSt → FdSt) (s : State) : (updFd c g s).dirs = s.dirs := rfl
@[simp] theorem updFd_ctxs (c : Nat) (g : FdSt → FdSt) (s : State) : (updFd c g s).ctxs = s.ctxs := rfl
@[simp] theorem updFd_owner (c : Nat) (g : FdSt → FdSt) (s : State) : (updFd c g s).owner = s.owner := rfl
@[simp] theorem updFd_mem (c : Nat) (g : FdSt → FdSt) (s : State) : (updFd c g s).mem = s.mem := rfl
@[simp] theorem updFd_ecc (c : Nat) (g : FdSt → FdSt) (s : State) : (updFd c g s).ecc = s.ecc := rfl
@[simp] theorem updFd_sems (c : Nat) (g : FdSt → FdSt) (s : State) : (updFd c g s).sems = s.sems := rfl
@[simp] theorem updFd_arrs (c : Nat) (g : FdSt → FdSt) (s : State) : (updFd c g s).arrs = s.arrs := rfl
@[simp] theorem updFd_slots (c : Nat) (g : FdSt → FdSt) (s : State) : (updFd c g s).slots = s.slots := rfl
@[simp] theorem updFd_streams (c : Nat) (g : FdSt → FdSt) (s : State) : (updFd c g s).streams = s.streams := rfl
@[simp] theorem updFd_engines (c : Nat) (g : FdSt → FdSt) (s : State) : (updFd c g s).engines = s.engines := rfl
@[simp] theorem updFd_topk (c : Nat) (g : FdSt → FdSt) (s : State) : (updFd c g s).topk = s.topk := rfl
@[simp] theorem updFd_ubuf (c : Nat) (g : FdSt → FdSt) (s : State) : (updFd c g s).ubuf = s.ubuf := rfl
@[simp] theorem updFd_net (c : Nat) (g : FdSt → FdSt) (s : State) : (updFd c g s).net = s.net := rfl
@[simp] theorem updFd_txns (c : Nat) (g : FdSt → FdSt) (s : State) : (updFd c g s).txns = s.txns := rfl
@[simp] theorem updFd_tags (c : Nat) (g : FdSt → FdSt) (s : State) : (updFd c g s).tags = s.tags := rfl
@[simp] theorem updFd_outst (c : Nat) (g : FdSt → FdSt) (s : State) : (updFd c g s).outst = s.outst := rfl
@[simp] theorem updFd_latches (c : Nat) (g : FdSt → FdSt) (s : State) : (updFd c g s).latches = s.latches := rfl
@[simp] theorem updFd_fences (c : Nat) (g : FdSt → FdSt) (s : State) : (updFd c g s).fences = s.fences := rfl
@[simp] theorem updFd_striped (c : Nat) (g : FdSt → FdSt) (s : State) : (updFd c g s).striped = s.striped := rfl
@[simp] theorem updFd_terms (c : Nat) (g : FdSt → FdSt) (s : State) : (updFd c g s).terms = s.terms := rfl
@[simp] theorem updFd_mtxns (c : Nat) (g : FdSt → FdSt) (s : State) : (updFd c g s).mtxns = s.mtxns := rfl
@[simp] theorem updFd_plans (c : Nat) (g : FdSt → FdSt) (s : State) : (updFd c g s).plans = s.plans := rfl
@[simp] theorem updFd_insts (c : Nat) (g : FdSt → FdSt) (s : State) : (updFd c g s).insts = s.insts := rfl
@[simp] theorem updFd_ctrlTable (c : Nat) (g : FdSt → FdSt) (s : State) : (updFd c g s).ctrlTable = s.ctrlTable := rfl
@[simp] theorem updFd_tickIncs (c : Nat) (g : FdSt → FdSt) (s : State) : (updFd c g s).tickIncs = s.tickIncs := rfl
@[simp] theorem updFd_barrierHold (c : Nat) (g : FdSt → FdSt) (s : State) : (updFd c g s).barrierHold = s.barrierHold := rfl
@[simp] theorem updFd_idle (c : Nat) (g : FdSt → FdSt) (s : State) : (updFd c g s).idle = s.idle := rfl
@[simp] theorem updFd_xch (c : Nat) (g : FdSt → FdSt) (s : State) : (updFd c g s).xch = s.xch := rfl
@[simp] theorem updFd_out (c : Nat) (g : FdSt → FdSt) (s : State) : (updFd c g s).out = s.out := rfl

/-! ## updPd -/

@[simp] theorem updPd_pending (c : Nat) (g : PdSt → PdSt) (s : State) : (updPd c g s).pending = s.pending := rfl
@[simp] theorem updPd_time (c : Nat) (g : PdSt → PdSt) (s : State) : (updPd c g s).time = s.time := rfl
@[simp] theorem updPd_free (c : Nat) (g : PdSt → PdSt) (s : State) : (updPd c g s).free = s.free := rfl
@[simp] theorem updPd_rnd (c : Nat) (g : PdSt → PdSt) (s : State) : (updPd c g s).rnd = s.rnd := rfl
@[simp] theorem updPd_nextUid (c : Nat) (g : PdSt → PdSt) (s : State) : (updPd c g s).nextUid = s.nextUid := rfl
@[simp] theorem updPd_hub (c : Nat) (g : PdSt → PdSt) (s : State) : (updPd c g s).hub = s.hub := rfl
@[simp] theorem updPd_sec (c : Nat) (g : PdSt → PdSt) (s : State) : (updPd c g s).sec = s.sec := rfl
@[simp] theorem updPd_flash (c : Nat) (g : PdSt → PdSt) (s : State) : (updPd c g s).flash = s.flash := rfl
@[simp] theorem updPd_standby (c : Nat) (g : PdSt → PdSt) (s : State) : (updPd c g s).standby = s.standby := rfl
@[simp] theorem updPd_jrnl (c : Nat) (g : PdSt → PdSt) (s : State) : (updPd c g s).jrnl = s.jrnl := rfl
@[simp] theorem updPd_mg (c : Nat) (g : PdSt → PdSt) (s : State) : (updPd c g s).mg = s.mg := rfl
@[simp] theorem updPd_twin (c : Nat) (g : PdSt → PdSt) (s : State) : (updPd c g s).twin = s.twin := rfl
@[simp] theorem updPd_elog (c : Nat) (g : PdSt → PdSt) (s : State) : (updPd c g s).elog = s.elog := rfl
@[simp] theorem updPd_pw (c : Nat) (g : PdSt → PdSt) (s : State) : (updPd c g s).pw = s.pw := rfl
@[simp] theorem updPd_facets (c : Nat) (g : PdSt → PdSt) (s : State) : (updPd c g s).facets = s.facets := rfl
@[simp] theorem updPd_straps (c : Nat) (g : PdSt → PdSt) (s : State) : (updPd c g s).straps = s.straps := rfl
@[simp] theorem updPd_siteStatus (c : Nat) (g : PdSt → PdSt) (s : State) : (updPd c g s).siteStatus = s.siteStatus := rfl
@[simp] theorem updPd_admitted (c : Nat) (g : PdSt → PdSt) (s : State) : (updPd c g s).admitted = s.admitted := rfl
@[simp] theorem updPd_held (c : Nat) (g : PdSt → PdSt) (s : State) : (updPd c g s).held = s.held := rfl
@[simp] theorem updPd_cds (c : Nat) (g : PdSt → PdSt) (s : State) : (updPd c g s).cds = s.cds := rfl
@[simp] theorem updPd_fds (c : Nat) (g : PdSt → PdSt) (s : State) : (updPd c g s).fds = s.fds := rfl
@[simp] theorem updPd_oes (c : Nat) (g : PdSt → PdSt) (s : State) : (updPd c g s).oes = s.oes := rfl
@[simp] theorem updPd_lsms (c : Nat) (g : PdSt → PdSt) (s : State) : (updPd c g s).lsms = s.lsms := rfl
@[simp] theorem updPd_hosts (c : Nat) (g : PdSt → PdSt) (s : State) : (updPd c g s).hosts = s.hosts := rfl
@[simp] theorem updPd_links (c : Nat) (g : PdSt → PdSt) (s : State) : (updPd c g s).links = s.links := rfl
@[simp] theorem updPd_dirs (c : Nat) (g : PdSt → PdSt) (s : State) : (updPd c g s).dirs = s.dirs := rfl
@[simp] theorem updPd_ctxs (c : Nat) (g : PdSt → PdSt) (s : State) : (updPd c g s).ctxs = s.ctxs := rfl
@[simp] theorem updPd_owner (c : Nat) (g : PdSt → PdSt) (s : State) : (updPd c g s).owner = s.owner := rfl
@[simp] theorem updPd_mem (c : Nat) (g : PdSt → PdSt) (s : State) : (updPd c g s).mem = s.mem := rfl
@[simp] theorem updPd_ecc (c : Nat) (g : PdSt → PdSt) (s : State) : (updPd c g s).ecc = s.ecc := rfl
@[simp] theorem updPd_sems (c : Nat) (g : PdSt → PdSt) (s : State) : (updPd c g s).sems = s.sems := rfl
@[simp] theorem updPd_arrs (c : Nat) (g : PdSt → PdSt) (s : State) : (updPd c g s).arrs = s.arrs := rfl
@[simp] theorem updPd_slots (c : Nat) (g : PdSt → PdSt) (s : State) : (updPd c g s).slots = s.slots := rfl
@[simp] theorem updPd_streams (c : Nat) (g : PdSt → PdSt) (s : State) : (updPd c g s).streams = s.streams := rfl
@[simp] theorem updPd_engines (c : Nat) (g : PdSt → PdSt) (s : State) : (updPd c g s).engines = s.engines := rfl
@[simp] theorem updPd_topk (c : Nat) (g : PdSt → PdSt) (s : State) : (updPd c g s).topk = s.topk := rfl
@[simp] theorem updPd_ubuf (c : Nat) (g : PdSt → PdSt) (s : State) : (updPd c g s).ubuf = s.ubuf := rfl
@[simp] theorem updPd_net (c : Nat) (g : PdSt → PdSt) (s : State) : (updPd c g s).net = s.net := rfl
@[simp] theorem updPd_txns (c : Nat) (g : PdSt → PdSt) (s : State) : (updPd c g s).txns = s.txns := rfl
@[simp] theorem updPd_tags (c : Nat) (g : PdSt → PdSt) (s : State) : (updPd c g s).tags = s.tags := rfl
@[simp] theorem updPd_outst (c : Nat) (g : PdSt → PdSt) (s : State) : (updPd c g s).outst = s.outst := rfl
@[simp] theorem updPd_latches (c : Nat) (g : PdSt → PdSt) (s : State) : (updPd c g s).latches = s.latches := rfl
@[simp] theorem updPd_fences (c : Nat) (g : PdSt → PdSt) (s : State) : (updPd c g s).fences = s.fences := rfl
@[simp] theorem updPd_striped (c : Nat) (g : PdSt → PdSt) (s : State) : (updPd c g s).striped = s.striped := rfl
@[simp] theorem updPd_terms (c : Nat) (g : PdSt → PdSt) (s : State) : (updPd c g s).terms = s.terms := rfl
@[simp] theorem updPd_mtxns (c : Nat) (g : PdSt → PdSt) (s : State) : (updPd c g s).mtxns = s.mtxns := rfl
@[simp] theorem updPd_plans (c : Nat) (g : PdSt → PdSt) (s : State) : (updPd c g s).plans = s.plans := rfl
@[simp] theorem updPd_insts (c : Nat) (g : PdSt → PdSt) (s : State) : (updPd c g s).insts = s.insts := rfl
@[simp] theorem updPd_ctrlTable (c : Nat) (g : PdSt → PdSt) (s : State) : (updPd c g s).ctrlTable = s.ctrlTable := rfl
@[simp] theorem updPd_tickIncs (c : Nat) (g : PdSt → PdSt) (s : State) : (updPd c g s).tickIncs = s.tickIncs := rfl
@[simp] theorem updPd_barrierHold (c : Nat) (g : PdSt → PdSt) (s : State) : (updPd c g s).barrierHold = s.barrierHold := rfl
@[simp] theorem updPd_idle (c : Nat) (g : PdSt → PdSt) (s : State) : (updPd c g s).idle = s.idle := rfl
@[simp] theorem updPd_xch (c : Nat) (g : PdSt → PdSt) (s : State) : (updPd c g s).xch = s.xch := rfl
@[simp] theorem updPd_out (c : Nat) (g : PdSt → PdSt) (s : State) : (updPd c g s).out = s.out := rfl

/-! ## updOe -/

@[simp] theorem updOe_pending (c : Nat) (g : OeSt → OeSt) (s : State) : (updOe c g s).pending = s.pending := rfl
@[simp] theorem updOe_time (c : Nat) (g : OeSt → OeSt) (s : State) : (updOe c g s).time = s.time := rfl
@[simp] theorem updOe_free (c : Nat) (g : OeSt → OeSt) (s : State) : (updOe c g s).free = s.free := rfl
@[simp] theorem updOe_rnd (c : Nat) (g : OeSt → OeSt) (s : State) : (updOe c g s).rnd = s.rnd := rfl
@[simp] theorem updOe_nextUid (c : Nat) (g : OeSt → OeSt) (s : State) : (updOe c g s).nextUid = s.nextUid := rfl
@[simp] theorem updOe_hub (c : Nat) (g : OeSt → OeSt) (s : State) : (updOe c g s).hub = s.hub := rfl
@[simp] theorem updOe_sec (c : Nat) (g : OeSt → OeSt) (s : State) : (updOe c g s).sec = s.sec := rfl
@[simp] theorem updOe_flash (c : Nat) (g : OeSt → OeSt) (s : State) : (updOe c g s).flash = s.flash := rfl
@[simp] theorem updOe_standby (c : Nat) (g : OeSt → OeSt) (s : State) : (updOe c g s).standby = s.standby := rfl
@[simp] theorem updOe_jrnl (c : Nat) (g : OeSt → OeSt) (s : State) : (updOe c g s).jrnl = s.jrnl := rfl
@[simp] theorem updOe_mg (c : Nat) (g : OeSt → OeSt) (s : State) : (updOe c g s).mg = s.mg := rfl
@[simp] theorem updOe_twin (c : Nat) (g : OeSt → OeSt) (s : State) : (updOe c g s).twin = s.twin := rfl
@[simp] theorem updOe_elog (c : Nat) (g : OeSt → OeSt) (s : State) : (updOe c g s).elog = s.elog := rfl
@[simp] theorem updOe_pw (c : Nat) (g : OeSt → OeSt) (s : State) : (updOe c g s).pw = s.pw := rfl
@[simp] theorem updOe_facets (c : Nat) (g : OeSt → OeSt) (s : State) : (updOe c g s).facets = s.facets := rfl
@[simp] theorem updOe_straps (c : Nat) (g : OeSt → OeSt) (s : State) : (updOe c g s).straps = s.straps := rfl
@[simp] theorem updOe_siteStatus (c : Nat) (g : OeSt → OeSt) (s : State) : (updOe c g s).siteStatus = s.siteStatus := rfl
@[simp] theorem updOe_admitted (c : Nat) (g : OeSt → OeSt) (s : State) : (updOe c g s).admitted = s.admitted := rfl
@[simp] theorem updOe_held (c : Nat) (g : OeSt → OeSt) (s : State) : (updOe c g s).held = s.held := rfl
@[simp] theorem updOe_cds (c : Nat) (g : OeSt → OeSt) (s : State) : (updOe c g s).cds = s.cds := rfl
@[simp] theorem updOe_fds (c : Nat) (g : OeSt → OeSt) (s : State) : (updOe c g s).fds = s.fds := rfl
@[simp] theorem updOe_pds (c : Nat) (g : OeSt → OeSt) (s : State) : (updOe c g s).pds = s.pds := rfl
@[simp] theorem updOe_lsms (c : Nat) (g : OeSt → OeSt) (s : State) : (updOe c g s).lsms = s.lsms := rfl
@[simp] theorem updOe_hosts (c : Nat) (g : OeSt → OeSt) (s : State) : (updOe c g s).hosts = s.hosts := rfl
@[simp] theorem updOe_links (c : Nat) (g : OeSt → OeSt) (s : State) : (updOe c g s).links = s.links := rfl
@[simp] theorem updOe_dirs (c : Nat) (g : OeSt → OeSt) (s : State) : (updOe c g s).dirs = s.dirs := rfl
@[simp] theorem updOe_ctxs (c : Nat) (g : OeSt → OeSt) (s : State) : (updOe c g s).ctxs = s.ctxs := rfl
@[simp] theorem updOe_owner (c : Nat) (g : OeSt → OeSt) (s : State) : (updOe c g s).owner = s.owner := rfl
@[simp] theorem updOe_mem (c : Nat) (g : OeSt → OeSt) (s : State) : (updOe c g s).mem = s.mem := rfl
@[simp] theorem updOe_ecc (c : Nat) (g : OeSt → OeSt) (s : State) : (updOe c g s).ecc = s.ecc := rfl
@[simp] theorem updOe_sems (c : Nat) (g : OeSt → OeSt) (s : State) : (updOe c g s).sems = s.sems := rfl
@[simp] theorem updOe_arrs (c : Nat) (g : OeSt → OeSt) (s : State) : (updOe c g s).arrs = s.arrs := rfl
@[simp] theorem updOe_slots (c : Nat) (g : OeSt → OeSt) (s : State) : (updOe c g s).slots = s.slots := rfl
@[simp] theorem updOe_streams (c : Nat) (g : OeSt → OeSt) (s : State) : (updOe c g s).streams = s.streams := rfl
@[simp] theorem updOe_engines (c : Nat) (g : OeSt → OeSt) (s : State) : (updOe c g s).engines = s.engines := rfl
@[simp] theorem updOe_topk (c : Nat) (g : OeSt → OeSt) (s : State) : (updOe c g s).topk = s.topk := rfl
@[simp] theorem updOe_ubuf (c : Nat) (g : OeSt → OeSt) (s : State) : (updOe c g s).ubuf = s.ubuf := rfl
@[simp] theorem updOe_net (c : Nat) (g : OeSt → OeSt) (s : State) : (updOe c g s).net = s.net := rfl
@[simp] theorem updOe_txns (c : Nat) (g : OeSt → OeSt) (s : State) : (updOe c g s).txns = s.txns := rfl
@[simp] theorem updOe_tags (c : Nat) (g : OeSt → OeSt) (s : State) : (updOe c g s).tags = s.tags := rfl
@[simp] theorem updOe_outst (c : Nat) (g : OeSt → OeSt) (s : State) : (updOe c g s).outst = s.outst := rfl
@[simp] theorem updOe_latches (c : Nat) (g : OeSt → OeSt) (s : State) : (updOe c g s).latches = s.latches := rfl
@[simp] theorem updOe_fences (c : Nat) (g : OeSt → OeSt) (s : State) : (updOe c g s).fences = s.fences := rfl
@[simp] theorem updOe_striped (c : Nat) (g : OeSt → OeSt) (s : State) : (updOe c g s).striped = s.striped := rfl
@[simp] theorem updOe_terms (c : Nat) (g : OeSt → OeSt) (s : State) : (updOe c g s).terms = s.terms := rfl
@[simp] theorem updOe_mtxns (c : Nat) (g : OeSt → OeSt) (s : State) : (updOe c g s).mtxns = s.mtxns := rfl
@[simp] theorem updOe_plans (c : Nat) (g : OeSt → OeSt) (s : State) : (updOe c g s).plans = s.plans := rfl
@[simp] theorem updOe_insts (c : Nat) (g : OeSt → OeSt) (s : State) : (updOe c g s).insts = s.insts := rfl
@[simp] theorem updOe_ctrlTable (c : Nat) (g : OeSt → OeSt) (s : State) : (updOe c g s).ctrlTable = s.ctrlTable := rfl
@[simp] theorem updOe_tickIncs (c : Nat) (g : OeSt → OeSt) (s : State) : (updOe c g s).tickIncs = s.tickIncs := rfl
@[simp] theorem updOe_barrierHold (c : Nat) (g : OeSt → OeSt) (s : State) : (updOe c g s).barrierHold = s.barrierHold := rfl
@[simp] theorem updOe_idle (c : Nat) (g : OeSt → OeSt) (s : State) : (updOe c g s).idle = s.idle := rfl
@[simp] theorem updOe_xch (c : Nat) (g : OeSt → OeSt) (s : State) : (updOe c g s).xch = s.xch := rfl
@[simp] theorem updOe_out (c : Nat) (g : OeSt → OeSt) (s : State) : (updOe c g s).out = s.out := rfl

/-! ## updLsm -/

@[simp] theorem updLsm_pending (c : Nat) (g : LsmSt → LsmSt) (s : State) : (updLsm c g s).pending = s.pending := rfl
@[simp] theorem updLsm_time (c : Nat) (g : LsmSt → LsmSt) (s : State) : (updLsm c g s).time = s.time := rfl
@[simp] theorem updLsm_free (c : Nat) (g : LsmSt → LsmSt) (s : State) : (updLsm c g s).free = s.free := rfl
@[simp] theorem updLsm_rnd (c : Nat) (g : LsmSt → LsmSt) (s : State) : (updLsm c g s).rnd = s.rnd := rfl
@[simp] theorem updLsm_nextUid (c : Nat) (g : LsmSt → LsmSt) (s : State) : (updLsm c g s).nextUid = s.nextUid := rfl
@[simp] theorem updLsm_hub (c : Nat) (g : LsmSt → LsmSt) (s : State) : (updLsm c g s).hub = s.hub := rfl
@[simp] theorem updLsm_sec (c : Nat) (g : LsmSt → LsmSt) (s : State) : (updLsm c g s).sec = s.sec := rfl
@[simp] theorem updLsm_flash (c : Nat) (g : LsmSt → LsmSt) (s : State) : (updLsm c g s).flash = s.flash := rfl
@[simp] theorem updLsm_standby (c : Nat) (g : LsmSt → LsmSt) (s : State) : (updLsm c g s).standby = s.standby := rfl
@[simp] theorem updLsm_jrnl (c : Nat) (g : LsmSt → LsmSt) (s : State) : (updLsm c g s).jrnl = s.jrnl := rfl
@[simp] theorem updLsm_mg (c : Nat) (g : LsmSt → LsmSt) (s : State) : (updLsm c g s).mg = s.mg := rfl
@[simp] theorem updLsm_twin (c : Nat) (g : LsmSt → LsmSt) (s : State) : (updLsm c g s).twin = s.twin := rfl
@[simp] theorem updLsm_elog (c : Nat) (g : LsmSt → LsmSt) (s : State) : (updLsm c g s).elog = s.elog := rfl
@[simp] theorem updLsm_pw (c : Nat) (g : LsmSt → LsmSt) (s : State) : (updLsm c g s).pw = s.pw := rfl
@[simp] theorem updLsm_facets (c : Nat) (g : LsmSt → LsmSt) (s : State) : (updLsm c g s).facets = s.facets := rfl
@[simp] theorem updLsm_straps (c : Nat) (g : LsmSt → LsmSt) (s : State) : (updLsm c g s).straps = s.straps := rfl
@[simp] theorem updLsm_siteStatus (c : Nat) (g : LsmSt → LsmSt) (s : State) : (updLsm c g s).siteStatus = s.siteStatus := rfl
@[simp] theorem updLsm_admitted (c : Nat) (g : LsmSt → LsmSt) (s : State) : (updLsm c g s).admitted = s.admitted := rfl
@[simp] theorem updLsm_held (c : Nat) (g : LsmSt → LsmSt) (s : State) : (updLsm c g s).held = s.held := rfl
@[simp] theorem updLsm_cds (c : Nat) (g : LsmSt → LsmSt) (s : State) : (updLsm c g s).cds = s.cds := rfl
@[simp] theorem updLsm_fds (c : Nat) (g : LsmSt → LsmSt) (s : State) : (updLsm c g s).fds = s.fds := rfl
@[simp] theorem updLsm_pds (c : Nat) (g : LsmSt → LsmSt) (s : State) : (updLsm c g s).pds = s.pds := rfl
@[simp] theorem updLsm_oes (c : Nat) (g : LsmSt → LsmSt) (s : State) : (updLsm c g s).oes = s.oes := rfl
@[simp] theorem updLsm_hosts (c : Nat) (g : LsmSt → LsmSt) (s : State) : (updLsm c g s).hosts = s.hosts := rfl
@[simp] theorem updLsm_links (c : Nat) (g : LsmSt → LsmSt) (s : State) : (updLsm c g s).links = s.links := rfl
@[simp] theorem updLsm_dirs (c : Nat) (g : LsmSt → LsmSt) (s : State) : (updLsm c g s).dirs = s.dirs := rfl
@[simp] theorem updLsm_ctxs (c : Nat) (g : LsmSt → LsmSt) (s : State) : (updLsm c g s).ctxs = s.ctxs := rfl
@[simp] theorem updLsm_owner (c : Nat) (g : LsmSt → LsmSt) (s : State) : (updLsm c g s).owner = s.owner := rfl
@[simp] theorem updLsm_mem (c : Nat) (g : LsmSt → LsmSt) (s : State) : (updLsm c g s).mem = s.mem := rfl
@[simp] theorem updLsm_ecc (c : Nat) (g : LsmSt → LsmSt) (s : State) : (updLsm c g s).ecc = s.ecc := rfl
@[simp] theorem updLsm_sems (c : Nat) (g : LsmSt → LsmSt) (s : State) : (updLsm c g s).sems = s.sems := rfl
@[simp] theorem updLsm_arrs (c : Nat) (g : LsmSt → LsmSt) (s : State) : (updLsm c g s).arrs = s.arrs := rfl
@[simp] theorem updLsm_slots (c : Nat) (g : LsmSt → LsmSt) (s : State) : (updLsm c g s).slots = s.slots := rfl
@[simp] theorem updLsm_streams (c : Nat) (g : LsmSt → LsmSt) (s : State) : (updLsm c g s).streams = s.streams := rfl
@[simp] theorem updLsm_engines (c : Nat) (g : LsmSt → LsmSt) (s : State) : (updLsm c g s).engines = s.engines := rfl
@[simp] theorem updLsm_topk (c : Nat) (g : LsmSt → LsmSt) (s : State) : (updLsm c g s).topk = s.topk := rfl
@[simp] theorem updLsm_ubuf (c : Nat) (g : LsmSt → LsmSt) (s : State) : (updLsm c g s).ubuf = s.ubuf := rfl
@[simp] theorem updLsm_net (c : Nat) (g : LsmSt → LsmSt) (s : State) : (updLsm c g s).net = s.net := rfl
@[simp] theorem updLsm_txns (c : Nat) (g : LsmSt → LsmSt) (s : State) : (updLsm c g s).txns = s.txns := rfl
@[simp] theorem updLsm_tags (c : Nat) (g : LsmSt → LsmSt) (s : State) : (updLsm c g s).tags = s.tags := rfl
@[simp] theorem updLsm_outst (c : Nat) (g : LsmSt → LsmSt) (s : State) : (updLsm c g s).outst = s.outst := rfl
@[simp] theorem updLsm_latches (c : Nat) (g : LsmSt → LsmSt) (s : State) : (updLsm c g s).latches = s.latches := rfl
@[simp] theorem updLsm_fences (c : Nat) (g : LsmSt → LsmSt) (s : State) : (updLsm c g s).fences = s.fences := rfl
@[simp] theorem updLsm_striped (c : Nat) (g : LsmSt → LsmSt) (s : State) : (updLsm c g s).striped = s.striped := rfl
@[simp] theorem updLsm_terms (c : Nat) (g : LsmSt → LsmSt) (s : State) : (updLsm c g s).terms = s.terms := rfl
@[simp] theorem updLsm_mtxns (c : Nat) (g : LsmSt → LsmSt) (s : State) : (updLsm c g s).mtxns = s.mtxns := rfl
@[simp] theorem updLsm_plans (c : Nat) (g : LsmSt → LsmSt) (s : State) : (updLsm c g s).plans = s.plans := rfl
@[simp] theorem updLsm_insts (c : Nat) (g : LsmSt → LsmSt) (s : State) : (updLsm c g s).insts = s.insts := rfl
@[simp] theorem updLsm_ctrlTable (c : Nat) (g : LsmSt → LsmSt) (s : State) : (updLsm c g s).ctrlTable = s.ctrlTable := rfl
@[simp] theorem updLsm_tickIncs (c : Nat) (g : LsmSt → LsmSt) (s : State) : (updLsm c g s).tickIncs = s.tickIncs := rfl
@[simp] theorem updLsm_barrierHold (c : Nat) (g : LsmSt → LsmSt) (s : State) : (updLsm c g s).barrierHold = s.barrierHold := rfl
@[simp] theorem updLsm_idle (c : Nat) (g : LsmSt → LsmSt) (s : State) : (updLsm c g s).idle = s.idle := rfl
@[simp] theorem updLsm_xch (c : Nat) (g : LsmSt → LsmSt) (s : State) : (updLsm c g s).xch = s.xch := rfl
@[simp] theorem updLsm_out (c : Nat) (g : LsmSt → LsmSt) (s : State) : (updLsm c g s).out = s.out := rfl

/-! ## updHost -/

@[simp] theorem updHost_pending (c : Nat) (g : HostSt → HostSt) (s : State) : (updHost c g s).pending = s.pending := rfl
@[simp] theorem updHost_time (c : Nat) (g : HostSt → HostSt) (s : State) : (updHost c g s).time = s.time := rfl
@[simp] theorem updHost_free (c : Nat) (g : HostSt → HostSt) (s : State) : (updHost c g s).free = s.free := rfl
@[simp] theorem updHost_rnd (c : Nat) (g : HostSt → HostSt) (s : State) : (updHost c g s).rnd = s.rnd := rfl
@[simp] theorem updHost_nextUid (c : Nat) (g : HostSt → HostSt) (s : State) : (updHost c g s).nextUid = s.nextUid := rfl
@[simp] theorem updHost_hub (c : Nat) (g : HostSt → HostSt) (s : State) : (updHost c g s).hub = s.hub := rfl
@[simp] theorem updHost_sec (c : Nat) (g : HostSt → HostSt) (s : State) : (updHost c g s).sec = s.sec := rfl
@[simp] theorem updHost_flash (c : Nat) (g : HostSt → HostSt) (s : State) : (updHost c g s).flash = s.flash := rfl
@[simp] theorem updHost_standby (c : Nat) (g : HostSt → HostSt) (s : State) : (updHost c g s).standby = s.standby := rfl
@[simp] theorem updHost_jrnl (c : Nat) (g : HostSt → HostSt) (s : State) : (updHost c g s).jrnl = s.jrnl := rfl
@[simp] theorem updHost_mg (c : Nat) (g : HostSt → HostSt) (s : State) : (updHost c g s).mg = s.mg := rfl
@[simp] theorem updHost_twin (c : Nat) (g : HostSt → HostSt) (s : State) : (updHost c g s).twin = s.twin := rfl
@[simp] theorem updHost_elog (c : Nat) (g : HostSt → HostSt) (s : State) : (updHost c g s).elog = s.elog := rfl
@[simp] theorem updHost_pw (c : Nat) (g : HostSt → HostSt) (s : State) : (updHost c g s).pw = s.pw := rfl
@[simp] theorem updHost_facets (c : Nat) (g : HostSt → HostSt) (s : State) : (updHost c g s).facets = s.facets := rfl
@[simp] theorem updHost_straps (c : Nat) (g : HostSt → HostSt) (s : State) : (updHost c g s).straps = s.straps := rfl
@[simp] theorem updHost_siteStatus (c : Nat) (g : HostSt → HostSt) (s : State) : (updHost c g s).siteStatus = s.siteStatus := rfl
@[simp] theorem updHost_admitted (c : Nat) (g : HostSt → HostSt) (s : State) : (updHost c g s).admitted = s.admitted := rfl
@[simp] theorem updHost_held (c : Nat) (g : HostSt → HostSt) (s : State) : (updHost c g s).held = s.held := rfl
@[simp] theorem updHost_cds (c : Nat) (g : HostSt → HostSt) (s : State) : (updHost c g s).cds = s.cds := rfl
@[simp] theorem updHost_fds (c : Nat) (g : HostSt → HostSt) (s : State) : (updHost c g s).fds = s.fds := rfl
@[simp] theorem updHost_pds (c : Nat) (g : HostSt → HostSt) (s : State) : (updHost c g s).pds = s.pds := rfl
@[simp] theorem updHost_oes (c : Nat) (g : HostSt → HostSt) (s : State) : (updHost c g s).oes = s.oes := rfl
@[simp] theorem updHost_lsms (c : Nat) (g : HostSt → HostSt) (s : State) : (updHost c g s).lsms = s.lsms := rfl
@[simp] theorem updHost_links (c : Nat) (g : HostSt → HostSt) (s : State) : (updHost c g s).links = s.links := rfl
@[simp] theorem updHost_dirs (c : Nat) (g : HostSt → HostSt) (s : State) : (updHost c g s).dirs = s.dirs := rfl
@[simp] theorem updHost_ctxs (c : Nat) (g : HostSt → HostSt) (s : State) : (updHost c g s).ctxs = s.ctxs := rfl
@[simp] theorem updHost_owner (c : Nat) (g : HostSt → HostSt) (s : State) : (updHost c g s).owner = s.owner := rfl
@[simp] theorem updHost_mem (c : Nat) (g : HostSt → HostSt) (s : State) : (updHost c g s).mem = s.mem := rfl
@[simp] theorem updHost_ecc (c : Nat) (g : HostSt → HostSt) (s : State) : (updHost c g s).ecc = s.ecc := rfl
@[simp] theorem updHost_sems (c : Nat) (g : HostSt → HostSt) (s : State) : (updHost c g s).sems = s.sems := rfl
@[simp] theorem updHost_arrs (c : Nat) (g : HostSt → HostSt) (s : State) : (updHost c g s).arrs = s.arrs := rfl
@[simp] theorem updHost_slots (c : Nat) (g : HostSt → HostSt) (s : State) : (updHost c g s).slots = s.slots := rfl
@[simp] theorem updHost_streams (c : Nat) (g : HostSt → HostSt) (s : State) : (updHost c g s).streams = s.streams := rfl
@[simp] theorem updHost_engines (c : Nat) (g : HostSt → HostSt) (s : State) : (updHost c g s).engines = s.engines := rfl
@[simp] theorem updHost_topk (c : Nat) (g : HostSt → HostSt) (s : State) : (updHost c g s).topk = s.topk := rfl
@[simp] theorem updHost_ubuf (c : Nat) (g : HostSt → HostSt) (s : State) : (updHost c g s).ubuf = s.ubuf := rfl
@[simp] theorem updHost_net (c : Nat) (g : HostSt → HostSt) (s : State) : (updHost c g s).net = s.net := rfl
@[simp] theorem updHost_txns (c : Nat) (g : HostSt → HostSt) (s : State) : (updHost c g s).txns = s.txns := rfl
@[simp] theorem updHost_tags (c : Nat) (g : HostSt → HostSt) (s : State) : (updHost c g s).tags = s.tags := rfl
@[simp] theorem updHost_outst (c : Nat) (g : HostSt → HostSt) (s : State) : (updHost c g s).outst = s.outst := rfl
@[simp] theorem updHost_latches (c : Nat) (g : HostSt → HostSt) (s : State) : (updHost c g s).latches = s.latches := rfl
@[simp] theorem updHost_fences (c : Nat) (g : HostSt → HostSt) (s : State) : (updHost c g s).fences = s.fences := rfl
@[simp] theorem updHost_striped (c : Nat) (g : HostSt → HostSt) (s : State) : (updHost c g s).striped = s.striped := rfl
@[simp] theorem updHost_terms (c : Nat) (g : HostSt → HostSt) (s : State) : (updHost c g s).terms = s.terms := rfl
@[simp] theorem updHost_mtxns (c : Nat) (g : HostSt → HostSt) (s : State) : (updHost c g s).mtxns = s.mtxns := rfl
@[simp] theorem updHost_plans (c : Nat) (g : HostSt → HostSt) (s : State) : (updHost c g s).plans = s.plans := rfl
@[simp] theorem updHost_insts (c : Nat) (g : HostSt → HostSt) (s : State) : (updHost c g s).insts = s.insts := rfl
@[simp] theorem updHost_ctrlTable (c : Nat) (g : HostSt → HostSt) (s : State) : (updHost c g s).ctrlTable = s.ctrlTable := rfl
@[simp] theorem updHost_tickIncs (c : Nat) (g : HostSt → HostSt) (s : State) : (updHost c g s).tickIncs = s.tickIncs := rfl
@[simp] theorem updHost_barrierHold (c : Nat) (g : HostSt → HostSt) (s : State) : (updHost c g s).barrierHold = s.barrierHold := rfl
@[simp] theorem updHost_idle (c : Nat) (g : HostSt → HostSt) (s : State) : (updHost c g s).idle = s.idle := rfl
@[simp] theorem updHost_xch (c : Nat) (g : HostSt → HostSt) (s : State) : (updHost c g s).xch = s.xch := rfl
@[simp] theorem updHost_out (c : Nat) (g : HostSt → HostSt) (s : State) : (updHost c g s).out = s.out := rfl

/-! ## updLink -/

@[simp] theorem updLink_pending (c : Nat) (g : LinkSt → LinkSt) (s : State) : (updLink c g s).pending = s.pending := rfl
@[simp] theorem updLink_time (c : Nat) (g : LinkSt → LinkSt) (s : State) : (updLink c g s).time = s.time := rfl
@[simp] theorem updLink_free (c : Nat) (g : LinkSt → LinkSt) (s : State) : (updLink c g s).free = s.free := rfl
@[simp] theorem updLink_rnd (c : Nat) (g : LinkSt → LinkSt) (s : State) : (updLink c g s).rnd = s.rnd := rfl
@[simp] theorem updLink_nextUid (c : Nat) (g : LinkSt → LinkSt) (s : State) : (updLink c g s).nextUid = s.nextUid := rfl
@[simp] theorem updLink_hub (c : Nat) (g : LinkSt → LinkSt) (s : State) : (updLink c g s).hub = s.hub := rfl
@[simp] theorem updLink_sec (c : Nat) (g : LinkSt → LinkSt) (s : State) : (updLink c g s).sec = s.sec := rfl
@[simp] theorem updLink_flash (c : Nat) (g : LinkSt → LinkSt) (s : State) : (updLink c g s).flash = s.flash := rfl
@[simp] theorem updLink_standby (c : Nat) (g : LinkSt → LinkSt) (s : State) : (updLink c g s).standby = s.standby := rfl
@[simp] theorem updLink_jrnl (c : Nat) (g : LinkSt → LinkSt) (s : State) : (updLink c g s).jrnl = s.jrnl := rfl
@[simp] theorem updLink_mg (c : Nat) (g : LinkSt → LinkSt) (s : State) : (updLink c g s).mg = s.mg := rfl
@[simp] theorem updLink_twin (c : Nat) (g : LinkSt → LinkSt) (s : State) : (updLink c g s).twin = s.twin := rfl
@[simp] theorem updLink_elog (c : Nat) (g : LinkSt → LinkSt) (s : State) : (updLink c g s).elog = s.elog := rfl
@[simp] theorem updLink_pw (c : Nat) (g : LinkSt → LinkSt) (s : State) : (updLink c g s).pw = s.pw := rfl
@[simp] theorem updLink_facets (c : Nat) (g : LinkSt → LinkSt) (s : State) : (updLink c g s).facets = s.facets := rfl
@[simp] theorem updLink_straps (c : Nat) (g : LinkSt → LinkSt) (s : State) : (updLink c g s).straps = s.straps := rfl
@[simp] theorem updLink_siteStatus (c : Nat) (g : LinkSt → LinkSt) (s : State) : (updLink c g s).siteStatus = s.siteStatus := rfl
@[simp] theorem updLink_admitted (c : Nat) (g : LinkSt → LinkSt) (s : State) : (updLink c g s).admitted = s.admitted := rfl
@[simp] theorem updLink_held (c : Nat) (g : LinkSt → LinkSt) (s : State) : (updLink c g s).held = s.held := rfl
@[simp] theorem updLink_cds (c : Nat) (g : LinkSt → LinkSt) (s : State) : (updLink c g s).cds = s.cds := rfl
@[simp] theorem updLink_fds (c : Nat) (g : LinkSt → LinkSt) (s : State) : (updLink c g s).fds = s.fds := rfl
@[simp] theorem updLink_pds (c : Nat) (g : LinkSt → LinkSt) (s : State) : (updLink c g s).pds = s.pds := rfl
@[simp] theorem updLink_oes (c : Nat) (g : LinkSt → LinkSt) (s : State) : (updLink c g s).oes = s.oes := rfl
@[simp] theorem updLink_lsms (c : Nat) (g : LinkSt → LinkSt) (s : State) : (updLink c g s).lsms = s.lsms := rfl
@[simp] theorem updLink_hosts (c : Nat) (g : LinkSt → LinkSt) (s : State) : (updLink c g s).hosts = s.hosts := rfl
@[simp] theorem updLink_dirs (c : Nat) (g : LinkSt → LinkSt) (s : State) : (updLink c g s).dirs = s.dirs := rfl
@[simp] theorem updLink_ctxs (c : Nat) (g : LinkSt → LinkSt) (s : State) : (updLink c g s).ctxs = s.ctxs := rfl
@[simp] theorem updLink_owner (c : Nat) (g : LinkSt → LinkSt) (s : State) : (updLink c g s).owner = s.owner := rfl
@[simp] theorem updLink_mem (c : Nat) (g : LinkSt → LinkSt) (s : State) : (updLink c g s).mem = s.mem := rfl
@[simp] theorem updLink_ecc (c : Nat) (g : LinkSt → LinkSt) (s : State) : (updLink c g s).ecc = s.ecc := rfl
@[simp] theorem updLink_sems (c : Nat) (g : LinkSt → LinkSt) (s : State) : (updLink c g s).sems = s.sems := rfl
@[simp] theorem updLink_arrs (c : Nat) (g : LinkSt → LinkSt) (s : State) : (updLink c g s).arrs = s.arrs := rfl
@[simp] theorem updLink_slots (c : Nat) (g : LinkSt → LinkSt) (s : State) : (updLink c g s).slots = s.slots := rfl
@[simp] theorem updLink_streams (c : Nat) (g : LinkSt → LinkSt) (s : State) : (updLink c g s).streams = s.streams := rfl
@[simp] theorem updLink_engines (c : Nat) (g : LinkSt → LinkSt) (s : State) : (updLink c g s).engines = s.engines := rfl
@[simp] theorem updLink_topk (c : Nat) (g : LinkSt → LinkSt) (s : State) : (updLink c g s).topk = s.topk := rfl
@[simp] theorem updLink_ubuf (c : Nat) (g : LinkSt → LinkSt) (s : State) : (updLink c g s).ubuf = s.ubuf := rfl
@[simp] theorem updLink_net (c : Nat) (g : LinkSt → LinkSt) (s : State) : (updLink c g s).net = s.net := rfl
@[simp] theorem updLink_txns (c : Nat) (g : LinkSt → LinkSt) (s : State) : (updLink c g s).txns = s.txns := rfl
@[simp] theorem updLink_tags (c : Nat) (g : LinkSt → LinkSt) (s : State) : (updLink c g s).tags = s.tags := rfl
@[simp] theorem updLink_outst (c : Nat) (g : LinkSt → LinkSt) (s : State) : (updLink c g s).outst = s.outst := rfl
@[simp] theorem updLink_latches (c : Nat) (g : LinkSt → LinkSt) (s : State) : (updLink c g s).latches = s.latches := rfl
@[simp] theorem updLink_fences (c : Nat) (g : LinkSt → LinkSt) (s : State) : (updLink c g s).fences = s.fences := rfl
@[simp] theorem updLink_striped (c : Nat) (g : LinkSt → LinkSt) (s : State) : (updLink c g s).striped = s.striped := rfl
@[simp] theorem updLink_terms (c : Nat) (g : LinkSt → LinkSt) (s : State) : (updLink c g s).terms = s.terms := rfl
@[simp] theorem updLink_mtxns (c : Nat) (g : LinkSt → LinkSt) (s : State) : (updLink c g s).mtxns = s.mtxns := rfl
@[simp] theorem updLink_plans (c : Nat) (g : LinkSt → LinkSt) (s : State) : (updLink c g s).plans = s.plans := rfl
@[simp] theorem updLink_insts (c : Nat) (g : LinkSt → LinkSt) (s : State) : (updLink c g s).insts = s.insts := rfl
@[simp] theorem updLink_ctrlTable (c : Nat) (g : LinkSt → LinkSt) (s : State) : (updLink c g s).ctrlTable = s.ctrlTable := rfl
@[simp] theorem updLink_tickIncs (c : Nat) (g : LinkSt → LinkSt) (s : State) : (updLink c g s).tickIncs = s.tickIncs := rfl
@[simp] theorem updLink_barrierHold (c : Nat) (g : LinkSt → LinkSt) (s : State) : (updLink c g s).barrierHold = s.barrierHold := rfl
@[simp] theorem updLink_idle (c : Nat) (g : LinkSt → LinkSt) (s : State) : (updLink c g s).idle = s.idle := rfl
@[simp] theorem updLink_xch (c : Nat) (g : LinkSt → LinkSt) (s : State) : (updLink c g s).xch = s.xch := rfl
@[simp] theorem updLink_out (c : Nat) (g : LinkSt → LinkSt) (s : State) : (updLink c g s).out = s.out := rfl

/-! ## updDir -/

@[simp] theorem updDir_pending (c : Nat) (g : LinkDir → LinkDir) (s : State) : (updDir c g s).pending = s.pending := rfl
@[simp] theorem updDir_time (c : Nat) (g : LinkDir → LinkDir) (s : State) : (updDir c g s).time = s.time := rfl
@[simp] theorem updDir_free (c : Nat) (g : LinkDir → LinkDir) (s : State) : (updDir c g s).free = s.free := rfl
@[simp] theorem updDir_rnd (c : Nat) (g : LinkDir → LinkDir) (s : State) : (updDir c g s).rnd = s.rnd := rfl
@[simp] theorem updDir_nextUid (c : Nat) (g : LinkDir → LinkDir) (s : State) : (updDir c g s).nextUid = s.nextUid := rfl
@[simp] theorem updDir_hub (c : Nat) (g : LinkDir → LinkDir) (s : State) : (updDir c g s).hub = s.hub := rfl
@[simp] theorem updDir_sec (c : Nat) (g : LinkDir → LinkDir) (s : State) : (updDir c g s).sec = s.sec := rfl
@[simp] theorem updDir_flash (c : Nat) (g : LinkDir → LinkDir) (s : State) : (updDir c g s).flash = s.flash := rfl
@[simp] theorem updDir_standby (c : Nat) (g : LinkDir → LinkDir) (s : State) : (updDir c g s).standby = s.standby := rfl
@[simp] theorem updDir_jrnl (c : Nat) (g : LinkDir → LinkDir) (s : State) : (updDir c g s).jrnl = s.jrnl := rfl
@[simp] theorem updDir_mg (c : Nat) (g : LinkDir → LinkDir) (s : State) : (updDir c g s).mg = s.mg := rfl
@[simp] theorem updDir_twin (c : Nat) (g : LinkDir → LinkDir) (s : State) : (updDir c g s).twin = s.twin := rfl
@[simp] theorem updDir_elog (c : Nat) (g : LinkDir → LinkDir) (s : State) : (updDir c g s).elog = s.elog := rfl
@[simp] theorem updDir_pw (c : Nat) (g : LinkDir → LinkDir) (s : State) : (updDir c g s).pw = s.pw := rfl
@[simp] theorem updDir_facets (c : Nat) (g : LinkDir → LinkDir) (s : State) : (updDir c g s).facets = s.facets := rfl
@[simp] theorem updDir_straps (c : Nat) (g : LinkDir → LinkDir) (s : State) : (updDir c g s).straps = s.straps := rfl
@[simp] theorem updDir_siteStatus (c : Nat) (g : LinkDir → LinkDir) (s : State) : (updDir c g s).siteStatus = s.siteStatus := rfl
@[simp] theorem updDir_admitted (c : Nat) (g : LinkDir → LinkDir) (s : State) : (updDir c g s).admitted = s.admitted := rfl
@[simp] theorem updDir_held (c : Nat) (g : LinkDir → LinkDir) (s : State) : (updDir c g s).held = s.held := rfl
@[simp] theorem updDir_cds (c : Nat) (g : LinkDir → LinkDir) (s : State) : (updDir c g s).cds = s.cds := rfl
@[simp] theorem updDir_fds (c : Nat) (g : LinkDir → LinkDir) (s : State) : (updDir c g s).fds = s.fds := rfl
@[simp] theorem updDir_pds (c : Nat) (g : LinkDir → LinkDir) (s : State) : (updDir c g s).pds = s.pds := rfl
@[simp] theorem updDir_oes (c : Nat) (g : LinkDir → LinkDir) (s : State) : (updDir c g s).oes = s.oes := rfl
@[simp] theorem updDir_lsms (c : Nat) (g : LinkDir → LinkDir) (s : State) : (updDir c g s).lsms = s.lsms := rfl
@[simp] theorem updDir_hosts (c : Nat) (g : LinkDir → LinkDir) (s : State) : (updDir c g s).hosts = s.hosts := rfl
@[simp] theorem updDir_links (c : Nat) (g : LinkDir → LinkDir) (s : State) : (updDir c g s).links = s.links := rfl
@[simp] theorem updDir_ctxs (c : Nat) (g : LinkDir → LinkDir) (s : State) : (updDir c g s).ctxs = s.ctxs := rfl
@[simp] theorem updDir_owner (c : Nat) (g : LinkDir → LinkDir) (s : State) : (updDir c g s).owner = s.owner := rfl
@[simp] theorem updDir_mem (c : Nat) (g : LinkDir → LinkDir) (s : State) : (updDir c g s).mem = s.mem := rfl
@[simp] theorem updDir_ecc (c : Nat) (g : LinkDir → LinkDir) (s : State) : (updDir c g s).ecc = s.ecc := rfl
@[simp] theorem updDir_sems (c : Nat) (g : LinkDir → LinkDir) (s : State) : (updDir c g s).sems = s.sems := rfl
@[simp] theorem updDir_arrs (c : Nat) (g : LinkDir → LinkDir) (s : State) : (updDir c g s).arrs = s.arrs := rfl
@[simp] theorem updDir_slots (c : Nat) (g : LinkDir → LinkDir) (s : State) : (updDir c g s).slots = s.slots := rfl
@[simp] theorem updDir_streams (c : Nat) (g : LinkDir → LinkDir) (s : State) : (updDir c g s).streams = s.streams := rfl
@[simp] theorem updDir_engines (c : Nat) (g : LinkDir → LinkDir) (s : State) : (updDir c g s).engines = s.engines := rfl
@[simp] theorem updDir_topk (c : Nat) (g : LinkDir → LinkDir) (s : State) : (updDir c g s).topk = s.topk := rfl
@[simp] theorem updDir_ubuf (c : Nat) (g : LinkDir → LinkDir) (s : State) : (updDir c g s).ubuf = s.ubuf := rfl
@[simp] theorem updDir_net (c : Nat) (g : LinkDir → LinkDir) (s : State) : (updDir c g s).net = s.net := rfl
@[simp] theorem updDir_txns (c : Nat) (g : LinkDir → LinkDir) (s : State) : (updDir c g s).txns = s.txns := rfl
@[simp] theorem updDir_tags (c : Nat) (g : LinkDir → LinkDir) (s : State) : (updDir c g s).tags = s.tags := rfl
@[simp] theorem updDir_outst (c : Nat) (g : LinkDir → LinkDir) (s : State) : (updDir c g s).outst = s.outst := rfl
@[simp] theorem updDir_latches (c : Nat) (g : LinkDir → LinkDir) (s : State) : (updDir c g s).latches = s.latches := rfl
@[simp] theorem updDir_fences (c : Nat) (g : LinkDir → LinkDir) (s : State) : (updDir c g s).fences = s.fences := rfl
@[simp] theorem updDir_striped (c : Nat) (g : LinkDir → LinkDir) (s : State) : (updDir c g s).striped = s.striped := rfl
@[simp] theorem updDir_terms (c : Nat) (g : LinkDir → LinkDir) (s : State) : (updDir c g s).terms = s.terms := rfl
@[simp] theorem updDir_mtxns (c : Nat) (g : LinkDir → LinkDir) (s : State) : (updDir c g s).mtxns = s.mtxns := rfl
@[simp] theorem updDir_plans (c : Nat) (g : LinkDir → LinkDir) (s : State) : (updDir c g s).plans = s.plans := rfl
@[simp] theorem updDir_insts (c : Nat) (g : LinkDir → LinkDir) (s : State) : (updDir c g s).insts = s.insts := rfl
@[simp] theorem updDir_ctrlTable (c : Nat) (g : LinkDir → LinkDir) (s : State) : (updDir c g s).ctrlTable = s.ctrlTable := rfl
@[simp] theorem updDir_tickIncs (c : Nat) (g : LinkDir → LinkDir) (s : State) : (updDir c g s).tickIncs = s.tickIncs := rfl
@[simp] theorem updDir_barrierHold (c : Nat) (g : LinkDir → LinkDir) (s : State) : (updDir c g s).barrierHold = s.barrierHold := rfl
@[simp] theorem updDir_idle (c : Nat) (g : LinkDir → LinkDir) (s : State) : (updDir c g s).idle = s.idle := rfl
@[simp] theorem updDir_xch (c : Nat) (g : LinkDir → LinkDir) (s : State) : (updDir c g s).xch = s.xch := rfl
@[simp] theorem updDir_out (c : Nat) (g : LinkDir → LinkDir) (s : State) : (updDir c g s).out = s.out := rfl

/-! ## updCtx -/

@[simp] theorem updCtx_pending (c : Nat) (g : Ctx → Ctx) (s : State) : (updCtx c g s).pending = s.pending := rfl
@[simp] theorem updCtx_time (c : Nat) (g : Ctx → Ctx) (s : State) : (updCtx c g s).time = s.time := rfl
@[simp] theorem updCtx_free (c : Nat) (g : Ctx → Ctx) (s : State) : (updCtx c g s).free = s.free := rfl
@[simp] theorem updCtx_rnd (c : Nat) (g : Ctx → Ctx) (s : State) : (updCtx c g s).rnd = s.rnd := rfl
@[simp] theorem updCtx_nextUid (c : Nat) (g : Ctx → Ctx) (s : State) : (updCtx c g s).nextUid = s.nextUid := rfl
@[simp] theorem updCtx_hub (c : Nat) (g : Ctx → Ctx) (s : State) : (updCtx c g s).hub = s.hub := rfl
@[simp] theorem updCtx_sec (c : Nat) (g : Ctx → Ctx) (s : State) : (updCtx c g s).sec = s.sec := rfl
@[simp] theorem updCtx_flash (c : Nat) (g : Ctx → Ctx) (s : State) : (updCtx c g s).flash = s.flash := rfl
@[simp] theorem updCtx_standby (c : Nat) (g : Ctx → Ctx) (s : State) : (updCtx c g s).standby = s.standby := rfl
@[simp] theorem updCtx_jrnl (c : Nat) (g : Ctx → Ctx) (s : State) : (updCtx c g s).jrnl = s.jrnl := rfl
@[simp] theorem updCtx_mg (c : Nat) (g : Ctx → Ctx) (s : State) : (updCtx c g s).mg = s.mg := rfl
@[simp] theorem updCtx_twin (c : Nat) (g : Ctx → Ctx) (s : State) : (updCtx c g s).twin = s.twin := rfl
@[simp] theorem updCtx_elog (c : Nat) (g : Ctx → Ctx) (s : State) : (updCtx c g s).elog = s.elog := rfl
@[simp] theorem updCtx_pw (c : Nat) (g : Ctx → Ctx) (s : State) : (updCtx c g s).pw = s.pw := rfl
@[simp] theorem updCtx_facets (c : Nat) (g : Ctx → Ctx) (s : State) : (updCtx c g s).facets = s.facets := rfl
@[simp] theorem updCtx_straps (c : Nat) (g : Ctx → Ctx) (s : State) : (updCtx c g s).straps = s.straps := rfl
@[simp] theorem updCtx_siteStatus (c : Nat) (g : Ctx → Ctx) (s : State) : (updCtx c g s).siteStatus = s.siteStatus := rfl
@[simp] theorem updCtx_admitted (c : Nat) (g : Ctx → Ctx) (s : State) : (updCtx c g s).admitted = s.admitted := rfl
@[simp] theorem updCtx_held (c : Nat) (g : Ctx → Ctx) (s : State) : (updCtx c g s).held = s.held := rfl
@[simp] theorem updCtx_cds (c : Nat) (g : Ctx → Ctx) (s : State) : (updCtx c g s).cds = s.cds := rfl
@[simp] theorem updCtx_fds (c : Nat) (g : Ctx → Ctx) (s : State) : (updCtx c g s).fds = s.fds := rfl
@[simp] theorem updCtx_pds (c : Nat) (g : Ctx → Ctx) (s : State) : (updCtx c g s).pds = s.pds := rfl
@[simp] theorem updCtx_oes (c : Nat) (g : Ctx → Ctx) (s : State) : (updCtx c g s).oes = s.oes := rfl
@[simp] theorem updCtx_lsms (c : Nat) (g : Ctx → Ctx) (s : State) : (updCtx c g s).lsms = s.lsms := rfl
@[simp] theorem updCtx_hosts (c : Nat) (g : Ctx → Ctx) (s : State) : (updCtx c g s).hosts = s.hosts := rfl
@[simp] theorem updCtx_links (c : Nat) (g : Ctx → Ctx) (s : State) : (updCtx c g s).links = s.links := rfl
@[simp] theorem updCtx_dirs (c : Nat) (g : Ctx → Ctx) (s : State) : (updCtx c g s).dirs = s.dirs := rfl
@[simp] theorem updCtx_owner (c : Nat) (g : Ctx → Ctx) (s : State) : (updCtx c g s).owner = s.owner := rfl
@[simp] theorem updCtx_mem (c : Nat) (g : Ctx → Ctx) (s : State) : (updCtx c g s).mem = s.mem := rfl
@[simp] theorem updCtx_ecc (c : Nat) (g : Ctx → Ctx) (s : State) : (updCtx c g s).ecc = s.ecc := rfl
@[simp] theorem updCtx_sems (c : Nat) (g : Ctx → Ctx) (s : State) : (updCtx c g s).sems = s.sems := rfl
@[simp] theorem updCtx_arrs (c : Nat) (g : Ctx → Ctx) (s : State) : (updCtx c g s).arrs = s.arrs := rfl
@[simp] theorem updCtx_slots (c : Nat) (g : Ctx → Ctx) (s : State) : (updCtx c g s).slots = s.slots := rfl
@[simp] theorem updCtx_streams (c : Nat) (g : Ctx → Ctx) (s : State) : (updCtx c g s).streams = s.streams := rfl
@[simp] theorem updCtx_engines (c : Nat) (g : Ctx → Ctx) (s : State) : (updCtx c g s).engines = s.engines := rfl
@[simp] theorem updCtx_topk (c : Nat) (g : Ctx → Ctx) (s : State) : (updCtx c g s).topk = s.topk := rfl
@[simp] theorem updCtx_ubuf (c : Nat) (g : Ctx → Ctx) (s : State) : (updCtx c g s).ubuf = s.ubuf := rfl
@[simp] theorem updCtx_net (c : Nat) (g : Ctx → Ctx) (s : State) : (updCtx c g s).net = s.net := rfl
@[simp] theorem updCtx_txns (c : Nat) (g : Ctx → Ctx) (s : State) : (updCtx c g s).txns = s.txns := rfl
@[simp] theorem updCtx_tags (c : Nat) (g : Ctx → Ctx) (s : State) : (updCtx c g s).tags = s.tags := rfl
@[simp] theorem updCtx_outst (c : Nat) (g : Ctx → Ctx) (s : State) : (updCtx c g s).outst = s.outst := rfl
@[simp] theorem updCtx_latches (c : Nat) (g : Ctx → Ctx) (s : State) : (updCtx c g s).latches = s.latches := rfl
@[simp] theorem updCtx_fences (c : Nat) (g : Ctx → Ctx) (s : State) : (updCtx c g s).fences = s.fences := rfl
@[simp] theorem updCtx_striped (c : Nat) (g : Ctx → Ctx) (s : State) : (updCtx c g s).striped = s.striped := rfl
@[simp] theorem updCtx_terms (c : Nat) (g : Ctx → Ctx) (s : State) : (updCtx c g s).terms = s.terms := rfl
@[simp] theorem updCtx_mtxns (c : Nat) (g : Ctx → Ctx) (s : State) : (updCtx c g s).mtxns = s.mtxns := rfl
@[simp] theorem updCtx_plans (c : Nat) (g : Ctx → Ctx) (s : State) : (updCtx c g s).plans = s.plans := rfl
@[simp] theorem updCtx_insts (c : Nat) (g : Ctx → Ctx) (s : State) : (updCtx c g s).insts = s.insts := rfl
@[simp] theorem updCtx_ctrlTable (c : Nat) (g : Ctx → Ctx) (s : State) : (updCtx c g s).ctrlTable = s.ctrlTable := rfl
@[simp] theorem updCtx_tickIncs (c : Nat) (g : Ctx → Ctx) (s : State) : (updCtx c g s).tickIncs = s.tickIncs := rfl
@[simp] theorem updCtx_barrierHold (c : Nat) (g : Ctx → Ctx) (s : State) : (updCtx c g s).barrierHold = s.barrierHold := rfl
@[simp] theorem updCtx_idle (c : Nat) (g : Ctx → Ctx) (s : State) : (updCtx c g s).idle = s.idle := rfl
@[simp] theorem updCtx_xch (c : Nat) (g : Ctx → Ctx) (s : State) : (updCtx c g s).xch = s.xch := rfl
@[simp] theorem updCtx_out (c : Nat) (g : Ctx → Ctx) (s : State) : (updCtx c g s).out = s.out := rfl

/-! ## setStream -/

@[simp] theorem setStream_pending (d e sl : Nat) (x : StreamSt) (s : State) : (setStream d e sl x s).pending = s.pending := rfl
@[simp] theorem setStream_time (d e sl : Nat) (x : StreamSt) (s : State) : (setStream d e sl x s).time = s.time := rfl
@[simp] theorem setStream_free (d e sl : Nat) (x : StreamSt) (s : State) : (setStream d e sl x s).free = s.free := rfl
@[simp] theorem setStream_rnd (d e sl : Nat) (x : StreamSt) (s : State) : (setStream d e sl x s).rnd = s.rnd := rfl
@[simp] theorem setStream_nextUid (d e sl : Nat) (x : StreamSt) (s : State) : (setStream d e sl x s).nextUid = s.nextUid := rfl
@[simp] theorem setStream_hub (d e sl : Nat) (x : StreamSt) (s : State) : (setStream d e sl x s).hub = s.hub := rfl
@[simp] theorem setStream_sec (d e sl : Nat) (x : StreamSt) (s : State) : (setStream d e sl x s).sec = s.sec := rfl
@[simp] theorem setStream_flash (d e sl : Nat) (x : StreamSt) (s : State) : (setStream d e sl x s).flash = s.flash := rfl
@[simp] theorem setStream_standby (d e sl : Nat) (x : StreamSt) (s : State) : (setStream d e sl x s).standby = s.standby := rfl
@[simp] theorem setStream_jrnl (d e sl : Nat) (x : StreamSt) (s : State) : (setStream d e sl x s).jrnl = s.jrnl := rfl
@[simp] theorem setStream_mg (d e sl : Nat) (x : StreamSt) (s : State) : (setStream d e sl x s).mg = s.mg := rfl
@[simp] theorem setStream_twin (d e sl : Nat) (x : StreamSt) (s : State) : (setStream d e sl x s).twin = s.twin := rfl
@[simp] theorem setStream_elog (d e sl : Nat) (x : StreamSt) (s : State) : (setStream d e sl x s).elog = s.elog := rfl
@[simp] theorem setStream_pw (d e sl : Nat) (x : StreamSt) (s : State) : (setStream d e sl x s).pw = s.pw := rfl
@[simp] theorem setStream_facets (d e sl : Nat) (x : StreamSt) (s : State) : (setStream d e sl x s).facets = s.facets := rfl
@[simp] theorem setStream_straps (d e sl : Nat) (x : StreamSt) (s : State) : (setStream d e sl x s).straps = s.straps := rfl
@[simp] theorem setStream_siteStatus (d e sl : Nat) (x : StreamSt) (s : State) : (setStream d e sl x s).siteStatus = s.siteStatus := rfl
@[simp] theorem setStream_admitted (d e sl : Nat) (x : StreamSt) (s : State) : (setStream d e sl x s).admitted = s.admitted := rfl
@[simp] theorem setStream_held (d e sl : Nat) (x : StreamSt) (s : State) : (setStream d e sl x s).held = s.held := rfl
@[simp] theorem setStream_cds (d e sl : Nat) (x : StreamSt) (s : State) : (setStream d e sl x s).cds = s.cds := rfl
@[simp] theorem setStream_fds (d e sl : Nat) (x : StreamSt) (s : State) : (setStream d e sl x s).fds = s.fds := rfl
@[simp] theorem setStream_pds (d e sl : Nat) (x : StreamSt) (s : State) : (setStream d e sl x s).pds = s.pds := rfl
@[simp] theorem setStream_oes (d e sl : Nat) (x : StreamSt) (s : State) : (setStream d e sl x s).oes = s.oes := rfl
@[simp] theorem setStream_lsms (d e sl : Nat) (x : StreamSt) (s : State) : (setStream d e sl x s).lsms = s.lsms := rfl
@[simp] theorem setStream_hosts (d e sl : Nat) (x : StreamSt) (s : State) : (setStream d e sl x s).hosts = s.hosts := rfl
@[simp] theorem setStream_links (d e sl : Nat) (x : StreamSt) (s : State) : (setStream d e sl x s).links = s.links := rfl
@[simp] theorem setStream_dirs (d e sl : Nat) (x : StreamSt) (s : State) : (setStream d e sl x s).dirs = s.dirs := rfl
@[simp] theorem setStream_ctxs (d e sl : Nat) (x : StreamSt) (s : State) : (setStream d e sl x s).ctxs = s.ctxs := rfl
@[simp] theorem setStream_owner (d e sl : Nat) (x : StreamSt) (s : State) : (setStream d e sl x s).owner = s.owner := rfl
@[simp] theorem setStream_mem (d e sl : Nat) (x : StreamSt) (s : State) : (setStream d e sl x s).mem = s.mem := rfl
@[simp] theorem setStream_ecc (d e sl : Nat) (x : StreamSt) (s : State) : (setStream d e sl x s).ecc = s.ecc := rfl
@[simp] theorem setStream_sems (d e sl : Nat) (x : StreamSt) (s : State) : (setStream d e sl x s).sems = s.sems := rfl
@[simp] theorem setStream_arrs (d e sl : Nat) (x : StreamSt) (s : State) : (setStream d e sl x s).arrs = s.arrs := rfl
@[simp] theorem setStream_slots (d e sl : Nat) (x : StreamSt) (s : State) : (setStream d e sl x s).slots = s.slots := rfl
@[simp] theorem setStream_engines (d e sl : Nat) (x : StreamSt) (s : State) : (setStream d e sl x s).engines = s.engines := rfl
@[simp] theorem setStream_topk (d e sl : Nat) (x : StreamSt) (s : State) : (setStream d e sl x s).topk = s.topk := rfl
@[simp] theorem setStream_ubuf (d e sl : Nat) (x : StreamSt) (s : State) : (setStream d e sl x s).ubuf = s.ubuf := rfl
@[simp] theorem setStream_net (d e sl : Nat) (x : StreamSt) (s : State) : (setStream d e sl x s).net = s.net := rfl
@[simp] theorem setStream_txns (d e sl : Nat) (x : StreamSt) (s : State) : (setStream d e sl x s).txns = s.txns := rfl
@[simp] theorem setStream_tags (d e sl : Nat) (x : StreamSt) (s : State) : (setStream d e sl x s).tags = s.tags := rfl
@[simp] theorem setStream_outst (d e sl : Nat) (x : StreamSt) (s : State) : (setStream d e sl x s).outst = s.outst := rfl
@[simp] theorem setStream_latches (d e sl : Nat) (x : StreamSt) (s : State) : (setStream d e sl x s).latches = s.latches := rfl
@[simp] theorem setStream_fences (d e sl : Nat) (x : StreamSt) (s : State) : (setStream d e sl x s).fences = s.fences := rfl
@[simp] theorem setStream_striped (d e sl : Nat) (x : StreamSt) (s : State) : (setStream d e sl x s).striped = s.striped := rfl
@[simp] theorem setStream_terms (d e sl : Nat) (x : StreamSt) (s : State) : (setStream d e sl x s).terms = s.terms := rfl
@[simp] theorem setStream_mtxns (d e sl : Nat) (x : StreamSt) (s : State) : (setStream d e sl x s).mtxns = s.mtxns := rfl
@[simp] theorem setStream_plans (d e sl : Nat) (x : StreamSt) (s : State) : (setStream d e sl x s).plans = s.plans := rfl
@[simp] theorem setStream_insts (d e sl : Nat) (x : StreamSt) (s : State) : (setStream d e sl x s).insts = s.insts := rfl
@[simp] theorem setStream_ctrlTable (d e sl : Nat) (x : StreamSt) (s : State) : (setStream d e sl x s).ctrlTable = s.ctrlTable := rfl
@[simp] theorem setStream_tickIncs (d e sl : Nat) (x : StreamSt) (s : State) : (setStream d e sl x s).tickIncs = s.tickIncs := rfl
@[simp] theorem setStream_barrierHold (d e sl : Nat) (x : StreamSt) (s : State) : (setStream d e sl x s).barrierHold = s.barrierHold := rfl
@[simp] theorem setStream_idle (d e sl : Nat) (x : StreamSt) (s : State) : (setStream d e sl x s).idle = s.idle := rfl
@[simp] theorem setStream_xch (d e sl : Nat) (x : StreamSt) (s : State) : (setStream d e sl x s).xch = s.xch := rfl
@[simp] theorem setStream_out (d e sl : Nat) (x : StreamSt) (s : State) : (setStream d e sl x s).out = s.out := rfl

/-! ## setEngine -/

@[simp] theorem setEngine_pending (d e : Nat) (x : EngineSt) (s : State) : (setEngine d e x s).pending = s.pending := rfl
@[simp] theorem setEngine_time (d e : Nat) (x : EngineSt) (s : State) : (setEngine d e x s).time = s.time := rfl
@[simp] theorem setEngine_free (d e : Nat) (x : EngineSt) (s : State) : (setEngine d e x s).free = s.free := rfl
@[simp] theorem setEngine_rnd (d e : Nat) (x : EngineSt) (s : State) : (setEngine d e x s).rnd = s.rnd := rfl
@[simp] theorem setEngine_nextUid (d e : Nat) (x : EngineSt) (s : State) : (setEngine d e x s).nextUid = s.nextUid := rfl
@[simp] theorem setEngine_hub (d e : Nat) (x : EngineSt) (s : State) : (setEngine d e x s).hub = s.hub := rfl
@[simp] theorem setEngine_sec (d e : Nat) (x : EngineSt) (s : State) : (setEngine d e x s).sec = s.sec := rfl
@[simp] theorem setEngine_flash (d e : Nat) (x : EngineSt) (s : State) : (setEngine d e x s).flash = s.flash := rfl
@[simp] theorem setEngine_standby (d e : Nat) (x : EngineSt) (s : State) : (setEngine d e x s).standby = s.standby := rfl
@[simp] theorem setEngine_jrnl (d e : Nat) (x : EngineSt) (s : State) : (setEngine d e x s).jrnl = s.jrnl := rfl
@[simp] theorem setEngine_mg (d e : Nat) (x : EngineSt) (s : State) : (setEngine d e x s).mg = s.mg := rfl
@[simp] theorem setEngine_twin (d e : Nat) (x : EngineSt) (s : State) : (setEngine d e x s).twin = s.twin := rfl
@[simp] theorem setEngine_elog (d e : Nat) (x : EngineSt) (s : State) : (setEngine d e x s).elog = s.elog := rfl
@[simp] theorem setEngine_pw (d e : Nat) (x : EngineSt) (s : State) : (setEngine d e x s).pw = s.pw := rfl
@[simp] theorem setEngine_facets (d e : Nat) (x : EngineSt) (s : State) : (setEngine d e x s).facets = s.facets := rfl
@[simp] theorem setEngine_straps (d e : Nat) (x : EngineSt) (s : State) : (setEngine d e x s).straps = s.straps := rfl
@[simp] theorem setEngine_siteStatus (d e : Nat) (x : EngineSt) (s : State) : (setEngine d e x s).siteStatus = s.siteStatus := rfl
@[simp] theorem setEngine_admitted (d e : Nat) (x : EngineSt) (s : State) : (setEngine d e x s).admitted = s.admitted := rfl
@[simp] theorem setEngine_held (d e : Nat) (x : EngineSt) (s : State) : (setEngine d e x s).held = s.held := rfl
@[simp] theorem setEngine_cds (d e : Nat) (x : EngineSt) (s : State) : (setEngine d e x s).cds = s.cds := rfl
@[simp] theorem setEngine_fds (d e : Nat) (x : EngineSt) (s : State) : (setEngine d e x s).fds = s.fds := rfl
@[simp] theorem setEngine_pds (d e : Nat) (x : EngineSt) (s : State) : (setEngine d e x s).pds = s.pds := rfl
@[simp] theorem setEngine_oes (d e : Nat) (x : EngineSt) (s : State) : (setEngine d e x s).oes = s.oes := rfl
@[simp] theorem setEngine_lsms (d e : Nat) (x : EngineSt) (s : State) : (setEngine d e x s).lsms = s.lsms := rfl
@[simp] theorem setEngine_hosts (d e : Nat) (x : EngineSt) (s : State) : (setEngine d e x s).hosts = s.hosts := rfl
@[simp] theorem setEngine_links (d e : Nat) (x : EngineSt) (s : State) : (setEngine d e x s).links = s.links := rfl
@[simp] theorem setEngine_dirs (d e : Nat) (x : EngineSt) (s : State) : (setEngine d e x s).dirs = s.dirs := rfl
@[simp] theorem setEngine_ctxs (d e : Nat) (x : EngineSt) (s : State) : (setEngine d e x s).ctxs = s.ctxs := rfl
@[simp] theorem setEngine_owner (d e : Nat) (x : EngineSt) (s : State) : (setEngine d e x s).owner = s.owner := rfl
@[simp] theorem setEngine_mem (d e : Nat) (x : EngineSt) (s : State) : (setEngine d e x s).mem = s.mem := rfl
@[simp] theorem setEngine_ecc (d e : Nat) (x : EngineSt) (s : State) : (setEngine d e x s).ecc = s.ecc := rfl
@[simp] theorem setEngine_sems (d e : Nat) (x : EngineSt) (s : State) : (setEngine d e x s).sems = s.sems := rfl
@[simp] theorem setEngine_arrs (d e : Nat) (x : EngineSt) (s : State) : (setEngine d e x s).arrs = s.arrs := rfl
@[simp] theorem setEngine_slots (d e : Nat) (x : EngineSt) (s : State) : (setEngine d e x s).slots = s.slots := rfl
@[simp] theorem setEngine_streams (d e : Nat) (x : EngineSt) (s : State) : (setEngine d e x s).streams = s.streams := rfl
@[simp] theorem setEngine_topk (d e : Nat) (x : EngineSt) (s : State) : (setEngine d e x s).topk = s.topk := rfl
@[simp] theorem setEngine_ubuf (d e : Nat) (x : EngineSt) (s : State) : (setEngine d e x s).ubuf = s.ubuf := rfl
@[simp] theorem setEngine_net (d e : Nat) (x : EngineSt) (s : State) : (setEngine d e x s).net = s.net := rfl
@[simp] theorem setEngine_txns (d e : Nat) (x : EngineSt) (s : State) : (setEngine d e x s).txns = s.txns := rfl
@[simp] theorem setEngine_tags (d e : Nat) (x : EngineSt) (s : State) : (setEngine d e x s).tags = s.tags := rfl
@[simp] theorem setEngine_outst (d e : Nat) (x : EngineSt) (s : State) : (setEngine d e x s).outst = s.outst := rfl
@[simp] theorem setEngine_latches (d e : Nat) (x : EngineSt) (s : State) : (setEngine d e x s).latches = s.latches := rfl
@[simp] theorem setEngine_fences (d e : Nat) (x : EngineSt) (s : State) : (setEngine d e x s).fences = s.fences := rfl
@[simp] theorem setEngine_striped (d e : Nat) (x : EngineSt) (s : State) : (setEngine d e x s).striped = s.striped := rfl
@[simp] theorem setEngine_terms (d e : Nat) (x : EngineSt) (s : State) : (setEngine d e x s).terms = s.terms := rfl
@[simp] theorem setEngine_mtxns (d e : Nat) (x : EngineSt) (s : State) : (setEngine d e x s).mtxns = s.mtxns := rfl
@[simp] theorem setEngine_plans (d e : Nat) (x : EngineSt) (s : State) : (setEngine d e x s).plans = s.plans := rfl
@[simp] theorem setEngine_insts (d e : Nat) (x : EngineSt) (s : State) : (setEngine d e x s).insts = s.insts := rfl
@[simp] theorem setEngine_ctrlTable (d e : Nat) (x : EngineSt) (s : State) : (setEngine d e x s).ctrlTable = s.ctrlTable := rfl
@[simp] theorem setEngine_tickIncs (d e : Nat) (x : EngineSt) (s : State) : (setEngine d e x s).tickIncs = s.tickIncs := rfl
@[simp] theorem setEngine_barrierHold (d e : Nat) (x : EngineSt) (s : State) : (setEngine d e x s).barrierHold = s.barrierHold := rfl
@[simp] theorem setEngine_idle (d e : Nat) (x : EngineSt) (s : State) : (setEngine d e x s).idle = s.idle := rfl
@[simp] theorem setEngine_xch (d e : Nat) (x : EngineSt) (s : State) : (setEngine d e x s).xch = s.xch := rfl
@[simp] theorem setEngine_out (d e : Nat) (x : EngineSt) (s : State) : (setEngine d e x s).out = s.out := rfl

/-! ## updEngine -/

@[simp] theorem updEngine_pending (d e : Nat) (g : EngineSt → EngineSt) (s : State) : (updEngine d e g s).pending = s.pending := rfl
@[simp] theorem updEngine_time (d e : Nat) (g : EngineSt → EngineSt) (s : State) : (updEngine d e g s).time = s.time := rfl
@[simp] theorem updEngine_free (d e : Nat) (g : EngineSt → EngineSt) (s : State) : (updEngine d e g s).free = s.free := rfl
@[simp] theorem updEngine_rnd (d e : Nat) (g : EngineSt → EngineSt) (s : State) : (updEngine d e g s).rnd = s.rnd := rfl
@[simp] theorem updEngine_nextUid (d e : Nat) (g : EngineSt → EngineSt) (s : State) : (updEngine d e g s).nextUid = s.nextUid := rfl
@[simp] theorem updEngine_hub (d e : Nat) (g : EngineSt → EngineSt) (s : State) : (updEngine d e g s).hub = s.hub := rfl
@[simp] theorem updEngine_sec (d e : Nat) (g : EngineSt → EngineSt) (s : State) : (updEngine d e g s).sec = s.sec := rfl
@[simp] theorem updEngine_flash (d e : Nat) (g : EngineSt → EngineSt) (s : State) : (updEngine d e g s).flash = s.flash := rfl
@[simp] theorem updEngine_standby (d e : Nat) (g : EngineSt → EngineSt) (s : State) : (updEngine d e g s).standby = s.standby := rfl
@[simp] theorem updEngine_jrnl (d e : Nat) (g : EngineSt → EngineSt) (s : State) : (updEngine d e g s).jrnl = s.jrnl := rfl
@[simp] theorem updEngine_mg (d e : Nat) (g : EngineSt → EngineSt) (s : State) : (updEngine d e g s).mg = s.mg := rfl
@[simp] theorem updEngine_twin (d e : Nat) (g : EngineSt → EngineSt) (s : State) : (updEngine d e g s).twin = s.twin := rfl
@[simp] theorem updEngine_elog (d e : Nat) (g : EngineSt → EngineSt) (s : State) : (updEngine d e g s).elog = s.elog := rfl
@[simp] theorem updEngine_pw (d e : Nat) (g : EngineSt → EngineSt) (s : State) : (updEngine d e g s).pw = s.pw := rfl
@[simp] theorem updEngine_facets (d e : Nat) (g : EngineSt → EngineSt) (s : State) : (updEngine d e g s).facets = s.facets := rfl
@[simp] theorem updEngine_straps (d e : Nat) (g : EngineSt → EngineSt) (s : State) : (updEngine d e g s).straps = s.straps := rfl
@[simp] theorem updEngine_siteStatus (d e : Nat) (g : EngineSt → EngineSt) (s : State) : (updEngine d e g s).siteStatus = s.siteStatus := rfl
@[simp] theorem updEngine_admitted (d e : Nat) (g : EngineSt → EngineSt) (s : State) : (updEngine d e g s).admitted = s.admitted := rfl
@[simp] theorem updEngine_held (d e : Nat) (g : EngineSt → EngineSt) (s : State) : (updEngine d e g s).held = s.held := rfl
@[simp] theorem updEngine_cds (d e : Nat) (g : EngineSt → EngineSt) (s : State) : (updEngine d e g s).cds = s.cds := rfl
@[simp] theorem updEngine_fds (d e : Nat) (g : EngineSt → EngineSt) (s : State) : (updEngine d e g s).fds = s.fds := rfl
@[simp] theorem updEngine_pds (d e : Nat) (g : EngineSt → EngineSt) (s : State) : (updEngine d e g s).pds = s.pds := rfl
@[simp] theorem updEngine_oes (d e : Nat) (g : EngineSt → EngineSt) (s : State) : (updEngine d e g s).oes = s.oes := rfl
@[simp] theorem updEngine_lsms (d e : Nat) (g : EngineSt → EngineSt) (s : State) : (updEngine d e g s).lsms = s.lsms := rfl
@[simp] theorem updEngine_hosts (d e : Nat) (g : EngineSt → EngineSt) (s : State) : (updEngine d e g s).hosts = s.hosts := rfl
@[simp] theorem updEngine_links (d e : Nat) (g : EngineSt → EngineSt) (s : State) : (updEngine d e g s).links = s.links := rfl
@[simp] theorem updEngine_dirs (d e : Nat) (g : EngineSt → EngineSt) (s : State) : (updEngine d e g s).dirs = s.dirs := rfl
@[simp] theorem updEngine_ctxs (d e : Nat) (g : EngineSt → EngineSt) (s : State) : (updEngine d e g s).ctxs = s.ctxs := rfl
@[simp] theorem updEngine_owner (d e : Nat) (g : EngineSt → EngineSt) (s : State) : (updEngine d e g s).owner = s.owner := rfl
@[simp] theorem updEngine_mem (d e : Nat) (g : EngineSt → EngineSt) (s : State) : (updEngine d e g s).mem = s.mem := rfl
@[simp] theorem updEngine_ecc (d e : Nat) (g : EngineSt → EngineSt) (s : State) : (updEngine d e g s).ecc = s.ecc := rfl
@[simp] theorem updEngine_sems (d e : Nat) (g : EngineSt → EngineSt) (s : State) : (updEngine d e g s).sems = s.sems := rfl
@[simp] theorem updEngine_arrs (d e : Nat) (g : EngineSt → EngineSt) (s : State) : (updEngine d e g s).arrs = s.arrs := rfl
@[simp] theorem updEngine_slots (d e : Nat) (g : EngineSt → EngineSt) (s : State) : (updEngine d e g s).slots = s.slots := rfl
@[simp] theorem updEngine_streams (d e : Nat) (g : EngineSt → EngineSt) (s : State) : (updEngine d e g s).streams = s.streams := rfl
@[simp] theorem updEngine_topk (d e : Nat) (g : EngineSt → EngineSt) (s : State) : (updEngine d e g s).topk = s.topk := rfl
@[simp] theorem updEngine_ubuf (d e : Nat) (g : EngineSt → EngineSt) (s : State) : (updEngine d e g s).ubuf = s.ubuf := rfl
@[simp] theorem updEngine_net (d e : Nat) (g : EngineSt → EngineSt) (s : State) : (updEngine d e g s).net = s.net := rfl
@[simp] theorem updEngine_txns (d e : Nat) (g : EngineSt → EngineSt) (s : State) : (updEngine d e g s).txns = s.txns := rfl
@[simp] theorem updEngine_tags (d e : Nat) (g : EngineSt → EngineSt) (s : State) : (updEngine d e g s).tags = s.tags := rfl
@[simp] theorem updEngine_outst (d e : Nat) (g : EngineSt → EngineSt) (s : State) : (updEngine d e g s).outst = s.outst := rfl
@[simp] theorem updEngine_latches (d e : Nat) (g : EngineSt → EngineSt) (s : State) : (updEngine d e g s).latches = s.latches := rfl
@[simp] theorem updEngine_fences (d e : Nat) (g : EngineSt → EngineSt) (s : State) : (updEngine d e g s).fences = s.fences := rfl
@[simp] theorem updEngine_striped (d e : Nat) (g : EngineSt → EngineSt) (s : State) : (updEngine d e g s).striped = s.striped := rfl
@[simp] theorem updEngine_terms (d e : Nat) (g : EngineSt → EngineSt) (s : State) : (updEngine d e g s).terms = s.terms := rfl
@[simp] theorem updEngine_mtxns (d e : Nat) (g : EngineSt → EngineSt) (s : State) : (updEngine d e g s).mtxns = s.mtxns := rfl
@[simp] theorem updEngine_plans (d e : Nat) (g : EngineSt → EngineSt) (s : State) : (updEngine d e g s).plans = s.plans := rfl
@[simp] theorem updEngine_insts (d e : Nat) (g : EngineSt → EngineSt) (s : State) : (updEngine d e g s).insts = s.insts := rfl
@[simp] theorem updEngine_ctrlTable (d e : Nat) (g : EngineSt → EngineSt) (s : State) : (updEngine d e g s).ctrlTable = s.ctrlTable := rfl
@[simp] theorem updEngine_tickIncs (d e : Nat) (g : EngineSt → EngineSt) (s : State) : (updEngine d e g s).tickIncs = s.tickIncs := rfl
@[simp] theorem updEngine_barrierHold (d e : Nat) (g : EngineSt → EngineSt) (s : State) : (updEngine d e g s).barrierHold = s.barrierHold := rfl
@[simp] theorem updEngine_idle (d e : Nat) (g : EngineSt → EngineSt) (s : State) : (updEngine d e g s).idle = s.idle := rfl
@[simp] theorem updEngine_xch (d e : Nat) (g : EngineSt → EngineSt) (s : State) : (updEngine d e g s).xch = s.xch := rfl
@[simp] theorem updEngine_out (d e : Nat) (g : EngineSt → EngineSt) (s : State) : (updEngine d e g s).out = s.out := rfl

/-! ## setOwner -/

@[simp] theorem setOwner_pending (k d u v : Nat) (s : State) : (setOwner k d u v s).pending = s.pending := rfl
@[simp] theorem setOwner_time (k d u v : Nat) (s : State) : (setOwner k d u v s).time = s.time := rfl
@[simp] theorem setOwner_free (k d u v : Nat) (s : State) : (setOwner k d u v s).free = s.free := rfl
@[simp] theorem setOwner_rnd (k d u v : Nat) (s : State) : (setOwner k d u v s).rnd = s.rnd := rfl
@[simp] theorem setOwner_nextUid (k d u v : Nat) (s : State) : (setOwner k d u v s).nextUid = s.nextUid := rfl
@[simp] theorem setOwner_hub (k d u v : Nat) (s : State) : (setOwner k d u v s).hub = s.hub := rfl
@[simp] theorem setOwner_sec (k d u v : Nat) (s : State) : (setOwner k d u v s).sec = s.sec := rfl
@[simp] theorem setOwner_flash (k d u v : Nat) (s : State) : (setOwner k d u v s).flash = s.flash := rfl
@[simp] theorem setOwner_standby (k d u v : Nat) (s : State) : (setOwner k d u v s).standby = s.standby := rfl
@[simp] theorem setOwner_jrnl (k d u v : Nat) (s : State) : (setOwner k d u v s).jrnl = s.jrnl := rfl
@[simp] theorem setOwner_mg (k d u v : Nat) (s : State) : (setOwner k d u v s).mg = s.mg := rfl
@[simp] theorem setOwner_twin (k d u v : Nat) (s : State) : (setOwner k d u v s).twin = s.twin := rfl
@[simp] theorem setOwner_elog (k d u v : Nat) (s : State) : (setOwner k d u v s).elog = s.elog := rfl
@[simp] theorem setOwner_pw (k d u v : Nat) (s : State) : (setOwner k d u v s).pw = s.pw := rfl
@[simp] theorem setOwner_facets (k d u v : Nat) (s : State) : (setOwner k d u v s).facets = s.facets := rfl
@[simp] theorem setOwner_straps (k d u v : Nat) (s : State) : (setOwner k d u v s).straps = s.straps := rfl
@[simp] theorem setOwner_siteStatus (k d u v : Nat) (s : State) : (setOwner k d u v s).siteStatus = s.siteStatus := rfl
@[simp] theorem setOwner_admitted (k d u v : Nat) (s : State) : (setOwner k d u v s).admitted = s.admitted := rfl
@[simp] theorem setOwner_held (k d u v : Nat) (s : State) : (setOwner k d u v s).held = s.held := rfl
@[simp] theorem setOwner_cds (k d u v : Nat) (s : State) : (setOwner k d u v s).cds = s.cds := rfl
@[simp] theorem setOwner_fds (k d u v : Nat) (s : State) : (setOwner k d u v s).fds = s.fds := rfl
@[simp] theorem setOwner_pds (k d u v : Nat) (s : State) : (setOwner k d u v s).pds = s.pds := rfl
@[simp] theorem setOwner_oes (k d u v : Nat) (s : State) : (setOwner k d u v s).oes = s.oes := rfl
@[simp] theorem setOwner_lsms (k d u v : Nat) (s : State) : (setOwner k d u v s).lsms = s.lsms := rfl
@[simp] theorem setOwner_hosts (k d u v : Nat) (s : State) : (setOwner k d u v s).hosts = s.hosts := rfl
@[simp] theorem setOwner_links (k d u v : Nat) (s : State) : (setOwner k d u v s).links = s.links := rfl
@[simp] theorem setOwner_dirs (k d u v : Nat) (s : State) : (setOwner k d u v s).dirs = s.dirs := rfl
@[simp] theorem setOwner_ctxs (k d u v : Nat) (s : State) : (setOwner k d u v s).ctxs = s.ctxs := rfl
@[simp] theorem setOwner_mem (k d u v : Nat) (s : State) : (setOwner k d u v s).mem = s.mem := rfl
@[simp] theorem setOwner_ecc (k d u v : Nat) (s : State) : (setOwner k d u v s).ecc = s.ecc := rfl
@[simp] theorem setOwner_sems (k d u v : Nat) (s : State) : (setOwner k d u v s).sems = s.sems := rfl
@[simp] theorem setOwner_arrs (k d u v : Nat) (s : State) : (setOwner k d u v s).arrs = s.arrs := rfl
@[simp] theorem setOwner_slots (k d u v : Nat) (s : State) : (setOwner k d u v s).slots = s.slots := rfl
@[simp] theorem setOwner_streams (k d u v : Nat) (s : State) : (setOwner k d u v s).streams = s.streams := rfl
@[simp] theorem setOwner_engines (k d u v : Nat) (s : State) : (setOwner k d u v s).engines = s.engines := rfl
@[simp] theorem setOwner_topk (k d u v : Nat) (s : State) : (setOwner k d u v s).topk = s.topk := rfl
@[simp] theorem setOwner_ubuf (k d u v : Nat) (s : State) : (setOwner k d u v s).ubuf = s.ubuf := rfl
@[simp] theorem setOwner_net (k d u v : Nat) (s : State) : (setOwner k d u v s).net = s.net := rfl
@[simp] theorem setOwner_txns (k d u v : Nat) (s : State) : (setOwner k d u v s).txns = s.txns := rfl
@[simp] theorem setOwner_tags (k d u v : Nat) (s : State) : (setOwner k d u v s).tags = s.tags := rfl
@[simp] theorem setOwner_outst (k d u v : Nat) (s : State) : (setOwner k d u v s).outst = s.outst := rfl
@[simp] theorem setOwner_latches (k d u v : Nat) (s : State) : (setOwner k d u v s).latches = s.latches := rfl
@[simp] theorem setOwner_fences (k d u v : Nat) (s : State) : (setOwner k d u v s).fences = s.fences := rfl
@[simp] theorem setOwner_striped (k d u v : Nat) (s : State) : (setOwner k d u v s).striped = s.striped := rfl
@[simp] theorem setOwner_terms (k d u v : Nat) (s : State) : (setOwner k d u v s).terms = s.terms := rfl
@[simp] theorem setOwner_mtxns (k d u v : Nat) (s : State) : (setOwner k d u v s).mtxns = s.mtxns := rfl
@[simp] theorem setOwner_plans (k d u v : Nat) (s : State) : (setOwner k d u v s).plans = s.plans := rfl
@[simp] theorem setOwner_insts (k d u v : Nat) (s : State) : (setOwner k d u v s).insts = s.insts := rfl
@[simp] theorem setOwner_ctrlTable (k d u v : Nat) (s : State) : (setOwner k d u v s).ctrlTable = s.ctrlTable := rfl
@[simp] theorem setOwner_tickIncs (k d u v : Nat) (s : State) : (setOwner k d u v s).tickIncs = s.tickIncs := rfl
@[simp] theorem setOwner_barrierHold (k d u v : Nat) (s : State) : (setOwner k d u v s).barrierHold = s.barrierHold := rfl
@[simp] theorem setOwner_idle (k d u v : Nat) (s : State) : (setOwner k d u v s).idle = s.idle := rfl
@[simp] theorem setOwner_xch (k d u v : Nat) (s : State) : (setOwner k d u v s).xch = s.xch := rfl
@[simp] theorem setOwner_out (k d u v : Nat) (s : State) : (setOwner k d u v s).out = s.out := rfl

/-! ## memSet -/

@[simp] theorem memSet_pending (a : Nat) (b : Byte) (s : State) : (memSet a b s).pending = s.pending := rfl
@[simp] theorem memSet_time (a : Nat) (b : Byte) (s : State) : (memSet a b s).time = s.time := rfl
@[simp] theorem memSet_free (a : Nat) (b : Byte) (s : State) : (memSet a b s).free = s.free := rfl
@[simp] theorem memSet_rnd (a : Nat) (b : Byte) (s : State) : (memSet a b s).rnd = s.rnd := rfl
@[simp] theorem memSet_nextUid (a : Nat) (b : Byte) (s : State) : (memSet a b s).nextUid = s.nextUid := rfl
@[simp] theorem memSet_hub (a : Nat) (b : Byte) (s : State) : (memSet a b s).hub = s.hub := rfl
@[simp] theorem memSet_sec (a : Nat) (b : Byte) (s : State) : (memSet a b s).sec = s.sec := rfl
@[simp] theorem memSet_flash (a : Nat) (b : Byte) (s : State) : (memSet a b s).flash = s.flash := rfl
@[simp] theorem memSet_standby (a : Nat) (b : Byte) (s : State) : (memSet a b s).standby = s.standby := rfl
@[simp] theorem memSet_jrnl (a : Nat) (b : Byte) (s : State) : (memSet a b s).jrnl = s.jrnl := rfl
@[simp] theorem memSet_mg (a : Nat) (b : Byte) (s : State) : (memSet a b s).mg = s.mg := rfl
@[simp] theorem memSet_twin (a : Nat) (b : Byte) (s : State) : (memSet a b s).twin = s.twin := rfl
@[simp] theorem memSet_elog (a : Nat) (b : Byte) (s : State) : (memSet a b s).elog = s.elog := rfl
@[simp] theorem memSet_pw (a : Nat) (b : Byte) (s : State) : (memSet a b s).pw = s.pw := rfl
@[simp] theorem memSet_facets (a : Nat) (b : Byte) (s : State) : (memSet a b s).facets = s.facets := rfl
@[simp] theorem memSet_straps (a : Nat) (b : Byte) (s : State) : (memSet a b s).straps = s.straps := rfl
@[simp] theorem memSet_siteStatus (a : Nat) (b : Byte) (s : State) : (memSet a b s).siteStatus = s.siteStatus := rfl
@[simp] theorem memSet_admitted (a : Nat) (b : Byte) (s : State) : (memSet a b s).admitted = s.admitted := rfl
@[simp] theorem memSet_held (a : Nat) (b : Byte) (s : State) : (memSet a b s).held = s.held := rfl
@[simp] theorem memSet_cds (a : Nat) (b : Byte) (s : State) : (memSet a b s).cds = s.cds := rfl
@[simp] theorem memSet_fds (a : Nat) (b : Byte) (s : State) : (memSet a b s).fds = s.fds := rfl
@[simp] theorem memSet_pds (a : Nat) (b : Byte) (s : State) : (memSet a b s).pds = s.pds := rfl
@[simp] theorem memSet_oes (a : Nat) (b : Byte) (s : State) : (memSet a b s).oes = s.oes := rfl
@[simp] theorem memSet_lsms (a : Nat) (b : Byte) (s : State) : (memSet a b s).lsms = s.lsms := rfl
@[simp] theorem memSet_hosts (a : Nat) (b : Byte) (s : State) : (memSet a b s).hosts = s.hosts := rfl
@[simp] theorem memSet_links (a : Nat) (b : Byte) (s : State) : (memSet a b s).links = s.links := rfl
@[simp] theorem memSet_dirs (a : Nat) (b : Byte) (s : State) : (memSet a b s).dirs = s.dirs := rfl
@[simp] theorem memSet_ctxs (a : Nat) (b : Byte) (s : State) : (memSet a b s).ctxs = s.ctxs := rfl
@[simp] theorem memSet_owner (a : Nat) (b : Byte) (s : State) : (memSet a b s).owner = s.owner := rfl
@[simp] theorem memSet_ecc (a : Nat) (b : Byte) (s : State) : (memSet a b s).ecc = s.ecc := rfl
@[simp] theorem memSet_sems (a : Nat) (b : Byte) (s : State) : (memSet a b s).sems = s.sems := rfl
@[simp] theorem memSet_arrs (a : Nat) (b : Byte) (s : State) : (memSet a b s).arrs = s.arrs := rfl
@[simp] theorem memSet_slots (a : Nat) (b : Byte) (s : State) : (memSet a b s).slots = s.slots := rfl
@[simp] theorem memSet_streams (a : Nat) (b : Byte) (s : State) : (memSet a b s).streams = s.streams := rfl
@[simp] theorem memSet_engines (a : Nat) (b : Byte) (s : State) : (memSet a b s).engines = s.engines := rfl
@[simp] theorem memSet_topk (a : Nat) (b : Byte) (s : State) : (memSet a b s).topk = s.topk := rfl
@[simp] theorem memSet_ubuf (a : Nat) (b : Byte) (s : State) : (memSet a b s).ubuf = s.ubuf := rfl
@[simp] theorem memSet_net (a : Nat) (b : Byte) (s : State) : (memSet a b s).net = s.net := rfl
@[simp] theorem memSet_txns (a : Nat) (b : Byte) (s : State) : (memSet a b s).txns = s.txns := rfl
@[simp] theorem memSet_tags (a : Nat) (b : Byte) (s : State) : (memSet a b s).tags = s.tags := rfl
@[simp] theorem memSet_outst (a : Nat) (b : Byte) (s : State) : (memSet a b s).outst = s.outst := rfl
@[simp] theorem memSet_latches (a : Nat) (b : Byte) (s : State) : (memSet a b s).latches = s.latches := rfl
@[simp] theorem memSet_fences (a : Nat) (b : Byte) (s : State) : (memSet a b s).fences = s.fences := rfl
@[simp] theorem memSet_striped (a : Nat) (b : Byte) (s : State) : (memSet a b s).striped = s.striped := rfl
@[simp] theorem memSet_terms (a : Nat) (b : Byte) (s : State) : (memSet a b s).terms = s.terms := rfl
@[simp] theorem memSet_mtxns (a : Nat) (b : Byte) (s : State) : (memSet a b s).mtxns = s.mtxns := rfl
@[simp] theorem memSet_plans (a : Nat) (b : Byte) (s : State) : (memSet a b s).plans = s.plans := rfl
@[simp] theorem memSet_insts (a : Nat) (b : Byte) (s : State) : (memSet a b s).insts = s.insts := rfl
@[simp] theorem memSet_ctrlTable (a : Nat) (b : Byte) (s : State) : (memSet a b s).ctrlTable = s.ctrlTable := rfl
@[simp] theorem memSet_tickIncs (a : Nat) (b : Byte) (s : State) : (memSet a b s).tickIncs = s.tickIncs := rfl
@[simp] theorem memSet_barrierHold (a : Nat) (b : Byte) (s : State) : (memSet a b s).barrierHold = s.barrierHold := rfl
@[simp] theorem memSet_idle (a : Nat) (b : Byte) (s : State) : (memSet a b s).idle = s.idle := rfl
@[simp] theorem memSet_xch (a : Nat) (b : Byte) (s : State) : (memSet a b s).xch = s.xch := rfl
@[simp] theorem memSet_out (a : Nat) (b : Byte) (s : State) : (memSet a b s).out = s.out := rfl

/-! ## emit -/

@[simp] theorem emit_pending (o : Output) (s : State) : (emit o s).pending = s.pending := rfl
@[simp] theorem emit_time (o : Output) (s : State) : (emit o s).time = s.time := rfl
@[simp] theorem emit_free (o : Output) (s : State) : (emit o s).free = s.free := rfl
@[simp] theorem emit_rnd (o : Output) (s : State) : (emit o s).rnd = s.rnd := rfl
@[simp] theorem emit_nextUid (o : Output) (s : State) : (emit o s).nextUid = s.nextUid := rfl
@[simp] theorem emit_hub (o : Output) (s : State) : (emit o s).hub = s.hub := rfl
@[simp] theorem emit_sec (o : Output) (s : State) : (emit o s).sec = s.sec := rfl
@[simp] theorem emit_flash (o : Output) (s : State) : (emit o s).flash = s.flash := rfl
@[simp] theorem emit_standby (o : Output) (s : State) : (emit o s).standby = s.standby := rfl
@[simp] theorem emit_jrnl (o : Output) (s : State) : (emit o s).jrnl = s.jrnl := rfl
@[simp] theorem emit_mg (o : Output) (s : State) : (emit o s).mg = s.mg := rfl
@[simp] theorem emit_twin (o : Output) (s : State) : (emit o s).twin = s.twin := rfl
@[simp] theorem emit_elog (o : Output) (s : State) : (emit o s).elog = s.elog := rfl
@[simp] theorem emit_pw (o : Output) (s : State) : (emit o s).pw = s.pw := rfl
@[simp] theorem emit_facets (o : Output) (s : State) : (emit o s).facets = s.facets := rfl
@[simp] theorem emit_straps (o : Output) (s : State) : (emit o s).straps = s.straps := rfl
@[simp] theorem emit_siteStatus (o : Output) (s : State) : (emit o s).siteStatus = s.siteStatus := rfl
@[simp] theorem emit_admitted (o : Output) (s : State) : (emit o s).admitted = s.admitted := rfl
@[simp] theorem emit_held (o : Output) (s : State) : (emit o s).held = s.held := rfl
@[simp] theorem emit_cds (o : Output) (s : State) : (emit o s).cds = s.cds := rfl
@[simp] theorem emit_fds (o : Output) (s : State) : (emit o s).fds = s.fds := rfl
@[simp] theorem emit_pds (o : Output) (s : State) : (emit o s).pds = s.pds := rfl
@[simp] theorem emit_oes (o : Output) (s : State) : (emit o s).oes = s.oes := rfl
@[simp] theorem emit_lsms (o : Output) (s : State) : (emit o s).lsms = s.lsms := rfl
@[simp] theorem emit_hosts (o : Output) (s : State) : (emit o s).hosts = s.hosts := rfl
@[simp] theorem emit_links (o : Output) (s : State) : (emit o s).links = s.links := rfl
@[simp] theorem emit_dirs (o : Output) (s : State) : (emit o s).dirs = s.dirs := rfl
@[simp] theorem emit_ctxs (o : Output) (s : State) : (emit o s).ctxs = s.ctxs := rfl
@[simp] theorem emit_owner (o : Output) (s : State) : (emit o s).owner = s.owner := rfl
@[simp] theorem emit_mem (o : Output) (s : State) : (emit o s).mem = s.mem := rfl
@[simp] theorem emit_ecc (o : Output) (s : State) : (emit o s).ecc = s.ecc := rfl
@[simp] theorem emit_sems (o : Output) (s : State) : (emit o s).sems = s.sems := rfl
@[simp] theorem emit_arrs (o : Output) (s : State) : (emit o s).arrs = s.arrs := rfl
@[simp] theorem emit_slots (o : Output) (s : State) : (emit o s).slots = s.slots := rfl
@[simp] theorem emit_streams (o : Output) (s : State) : (emit o s).streams = s.streams := rfl
@[simp] theorem emit_engines (o : Output) (s : State) : (emit o s).engines = s.engines := rfl
@[simp] theorem emit_topk (o : Output) (s : State) : (emit o s).topk = s.topk := rfl
@[simp] theorem emit_ubuf (o : Output) (s : State) : (emit o s).ubuf = s.ubuf := rfl
@[simp] theorem emit_net (o : Output) (s : State) : (emit o s).net = s.net := rfl
@[simp] theorem emit_txns (o : Output) (s : State) : (emit o s).txns = s.txns := rfl
@[simp] theorem emit_tags (o : Output) (s : State) : (emit o s).tags = s.tags := rfl
@[simp] theorem emit_outst (o : Output) (s : State) : (emit o s).outst = s.outst := rfl
@[simp] theorem emit_latches (o : Output) (s : State) : (emit o s).latches = s.latches := rfl
@[simp] theorem emit_fences (o : Output) (s : State) : (emit o s).fences = s.fences := rfl
@[simp] theorem emit_striped (o : Output) (s : State) : (emit o s).striped = s.striped := rfl
@[simp] theorem emit_terms (o : Output) (s : State) : (emit o s).terms = s.terms := rfl
@[simp] theorem emit_mtxns (o : Output) (s : State) : (emit o s).mtxns = s.mtxns := rfl
@[simp] theorem emit_plans (o : Output) (s : State) : (emit o s).plans = s.plans := rfl
@[simp] theorem emit_insts (o : Output) (s : State) : (emit o s).insts = s.insts := rfl
@[simp] theorem emit_ctrlTable (o : Output) (s : State) : (emit o s).ctrlTable = s.ctrlTable := rfl
@[simp] theorem emit_tickIncs (o : Output) (s : State) : (emit o s).tickIncs = s.tickIncs := rfl
@[simp] theorem emit_barrierHold (o : Output) (s : State) : (emit o s).barrierHold = s.barrierHold := rfl
@[simp] theorem emit_idle (o : Output) (s : State) : (emit o s).idle = s.idle := rfl
@[simp] theorem emit_xch (o : Output) (s : State) : (emit o s).xch = s.xch := rfl

/-! ## numSet -/

@[simp] theorem numSet_pending (ix sub v : Nat) (s : State) : (numSet ix sub v s).pending = s.pending := rfl
@[simp] theorem numSet_time (ix sub v : Nat) (s : State) : (numSet ix sub v s).time = s.time := rfl
@[simp] theorem numSet_free (ix sub v : Nat) (s : State) : (numSet ix sub v s).free = s.free := rfl
@[simp] theorem numSet_rnd (ix sub v : Nat) (s : State) : (numSet ix sub v s).rnd = s.rnd := rfl
@[simp] theorem numSet_nextUid (ix sub v : Nat) (s : State) : (numSet ix sub v s).nextUid = s.nextUid := rfl
@[simp] theorem numSet_hub (ix sub v : Nat) (s : State) : (numSet ix sub v s).hub = s.hub := rfl
@[simp] theorem numSet_sec (ix sub v : Nat) (s : State) : (numSet ix sub v s).sec = s.sec := rfl
@[simp] theorem numSet_flash (ix sub v : Nat) (s : State) : (numSet ix sub v s).flash = s.flash := rfl
@[simp] theorem numSet_standby (ix sub v : Nat) (s : State) : (numSet ix sub v s).standby = s.standby := rfl
@[simp] theorem numSet_jrnl (ix sub v : Nat) (s : State) : (numSet ix sub v s).jrnl = s.jrnl := rfl
@[simp] theorem numSet_twin (ix sub v : Nat) (s : State) : (numSet ix sub v s).twin = s.twin := rfl
@[simp] theorem numSet_elog (ix sub v : Nat) (s : State) : (numSet ix sub v s).elog = s.elog := rfl
@[simp] theorem numSet_pw (ix sub v : Nat) (s : State) : (numSet ix sub v s).pw = s.pw := rfl
@[simp] theorem numSet_facets (ix sub v : Nat) (s : State) : (numSet ix sub v s).facets = s.facets := rfl
@[simp] theorem numSet_straps (ix sub v : Nat) (s : State) : (numSet ix sub v s).straps = s.straps := rfl
@[simp] theorem numSet_siteStatus (ix sub v : Nat) (s : State) : (numSet ix sub v s).siteStatus = s.siteStatus := rfl
@[simp] theorem numSet_admitted (ix sub v : Nat) (s : State) : (numSet ix sub v s).admitted = s.admitted := rfl
@[simp] theorem numSet_held (ix sub v : Nat) (s : State) : (numSet ix sub v s).held = s.held := rfl
@[simp] theorem numSet_cds (ix sub v : Nat) (s : State) : (numSet ix sub v s).cds = s.cds := rfl
@[simp] theorem numSet_fds (ix sub v : Nat) (s : State) : (numSet ix sub v s).fds = s.fds := rfl
@[simp] theorem numSet_pds (ix sub v : Nat) (s : State) : (numSet ix sub v s).pds = s.pds := rfl
@[simp] theorem numSet_oes (ix sub v : Nat) (s : State) : (numSet ix sub v s).oes = s.oes := rfl
@[simp] theorem numSet_lsms (ix sub v : Nat) (s : State) : (numSet ix sub v s).lsms = s.lsms := rfl
@[simp] theorem numSet_hosts (ix sub v : Nat) (s : State) : (numSet ix sub v s).hosts = s.hosts := rfl
@[simp] theorem numSet_links (ix sub v : Nat) (s : State) : (numSet ix sub v s).links = s.links := rfl
@[simp] theorem numSet_dirs (ix sub v : Nat) (s : State) : (numSet ix sub v s).dirs = s.dirs := rfl
@[simp] theorem numSet_ctxs (ix sub v : Nat) (s : State) : (numSet ix sub v s).ctxs = s.ctxs := rfl
@[simp] theorem numSet_owner (ix sub v : Nat) (s : State) : (numSet ix sub v s).owner = s.owner := rfl
@[simp] theorem numSet_mem (ix sub v : Nat) (s : State) : (numSet ix sub v s).mem = s.mem := rfl
@[simp] theorem numSet_ecc (ix sub v : Nat) (s : State) : (numSet ix sub v s).ecc = s.ecc := rfl
@[simp] theorem numSet_sems (ix sub v : Nat) (s : State) : (numSet ix sub v s).sems = s.sems := rfl
@[simp] theorem numSet_arrs (ix sub v : Nat) (s : State) : (numSet ix sub v s).arrs = s.arrs := rfl
@[simp] theorem numSet_slots (ix sub v : Nat) (s : State) : (numSet ix sub v s).slots = s.slots := rfl
@[simp] theorem numSet_streams (ix sub v : Nat) (s : State) : (numSet ix sub v s).streams = s.streams := rfl
@[simp] theorem numSet_engines (ix sub v : Nat) (s : State) : (numSet ix sub v s).engines = s.engines := rfl
@[simp] theorem numSet_topk (ix sub v : Nat) (s : State) : (numSet ix sub v s).topk = s.topk := rfl
@[simp] theorem numSet_ubuf (ix sub v : Nat) (s : State) : (numSet ix sub v s).ubuf = s.ubuf := rfl
@[simp] theorem numSet_net (ix sub v : Nat) (s : State) : (numSet ix sub v s).net = s.net := rfl
@[simp] theorem numSet_txns (ix sub v : Nat) (s : State) : (numSet ix sub v s).txns = s.txns := rfl
@[simp] theorem numSet_tags (ix sub v : Nat) (s : State) : (numSet ix sub v s).tags = s.tags := rfl
@[simp] theorem numSet_outst (ix sub v : Nat) (s : State) : (numSet ix sub v s).outst = s.outst := rfl
@[simp] theorem numSet_latches (ix sub v : Nat) (s : State) : (numSet ix sub v s).latches = s.latches := rfl
@[simp] theorem numSet_fences (ix sub v : Nat) (s : State) : (numSet ix sub v s).fences = s.fences := rfl
@[simp] theorem numSet_striped (ix sub v : Nat) (s : State) : (numSet ix sub v s).striped = s.striped := rfl
@[simp] theorem numSet_terms (ix sub v : Nat) (s : State) : (numSet ix sub v s).terms = s.terms := rfl
@[simp] theorem numSet_mtxns (ix sub v : Nat) (s : State) : (numSet ix sub v s).mtxns = s.mtxns := rfl
@[simp] theorem numSet_plans (ix sub v : Nat) (s : State) : (numSet ix sub v s).plans = s.plans := rfl
@[simp] theorem numSet_insts (ix sub v : Nat) (s : State) : (numSet ix sub v s).insts = s.insts := rfl
@[simp] theorem numSet_ctrlTable (ix sub v : Nat) (s : State) : (numSet ix sub v s).ctrlTable = s.ctrlTable := rfl
@[simp] theorem numSet_tickIncs (ix sub v : Nat) (s : State) : (numSet ix sub v s).tickIncs = s.tickIncs := rfl
@[simp] theorem numSet_barrierHold (ix sub v : Nat) (s : State) : (numSet ix sub v s).barrierHold = s.barrierHold := rfl
@[simp] theorem numSet_idle (ix sub v : Nat) (s : State) : (numSet ix sub v s).idle = s.idle := rfl
@[simp] theorem numSet_xch (ix sub v : Nat) (s : State) : (numSet ix sub v s).xch = s.xch := rfl
@[simp] theorem numSet_out (ix sub v : Nat) (s : State) : (numSet ix sub v s).out = s.out := rfl

/-! ## blobSet -/

@[simp] theorem blobSet_pending (ix sub : Nat) (v : List Byte) (s : State) : (blobSet ix sub v s).pending = s.pending := rfl
@[simp] theorem blobSet_time (ix sub : Nat) (v : List Byte) (s : State) : (blobSet ix sub v s).time = s.time := rfl
@[simp] theorem blobSet_free (ix sub : Nat) (v : List Byte) (s : State) : (blobSet ix sub v s).free = s.free := rfl
@[simp] theorem blobSet_rnd (ix sub : Nat) (v : List Byte) (s : State) : (blobSet ix sub v s).rnd = s.rnd := rfl
@[simp] theorem blobSet_nextUid (ix sub : Nat) (v : List Byte) (s : State) : (blobSet ix sub v s).nextUid = s.nextUid := rfl
@[simp] theorem blobSet_hub (ix sub : Nat) (v : List Byte) (s : State) : (blobSet ix sub v s).hub = s.hub := rfl
@[simp] theorem blobSet_sec (ix sub : Nat) (v : List Byte) (s : State) : (blobSet ix sub v s).sec = s.sec := rfl
@[simp] theorem blobSet_flash (ix sub : Nat) (v : List Byte) (s : State) : (blobSet ix sub v s).flash = s.flash := rfl
@[simp] theorem blobSet_standby (ix sub : Nat) (v : List Byte) (s : State) : (blobSet ix sub v s).standby = s.standby := rfl
@[simp] theorem blobSet_jrnl (ix sub : Nat) (v : List Byte) (s : State) : (blobSet ix sub v s).jrnl = s.jrnl := rfl
@[simp] theorem blobSet_twin (ix sub : Nat) (v : List Byte) (s : State) : (blobSet ix sub v s).twin = s.twin := rfl
@[simp] theorem blobSet_elog (ix sub : Nat) (v : List Byte) (s : State) : (blobSet ix sub v s).elog = s.elog := rfl
@[simp] theorem blobSet_pw (ix sub : Nat) (v : List Byte) (s : State) : (blobSet ix sub v s).pw = s.pw := rfl
@[simp] theorem blobSet_facets (ix sub : Nat) (v : List Byte) (s : State) : (blobSet ix sub v s).facets = s.facets := rfl
@[simp] theorem blobSet_straps (ix sub : Nat) (v : List Byte) (s : State) : (blobSet ix sub v s).straps = s.straps := rfl
@[simp] theorem blobSet_siteStatus (ix sub : Nat) (v : List Byte) (s : State) : (blobSet ix sub v s).siteStatus = s.siteStatus := rfl
@[simp] theorem blobSet_admitted (ix sub : Nat) (v : List Byte) (s : State) : (blobSet ix sub v s).admitted = s.admitted := rfl
@[simp] theorem blobSet_held (ix sub : Nat) (v : List Byte) (s : State) : (blobSet ix sub v s).held = s.held := rfl
@[simp] theorem blobSet_cds (ix sub : Nat) (v : List Byte) (s : State) : (blobSet ix sub v s).cds = s.cds := rfl
@[simp] theorem blobSet_fds (ix sub : Nat) (v : List Byte) (s : State) : (blobSet ix sub v s).fds = s.fds := rfl
@[simp] theorem blobSet_pds (ix sub : Nat) (v : List Byte) (s : State) : (blobSet ix sub v s).pds = s.pds := rfl
@[simp] theorem blobSet_oes (ix sub : Nat) (v : List Byte) (s : State) : (blobSet ix sub v s).oes = s.oes := rfl
@[simp] theorem blobSet_lsms (ix sub : Nat) (v : List Byte) (s : State) : (blobSet ix sub v s).lsms = s.lsms := rfl
@[simp] theorem blobSet_hosts (ix sub : Nat) (v : List Byte) (s : State) : (blobSet ix sub v s).hosts = s.hosts := rfl
@[simp] theorem blobSet_links (ix sub : Nat) (v : List Byte) (s : State) : (blobSet ix sub v s).links = s.links := rfl
@[simp] theorem blobSet_dirs (ix sub : Nat) (v : List Byte) (s : State) : (blobSet ix sub v s).dirs = s.dirs := rfl
@[simp] theorem blobSet_ctxs (ix sub : Nat) (v : List Byte) (s : State) : (blobSet ix sub v s).ctxs = s.ctxs := rfl
@[simp] theorem blobSet_owner (ix sub : Nat) (v : List Byte) (s : State) : (blobSet ix sub v s).owner = s.owner := rfl
@[simp] theorem blobSet_mem (ix sub : Nat) (v : List Byte) (s : State) : (blobSet ix sub v s).mem = s.mem := rfl
@[simp] theorem blobSet_ecc (ix sub : Nat) (v : List Byte) (s : State) : (blobSet ix sub v s).ecc = s.ecc := rfl
@[simp] theorem blobSet_sems (ix sub : Nat) (v : List Byte) (s : State) : (blobSet ix sub v s).sems = s.sems := rfl
@[simp] theorem blobSet_arrs (ix sub : Nat) (v : List Byte) (s : State) : (blobSet ix sub v s).arrs = s.arrs := rfl
@[simp] theorem blobSet_slots (ix sub : Nat) (v : List Byte) (s : State) : (blobSet ix sub v s).slots = s.slots := rfl
@[simp] theorem blobSet_streams (ix sub : Nat) (v : List Byte) (s : State) : (blobSet ix sub v s).streams = s.streams := rfl
@[simp] theorem blobSet_engines (ix sub : Nat) (v : List Byte) (s : State) : (blobSet ix sub v s).engines = s.engines := rfl
@[simp] theorem blobSet_topk (ix sub : Nat) (v : List Byte) (s : State) : (blobSet ix sub v s).topk = s.topk := rfl
@[simp] theorem blobSet_ubuf (ix sub : Nat) (v : List Byte) (s : State) : (blobSet ix sub v s).ubuf = s.ubuf := rfl
@[simp] theorem blobSet_net (ix sub : Nat) (v : List Byte) (s : State) : (blobSet ix sub v s).net = s.net := rfl
@[simp] theorem blobSet_txns (ix sub : Nat) (v : List Byte) (s : State) : (blobSet ix sub v s).txns = s.txns := rfl
@[simp] theorem blobSet_tags (ix sub : Nat) (v : List Byte) (s : State) : (blobSet ix sub v s).tags = s.tags := rfl
@[simp] theorem blobSet_outst (ix sub : Nat) (v : List Byte) (s : State) : (blobSet ix sub v s).outst = s.outst := rfl
@[simp] theorem blobSet_latches (ix sub : Nat) (v : List Byte) (s : State) : (blobSet ix sub v s).latches = s.latches := rfl
@[simp] theorem blobSet_fences (ix sub : Nat) (v : List Byte) (s : State) : (blobSet ix sub v s).fences = s.fences := rfl
@[simp] theorem blobSet_striped (ix sub : Nat) (v : List Byte) (s : State) : (blobSet ix sub v s).striped = s.striped := rfl
@[simp] theorem blobSet_terms (ix sub : Nat) (v : List Byte) (s : State) : (blobSet ix sub v s).terms = s.terms := rfl
@[simp] theorem blobSet_mtxns (ix sub : Nat) (v : List Byte) (s : State) : (blobSet ix sub v s).mtxns = s.mtxns := rfl
@[simp] theorem blobSet_plans (ix sub : Nat) (v : List Byte) (s : State) : (blobSet ix sub v s).plans = s.plans := rfl
@[simp] theorem blobSet_insts (ix sub : Nat) (v : List Byte) (s : State) : (blobSet ix sub v s).insts = s.insts := rfl
@[simp] theorem blobSet_ctrlTable (ix sub : Nat) (v : List Byte) (s : State) : (blobSet ix sub v s).ctrlTable = s.ctrlTable := rfl
@[simp] theorem blobSet_tickIncs (ix sub : Nat) (v : List Byte) (s : State) : (blobSet ix sub v s).tickIncs = s.tickIncs := rfl
@[simp] theorem blobSet_barrierHold (ix sub : Nat) (v : List Byte) (s : State) : (blobSet ix sub v s).barrierHold = s.barrierHold := rfl
@[simp] theorem blobSet_idle (ix sub : Nat) (v : List Byte) (s : State) : (blobSet ix sub v s).idle = s.idle := rfl
@[simp] theorem blobSet_xch (ix sub : Nat) (v : List Byte) (s : State) : (blobSet ix sub v s).xch = s.xch := rfl
@[simp] theorem blobSet_out (ix sub : Nat) (v : List Byte) (s : State) : (blobSet ix sub v s).out = s.out := rfl

/-! ## What an updated table reads -/

theorem getFacet_updFacet_same {s : State} (c : Nat) (g : FacetSt → FacetSt) (h : Tab.wf {} s.facets = true) :
    getFacet (updFacet c g s) c = g (getFacet s c) := tget_tset_same (wf_rising h)
theorem getFacet_updFacet_ne {s : State} {c k : Nat} (g : FacetSt → FacetSt) (h : Tab.wf {} s.facets = true) (hk : k ≠ c) :
    getFacet (updFacet c g s) k = getFacet s k := tget_tset_ne (wf_rising h) hk
theorem getCd_updCd_same {s : State} (c : Nat) (g : CdSt → CdSt) (h : Tab.wf {} s.cds = true) :
    getCd (updCd c g s) c = g (getCd s c) := tget_tset_same (wf_rising h)
theorem getCd_updCd_ne {s : State} {c k : Nat} (g : CdSt → CdSt) (h : Tab.wf {} s.cds = true) (hk : k ≠ c) :
    getCd (updCd c g s) k = getCd s k := tget_tset_ne (wf_rising h) hk
theorem getFd_updFd_same {s : State} (c : Nat) (g : FdSt → FdSt) (h : Tab.wf {} s.fds = true) :
    getFd (updFd c g s) c = g (getFd s c) := tget_tset_same (wf_rising h)
theorem getFd_updFd_ne {s : State} {c k : Nat} (g : FdSt → FdSt) (h : Tab.wf {} s.fds = true) (hk : k ≠ c) :
    getFd (updFd c g s) k = getFd s k := tget_tset_ne (wf_rising h) hk
theorem getPd_updPd_same {s : State} (c : Nat) (g : PdSt → PdSt) (h : Tab.wf {} s.pds = true) :
    getPd (updPd c g s) c = g (getPd s c) := tget_tset_same (wf_rising h)
theorem getPd_updPd_ne {s : State} {c k : Nat} (g : PdSt → PdSt) (h : Tab.wf {} s.pds = true) (hk : k ≠ c) :
    getPd (updPd c g s) k = getPd s k := tget_tset_ne (wf_rising h) hk
theorem getOe_updOe_same {s : State} (c : Nat) (g : OeSt → OeSt) (h : Tab.wf {} s.oes = true) :
    getOe (updOe c g s) c = g (getOe s c) := tget_tset_same (wf_rising h)
theorem getOe_updOe_ne {s : State} {c k : Nat} (g : OeSt → OeSt) (h : Tab.wf {} s.oes = true) (hk : k ≠ c) :
    getOe (updOe c g s) k = getOe s k := tget_tset_ne (wf_rising h) hk
theorem getLsm_updLsm_same {s : State} (c : Nat) (g : LsmSt → LsmSt) (h : Tab.wf {} s.lsms = true) :
    getLsm (updLsm c g s) c = g (getLsm s c) := tget_tset_same (wf_rising h)
theorem getLsm_updLsm_ne {s : State} {c k : Nat} (g : LsmSt → LsmSt) (h : Tab.wf {} s.lsms = true) (hk : k ≠ c) :
    getLsm (updLsm c g s) k = getLsm s k := tget_tset_ne (wf_rising h) hk
theorem getHost_updHost_same {s : State} (c : Nat) (g : HostSt → HostSt) (h : Tab.wf {} s.hosts = true) :
    getHost (updHost c g s) c = g (getHost s c) := tget_tset_same (wf_rising h)
theorem getHost_updHost_ne {s : State} {c k : Nat} (g : HostSt → HostSt) (h : Tab.wf {} s.hosts = true) (hk : k ≠ c) :
    getHost (updHost c g s) k = getHost s k := tget_tset_ne (wf_rising h) hk
theorem getLink_updLink_same {s : State} (c : Nat) (g : LinkSt → LinkSt) (h : Tab.wf {} s.links = true) :
    getLink (updLink c g s) c = g (getLink s c) := tget_tset_same (wf_rising h)
theorem getLink_updLink_ne {s : State} {c k : Nat} (g : LinkSt → LinkSt) (h : Tab.wf {} s.links = true) (hk : k ≠ c) :
    getLink (updLink c g s) k = getLink s k := tget_tset_ne (wf_rising h) hk
theorem getDir_updDir_same {s : State} (c : Nat) (g : LinkDir → LinkDir) (h : Tab.wf {} s.dirs = true) :
    getDir (updDir c g s) c = g (getDir s c) := tget_tset_same (wf_rising h)
theorem getDir_updDir_ne {s : State} {c k : Nat} (g : LinkDir → LinkDir) (h : Tab.wf {} s.dirs = true) (hk : k ≠ c) :
    getDir (updDir c g s) k = getDir s k := tget_tset_ne (wf_rising h) hk
theorem getCtx_updCtx_same {s : State} (c : Nat) (g : Ctx → Ctx) (h : Tab.wf {} s.ctxs = true) :
    getCtx (updCtx c g s) c = g (getCtx s c) := tget_tset_same (wf_rising h)
theorem getCtx_updCtx_ne {s : State} {c k : Nat} (g : Ctx → Ctx) (h : Tab.wf {} s.ctxs = true) (hk : k ≠ c) :
    getCtx (updCtx c g s) k = getCtx s k := tget_tset_ne (wf_rising h) hk

end Sys2Proof.Machine
end

