-- ==== Sys2Proof/Tests/Slice0.lean ====
section
/-! SUPPORT. Tests/Slice0.lean: the model's own tests: ill-formed commands that the checks refuse, worked examples and
tables of the spec, single steps, and for every statement with hypotheses a witness that meets them, clause by
clause. -/
open Sys2Proof Sys2Proof.Machine
namespace Sys2Proof.Tests
set_option Elab.async false
set_option linter.unusedVariables false
set_option linter.unusedSimpArgs false

theorem isErr {x : Except Nat State} {k : Nat}
    (h : (match x with | .error j => j == k | .ok _ => false) = true) : x = .error k := by
  cases x <;> simp_all
theorem isOk {x : Except Nat State} (h : (match x with | .error _ => false | .ok _ => true) = true) :
    ∃ u, x = .ok u := by
  cases x <;> simp_all

/-- A running block. -/
def lit : State := { hub := { on := true, firmware := true, resumed := true } }
/-- With both host dies admitted. -/
def hosted : State := { lit with hosts := [(0, { admitted := true }), (1, { admitted := true })] }
def facetIn (f : Nat) (x : FacetSt) : State := { lit with facets := [(f, x)] }
def linkIn (l : Nat) (x : LinkSt) : State := { lit with links := [(l, x)] }
def cdIn (d : Nat) (x : CdSt) : State := { lit with cds := [(d, x)] }
def fdIn (d : Nat) (x : FdSt) : State := { lit with fds := [(d, x)] }
/-- One descriptor in flight in an engine of die 0. -/
def flight (engine : Nat) (x : InFlight) : State :=
  { facetIn 0 { state := 2 } with engines := [(engineKey 0 engine, { fly := [x] })] }
/-- A descriptor of one opcode. -/
def opFly (op : Nat) : InFlight := { desc := { opcode := op } }
/-- Facet 0, with context 1 bound to it and a command in die 0's first stream. -/
def boundOne : State :=
  { facetIn 0 { state := 2 } with ctxs := [(1, { state := 3, gen := 1, mask := 1 })] }
def ready0 : State :=
  { facetIn 0 { state := 1 } with
    admitted := (facetSites 0).map (fun x => (x, 1)), cds := (List.range 8).map (fun d => (d, { near := 3 })),
    fds := (List.range 8).map (fun d => (d, { state := 3 })), links := (facetLinks 0).map (fun l => (l, { state := 3 })) }
/-- 248 bytes of a flit, with their CRC. -/
def flitOf (b : List Byte) : List Byte := b ++ leBytes 8 (crc64 b)

/-- Die 0's memories up, one descriptor in flight. -/
def runIn (engine : Nat) (x : InFlight) : State :=
  { flight engine x with cds := [(0, { near := 3, spSingle := 2, spDual := 2 })] }
/-- A descriptor of one iteration over near memory, its deadline before the refresh window. -/
def nearFly (op fa fb fd imm : Nat) : InFlight :=
  { uid := 1, deadline := 11249,
    desc := { opcode := op, fmtA := fa, fmtB := fb, fmtD := fd, imm := imm, a := { en := true },
              b := { en := true, base := 0x100000 }, d := { en := true, base := 0x200000 } } }
/-- The same, its remote operand at node 1. -/
def farFly (op imm : Nat) : InFlight :=
  { uid := 1, deadline := 11249,
    desc := { opcode := op, imm := imm, a := { en := true, base := if op = 0x92 ∨ op = 0x93 then 2 ^ 48 else 0 },
              b := { en := true, base := 0x100000 },
              d := { en := true, base := if op = 0x92 ∨ op = 0x93 then 0x200000 else 2 ^ 48 + 0x200000 } } }
/-- A node of a machine: node 0, rows of 4. -/
def noded (s : State) : State :=
  { s with mg.num := [(objKey oNodeId 0, 0)], mg.blob := [(objKey oAxisSize 0, [4, 1, 1])] }
def netOne : State :=
  { lit with admitted := [(0, 1), (96, 1)], ctxs := [(1, { state := 3, gen := 1, mask := 1 })],
             cds := [(0, { near := 3, spSingle := 2, spDual := 2 })], owner := [(ownKey 0 0 0, 1), (ownKey 1 0 0, 1)] }
def pkgTo (addr len : Nat) (data : List Byte) : Pkg :=
  { dst := 0, src := 0x80, ctx := 1, gen := 1, addr := addr, len := len, data := data }

def oeIn (e : Nat) (x : OeSt) : State := { noded lit with oes := [(e, x)] }
/-- Every site admitted, no facet held: packets go everywhere. -/
def openAll (s : State) : State := { s with admitted := (List.range 100).map fun x => (x, 1) }
/-- A firewall table whose first entry opens `size` bytes at `base` for operations `ops`. -/
def window (base size ops rate : Nat) : List Byte :=
  leBytes 8 base ++ leBytes 8 size ++ leBytes 4 ops ++ leBytes 4 rate ++ leBytes 4 4096 ++ List.replicate 996 0
def fenced (t : List Byte) : State := { hosted with mg.blob := [(objKey oFwTable 1, t)] }
def ctxIn (c : Nat) (x : Ctx) : State := { hosted with ctxs := [(c, x)] }
def tornAt (n : Nat) (x : Teardown) : State :=
  ctxIn 255 { state := 5, gen := 7, mask := 1, td := some { x with step := n } }
/-- A packet for node `n`. -/
def mTo (n : Nat) : Mpk := { dstNode := n, ctx := 1, gen := 1 }
def nodeOne : State := noded netOne
/-- Every link carries packets, every site is admitted. -/
def linked (s : State) : State := { openAll s with links := (List.range 136).map fun l => (l, { state := 3 }) }

/-- A plan of context 1 at prism die 0. -/
def planOne : Plan := { ctx := 1, gen := 1, kind := 1, shape := 1, chunk := 256, children := [1], parent := 0x8000 }
def planned (p : Plan) (is : List Inst) : State := { linked nodeOne with plans := [p], insts := is, oes := (List.range 6).map fun e => (e, { state := 5 }) }
def instOne : Inst := { ctx := 1, gen := 1 }

/-- A block with firmware that serves all management paths but the twin's. -/
def served : State := { lit with sec.lc := 7 }
/-- Deployed, its twin paired. -/
def paired (st : Nat) : State :=
  { lit with sec.lc := 3, sec.pairKey := [1], twin := { state := st, node := 0x400, lastBeat := 5, rxCount := 2 } }
/-- What `openTwin` opens in `paired`: the tag is computed from the free function. -/
theorem opens (st : Nat) : openTwin (paired st) 2 [5]
      (slice (Config.gcmTag [1] (leBytes 4 4 ++ leBytes 8 2) (leBytes 2 0x400 ++ leBytes 2 (nodeId (paired st))) [5]) 0 16) =
    some ((Config.gcmDec [1] (leBytes 4 4 ++ leBytes 8 2) [5]).take 1) := by
  have h16 : ∀ l : List Byte, slice (slice l 0 16) 0 16 = slice l 0 16 := by
    intro l; simp only [slice, List.drop_zero]
    rw [List.take_of_length_le (i := 16)]
    · have : (List.take 16 l ++ List.replicate (16 - (List.take 16 l).length) (0 : Byte)).length = 16 := by
        simp only [List.length_append, List.length_replicate, List.length_take]; omega
      rw [this]; simp
    · simp only [List.length_append, List.length_replicate, List.length_take]; omega
  unfold openTwin
  simp only [h16]
  simp [paired]

theorem toggled : ∀ i < 50, 2 ≤ i → bit (2 ^ 48 - 1) i = true → ∀ j < i, 2 ≤ j → bit (2 ^ 48 - 1) j = true := by
  decide +kernel


/-- Nothing held at the prism dies and at the ports of the package. -/
theorem idleOf {s : State} (h : s.pds = []) (g : s.dirs = []) : injIdle s := by
  refine ⟨fun pd => ?_, ?_⟩ <;> simp [getPd, tget, h, g]
theorem quietOf {s : State} (h : s.pds = []) (g : s.dirs = []) (o : s.mg.outbox = []) (t : s.terms = []) (i : s.insts = [])
    (x : s.xch = []) (e : s.oes = []) (w : s.hosts = []) (b : twinned s = false) : quiet s := by
  refine ⟨idleOf h g, b, by simp [g], o, t, i, x, fun n => ?_, fun n => ?_⟩ <;> simp [getOe, getHost, tget, e, w]
theorem unlogged {s : State} {d a : Nat} (h : (getCd s d).acc = []) (g : (getCd s d).rowLog = []) : ¬ logged s d a := by
  simp [logged, h, g]

/-! ## Ill-formed commands (one per check) -/

/-- Packets, messages, headers and requests, each with one field out of its range. -/
def pkgs : List Pkg :=
  [{ dst := 256 }, { src := 256 }, { op := 64 }, { pclass := 4 }, { rdClass := 4 }, { ctx := 256 }, { gen := 256 },
   { len := 129 }, { origin := 4 }, { etype := 16 }, { status := 16 }, { slot := 2 }, { srcEngine := 16 }, { tag := 4096 },
   { addr := 2 ^ 48 }, { len := 0, data := [1] }]
def mpks : List Mpk :=
  [{ op := 256 }, { op := 0 }, { op := 0xF0 }, { op := 0x20, tc := 4 }, { op := 0x20, sub := 2 }, { op := 0x20, port := 4 },
   { op := 0x20, ctx := 256 }, { op := 0x20, gen := 256 }, { op := 0x20, dstNode := 65536 }, { op := 0x20, srcNode := 65536 },
   { op := 0x20, count := 65536 }, { op := 0x20, len := 129 }, { op := 0x20, status := 16 }, { op := 0x20, rdClass := 4 },
   { op := 0x20, atop := 8 }, { op := 0x20, etype := 16 }, { op := 0x20, srcEngine := 16 }, { op := 0x20, srcDie := 32 },
   { op := 0x20, slot := 2 }, { op := 0x20, arr := 256 }, { op := 0x20, epoch := 65536 }, { op := 0x20, tag := 65536 },
   { op := 0x20, addr := 2 ^ 48 }, { op := 0x20, data := [1] }]
def opts : List OptMsg :=
  [{ type := 256 }, { fibre := 256 }, { line := 256 }, { lane := 256 }, { arg := 2 ^ 64 }, { body := List.replicate 49 0 }]
def lanes : List LaneHdr :=
  [{ sync := 65536 }, { srcOe := 32 }, { fibre := 8 }, { wave := 32 }, { lane := 16 }, { kind := 4 }, { keyEpoch := 16 },
   { seq := 65536 }, { ack := 65536 }, { tagByte := 256 }]
def reqs : List HostReq := [{ bar := 6 }, { op := .write, len := 8 }, { atomic := 3 }]

theorem test_wf_pkg : (pkgs.all fun p => !(Instr.rd p).wf && !(Instr.wr p false).wf && !(Instr.arrAdd p).wf) = true := by decide +kernel
theorem test_wf_pkg_atomic : (pkgs.all fun p => !(Instr.atAdd p).wf && !(Instr.atMin p).wf && !(Instr.atMax p).wf && !(Instr.atSwap p).wf && !(Instr.atCas p).wf) = true := by decide +kernel
theorem test_wf_pkg_signal : (pkgs.all fun p => !(Instr.sigAdd p).wf && !(Instr.sigSet p).wf) = true := by decide +kernel
theorem test_wf_pkg_answer : (pkgs.all fun p => !(Instr.rdRsp p).wf && !(Instr.wrAck p).wf && !(Instr.atRsp p).wf) = true := by decide +kernel
theorem test_wf_pkg_other : (pkgs.all fun p => !(Instr.host p).wf && !(Instr.mgmt p).wf && !(Instr.pkgReservedOp 0 p).wf) = true := by decide +kernel
theorem test_wf_mpk : (mpks.all fun p => !(Instr.mPut 0 p).wf && !(Instr.mGet 0 p).wf && !(Instr.mLoad 0 p).wf && !(Instr.mAtom 0 p).wf) = true := by decide +kernel
theorem test_wf_mpk_answer : (mpks.all fun p => !(Instr.mData 0 p).wf && !(Instr.mAck 0 p).wf && !(Instr.mDrain 0 p).wf && !(Instr.mMgmt 0 p).wf && !(Instr.machineReservedOp 0 p).wf) = true := by decide +kernel
theorem test_wf_mpk_collective : (mpks.all fun p => !(Instr.cUp 0 p).wf && !(Instr.cDown 0 p).wf && !(Instr.arrive 0 p).wf && !(Instr.release 0 p).wf && !(Instr.grant 0 p).wf && !(Instr.abort 0 p).wf && !(Instr.prune 0 p).wf) = true := by decide +kernel
theorem test_wf_opt : (opts.all fun m => !(Instr.ping 0 m).wf && !(Instr.echo 0 m).wf && !(Instr.ident 0 m).wf && !(Instr.attestFrag 0 m).wf && !(Instr.keyShare 0 m []).wf && !(Instr.keyConfirm 0 m).wf && !(Instr.refuse 0 m).wf) = true := by decide +kernel
theorem test_wf_opt_line : (opts.all fun m => !(Instr.moveToSpare 0 m).wf && !(Instr.moveBack 0 m).wf && !(Instr.lineFailed 0 m).wf && !(Instr.txSuspect 0 m).wf && !(Instr.monReport 0 m).wf && !(Instr.calBegin 0 m).wf && !(Instr.calEnd 0 m).wf && !(Instr.width 0 m).wf && !(Instr.unknownControlType 0 m).wf) = true := by decide +kernel
theorem test_wf_lane : (lanes.all fun h => !(Instr.laneFrame 0 0 0 h (0, 0)).wf) = true := by decide +kernel
theorem test_wf_line : ((Instr.laneFrame 0 8 0 {} (0, 0)).wf || (Instr.laneFrame 0 0 0 {} (545, 0)).wf || (Instr.laneFrame 0 0 0 {} (0, 545)).wf || (Instr.linkFrame 0 { lanes := [{ fibre := 8 }] }).wf || (Instr.mislockRelock 0 .tx 0 18 true).wf || (Instr.ringHoldTimeout 0 .tx 8 0).wf || (Instr.txRingUnlockTimeout 0 8 0).wf || (Instr.urgentRecentre 0 .tx 8 0).wf) = false := by decide
theorem test_wf_host_request : (reqs.all fun r => !(Instr.hostRequest 0 r).wf) = true := by decide
theorem test_wf_power_up : ((Instr.powerUp { strap0 := 256 }).wf || (Instr.powerUp { strap1 := 256 }).wf) = false := by decide
theorem test_wf_strap_latch : (Instr.strapLatch 0 256).wf = false := by decide
theorem test_wf_die_admission : (Instr.dieAdmission [1, 1]).wf = false := by decide
theorem test_wf_pkg_link_trained : (Instr.pkgLinkTrained 0 9 0).wf = false := by decide
theorem test_wf_pkg_link_test : (Instr.pkgLinkTest .mgt0 0 3).wf = false := by decide
theorem test_wf_signal_arrival : ((Instr.signalArrival 0 512 false 0 false 0).wf || (Instr.signalArrival 0 0 false 16 false 0).wf || (Instr.signalArrival 0 0 false 0 false (2 ^ 32)).wf) = false := by decide
theorem test_wf_bank_atomic : ((Instr.bankAtomic 0 0x4000000 false 0 0 false).wf || (Instr.bankAtomic 0 0 false 16 0 false).wf || (Instr.bankAtomic 0 0 false 0 (2 ^ 64) false).wf) = false := by decide
theorem test_wf_far_lane_margin_check : (Instr.farLaneMarginCheck 0 0 [3, 3]).wf = false := by decide
theorem test_wf_host_admission : (Instr.hostAdmission 0 9 0 true []).wf = false := by decide
theorem test_wf_fw_table_write : (Instr.fwTableWrite .hd0 0 (List.replicate 1023 0)).wf = false := by decide +kernel
theorem test_wf_doorbells : ((Instr.semRing 0 256 0 0).wf || (Instr.semRing 0 1 0 (2 ^ 64)).wf || (Instr.xchTail 0 256 0).wf || (Instr.xchTail 0 1 (2 ^ 64)).wf || (Instr.exchangeRequest 0 256).wf) = false := by decide
theorem test_wf_ctx_assign : ((Instr.ctxAssign 0 256 0 0 0 1).wf || (Instr.ctxAssign 0 1 3 0 0 1).wf || (Instr.ctxAssign 0 1 0 32 0 1).wf) = false := by decide
theorem test_wf_ctx_unassign : ((Instr.ctxUnassign 0 256 0 0 0 1).wf || (Instr.ctxUnassign 0 1 3 0 0 1).wf || (Instr.ctxUnassign 0 1 0 32 0 1).wf) = false := by decide
theorem test_wf_ctx_bind : ((Instr.ctxBind 0 256 1 0 0 0 0 []).wf || (Instr.ctxBind 0 1 16 0 0 0 0 []).wf || (Instr.ctxBind 0 1 1 2 0 0 0 []).wf || (Instr.ctxBind 0 1 1 0 2 0 0 []).wf || (Instr.ctxBind 0 1 1 0 0 0 0 (List.replicate 33 0)).wf) = false := by decide
theorem test_wf_ctx_end : ((Instr.ctxReset 0 256 0 0 0).wf || (Instr.ctxReset 0 1 2 0 0).wf || (Instr.ctxRelease 0 256).wf) = false := by decide
theorem test_wf_teardown : ((Instr.teardownResume 256).wf || (Instr.drainTimeout 256).wf || (Instr.teardownClear 256).wf) = false := by decide
theorem test_wf_objects : ((Instr.objRead 0 65536 0).wf || (Instr.objRead 0 0 256).wf || (Instr.objWrite 0 65536 0 []).wf || (Instr.read .mgt0 [] 0 65536 0 0 0).wf || (Instr.write .mgt0 [] 0 0 256 0 false []).wf || (Instr.objectWrite .mgt0 0 256 []).wf || (Instr.describe .mgt0 [] 0 65536 0).wf) = false := by decide
/-- R359: 2,032 argument bytes hold the index, the subindex and 2,029 bytes of value. -/
theorem test_wf_obj_write_length : (Instr.objWrite 0 0x2000 1 (List.replicate 2030 0)).wf = false := by decide +kernel
theorem test_wf_unit_zeroing_done : (Instr.unitZeroingDone .slot 0 24576).wf = false := by decide
theorem test_wf_log_delivery : (Instr.logDelivery 0 0).wf = false := by decide
theorem test_wf_ring_lock_done : (Instr.ringLockDone 0 256).wf = false := by decide
theorem test_wf_m_credit : (Instr.mCredit 0 (List.replicate 9 0) 0).wf = false := by decide
theorem test_wf_collective_end : ((Instr.collComplete 0 256 0).wf || (Instr.collTimeout 0 256 0).wf || (Instr.settleWindowClose 0 256 0).wf) = false := by decide
theorem test_wf_tamper_wipe : ((Instr.tamperWipe 0).wf || (Instr.tamperWipe 65536).wf) = false := by decide
theorem test_wf_session_timeout : (Instr.sessionTimeout 256).wf = false := by decide
theorem test_wf_nodes : ((Instr.keyRecoverResponse 65536 [] [] [] []).wf || (Instr.fragmentTimeout 65536 0).wf || (Instr.twinHeartbeat 65536).wf || (Instr.reportExchange 65536 [] []).wf) = false := by decide
theorem test_wf_mctp_address : ((Instr.mctpAddressAssign 128 8).wf || (Instr.mctpAddressAssign 0 256).wf) = false := by decide

/-! ## Worked examples and tables of the spec -/

/-- No row of the opcode table has bits, so no word spells a command. -/
theorem test_decode : ([8, 16, 32, 64, 128].all fun n => (List.range 300).all fun w => decodeTableWord n w = none) = true := by decide +kernel

/-- R16's example: CD0 to CD31 passes CD1, CD2, CD3, CD8 to CD11, CD15 and CD27. -/
theorem test_mesh_route : (route 2 0 31).map (·.1) = [0, 1, 2, 3, 4, 5, 6, 35, 43, 51] := by decide +kernel
/-- The worked example of chapter 7: CD2 to CD29 over links 2, 3, 4, 33, 41 and 49, and six links back. -/
theorem test_copy_route : (route 2 2 29).map (·.1) = [2, 3, 4, 33, 41, 49] ∧ (route 0x11 29 2).length = 6 := by decide +kernel

/-- The worked example of chapter 2, facet 0 of a stretched frame: its three runs of working cycles and its record. -/
def stretched : FacetSt :=
  runCycles 4500 (setLevel 7 (runCycles 4500 (setLevel 5 (runCycles 3000 { state := 2, frameNo := 40112, join := 3, openWall := 5000000000 }))))
theorem test_stretched_frame :
    (let r := closeRec (facetIn 0 stretched) 0 stretched
     (r.tickWall, r.number, r.skip, r.div, r.hold) = (5000000000, 40112, true, true, false) ∧
       (r.minSkip, r.join, r.base, r.skipped, r.holdPeriods, r.div2, r.div4) = (4, 3, 18000, 1500, 0, 4500, 0)) := by decide +kernel
/-- The tick that closes it is stamped 12,000 ns later. -/
theorem test_stretched_tick : tickStamp (frameEnd { stretched with openT := 3 * 5000000000 }) = 5000012000 := by decide +kernel
/-- The worked example of chapter 15: a level 7 from cycle 5,100 of 12,000 on gives 18,900 periods. -/
theorem test_sag_frame : periods (runCycles 6900 (setLevel 7 (runCycles 5100 {}))) = 18900 := by decide +kernel
/-- R33's practice: at level 11 a default frame lasts 64,000 ns (two thirds of a nanosecond a period). -/
theorem test_level_eleven : 2 * periods (runCycles 12000 (setLevel 11 {})) / 3 = 64000 := by decide +kernel

/-- The tiled product of chapter 2's worked example, as it is encoded there. -/
def tiled : Desc :=
  Desc.ofBytes (leBytes 8 0x2200000000010601 ++ leBytes 8 0x000000010330B000 ++ leBytes 4 0x40C00001 ++ leBytes 12 0 ++
    leBytes 4 0x4A0D0001 ++ leBytes 4 0 ++ leBytes 2 512 ++ leBytes 2 8 ++ leBytes 2 2 ++ leBytes 6 0 ++ leBytes 4 0 ++
    leBytes 8 0xFFFF0F0140000000 ++ leBytes 16 (0x88 * 2 ^ 120 + 2 ^ 20 + 8) ++
    leBytes 8 0xFFFF0F0140100000 ++ leBytes 16 (0xC8 * 2 ^ 120 + 0x80 * 2 ^ 40 + 0x10 * 2 ^ 20) ++
    leBytes 8 0xFFFF0F0140200000 ++ leBytes 16 (0xA8 * 2 ^ 120 + 2 ^ 40 + 2)) 0 0
theorem test_descriptor_control :
    (tiled.budget, tiled.notBefore, tiled.next, tiled.engine, tiled.levels, tiled.opcode) = (8704, 0, 1, 0, 3, 1) := by decide +kernel
theorem test_descriptor_mode :
    (tiled.imm, tiled.fmtD, tiled.fmtB, tiled.fmtA, tiled.round) = (1, 0, 3, 3, 0) ∧
      (tiled.slotA, tiled.slotB, tiled.slotD, tiled.consA, tiled.consB, tiled.reserved) = (true, false, true, true, false, false) := by decide +kernel
theorem test_descriptor_words :
    tiled.waits.head? = some { kind := 2, obj := 12, thr := 1 } ∧ tiled.sigs.head? = some { kind := 1, die := 5, obj := 13, value := 1 } := by decide +kernel
/-- The highest addresses plus one unit end at each operand's 1 MiB bound. -/
theorem test_descriptor_extents :
    tiled.high tiled.a + 256 = 0xFFFF0F0140100000 ∧ tiled.high tiled.b + 65536 = 0xFFFF0F0140200000 ∧
      tiled.high tiled.d + 1024 = 0xFFFF0F0140300000 := by decide +kernel
/-- A pass of 512 rows takes 512 cycles. -/
theorem test_pass_time : tiled.passT 512 = 512 := by decide +kernel
/-- Two wait words of chapter 10's worked example: 262,144 as 8 x 2^15. -/
theorem test_wait_words :
    Wait.ofWord 0x628F0008 = { kind := 3, obj := 40, thr := 262144 } ∧ Wait.ofWord 0x828F0020 = { kind := 4, obj := 40, thr := 1048576 } := by decide
/-- Signal and wait words of chapter 3's worked example. -/
theorem test_signal_words :
    Sig.ofWord 0x52140001 = { kind := 1, die := 9, obj := 20, value := 1 } ∧ Wait.ofWord 0x41400001 = { kind := 2, obj := 20, thr := 1 } := by decide

/-- Chapter 3's worked example: P1, Q1, P2 and Q2 issue behind one another, passes of 256 cycles. -/
theorem test_overlapped_schedule :
    (let d : Desc := { opcode := 1, fmtA := 3, fmtB := 4 }
     let last (ps : List Pass) : Nat × Nat := ((ps.getLast?.getD {}).start, (ps.getLast?.getD {}).start + d.passT 256)
     let lay (issue : Nat) (p : Nat × Nat) := last (layPasses d 0 (fillStart issue p.1) (streamStart issue p.1 p.2) (List.replicate 4 256))
     let p1 := lay 8 (0, 0)
     let q1 := lay 1032 p1
     let p2 := lay 2056 q1
     (p1, q1, p2, lay 3080 p2) = ((1032, 1288), (2056, 2312), (3080, 3336), (4104, 4360))) := by decide +kernel
/-- Its last D write, 256 cycles behind the last A unit: P1 retires at 1,543. -/
theorem test_last_write :
    ((({ opcode := 1, fmtA := 3, fmtB := 4 } : Desc).maEvents [{ first := 768, len := 256, load := 776, start := 1032 }]).map (·.cyc)).foldl max 0 = 1543 := by decide +kernel
/-- Chapter 4's worked example: E of the VCVT of 1,024 units is 128. -/
theorem test_vcvt_time : ({ opcode := 0x50, fmtA := 0, fmtD := 1, levels := 2, counts := [2, 512] } : Desc).vecE = 128 := by decide +kernel
/-- Chapter 5's phases: T of 212, 60, 72, 160, 692, 398 and 5,976 stack cycles, three cycles before four descriptors end. -/
theorem test_near_bank_time :
    ([212, 160, 692, 398].map (nbT · + 3) = [405, 307, 1305, 754]) ∧ nbT 60 = 117 ∧ nbT 5976 = 11209 ∧ nbT 5960 = 11179 := by decide
/-- R136: a default frame keeps 11,250 cycles for near-bank work. -/
theorem test_refresh_cycles : 12000 - refreshCycles 12000 = 11250 := by decide
/-- Chapter 6's worked example: a share of 25 % of a 1,000 ns window is 800 granules. -/
theorem test_far_allowance : allowance { winShare := 25, winLen := 1000 } = 800 := by decide

/-- R85: the greatest finite E4M3 value is 448, and FP32's 2^20 saturates to it. -/
theorem test_e4m3_saturates : (encFloat 3 .rne 0 (.num false 1 20)).1 = 0x7E ∧ decFloat 3 0x7E = .num false 14 5 := by decide +kernel
/-- R82: MX scale codes are powers of two biased by 127; a code of 0xFF gives NaN. -/
theorem test_mx_scale :
    unitVals 3 32 1 (List.replicate 32 0x38 ++ [0x80]) = List.replicate 32 (.num false 8 (-2)) ∧
      (unitVals 3 32 1 (List.replicate 32 0x38 ++ [0xFF])).all (· == .nan) = true := by decide +kernel
/-- R84: an INT8 product of a column. -/
theorem test_int_column : intCol 5 5 [0x80, 0x7F, 0x02] [0x80, 0x01, 0xFF] = 16384 + 127 - 2 := by decide +kernel
/-- R172: an integer add wraps modulo 2^32. -/
theorem test_atomic_wraps : atomElem 0 10 0 0xFFFFFFFF 2 = 1 := by decide +kernel
/-- R59: a semaphore SET, an ADD and a take of one cycle apply in that order. -/
theorem test_event_order :
    (orderEvents [{ obj := 1, kind := 2, value := 3 }, { obj := 1, kind := 1, value := 4 }, { obj := 1, kind := 0, value := 5 }]).map (·.kind) = [0, 1, 2] := by decide
/-- R187's check value of the CRC-64. -/
theorem test_crc64 : crc64 [0x31, 0x32, 0x33, 0x34, 0x35, 0x36, 0x37, 0x38, 0x39] = 0x995DC9BBDF1939FA := by decide +kernel
/-- R388: the states that the fuse field spells, 0 BLANK to 4 RETIRED. -/
theorem test_life_cycle_fuses : [0, 1, 3, 7, 15, 2 ^ 63].map lcOfFuses = [0, 1, 2, 3, 2, 4] := by decide

/-- R117: 1.0 + 2.0 is 3.0 in FP32; R119: INT32 sums wrap; a VSELECT of a zero leaves D. -/
theorem test_vadd : (vecElem { opcode := 0x40 } (fun _ _ => 0) 0 0 0x3F800000 0x40000000 none).map (·.1) = some 0x40400000 := by decide +kernel
theorem test_vadd_wraps :
    (vecElem { opcode := 0x40, fmtA := 10, fmtB := 10, fmtD := 10 } (fun _ _ => 0) 0 0 0x7FFFFFFF 1 none).map (·.1) = some 0x80000000 := by decide +kernel
theorem test_vselect : (vecElem { opcode := 0x46 } (fun _ _ => 0) 0 0 0x3F800000 0 none).map (·.1) = none := by decide +kernel
/-- R83: 1 x 3 + 2 x 4 is 11; a sum rounds to nearest-even in FP32 at each element. -/
theorem test_float_column :
    floatCol { fmtA := 0, fmtB := 0 } [.num false 1 0, .num false 2 0] [.num false 3 0, .num false 4 0] = .num false (11 * 2 ^ 20) (-20) := by decide +kernel
theorem test_rounding : (encFloat 0 .rne 0 (add32 (.num false 1 24) (.num false 1 0))).1 = 0x4B800000 := by decide +kernel
/-- R88: (1 + 2i)(3 + 4i) = -5 + 10i by both complex opcodes. -/
theorem test_complex_columns :
    (let x : List Val := [.num false 1 0, .num false 2 0]
     let y : List Val := [.num false 3 0, .num false 4 0]
     let bitsOf (p : Val × Val) : Nat × Nat := ((encFloat 0 .rne 0 p.1).1, (encFloat 0 .rne 0 p.2).1)
     bitsOf (c4Col x y) = (0xC0A00000, 0x41200000) ∧ bitsOf (c3Col 1 1 x y) = (0xC0A00000, 0x41200000)) := by decide +kernel
/-- R119: the exact FP32 results of e, ln 2, 1/3, 1/sqrt 2, tanh 1 and 1/(1 + 1/e). -/
theorem test_special_functions :
    [(0x48, 1), (0x49, 2), (0x4A, 3), (0x4B, 2), (0x4C, 1), (0x4D, 1)].map (fun p =>
      (specialExact p.1 (.num false p.2 0)).map fun v => (encFloat 0 .rne 0 v.r32).1) =
      [some 0x402DF854, some 0x3F317218, some 0x3EAAAAAB, some 0x3F3504F3, some 0x3F42F7D6, some 0x3F3B26A8] := by decide +kernel
/-- R119: an implementation lies at most 2 ulp off; there is no real logarithm of zero. -/
theorem test_special_bound :
    ([-4, -3, -2, -1, 0, 1, 2, 3, 4].map fun k => (encFloat 0 .rne 0 (nearUlp (.num false 1 0) k)).1) =
      [0x3F7FFFFC, 0x3F7FFFFD, 0x3F7FFFFE, 0x3F7FFFFF, 0x3F800000, 0x3F800001, 0x3F800002, 0x3F800000, 0x3F800000] ∧
      specialExact 0x49 (.num false 0 0) = none := by decide +kernel
/-- R121: eA of 1.0 is 3, and its first slice 16. -/
theorem test_vslice : sliceExp [.num false 1 0] = 3 ∧ (sliceOf 3 (.num false 1 0)).1 = [16, 0, 0, 0, 0, 0, 0] := by decide +kernel
/-- R120: a block whose greatest magnitude is 448 takes scale 127 in E4M3. -/
theorem test_block_scale : blockScale 3 0 [.num false 1 0, .num true 448 0] = 127 := by decide +kernel
/-- R154: the higher key first, the lower tag among equals, NaN never. -/
theorem test_top_k :
    (offer 2 (0x40000000, 9) (offer 2 (0x40000000, 3) (offer 2 (0x7FC00000, 1) (offer 2 (0x3F800000, 0) [])))) =
      [(0x40000000, 3), (0x40000000, 9)] := by decide +kernel

/-! ## Steps on small states -/

def after (o : Out) : State := match o with | .next t => t | _ => State.reset

/-- An empty queue idles: a block that has just been reset stays as it is. -/
theorem test_idle : after (step State.reset) = State.reset := by decide +kernel
/-- The front command runs, the rest waits. -/
theorem test_step_front : (after (step { lit with pending := [.logDropPoll, .heartbeat] })).pending = [.heartbeat] := by decide +kernel
/-- R59: a signal adds to its semaphore; one beyond the top leaves the top. -/
theorem test_signal : (after (exec (.signalArrival 0 7 false 0 false 5) lit)).sems = [(7, 5)] := by decide +kernel
theorem test_signal_saturates :
    (after (exec (.signalArrival 0 7 false 0 false 5) { lit with sems := [(7, 0xFFFFFFFD)] })).sems = [(7, 0xFFFFFFFF)] := by decide +kernel
/-- R396: a ping on a management port is answered; on a dark block nothing happens. -/
theorem test_ping_answered : (after (exec (.ioapPing .mgt0 [] 7) lit)).out.length = 1 ∧ (after (exec (.ioapPing .mgt0 [] 7) State.reset)).out = [] := by decide +kernel
/-- R36: FRAME_CYCLES of facet 0 reads its default of 12,000; an index that no row has gives status 5. -/
theorem test_read_default : objRead lit .mgt0 0x2000 1 = (0, leBytes 2 12000) ∧ (objRead lit .mgt0 0x2FFF 0).1 = 5 := by decide +kernel
/-- R27: 4,250 is no multiple of 500, 48,500 too long; 16,000 is taken while the facet is READY, not while ACTIVE. -/
theorem test_frame_cycles_range :
    [4250, 48500, 16000].map (fun n => writeStatus (facetIn 0 { state := 2 }) .mgt0 0x2000 1 (leBytes 2 n)) = [2, 2, 0] := by decide +kernel
theorem test_frame_cycles_active : writeStatus (facetIn 0 { state := 3 }) .mgt0 0x2000 1 (leBytes 2 16000) = 1 := by decide +kernel
/-- R37: the last enabled facet stays enabled. -/
theorem test_facet_enable :
    writeStatus { lit with mg.num := [(objKey 0x2007 1, 0), (objKey 0x2007 2, 0), (objKey 0x2007 3, 0)] } .mgt0 0x2007 4 [0] = 2 ∧
      writeStatus lit .mgt0 0x2007 4 [0] = 0 := by decide +kernel
/-- R399: HST may not write FACET_ENABLE, and an index that no row has is status 5. -/
theorem test_write_rights : writeStatus hosted .hd0 0x2007 1 [0] = 4 ∧ (writeStatus lit .mgt0 0x2FFF 0 [0]) = 5 := by decide +kernel
/-- Reset: no time has passed, no command waits, facets are OFF. -/
theorem test_reset_values : State.reset.time = 0 ∧ State.reset.pending = [] ∧ (getFacet State.reset 0).state = 0 := by decide

/-! ## Witnesses: the conditions of each statement's clauses are met -/

/-- Two operands of one access each that lie apart: what the first touches the second does not. -/
theorem untouched {d : Desc} (h : d.iters = 1 ∧ offset (d.addrAt d.d 0) + d.unitD ≤ offset (d.addrAt d.b 0) ∨
    d.iters = 1 ∧ offset (d.addrAt d.b 0) + 4 ≤ offset (d.addrAt d.d 0)) :
    ∀ a, d.touches d.b 4 a → ¬ d.touches d.d d.unitD a := by
  rintro a ⟨n, hn, h1, h2⟩ ⟨m, hm, h3, h4⟩
  have hi : d.iters = 1 := h.elim (·.1) (·.1)
  have en : n = 0 := by omega
  have em : m = 0 := by omega
  subst en em
  omega

/-- What lies behind a descriptor's one access is not touched. -/
theorem far {d : Desc} {o : Opnd} {n a : Nat} (h : d.iters = 1) (g : offset (d.addrAt o 0) + n ≤ a) : ¬ d.touches o n a := by
  rintro ⟨m, hm, -, h2⟩
  have : m = 0 := by omega
  subst this
  omega

/-- Fibre 7 with lines 0 to 14 in calibration. -/
def lastLine : State :=
  oeIn 23 { state := 5, align := [(lineKey 7 15, 11)], rxMap := (List.range 15).map fun k => (lineKey 7 k, 0xFF) }
theorem otherLinesLost : ∀ lane k : Nat, lane < 16 → lineOf (getOe lastLine (23 : Oe)).rxMap 7 lane = some k → k ≠ 15 →
    lineLost (getOe lastLine (23 : Oe)) 7 k = true := by
  intro lane k hl hk hn
  have h : ∀ a < 16, ∀ b < 18, lineOf (getOe lastLine (23 : Oe)).rxMap 7 a = some b → b ≠ 15 →
      lineLost (getOe lastLine (23 : Oe)) 7 b = true := by decide +kernel
  exact h lane hl k (List.mem_range.1 (List.mem_of_find?_eq_some hk)) hk hn

theorem witness_StepRunsTheFrontCommand :
    (∃ (c : Instr) (rest : List Instr) (s : State), s.pending = c :: rest) ∧
    (∃ (s : State), s.pending = [] ∧ quiet s ∧ s.flash.fwNew = none ∧ s.hub.on = true) ∧
    (∃ (s : State), s.pending = [] ∧ quiet s ∧ s.flash.fwNew = none ∧ s.hub.on = false) :=
  ⟨⟨.heartbeat, [.powerDown true], { pending := [.heartbeat, .powerDown true] }, by decide +kernel⟩,
    ⟨lit, by refine ⟨rfl, quietOf rfl rfl rfl rfl rfl rfl rfl rfl rfl, rfl, rfl⟩⟩,
    ⟨State.reset, by refine ⟨rfl, quietOf rfl rfl rfl rfl rfl rfl rfl rfl rfl, rfl, rfl⟩⟩⟩

theorem witness_HubsPowerUpFailAndTakeOver :
    (∃ (i : PowerUpIn) (s : State), s.hub.on = false ∧ s.stored = true) ∧
    (∃ (s : State), hubUp s = true ∧ s.hub.hb1Primary = false) ∧
    (∃ (fatal : Bool) (s : State), hubUp s = true ∧ s.hub.hb1Primary = false ∧ s.hub.hb1Failed = false ∧
      s.stored = true) ∧
    (∃ (s : State), hubUp s = true ∧ s.hub.hb1Failed = false ∧ s.hub.hb0Failed = false ∧ s.stored = true) ∧
    (∃ (fatal : Bool) (s : State), hubUp s = true ∧ s.hub.hb1Primary = false ∧ s.hub.hb1Failed = false ∧
      s.stored = true ∧ fatal = false) :=
  ⟨⟨{}, State.reset, by decide +kernel⟩,
    ⟨lit, by decide +kernel⟩,
    ⟨true, lit, by decide +kernel⟩,
    ⟨lit, by decide +kernel⟩,
    ⟨false, lit, by decide +kernel⟩⟩

theorem witness_FacetsAndMemoriesComeUp :
    (∃ (s : State), s.hub.firmware = true ∧ s.hub.resumed = false ∧ flashOk s = false) ∧
    (∃ (site : SiteNo) (strap : Nat) (s : State), 98 ≤ site.val ∧ s.hub.on = true) ∧
    (∃ (d : Die) (lanes : List Nat) (s : State), (getCd s d).near = 1 ∧ badGroups 18 256 lanes = [] ∧ s.stored = true) ∧
    (∃ (d : Die) (s : State), (getCd s d).near = 2 ∧ s.stored = true) ∧
    (∃ (k : Die) (lanes : List Nat) (s : State), (getFd s k).state = 1 ∧ badGroups 36 32 lanes = [] ∧ s.stored = true) ∧
    (∃ (k : Die) (s : State), (getFd s k).state = 2 ∧ s.stored = true) ∧
    (∃ (d : Die) (dom : SpDomain) (s : State), (getFacet s (d / 8)).state ≠ 0 ∧ (getFacet s (d / 8)).state ≠ 4 ∧
      (if dom = .dual then (getCd s d).spDual else (getCd s d).spSingle) = 0 ∧ s.stored = true) ∧
    (∃ (d : Die) (dom : SpDomain) (s : State),
      (if dom = .dual then (getCd s d).spDual else (getCd s d).spSingle) = 1 ∧ s.stored = true) ∧
    (∃ (s : State), s.hub.firmware = true ∧ s.hub.resumed = false ∧ flashOk s = true ∧ s.stored = true ∧
      s.hub.hb0Failed = false) ∧
    (∃ (s : State), s.hub.firmware = true ∧ s.hub.resumed = false ∧ flashOk s = true ∧ s.stored = true ∧
      s.hub.hb1Failed = false) ∧
    (∃ (f : Facet) (s : State), s.hub.resumed = true ∧ s.hub.bothFailed = false ∧ s.pw.tripped = false ∧
      s.pw.supply < 2 ∧ nextPowered s = some f.val ∧ (getFacet s f).state = 0 ∧ waitCode s = 4 ∧ s.stored = true ∧
      s.hub.lastFacetOn = some 0) ∧
    (∃ (site : SiteNo) (f strap : Nat) (s : State), siteFacet site = some f ∧ facetPowered s f = true ∧
      site.val ∉ (getFacet s f).relatch) ∧
    (∃ (site : SiteNo) (f strap : Nat) (s : State), siteFacet site = some f ∧ facetPowered s f = true ∧
      site.val ∈ (getFacet s f).relatch ∧ s.stored = true) ∧
    (∃ (x : SiteNo) (f : Nat) (s : State), siteFacet x = some f ∧ facetPowered s f = true ∧ tget 0 s.straps x ≠ 0 ∧
      tget 0 s.admitted x ≠ 1 ∧ tget 0 s.held x = 0 ∧ portsPassed s x = true ∧ x.val ∉ (getFacet s f).relatch ∧
      admitStatus s [x] x = 0) ∧
    (∃ (x : SiteNo) (f : Nat) (s : State), siteFacet x = some f ∧ facetPowered s f = true ∧ tget 0 s.straps x ≠ 0 ∧
      tget 0 s.admitted x ≠ 1 ∧ tget 0 s.held x = 0 ∧ portsPassed s x = true ∧ x.val ∉ (getFacet s f).relatch ∧
      admitStatus s [x] x ≠ 0 ∧ s.stored = true) ∧
    (∃ (f : Facet) (s : State), (getFacet s f).rstStep = 2 ∧ s.stored = true ∧ numGet s oFacetEnable (f + 1) ≠ 0) ∧
    (∃ (f : Facet) (s : State), (getFacet s f).rstStep = 2 ∧ s.stored = true ∧ numGet s oFacetEnable (f + 1) = 0 ∧
      (getFacet s f).state = 1) ∧
    (∃ (d : Die) (lanes : List Nat) (s : State), (getCd s d).near = 1 ∧ badGroups 18 256 lanes ≠ [] ∧
      s.stored = true ∧ (getFacet s (d / 8)).state ≠ 0) ∧
    (∃ (k : Die) (lanes : List Nat) (s : State), (getFd s k).state = 1 ∧ badGroups 36 32 lanes ≠ [] ∧
      s.stored = true ∧ (getFacet s (k / 8)).state ≠ 0) :=
  ⟨⟨{ hub := { on := true, firmware := true }, pw := { temp := [(96, 9501)] } }, by decide +kernel⟩,
    ⟨98, 0xA0, lit, by decide +kernel⟩,
    ⟨31, [4607], cdIn 31 { near := 1 }, by decide +kernel⟩,
    ⟨31, cdIn 31 { near := 2 }, by decide +kernel⟩,
    ⟨31, [1151], fdIn 31 { state := 1 }, by decide +kernel⟩,
    ⟨31, fdIn 31 { state := 2 }, by decide +kernel⟩,
    ⟨31, .dual, facetIn 3 { state := 2 }, by decide +kernel⟩,
    ⟨31, .single, cdIn 31 { spSingle := 1 }, by decide +kernel⟩,
    ⟨{ hub := { on := true, firmware := true } }, by decide +kernel⟩,
    ⟨{ hub := { on := true, firmware := true } }, by decide +kernel⟩,
    ⟨3, { lit with hub.nextFacet := 3, hub.lastFacetOn := some 0 }, by decide +kernel⟩,
    ⟨95, 3, 0x77, facetIn 3 { state := 4 }, by decide +kernel⟩,
    ⟨95, 3, 0x77, facetIn 3 { state := 1, relatch := [95] }, by decide +kernel⟩,
    ⟨31, 3, { facetIn 3 { state := 4 } with straps := [(31, 32)] }, by decide +kernel⟩,
    ⟨31, 3, { facetIn 3 { state := 4 } with straps := [(31, 31)] }, by decide +kernel⟩,
    ⟨0, facetIn 0 { state := 1, rstStep := 2 }, by decide +kernel⟩,
    ⟨3, { facetIn 3 { state := 1, rstStep := 2 } with mg.num := [(objKey oFacetEnable 4, 0)] }, by decide +kernel⟩,
    ⟨31, [4590, 4607], { cdIn 31 { near := 1 } with facets := [(3, { state := 1 })] }, by decide +kernel⟩,
    ⟨31, [1116, 1151], { fdIn 31 { state := 1 } with facets := [(3, { state := 1 })] }, by decide +kernel⟩⟩

theorem witness_PackageLinksTrainFailAndCarryFlits :
    (∃ (l : LinkNo) (e : Dir) (failing redundant : Nat) (s : State), (getLink s l).state = 1 ∧ failing ≤ redundant ∧
      s.stored = true) ∧
    (∃ (p : Path) (l : LinkNo) (kind : Nat) (s : State), accepts s p oPkgLinkTest 0 [byte l, byte kind] = true ∧
      s.stored = true) ∧
    (∃ (l : LinkNo) (d : Dir) (b : List Byte) (s : State), (getLink s l).state = 3 ∧ flitGood b = false ∧
      (getDir s (dirKey_ l d)).discarding = true) ∧
    (∃ (l : LinkNo) (d : Dir) (q : Nat) (s : State), (getLink s l).state = 3 ∧
      ((getDir s (dirKey_ l d)).resendSeq ≠ q ∨ (getDir s (dirKey_ l d)).resends < 7) ∧ s.stored = true) ∧
    (∃ (l : LinkNo) (d : Dir) (q : Nat) (s : State), (getLink s l).state = 3 ∧
      (getDir s (dirKey_ l d)).resendSeq = q ∧ 7 ≤ (getDir s (dirKey_ l d)).resends ∧ s.stored = true) ∧
    (∃ (l : LinkNo) (e : Dir) (failing redundant : Nat) (s : State), (getLink s l).state = 1 ∧ redundant < failing ∧
      s.stored = true ∧ (getFacet s 0).state ≠ 0 ∧ 0 ∈ linkFacets l) ∧
    (∃ (l : LinkNo) (repairs : Nat) (s : State), (getLink s l).state = 2 ∧ wall s < (getLink s l).since + 4000000 ∧
      s.stored = true ∧ repairs = 0) ∧
    (∃ (l : LinkNo) (s : State), (getLink s l).state = 4 ∧ s.stored = true) ∧
    (∃ (l : LinkNo) (s : State), ((getLink s l).state = 1 ∨ (getLink s l).state = 2) ∧ s.stored = true ∧
      (getFacet s 0).state ≠ 0 ∧ 0 ∈ linkFacets l) ∧
    (∃ (l : LinkNo) (d : Dir) (b : List Byte) (s : State), (getLink s l).state = 3 ∧ flitGood b = true ∧
      flitSeq b = (getDir s (dirKey_ l d)).expSeq ∧ (getDir s (dirKey_ l d)).early = [] ∧ s.stored = true ∧
      (getDir s (dirKey_ l (back d))).isOut (flitAck b) = true) ∧
    (∃ (l : LinkNo) (d : Dir) (b : List Byte) (s : State), (getLink s l).state = 3 ∧ flitGood b = true ∧
      flitSeq b = (getDir s (dirKey_ l d)).expSeq ∧ (getDir s (dirKey_ l d)).early = [] ∧ s.stored = true ∧
      (takeAck (flitAck b) (getDir s (dirKey_ l (back d)))).outstanding < 4095) ∧
    (∃ (l : LinkNo) (d : Dir) (b : List Byte) (s : State), (getLink s l).state = 3 ∧ flitGood b = true ∧
      0 < (flitSeq b + 4096 - (getDir s (dirKey_ l d)).expSeq) % 4096 ∧
      (flitSeq b + 4096 - (getDir s (dirKey_ l d)).expSeq) % 4096 < (getLink s l).modules ∧ s.stored = true) ∧
    (∃ (l : LinkNo) (d : Dir) (b : List Byte) (s : State), (getLink s l).state = 3 ∧ flitGood b = false ∧
      (getDir s (dirKey_ l d)).discarding = false ∧ s.stored = true ∧
      (getDir s (dirKey_ l (back d))).outstanding < 4095) ∧
    (∃ (l : LinkNo) (d : Dir) (s : State), (getLink s l).state = 3 ∧ (getDir s (dirKey_ l d)).outstanding ≠ 0 ∧
      s.stored = true) ∧
    (∃ (l : LinkNo) (modules repairs : Nat) (s : State), (getLink s l).state = 2 ∧ (modules ≠ linkModules l ∨
      (getLink s l).since + 4000000 ≤ wall s) ∧ s.stored = true ∧ (getFacet s 0).state ≠ 0 ∧ 0 ∈ linkFacets l) ∧
    (∃ (l : LinkNo) (modules repairs : Nat) (s : State), (getLink s l).state = 2 ∧ (modules ≠ linkModules l ∨
      (getLink s l).since + 4000000 ≤ wall s) ∧ s.stored = true ∧ (getFacet s 0).state ≠ 0 ∧ 0 ∈ linkFacets l) ∧
    (∃ (l : LinkNo) (s : State), (getLink s l).state = 4 ∧ wall s < (getLink s l).since + 10000 ∧ s.stored = true) ∧
    (∃ (l : LinkNo) (ok : Bool) (s : State), (getLink s l).state = 4 ∧ (ok = false ∨
      (getLink s l).since + 10000 ≤ wall s) ∧ (getLink s l).failedRetrains < 2 ∧ s.stored = true) ∧
    (∃ (l : LinkNo) (ok : Bool) (s : State), (getLink s l).state = 4 ∧ (ok = false ∨
      (getLink s l).since + 10000 ≤ wall s) ∧ (getLink s l).failedRetrains < 2 ∧ s.stored = true) ∧
    (∃ (l : LinkNo) (ok : Bool) (s : State), (getLink s l).state = 4 ∧ (ok = false ∨
      (getLink s l).since + 10000 ≤ wall s) ∧ 2 ≤ (getLink s l).failedRetrains ∧ s.stored = true ∧
      (getFacet s 0).state ≠ 0 ∧ 0 ∈ linkFacets l) ∧
    (∃ (l : LinkNo) (s : State), (getLink s l).state = 4 ∧ 2 ≤ (getLink s l).failedRetrains ∧ s.stored = true) ∧
    (∃ (l : LinkNo) (s : State), (getLink s l).state = 4 ∧ (getLink s l).failedRetrains < 2 ∧ s.stored = true) :=
  ⟨⟨139, .rev, 2, 2, linkIn 139 { state := 1 }, by decide +kernel⟩,
    ⟨.svc, 139, 2, { lit with sec.lc := 7 }, by decide +kernel⟩,
    ⟨0, .rev, [], { linkIn 0 { state := 3 } with dirs := [(1, { discarding := true })] }, by decide +kernel⟩,
    ⟨0, .fwd, 0, { linkIn 0 { state := 3 } with dirs := [(0, { resends := 6 })] }, by decide +kernel⟩,
    ⟨0, .fwd, 0, { linkIn 0 { state := 3 } with dirs := [(0, { resends := 7 })] }, by decide +kernel⟩,
    ⟨0, .fwd, 3, 2, { linkIn 0 { state := 1 } with facets := [(0, { state := 1 })] }, by decide +kernel⟩,
    ⟨139, 0, { linkIn 139 { state := 2 } with time := 3 * 3999999 }, by decide +kernel⟩,
    ⟨139, linkIn 139 { state := 4 }, by decide +kernel⟩,
    ⟨0, { linkIn 0 { state := 2 } with facets := [(0, { state := 1 })] }, by decide +kernel⟩,
    ⟨0, .fwd, flitOf (List.replicate 248 0), { linkIn 0 { state := 3 } with dirs := [(1, { nextSeq := 1 })] },
      by decide +kernel⟩,
    ⟨0, .rev, flitOf (List.replicate 248 0), linkIn 0 { state := 3 }, by decide +kernel⟩,
    ⟨0, .fwd, flitOf (leBytes 4 (2 ^ 20) ++ List.replicate 244 0), linkIn 0 { state := 3, modules := 2 },
      by decide +kernel⟩,
    ⟨0, .fwd, [], linkIn 0 { state := 3 }, by decide +kernel⟩,
    ⟨0, .fwd, { linkIn 0 { state := 3 } with dirs := [(0, { oldest := 4095 })] }, by decide +kernel⟩,
    ⟨0, 0, 0, { linkIn 0 { state := 2 } with facets := [(0, { state := 1 })] }, by decide +kernel⟩,
    ⟨0, 3, 0, { linkIn 0 { state := 2 } with facets := [(0, { state := 1 })], time := 3 * 4000000 },
      by decide +kernel⟩,
    ⟨139, { linkIn 139 { state := 4 } with time := 3 * 9999 }, by decide +kernel⟩,
    ⟨139, false, linkIn 139 { state := 4, failedRetrains := 1 }, by decide +kernel⟩,
    ⟨139, true, { linkIn 139 { state := 4, failedRetrains := 1 } with time := 3 * 10000 }, by decide +kernel⟩,
    ⟨0, false, { linkIn 0 { state := 4, failedRetrains := 2 } with facets := [(0, { state := 1 })] },
      by decide +kernel⟩,
    ⟨139, linkIn 139 { state := 4, failedRetrains := 2 }, by decide +kernel⟩,
    ⟨139, linkIn 139 { state := 4, failedRetrains := 1 }, by decide +kernel⟩⟩

theorem witness_FramesOpenHoldAndOverrun :
    (∃ (f : Facet) (m : TickMeasure) (s : State), s.hub.bothFailed = false ∧ (getFacet s f).state = 1 ∧
      facetReady s f = true ∧ s.stored = true) ∧
    (∃ (d : Die) (e : Engine) (y : InFlight) (s : State) (a : Nat), ticking (getFacet s (d / 8)) = true ∧
      ((getEngine s d (engCode e)).fly.find? (fun y => !canRetire y y.deadline ∧
      decide (y.deadline + 1 < (getFacet s (d / 8)).cycBase + (getFacet s (d / 8)).frameCycles)) = some y) ∧
      s.stored = true ∧ (¬ logged s d a)) ∧
    (∃ (f : Facet) (m : TickMeasure) (s : State), s.hub.bothFailed = false ∧ ticking (getFacet s f) = true ∧
      (getFacet s f).atTick = none ∧ tickLater s f = false ∧ s.stored = true ∧ (getFacet s f).join = 0 ∧
      (∀ e ∈ s.ctxs, e.2.state ≠ 2)) ∧
    (∃ (f : Facet) (m : TickMeasure) (t0 : Nat) (s : State), s.hub.bothFailed = false ∧
      ticking (getFacet s f) = true ∧ (getFacet s f).atTick = some t0 ∧ tickLater s f = false ∧ (∀ g ∈ tickGroup s f,
      (getFacet s g).atTick.isSome = true) ∧ s.stored = true) ∧
    (∃ (f : Facet) (m : TickMeasure) (s : State), s.hub.bothFailed = false ∧ ticking (getFacet s f) = true ∧
      (tickLater s f = true ∨ ((getFacet s f).atTick.isSome = true ∧ ∃ g ∈ tickGroup s f,
      (getFacet s g).atTick = none))) ∧
    (∃ (f : Facet) (m : TickMeasure) (s : State), s.hub.bothFailed = false ∧ ticking (getFacet s f) = true ∧
      (tickLater s f = true ∨ ((getFacet s f).atTick.isSome = true ∧ ∃ g ∈ tickGroup s f,
      (getFacet s g).atTick = none))) ∧
    (∃ (f : Facet) (s : State), ticking (getFacet s f) = true ∧ (getFacet s f).atTick = none ∧ tickGroup s f ≠ [] ∧
      s.stored = true) ∧
    (∃ (d : Die) (s : State) (a : Nat), logged s d a) :=
  ⟨⟨0, {}, ready0, by decide +kernel⟩,
    ⟨0, .ma0, { deadline := 11998 }, flight 0 { deadline := 11998 }, 0,
      by refine ⟨by decide +kernel, by decide +kernel, by decide +kernel, unlogged rfl rfl⟩⟩,
    ⟨0, {}, facetIn 0 { state := 2 }, by decide +kernel⟩,
    ⟨0, {}, 36000, { lit with facets := [(0, { state := 2, join := 3, atTick := some 36000 }), (1, { state := 2,
                                                                                                     join := 3,
                                                                                                     atTick := some 36000 })]
                              }, by decide +kernel⟩,
    ⟨0, {}, { lit with facets := [(0, { state := 2, join := 3 }), (1, { state := 2 })] }, by decide +kernel⟩,
    ⟨0, {}, { lit with facets := [(0, { state := 2, join := 3, atTick := some 36000 }), (1, { state := 2,
                                                                                              join := 3 })] },
      by decide +kernel⟩,
    ⟨0, { lit with facets := [(0, { state := 2, join := 3 }), (1, { state := 2, join := 3 })] }, by decide +kernel⟩,
    ⟨0, cdIn 0 { acc := [{ cyc := 0, rank := 0, write := true, addr := 5, len := 1, old := [1] }] }, 5,
      by refine ⟨_, .inl (List.mem_singleton.2 rfl), ?_, ?_⟩ <;> decide +kernel⟩⟩

theorem witness_DescriptorsAreFetchedIssuedAndRetired :
    (∃ (d : Die) (e : Engine) (sl : Slot) (cycle i : Nat) (s u : State), u = toCycle (d / 8) cycle s ∧
      (getStream u d (engCode e) (slotCode sl)).fetch = some i ∧ ticking (getFacet u (d / 8)) = true ∧
      boundCtx u (d / 8) (slotCode sl) ≠ 0 ∧ (getCtx u (boundCtx u (d / 8) (slotCode sl))).state ≠ 5 ∧
      (getStream u d (engCode e) (slotCode sl)).haltWord = 0 ∧
      (getStream u d (engCode e) (slotCode sl)).window.length < 16 ∧
      (getFacet u (d / 8)).cyc < (getFacet u (d / 8)).frameCycles ∧
      (∀ w ∈ (getStream u d (engCode e) (slotCode sl)).window, w.eligible < absCycle u (d / 8) + 4) ∧ s.stored = true) ∧
    (∃ (d : Die) (e : Engine) (cycle : Nat) (x : InFlight) (s u : State), u = toCycle (d / 8) cycle s ∧
      (getEngine u d (engCode e)).fly.find? (fun x => canRetire x (absCycle u (d / 8))) = some x ∧ s.stored = true) ∧
    (∃ (d : Die) (e : Engine) (x : InFlight) (s : State), nextExec s d (engCode e) 0xF1 = some x ∧ s.stored = true) ∧
    (∃ (d : Die) (e : Engine) (cycle stalls slot : Nat) (w : WinEntry) (rest : List WinEntry) (s u : State),
      u = toCycle (d / 8) cycle s ∧ ticking (getFacet u (d / 8)) = true ∧
      slot = (if freeFrame u d (engCode e) then 1 else 0) ∧
      (getEngine u d (engCode e)).lastIssue ≠ absCycle u (d / 8) + 1 ∧ boundCtx u (d / 8) slot ≠ 0 ∧
      (getCtx u (boundCtx u (d / 8) slot)).state = 3 ∧ (getStream u d (engCode e) slot).haltWord = 0 ∧
      (getEngine u d (engCode e)).fly.length < flyLimit (engCode e) ∧
      (getFacet u (d / 8)).cyc < (getFacet u (d / 8)).frameCycles ∧ u.hub.bothFailed = false ∧
      pick (reserveLower d (engCode e) u) d (engCode e) false (getStream u d (engCode e) slot).window = some (w,
      rest) ∧ s.stored = true) ∧
    (∃ (d : Die) (e : Engine) (x : InFlight) (s : State), nextExec s d (engCode e) 0xF0 = some x ∧
      absCycle s (d / 8) ≠ x.issue) ∧
    (∃ (d : Die) (e : Engine) (x : InFlight) (s : State), nextExec s d (engCode e) 0xF0 = some x ∧
      absCycle s (d / 8) = x.issue ∧ s.stored = true) :=
  ⟨⟨0, .ma0, .primary, 0, 2, { boundOne with streams := [(streamKey 0 0 0, { fetch := some 2 })] }, _,
      by refine ⟨rfl, ?_⟩; decide +kernel⟩,
    ⟨0, .ma0, 0, { executed := true }, flight 0 { executed := true }, _, by refine ⟨rfl, ?_⟩; decide +kernel⟩,
    ⟨0, .nbc, opFly 0xF1, flight 7 (opFly 0xF1), by decide +kernel⟩,
    ⟨0, .vu, 0, 0, 0, { desc := { budget := 11999 } }, [], { boundOne with streams := [(streamKey 0 2 0,
                                                                           { window := [{ desc := { budget := 11999 } }]
                                                                             })] }, _,
      by and_intros <;> first | decide +kernel | rfl⟩,
    ⟨0, .nbc, { opFly 0xF0 with issue := 1 }, flight 7 { opFly 0xF0 with issue := 1 }, by decide +kernel⟩,
    ⟨0, .nbc, opFly 0xF0, flight 7 (opFly 0xF0), by decide +kernel⟩⟩

theorem witness_SwapsAndSignals :
    (∃ (hd : Hd) (d : Die) (tag : Nat) (s : State), (getCd s d).pendingSwap = true) ∧
    (∃ (hd : Hd) (d : Die) (tag : Nat) (s : State), (getCd s d).pendingSwap = false ∧ s.stored = true) ∧
    (∃ (d : Die) (sem code value : Nat) (set remote : Bool) (s : State), sem < 512 ∧
      ticking (getFacet s (d / 8)) = true ∧ s.stored = true) ∧
    (∃ (d : Die) (sem code value : Nat) (set remote : Bool) (s : State), sem < 512 ∧
      ticking (getFacet s (d / 8)) = false ∧ (getCd s d).semEv = [] ∧ s.stored = true) ∧
    (∃ (hd : Hd) (d : Die) (tag : Nat) (s u : State), u = syncFacet (d / 8) (hostOpen hd (dmemCtrlAt d) tag s) ∧
      s.stored = true) ∧
    (∃ (d : Die) (r : SwapReq) (rest : List SwapReq) (s : State), (getCd s d).swapReqs = r :: rest ∧
      (∃ w ∈ halfWrites s d, w ∈ r.before)) ∧
    (∃ (d : Die) (r : SwapReq) (rest : List SwapReq) (s u : State), (getCd s d).swapReqs = r :: rest ∧
      u = (if r.fromHost then syncFacet (d / 8) s else s) ∧ (∀ w ∈ halfWrites s d, w ∉ r.before) ∧
      (getCd s d).pendingSwap = false ∧ headerCheck u d (1 - (getCd s d).active) = 0 ∧ s.stored = true ∧
      r.fromHost = true) ∧
    (∃ (d : Die) (r : SwapReq) (rest : List SwapReq) (s u : State), (getCd s d).swapReqs = r :: rest ∧
      u = (if r.fromHost then syncFacet (d / 8) s else s) ∧ (∀ w ∈ halfWrites s d, w ∉ r.before) ∧
      (getCd s d).pendingSwap = false ∧ headerCheck u d (1 - (getCd s d).active) = 0 ∧ s.stored = true ∧
      r.fromHost = false) ∧
    (∃ (d : Die) (r : SwapReq) (rest : List SwapReq) (s u : State), (getCd s d).swapReqs = r :: rest ∧
      u = syncFacet (d / 8) s ∧ (∀ w ∈ halfWrites s d, w ∉ r.before) ∧ (getCd s d).pendingSwap = false ∧
      headerCheck u d (1 - (getCd s d).active) ≠ 0 ∧ r.fromHost = true ∧ s.stored = true) ∧
    (∃ (hd : Hd) (off tag die half o : Nat) (data : List Byte) (s : State), dmemWhole off data = true ∧
      region off = .dmem die half o ∧ dmemSealed s die half = false ∧ s.stored = true) ∧
    (∃ (hd : Hd) (off tag die half o : Nat) (data : List Byte) (s : State), dmemWhole off data = true ∧
      region off = .dmem die half o ∧ dmemSealed s die half = true) ∧
    (∃ (hd : Hd) (off tag : Nat) (data : List Byte) (s : State), dmemWhole off data = false ∧ s.stored = true) :=
  ⟨⟨1, 31, 255, cdIn 31 { pendingSwap := true }, by decide +kernel⟩,
    ⟨1, 31, 255, lit, by decide +kernel⟩,
    ⟨31, 511, 15, 1, true, true, facetIn 3 { state := 2 }, by decide +kernel⟩,
    ⟨31, 511, 15, 1, true, true, lit, by decide +kernel⟩,
    ⟨1, 31, 255, facetIn 3 { state := 2 }, _, by and_intros <;> first | decide +kernel | rfl⟩,
    ⟨0, { before := [(0x80, 3)] }, [], { cdIn 0 { swapReqs := [{ before := [(0x80, 3)] }] } with net := [{ op := 2,
                                                                                                           src := 0x80,
                                                                                                           tag := 3,
                                                                                                           addr := dmemBase 0 1 }]
                                                                                                 }, by decide +kernel⟩,
    ⟨0, { fromHost := true }, [], { cdIn 0 { swapReqs := [{ fromHost := true }] } with mem := [(dmemBase 0 1 + 2, 1),
                                                                                       (dmemBase 0 1 + 4, 2)] }, _,
      by and_intros <;> first | decide +kernel | rfl⟩,
    ⟨0, { before := [(0x80, 3)] }, [], { cdIn 0 { swapReqs := [{ before := [(0x80, 3)] }] } with
      mem := [(dmemBase 0 1 + 2, 1), (dmemBase 0 1 + 4, 2)], net := [{ op := 2, src := 0x80, tag := 4,
                                                                       addr := dmemBase 0 1 }] }, _,
      by and_intros <;> first | decide +kernel | rfl⟩,
    ⟨0, { fromHost := true }, [], cdIn 0 { swapReqs := [{ fromHost := true }] }, _,
      by and_intros <;> first | decide +kernel | rfl⟩,
    ⟨1, dmemBase 31 1 + 0xFFFF8, 0, 31, 1, 0xFFFF8, List.replicate 8 1, lit, by decide +kernel⟩,
    ⟨1, dmemBase 31 0, 0, 31, 0, 0, List.replicate 128 1, lit, by decide +kernel⟩,
    ⟨1, dmemBase 0 0 + 0xFFFF8, 0, List.replicate 16 1, lit, by decide +kernel⟩⟩

theorem witness_RemoteCopiesInjectMachinePackets :
    (∃ (d : Die) (ce : Ce) (c : Instr) (op : Nat) (s : State) (x : InFlight), (c, op) ∈ [(Instr.put d ce, 0x90),
      (.putFlag d ce, 0x91), (.get d ce, 0x92), (.load d ce, 0x93), (.ratom d ce, 0x94)] ∧
      nextExec s d (3 + ce) op = some x ∧ remoteHeld s d x.desc = false ∧ s.stored = true ∧ (plainRun s x = true ∧
      unhindered s d x = true ∧ x.fresh = true ∧ (∀ n, n < x.desc.iters →
      region (offset (x.desc.addrAt x.desc.a n)) = .near 0 ∧
      region (offset (x.desc.addrAt x.desc.a n) + x.desc.unitA - 1) = .near 0)) ∧ injIdle s ∧ x.desc.iters = 1 ∧
      (∀ e ∈ remoteEvs x, e.cyc ≤ x.deadline) ∧ nextDir s (x.desc.remoteNode s) = some (0, false) ∧ (∀ oe, oe < 24 →
      passes s 0x20 d oe)) ∧
    (∃ (d : Die) (ce : Ce) (c : Instr) (op : Nat) (s : State) (x : InFlight), (c, op) ∈ [(Instr.put d ce, 0x90),
      (.putFlag d ce, 0x91), (.get d ce, 0x92), (.load d ce, 0x93), (.ratom d ce, 0x94)] ∧
      nextExec s d (3 + ce) op = some x ∧ remoteHeld s d x.desc = false ∧ s.stored = true ∧ (plainRun s x = true ∧
      unhindered s d x = true ∧ x.fresh = true ∧ (∀ n, n < x.desc.iters →
      region (offset (x.desc.addrAt x.desc.a n)) = .near 0 ∧
      region (offset (x.desc.addrAt x.desc.a n) + x.desc.unitA - 1) = .near 0)) ∧ injIdle s ∧ x.desc.iters = 1 ∧
      (∀ e ∈ remoteEvs x, e.cyc ≤ x.deadline) ∧ nextDir s (x.desc.remoteNode s) = some (0, false) ∧ (∀ oe, oe < 24 →
      passes s 0x20 d oe)) ∧
    (∃ (d : Die) (ce : Ce) (c : Instr) (op : Nat) (s : State) (x : InFlight), (c, op) ∈ [(Instr.put d ce, 0x90),
      (.putFlag d ce, 0x91), (.get d ce, 0x92), (.load d ce, 0x93), (.ratom d ce, 0x94)] ∧
      nextExec s d (3 + ce) op = some x ∧ remoteHeld s d x.desc = false ∧ s.stored = true ∧ (plainRun s x = true ∧
      unhindered s d x = true ∧ x.fresh = true ∧ (∀ n, n < x.desc.iters →
      region (offset (x.desc.addrAt x.desc.a n)) = .near 0 ∧
      region (offset (x.desc.addrAt x.desc.a n) + x.desc.unitA - 1) = .near 0)) ∧ injIdle s ∧ x.desc.iters = 1 ∧
      (∀ e ∈ remoteEvs x, e.cyc ≤ x.deadline) ∧ nextDir s (x.desc.remoteNode s) = some (0, false) ∧ (∀ oe, oe < 24 →
      passes s 0x21 d oe)) ∧
    (∃ (d : Die) (ce : Ce) (c : Instr) (op : Nat) (s : State) (x : InFlight), (c, op) ∈ [(Instr.put d ce, 0x90),
      (.putFlag d ce, 0x91), (.get d ce, 0x92), (.load d ce, 0x93), (.ratom d ce, 0x94)] ∧
      nextExec s d (3 + ce) op = some x ∧ remoteHeld s d x.desc = false ∧ s.stored = true ∧ (plainRun s x = true ∧
      unhindered s d x = true ∧ x.fresh = true ∧ (∀ n, n < x.desc.iters →
      region (offset (x.desc.addrAt x.desc.a n)) = .near 0 ∧
      region (offset (x.desc.addrAt x.desc.a n) + x.desc.unitA - 1) = .near 0)) ∧ injIdle s ∧ x.desc.iters = 1 ∧
      (∀ e ∈ remoteEvs x, e.cyc ≤ x.deadline) ∧ nextDir s (x.desc.remoteNode s) = some (0, false) ∧ (∀ oe, oe < 24 →
      passes s 0x22 d oe)) ∧
    (∃ (d : Die) (ce : Ce) (c : Instr) (op : Nat) (s : State) (x : InFlight), (c, op) ∈ [(Instr.put d ce, 0x90),
      (.putFlag d ce, 0x91), (.get d ce, 0x92), (.load d ce, 0x93), (.ratom d ce, 0x94)] ∧
      nextExec s d (3 + ce) op = some x ∧ remoteHeld s d x.desc = false ∧ s.stored = true ∧ (plainRun s x = true ∧
      unhindered s d x = true ∧ x.fresh = true ∧ (∀ n, n < x.desc.iters →
      region (offset (x.desc.addrAt x.desc.a n)) = .near 0 ∧
      region (offset (x.desc.addrAt x.desc.a n) + x.desc.unitA - 1) = .near 0)) ∧ injIdle s ∧ x.desc.iters = 1 ∧
      (∀ e ∈ remoteEvs x, e.cyc ≤ x.deadline) ∧ nextDir s (x.desc.remoteNode s) = some (0, false) ∧ (∀ oe, oe < 24 →
      passes s 0x23 d oe)) :=
  ⟨⟨0, 0, .put 0 0, 144, openAll (runIn 3 (farFly 144 0)), farFly 144 0,
      by refine ⟨by simp, by decide +kernel, by decide +kernel, by decide +kernel, by decide +kernel, idleOf rfl rfl,
           by decide +kernel, by decide +kernel, by decide +kernel, by unfold passes; decide +kernel⟩⟩,
    ⟨0, 0, .putFlag 0 0, 145, openAll (runIn 3 (farFly 145 0)), farFly 145 0,
      by refine ⟨by simp, by decide +kernel, by decide +kernel, by decide +kernel, by decide +kernel, idleOf rfl rfl,
           by decide +kernel, by decide +kernel, by decide +kernel, by unfold passes; decide +kernel⟩⟩,
    ⟨0, 0, .get 0 0, 146, openAll (runIn 3 (farFly 146 0)), farFly 146 0,
      by refine ⟨by simp, by decide +kernel, by decide +kernel, by decide +kernel, by decide +kernel, idleOf rfl rfl,
           by decide +kernel, by decide +kernel, by decide +kernel, by unfold passes; decide +kernel⟩⟩,
    ⟨0, 0, .load 0 0, 147, openAll (runIn 3 (farFly 147 0)), farFly 147 0,
      by refine ⟨by simp, by decide +kernel, by decide +kernel, by decide +kernel, by decide +kernel, idleOf rfl rfl,
           by decide +kernel, by decide +kernel, by decide +kernel, by unfold passes; decide +kernel⟩⟩,
    ⟨0, 0, .ratom 0 0, 148, openAll (runIn 3 (farFly 148 8)), farFly 148 8,
      by refine ⟨by simp, by decide +kernel, by decide +kernel, by decide +kernel, by decide +kernel, idleOf rfl rfl,
           by decide +kernel, by decide +kernel, by decide +kernel, by unfold passes; decide +kernel⟩⟩⟩

theorem witness_FencesArmCompleteAndExpire :
    (∃ (d : Die) (ce : Ce) (s : State) (x : InFlight), nextExec s d (3 + ce) 0x95 = some x ∧ s.stored = true) ∧
    (∃ (d : Die) (sl : Slot) (s : State), s.stored = true ∧ (∀ f ∈ ((tget []
      s.fences (fenceKey d (slotCode sl))).filter (fun f => f.clearAt.isSome)), f.inTime = true) ∧
      (tget {} s.latches (fenceKey d (slotCode sl))).status = 0 ∧ ticking (getFacet s (d / 8)) = true ∧ tget []
      s.fences (fenceKey d (slotCode sl)) ≠ []) ∧
    (∃ (d : Die) (sl : Slot) (s : State) (f : Fence) (rest : List Fence), s.stored = true ∧ ((tget []
      s.fences (fenceKey d (slotCode sl))).filter (fun f => f.clearAt.isSome)) = f :: rest ∧ (∀ g ∈ ((tget []
      s.fences (fenceKey d (slotCode sl))).filter (fun f => f.clearAt.isSome)), g.inTime = true) ∧
      (tget {} s.latches (fenceKey d (slotCode sl))).status ≠ 0 ∧ f.ctx ≠ 0 ∧ (getCtx s f.ctx).state = 3 ∧
      (getCtx s f.ctx).gen = f.gen) ∧
    (∃ (d : Die) (sl : Slot) (s : State) (f : Fence), s.stored = true ∧ ((tget []
      s.fences (fenceKey d (slotCode sl))).filter (fun f => f.clearAt.isSome)) = [f] ∧ f.inTime = false ∧ f.ctx ≠ 0 ∧
      (getCtx s f.ctx).state = 3 ∧ (getCtx s f.ctx).gen = f.gen) ∧
    (∃ (d : Die) (sl : Slot) (s : State), (∀ f ∈ tget [] s.fences (fenceKey d (slotCode sl)), f.inTime = true)) ∧
    (∃ (d : Die) (sl : Slot) (f : Fence) (s : State), f ∈ tget [] s.fences (fenceKey d (slotCode sl)) ∧
      f.inTime = false ∧ f.ctx ≠ 0 ∧ (getCtx s f.ctx).state = 3 ∧ (getCtx s f.ctx).gen = f.gen ∧ s.stored = true) :=
  ⟨⟨0, 0, flight 3 (opFly 0x95), opFly 0x95, by decide +kernel⟩,
    ⟨0, .primary, { boundOne with fences := [(0, [{ ctx := 1, gen := 1, timeout := 1, clearAt := some 999 }])] },
      by decide +kernel⟩,
    ⟨0, .primary, { boundOne with fences := [(0, [{ ctx := 1, gen := 1, timeout := 1, clearAt := some 999 }])],
                                  latches := [(0, { status := 1 })] }, { ctx := 1, gen := 1, timeout := 1,
                                                                         clearAt := some 999 }, [], by decide +kernel⟩,
    ⟨0, .primary, { boundOne with fences := [(0, [{ ctx := 1, gen := 1, timeout := 1, clearAt := some 1000 }])] },
      { ctx := 1, gen := 1, timeout := 1, clearAt := some 1000 }, by decide +kernel⟩,
    ⟨31, .backfill, { lit with fences := [(63, [{ timeout := 1, clearAt := some 999 }])] }, by decide +kernel⟩,
    ⟨31, .backfill, { ctx := 1, gen := 1 }, { boundOne with fences := [(63, [{ timeout := 2 }, { ctx := 1,
                                                                                                 gen := 1 }])],
                                                            outst := [(252, 1)] }, by decide +kernel⟩⟩

theorem witness_CollectivePlansLoadAndStart :
    (∃ (d : Die) (ce : Ce) (s : State) (x : InFlight), nextExec s d (3 + ce) 0xA0 = some x ∧
      copyHeld s d x.desc = false ∧ s.stored = true ∧ plainRun s x = true ∧ unhindered s d x = true ∧
      x.issue ≤ x.deadline ∧ region (offset (x.desc.addrAt x.desc.a 0)) = .near d ∧ s.ctrlTable = []) ∧
    (∃ (d : Die) (ce : Ce) (s : State) (x : InFlight) (p : Plan) (pd coll : Nat),
      nextExec s d (3 + ce) 0xA1 = some x ∧ coll = bits x.desc.imm 0 12 ∧ pd = bits x.desc.imm 12 3 ∧
      findPlan s pd x.ctx coll = some p ∧ p.gen = x.gen ∧ p.die = d ∧ isRunning s pd x.ctx coll = false ∧
      p.aborted = false ∧ (s.insts.filter fun i => i.pd == pd && i.doneAt.isNone).length < 64 ∧ p.held = [] ∧
      p.early = [] ∧ s.stored = true ∧ p.moves = true) ∧
    (∃ (d : Die) (ce : Ce) (s : State) (x : InFlight) (pd coll : Nat) (a : Nat), nextExec s d (3 + ce) 0xA1 = some x ∧
      coll = bits x.desc.imm 0 12 ∧ pd = bits x.desc.imm 12 3 ∧ (∀ p, findPlan s pd x.ctx coll = some p →
      p.gen ≠ x.gen ∨ p.die ≠ d ∨ isRunning s pd x.ctx coll = true ∨ p.aborted = true ∨
      64 ≤ (s.insts.filter fun i => i.pd == pd && i.doneAt.isNone).length) ∧ s.stored = true ∧ (¬ logged s d a)) ∧
    (∃ (d : Die) (ce : Ce) (s : State) (x : InFlight), nextExec s d (3 + ce) 0xA1 = some x ∧
      findPlan s 0 x.ctx 0 = some { kind := 1, die := 0 } ∧ isRunning s 0 x.ctx 0 = true ∧ s.stored = true) :=
  ⟨⟨0, 0, runIn 3 (nearFly 0xA0 0 0 0 0), nearFly 0xA0 0 0 0 0, by decide +kernel⟩,
    ⟨0, 0, { flight 3 (opFly 0xA1) with plans := [{ kind := 1 }] }, opFly 0xA1, { kind := 1 }, 0, 0,
      by decide +kernel⟩,
    ⟨0, 0, flight 3 (opFly 0xA1), opFly 0xA1, 0, 0, 0,
      by refine ⟨by decide +kernel, rfl, rfl, fun p h => (nomatch h), rfl, unlogged rfl rfl⟩⟩,
    ⟨0, 0, { flight 3 (opFly 0xA1) with plans := [{ kind := 1 }], insts := [{}] }, opFly 0xA1, by decide +kernel⟩⟩

theorem witness_ReadsAnswerAtTheirHome :
    (∃ (p q : Pkg) (s : State), q = { p with op := 1 } ∧ s.stored = true ∧ isAdmitted s (strapSite q.dst) = true ∧
      ctxAccepts s q.ctx q.gen = false) ∧
    (∃ (p q : Pkg) (s : State), q = { p with op := 1 } ∧ s.stored = true ∧ isAdmitted s (strapSite q.dst) = false ∧
      q.posted = false) ∧
    (∃ (p q : Pkg) (s : State), q = { p with op := 1 } ∧ s.stored = true ∧ received s q = true ∧ isMem q.addr = true ∧
      notNow s q (32 * q.len) = true) ∧
    (∃ (p q : Pkg) (s : State), q = { p with op := 1 } ∧ s.stored = true ∧ received s q = true ∧ isMem q.addr = true ∧
      notNow s q (32 * q.len) = false ∧ homeOwns s q (32 * q.len) = false) ∧
    (∃ (p q : Pkg) (s : State), q = { p with op := 1 } ∧ s.stored = true ∧ received s q = true ∧ isMem q.addr = true ∧
      notNow s q (32 * q.len) = false ∧ homeOwns s q (32 * q.len) = true ∧ eccBad s q.addr (32 * q.len) = false) ∧
    (∃ (p q : Pkg) (s : State), q = { p with op := 1 } ∧ s.stored = true ∧ received s q = true ∧ isMem q.addr = true ∧
      notNow s q (32 * q.len) = false ∧ homeOwns s q (32 * q.len) = true ∧ eccBad s q.addr (32 * q.len) = true) ∧
    (∃ (p q : Pkg) (s : State), q = { p with op := 1 } ∧ s.stored = true ∧ received s q = true ∧ isMem q.addr = true ∧
      notNow s q (32 * q.len) = false ∧ homeOwns s q (32 * q.len) = true ∧
      ((txnOf s q).map (·.chk)).getD false = true ∧
      readValid s 0 q.addr (32 * q.len) (inboundCycle s 0 q.addr (32 * q.len)) = false) ∧
    (∃ (p q : Pkg) (s : State), q = { p with op := 1 } ∧ s.stored = true ∧ received s q = true ∧
      region q.addr = .dmem 0 0 0 ∧ (getCd s 0).active = 0) ∧
    (∃ (p q : Pkg) (s : State), q = { p with op := 1 } ∧ s.stored = true ∧ received s q = true ∧
      region q.addr = .dmem 0 1 0 ∧ (getCd s 0).active = 0) ∧
    (∃ (p q : Pkg) (s : State), q = { p with op := 1 } ∧ s.stored = true ∧ received s q = true ∧
      region q.addr = .ctrl 0 1504 ∧ ctrlSlotOk 1504 (32 * q.len) q.slot = true ∧ slotOn s q.ctx 0 = some q.slot) ∧
    (∃ (p q : Pkg) (s : State), q = { p with op := 1 } ∧ s.stored = true ∧ received s q = true ∧
      region q.addr = .hub ∧ fwFences s q.ctx q.addr (32 * q.len) = false) ∧
    (∃ (p q : Pkg) (s : State), q = { p with op := 1 } ∧ s.stored = true ∧ received s q = true ∧
      region q.addr = .none) ∧
    (∃ (p q : Pkg) (s : State), q = { p with op := 1 } ∧ s.stored = true ∧ received s q = true ∧ isMem q.addr = true ∧
      notNow s q (32 * q.len) = true) :=
  ⟨⟨{ pkgTo 0 1 [] with gen := 2 }, _, netOne, by refine ⟨rfl, ?_⟩; decide +kernel⟩,
    ⟨{ pkgTo 0 1 [] with dst := 1 }, _, netOne, by refine ⟨rfl, ?_⟩; decide +kernel⟩,
    ⟨pkgTo 0 1 [], _, { netOne with cds := [] }, by refine ⟨rfl, ?_⟩; decide +kernel⟩,
    ⟨pkgTo 0x100000 1 [], _, netOne, by refine ⟨rfl, ?_⟩; decide +kernel⟩,
    ⟨pkgTo (0x100000 - 32) 1 [], _, netOne, by refine ⟨rfl, ?_⟩; decide +kernel⟩,
    ⟨pkgTo 0 128 [], _, { netOne with ecc := [(511, 2)] }, by refine ⟨rfl, ?_⟩; decide +kernel⟩,
    ⟨pkgTo (spBase 0) 1 [], _, { netOne with txns := [{ src := 0x80, chk := true }] },
      by refine ⟨rfl, ?_⟩; decide +kernel⟩,
    ⟨pkgTo (dmemBase 0 0) 1 [], _, netOne, by refine ⟨rfl, ?_⟩; decide +kernel⟩,
    ⟨pkgTo (dmemBase 0 1) 1 [], _, netOne, by refine ⟨rfl, ?_⟩; decide +kernel⟩,
    ⟨pkgTo (ctrlBase 0 + 1504) 1 [], _, netOne, by refine ⟨rfl, ?_⟩; decide +kernel⟩,
    ⟨pkgTo progBase 1 [], _, netOne, by refine ⟨rfl, ?_⟩; decide +kernel⟩,
    ⟨pkgTo 0x100000000000 1 [], _, netOne, by refine ⟨rfl, ?_⟩; decide +kernel⟩,
    ⟨pkgTo (farBase 0) 1 [], _, { netOne with fds := [(0, { state := 2 })], owner := [(ownKey 2 0 0, 1)] },
      by and_intros <;> first | decide +kernel | rfl⟩⟩

theorem witness_WritesApplyAtTheirHome :
    (∃ (p q : Pkg) (collides : Bool) (s : State), q = { p with op := 2 } ∧ s.stored = true ∧
      isAdmitted s (strapSite q.dst) = false) ∧
    (∃ (p q : Pkg) (collides : Bool) (s : State), q = { p with op := 2 } ∧ s.stored = true ∧ received s q = true ∧
      writeBehind s q = false ∧ isMem q.addr = true ∧ notNow s q q.data.length = true) ∧
    (∃ (p q : Pkg) (collides : Bool) (s : State), q = { p with op := 2 } ∧ s.stored = true ∧ received s q = true ∧
      writeBehind s q = false ∧ isMem q.addr = true ∧ notNow s q q.data.length = false ∧
      homeOwns s q q.data.length = false) ∧
    (∃ (p q : Pkg) (collides : Bool) (s : State), q = { p with op := 2 } ∧ s.stored = true ∧ received s q = true ∧
      writeBehind s q = false ∧ isMem q.addr = true ∧ notNow s q q.data.length = false ∧
      homeOwns s q q.data.length = true) ∧
    (∃ (p q : Pkg) (collides : Bool) (s : State), q = { p with op := 2 } ∧ s.stored = true ∧ received s q = true ∧
      writeBehind s q = false ∧ region q.addr = .dmem 0 0 0 ∧ dmemSealed s 0 0 = true) ∧
    (∃ (p q : Pkg) (collides : Bool) (s : State), q = { p with op := 2 } ∧ s.stored = true ∧ received s q = true ∧
      writeBehind s q = false ∧ region q.addr = .dmem 0 1 0 ∧ dmemSealed s 0 1 = false ∧ slotOn s q.ctx 0 = some 0 ∧
      inPartition s 0 1 0 q.data.length 0 = true) ∧
    (∃ (p q : Pkg) (collides : Bool) (s : State), q = { p with op := 2 } ∧ s.stored = true ∧ received s q = true ∧
      writeBehind s q = false ∧ region q.addr = .ctrl 0 0) ∧
    (∃ (p q : Pkg) (collides : Bool) (s : State), q = { p with op := 2 } ∧ s.stored = true ∧ received s q = true ∧
      writeBehind s q = false ∧ region q.addr = .hub ∧ fwFences s q.ctx q.addr q.data.length = false) ∧
    (∃ (p q : Pkg) (collides : Bool) (s : State), q = { p with op := 2 } ∧ s.stored = true ∧ received s q = true ∧
      writeBehind s q = false ∧ region q.addr = .none) ∧
    (∃ (p q : Pkg) (collides : Bool) (s : State), q = { p with op := 2 } ∧ s.stored = true ∧
      isAdmitted s (strapSite q.dst) = true ∧ ctxAccepts s q.ctx q.gen = false) ∧
    (∃ (p q : Pkg) (collides : Bool) (s : State), q = { p with op := 2 } ∧ s.stored = true ∧ received s q = true ∧
      writeBehind s q = false ∧ scratchDie q.addr = some 0 ∧ notNow s q q.data.length = false ∧
      homeOwns s q q.data.length = true ∧ wordParts q.addr q.data = [(q.addr, q.data)] ∧
      portAWrites s 0 q.addr 1 (inboundCycle s 0 q.addr 1) = false ∧
      writeClear s 0 (slotSpan q.addr 1) (inboundCycle s 0 q.addr 1) = true ∧ q.setValid = true) ∧
    (∃ (p q : Pkg) (collides : Bool) (s : State), q = { p with op := 2 } ∧ s.stored = true ∧ received s q = true ∧
      writeBehind s q = false ∧ scratchDie q.addr = some 0 ∧ notNow s q q.data.length = false ∧
      homeOwns s q q.data.length = true ∧ wordParts q.addr q.data = [(q.addr, q.data)] ∧
      portAWrites s 0 q.addr 1 (inboundCycle s 0 q.addr 1) = false ∧
      writeClear s 0 (slotSpan q.addr 1) (inboundCycle s 0 q.addr 1) = false ∧ q.setValid = true) ∧
    (∃ (p q : Pkg) (collides : Bool) (s : State), q = { p with op := 2 } ∧ s.stored = true ∧ received s q = true ∧
      writeBehind s q = false ∧ scratchDie q.addr = some 0 ∧ notNow s q q.data.length = false ∧
      homeOwns s q q.data.length = true ∧ wordParts q.addr q.data = [(q.addr, q.data)] ∧
      portAWrites s 0 q.addr 1 (inboundCycle s 0 q.addr 1) = true) ∧
    (∃ (p q : Pkg) (collides : Bool) (s : State), q = { p with op := 2 } ∧ s.stored = true ∧ received s q = true ∧
      writeBehind s q = false ∧ scratchDie q.addr = some 0 ∧ notNow s q q.data.length = false ∧
      homeOwns s q q.data.length = true ∧ (wordParts q.addr q.data).map (fun w => (w.1 - spBase 0,
      w.2.length)) = [(127, 1), (128, 1)]) ∧
    (∃ (p q : Pkg) (collides : Bool) (s : State), q = { p with op := 2 } ∧ s.stored = true ∧ received s q = true ∧
      writeBehind s q = true) :=
  ⟨⟨{ pkgTo 0 1 [1] with dst := 1 }, _, false, netOne, by refine ⟨rfl, ?_⟩; decide +kernel⟩,
    ⟨pkgTo 0 1 [1], _, false, { netOne with cds := [] }, by refine ⟨rfl, ?_⟩; decide +kernel⟩,
    ⟨pkgTo (0x100000 - 1) 1 [1, 2], _, false, netOne, by refine ⟨rfl, ?_⟩; decide +kernel⟩,
    ⟨pkgTo (0x100000 - 1) 1 [1], _, false, netOne, by refine ⟨rfl, ?_⟩; decide +kernel⟩,
    ⟨pkgTo (dmemBase 0 0) 1 [1], _, false, netOne, by refine ⟨rfl, ?_⟩; decide +kernel⟩,
    ⟨pkgTo (dmemBase 0 1) 1 [1], _, false, netOne, by refine ⟨rfl, ?_⟩; decide +kernel⟩,
    ⟨pkgTo (ctrlBase 0) 1 [1], _, false, netOne, by refine ⟨rfl, ?_⟩; decide +kernel⟩,
    ⟨pkgTo progBase 1 [1], _, false, netOne, by refine ⟨rfl, ?_⟩; decide +kernel⟩,
    ⟨pkgTo 0x100000000000 1 [1], _, false, netOne, by refine ⟨rfl, ?_⟩; decide +kernel⟩,
    ⟨{ pkgTo 0 1 [1] with gen := 2 }, _, false, netOne, by and_intros <;> first | decide +kernel | rfl⟩,
    ⟨{ pkgTo (spBase 0 + 4095) 1 [1] with setValid := true }, _, false, netOne,
      by and_intros <;> first | decide +kernel | rfl⟩,
    ⟨{ pkgTo (spBase 0) 1 [1] with setValid := true }, _, false, { netOne with slots := [(0, ⟨true, 0⟩)] },
      by and_intros <;> first | decide +kernel | rfl⟩,
    ⟨pkgTo (spBase 0 + 15360 * 4096) 1 [1], _, false, { netOne with owner := [(ownKey 0 0 15360, 1)], cds := [(0,
                                                                    { near := 3, spSingle := 2, spDual := 2,
                                                                      acc := [{ write := true,
                                                                                addr := spBase 0 + 15360 * 4096,
                                                                                len := 128 }] })] },
      by and_intros <;> first | decide +kernel | rfl⟩,
    ⟨pkgTo (spBase 0 + 127) 1 [1, 2], _, false, netOne, by and_intros <;> first | decide +kernel | rfl⟩,
    ⟨{ pkgTo 0 1 [1] with tag := 1 }, _, false, { netOne with net := [{ pkgTo 0 1 [1] with op := 2 }],
                                                              txns := [{ src := 0x80, req := 2, owner := .eng 0 3 1 },
                                                              { src := 0x80, req := 2, tag := 1,
                                                                owner := .eng 0 3 1 }] },
      by refine ⟨rfl, ?_⟩; decide +kernel⟩⟩

theorem witness_AtomicsChangeOneLineOrElement :
    (∃ (p q : Pkg) (c : Instr) (op : Nat) (s : State), (c, op) ∈ [(Instr.atAdd p, 0), (.atMin p, 1), (.atMax p, 2),
      (.atSwap p, 3), (.atCas p, 4)] ∧ q = { p with op := 8 + op } ∧ s.stored = true ∧
      isAdmitted s (strapSite q.dst) = false) ∧
    (∃ (p q : Pkg) (c : Instr) (op : Nat) (s : State), (c, op) ∈ [(Instr.atAdd p, 0), (.atMin p, 1), (.atMax p, 2),
      (.atSwap p, 3), (.atCas p, 4)] ∧ q = { p with op := 8 + op } ∧ s.stored = true ∧ received s q = true ∧
      writeBehind s q = false ∧ isMem q.addr = false) ∧
    (∃ (p q : Pkg) (c : Instr) (op : Nat) (s : State), (c, op) ∈ [(Instr.atAdd p, 0), (.atMin p, 1), (.atMax p, 2),
      (.atSwap p, 3), (.atCas p, 4)] ∧ q = { p with op := 8 + op } ∧ s.stored = true ∧ received s q = true ∧
      writeBehind s q = false ∧ isMem q.addr = true ∧ notNow s q 32 = true) ∧
    (∃ (p q : Pkg) (c : Instr) (op : Nat) (s : State), (c, op) ∈ [(Instr.atAdd p, 0), (.atMin p, 1), (.atMax p, 2),
      (.atSwap p, 3), (.atCas p, 4)] ∧ q = { p with op := 8 + op } ∧ s.stored = true ∧ received s q = true ∧
      writeBehind s q = false ∧ isMem q.addr = true ∧ notNow s q 32 = false ∧ homeOwns s q 1 = false) ∧
    (∃ (p q : Pkg) (c : Instr) (op : Nat) (s : State), (c, op) ∈ [(Instr.atAdd p, 0), (.atMin p, 1), (.atMax p, 2),
      (.atSwap p, 3), (.atCas p, 4)] ∧ q = { p with op := 8 + op } ∧ s.stored = true ∧ received s q = true ∧
      writeBehind s q = false ∧ isMem q.addr = true ∧ notNow s q 32 = false ∧ homeOwns s q 1 = true ∧
      atomOk q.addr op q.etype = false) ∧
    (∃ (p q : Pkg) (c : Instr) (op : Nat) (s : State), (c, op) ∈ [(Instr.atAdd p, 0), (.atMin p, 1), (.atMax p, 2),
      (.atSwap p, 3), (.atCas p, 4)] ∧ q = { p with op := 8 + op } ∧ s.stored = true ∧ received s q = true ∧
      writeBehind s q = false ∧ isMem q.addr = true ∧ notNow s q 32 = false ∧ homeOwns s q 1 = true ∧
      atomOk q.addr op q.etype = true ∧ eccBad s (q.addr / 32 * 32) 32 = true) ∧
    (∃ (p q : Pkg) (c : Instr) (op : Nat) (s : State), (c, op) ∈ [(Instr.atAdd p, 0), (.atMin p, 1), (.atMax p, 2),
      (.atSwap p, 3), (.atCas p, 4)] ∧ q = { p with op := 8 + op } ∧ s.stored = true ∧ received s q = true ∧
      writeBehind s q = false ∧ isMem q.addr = true ∧ notNow s q 32 = false ∧ homeOwns s q 1 = true ∧
      atomOk q.addr op q.etype = true ∧ eccBad s (q.addr / 32 * 32) 32 = false) ∧
    (∃ (p q : Pkg) (c : Instr) (op : Nat) (s : State), (c, op) ∈ [(Instr.atAdd p, 0), (.atMin p, 1), (.atMax p, 2),
      (.atSwap p, 3), (.atCas p, 4)] ∧ q = { p with op := 8 + op } ∧ s.stored = true ∧ received s q = true ∧
      writeBehind s q = false ∧ isMem q.addr = true ∧ notNow s q 32 = false ∧ homeOwns s q 1 = true ∧
      atomOk q.addr op q.etype = true ∧ eccBad s (q.addr / 32 * 32) 32 = false) ∧
    (∃ (p q : Pkg) (c : Instr) (op : Nat) (s : State), (c, op) ∈ [(Instr.atAdd p, 0), (.atMin p, 1), (.atMax p, 2),
      (.atSwap p, 3), (.atCas p, 4)] ∧ q = { p with op := 8 + op } ∧ s.stored = true ∧ received s q = true ∧
      writeBehind s q = false ∧ isMem q.addr = true ∧ notNow s q 32 = false ∧ homeOwns s q 1 = true ∧
      atomOk q.addr op q.etype = true ∧ eccBad s (q.addr / 32 * 32) 32 = false) ∧
    (∃ (p q : Pkg) (c : Instr) (op : Nat) (s : State), (c, op) ∈ [(Instr.atAdd p, 0), (.atMin p, 1), (.atMax p, 2),
      (.atSwap p, 3), (.atCas p, 4)] ∧ q = { p with op := 8 + op } ∧ s.stored = true ∧ received s q = true ∧
      writeBehind s q = false ∧ isMem q.addr = true ∧ notNow s q 32 = false ∧ homeOwns s q 1 = true ∧
      atomOk q.addr op q.etype = true ∧ eccBad s (q.addr / 32 * 32) 32 = false) ∧
    (∃ (p q : Pkg) (c : Instr) (op : Nat) (s : State), (c, op) ∈ [(Instr.atAdd p, 0), (.atMin p, 1), (.atMax p, 2),
      (.atSwap p, 3), (.atCas p, 4)] ∧ q = { p with op := 8 + op } ∧ s.stored = true ∧ received s q = true ∧
      writeBehind s q = false ∧ isMem q.addr = true ∧ notNow s q 32 = false ∧ homeOwns s q 1 = true ∧
      atomOk q.addr op q.etype = true ∧ readBytes s q.addr 8 = slice q.data 0 8) ∧
    (∃ (p q : Pkg) (c : Instr) (op : Nat) (s : State), (c, op) ∈ [(Instr.atAdd p, 0), (.atMin p, 1), (.atMax p, 2),
      (.atSwap p, 3), (.atCas p, 4)] ∧ q = { p with op := 8 + op } ∧ s.stored = true ∧ received s q = true ∧
      writeBehind s q = false ∧ isMem q.addr = true ∧ notNow s q 32 = false ∧ homeOwns s q 1 = true ∧
      portAWrites s 0 q.addr 32 (inboundCycle s 0 q.addr 32) = true) ∧
    (∃ (p q : Pkg) (c : Instr) (op : Nat) (s : State), (c, op) ∈ [(Instr.atAdd p, 0), (.atMin p, 1), (.atMax p, 2),
      (.atSwap p, 3), (.atCas p, 4)] ∧ q = { p with op := 8 + op } ∧ s.stored = true ∧ received s q = true ∧
      writeBehind s q = false ∧ isMem q.addr = true ∧ notNow s q 32 = false ∧ homeOwns s q 1 = true ∧
      portAWrites s 0 q.addr 32 (inboundCycle s 0 q.addr 32) = false ∧
      writeClear s 0 (((txnOf s q).map (·.use)).getD []) (inboundCycle s 0 q.addr 32) = false ∧ q.setValid = true) ∧
    (∃ (p q : Pkg) (c : Instr) (op : Nat) (s : State), (c, op) ∈ [(Instr.atAdd p, 0), (.atMin p, 1), (.atMax p, 2),
      (.atSwap p, 3), (.atCas p, 4)] ∧ q = { p with op := 8 + op } ∧ s.stored = true ∧
      isAdmitted s (strapSite q.dst) = true ∧ ctxAccepts s q.ctx q.gen = false) ∧
    (∃ (p q : Pkg) (c : Instr) (op : Nat) (s : State), (c, op) ∈ [(Instr.atAdd p, 0), (.atMin p, 1), (.atMax p, 2),
      (.atSwap p, 3), (.atCas p, 4)] ∧ q = { p with op := 8 + op } ∧ s.stored = true ∧ received s q = true ∧
      writeBehind s q = false ∧ region q.addr = .hub ∧ q.ctx ≠ 0 ∧ fwFences s q.ctx q.addr 32 = true) ∧
    (∃ (p q : Pkg) (c : Instr) (op : Nat) (s : State), (c, op) ∈ [(Instr.atAdd p, 0), (.atMin p, 1), (.atMax p, 2),
      (.atSwap p, 3), (.atCas p, 4)] ∧ q = { p with op := 8 + op } ∧ s.stored = true ∧ received s q = true ∧
      writeBehind s q = true) ∧
    (∃ (p q : Pkg) (c : Instr) (op : Nat) (s : State), (c, op) ∈ [(Instr.atAdd p, 0), (.atMin p, 1), (.atMax p, 2),
      (.atSwap p, 3), (.atCas p, 4)] ∧ q = { p with op := 8 + op } ∧ s.stored = true ∧ received s q = true ∧
      writeBehind s q = false ∧ isMem q.addr = true ∧ notNow s q 32 = false ∧ homeOwns s q 1 = true ∧
      scratchDie q.addr = some 0 ∧ spBusy s 0 inboundRank q.addr 32 (inboundCycle s 0 q.addr 32) = false ∧
      portAWrites s 0 q.addr 32 (inboundCycle s 0 q.addr 32) = false ∧ (getCd s 0).acc = [] ∧
      eccBad s q.addr 32 = false ∧ atomOk q.addr op q.etype = true ∧ q.setValid = true) :=
  ⟨⟨{ pkgTo 0 1 [] with dst := 1 }, _, .atAdd ({ pkgTo 0 1 [] with dst := 1 }), 0, netOne,
      by refine ⟨by simp, rfl, ?_⟩; decide +kernel⟩,
    ⟨pkgTo progBase 1 [], _, .atAdd (pkgTo progBase 1 []), 0, netOne, by refine ⟨by simp, rfl, ?_⟩; decide +kernel⟩,
    ⟨pkgTo 0 1 [], _, .atAdd (pkgTo 0 1 []), 0, { netOne with cds := [] },
      by refine ⟨by simp, rfl, ?_⟩; decide +kernel⟩,
    ⟨pkgTo 0x100000 1 [], _, .atAdd (pkgTo 0x100000 1 []), 0, netOne, by refine ⟨by simp, rfl, ?_⟩; decide +kernel⟩,
    ⟨{ pkgTo 0 1 [] with etype := 3 }, _, .atMin ({ pkgTo 0 1 [] with etype := 3 }), 1, netOne,
      by refine ⟨by simp, rfl, ?_⟩; decide +kernel⟩,
    ⟨pkgTo 0 1 [], _, .atMax (pkgTo 0 1 []), 2, { netOne with ecc := [(3, 2)] },
      by refine ⟨by simp, rfl, ?_⟩; decide +kernel⟩,
    ⟨{ pkgTo (0x100000 - 32) 1 (List.replicate 32 255) with etype := 10 }, _,
      .atAdd ({ pkgTo (0x100000 - 32) 1 (List.replicate 32 255) with etype := 10 }), 0, netOne,
      by refine ⟨by simp, rfl, ?_⟩; decide +kernel⟩,
    ⟨{ pkgTo (0x100000 - 32) 1 (List.replicate 32 255) with etype := 10 }, _,
      .atMin ({ pkgTo (0x100000 - 32) 1 (List.replicate 32 255) with etype := 10 }), 1, netOne,
      by refine ⟨by simp, rfl, ?_⟩; decide +kernel⟩,
    ⟨{ pkgTo (0x100000 - 32) 1 (List.replicate 32 255) with etype := 10 }, _,
      .atMax ({ pkgTo (0x100000 - 32) 1 (List.replicate 32 255) with etype := 10 }), 2, netOne,
      by refine ⟨by simp, rfl, ?_⟩; decide +kernel⟩,
    ⟨{ pkgTo (0x100000 - 32) 1 (List.replicate 32 255) with etype := 10 }, _,
      .atSwap ({ pkgTo (0x100000 - 32) 1 (List.replicate 32 255) with etype := 10 }), 3, netOne,
      by refine ⟨by simp, rfl, ?_⟩; decide +kernel⟩,
    ⟨{ pkgTo (0x100000 - 8) 1 [] with etype := 11 }, _, .atCas ({ pkgTo (0x100000 - 8) 1 [] with etype := 11 }), 4,
      netOne, by refine ⟨by simp, rfl, ?_⟩; decide +kernel⟩,
    ⟨{ pkgTo (spBase 0 + 15360 * 4096) 1 (List.replicate 32 1) with etype := 10 }, _,
      .atAdd ({ pkgTo (spBase 0 + 15360 * 4096) 1 (List.replicate 32 1) with etype := 10 }), 0, { netOne with
      owner := [(ownKey 0 0 15360, 1)], cds := [(0, { near := 3, spSingle := 2, spDual := 2, acc := [{ write := true,
                                                                                                       addr := spBase 0 + 15360 * 4096,
                                                                                                       len := 128 }]
                                                      })] }, by refine ⟨by simp, rfl, ?_⟩; decide +kernel⟩,
    ⟨{ pkgTo (spBase 0) 1 (List.replicate 32 1) with etype := 10, setValid := true }, _,
      .atAdd ({ pkgTo (spBase 0) 1 (List.replicate 32 1) with etype := 10, setValid := true }), 0, { netOne with
      slots := [(0, ⟨true, 0⟩)], txns := [{ src := 0x80, use := [0] }] },
      by refine ⟨by simp, rfl, ?_⟩; decide +kernel⟩,
    ⟨{ pkgTo 0 1 [] with gen := 2 }, _, .atAdd ({ pkgTo 0 1 [] with gen := 2 }), 0, netOne,
      by refine ⟨by simp, rfl, ?_⟩; decide +kernel⟩,
    ⟨pkgTo (xchBase 0) 1 [], _, .atAdd (pkgTo (xchBase 0) 1 []), 0, { netOne with mg.blob := [(objKey oFwTable 1,
                                                                                  leBytes 8 (xchBase 0) ++ leBytes 8 4096 ++ List.replicate 12 0 ++ [2]
                                                                                  ++ List.replicate 995 0)] },
      by refine ⟨by simp, rfl, ?_⟩; decide +kernel⟩,
    ⟨{ pkgTo 0 1 [] with tag := 1 }, _, .atAdd ({ pkgTo 0 1 [] with tag := 1 }), 0, { netOne with
      net := [{ pkgTo 0 1 [] with op := 8 }], txns := [{ src := 0x80, req := 8, owner := .eng 0 3 1 }, { src := 0x80,
                                                                                                         req := 8,
                                                                                                         tag := 1,
                                                                                                         owner := .eng 0 3 1 }]
      }, by refine ⟨by simp, rfl, ?_⟩; decide +kernel⟩,
    ⟨{ pkgTo (spBase 0) 1 (List.replicate 32 1) with etype := 10, setValid := true }, _,
      .atAdd ({ pkgTo (spBase 0) 1 (List.replicate 32 1) with etype := 10, setValid := true }), 0, { netOne with
      txns := [{ src := 0x80, use := [0] }] }, by refine ⟨by simp, rfl, ?_⟩; decide +kernel⟩⟩

theorem witness_SignalPacketsReachSemaphoresAndCounters :
    (∃ (p q : Pkg) (c : Instr) (op lo w : Nat) (s : State), (c, op, lo, w) ∈ [(Instr.sigAdd p, 4, 0, 4), (.sigSet p,
      5, 0, 4), (.arrAdd p, 0x2F, 0x1000, 8)] ∧ q = { p with op := op } ∧ s.stored = true ∧
      isAdmitted s (strapSite q.dst) = true ∧ ctxAccepts s q.ctx q.gen = false) ∧
    (∃ (p q : Pkg) (c : Instr) (op lo w : Nat) (s : State), (c, op, lo, w) ∈ [(Instr.sigAdd p, 4, 0, 4), (.sigSet p,
      5, 0, 4), (.arrAdd p, 0x2F, 0x1000, 8)] ∧ q = { p with op := op } ∧ s.stored = true ∧ received s q = true ∧
      region q.addr = .ctrl 0 (0 + 0x7FC) ∧ ticking (getFacet s 0) = false ∧ (getCd s 0).semEv = []) ∧
    (∃ (p q : Pkg) (c : Instr) (op lo w : Nat) (s : State), (c, op, lo, w) ∈ [(Instr.sigAdd p, 4, 0, 4), (.sigSet p,
      5, 0, 4), (.arrAdd p, 0x2F, 0x1000, 8)] ∧ q = { p with op := op } ∧ s.stored = true ∧ received s q = true ∧
      region q.addr = .ctrl 0 (0 + 0x7FC) ∧ ticking (getFacet s 0) = true) ∧
    (∃ (p q : Pkg) (c : Instr) (op lo w : Nat) (s : State), (c, op, lo, w) ∈ [(Instr.sigAdd p, 4, 0, 4), (.sigSet p,
      5, 0, 4), (.arrAdd p, 0x2F, 0x1000, 8)] ∧ q = { p with op := op } ∧ s.stored = true ∧ received s q = true ∧
      region q.addr = .ctrl 0 (0 + 0x7FC) ∧ ticking (getFacet s 0) = false ∧ (getCd s 0).semEv = []) ∧
    (∃ (p q : Pkg) (c : Instr) (op lo w : Nat) (s : State), (c, op, lo, w) ∈ [(Instr.sigAdd p, 4, 0, 4), (.sigSet p,
      5, 0, 4), (.arrAdd p, 0x2F, 0x1000, 8)] ∧ q = { p with op := op } ∧ s.stored = true ∧ received s q = true ∧
      region q.addr = .ctrl 0 (0 + 0x7FC) ∧ ticking (getFacet s 0) = true) ∧
    (∃ (p q : Pkg) (c : Instr) (op lo w : Nat) (s : State), (c, op, lo, w) ∈ [(Instr.sigAdd p, 4, 0, 4), (.sigSet p,
      5, 0, 4), (.arrAdd p, 0x2F, 0x1000, 8)] ∧ q = { p with op := op } ∧ s.stored = true ∧ received s q = true ∧
      region q.addr = .ctrl 0 (4096 + 0x7FC) ∧ ticking (getFacet s 0) = false ∧ (getCd s 0).semEv = []) ∧
    (∃ (p q : Pkg) (c : Instr) (op lo w : Nat) (s : State), (c, op, lo, w) ∈ [(Instr.sigAdd p, 4, 0, 4), (.sigSet p,
      5, 0, 4), (.arrAdd p, 0x2F, 0x1000, 8)] ∧ q = { p with op := op } ∧ s.stored = true ∧ received s q = true ∧
      region q.addr = .ctrl 0 (4096 + 0x7FC) ∧ ticking (getFacet s 0) = true) ∧
    (∃ (p q : Pkg) (c : Instr) (op lo w : Nat) (s : State), (c, op, lo, w) ∈ [(Instr.sigAdd p, 4, 0, 4), (.sigSet p,
      5, 0, 4), (.arrAdd p, 0x2F, 0x1000, 8)] ∧ q = { p with op := op } ∧ s.stored = true ∧ received s q = true ∧
      region q.addr = .ctrl 0 0x800) :=
  ⟨⟨{ pkgTo 0 1 [] with gen := 2 }, _, .sigAdd ({ pkgTo 0 1 [] with gen := 2 }), 4, 0, 4, netOne,
      by refine ⟨by simp, rfl, ?_⟩; decide +kernel⟩,
    ⟨pkgTo (ctrlBase 0 + 0 + 0x7FC) 1 [255, 255, 255, 255], _, .sigAdd (pkgTo (ctrlBase 0 + 0 + 0x7FC) 1 [255, 255,
      255, 255]), 4, 0, 4, netOne, by refine ⟨by simp, rfl, ?_⟩; decide +kernel⟩,
    ⟨pkgTo (ctrlBase 0 + 0 + 0x7FC) 1 [255, 255, 255, 255], _, .sigAdd (pkgTo (ctrlBase 0 + 0 + 0x7FC) 1 [255, 255,
      255, 255]), 4, 0, 4, { netOne with facets := [(0, { state := 2 })] },
      by refine ⟨by simp, rfl, ?_⟩; decide +kernel⟩,
    ⟨pkgTo (ctrlBase 0 + 0 + 0x7FC) 1 [255, 255, 255, 255], _, .sigSet (pkgTo (ctrlBase 0 + 0 + 0x7FC) 1 [255, 255,
      255, 255]), 5, 0, 4, netOne, by refine ⟨by simp, rfl, ?_⟩; decide +kernel⟩,
    ⟨pkgTo (ctrlBase 0 + 0 + 0x7FC) 1 [255, 255, 255, 255], _, .sigSet (pkgTo (ctrlBase 0 + 0 + 0x7FC) 1 [255, 255,
      255, 255]), 5, 0, 4, { netOne with facets := [(0, { state := 2 })] },
      by refine ⟨by simp, rfl, ?_⟩; decide +kernel⟩,
    ⟨pkgTo (ctrlBase 0 + 4096 + 0x7FC) 1 [255, 255, 255, 255], _, .arrAdd (pkgTo (ctrlBase 0 + 4096 + 0x7FC) 1 [255,
      255, 255, 255]), 47, 4096, 8, netOne, by refine ⟨by simp, rfl, ?_⟩; decide +kernel⟩,
    ⟨pkgTo (ctrlBase 0 + 4096 + 0x7FC) 1 [255, 255, 255, 255], _, .arrAdd (pkgTo (ctrlBase 0 + 4096 + 0x7FC) 1 [255,
      255, 255, 255]), 47, 4096, 8, { netOne with facets := [(0, { state := 2 })] },
      by refine ⟨by simp, rfl, ?_⟩; decide +kernel⟩,
    ⟨pkgTo (ctrlBase 0 + 0x800) 1 [], _, .sigSet (pkgTo (ctrlBase 0 + 0x800) 1 []), 5, 0, 4, netOne,
      by refine ⟨by simp, rfl, ?_⟩; decide +kernel⟩⟩

theorem witness_ResponsesAndOtherPacketsArrive :
    (∃ (p q : Pkg) (c : Instr) (op : Nat) (s : State), (c, op) ∈ [(Instr.rdRsp p, 0x10), (.wrAck p, 0x11), (.atRsp p,
      0x12), (.host p, 0x30)] ∧ q = { p with op := op } ∧ (op = 0x30 → q.pclass = 1) ∧ s.stored = true ∧
      isAdmitted s (strapSite q.dst) = true ∧ ctxAccepts s q.ctx q.gen = true ∧ (op = 0x30 ∨ answerHeld s q = false) ∧
      (∀ x ∈ s.txns, ¬ (x.src = q.dst ∧ x.tag = q.tag))) ∧
    (∃ (p q : Pkg) (c : Instr) (op : Nat) (s : State), (c, op) ∈ [(Instr.rdRsp p, 0x10), (.wrAck p, 0x11), (.atRsp p,
      0x12), (.host p, 0x30)] ∧ q = { p with op := op } ∧ (op = 0x30 → q.pclass = 1) ∧ s.stored = true ∧
      isAdmitted s (strapSite q.dst) = true ∧ ctxAccepts s q.ctx q.gen = true ∧ (op = 0x30 ∨ answerHeld s q = false) ∧
      (s.txns.find? (fun x => x.src == q.dst ∧ x.tag == q.tag) = some { owner := .host 1 255 })) ∧
    (∃ (p q : Pkg) (c : Instr) (op : Nat) (s : State), (c, op) ∈ [(Instr.rdRsp p, 0x10), (.wrAck p, 0x11), (.atRsp p,
      0x12), (.host p, 0x30)] ∧ q = { p with op := op } ∧ (op = 0x30 → q.pclass = 1) ∧ s.stored = true ∧
      isAdmitted s (strapSite q.dst) = true ∧ ctxAccepts s q.ctx q.gen = true ∧ (op = 0x30 ∨ answerHeld s q = false) ∧
      (s.txns.find? (fun x => x.src == q.dst ∧ x.tag == q.tag) = some { owner := .hub })) ∧
    (∃ (p q : Pkg) (c : Instr) (op : Nat) (s : State), (c, op) ∈ [(Instr.rdRsp p, 0x10), (.wrAck p, 0x11), (.atRsp p,
      0x12), (.host p, 0x30)] ∧ q = { p with op := op } ∧ (op = 0x30 → q.pclass = 1) ∧ s.stored = true ∧
      isAdmitted s (strapSite q.dst) = true ∧ ctxAccepts s q.ctx q.gen = true ∧ (op = 0x30 ∨ answerHeld s q = false) ∧
      (s.txns.find? (fun x => x.src == q.dst ∧ x.tag == q.tag) = some { owner := .term 5 }) ∧
      s.terms.find? (fun r => r.id == 5) = some { id := 5 }) ∧
    (∃ (p q : Pkg) (c : Instr) (op : Nat) (s : State), (c, op) ∈ [(Instr.rdRsp p, 0x10), (.wrAck p, 0x11), (.atRsp p,
      0x12), (.host p, 0x30)] ∧ q = { p with op := op } ∧ (op = 0x30 → q.pclass = 1) ∧ s.stored = true ∧
      isAdmitted s (strapSite q.dst) = true ∧ ctxAccepts s q.ctx q.gen = true ∧ (op = 0x30 ∨ answerHeld s q = false) ∧
      (s.txns.find? (fun x => x.src == q.dst ∧ x.tag == q.tag) = some { src := 0, owner := .eng 0 3 1, req := 2 }) ∧
      findFly s 0 3 1 = some (nearFly 0x80 0 0 0 0) ∧ absCycle s 0 ≤ (nearFly 0x80 0 0 0 0).deadline ∧ q.status = 0) ∧
    (∃ (p q : Pkg) (c : Instr) (op : Nat) (s : State), (c, op) ∈ [(Instr.rdRsp p, 0x10), (.wrAck p, 0x11), (.atRsp p,
      0x12), (.host p, 0x30)] ∧ q = { p with op := op } ∧ (op = 0x30 → q.pclass = 1) ∧ s.stored = true ∧
      isAdmitted s (strapSite q.dst) = true ∧ ctxAccepts s q.ctx q.gen = true ∧ (op = 0x30 ∨ answerHeld s q = false) ∧
      (s.txns.find? (fun x => x.src == q.dst ∧ x.tag == q.tag) = some { src := 0, owner := .eng 0 3 1, req := 2 }) ∧
      findFly s 0 3 1 = some (nearFly 0x80 0 0 0 0) ∧ absCycle s 0 ≤ (nearFly 0x80 0 0 0 0).deadline ∧
      statusReason q.status (nearFly 0x80 0 0 0 0).desc.collHalt ≠ 0) ∧
    (∃ (p q : Pkg) (s : State), q = { p with op := 0x30 } ∧ q.pclass ≠ 1 ∧ isAdmitted s (strapSite q.dst) = true ∧
      ctxAccepts s q.ctx q.gen = true ∧ s.stored = true ∧ region q.addr = .ctrl 0 0x2000 ∧ q.data ≠ [] ∧
      bit (leNat (slice q.data 0 4)) 2 = true ∧ (getCd s 0).pendingSwap = false) ∧
    (∃ (p : Pkg) (s : State), isAdmitted s (strapSite p.dst) = true) ∧
    (∃ (p : Pkg) (s : State), isAdmitted s (strapSite p.dst) = false) ∧
    (∃ (router : SiteNo) (p : Pkg) (s : State), knownPop p.op = false) ∧
    (∃ (router : SiteNo) (p : Pkg) (s : State), knownPop p.op = true) ∧
    (∃ (p q : Pkg) (c : Instr) (op : Nat) (s : State), (c, op) ∈ [(Instr.rdRsp p, 0x10), (.wrAck p, 0x11), (.atRsp p,
      0x12), (.host p, 0x30)] ∧ q = { p with op := op } ∧ (op = 0x30 → q.pclass = 1) ∧ s.stored = true ∧
      isAdmitted s (strapSite q.dst) = true ∧ ctxAccepts s q.ctx q.gen = true ∧ (op = 0x30 ∨ answerHeld s q = false) ∧
      (s.txns.find? (fun x => x.src == q.dst ∧ x.tag == q.tag) = some { src := 0, owner := .eng 0 3 1, req := 1,
                                                                        it := 0 }) ∧
      findFly s 0 3 1 = some (nearFly 0x80 0 0 0 0) ∧ absCycle s 0 ≤ (nearFly 0x80 0 0 0 0).deadline ∧ q.status = 0 ∧
      (nearFly 0x80 0 0 0 0).desc.slotD = false ∧ q.data.length = (nearFly 0x80 0 0 0 0).desc.unitD ∧
      0 < (nearFly 0x80 0 0 0 0).desc.unitD ∧ (nearFly 0x80 0 0 0 0).desc.unitD ≤ 256 ∧
      (nearFly 0x80 0 0 0 0).got = [] ∧ (nearFly 0x80 0 0 0 0).nextPut = 0 ∧
      unhindered s 0 { (nearFly 0x80 0 0 0 0) with issue := absCycle s 0 } = true ∧
      region (offset ((nearFly 0x80 0 0 0 0).desc.addrAt (nearFly 0x80 0 0 0 0).desc.d 0)) = .near 0 ∧
      region (offset ((nearFly 0x80 0 0 0 0).desc.addrAt (nearFly 0x80 0 0 0 0).desc.d 0) + (nearFly 0x80 0 0 0 0).desc.unitD - 1) = .near 0) ∧
    (∃ (p q : Pkg) (s : State), q = { p with op := 0x30 } ∧ q.pclass ≠ 1 ∧ isAdmitted s (strapSite q.dst) = true ∧
      ctxAccepts s q.ctx q.gen = true ∧ s.stored = true ∧ region q.addr = .dmem 0 1 0 ∧
      region (q.addr + q.data.length - 1) = .dmem 0 1 7 ∧ q.data ≠ [] ∧ dmemSealed s 0 1 = false ∧
      dmemSealed s 0 1 = false) ∧
    (∃ (p q : Pkg) (s : State), q = { p with op := 0x30 } ∧ q.pclass ≠ 1 ∧ isAdmitted s (strapSite q.dst) = true ∧
      ctxAccepts s q.ctx q.gen = true ∧ s.stored = true ∧ region q.addr = .dmem 0 0 0xFFFFF ∧
      region (q.addr + q.data.length - 1) = .dmem 0 1 0 ∧ q.data ≠ [] ∧ (dmemSealed s 0 0 = true ∨
      dmemSealed s 0 1 = true)) ∧
    (∃ (p q : Pkg) (s : State), q = { p with op := 0x30 } ∧ q.pclass ≠ 1 ∧ isAdmitted s (strapSite q.dst) = true ∧
      ctxAccepts s q.ctx q.gen = true ∧ s.stored = true ∧ region q.addr = .ctrl 0 0x2000 ∧ q.data = [] ∧
      q.posted = false) ∧
    (∃ (p : Pkg) (s : State), (∀ e ∈ s.dirs, e.2.port = [])) ∧
    (∃ (p : Pkg) (s : State), s.stored = true ∧ delivered s p = true) :=
  ⟨⟨pkgTo 0 0 [], _, .atRsp (pkgTo 0 0 []), 18, netOne,
      by refine ⟨by simp, rfl, by simp [pkgTo], ?_⟩; decide +kernel⟩,
    ⟨{ pkgTo 0 0 [] with pclass := 1 }, _, .host ({ pkgTo 0 0 [] with pclass := 1 }), 48, { netOne with
      txns := [{ owner := .host 1 255 }] }, by refine ⟨by simp, rfl, by simp [pkgTo], ?_⟩; decide +kernel⟩,
    ⟨pkgTo 0 0 [], _, .wrAck (pkgTo 0 0 []), 17, { netOne with txns := [{ owner := .hub }] },
      by refine ⟨by simp, rfl, by simp [pkgTo], ?_⟩; decide +kernel⟩,
    ⟨pkgTo 0 0 [], _, .rdRsp (pkgTo 0 0 []), 16, { netOne with txns := [{ owner := .term 5 }], terms := [{ id := 5 }]
                                                               },
      by refine ⟨by simp, rfl, by simp [pkgTo], ?_⟩; decide +kernel⟩,
    ⟨pkgTo 0 0 [], _, .wrAck (pkgTo 0 0 []), 17, { netOne with txns := [{ src := 0, owner := .eng 0 3 1, req := 2 }],
                                                               engines := [(engineKey 0 3,
                                                               { fly := [nearFly 0x80 0 0 0 0] })] },
      by refine ⟨by simp, rfl, by simp [pkgTo], ?_⟩; decide +kernel⟩,
    ⟨{ pkgTo 0 0 [] with status := 9 }, _, .atRsp ({ pkgTo 0 0 [] with status := 9 }), 18, { netOne with
      txns := [{ src := 0, owner := .eng 0 3 1, req := 2 }], engines := [(engineKey 0 3,
      { fly := [nearFly 0x80 0 0 0 0] })] }, by refine ⟨by simp, rfl, by simp [pkgTo], ?_⟩; decide +kernel⟩,
    ⟨pkgTo (ctrlBase 0 + 0x2000) 1 [4], _, netOne, by refine ⟨rfl, ?_⟩; decide +kernel⟩,
    ⟨pkgTo 0 0 [], netOne, by decide +kernel⟩,
    ⟨{ pkgTo 0 0 [] with dst := 31 }, netOne, by decide +kernel⟩,
    ⟨64, { op := 0x3E }, netOne, by decide +kernel⟩,
    ⟨64, { op := 0x3F }, netOne, by decide +kernel⟩,
    ⟨pkgTo 0 1 (List.replicate 32 1), _, .rdRsp (pkgTo 0 1 (List.replicate 32 1)), 16, { netOne with
      txns := [{ src := 0, owner := .eng 0 3 1, req := 1 }], engines := [(engineKey 0 3,
      { fly := [nearFly 0x80 0 0 0 0] })] }, by refine ⟨by simp, rfl, by simp [pkgTo], ?_⟩; decide +kernel⟩,
    ⟨pkgTo (dmemBase 0 1) 1 (List.replicate 8 1), _, netOne, by and_intros <;> first | decide +kernel | rfl⟩,
    ⟨pkgTo (dmemBase 0 0 + 0xFFFFF) 1 [1, 1], _, netOne, by and_intros <;> first | decide +kernel | rfl⟩,
    ⟨pkgTo (ctrlBase 0 + 0x2000) 1 [], _, netOne, by and_intros <;> first | decide +kernel | rfl⟩,
    ⟨pkgTo 0 1 [], lit, by decide +kernel⟩,
    ⟨{ dst := 1, src := 0 }, { openAll (linkIn 0 { state := 3, modules := 2 }) with facets := [(0, { state := 2 })] },
      by decide +kernel⟩⟩

theorem witness_MatrixArraysExecute :
    (∃ (d : Die) (ma : Ma) (c : Instr) (op : Nat) (s : State) (x : InFlight), (c, op) ∈ [(Instr.mm d ma, 0x01),
      (.mmX3 d ma, 0x02), (.mmC3 d ma, 0x03), (.mmC4 d ma, 0x04), (.mmSlice d ma, 0x05), (.ewMul d ma, 0x10)] ∧
      nextExec s d ma op = some x ∧ spHeld s d x.desc = false ∧ fmtOk x.desc = true ∧ s.stored = true ∧
      plainRun s x = true ∧ x.desc.iters = 1 ∧
      streamStart (x.issue + x.stalls) (getEngine s d ma).lastPass (getEngine s d ma).passEnd + x.desc.perTile * x.desc.rowT + 255 ≤ x.deadline ∧
      spClear s d x = true) ∧
    (∃ (d : Die) (ma : Ma) (c : Instr) (op : Nat) (s : State) (x : InFlight), (c, op) ∈ [(Instr.mm d ma, 0x01),
      (.mmX3 d ma, 0x02), (.mmC3 d ma, 0x03), (.mmC4 d ma, 0x04), (.mmSlice d ma, 0x05), (.ewMul d ma, 0x10)] ∧
      nextExec s d ma op = some x ∧ spHeld s d x.desc = false ∧ fmtOk x.desc = true ∧ s.stored = true ∧
      plainRun s x = true ∧ x.desc.iters = 1 ∧
      streamStart (x.issue + x.stalls) (getEngine s d ma).lastPass (getEngine s d ma).passEnd + x.desc.perTile * x.desc.rowT + 255 ≤ x.deadline ∧
      spClear s d x = true) ∧
    (∃ (d : Die) (ma : Ma) (c : Instr) (op : Nat) (s : State) (x : InFlight), (c, op) ∈ [(Instr.mm d ma, 0x01),
      (.mmX3 d ma, 0x02), (.mmC3 d ma, 0x03), (.mmC4 d ma, 0x04), (.mmSlice d ma, 0x05), (.ewMul d ma, 0x10)] ∧
      nextExec s d ma op = some x ∧ spHeld s d x.desc = false ∧ fmtOk x.desc = true ∧ s.stored = true ∧
      plainRun s x = true ∧ x.desc.iters = 1 ∧
      streamStart (x.issue + x.stalls) (getEngine s d ma).lastPass (getEngine s d ma).passEnd + x.desc.perTile * x.desc.rowT + 255 ≤ x.deadline ∧
      spClear s d x = true) ∧
    (∃ (d : Die) (ma : Ma) (c : Instr) (op : Nat) (s : State) (x : InFlight), (c, op) ∈ [(Instr.mm d ma, 0x01),
      (.mmX3 d ma, 0x02), (.mmC3 d ma, 0x03), (.mmC4 d ma, 0x04), (.mmSlice d ma, 0x05), (.ewMul d ma, 0x10)] ∧
      nextExec s d ma op = some x ∧ spHeld s d x.desc = false ∧ fmtOk x.desc = true ∧ s.stored = true ∧
      plainRun s x = true ∧ x.desc.iters = 1 ∧
      streamStart (x.issue + x.stalls) (getEngine s d ma).lastPass (getEngine s d ma).passEnd + x.desc.perTile * x.desc.rowT + 255 ≤ x.deadline ∧
      spClear s d x = true) ∧
    (∃ (d : Die) (ma : Ma) (c : Instr) (op : Nat) (s : State) (x : InFlight), (c, op) ∈ [(Instr.mm d ma, 0x01),
      (.mmX3 d ma, 0x02), (.mmC3 d ma, 0x03), (.mmC4 d ma, 0x04), (.mmSlice d ma, 0x05), (.ewMul d ma, 0x10)] ∧
      nextExec s d ma op = some x ∧ spHeld s d x.desc = false ∧ fmtOk x.desc = true ∧ s.stored = true ∧
      plainRun s x = true ∧ x.desc.iters = 1 ∧
      streamStart (x.issue + x.stalls) (getEngine s d ma).lastPass (getEngine s d ma).passEnd + x.desc.perTile * x.desc.rowT + 255 ≤ x.deadline ∧
      spClear s d x = true) ∧
    (∃ (d : Die) (ma : Ma) (c : Instr) (op : Nat) (s : State) (x : InFlight), (c, op) ∈ [(Instr.mm d ma, 0x01),
      (.mmX3 d ma, 0x02), (.mmC3 d ma, 0x03), (.mmC4 d ma, 0x04), (.mmSlice d ma, 0x05), (.ewMul d ma, 0x10)] ∧
      nextExec s d ma op = some x ∧ spHeld s d x.desc = false ∧ fmtOk x.desc = true ∧ s.stored = true ∧
      plainRun s x = true ∧ x.desc.iters = 1 ∧
      max (x.issue + x.stalls) (getEngine s d ma).passEnd + 256 ≤ x.deadline ∧ spClear s d x = true) ∧
    (∃ (d : Die) (ma : Ma) (c : Instr) (op : Nat) (s : State) (x : InFlight) (a : Nat), (c, op) ∈ [(Instr.mm d ma,
      0x01), (.mmX3 d ma, 0x02), (.mmC3 d ma, 0x03), (.mmC4 d ma, 0x04), (.mmSlice d ma, 0x05), (.ewMul d ma, 0x10)] ∧
      nextExec s d ma op = some x ∧ spHeld s d x.desc = false ∧ fmtOk x.desc = true ∧ s.stored = true ∧
      (¬ logged s d a) ∧ (¬ x.desc.touches x.desc.d x.desc.unitD a)) :=
  ⟨⟨0, 0, .mm 0 0, 1, runIn 0 (nearFly 1 1 2 0 0), nearFly 1 1 2 0 0, by refine ⟨by simp [mTo], ?_⟩; decide +kernel⟩,
    ⟨0, 0, .mmX3 0 0, 2, runIn 0 (nearFly 2 0 0 0 0), nearFly 2 0 0 0 0,
      by refine ⟨by simp [mTo], ?_⟩; decide +kernel⟩,
    ⟨0, 0, .mmC3 0 0, 3, runIn 0 (nearFly 3 1 2 0 0), nearFly 3 1 2 0 0,
      by refine ⟨by simp [mTo], ?_⟩; decide +kernel⟩,
    ⟨0, 0, .mmC4 0 0, 4, runIn 0 (nearFly 4 1 4 0 0), nearFly 4 1 4 0 0,
      by refine ⟨by simp [mTo], ?_⟩; decide +kernel⟩,
    ⟨0, 0, .mmSlice 0 0, 5, runIn 0 (nearFly 5 5 5 11 0), nearFly 5 5 5 11 0,
      by refine ⟨by simp [mTo], ?_⟩; decide +kernel⟩,
    ⟨0, 0, .ewMul 0 0, 16, runIn 0 (nearFly 16 4 4 2 0), nearFly 16 4 4 2 0,
      by refine ⟨by simp [mTo], ?_⟩; decide +kernel⟩,
    ⟨0, 0, .mm 0 0, 1, runIn 0 (nearFly 1 1 2 0 0), nearFly 1 1 2 0 0, 2 ^ 40,
      by refine ⟨by simp, by decide +kernel, by decide +kernel, by decide +kernel, by decide +kernel,
           unlogged rfl rfl, far rfl (by decide +kernel)⟩⟩⟩

theorem witness_VectorUnitsComputeConvertAndReduce :
    (∃ (d : Die) (c : Instr) (op : Nat) (s : State) (x : InFlight), (c, op) ∈ [(Instr.vadd d, 0x40), (.vsub d, 0x41),
      (.vmul d, 0x42), (.vfma d, 0x43), (.vmax d, 0x44), (.vmin d, 0x45), (.vselect d, 0x46)] ∧
      nextExec s d 2 op = some x ∧ spHeld s d x.desc = false ∧ fmtOk x.desc = true ∧ s.stored = true ∧
      plainRun s x = true ∧ x.desc.iters = 1 ∧ x.issue + x.stalls + 32 ≤ x.deadline ∧ spClear s d x = true) ∧
    (∃ (d : Die) (c : Instr) (op : Nat) (s : State) (x : InFlight), (c, op) ∈ [(Instr.vadd d, 0x40), (.vsub d, 0x41),
      (.vmul d, 0x42), (.vfma d, 0x43), (.vmax d, 0x44), (.vmin d, 0x45), (.vselect d, 0x46)] ∧
      nextExec s d 2 op = some x ∧ spHeld s d x.desc = false ∧ fmtOk x.desc = true ∧ s.stored = true ∧
      plainRun s x = true ∧ x.desc.iters = 1 ∧ x.issue + x.stalls + 32 ≤ x.deadline ∧ spClear s d x = true) ∧
    (∃ (d : Die) (c : Instr) (op : Nat) (s : State) (x : InFlight), (c, op) ∈ [(Instr.vadd d, 0x40), (.vsub d, 0x41),
      (.vmul d, 0x42), (.vfma d, 0x43), (.vmax d, 0x44), (.vmin d, 0x45), (.vselect d, 0x46)] ∧
      nextExec s d 2 op = some x ∧ spHeld s d x.desc = false ∧ fmtOk x.desc = true ∧ s.stored = true ∧
      plainRun s x = true ∧ x.desc.iters = 1 ∧ x.issue + x.stalls + 32 ≤ x.deadline ∧ spClear s d x = true) ∧
    (∃ (d : Die) (c : Instr) (op : Nat) (s : State) (x : InFlight), (c, op) ∈ [(Instr.vadd d, 0x40), (.vsub d, 0x41),
      (.vmul d, 0x42), (.vfma d, 0x43), (.vmax d, 0x44), (.vmin d, 0x45), (.vselect d, 0x46)] ∧
      nextExec s d 2 op = some x ∧ spHeld s d x.desc = false ∧ fmtOk x.desc = true ∧ s.stored = true ∧
      plainRun s x = true ∧ x.desc.iters = 1 ∧ x.issue + x.stalls + 32 ≤ x.deadline ∧ spClear s d x = true) ∧
    (∃ (d : Die) (c : Instr) (op : Nat) (s : State) (x : InFlight), (c, op) ∈ [(Instr.vadd d, 0x40), (.vsub d, 0x41),
      (.vmul d, 0x42), (.vfma d, 0x43), (.vmax d, 0x44), (.vmin d, 0x45), (.vselect d, 0x46)] ∧
      nextExec s d 2 op = some x ∧ spHeld s d x.desc = false ∧ fmtOk x.desc = true ∧ s.stored = true ∧
      plainRun s x = true ∧ x.desc.iters = 1 ∧ x.issue + x.stalls + 32 ≤ x.deadline ∧ spClear s d x = true) ∧
    (∃ (d : Die) (c : Instr) (op : Nat) (s : State) (x : InFlight), (c, op) ∈ [(Instr.vadd d, 0x40), (.vsub d, 0x41),
      (.vmul d, 0x42), (.vfma d, 0x43), (.vmax d, 0x44), (.vmin d, 0x45), (.vselect d, 0x46)] ∧
      nextExec s d 2 op = some x ∧ spHeld s d x.desc = false ∧ fmtOk x.desc = true ∧ s.stored = true ∧
      plainRun s x = true ∧ x.desc.iters = 1 ∧ x.issue + x.stalls + 32 ≤ x.deadline ∧ spClear s d x = true) ∧
    (∃ (d : Die) (c : Instr) (op : Nat) (s : State) (x : InFlight), (c, op) ∈ [(Instr.vadd d, 0x40), (.vsub d, 0x41),
      (.vmul d, 0x42), (.vfma d, 0x43), (.vmax d, 0x44), (.vmin d, 0x45), (.vselect d, 0x46)] ∧
      nextExec s d 2 op = some x ∧ spHeld s d x.desc = false ∧ fmtOk x.desc = true ∧ s.stored = true ∧
      plainRun s x = true ∧ x.desc.iters = 1 ∧ x.issue + x.stalls + 32 ≤ x.deadline ∧ spClear s d x = true) ∧
    (∃ (d : Die) (c : Instr) (op : Nat) (s : State) (x : InFlight), (c, op) ∈ [(Instr.vexp d, 0x48), (.vlog d, 0x49),
      (.vrecip d, 0x4A), (.vrsqrt d, 0x4B), (.vtanh d, 0x4C), (.vsigmoid d, 0x4D), (.vcvt d, 0x50), (.vred d, 0x58)] ∧
      nextExec s d 2 op = some x ∧ spHeld s d x.desc = false ∧ fmtOk x.desc = true ∧ s.stored = true ∧
      plainRun s x = true ∧ x.desc.iters = 1 ∧ x.issue + x.stalls + 32 ≤ x.deadline ∧ spClear s d x = true) ∧
    (∃ (d : Die) (c : Instr) (op : Nat) (s : State) (x : InFlight), (c, op) ∈ [(Instr.vexp d, 0x48), (.vlog d, 0x49),
      (.vrecip d, 0x4A), (.vrsqrt d, 0x4B), (.vtanh d, 0x4C), (.vsigmoid d, 0x4D), (.vcvt d, 0x50), (.vred d, 0x58)] ∧
      nextExec s d 2 op = some x ∧ spHeld s d x.desc = false ∧ fmtOk x.desc = true ∧ s.stored = true ∧
      plainRun s x = true ∧ x.desc.iters = 1 ∧ x.issue + x.stalls + 32 ≤ x.deadline ∧ spClear s d x = true) ∧
    (∃ (d : Die) (c : Instr) (op : Nat) (s : State) (x : InFlight), (c, op) ∈ [(Instr.vexp d, 0x48), (.vlog d, 0x49),
      (.vrecip d, 0x4A), (.vrsqrt d, 0x4B), (.vtanh d, 0x4C), (.vsigmoid d, 0x4D), (.vcvt d, 0x50), (.vred d, 0x58)] ∧
      nextExec s d 2 op = some x ∧ spHeld s d x.desc = false ∧ fmtOk x.desc = true ∧ s.stored = true ∧
      plainRun s x = true ∧ x.desc.iters = 1 ∧ x.issue + x.stalls + 32 ≤ x.deadline ∧ spClear s d x = true) ∧
    (∃ (d : Die) (c : Instr) (op : Nat) (s : State) (x : InFlight), (c, op) ∈ [(Instr.vexp d, 0x48), (.vlog d, 0x49),
      (.vrecip d, 0x4A), (.vrsqrt d, 0x4B), (.vtanh d, 0x4C), (.vsigmoid d, 0x4D), (.vcvt d, 0x50), (.vred d, 0x58)] ∧
      nextExec s d 2 op = some x ∧ spHeld s d x.desc = false ∧ fmtOk x.desc = true ∧ s.stored = true ∧
      plainRun s x = true ∧ x.desc.iters = 1 ∧ x.issue + x.stalls + 32 ≤ x.deadline ∧ spClear s d x = true) ∧
    (∃ (d : Die) (c : Instr) (op : Nat) (s : State) (x : InFlight), (c, op) ∈ [(Instr.vexp d, 0x48), (.vlog d, 0x49),
      (.vrecip d, 0x4A), (.vrsqrt d, 0x4B), (.vtanh d, 0x4C), (.vsigmoid d, 0x4D), (.vcvt d, 0x50), (.vred d, 0x58)] ∧
      nextExec s d 2 op = some x ∧ spHeld s d x.desc = false ∧ fmtOk x.desc = true ∧ s.stored = true ∧
      plainRun s x = true ∧ x.desc.iters = 1 ∧ x.issue + x.stalls + 32 ≤ x.deadline ∧ spClear s d x = true) ∧
    (∃ (d : Die) (c : Instr) (op : Nat) (s : State) (x : InFlight), (c, op) ∈ [(Instr.vexp d, 0x48), (.vlog d, 0x49),
      (.vrecip d, 0x4A), (.vrsqrt d, 0x4B), (.vtanh d, 0x4C), (.vsigmoid d, 0x4D), (.vcvt d, 0x50), (.vred d, 0x58)] ∧
      nextExec s d 2 op = some x ∧ spHeld s d x.desc = false ∧ fmtOk x.desc = true ∧ s.stored = true ∧
      plainRun s x = true ∧ x.desc.iters = 1 ∧ x.issue + x.stalls + 32 ≤ x.deadline ∧ spClear s d x = true) ∧
    (∃ (d : Die) (c : Instr) (op : Nat) (s : State) (x : InFlight), (c, op) ∈ [(Instr.vexp d, 0x48), (.vlog d, 0x49),
      (.vrecip d, 0x4A), (.vrsqrt d, 0x4B), (.vtanh d, 0x4C), (.vsigmoid d, 0x4D), (.vcvt d, 0x50), (.vred d, 0x58)] ∧
      nextExec s d 2 op = some x ∧ spHeld s d x.desc = false ∧ fmtOk x.desc = true ∧ s.stored = true ∧
      plainRun s x = true ∧ x.desc.iters = 1 ∧ x.issue + x.stalls + 32 ≤ x.deadline ∧ spClear s d x = true) ∧
    (∃ (d : Die) (c : Instr) (op : Nat) (s : State) (x : InFlight), (c, op) ∈ [(Instr.vexp d, 0x48), (.vlog d, 0x49),
      (.vrecip d, 0x4A), (.vrsqrt d, 0x4B), (.vtanh d, 0x4C), (.vsigmoid d, 0x4D), (.vcvt d, 0x50), (.vred d, 0x58)] ∧
      nextExec s d 2 op = some x ∧ spHeld s d x.desc = false ∧ fmtOk x.desc = true ∧ s.stored = true ∧
      plainRun s x = true ∧ x.desc.iters = 1 ∧ x.issue + x.stalls + 32 ≤ x.deadline ∧ spClear s d x = true) :=
  ⟨⟨0, .vadd 0, 64, runIn 2 (nearFly 64 0 1 2 0), nearFly 64 0 1 2 0, by refine ⟨by simp [mTo], ?_⟩; decide +kernel⟩,
    ⟨0, .vsub 0, 65, runIn 2 (nearFly 65 5 5 10 0), nearFly 65 5 5 10 0,
      by refine ⟨by simp [mTo], ?_⟩; decide +kernel⟩,
    ⟨0, .vmul 0, 66, runIn 2 (nearFly 66 3 4 1 0), nearFly 66 3 4 1 0, by refine ⟨by simp [mTo], ?_⟩; decide +kernel⟩,
    ⟨0, .vfma 0, 67, runIn 2 (nearFly 67 0 0 0 0), nearFly 67 0 0 0 0, by refine ⟨by simp [mTo], ?_⟩; decide +kernel⟩,
    ⟨0, .vmax 0, 68, runIn 2 (nearFly 68 10 10 10 0), nearFly 68 10 10 10 0,
      by refine ⟨by simp [mTo], ?_⟩; decide +kernel⟩,
    ⟨0, .vmin 0, 69, runIn 2 (nearFly 69 1 1 1 0), nearFly 69 1 1 1 0, by refine ⟨by simp [mTo], ?_⟩; decide +kernel⟩,
    ⟨0, .vselect 0, 70, runIn 2 (nearFly 70 0 5 1 0), nearFly 70 0 5 1 0,
      by refine ⟨by simp [mTo], ?_⟩; decide +kernel⟩,
    ⟨0, .vexp 0, 72, runIn 2 (nearFly 72 0 0 0 0), nearFly 72 0 0 0 0, by refine ⟨by simp [mTo], ?_⟩; decide +kernel⟩,
    ⟨0, .vlog 0, 73, runIn 2 (nearFly 73 0 0 1 0), nearFly 73 0 0 1 0, by refine ⟨by simp [mTo], ?_⟩; decide +kernel⟩,
    ⟨0, .vrecip 0, 74, runIn 2 (nearFly 74 1 0 1 0), nearFly 74 1 0 1 0,
      by refine ⟨by simp [mTo], ?_⟩; decide +kernel⟩,
    ⟨0, .vrsqrt 0, 75, runIn 2 (nearFly 75 2 0 2 0), nearFly 75 2 0 2 0,
      by refine ⟨by simp [mTo], ?_⟩; decide +kernel⟩,
    ⟨0, .vtanh 0, 76, runIn 2 (nearFly 76 3 0 3 0), nearFly 76 3 0 3 0, by refine ⟨by simp [mTo], ?_⟩; decide +kernel⟩,
    ⟨0, .vsigmoid 0, 77, runIn 2 (nearFly 77 4 0 4 0), nearFly 77 4 0 4 0,
      by refine ⟨by simp [mTo], ?_⟩; decide +kernel⟩,
    ⟨0, .vcvt 0, 80, runIn 2 (nearFly 80 10 0 5 0), nearFly 80 10 0 5 0,
      by refine ⟨by simp [mTo], ?_⟩; decide +kernel⟩,
    ⟨0, .vred 0, 88, runIn 2 (nearFly 88 0 0 0 0), nearFly 88 0 0 0 0, by refine ⟨by simp [mTo], ?_⟩; decide +kernel⟩⟩

theorem witness_VectorUnitsScaleSliceGatherAndScatter :
    (∃ (d : Die) (c : Instr) (op : Nat) (s : State) (x : InFlight), (c, op) ∈ [(Instr.vquant d, 0x51), (.vdequant d,
      0x52), (.vslice d, 0x53), (.vhred d, 0x59), (.vgather d, 0x60), (.vscatter d, 0x61)] ∧
      nextExec s d 2 op = some x ∧ spHeld s d x.desc = false ∧ fmtOk x.desc = true ∧ s.stored = true ∧
      plainRun s x = true ∧ x.desc.iters = 1 ∧ x.issue + x.stalls + 32 ≤ x.deadline ∧ spClear s d x = true) ∧
    (∃ (d : Die) (c : Instr) (op : Nat) (s : State) (x : InFlight), (c, op) ∈ [(Instr.vquant d, 0x51), (.vdequant d,
      0x52), (.vslice d, 0x53), (.vhred d, 0x59), (.vgather d, 0x60), (.vscatter d, 0x61)] ∧
      nextExec s d 2 op = some x ∧ spHeld s d x.desc = false ∧ fmtOk x.desc = true ∧ s.stored = true ∧
      plainRun s x = true ∧ x.desc.iters = 1 ∧ x.issue + x.stalls + 32 ≤ x.deadline ∧ spClear s d x = true) ∧
    (∃ (d : Die) (c : Instr) (op : Nat) (s : State) (x : InFlight), (c, op) ∈ [(Instr.vquant d, 0x51), (.vdequant d,
      0x52), (.vslice d, 0x53), (.vhred d, 0x59), (.vgather d, 0x60), (.vscatter d, 0x61)] ∧
      nextExec s d 2 op = some x ∧ spHeld s d x.desc = false ∧ fmtOk x.desc = true ∧ s.stored = true ∧
      plainRun s x = true ∧ x.desc.iters = 1 ∧ x.issue + x.stalls + 32 ≤ x.deadline ∧ spClear s d x = true ∧ (∀ a,
      x.desc.touches x.desc.b 4 a → ¬ x.desc.touches x.desc.d x.desc.unitD a)) ∧
    (∃ (d : Die) (c : Instr) (op : Nat) (s : State) (x : InFlight), (c, op) ∈ [(Instr.vquant d, 0x51), (.vdequant d,
      0x52), (.vslice d, 0x53), (.vhred d, 0x59), (.vgather d, 0x60), (.vscatter d, 0x61)] ∧
      nextExec s d 2 op = some x ∧ spHeld s d x.desc = false ∧ fmtOk x.desc = true ∧ s.stored = true ∧
      plainRun s x = true ∧ x.desc.iters = 1 ∧ x.issue + x.stalls + 32 ≤ x.deadline ∧ spClear s d x = true) ∧
    (∃ (d : Die) (c : Instr) (op : Nat) (s : State) (x : InFlight), (c, op) ∈ [(Instr.vquant d, 0x51), (.vdequant d,
      0x52), (.vslice d, 0x53), (.vhred d, 0x59), (.vgather d, 0x60), (.vscatter d, 0x61)] ∧
      nextExec s d 2 op = some x ∧ spHeld s d x.desc = false ∧ fmtOk x.desc = true ∧ s.stored = true ∧
      plainRun s x = true ∧ x.desc.iters = 1 ∧ x.issue + x.stalls + 32 ≤ x.deadline ∧
      (∀ b ∈ elems 10 256 (readBytes s (offset (x.desc.addrAt x.desc.b 0)) x.desc.unitB), goodIndex x.desc b = true) ∧
      spClear s d x = true) ∧
    (∃ (d : Die) (c : Instr) (op : Nat) (s : State) (x : InFlight), (c, op) ∈ [(Instr.vquant d, 0x51), (.vdequant d,
      0x52), (.vslice d, 0x53), (.vhred d, 0x59), (.vgather d, 0x60), (.vscatter d, 0x61)] ∧
      nextExec s d 2 op = some x ∧ spHeld s d x.desc = false ∧ fmtOk x.desc = true ∧ s.stored = true ∧
      plainRun s x = true ∧ x.desc.iters = 1 ∧ x.issue + x.stalls + 32 ≤ x.deadline ∧
      (∀ b ∈ elems 10 256 (readBytes s (offset (x.desc.addrAt x.desc.b 0)) x.desc.unitB), goodIndex x.desc b = true) ∧
      spClear s d x = true) :=
  ⟨⟨0, .vquant 0, 81, runIn 2 (nearFly 81 0 0 3 16), nearFly 81 0 0 3 16,
      by refine ⟨by simp [mTo], ?_⟩; decide +kernel⟩,
    ⟨0, .vdequant 0, 82, runIn 2 (nearFly 82 3 0 1 16), nearFly 82 3 0 1 16,
      by refine ⟨by simp [mTo], ?_⟩; decide +kernel⟩,
    ⟨0, .vslice 0, 83, runIn 2 (nearFly 83 11 10 5 0), nearFly 83 11 10 5 0,
      by refine ⟨by simp, by decide +kernel, by decide +kernel, by decide +kernel, by decide +kernel,
           by decide +kernel, by decide +kernel, by decide +kernel, by decide +kernel, ?_⟩;
           exact untouched (by decide +kernel)⟩,
    ⟨0, .vhred 0, 89, runIn 2 (nearFly 89 0 0 0 0), nearFly 89 0 0 0 0, by refine ⟨by simp [mTo], ?_⟩; decide +kernel⟩,
    ⟨0, .vgather 0, 96, runIn 2 (nearFly 96 0 10 0 65536), nearFly 96 0 10 0 65536,
      by refine ⟨by simp [mTo], ?_⟩; decide +kernel⟩,
    ⟨0, .vscatter 0, 97, runIn 2 (nearFly 97 0 10 0 65536), nearFly 97 0 10 0 65536,
      by refine ⟨by simp [mTo], ?_⟩; decide +kernel⟩⟩

theorem witness_CopyEnginesAndNearBankUnitsExecute :
    (∃ (d : Die) (ce : Ce) (lost : List Nat) (c : Instr) (op : Nat) (s : State) (x : InFlight), (c,
      op) ∈ [(Instr.copy d ce lost, 0x80), (.fill d ce lost, 0x81), (.atom d ce lost, 0x82)] ∧
      nextExec s d (3 + ce) op = some x ∧ copyHeld s d x.desc = false ∧ alignOk x.desc = true ∧ s.stored = true ∧
      plainRun s x = true ∧ x.desc.iters = 1 ∧ unhindered s d x = true ∧ x.fresh = true ∧
      copyCycle x.issue x.desc.unitD (x.desc.iters - 1) (unitParts x.desc.unitD - 1) + atomSpread d x.desc ≤ x.deadline ∧
      (∀ w ∈ s.txns, w.owner ≠ .eng d (3 + ce) x.uid) ∧ region (offset (x.desc.addrAt x.desc.d 0)) = .near d ∧
      region (offset (x.desc.addrAt x.desc.d 0) + x.desc.unitD - 1) = .near d ∧
      region (offset (x.desc.addrAt x.desc.a 0)) = .near d ∧
      region (offset (x.desc.addrAt x.desc.a 0) + x.desc.unitA - 1) = .near d ∧ op = 0x80) ∧
    (∃ (d : Die) (ce : Ce) (lost : List Nat) (c : Instr) (op : Nat) (s : State) (x : InFlight), (c,
      op) ∈ [(Instr.copy d ce lost, 0x80), (.fill d ce lost, 0x81), (.atom d ce lost, 0x82)] ∧
      nextExec s d (3 + ce) op = some x ∧ copyHeld s d x.desc = false ∧ alignOk x.desc = true ∧ s.stored = true ∧
      plainRun s x = true ∧ x.desc.iters = 1 ∧ unhindered s d x = true ∧ x.fresh = true ∧
      copyCycle x.issue x.desc.unitD (x.desc.iters - 1) (unitParts x.desc.unitD - 1) + atomSpread d x.desc ≤ x.deadline ∧
      (∀ w ∈ s.txns, w.owner ≠ .eng d (3 + ce) x.uid) ∧ region (offset (x.desc.addrAt x.desc.d 0)) = .near d ∧
      region (offset (x.desc.addrAt x.desc.d 0) + x.desc.unitD - 1) = .near d ∧ op = 0x81) ∧
    (∃ (d : Die) (ce : Ce) (lost : List Nat) (c : Instr) (op : Nat) (s : State) (x : InFlight), (c,
      op) ∈ [(Instr.copy d ce lost, 0x80), (.fill d ce lost, 0x81), (.atom d ce lost, 0x82)] ∧
      nextExec s d (3 + ce) op = some x ∧ copyHeld s d x.desc = false ∧ alignOk x.desc = true ∧ s.stored = true ∧
      plainRun s x = true ∧ x.desc.iters = 1 ∧ unhindered s d x = true ∧ x.fresh = true ∧
      copyCycle x.issue x.desc.unitD (x.desc.iters - 1) (unitParts x.desc.unitD - 1) + atomSpread d x.desc ≤ x.deadline ∧
      (∀ w ∈ s.txns, w.owner ≠ .eng d (3 + ce) x.uid) ∧ region (offset (x.desc.addrAt x.desc.d 0)) = .near d ∧
      region (offset (x.desc.addrAt x.desc.d 0) + x.desc.unitD - 1) = .near d ∧
      region (offset (x.desc.addrAt x.desc.a 0)) = .near d ∧
      region (offset (x.desc.addrAt x.desc.a 0) + x.desc.unitA - 1) = .near d ∧ op = 0x82 ∧ bits x.desc.imm 0 2 ≠ 1 ∧
      atomOk (offset (x.desc.addrAt x.desc.d 0)) 0 x.desc.fmtD = true) ∧
    (∃ (d : Die) (ce : Ce) (lost : List Nat) (c : Instr) (op : Nat) (s : State) (x : InFlight), (c,
      op) ∈ [(Instr.copy d ce lost, 0x80), (.fill d ce lost, 0x81), (.atom d ce lost, 0x82)] ∧
      nextExec s d (3 + ce) op = some x ∧ copyHeld s d x.desc = false ∧ alignOk x.desc = true ∧ s.stored = true ∧
      plainRun s x = true ∧ x.desc.iters = 1 ∧ unhindered s d x = true ∧ x.fresh = true ∧
      copyCycle x.issue x.desc.unitD (x.desc.iters - 1) (unitParts x.desc.unitD - 1) + atomSpread d x.desc ≤ x.deadline ∧
      (∀ w ∈ s.txns, w.owner ≠ .eng d (3 + ce) x.uid) ∧ region (offset (x.desc.addrAt x.desc.d 0)) = .near d ∧
      region (offset (x.desc.addrAt x.desc.d 0) + x.desc.unitD - 1) = .near d ∧
      region (offset (x.desc.addrAt x.desc.a 0)) = .near d ∧
      region (offset (x.desc.addrAt x.desc.a 0) + x.desc.unitA - 1) = .near d ∧
      region (offset (x.desc.addrAt x.desc.b 0)) = .near d ∧
      region (offset (x.desc.addrAt x.desc.b 0) + 32 - 1) = .near d ∧ op = 0x82 ∧ bits x.desc.imm 0 2 = 1 ∧
      atomOk (offset (x.desc.addrAt x.desc.d 0)) 3 x.desc.fmtD = true ∧
      offset (x.desc.addrAt x.desc.b 0) + 32 ≤ offset (x.desc.addrAt x.desc.d 0)) ∧
    (∃ (d : Die) (c : Instr) (op : Nat) (s : State) (x : InFlight), (c, op) ∈ [(Instr.nbLoad d, 0xC0), (.nbStore d,
      0xC1), (.nbMv d, 0xC8), (.nbReduce d, 0xC9), (.nbAxpy d, 0xCA), (.nbScale d, 0xCB), (.nbSearch d, 0xCC),
      (.nbTopk d, 0xCD)] ∧ nextExec s d 7 op = some x ∧ spHeld s d x.desc = false ∧ (getCd s d).near = 3 ∧
      plainRun s x = true ∧ s.stored = true ∧ x.desc.iters = 1 ∧ spClear s d x = true) ∧
    (∃ (d : Die) (c : Instr) (op : Nat) (s : State) (x : InFlight), (c, op) ∈ [(Instr.nbLoad d, 0xC0), (.nbStore d,
      0xC1), (.nbMv d, 0xC8), (.nbReduce d, 0xC9), (.nbAxpy d, 0xCA), (.nbScale d, 0xCB), (.nbSearch d, 0xCC),
      (.nbTopk d, 0xCD)] ∧ nextExec s d 7 op = some x ∧ spHeld s d x.desc = false ∧ (getCd s d).near = 3 ∧
      plainRun s x = true ∧ s.stored = true ∧ x.desc.iters = 1 ∧ spClear s d x = true) ∧
    (∃ (d : Die) (c : Instr) (op : Nat) (s : State) (x : InFlight), (c, op) ∈ [(Instr.nbLoad d, 0xC0), (.nbStore d,
      0xC1), (.nbMv d, 0xC8), (.nbReduce d, 0xC9), (.nbAxpy d, 0xCA), (.nbScale d, 0xCB), (.nbSearch d, 0xCC),
      (.nbTopk d, 0xCD)] ∧ nextExec s d 7 op = some x ∧ spHeld s d x.desc = false ∧ (getCd s d).near = 3 ∧
      plainRun s x = true ∧ s.stored = true ∧ x.desc.iters = 1 ∧ spClear s d x = true) ∧
    (∃ (d : Die) (c : Instr) (op : Nat) (s : State) (x : InFlight), (c, op) ∈ [(Instr.nbLoad d, 0xC0), (.nbStore d,
      0xC1), (.nbMv d, 0xC8), (.nbReduce d, 0xC9), (.nbAxpy d, 0xCA), (.nbScale d, 0xCB), (.nbSearch d, 0xCC),
      (.nbTopk d, 0xCD)] ∧ nextExec s d 7 op = some x ∧ spHeld s d x.desc = false ∧ (getCd s d).near = 3 ∧
      plainRun s x = true ∧ s.stored = true ∧ x.desc.iters = 1 ∧ spClear s d x = true) ∧
    (∃ (d : Die) (c : Instr) (op : Nat) (s : State) (x : InFlight), (c, op) ∈ [(Instr.nbLoad d, 0xC0), (.nbStore d,
      0xC1), (.nbMv d, 0xC8), (.nbReduce d, 0xC9), (.nbAxpy d, 0xCA), (.nbScale d, 0xCB), (.nbSearch d, 0xCC),
      (.nbTopk d, 0xCD)] ∧ nextExec s d 7 op = some x ∧ spHeld s d x.desc = false ∧ (getCd s d).near = 3 ∧
      plainRun s x = true ∧ s.stored = true ∧ x.desc.iters = 1 ∧ spClear s d x = true) ∧
    (∃ (d : Die) (c : Instr) (op : Nat) (s : State) (x : InFlight), (c, op) ∈ [(Instr.nbLoad d, 0xC0), (.nbStore d,
      0xC1), (.nbMv d, 0xC8), (.nbReduce d, 0xC9), (.nbAxpy d, 0xCA), (.nbScale d, 0xCB), (.nbSearch d, 0xCC),
      (.nbTopk d, 0xCD)] ∧ nextExec s d 7 op = some x ∧ spHeld s d x.desc = false ∧ (getCd s d).near = 3 ∧
      plainRun s x = true ∧ s.stored = true ∧ x.desc.iters = 1 ∧ spClear s d x = true) ∧
    (∃ (d : Die) (c : Instr) (op : Nat) (s : State) (x : InFlight), (c, op) ∈ [(Instr.nbLoad d, 0xC0), (.nbStore d,
      0xC1), (.nbMv d, 0xC8), (.nbReduce d, 0xC9), (.nbAxpy d, 0xCA), (.nbScale d, 0xCB), (.nbSearch d, 0xCC),
      (.nbTopk d, 0xCD)] ∧ nextExec s d 7 op = some x ∧ spHeld s d x.desc = false ∧ (getCd s d).near = 3 ∧
      plainRun s x = true ∧ s.stored = true ∧ x.desc.iters = 1 ∧ spClear s d x = true ∧ x.desc.keep = false) ∧
    (∃ (d : Die) (c : Instr) (op : Nat) (s : State) (x : InFlight), (c, op) ∈ [(Instr.nbLoad d, 0xC0), (.nbStore d,
      0xC1), (.nbMv d, 0xC8), (.nbReduce d, 0xC9), (.nbAxpy d, 0xCA), (.nbScale d, 0xCB), (.nbSearch d, 0xCC),
      (.nbTopk d, 0xCD)] ∧ nextExec s d 7 op = some x ∧ spHeld s d x.desc = false ∧ (getCd s d).near = 3 ∧
      plainRun s x = true ∧ s.stored = true ∧ x.desc.iters = 1 ∧ spClear s d x = true ∧ x.desc.keep = false) ∧
    (∃ (d : Die) (c : Instr) (op : Nat) (s : State) (x : InFlight), (c, op) ∈ [(Instr.nbLoad d, 0xC0), (.nbStore d,
      0xC1), (.nbMv d, 0xC8), (.nbReduce d, 0xC9), (.nbAxpy d, 0xCA), (.nbScale d, 0xCB), (.nbSearch d, 0xCC),
      (.nbTopk d, 0xCD)] ∧ nextExec s d 7 op = some x ∧ spHeld s d x.desc = false ∧ (getCd s d).near = 3 ∧
      plainRun s x = true ∧ s.stored = true ∧ x.desc.iters = 1 ∧ spClear s d x = true ∧ x.desc.keep = true) ∧
    (∃ (d : Die) (c : Instr) (op : Nat) (s : State) (x : InFlight), (c, op) ∈ [(Instr.nbLoad d, 0xC0), (.nbStore d,
      0xC1), (.nbMv d, 0xC8), (.nbReduce d, 0xC9), (.nbAxpy d, 0xCA), (.nbScale d, 0xCB), (.nbSearch d, 0xCC),
      (.nbTopk d, 0xCD)] ∧ nextExec s d 7 op = some x ∧ spHeld s d x.desc = false ∧ (getCd s d).near = 3 ∧
      plainRun s x = true ∧ s.stored = true ∧ x.desc.iters = 1 ∧ spClear s d x = true ∧ x.desc.keep = true) ∧
    (∃ (d : Die) (c : Instr) (op : Nat) (s : State) (x : InFlight) (a : Nat), (c, op) ∈ [(Instr.nbLoad d, 0xC0),
      (.nbStore d, 0xC1), (.nbMv d, 0xC8), (.nbReduce d, 0xC9), (.nbAxpy d, 0xCA), (.nbScale d, 0xCB), (.nbSearch d,
      0xCC), (.nbTopk d, 0xCD)] ∧ nextExec s d 7 op = some x ∧ spHeld s d x.desc = false ∧ (getCd s d).near = 3 ∧
      plainRun s x = true ∧ s.stored = true ∧ (¬ logged s d a) ∧ (¬ x.desc.touches x.desc.d x.desc.unitA a)) :=
  ⟨⟨0, 0, [], .copy 0 0 [], 128, runIn 3 (nearFly 128 0 0 0 7), nearFly 128 0 0 0 7,
      by refine ⟨by simp [mTo], ?_⟩; decide +kernel⟩,
    ⟨0, 0, [], .fill 0 0 [], 129, runIn 3 (nearFly 129 0 0 0 4294967295), nearFly 129 0 0 0 4294967295,
      by refine ⟨by simp [mTo], ?_⟩; decide +kernel⟩,
    ⟨0, 0, [], .atom 0 0 [], 130, runIn 3 (nearFly 130 0 0 10 0), nearFly 130 0 0 10 0,
      by refine ⟨by simp [mTo], ?_⟩; decide +kernel⟩,
    ⟨0, 0, [], .atom 0 0 [], 130, runIn 3 (nearFly 130 0 0 11 1), nearFly 130 0 0 11 1,
      by refine ⟨by simp [mTo], ?_⟩; decide +kernel⟩,
    ⟨0, .nbLoad 0, 192, runIn 7 (nearFly 192 0 0 0 16777216), nearFly 192 0 0 0 16777216,
      by refine ⟨by simp [mTo], ?_⟩; decide +kernel⟩,
    ⟨0, .nbStore 0, 193, runIn 7 (nearFly 193 0 0 0 16777216), nearFly 193 0 0 0 16777216,
      by refine ⟨by simp [mTo], ?_⟩; decide +kernel⟩,
    ⟨0, .nbMv 0, 200, runIn 7 (nearFly 200 5 5 10 16777216), nearFly 200 5 5 10 16777216,
      by refine ⟨by simp [mTo], ?_⟩; decide +kernel⟩,
    ⟨0, .nbReduce 0, 201, runIn 7 (nearFly 201 0 0 0 16777216), nearFly 201 0 0 0 16777216,
      by refine ⟨by simp [mTo], ?_⟩; decide +kernel⟩,
    ⟨0, .nbAxpy 0, 202, runIn 7 (nearFly 202 0 0 0 16777216), nearFly 202 0 0 0 16777216,
      by refine ⟨by simp [mTo], ?_⟩; decide +kernel⟩,
    ⟨0, .nbScale 0, 203, runIn 7 (nearFly 203 0 0 0 16777216), nearFly 203 0 0 0 16777216,
      by refine ⟨by simp [mTo], ?_⟩; decide +kernel⟩,
    ⟨0, .nbSearch 0, 204, runIn 7 (nearFly 204 3 3 0 16777216), nearFly 204 3 3 0 16777216,
      by refine ⟨by simp [mTo], ?_⟩; decide +kernel⟩,
    ⟨0, .nbTopk 0, 205, runIn 7 (nearFly 205 0 0 0 16777216), nearFly 205 0 0 0 16777216,
      by refine ⟨by simp [mTo], ?_⟩; decide +kernel⟩,
    ⟨0, .nbSearch 0, 204, runIn 7 (nearFly 204 3 3 0 16777217), nearFly 204 3 3 0 16777217,
      by refine ⟨by simp [mTo], ?_⟩; decide +kernel⟩,
    ⟨0, .nbTopk 0, 205, runIn 7 (nearFly 205 0 0 0 16777217), nearFly 205 0 0 0 16777217,
      by refine ⟨by simp [mTo], ?_⟩; decide +kernel⟩,
    ⟨0, .nbStore 0, 193, runIn 7 (nearFly 193 0 0 0 16777216), nearFly 193 0 0 0 16777216, 2 ^ 40,
      by refine ⟨by simp, by decide +kernel, by decide +kernel, by decide +kernel, by decide +kernel,
           by decide +kernel, unlogged rfl rfl, far rfl (by decide +kernel)⟩⟩⟩

theorem witness_MemoriesCorrectRefreshAndScrub :
    (∃ (d : Die) (off etype value : Nat) (swap collides : Bool) (s : State),
      atomOk (spBase d + off % spSize) (if swap then 3 else 0) etype = false) ∧
    (∃ (a : Nat) (s : State), tget 0 s.ecc (a / 8) = 1) ∧
    (∃ (d : Die) (s u : State), u = (d.val / 8 :: tickGroup { s with
      time := max s.time (getCd s d).refreshEnd } (d / 8)).foldl (fun s f => syncFacet f s) { s with
      time := max s.time (getCd s d).refreshEnd } ∧ mayRefresh u d = true ∧ s.stored = true) ∧
    (∃ (k : Die) (s : State), (getFd s k).state = 3 ∧ s.stored = true) ∧
    (∃ (line : Nat) (s : State), tget 0 s.ubuf line ≠ 0 ∧ s.stored = true) ∧
    (∃ (k : Die) (s : State), (getFd s k).state = 3 ∧ s.stored = true) ∧
    (∃ (d : Die) (off etype value : Nat) (swap collides : Bool) (s : State),
      atomOk (spBase d + off % spSize) 0 etype = true ∧ fmtBits etype / 8 = 4 ∧
      memReady s (spBase d + off % spSize) = true ∧ eccBad s ((spBase d + off % spSize) / 4 * 4) 4 = false ∧
      s.stored = true ∧
      spBusy s d inboundRank ((spBase d + off % spSize) / 4 * 4) 4 (inboundCycle s d ((spBase d + off % spSize) / 4 * 4) 4) = false ∧
      portAWrites s d ((spBase d + off % spSize) / 4 * 4) 4 (inboundCycle s d ((spBase d + off % spSize) / 4 * 4) 4) = false) ∧
    (∃ (d : Die) (off etype value : Nat) (swap collides : Bool) (s : State),
      atomOk (spBase d + off % spSize) 3 etype = true ∧ fmtBits etype / 8 = 8 ∧
      memReady s (spBase d + off % spSize) = true ∧ s.stored = true ∧
      spBusy s d inboundRank ((spBase d + off % spSize) / 8 * 8) 8 (inboundCycle s d ((spBase d + off % spSize) / 8 * 8) 8) = false ∧
      portAWrites s d ((spBase d + off % spSize) / 8 * 8) 8 (inboundCycle s d ((spBase d + off % spSize) / 8 * 8) 8) = true) ∧
    (∃ (f : Facet) (marginal : List (Nat × Nat)) (s : State), ticking (getFacet s f) = true ∧
      (getFacet s f).refreshOpen = false ∧ s.stored = true ∧ (getCd s 24).near = 3 ∧
      (getCd s 24).recheckPend = some 255 ∧ 24 ∈ facetDies f) ∧
    (∃ (f : Facet) (marginal : List (Nat × Nat)) (s : State), ticking (getFacet s f) = true ∧
      (getFacet s f).refreshOpen = false ∧ s.stored = true ∧ (getCd s 24).near = 3 ∧
      numGet s oNearRecheck (24 + 1) = 1 ∧ 24 ∈ facetDies f) ∧
    (∃ (d : Die) (s : State), (getCd s d).near = 3 ∧ s.stored = true ∧ (getCd s d).debt ≠ 4) ∧
    (∃ (d : Die) (s : State), (getCd s d).near = 3 ∧ s.stored = true ∧ (getCd s d).debt = 4) ∧
    (∃ (k : Die) (ch : Fin 16) (below : List Nat) (s : State), (getFd s k).state = 3 ∧
      tget 0 (getFd s k).marginGroup ch ≤ 1 ∧ rising none (getFd s k).marginGroup = true ∧ s.stored = true ∧
      1151 / 36 = 2 * ch + tget 0 (getFd s k).marginGroup ch ∧ 1151 ∈ below) ∧
    (∃ (d : Die) (off etype value : Nat) (swap collides : Bool) (s : State),
      atomOk (spBase d + off % spSize) 0 etype = true ∧ fmtBits etype / 8 = 4 ∧
      memReady s (spBase d + off % spSize) = true ∧ eccBad s ((spBase d + off % spSize) / 4 * 4) 4 = true ∧
      s.stored = true ∧
      spBusy s d inboundRank ((spBase d + off % spSize) / 4 * 4) 4 (inboundCycle s d ((spBase d + off % spSize) / 4 * 4) 4) = false ∧
      portAWrites s d ((spBase d + off % spSize) / 4 * 4) 4 (inboundCycle s d ((spBase d + off % spSize) / 4 * 4) 4) = false) :=
  ⟨⟨31, 0, 3, 5, true, false, lit, by decide +kernel⟩,
    ⟨15, { lit with ecc := [(1, 1)] }, by decide +kernel⟩,
    ⟨0, { facetIn 0 { state := 2, refreshOpen := true, cyc := 11850 } with cds := [(0, { near := 3, debt := -7 })] },
      _, by refine ⟨rfl, ?_⟩; decide +kernel⟩,
    ⟨31, fdIn 31 { state := 3 }, by decide +kernel⟩,
    ⟨0, { lit with ubuf := [(0, 1)] }, by decide +kernel⟩,
    ⟨31, fdIn 31 { state := 3 }, by decide +kernel⟩,
    ⟨0, 3, 10, 5, false, false, netOne, by decide +kernel⟩,
    ⟨0, 15360 * 4096, 11, 5, true, false, { lit with cds := [(0, { spDual := 2, acc := [{ write := true,
                                                                                          addr := spBase 0 + 15360 * 4096,
                                                                                          len := 128 }] })] },
      by decide +kernel⟩,
    ⟨3, [], { facetIn 3 { state := 2 } with cds := [(24, { near := 3, recheckPend := some 255 })] },
      by decide +kernel⟩,
    ⟨3, [], { facetIn 3 { state := 2 } with cds := [(24, { near := 3 })], mg.num := [(objKey oNearRecheck 25, 1)] },
      by decide +kernel⟩,
    ⟨31, cdIn 31 { near := 3, debt := 3 }, by decide +kernel⟩,
    ⟨31, cdIn 31 { near := 3, debt := 4 }, by decide +kernel⟩,
    ⟨31, 15, [1151], fdIn 31 { state := 3, marginGroup := [(15, 1)] }, by decide +kernel⟩,
    ⟨0, 0, 10, 5, false, false, { netOne with ecc := [(spBase 0 / 8, 2)] }, by decide +kernel⟩⟩

theorem witness_HostDiesAreAdmittedResetAndLost :
    (∃ (hd : Hd) (modules rate : Nat) (agreed : Bool) (identity : List Byte) (s : State) (strap : Nat),
      hubUp s = true ∧ s.hub.resumed = true ∧ (if hd = 0 then s.hub.hb0Failed else s.hub.hb1Failed) = false ∧
      (getHost s hd).admitted = false ∧ (getHost s hd).link ≠ 3 ∧
      strap = (if tget 0 s.straps (98 + hd) = 0 then 0 else admitStatus s [] (98 + hd)) ∧ s.stored = true ∧
      strap = 0 ∧ agreed = true ∧ modules ≠ 0 ∧ 16 ≤ rate) ∧
    (∃ (hd : Hd) (modules rate : Nat) (agreed : Bool) (identity : List Byte) (s : State) (strap : Nat),
      hubUp s = true ∧ s.hub.resumed = true ∧ (if hd = 0 then s.hub.hb0Failed else s.hub.hb1Failed) = false ∧
      (getHost s hd).admitted = false ∧ (getHost s hd).link ≠ 3 ∧
      strap = (if tget 0 s.straps (98 + hd) = 0 then 0 else admitStatus s [] (98 + hd)) ∧ s.stored = true ∧ rate < 16) ∧
    (∃ (hd : Hd) (modules rate : Nat) (agreed : Bool) (identity : List Byte) (s : State) (strap : Nat),
      hubUp s = true ∧ s.hub.resumed = true ∧ (if hd = 0 then s.hub.hb0Failed else s.hub.hb1Failed) = false ∧
      (getHost s hd).admitted = false ∧ (getHost s hd).link ≠ 3 ∧
      strap = (if tget 0 s.straps (98 + hd) = 0 then 0 else admitStatus s [] (98 + hd)) ∧ s.stored = true ∧ strap = 3) ∧
    (∃ (hd : Hd) (s : State), hubUp s = true ∧ s.hub.resumed = true ∧ (getHost s hd).admitted = false ∧
      (getHost s hd).link ≠ 3 ∧ s.stored = true) ∧
    (∃ (hd : Hd) (s : State), s.stored = true) ∧
    (∃ (hd : Hd) (retrained : Bool) (s : State), (getHost s hd).admitted = true ∧ s.stored = true ∧ retrained = false) ∧
    (∃ (hd : Hd) (retrained : Bool) (s : State), (getHost s hd).admitted = true ∧ s.stored = true ∧ retrained = true) ∧
    (∃ (hd : Hd) (v : Fin 8) (s : State), s.stored = true ∧ bit (getHost s hd).msixPend v = true) ∧
    (∃ (hd : Hd) (v : Fin 8) (s : State), s.stored = true ∧ bit (getHost s hd).msixPend v = false) ∧
    (∃ (hd : Hd) (v : Fin 8) (s : State), s.stored = true ∧ bit (getHost s hd).msixPend v = true) :=
  ⟨⟨1, 4, 16, true, [1], lit, _, by and_intros <;> first | decide +kernel | rfl⟩,
    ⟨1, 4, 15, true, [1], lit, _, by and_intros <;> first | decide +kernel | rfl⟩,
    ⟨1, 4, 16, true, [1], { lit with straps := [(99, 0xA1)] }, _, by and_intros <;> first | decide +kernel | rfl⟩,
    ⟨1, lit, by decide +kernel⟩,
    ⟨0, lit, by decide +kernel⟩,
    ⟨1, false, hosted, by decide +kernel⟩,
    ⟨1, true, hosted, by decide +kernel⟩,
    ⟨0, 7, { lit with hosts := [(0, { msixPend := 128 })] }, by decide +kernel⟩,
    ⟨0, 7, lit, by decide +kernel⟩,
    ⟨1, 7, { lit with hosts := [(1, { msixPend := 128 })] }, by decide +kernel⟩⟩

theorem witness_HostRequestsPassTheFirewall :
    (∃ (hd : Hd) (r : HostReq) (s : State), hubUp s = true ∧ (getHost s hd).admitted = true ∧ s.stored = true ∧
      barOffset hd r.bar r.off = none) ∧
    (∃ (hd : Hd) (r : HostReq) (s : State), hubUp s = true ∧ (getHost s hd).admitted = true ∧ s.stored = true ∧
      targetRefusal hd (xchBase 0) r = some 0) ∧
    (∃ (hd : Hd) (r : HostReq) (s : State), hubUp s = true ∧ (getHost s hd).admitted = true ∧ s.stored = true ∧
      targetRefusal hd (xchBase 0) r = none ∧ fwAdmit hd (xchBase 0) r s = .error 0) ∧
    (∃ (hd : Hd) (r : HostReq) (s : State), hubUp s = true ∧ (getHost s hd).admitted = true ∧ s.stored = true ∧
      fwAdmit hd (xchBase 0) r s = .error 1) ∧
    (∃ (hd : Hd) (r : HostReq) (s : State), hubUp s = true ∧ (getHost s hd).admitted = true ∧ s.stored = true ∧
      fwAdmit hd (xchBase 0) r s = .error 2) ∧
    (∃ (hd : Hd) (r : HostReq) (s : State), hubUp s = true ∧ (getHost s hd).admitted = true ∧ s.stored = true ∧
      barOffset hd r.bar r.off = some (xchBase 0) ∧ targetRefusal hd (xchBase 0) r = none ∧ (∃ u,
      fwAdmit hd (xchBase 0) r s = .ok u) ∧ r.op = .read ∧ eccBad s (xchBase 0) 4 = false) ∧
    (∃ (hd : Hd) (r : HostReq) (s : State), hubUp s = true ∧ (getHost s hd).admitted = true ∧ s.stored = true ∧
      barOffset hd r.bar r.off = some (xchBase 0) ∧ targetRefusal hd (xchBase 0) r = none ∧ (∃ u,
      fwAdmit hd (xchBase 0) r s = .ok u) ∧ xchLocked s hd 0 1 = false) ∧
    (∃ (hd : Hd) (r : HostReq) (s : State), hubUp s = true ∧ (getHost s hd).admitted = true ∧ s.stored = true ∧
      barOffset hd r.bar r.off = some (xchBase 0) ∧ targetRefusal hd (xchBase 0) r = none ∧ (∃ u,
      fwAdmit hd (xchBase 0) r s = .ok u) ∧ xchLocked s hd 0 1 = true) ∧
    (∃ (hd : Hd) (r : HostReq) (s : State), hubUp s = true ∧ (getHost s hd).admitted = true ∧ s.stored = true ∧
      barOffset hd r.bar r.off = some (xchBase 0) ∧ targetRefusal hd (xchBase 0) r = none ∧ (∃ u,
      fwAdmit hd (xchBase 0) r s = .ok u) ∧ xchLocked s hd 0 4 = false) ∧
    (∃ (hd : Hd) (r : HostReq) (s : State), hubUp s = true ∧ (getHost s hd).admitted = true ∧ s.stored = true ∧
      barOffset hd r.bar r.off = some (dmemBase 0 1) ∧ targetRefusal hd (dmemBase 0 1) r = none ∧ (∃ u,
      fwAdmit hd (dmemBase 0 1) r s = .ok u) ∧ region (dmemBase 0 1) = .dmem 0 1 0 ∧ (getHost s hd).waitReqs = [] ∧
      hubRoom s hd 0 = true) ∧
    (∃ (hd : Hd) (r : HostReq) (s : State), hubUp s = true ∧ (getHost s hd).admitted = true ∧ s.stored = true ∧
      barOffset hd r.bar r.off = some (ctrlBase 0 + 0x2000) ∧ targetRefusal hd (ctrlBase 0 + 0x2000) r = none ∧ (∃ u,
      fwAdmit hd (ctrlBase 0 + 0x2000) r s = .ok u) ∧ region (ctrlBase 0 + 0x2000) = .ctrl 0 0x2000 ∧
      (getHost s hd).waitReqs = [] ∧ hubRoom s hd 8 = true) ∧
    (∃ (hd : Hd) (r : HostReq) (s : State), hubUp s = true ∧ (getHost s hd).admitted = true ∧ s.stored = true ∧
      barOffset hd r.bar r.off = some (ctrlBase 0 + 0x2000) ∧ targetRefusal hd (ctrlBase 0 + 0x2000) r = none ∧ (∃ u,
      fwAdmit hd (ctrlBase 0 + 0x2000) r s = .ok u) ∧ region (ctrlBase 0 + 0x2000) = .ctrl 0 0x2000 ∧
      (getHost s hd).waitReqs = [] ∧ hubRoom s hd 8 = false) :=
  ⟨⟨0, { bar := 1 }, hosted, by decide +kernel⟩,
    ⟨0, { bar := 4, len := 0 }, hosted, by decide +kernel⟩,
    ⟨0, { bar := 4, len := 4 }, hosted, by and_intros <;> first | decide +kernel | exact isErr (by decide +kernel)⟩,
    ⟨0, { bar := 4, len := 4 }, fenced (window (xchBase 0) 0x4000000 6 0),
      by and_intros <;> first | decide +kernel | exact isErr (by decide +kernel)⟩,
    ⟨0, { bar := 4, len := 4097 }, fenced (window (xchBase 0) 0x4000000 7 1),
      by and_intros <;> first | decide +kernel | exact isErr (by decide +kernel)⟩,
    ⟨0, { bar := 4, len := 4 }, fenced (window (xchBase 0) 0x4000000 7 0),
      by and_intros <;> first | decide +kernel | exact isOk (by decide +kernel)⟩,
    ⟨0, { bar := 4, len := 1, data := [1], op := .write }, fenced (window (xchBase 0) 0x4000000 7 0),
      by and_intros <;> first | decide +kernel | exact isOk (by decide +kernel)⟩,
    ⟨0, { bar := 4, len := 1, data := [1], op := .write }, { fenced (window (xchBase 0) 0x4000000 7 0) with
      xch := [{ len := 32 }] }, by and_intros <;> first | decide +kernel | exact isOk (by decide +kernel)⟩,
    ⟨0, { bar := 4, len := 4, data := [1, 0, 0, 0], op := .atomic }, fenced (window (xchBase 0) 0x4000000 7 0),
      by and_intros <;> first | decide +kernel | exact isOk (by decide +kernel)⟩,
    ⟨0, { bar := 2, off := 0x100000, len := 8, op := .dmwr, data := List.replicate 8 1 },
      fenced (window (dmemBase 0 1) 0x100000 7 0),
      by and_intros <;> first | decide +kernel | exact isOk (by decide +kernel)⟩,
    ⟨0, { bar := 0, off := 0x402000, len := 8 }, fenced (window (ctrlBase 0) 0x10000 7 0),
      by and_intros <;> first | decide +kernel | exact isOk (by decide +kernel)⟩,
    ⟨0, { bar := 0, off := 0x402000, len := 8 }, { fenced (window (ctrlBase 0) 0x10000 7 0) with
      txns := [{ src := 0x80, len := Config.responseRoom 96 + 1 }] },
      by and_intros <;> first | decide +kernel | exact isOk (by decide +kernel) | rfl | (simp [hubRoom, hubUsed]; omega)⟩⟩

theorem witness_FirewallTablesAndDoorbells :
    (∃ (p : Path) (hd : Hd) (v : List Byte) (s : State), accepts s p oFwTable (hd + 1) v = true ∧ s.stored = true) ∧
    (∃ (hd : Hd) (ctx : Nat) (die : Die) (v : Nat) (s : State), 1 ≤ ctx ∧ ctx ≤ 255 ∧ s.stored = true ∧
      (getCtx s ctx).state = 4 ∧ bit (getCtx s ctx).mask (die / 8) = true ∧
      objSlot false (v / 2 ^ 32 % 512) = (getCtx s ctx).slot) ∧
    (∃ (hd : Hd) (ctx : Nat) (die : Die) (v : Nat) (s : State), 1 ≤ ctx ∧ ctx ≤ 255 ∧ s.stored = true ∧
      (getCtx s ctx).state = 0) ∧
    (∃ (hd : Hd) (ctx v : Nat) (s : State), 1 ≤ ctx ∧ ctx ≤ 255 ∧ s.stored = true ∧
      (v % 2 ^ 32 + 2 ^ 32 - xchHead s hd ctx) % 2 ^ 32 ≤ 16) ∧
    (∃ (hd : Hd) (ctx v : Nat) (s : State), 1 ≤ ctx ∧ ctx ≤ 255 ∧ s.stored = true ∧
      16 < (v % 2 ^ 32 + 2 ^ 32 - xchHead s hd ctx) % 2 ^ 32) :=
  ⟨⟨.mgt0, 1, window 0x1000 0x1000 7 1, lit, by decide +kernel⟩,
    ⟨0, 255, 7, 511 * 2 ^ 32 + 1, ctxIn 255 { state := 4, mask := 1, slot := 1 }, by decide +kernel⟩,
    ⟨0, 1, 7, 0, hosted, by decide +kernel⟩,
    ⟨0, 255, 16, hosted, by decide +kernel⟩,
    ⟨0, 1, 17, hosted, by decide +kernel⟩⟩

theorem witness_ExchangesRunAndComplete :
    (∃ (hd : Hd) (ctx : Nat) (s : State), (∀ x ∈ s.xch, x.hd ≠ hd.val) ∧ (∀ x ∈ s.txns, x.owner ≠ .xch hd) ∧
      xchNext s hd = some ctx ∧ s.stored = true ∧
      xchCheck s hd ctx (readBytes s (xchEntry hd ctx (xchHead s hd ctx)) 64) = 5) ∧
    (∃ (hd : Hd) (ctx : Nat) (s : State), (∀ x ∈ s.xch, x.hd ≠ hd.val) ∧ (∀ x ∈ s.txns, x.owner ≠ .xch hd) ∧
      xchNext s hd = some ctx ∧ s.stored = true ∧
      xchCheck s hd ctx (readBytes s (xchEntry hd ctx (xchHead s hd ctx)) 64) = 0) ∧
    (∃ (hd : Hd) (x : XchSt) (s : State), (s.xch.find? (fun x => x.hd == hd.val ∧ x.waiting == 0) = some x) ∧
      x.ctx ≤ 255 ∧ x.off + x.len ≤ 0x4000000 ∧ (x.dir = 1 ∨ x.dir = 2) ∧ s.stored = true) ∧
    (∃ (hd : Hd) (x : XchSt) (s : State), (s.xch.find? (fun x => x.hd == hd.val ∧ x.waiting == 0) = some x) ∧
      x.ctx ≤ 255 ∧ x.off + x.len ≤ 0x4000000 ∧ (x.dir = 1 ∨ x.dir = 2) ∧ s.stored = true ∧ hasKey s x.ctx = true ∧
      x.signal = true) ∧
    (∃ (hd : Hd) (x : XchSt) (s : State), s.xch.find? (fun x => x.hd == hd.val && x.waiting == 0) = some x ∧
      x.ctx ≤ 255 ∧ x.off + x.len ≤ 0x4000000 ∧ (x.dir = 1 ∨ x.dir = 2) ∧ s.stored = true ∧ hasKey s x.ctx = true ∧
      x.dir = 2) ∧
    (∃ (hd : Hd) (x : XchSt) (s : State), s.xch.find? (fun x => x.hd == hd.val && x.waiting == 0) = some x ∧
      x.ctx ≤ 255 ∧ x.off + x.len ≤ 0x4000000 ∧ (x.dir = 1 ∨ x.dir = 2) ∧ s.stored = true ∧ hasKey s x.ctx = true ∧
      x.signal = true ∧ delivered s ({ dst := x.die, src := 0x80 + hd, op := 4, pclass := 3, ctx := x.ctx,
                                       gen := x.gen, len := 1, origin := 2, posted := true,
                                       slot := (getCtx s x.ctx).slot, addr := ctrlBase x.die + 4 * x.sem,
                                       data := leBytes 4 1 }) = true) ∧
    (∃ (hd : Hd) (x : XchSt) (s : State), s.xch.find? (fun x => x.hd == hd.val && x.waiting == 0) = some x ∧
      x.ctx ≤ 255 ∧ x.off + x.len ≤ 0x4000000 ∧ (x.dir = 1 ∨ x.dir = 2) ∧ s.stored = true ∧ (hasKey s x.ctx = false ∨
      x.signal = false)) :=
  ⟨⟨0, 255, { hosted with mem := [(doorPage 0 255 + 0x100, 1)] }, by refine ⟨nofun, nofun, ?_⟩; decide +kernel⟩,
    ⟨0, 1, { fenced (leBytes 8 (xchBase 0) ++ leBytes 8 0x4000000 ++ [0, 0, 0, 0, 0, 0, 0, 0, 0, 16, 0, 0, 1]
             ++ List.replicate 995 0) with ctxs := [(1, { state := 3 })], owner := [(ownKey 1 0 0, 1)],
                                           sec.keys := [(1, { key := [1] })], mem := [(doorPage 0 1 + 0x100, 1),
                                           (xchEntry 0 1 0, 2), (xchEntry 0 1 0 + 12, 32)] },
      by refine ⟨nofun, nofun, ?_⟩; decide +kernel⟩,
    ⟨0, { ctx := 255, dir := 1, off := 0x4000000 }, { hosted with xch := [{ ctx := 255, dir := 1, off := 0x4000000 }]
                                                                  }, by decide +kernel⟩,
    ⟨0, { ctx := 1, dir := 2, len := 32, signal := true }, { hosted with xch := [{ ctx := 1, dir := 2, len := 32,
                                                                                   signal := true }], sec.keys := [(1,
                                                                         { key := [1] })] }, by decide +kernel⟩,
    ⟨0, { ctx := 1, dir := 2, len := 32, signal := true }, { hosted with xch := [{ ctx := 1, dir := 2, len := 32,
                                                                                   signal := true }], admitted := [(0,
                                                                         1)], ctxs := [(1, { state := 3,
                                                                                             mask := 1 })],
                                                                         links := [], sec.keys := [(1, { key := [1]
                                                                                                         })] },
      by refine ⟨by decide +kernel, by decide +kernel, by decide +kernel, .inr rfl, rfl, by decide +kernel, rfl⟩⟩,
    ⟨0, { ctx := 1, dir := 2, len := 32, signal := true }, openAll ({ hosted with xch := [{ ctx := 1, dir := 2,
                                                                                            len := 32,
                                                                                            signal := true }],
                                                                                  admitted := [(0, 1)], ctxs := [(1,
                                                                                  { state := 3, mask := 1 })],
                                                                                  links := [(132, { state := 3 })],
                                                                                  sec.keys := [(1, { key := [1] })] }),
      by refine ⟨by decide +kernel, by decide +kernel, by decide +kernel, .inr rfl, rfl, by decide +kernel, rfl, ?_⟩;
           decide +kernel⟩,
    ⟨1, { hd := 1, ctx := 255, dir := 1, off := 0x4000000 }, { hosted with xch := [{ hd := 1, ctx := 255, dir := 1,
                                                                                     off := 0x4000000 }] },
      by decide +kernel⟩⟩

theorem witness_TheMailboxTakesAndAnswersCommands :
    (∃ (hd : Hd) (s : State), hostLive s hd = true ∧ s.stored = true ∧ (getHost s hd).busy = true) ∧
    (∃ (hd : Hd) (s : State), hostLive s hd = true ∧ s.stored = true ∧ (getHost s hd).busy = false ∧
      knownCmd (leNat (readBytes s (mailBase hd) 2)) = true) ∧
    (∃ (hd : Hd) (s : State), hostLive s hd = true ∧ s.stored = true ∧ (getHost s hd).busy = false ∧
      knownCmd (leNat (readBytes s (mailBase hd) 2)) = false ∧ mailReady s hd = true) ∧
    (∃ (hd : Hd) (ix sub : Nat) (s : State), mailReady s hd = true ∧ s.stored = true) ∧
    (∃ (hd : Hd) (ix sub st : Nat) (v : List Byte) (s : State),
      st = writeStatus s (if hd = 0 then .hd0 else .hd1) ix sub v ∧ st ≠ 0 ∧ mailReady s hd = true ∧ s.stored = true) ∧
    (∃ (hd : Hd) (ix sub : Nat) (o : Obj) (v : List Byte) (s : State), findObj ix sub = some o ∧ isCommand o = false ∧
      o.effect ≠ 1 ∧ isGeometry (objKey ix sub) = false ∧ writeStatus s (if hd = 0 then .hd0 else .hd1) ix sub v = 0 ∧
      mailReady s hd = true ∧ s.stored = true) ∧
    (∃ (hd : Hd) (ix sub : Nat) (o : Obj) (v : List Byte) (s : State), findObj ix sub = some o ∧ isCommand o = false ∧
      o.effect ≠ 1 ∧ isGeometry (objKey ix sub) = false ∧ writeStatus s (if hd = 0 then .hd0 else .hd1) ix sub v = 0 ∧
      mailReady s hd = true ∧ s.stored = true ∧ o.persist = true) ∧
    (∃ (hd : Hd) (ix sub : Nat) (s : State), mailLive s hd = true ∧ allRefused s = true ∧ s.stored = true) :=
  ⟨⟨1, { lit with hosts := [(1, { admitted := true, busy := true })] }, by decide +kernel⟩,
    ⟨0, { hosted with mem := [(mailBase 0, 1), (mailBase 0 + 1, 1)] }, by decide +kernel⟩,
    ⟨0, hosted, by decide +kernel⟩,
    ⟨1, oFrameCycles, 4, hosted, by decide +kernel⟩,
    ⟨1, 0, 0, 5, [], hosted, by decide +kernel⟩,
    ⟨1, oFrameCycles, 4, _, [0xA0, 0x0F], hosted, by refine ⟨rfl, ?_⟩; decide +kernel⟩,
    ⟨1, 0x2000, 1, _, [0xA0, 0x0F], hosted, by refine ⟨rfl, ?_⟩; decide +kernel⟩,
    ⟨1, 0, 0, { hosted with pw.tripped := true }, by decide +kernel⟩⟩

theorem witness_ContextsAreCreatedAssignedAndBound :
    (∃ (hd : Hd) (s : State), mailReady s hd = true ∧ s.stored = true ∧ lcState s = 2 ∧ freeCtx s = some 1) ∧
    (∃ (hd : Hd) (s : State), mailReady s hd = true ∧ s.stored = true ∧ lcState s ≠ 2) ∧
    (∃ (hd : Hd) (c kind d first count : Nat) (s : State), mailReady s hd = true ∧ s.stored = true ∧
      (getCtx s c).state = 1 ∧ unitRange kind d first count = true ∧
      ((unitList first count).any (fun u => owner s kind d u != 0 ∧ owner s kind d u != c) = false)) ∧
    (∃ (hd : Hd) (c kind d first count : Nat) (s : State), mailReady s hd = true ∧ s.stored = true ∧
      unitRange kind d first count = false) ∧
    (∃ (hd : Hd) (c kind d first count : Nat) (s : State), mailReady s hd = true ∧ s.stored = true ∧
      (unitList first count).any (fun u => owner s kind d u != c) = false) ∧
    (∃ (hd : Hd) (c mask slot dhd off size : Nat) (maps : List Nat) (s : State), mailReady s hd = true ∧
      s.stored = true ∧ (getCtx s c).state = 1) ∧
    (∃ (hd : Hd) (c mask slot dhd off size : Nat) (maps : List Nat) (s : State), mailReady s hd = true ∧
      s.stored = true ∧ mask = 0) ∧
    (∃ (hd : Hd) (s : State), mailReady s hd = true ∧ s.stored = true ∧ (lcState s ≠ 2 ∨ freeCtx s = none)) ∧
    (∃ (hd : Hd) (c kind d first count : Nat) (s : State), mailReady s hd = true ∧ s.stored = true ∧ ((if c = 0 ∨
      255 < c then 2 else if (getCtx s c).state = 0 ∨
      5 ≤ (getCtx s c).state then 1 else if unitRange kind d first count = false then 2 else if (unitList first count).any (fun u => owner s kind d u != 0 && owner s kind d u != c) then 1 else 0) ≠ 0)) ∧
    (∃ (hd : Hd) (c kind d first count : Nat) (s : State), mailReady s hd = true ∧ s.stored = true ∧ ((if c = 0 ∨
      255 < c then 2 else if (getCtx s c).state = 0 ∨
      5 ≤ (getCtx s c).state then 1 else if unitRange kind d first count = false then 2 else if (unitList first count).any (fun u => owner s kind d u != 0 && owner s kind d u != c) then 1 else 0) ≠ 0)) ∧
    (∃ (hd : Hd) (c kind d first count : Nat) (s : State), mailReady s hd = true ∧ s.stored = true ∧ ((if c = 0 ∨
      255 < c then 2 else if (getCtx s c).state = 0 ∨
      5 ≤ (getCtx s c).state then 1 else if unitRange kind d first count = false then 2 else if (unitList first count).any (fun u => owner s kind d u != 0 && owner s kind d u != c) then 1 else 0) ≠ 0)) ∧
    (∃ (hd : Hd) (c kind d first count : Nat) (s : State), mailReady s hd = true ∧ s.stored = true ∧ ((if c = 0 ∨
      255 < c then 2 else if (getCtx s c).state = 0 ∨
      5 ≤ (getCtx s c).state then 1 else if unitRange kind d first count = false then 2 else if (unitList first count).any (fun u => owner s kind d u != 0 && owner s kind d u != c) then 1 else 0) = 0) ∧
      kind ≠ 0) ∧
    (∃ (hd : Hd) (c kind d first count : Nat) (s : State), mailReady s hd = true ∧ s.stored = true ∧ ((if c = 0 ∨
      255 < c then 2 else if (getCtx s c).state = 0 ∨
      5 ≤ (getCtx s c).state then 1 else if unitRange kind d first count = false then 2 else if (unitList first count).any (fun u => owner s kind d u != 0 && owner s kind d u != c) then 1 else 0) = 0) ∧
      kind = 0 ∧ (getFacet s (d / 8)).state = 2 ∧ 16383 ∈ unitList first count) ∧
    (∃ (hd : Hd) (c kind d first count : Nat) (s : State), mailReady s hd = true ∧ s.stored = true ∧ ((if c = 0 ∨
      255 < c then 2 else if (getCtx s c).state ≠ 1 then 1 else if unitRange kind d first count = false then 2 else if (unitList first count).any (fun u => owner s kind d u != c) then 1 else 0) ≠ 0)) ∧
    (∃ (hd : Hd) (c kind d first count : Nat) (s : State), mailReady s hd = true ∧ s.stored = true ∧ ((if c = 0 ∨
      255 < c then 2 else if (getCtx s c).state ≠ 1 then 1 else if unitRange kind d first count = false then 2 else if (unitList first count).any (fun u => owner s kind d u != c) then 1 else 0) = 0) ∧
      (∀ u ∈ unitList first count, 0 ≠ ownKey kind d u)) :=
  ⟨⟨0, { hosted with sec.lc := 3 }, by decide +kernel⟩,
    ⟨0, hosted, by decide +kernel⟩,
    ⟨0, 255, 0, 31, 16383, 1, ctxIn 255 { state := 1 }, by decide +kernel⟩,
    ⟨0, 255, 0, 31, 16384, 1, ctxIn 255 { state := 1 }, by decide +kernel⟩,
    ⟨0, 255, 2, 31, 767, 1, { ctxIn 255 { state := 1 } with owner := [(ownKey 2 31 767, 255)] }, by decide +kernel⟩,
    ⟨0, 255, 15, 1, 1, 0, 0, [], ctxIn 255 { state := 1 }, by decide +kernel⟩,
    ⟨0, 255, 0, 1, 1, 0, 0, [], ctxIn 255 { state := 1 }, by decide +kernel⟩,
    ⟨0, hosted, by decide +kernel⟩,
    ⟨0, 255, 0, 31, 16384, 1, ctxIn 255 { state := 1 }, by decide +kernel⟩,
    ⟨0, 1, 0, 0, 0, 1, hosted, by decide +kernel⟩,
    ⟨0, 1, 0, 0, 0, 1, { ctxIn 1 { state := 1 } with owner := [(ownKey 0 0 0, 256 + 1)] }, by decide +kernel⟩,
    ⟨0, 255, 2, 31, 767, 1, ctxIn 255 { state := 1 }, by decide +kernel⟩,
    ⟨0, 255, 0, 31, 16383, 1, { hosted with ctxs := [(255, { state := 4 })], facets := [(3, { state := 2 })] },
      by decide +kernel⟩,
    ⟨0, 1, 0, 0, 0, 1, ctxIn 1 { state := 1 }, by decide +kernel⟩,
    ⟨0, 255, 2, 31, 767, 1, { ctxIn 255 { state := 1 } with owner := [(ownKey 2 31 767, 255)] }, by decide +kernel⟩⟩

theorem witness_ContextsAreTornDown :
    (∃ (c n : Nat) (s : State), atStep s c 3 = true ∧ (∀ x ∈ s.txns, x.ctx = c → x.gen = (tearOf s c).oldGen →
      ∀ d e u, x.owner ≠ .eng d e u) ∧ n = dumpSize (maskDies (getCtx s c).mask).length ∧
      (dumpFlags s c (tearOf s c) = 0 → dumpWaits s (tearOf s c) n = false) ∧ s.stored = true ∧
      dumpFlags s c (tearOf s c) ≠ 0 ∧ injIdle s) ∧
    (∃ (c n : Nat) (s : State), atStep s c 3 = true ∧ (∀ x ∈ s.txns, x.ctx = c → x.gen = (tearOf s c).oldGen →
      ∀ d e u, x.owner ≠ .eng d e u) ∧ n = dumpSize (maskDies (getCtx s c).mask).length ∧
      (dumpFlags s c (tearOf s c) = 0 → dumpWaits s (tearOf s c) n = false) ∧ s.stored = true ∧
      dumpFlags s c (tearOf s c) = 0 ∧ injIdle s) ∧
    (∃ (c : Nat) (s : State), atStep s c 6 = true ∧ s.stored = true) ∧
    (∃ (c : Nat) (s : State), atStep s c 7 = true ∧ (∀ f, f < 4 → (getFacet s f).rstStep ≠ 1) ∧ s.hub.resumed = true ∧
      s.stored = true ∧ (tearOf s c).release = true) ∧
    (∃ (c : Nat) (s : State), atStep s c 7 = true ∧ (∀ f, f < 4 → (getFacet s f).rstStep ≠ 1) ∧ s.hub.resumed = true ∧
      s.stored = true ∧ (tearOf s c).release = false ∧ (tearOf s c).bound = true) ∧
    (∃ (kind : UnitKind) (d : Die) (u k : Nat) (s : State), k = unitCode kind ∧ 256 ≤ owner s k d u ∧ s.stored = true) ∧
    (∃ (hd : Hd) (c dhd off size : Nat) (s : State), mailReady s hd = true ∧ s.stored = true ∧ ((if c = 0 ∨
      255 < c then 2 else if ¬ (1 ≤ (getCtx s c).state ∧
      (getCtx s c).state ≤ 4) then 1 else if 1 < dhd then 2 else 0) = 0) ∧ ((s.xch.getD 0 {}).ctx) = c ∧
      s.xch.length = 1) ∧
    (∃ (hd : Hd) (c : Nat) (s : State), mailReady s hd = true ∧ s.stored = true ∧ ((if c = 0 ∨
      255 < c then 2 else if (getCtx s c).state = 0 ∨ (getCtx s c).state = 6 ∨ ((getCtx s c).state = 5 ∧
      ((tearOf s c).byRelease = true ∨ (tearOf s c).release = true)) then 1 else 0) = 0) ∧ (getCtx s c).state = 5) ∧
    (∃ (hd : Hd) (c : Nat) (s : State), mailReady s hd = true ∧ s.stored = true ∧ ((if c = 0 ∨
      255 < c then 2 else if (getCtx s c).state = 0 ∨ (getCtx s c).state = 6 ∨ ((getCtx s c).state = 5 ∧
      ((tearOf s c).byRelease = true ∨ (tearOf s c).release = true)) then 1 else 0) = 0) ∧ 1 ≤ (getCtx s c).state ∧
      (getCtx s c).state ≤ 4) ∧
    (∃ (hd : Hd) (c : Nat) (s : State), mailReady s hd = true ∧ s.stored = true ∧ ((if c = 0 ∨
      255 < c then 2 else if (getCtx s c).state = 0 ∨ (getCtx s c).state = 6 ∨ ((getCtx s c).state = 5 ∧
      ((tearOf s c).byRelease = true ∨ (tearOf s c).release = true)) then 1 else 0) ≠ 0)) ∧
    (∃ (hd : Hd) (c dhd off size : Nat) (s : State), mailReady s hd = true ∧ s.stored = true ∧ ((if c = 0 ∨
      255 < c then 2 else if ¬ (1 ≤ (getCtx s c).state ∧
      (getCtx s c).state ≤ 4) then 1 else if 1 < dhd then 2 else 0) ≠ 0)) ∧
    (∃ (c n : Nat) (s : State), atStep s c 3 = true ∧ (∀ x ∈ s.txns, x.ctx = c → x.gen = (tearOf s c).oldGen →
      ∀ d e u, x.owner ≠ .eng d e u) ∧ n = dumpSize (maskDies (getCtx s c).mask).length ∧
      (dumpFlags s c (tearOf s c) = 0 → dumpWaits s (tearOf s c) n = false) ∧ s.stored = true ∧ injIdle s ∧
      (getCtx s c).injected = false) ∧
    (∃ (c : Nat) (s : State), atStep s c 7 = true ∧ (∀ f, f < 4 → (getFacet s f).rstStep ≠ 1) ∧ s.hub.resumed = true ∧
      s.stored = true ∧ (tearOf s c).bound = true ∧ (if (getCtx s c).slot = 0 then 511 < 384 else 384 ≤ 511 ∧
      511 < 512) ∧ 0 ∈ maskDies (getCtx s c).mask) ∧
    (∃ (c n : Nat) (s : State), atStep s c 3 = true ∧ (∀ x ∈ s.txns, x.ctx = c → x.gen = (tearOf s c).oldGen →
      ∀ d e u, x.owner ≠ .eng d e u) ∧ n = dumpSize (maskDies (getCtx s c).mask).length ∧
      (dumpFlags s c (tearOf s c) = 0 → dumpWaits s (tearOf s c) n = false) ∧ s.stored = true ∧
      (getCtx s c).injected = true ∧ drainPorts s ≠ []) :=
  ⟨⟨255, _, tornAt 3 {},
      by refine ⟨by decide +kernel, nofun, rfl, fun h => absurd h (by decide +kernel), rfl, by decide +kernel,
           idleOf rfl rfl⟩⟩,
    ⟨255, _, { tornAt 3 { dumpSize := 80 + 16656 * 8 } with sec.keys := [(255, { key := [1] })] },
      by refine ⟨by decide +kernel, nofun, rfl, by decide +kernel, by decide +kernel, by decide +kernel,
           idleOf rfl rfl⟩⟩,
    ⟨255, tornAt 6 {}, by decide +kernel⟩,
    ⟨255, tornAt 7 { release := true }, by decide +kernel⟩,
    ⟨255, tornAt 7 { bound := true }, by decide +kernel⟩,
    ⟨.slot, 31, 16383, _, { lit with owner := [(ownKey 0 31 16383, 511)] }, by refine ⟨rfl, ?_⟩; decide +kernel⟩,
    ⟨0, 255, 1, 0, 0, { ctxIn 255 { state := 3, mask := 1 } with xch := [{ ctx := 255 }] }, by decide +kernel⟩,
    ⟨0, 255, tornAt 5 {}, by decide +kernel⟩,
    ⟨0, 255, ctxIn 255 { state := 4 }, by decide +kernel⟩,
    ⟨0, 1, hosted, by decide +kernel⟩,
    ⟨0, 255, 2, 0, 0, ctxIn 255 { state := 1 }, by decide +kernel⟩,
    ⟨255, _, tornAt 3 {},
      by refine ⟨by decide +kernel, nofun, rfl, fun h => absurd h (by decide +kernel), rfl, idleOf rfl rfl,
           by decide +kernel⟩⟩,
    ⟨1, { ctxIn 1 { state := 5, mask := 1, slot := 1, td := some { step := 7, bound := true } } with sems := [] },
      by decide +kernel⟩,
    ⟨255, _, { ctxIn 255 { state := 5, gen := 7, mask := 1, injected := true, td := some { step := 3 } } with
      oes := [(0, { state := 5, peerKnown := true, peerNode := 1 })] },
      by refine ⟨by decide +kernel, nofun, rfl, fun h => absurd h (by decide +kernel), ?_⟩; decide +kernel⟩⟩

theorem witness_FacetResetsTearDownThenCutPower :
    (∃ (p : Path) (f : Facet) (v : Nat) (s : State), accepts s p oFacetReset (f + 1) [byte v] = true ∧
      s.stored = true ∧ (getFacet s f).rstStep ≠ 1 ∧ (getFacet s f).state ≠ 0 ∧ (∃ c, bit (getCtx s c).mask f = true ∧
      (getCtx s c).state ≠ 0 ∧ (getCtx s c).state ≠ 6)) ∧
    (∃ (p : Path) (f : Facet) (v : Nat) (s : State), accepts s p oFacetReset (f + 1) [byte v] = true ∧
      s.stored = true ∧ (getFacet s f).rstStep ≠ 1 ∧ (getFacet s f).state ≠ 0 ∧ s.mg.pend = [] ∧ s.ctxs = []) ∧
    (∃ (p : Path) (f : Facet) (v : Nat) (s : State), accepts s p oFacetReset (f + 1) [byte v] = true ∧
      s.stored = true ∧ (getFacet s f).rstStep = 1) ∧
    (∃ (p : Path) (f : Facet) (v : Nat) (s : State), accepts s p oFacetReset (f + 1) [byte v] = true ∧
      s.stored = true ∧ (getFacet s f).rstStep = 0 ∧ (getFacet s f).state = 0 ∧ s.mg.pend = [] ∧
      numGet s oFacetEnable (f + 1) = 1) ∧
    (∃ (p : Path) (f : Facet) (v : Nat) (s : State), accepts s p oFacetReset (f + 1) [byte v] = true ∧
      s.stored = true ∧ (getFacet s f).rstStep ≠ 1 ∧ (getFacet s f).state ≠ 0 ∧ bit (getCtx s 255).mask f = true ∧
      (getCtx s 255).state ≠ 0 ∧ (getCtx s 255).state ≠ 6) :=
  ⟨⟨.mgt0, 3, 257, { facetIn 3 { state := 2 } with ctxs := [(255, { state := 3, mask := 8 })] },
      by refine ⟨by decide +kernel, by decide +kernel, by decide +kernel, by decide +kernel, ⟨255,
           by decide +kernel⟩⟩⟩,
    ⟨.mgt0, 3, 1, facetIn 3 { state := 2 }, by decide +kernel⟩,
    ⟨.mgt0, 3, 1, facetIn 3 { state := 2, rstStep := 1 }, by decide +kernel⟩,
    ⟨.mgt0, 3, 1, lit, by decide +kernel⟩,
    ⟨.mgt0, 3, 257, { facetIn 3 { state := 2 } with ctxs := [(255, { state := 3, mask := 8 })] }, by decide +kernel⟩⟩

theorem witness_ReportsReachTheErrorLog :
    (∃ (x : SiteNo) (n k : Nat) (s : State), s.hub.on = true ∧ k = deliverable s x n ∧ k ≠ 0 ∧ s.stored = true) ∧
    (∃ (q : Nat) (e : LogEntry) (s : State), s.elog.open_.find? (fun e => e.seq == q) = some e ∧ s.stored = true ∧
      s.elog.waiting = [] ∧ (tget {} s.elog.ring (q % 4096)).seq = q) ∧
    (∃ (x : SiteNo) (n k : Nat) (s : State), s.hub.on = true ∧ k = deliverable s x n ∧ s.stored = true ∧ k = 1 ∧
      tget [] s.elog.outbox x = ((tget [] s.elog.outbox x).getD 0 {}) :: [] ∧ { ((tget []
                                                                                s.elog.outbox x).getD 0 {}) with
      dropped := tget 0 s.elog.since x } = { ((tget [] s.elog.outbox x).getD 0 {}) with
      dropped := tget 0 s.elog.since x } ∧ s.elog.open_.find? (·.takes { ((tget [] s.elog.outbox x).getD 0 {}) with
      dropped := tget 0 s.elog.since x }) = some (s.elog.open_.getD 0 {})) ∧
    (∃ (x : SiteNo) (n k : Nat) (s : State), s.hub.on = true ∧ k = deliverable s x n ∧ s.stored = true ∧ k = 1 ∧
      tget [] s.elog.outbox x = ((tget [] s.elog.outbox x).getD 0 {}) :: [] ∧ { ((tget []
                                                                                s.elog.outbox x).getD 0 {}) with
      dropped := tget 0 s.elog.since x } = { ((tget [] s.elog.outbox x).getD 0 {}) with
      dropped := tget 0 s.elog.since x } ∧ s.elog.open_.find? (·.takes { ((tget [] s.elog.outbox x).getD 0 {}) with
      dropped := tget 0 s.elog.since x }) = none ∧ s.elog.open_.length < 64) ∧
    (∃ (x : SiteNo) (n k : Nat) (s : State), s.hub.on = true ∧ k = deliverable s x n ∧ s.stored = true ∧ k = 1 ∧
      tget [] s.elog.outbox x = ((tget [] s.elog.outbox x).getD 0 {}) :: [] ∧ { ((tget []
                                                                                s.elog.outbox x).getD 0 {}) with
      dropped := tget 0 s.elog.since x } = { ((tget [] s.elog.outbox x).getD 0 {}) with
      dropped := tget 0 s.elog.since x } ∧ s.elog.open_.find? (·.takes { ((tget [] s.elog.outbox x).getD 0 {}) with
      dropped := tget 0 s.elog.since x }) = none ∧ 64 ≤ s.elog.open_.length) :=
  ⟨⟨99, 8, 1, { lit with elog.outbox := [(99, [{}])] }, by decide +kernel⟩,
    ⟨4095, { seq := 4095, isOpen := true }, { lit with elog.open_ := [{ seq := 4095, isOpen := true }],
                                                       elog.ring := [(4095, { seq := 4095, isOpen := true })] },
      by decide +kernel⟩,
    ⟨99, 8, 1, { lit with elog.outbox := [(99, [{}])], elog.open_ := [{ isOpen := true }] }, by decide +kernel⟩,
    ⟨99, 8, 1, { lit with elog.outbox := [(99, [{}])] }, by decide +kernel⟩,
    ⟨99, 8, 1, { lit with elog.outbox := [(99, [{}])], elog.open_ := (List.range 64).map fun i => { seq := i,
                                                                                                    isOpen := true,
                                                                                                    first := { site := 1 },
                                                                                                    last := { site := 1 } } },
      by decide +kernel⟩⟩

theorem witness_LaserModulesFeedTheirEngines :
    (∃ (m : Lsm) (s : State), s.hub.on = true ∧ (getLsm s m).state = 0 ∧ s.stored = true) ∧
    (∃ (m : Lsm) (identity : List Byte) (s : State), hubUp s = true ∧ allRefused s = false ∧ ((getLsm s m).state = 1 ∨
      (getLsm s m).state = 2) ∧ s.stored = true) ∧
    (∃ (m : Lsm) (s : State), (getLsm s m).state ≠ 0 ∧ s.stored = true) ∧
    (∃ (m : Lsm) (flag : Nat) (s : State), (getLsm s m).state ≠ 0 ∧ s.stored = true) ∧
    (∃ (p : Path) (m : Lsm) (v : Nat) (s : State), accepts s p oOptLsmEnable (m + 1) [byte v] = true ∧
      s.stored = true) ∧
    (∃ (e : Oe) (s : State), (getOe s e).state = 2 ∧ (getOe s e).feedsOff = false ∧ s.stored = true) ∧
    (∃ (e : Oe) (s : State), (getOe s e).feedsOff = true ∧ s.stored = true) ∧
    (∃ (e : Oe) (s : State), (getOe s e).feedsOff = true ∧ s.stored = true) ∧
    (∃ (e : Oe) (s : State), ((getOe s e).feedsOff = false ∨ mayFeed s e = false)) ∧
    (∃ (e : Oe) (s : State), (getOe s e).feedsOff = true ∧ mayFeed s e = true ∧ s.stored = true) :=
  ⟨⟨11, lit, by decide +kernel⟩,
    ⟨11, [1], { lit with lsms := [(11, { state := 2 })] }, by decide +kernel⟩,
    ⟨11, { lit with lsms := [(11, { state := 3 })] }, by decide +kernel⟩,
    ⟨11, 7, { lit with lsms := [(11, { state := 1 })] }, by decide +kernel⟩,
    ⟨.mgt1, 11, 1, lit, by decide +kernel⟩,
    ⟨23, oeIn 23 { state := 2 }, by decide +kernel⟩,
    ⟨23, oeIn 23 { feedsOff := true }, by decide +kernel⟩,
    ⟨23, oeIn 23 { feedsOff := true }, by decide +kernel⟩,
    ⟨23, oeIn 23 { state := 0 }, by decide +kernel⟩,
    ⟨23, { oeIn 23 { feedsOff := true } with lsms := [(11, { state := 3 })] }, by decide +kernel⟩⟩

theorem witness_OpticalLinksComeUpAndGoDown :
    (∃ (e : Oe) (s : State), (getOe s e).state = 1 ∧ s.stored = true) ∧
    (∃ (e : Oe) (s : State), s.stored = true ∧ (getOe s e).state = 5) ∧
    (∃ (e : Oe) (rx : Nat) (s : State), ((getOe s e).state = 2 ∨ (getOe s e).state = 6) ∧ (∃ k, k < 8 ∧
      bit rx k = true ∧ bit (getOe s e).rxFibres k = true) ∧ s.stored = true) ∧
    (∃ (e : Oe) (s : State), ((getOe s e).state = 3 ∨ (getOe s e).state = 4) ∧ s.stored = true) ∧
    (∃ (e : Oe) (s : State), (getOe s e).state = 7 ∧ s.stored = true) ∧
    (∃ (p : Path) (e : Oe) (v : Nat) (s : State), accepts s p (oeObj e oOptLinkEnable) 0 [byte v] = true ∧
      s.stored = true ∧ (byte v).toNat = 0) ∧
    (∃ (p : Path) (e : Oe) (v : Nat) (s : State), accepts s p (oeObj e oOptLinkEnable) 0 [byte v] = true ∧
      s.stored = true ∧ (byte v).toNat ≠ 0) ∧
    (∃ (e : Oe) (s : State), (getOe s e).state = 1 ∧ (getLsm s (feedModule e)).state = 3 ∧
      ((getOe s e).liSeen = false ∨ 2300 ≤ tget 0 (getOe s e).mon 0 ∧ 2300 ≤ tget 0 (getOe s e).mon 1) ∧
      s.stored = true) ∧
    (∃ (e : Oe) (s : State), ((getLsm s (feedModule e)).state ≠ 3 ∨ (getOe s e).liSeen = true) ∧
      (tget 0 (getOe s e).mon 0 < 2300 ∨ tget 0 (getOe s e).mon 1 < 2300)) ∧
    (∃ (e : Oe) (s : State), s.stored = true ∧ (getOe s e).state ≠ 5) ∧
    (∃ (e : Oe) (rx : Nat) (s : State), ((getOe s e).state = 2 ∨ (getOe s e).state = 6) ∧ (∃ k, k < 8 ∧
      bit rx k = true ∧ bit (getOe s e).rxFibres k = true) ∧ s.stored = true ∧ (getOe s e).state = 6) ∧
    (∃ (e : Oe) (rx : Nat) (s : State), ((getOe s e).state = 2 ∨ (getOe s e).state = 6) ∧ (∃ k, k < 8 ∧
      bit rx k = true ∧ bit (getOe s e).rxFibres k = true) ∧ s.stored = true ∧ (getOe s e).state = 2) ∧
    (∃ (e : Oe) (a : AlignSeen) (s : State), ((getOe s e).identSeen = false ∨ (getOe s e).echoSeen = false)) ∧
    (∃ (e : Oe) (a : AlignSeen) (s : State), (getOe s e).state = 3 ∧ (getOe s e).identSeen = true ∧
      (getOe s e).echoSeen = true ∧ s.stored = true ∧ (getOe s e).setupDue ≤ wall s) ∧
    (∃ (e : Oe) (a : AlignSeen) (s : State), (getOe s e).state = 3 ∧ (getOe s e).identSeen = true ∧
      (getOe s e).echoSeen = true ∧ s.stored = true ∧ wall s < (getOe s e).setupDue ∧
      pairingOk s e (getOe s e).peerNode (getOe s e).peerOe = false) ∧
    (∃ (e : Oe) (a : AlignSeen) (s : State), (getOe s e).state = 3 ∧ (getOe s e).identSeen = true ∧
      (getOe s e).echoSeen = true ∧ s.stored = true ∧ wall s < (getOe s e).setupDue ∧
      pairingOk s e (getOe s e).peerNode (getOe s e).peerOe = true ∧ 500 < (getOe s e).lengthM) ∧
    (∃ (e : Oe) (a : AlignSeen) (s : State), (getOe s e).state = 3 ∧ (getOe s e).identSeen = true ∧
      (getOe s e).echoSeen = true ∧ s.stored = true ∧ wall s < (getOe s e).setupDue ∧
      pairingOk s e (getOe s e).peerNode (getOe s e).peerOe = true ∧ (getOe s e).lengthM ≤ 500 ∧ 200 < a.skewNs) ∧
    (∃ (e : Oe) (a : AlignSeen) (s : State), (getOe s e).state = 3 ∧ (getOe s e).identSeen = true ∧
      (getOe s e).echoSeen = true ∧ s.stored = true ∧ wall s < (getOe s e).setupDue ∧
      pairingOk s e (getOe s e).peerNode (getOe s e).peerOe = true ∧ (getOe s e).lengthM ≤ 500 ∧ a.skewNs ≤ 200 ∧
      (getOe s e).session ≠ [] ∧ (getOe s e).session.any (· != 0) = true ∧
      (getOe s e).peerSession = (getOe s e).session) ∧
    (∃ (e : Oe) (a : AlignSeen) (s : State), (getOe s e).state = 3 ∧ (getOe s e).identSeen = true ∧
      (getOe s e).echoSeen = true ∧ s.stored = true ∧ wall s < (getOe s e).setupDue ∧
      pairingOk s e (getOe s e).peerNode (getOe s e).peerOe = true ∧ (getOe s e).lengthM ≤ 500 ∧ a.skewNs ≤ 200 ∧
      (getOe s e).session = [] ∧ noLinkKey s = true) ∧
    (∃ (e : Oe) (a : AlignSeen) (s : State), (getOe s e).state = 3 ∧ (getOe s e).identSeen = true ∧
      (getOe s e).echoSeen = true ∧ s.stored = true ∧ wall s < (getOe s e).setupDue ∧
      pairingOk s e (getOe s e).peerNode (getOe s e).peerOe = true ∧ (getOe s e).lengthM ≤ 500 ∧ a.skewNs ≤ 200 ∧
      (getOe s e).session = [] ∧ noLinkKey s = false ∧ (getOe s e).peerReportLen = 0) ∧
    (∃ (e : Oe) (s : State), (getOe s e).relockAt = none) ∧
    (∃ (e : Oe) (r : Nat) (s : State), (getOe s e).relockAt = some r ∧ s.stored = true) :=
  ⟨⟨23, oeIn 23 { state := 1 }, by decide +kernel⟩,
    ⟨23, oeIn 23 { state := 5 }, by decide +kernel⟩,
    ⟨23, 128, oeIn 23 { state := 6 }, by refine ⟨by decide +kernel, ⟨7, by decide +kernel⟩, by decide +kernel⟩⟩,
    ⟨23, oeIn 23 { state := 4 }, by decide +kernel⟩,
    ⟨23, oeIn 23 { state := 7, slow := true }, by decide +kernel⟩,
    ⟨.mgt0, 23, 0, oeIn 23 { state := 5 }, by decide +kernel⟩,
    ⟨.mgt0, 23, 1, lit, by decide +kernel⟩,
    ⟨23, { oeIn 23 { state := 1, liSeen := true, mon := [(0, 2300), (1, 2300)] } with lsms := [(11, { state := 3 })] },
      by decide +kernel⟩,
    ⟨23, oeIn 23 { state := 1 }, by decide +kernel⟩,
    ⟨23, oeIn 23 { state := 6 }, by decide +kernel⟩,
    ⟨23, 128, oeIn 23 { state := 6 },
      by refine ⟨.inr (by decide +kernel), ⟨7, by decide +kernel⟩, ?_⟩; decide +kernel⟩,
    ⟨23, 128, oeIn 23 { state := 2 },
      by refine ⟨.inl (by decide +kernel), ⟨7, by decide +kernel⟩, ?_⟩; decide +kernel⟩,
    ⟨23, {}, oeIn 23 { state := 3, identSeen := true }, by decide +kernel⟩,
    ⟨0, {}, { oeIn 0 { state := 3, identSeen := true, echoSeen := true } with time := 3 * 500000000 },
      by decide +kernel⟩,
    ⟨0, {}, oeIn 0 { state := 3, identSeen := true, echoSeen := true, peerNode := 2 }, by decide +kernel⟩,
    ⟨0, {}, oeIn 0 { state := 3, identSeen := true, echoSeen := true, peerNode := 1, peerOe := 1, lengthM := 501 },
      by decide +kernel⟩,
    ⟨0, { skewNs := 201 }, oeIn 0 { state := 3, identSeen := true, echoSeen := true, peerNode := 1, peerOe := 1,
                                    lengthM := 500 }, by decide +kernel⟩,
    ⟨0, { skewNs := 200 }, oeIn 0 { state := 3, identSeen := true, echoSeen := true, peerNode := 1, peerOe := 1,
                                    session := [1], peerSession := [1] }, by decide +kernel⟩,
    ⟨0, {}, oeIn 0 { state := 3, identSeen := true, echoSeen := true, peerNode := 1, peerOe := 1 }, by decide +kernel⟩,
    ⟨0, {}, { oeIn 0 { state := 3, identSeen := true, echoSeen := true, peerNode := 1, peerOe := 1 } with sec.lc := 3,
                                                                                                          sec.idSeed := [1]
                                                                                                          },
      by decide +kernel⟩,
    ⟨23, oeIn 23 { state := 6 }, by decide +kernel⟩,
    ⟨23, 5, oeIn 23 { state := 3, relockAt := some 5 }, by decide +kernel⟩⟩

theorem witness_SetupMessagesAgreeKeys :
    (∃ (e : Oe) (m : OptMsg) (s : State), ((getOe s e).state = 3 ∨ (getOe s e).state = 4 ∨ (getOe s e).state = 5) ∧
      s.stored = true) ∧
    (∃ (e : Oe) (m : OptMsg) (s : State), (getOe s e).state = 3 ∧ s.stored = true) ∧
    (∃ (e : Oe) (m : OptMsg) (s : State), (getOe s e).state = 3 ∧ s.stored = true) ∧
    (∃ (e : Oe) (m : OptMsg) (s : State) (off total : Nat), off = m.arg / 2 ^ 32 ∧ total = m.arg % 2 ^ 32 ∧
      ((getOe s e).state = 3 ∨ (getOe s e).state = 4) ∧ (off = 0 ∨ off = (getOe s e).peerReport.length ∧
      total = (getOe s e).peerReportLen) ∧ s.stored = true ∧ off = 0 ∧ off + 48 < total) ∧
    (∃ (e : Oe) (m : OptMsg) (s : State) (off total : Nat), off = m.arg / 2 ^ 32 ∧ total = m.arg % 2 ^ 32 ∧
      ((getOe s e).state = 3 ∨ (getOe s e).state = 4) ∧ (off = 0 ∨ off = (getOe s e).peerReport.length ∧
      total = (getOe s e).peerReportLen) ∧ s.stored = true ∧ off = 2) ∧
    (∃ (e : Oe) (m : OptMsg) (sig : List Byte) (s : State), (getOe s e).state = 4 ∧ (getOe s e).sentShare = true ∧
      (getOe s e).secret = [] ∧ s.stored = true) ∧
    (∃ (e : Oe) (m : OptMsg) (s : State), (getOe s e).state = 4 ∧ (getOe s e).sentConfirm = true ∧ s.stored = true) ∧
    (∃ (e : Oe) (m : OptMsg) (s : State), ((getOe s e).state = 3 ∨ (getOe s e).state = 4) ∧ s.stored = true) ∧
    (∃ (e : Oe) (m : OptMsg) (s : State), ((getOe s e).state = 3 ∨ (getOe s e).state = 4 ∨ (getOe s e).state = 5) ∧
      s.stored = true ∧ (getOe s e).state ≠ 5) :=
  ⟨⟨23, {}, oeIn 23 { state := 3 }, by decide +kernel⟩,
    ⟨23, {}, oeIn 23 { state := 3 }, by decide +kernel⟩,
    ⟨23, {}, oeIn 23 { state := 3 }, by decide +kernel⟩,
    ⟨23, { arg := 512 }, oeIn 23 { state := 3 }, _, _, by refine ⟨rfl, rfl, ?_⟩; decide +kernel⟩,
    ⟨23, { arg := 2 ^ 32 * 2 + 512 }, oeIn 23 { state := 4, peerReport := [1, 2], peerReportLen := 512 }, _, _,
      by refine ⟨rfl, rfl, ?_⟩; decide +kernel⟩,
    ⟨23, {}, [], oeIn 23 { state := 4, sentShare := true }, by decide +kernel⟩,
    ⟨23, {}, oeIn 23 { state := 4, sentConfirm := true }, by decide +kernel⟩,
    ⟨23, {}, oeIn 23 { state := 4 }, by decide +kernel⟩,
    ⟨23, {}, oeIn 23 { state := 4 }, by decide +kernel⟩⟩

theorem witness_LinkFramesAreAcceptedReplayedAndRekeyed :
    (∃ (e : Oe) (s : State), (getOe s e).state = 5 ∧ (getOe s e).discarding = true ∧ s.stored = true) ∧
    (∃ (e : Oe) (f : TxFrame) (fs : List TxFrame) (s : State), (getOe s e).state = 5 ∧ (getOe s e).buffer = f :: fs ∧
      s.stored = true) ∧
    (∃ (e : Oe) (s : State), epochDue (getOe s e) = true ∧ (getOe s e).txEpoch ≠ 0 ∧ s.stored = true) ∧
    (∃ (e : Oe) (s : State), (getOe s e).rxEpoch ≤ (getOe s e).rxCount / 2 ^ 32 ∧ (getOe s e).rxEpoch ≠ 0 ∧
      s.stored = true) ∧
    (∃ (e : Oe) (m : OptMsg) (s : State) (mask : Nat), (getOe s e).state = 5 ∧ mask = (m.body.getD 0 0).toNat ∧
      s.stored = true ∧ mask = 0) ∧
    (∃ (e : Oe) (m : OptMsg) (s : State) (mask : Nat), (getOe s e).state = 5 ∧ mask = (m.body.getD 0 0).toNat ∧
      s.stored = true ∧ mask = (getOe s e).rxSaid) ∧
    (∃ (e : Oe) (m : OptMsg) (s : State) (mask : Nat), (getOe s e).state = 5 ∧ mask = (m.body.getD 0 0).toNat ∧
      s.stored = true ∧ mask ≠ 0 ∧ mask ≠ (getOe s e).rxSaid) ∧
    (∃ (e : Oe) (f line : Nat) (h : LaneHdr) (errs : Nat × Nat) (s : State), 2 ≤ (getOe s e).state ∧
      (getOe s e).state ≠ 7 ∧ line < 18 ∧ (getOe s e).wf = true ∧ s.stored = true ∧
      ((alignStep (h.sync == 0xC3A5) (tget 0 (getOe s e).align (lineKey f line))) < 4 ∨
      12 ≤ (alignStep (h.sync == 0xC3A5) (tget 0 (getOe s e).align (lineKey f line))))) ∧
    (∃ (e : Oe) (f line : Nat) (h : LaneHdr) (errs : Nat × Nat) (s : State), (getOe s e).state = 5 ∧ line < 18 ∧
      bit (getOe s e).rxFibres f = true ∧ h.sync ≠ 0xC3A5 ∧ tget 0 (getOe s e).align (lineKey f line) = 11 ∧
      (∀ lane k, lane < 16 → lineOf (getOe s e).rxMap f lane = some k → k ≠ line → lineLost (getOe s e) f k = true) ∧
      (getOe s e).wf = true ∧ s.stored = true) ∧
    (∃ (e : Oe) (f line lane j : Nat) (h : LaneHdr) (errs : Nat × Nat) (s : State), 2 ≤ (getOe s e).state ∧
      (getOe s e).state ≠ 7 ∧ line < 18 ∧ lineAligned (getOe s e) f line = true ∧ h.sync = 0xC3A5 ∧ lane < 16 ∧
      lineOf (getOe s e).rxMap f lane = some j ∧ lineLost (getOe s e) f j = false ∧ (getOe s e).wf = true ∧
      s.stored = true ∧ 15 < max errs.1 errs.2) ∧
    (∃ (e : Oe) (f line lane j : Nat) (h : LaneHdr) (errs : Nat × Nat) (s : State), 2 ≤ (getOe s e).state ∧
      (getOe s e).state ≠ 7 ∧ line < 18 ∧ lineAligned (getOe s e) f line = true ∧ h.sync = 0xC3A5 ∧ lane < 16 ∧
      lineOf (getOe s e).rxMap f lane = some j ∧ lineLost (getOe s e) f j = false ∧ (getOe s e).wf = true ∧
      s.stored = true ∧ max errs.1 errs.2 ≤ 15 ∧ h.kind = 0 ∧ h.wave < 18 ∧ h.lane < 16) ∧
    (∃ (e : Oe) (f line lane j : Nat) (h : LaneHdr) (errs : Nat × Nat) (s : State), 2 ≤ (getOe s e).state ∧
      (getOe s e).state ≠ 7 ∧ line < 18 ∧ lineAligned (getOe s e) f line = true ∧ h.sync = 0xC3A5 ∧ lane < 16 ∧
      lineOf (getOe s e).rxMap f lane = some j ∧ lineLost (getOe s e) f j = false ∧ (getOe s e).wf = true ∧
      s.stored = true ∧ max errs.1 errs.2 ≤ 15 ∧ (getOe s e).state = 5 ∧ h.wave = line ∧ h.nak = false ∧
      dropTo h.ack (getOe s e).buffer = some [] ∧ (tget {} (getOe s e).locks (lineKey f line)).stepped = false ∧
      (getOe s e).queue = [] ∧ (getOe s e).markers = [] ∧ (getOe s e).txTail = [] ∧ (getPd s (oePd e)).inject = [] ∧
      (getPd s (oePd e)).landed = [] ∧ (∀ x ∈ s.terms, x.pd ≠ oePd e) ∧ 0 < frameRoomBytes (getOe s e).width) ∧
    (∃ (e : Oe) (x : LinkFrameRx) (s : State), (getOe s e).state = 5 ∧ x.lanes.all (fun l => l.hdr.kind != 0) = true) ∧
    (∃ (e : Oe) (x : LinkFrameRx) (s : State), (getOe s e).state = 5 ∧ (∃ l ∈ x.lanes, l.hdr.kind = 0) ∧
      s.stored = true) ∧
    (∃ (e : Oe) (s : State), (getOe s e).state = 5 ∧ (getOe s e).buffer ≠ [] ∧ s.stored = true ∧
      (∀ x ∈ (getOe s e).buffer, x.resent < 7) ∧ (getOe s e).timeouts < 3) ∧
    (∃ (e : Oe) (s : State), (getOe s e).state = 5 ∧ (getOe s e).buffer ≠ [] ∧ s.stored = true ∧
      3 ≤ (getOe s e).timeouts) ∧
    (∃ (e : Oe) (s : State), (getOe s e).state = 5 ∧ (getOe s e).buffer ≠ [] ∧ s.stored = true ∧
      (∃ x ∈ (getOe s e).buffer, 7 ≤ x.resent)) ∧
    (∃ (e : Oe) (m : OptMsg) (s : State), knownType m.type = true) ∧
    (∃ (e : Oe) (x : LinkFrameRx) (s : State), ((getOe s e).state = 3 ∨ (getOe s e).state = 4) ∧ s.stored = true) ∧
    (∃ (e : Oe) (m : OptMsg) (s : State), knownType m.type = false ∧ s.stored = true ∧ (tget []
      s.elog.outbox (72 + e)).length < 16) ∧
    (∃ (e : Oe) (m : OptMsg) (s : State), knownType m.type = false ∧ s.stored = true ∧ 16 ≤ (tget []
      s.elog.outbox (72 + e)).length) :=
  ⟨⟨23, oeIn 23 { state := 5, discarding := true }, by decide +kernel⟩,
    ⟨23, {}, [], oeIn 23 { state := 5, buffer := [{}], timeouts := 3 }, by decide +kernel⟩,
    ⟨23, oeIn 23 { txEpoch := 1, txCount := 2 ^ 32 }, by decide +kernel⟩,
    ⟨23, oeIn 23 { rxEpoch := 1, rxCount := 2 ^ 32 }, by decide +kernel⟩,
    ⟨23, {}, oeIn 23 { state := 5 }, _, by refine ⟨?_, rfl, ?_⟩ <;> decide +kernel⟩,
    ⟨23, { body := [255] }, oeIn 23 { state := 5 }, _, by refine ⟨?_, rfl, ?_⟩ <;> decide +kernel⟩,
    ⟨23, { body := [1] }, oeIn 23 { state := 5 }, _, by refine ⟨?_, rfl, ?_⟩ <;> decide +kernel⟩,
    ⟨23, 7, 17, {}, (0, 0), oeIn 23 { state := 2 }, by decide +kernel⟩,
    ⟨23, 7, 15, { sync := 0 }, (0, 0), lastLine,
      by refine ⟨by decide +kernel, by decide +kernel, by decide +kernel, by decide +kernel, by decide +kernel,
           otherLinesLost, by decide +kernel, by decide +kernel⟩⟩,
    ⟨23, 7, 17, 15, 15, {}, (16, 0), oeIn 23 { state := 2, align := [(lineKey 7 17, 4)] }, by decide +kernel⟩,
    ⟨23, 7, 17, 15, 15, { kind := 0, wave := 17, lane := 15 }, (15, 15), oeIn 23 { state := 2,
                                                                                   align := [(lineKey 7 17, 4)] },
      by decide +kernel⟩,
    ⟨23, 7, 15, 15, 15, { kind := 0, wave := 15, lane := 15, ack := 5 }, (15, 0), oeIn 23 { state := 5,
                                                                                            align := [(lineKey 7 15,
                                                                                            4)], buffer := [{ seq := 5 }]
                                                                                            }, by decide +kernel⟩,
    ⟨23, {}, oeIn 23 { state := 5 }, by decide +kernel⟩,
    ⟨23, { lanes := [{ hdr := { kind := 0 } }] }, oeIn 23 { state := 5 },
      by refine ⟨by decide +kernel, ⟨_, List.mem_singleton.2 rfl, rfl⟩, ?_⟩; decide +kernel⟩,
    ⟨23, oeIn 23 { state := 5, buffer := [{ resent := 6 }], timeouts := 2 }, by decide +kernel⟩,
    ⟨23, oeIn 23 { state := 5, buffer := [{}], timeouts := 3 }, by decide +kernel⟩,
    ⟨23, oeIn 23 { state := 5, buffer := [{ resent := 7 }] }, by decide +kernel⟩,
    ⟨23, { type := 0x31 }, lit, by decide +kernel⟩,
    ⟨23, {}, oeIn 23 { state := 4 }, by decide +kernel⟩,
    ⟨23, { type := 0 }, lit, by decide +kernel⟩,
    ⟨23, { type := 0xFF }, { lit with elog.outbox := [(95, List.replicate 16 {})] }, by decide +kernel⟩⟩

theorem witness_LinesFailMoveAndRecentre :
    (∃ (e : Oe) (side : Side) (f line : Nat) (s : State), s.stored = true) ∧
    (∃ (e : Oe) (m : OptMsg) (c : Instr) (s : State), c ∈ [Instr.txRingUnlockTimeout e m.fibre m.line,
      .lineFailed e m] ∧ (getOe s e).state = 5 ∧ m.fibre < 8 ∧ m.line < 18 ∧ txOn s e m.fibre m.line ≠ 0xFD ∧
      (∀ u ∈ (getOe s e).urgents, u.2.2.1 < 16) ∧ (getOe s e).wf = true ∧ s.stored = true ∧
      txOn s e m.fibre m.line < 16 ∧ (calOf s e m.fibre).running = false ∧ freeSpare (getOe s e).txMap m.fibre [17,
      16] = some 17) ∧
    (∃ (e : Oe) (x : LineSeen) (s : State), (getOe s e).state = 5 ∧ x.fibre < 8 ∧ x.line < 18 ∧ x.dark = false ∧
      s.stored = true ∧ lineFails (getOe s e) (wall s) x = true ∧ onLine (getOe s e).rxMap x.fibre x.line ≠ 0xFD) ∧
    (∃ (e : Oe) (x : LineSeen) (s : State), (getOe s e).state = 5 ∧ x.fibre < 8 ∧ x.line < 18 ∧ x.dark = false ∧
      s.stored = true ∧ lineFails (getOe s e) (wall s) x = false) ∧
    (∃ (e : Oe) (m : OptMsg) (s : State), (getOe s e).state = 5 ∧ m.fibre < 8 ∧ m.line < 18 ∧ m.arg < 18 ∧
      (tget {} (getOe s e).locks (lockKey 0 m.fibre m.line)).declared = false ∧ s.stored = true) ∧
    (∃ (e : Oe) (m : OptMsg) (j k : Nat) (s : State), (getOe s e).state = 5 ∧ m.fibre < 8 ∧ m.lane < 16 ∧
      lineOf (getOe s e).txMap m.fibre m.lane = some j ∧ j < 16 ∧ freeSpare (getOe s e).txMap m.fibre [17, 16]
      = some k ∧ (getOe s e).wf = true ∧ s.stored = true) ∧
    (∃ (e : Oe) (m : OptMsg) (j : Nat) (s : State), (getOe s e).state = 5 ∧ m.fibre < 8 ∧ m.lane < 16 ∧
      txOn s e m.fibre m.lane = 0xFF ∧ lineOf (getOe s e).txMap m.fibre m.lane = some j ∧ (getOe s e).wf = true ∧
      s.stored = true) ∧
    (∃ (e : Oe) (side : Side) (f line : Nat) (verified : Bool) (s : State) (l : LockSt),
      l = tget {} (getOe s e).locks (lockKey (sideIx side) f line) ∧ l.declared = true ∧ line < 18 ∧
      (∀ u ∈ (getOe s e).urgents, u.2.2.1 < 16) ∧ (getOe s e).wf = true ∧ s.stored = true ∧ verified = true ∧
      side = .tx) ∧
    (∃ (e : Oe) (side : Side) (f line : Nat) (verified : Bool) (s : State) (l : LockSt),
      l = tget {} (getOe s e).locks (lockKey (sideIx side) f line) ∧ l.declared = true ∧ line < 18 ∧
      (∀ u ∈ (getOe s e).urgents, u.2.2.1 < 16) ∧ (getOe s e).wf = true ∧ s.stored = true ∧ verified = false ∧
      l.fails ≠ 0 ∧ side = .rx) ∧
    (∃ (e : Oe) (side : Side) (f line : Nat) (verified : Bool) (s : State) (l : LockSt),
      l = tget {} (getOe s e).locks (lockKey (sideIx side) f line) ∧ l.declared = true ∧ line < 18 ∧
      (∀ u ∈ (getOe s e).urgents, u.2.2.1 < 16) ∧ (getOe s e).wf = true ∧ s.stored = true ∧ verified = false ∧
      l.fails ≠ 0 ∧ side = .tx) ∧
    (∃ (e : Oe) (side : Side) (f line : Nat) (s : State), 60 ≤ headroom (getOe s e) (sideIx side) f line) ∧
    (∃ (e : Oe) (side : Side) (f line : Nat) (s : State), (getOe s e).state = 5 ∧ line < 18 ∧
      headroom (getOe s e) (sideIx side) f line < 60 ∧ (getOe s e).wf = true ∧ s.stored = true ∧ side = .tx ∧
      txOn s e f line < 16 ∧ freeSpare (getOe s e).txMap f [17, 16] = some 17) ∧
    (∃ (e : Oe) (side : Side) (f line : Nat) (s : State), (getOe s e).state = 5 ∧ line < 18 ∧
      headroom (getOe s e) (sideIx side) f line < 60 ∧ (getOe s e).wf = true ∧ s.stored = true ∧ side = .rx ∧
      onLine (getOe s e).rxMap f line < 16) ∧
    (∃ (e : Oe) (side : Side) (f line : Nat) (verified : Bool) (s : State) (l : LockSt),
      l = tget {} (getOe s e).locks (lockKey (sideIx side) f line) ∧ l.declared = true ∧ line < 18 ∧
      (∀ u ∈ (getOe s e).urgents, u.2.2.1 < 16) ∧ (getOe s e).wf = true ∧ s.stored = true ∧ verified = true ∧
      side = .rx) ∧
    (∃ (e : Oe) (side : Side) (f line : Nat) (verified : Bool) (s : State) (l : LockSt),
      l = tget {} (getOe s e).locks (lockKey (sideIx side) f line) ∧ l.declared = true ∧ line < 18 ∧
      (∀ u ∈ (getOe s e).urgents, u.2.2.1 < 16) ∧ (getOe s e).wf = true ∧ s.stored = true ∧ verified = false ∧
      l.fails = 0) :=
  ⟨⟨23, .tx, 7, 17, lit, by decide +kernel⟩,
    ⟨23, { fibre := 7, line := 15 }, .lineFailed 23 { fibre := 7, line := 15 }, oeIn 23 { state := 5 },
      by refine ⟨by simp [mTo], ?_⟩; decide +kernel⟩,
    ⟨23, { fibre := 7, line := 15, alignmentLost := true }, oeIn 23 { state := 5 }, by decide +kernel⟩,
    ⟨23, { fibre := 7, line := 15 }, oeIn 23 { state := 5 }, by decide +kernel⟩,
    ⟨23, { fibre := 7, line := 17, arg := 17 }, oeIn 23 { state := 5 }, by decide +kernel⟩,
    ⟨23, { fibre := 7, lane := 15 }, 15, 17, oeIn 23 { state := 5 }, by decide +kernel⟩,
    ⟨23, { fibre := 7, lane := 15 }, 17, oeIn 23 { state := 5, txMap := [(lineKey 7 15, 0x100), (lineKey 7 17, 16)] },
      by decide +kernel⟩,
    ⟨23, .tx, 7, 17, true, oeIn 23 { locks := [(lockKey 0 7 17, { declared := true })] }, _,
      by refine ⟨rfl, ?_⟩; decide +kernel⟩,
    ⟨23, .rx, 7, 17, false, oeIn 23 { locks := [(lockKey 1 7 17, { declared := true, fails := 1 })] }, _,
      by refine ⟨rfl, ?_⟩; decide +kernel⟩,
    ⟨23, .tx, 7, 17, false, oeIn 23 { locks := [(lockKey 0 7 17, { declared := true, fails := 1 })] }, _,
      by refine ⟨rfl, ?_⟩; decide +kernel⟩,
    ⟨23, .tx, 7, 17, oeIn 23 { state := 5, heater := [(ringKey 0 7 17, 60)] }, by decide +kernel⟩,
    ⟨23, .tx, 7, 15, oeIn 23 { state := 5, heater := [(ringKey 0 7 15, 59), (ringKey 1 7 15, 59)] },
      by decide +kernel⟩,
    ⟨23, .rx, 7, 15, oeIn 23 { state := 5, heater := [(ringKey 0 7 15, 59), (ringKey 1 7 15, 59)] },
      by decide +kernel⟩,
    ⟨23, .rx, 7, 17, true, oeIn 23 { locks := [(lockKey 1 7 17, { declared := true })] }, _,
      by refine ⟨rfl, ?_⟩; decide +kernel⟩,
    ⟨23, .rx, 7, 17, false, oeIn 23 { locks := [(lockKey 1 7 17, { declared := true })] }, _,
      by refine ⟨rfl, ?_⟩; decide +kernel⟩⟩

theorem witness_LinesAreCalibratedAndMonitored :
    (∃ (e : Oe) (m : OptMsg) (s : State), (getOe s e).state = 5 ∧ m.fibre < 8 ∧ m.line < 18 ∧
      onLine (getOe s e).rxMap m.fibre m.line ≠ 0xFD ∧ s.stored = true) ∧
    (∃ (e : Oe) (m : OptMsg) (s : State), (getOe s e).state = 5 ∧ m.fibre < 8 ∧ m.line < 18 ∧
      onLine (getOe s e).rxMap m.fibre m.line = 0xFE ∧ (getOe s e).wf = true ∧ s.stored = true ∧
      (tget {} (getOe s e).locks (lockKey 1 m.fibre m.line)).declared = false) ∧
    (∃ (e : Oe) (laser pm fc ri : List Int) (s : State), (getOe s e).wf = true ∧ s.stored = true ∧
      (getOe s e).baseline = false) ∧
    (∃ (e : Oe) (m : OptMsg) (s : State), (getOe s e).state = 5 ∧ (getOe s e).wf = true ∧ s.stored = true ∧
      (getOe s e).peerBase = false) ∧
    (∃ (e : Oe) (f : Fin 8) (p : Nat) (s : State), (getOe s e).state = 5 ∧ bit (getOe s e).txFibres f = true ∧
      (calOf s e f).running = false ∧ p = (calOf s e f).next % 18 ∧ (getOe s e).wf = true ∧ s.stored = true ∧
      txOn s e f p = 0xFD) ∧
    (∃ (e : Oe) (f : Fin 8) (p : Nat) (s : State), (getOe s e).state = 5 ∧ bit (getOe s e).txFibres f = true ∧
      (calOf s e f).running = false ∧ p = (calOf s e f).next % 18 ∧ (getOe s e).wf = true ∧ s.stored = true ∧
      16 ≤ txOn s e f p ∧ txOn s e f p ≠ 0xFD) ∧
    (∃ (e : Oe) (f : Fin 8) (p : Nat) (s : State), (getOe s e).state = 5 ∧ bit (getOe s e).txFibres f = true ∧
      (calOf s e f).running = false ∧ p = (calOf s e f).next % 18 ∧ (getOe s e).wf = true ∧ s.stored = true ∧
      txOn s e f p < 16 ∧ freeSpare (getOe s e).txMap f [16, 17] = some 16) ∧
    (∃ (e : Oe) (f : Fin 8) (p : Nat) (s : State), (getOe s e).state = 5 ∧ bit (getOe s e).txFibres f = true ∧
      (calOf s e f).running = false ∧ p = (calOf s e f).next % 18 ∧ (getOe s e).wf = true ∧ s.stored = true ∧
      txOn s e f p < 16 ∧ freeSpare (getOe s e).txMap f [16, 17] = none) ∧
    (∃ (e : Oe) (f : Fin 8) (ok : Bool) (c : CalSt) (s : State), (getOe s e).state = 5 ∧ c = calOf s e f ∧
      c.running = true ∧ c.line < 18 ∧ txOn s e f c.line = 0xFE ∧ (c.spare = 0xFF ∨ (16 ≤ c.spare ∧ c.spare < 18 ∧
      txOn s e f c.spare < 16 ∧ c.line < 16)) ∧ (∀ u ∈ (getOe s e).urgents, u.2.2.1 < 16) ∧ (getOe s e).wf = true ∧
      s.stored = true ∧ (ok = true ∨ (decide (c.due < wall s + 20000)) = true) ∧
      ((tget {} (getOe s e).locks (lockKey 0 f c.line)).declared) = false ∧ c.spare ≠ 0xFF) ∧
    (∃ (e : Oe) (f : Fin 8) (ok : Bool) (c : CalSt) (s : State), (getOe s e).state = 5 ∧ c = calOf s e f ∧
      c.running = true ∧ c.line < 18 ∧ txOn s e f c.line = 0xFE ∧ (c.spare = 0xFF ∨ (16 ≤ c.spare ∧ c.spare < 18 ∧
      txOn s e f c.spare < 16 ∧ c.line < 16)) ∧ (∀ u ∈ (getOe s e).urgents, u.2.2.1 < 16) ∧ (getOe s e).wf = true ∧
      s.stored = true ∧ ok = false ∧ (decide (c.due < wall s + 20000)) = false ∧
      ((tget {} (getOe s e).locks (lockKey 0 f c.line)).declared) = false ∧ c.spare ≠ 0xFF) ∧
    (∃ (e : Oe) (f : Fin 8) (ok : Bool) (c : CalSt) (s : State), (getOe s e).state = 5 ∧ c = calOf s e f ∧
      c.running = true ∧ c.line < 18 ∧ txOn s e f c.line = 0xFE ∧ (c.spare = 0xFF ∨ (16 ≤ c.spare ∧ c.spare < 18 ∧
      txOn s e f c.spare < 16 ∧ c.line < 16)) ∧ (∀ u ∈ (getOe s e).urgents, u.2.2.1 < 16) ∧ (getOe s e).wf = true ∧
      s.stored = true ∧ ((tget {} (getOe s e).locks (lockKey 0 f c.line)).declared) = true) ∧
    (∃ (e : Oe) (f : Fin 8) (ok : Bool) (c : CalSt) (s : State), (getOe s e).state = 5 ∧ c = calOf s e f ∧
      c.running = true ∧ c.line < 18 ∧ txOn s e f c.line = 0xFE ∧ (c.spare = 0xFF ∨ (16 ≤ c.spare ∧ c.spare < 18 ∧
      txOn s e f c.spare < 16 ∧ c.line < 16)) ∧ (∀ u ∈ (getOe s e).urgents, u.2.2.1 < 16) ∧ (getOe s e).wf = true ∧
      s.stored = true ∧ ok = true ∧ (decide (c.due < wall s + 20000)) = false ∧
      ((tget {} (getOe s e).locks (lockKey 0 f c.line)).declared) = false) ∧
    (∃ (e : Oe) (m : OptMsg) (s : State), (getOe s e).state = 5 ∧ m.fibre < 8 ∧ m.line < 18 ∧
      onLine (getOe s e).rxMap m.fibre m.line ≠ 0xFD ∧ s.stored = true ∧ (getOe s e).wf = true) ∧
    (∃ (e : Oe) (laser pm fc ri : List Int) (s : State), (getOe s e).wf = true ∧ s.stored = true ∧
      (getOe s e).state ≠ 5) ∧
    (∃ (e : Oe) (laser pm fc ri : List Int) (s : State), (getOe s e).wf = true ∧ s.stored = true ∧
      (getOe s e).state = 5 ∧ (feedLow (laser.getD 0 0) && feedLow (laser.getD 1 0)) = true) ∧
    (∃ (e : Oe) (laser pm fc ri : List Int) (s : State), (getOe s e).wf = true ∧ s.stored = true ∧
      (getOe s e).state = 5 ∧ (getOe s e).baseline = false ∧
      (feedLow (laser.getD 0 0) && feedLow (laser.getD 1 0)) = false ∧ feedLow (laser.getD 0 0) = true) ∧
    (∃ (e : Oe) (m : OptMsg) (s : State), (getOe s e).state = 5 ∧ m.fibre < 8 ∧ m.line < 18 ∧
      onLine (getOe s e).rxMap m.fibre m.line = 0xFE ∧ (getOe s e).wf = true ∧ s.stored = true ∧
      (tget {} (getOe s e).locks (lockKey 1 m.fibre m.line)).declared = true) ∧
    (∃ (e : Oe) (m : OptMsg) (s : State), (getOe s e).state = 5 ∧ (getOe s e).wf = true ∧ s.stored = true ∧
      (getOe s e).peerBase = true) :=
  ⟨⟨23, { fibre := 7, line := 17 }, oeIn 23 { state := 5 }, by decide +kernel⟩,
    ⟨23, { fibre := 7, line := 17 }, oeIn 23 { state := 5, rxMap := [(lineKey 7 17, 0xFF)] }, by decide +kernel⟩,
    ⟨23, [1, 2], [], [], [], oeIn 23 { state := 5 }, by decide +kernel⟩,
    ⟨23, {}, oeIn 23 { state := 5 }, by decide +kernel⟩,
    ⟨23, 7, _, oeIn 23 { state := 5, txMap := [(lineKey 7 17, 0xFE)], cal := [(7, { next := 17 })] },
      by refine ⟨?_, ?_, ?_, rfl, ?_⟩ <;> decide +kernel⟩,
    ⟨23, 7, _, oeIn 23 { state := 5, cal := [(7, { next := 17 })] },
      by refine ⟨?_, ?_, ?_, rfl, ?_⟩ <;> decide +kernel⟩,
    ⟨23, 7, _, oeIn 23 { state := 5 }, by refine ⟨?_, ?_, ?_, rfl, ?_⟩ <;> decide +kernel⟩,
    ⟨23, 7, _, oeIn 23 { state := 5, txMap := [(lineKey 7 16, 0xFE), (lineKey 7 17, 0xFE)] },
      by refine ⟨?_, ?_, ?_, rfl, ?_⟩ <;> decide +kernel⟩,
    ⟨23, 7, false, _, oeIn 23 { state := 5, txMap := [(lineKey 7 0, 0xFF), (lineKey 7 16, 1)], cal := [(7,
                                { running := true, spare := 16, due := 19999 })] },
      by refine ⟨?_, rfl, ?_⟩ <;> decide +kernel⟩,
    ⟨23, 7, false, _, oeIn 23 { state := 5, txMap := [(lineKey 7 0, 0xFF), (lineKey 7 16, 1)], cal := [(7,
                                { running := true, spare := 16, due := 20000 })] },
      by refine ⟨?_, rfl, ?_⟩ <;> decide +kernel⟩,
    ⟨23, 7, true, _, oeIn 23 { state := 5, txMap := [(lineKey 7 0, 0xFF), (lineKey 7 16, 1)], cal := [(7,
                               { running := true, spare := 16, due := 20000 })], locks := [(lockKey 0 7 0,
                               { declared := true })] }, by refine ⟨?_, rfl, ?_⟩ <;> decide +kernel⟩,
    ⟨23, 7, true, _, oeIn 23 { state := 5, txMap := [(lineKey 7 0, 0xFF), (lineKey 7 16, 1)], cal := [(7,
                               { running := true, spare := 16, due := 20000 })] },
      by refine ⟨?_, rfl, ?_⟩ <;> decide +kernel⟩,
    ⟨23, { fibre := 7, line := 17 }, oeIn 23 { state := 5 }, by decide +kernel⟩,
    ⟨23, [], [], [], [], oeIn 23 { state := 6 }, by decide +kernel⟩,
    ⟨23, [2299, 2299], [], [], [], oeIn 23 { state := 5 }, by decide +kernel⟩,
    ⟨23, [2299, 2300], [], [], [], oeIn 23 { state := 5 }, by decide +kernel⟩,
    ⟨23, { fibre := 7, line := 17 }, oeIn 23 { state := 5, rxMap := [(lineKey 7 17, 0xFF)], locks := [(lockKey 1 7 17,
                                               { declared := true })] }, by decide +kernel⟩,
    ⟨23, {}, oeIn 23 { state := 5, peerBase := true }, by decide +kernel⟩⟩

theorem witness_MachinePacketsTravelOrAreDiscarded :
    (∃ (e : Oe) (p : Mpk) (c : Instr) (op : Nat) (s : State) (d : Nat) (cross : Bool), (c, op) ∈ [(Instr.mPut e p,
      0x20), (.mGet e p, 0x21), (.mLoad e p, 0x22), (.mAtom e p, 0x23), (.mData e p, 0x24), (.mAck e p, 0x25),
      (.cUp e p, 0x28), (.cDown e p, 0x29), (.mMgmt e p, 0x2E)] ∧ nodeId s ≠ 0x8000 ∧ p.dstNode ≠ nodeId s ∧
      nodeOk s p.dstNode = true ∧ nextDir s p.dstNode = some (d, cross) ∧ passes s op (72 + e) (6 * p.port + d) ∧
      s.stored = true) ∧
    (∃ (e : Oe) (p : Mpk) (c : Instr) (op : Nat) (s : State) (d : Nat) (cross : Bool), (c, op) ∈ [(Instr.mPut e p,
      0x20), (.mGet e p, 0x21), (.mLoad e p, 0x22), (.mAtom e p, 0x23), (.mData e p, 0x24), (.mAck e p, 0x25),
      (.cUp e p, 0x28), (.cDown e p, 0x29), (.mMgmt e p, 0x2E)] ∧ nodeId s ≠ 0x8000 ∧ p.dstNode ≠ nodeId s ∧
      nodeOk s p.dstNode = true ∧ nextDir s p.dstNode = some (d, cross) ∧ passes s op (72 + e) (6 * p.port + d) ∧
      s.stored = true) ∧
    (∃ (e : Oe) (p : Mpk) (c : Instr) (op : Nat) (s : State) (d : Nat) (cross : Bool), (c, op) ∈ [(Instr.mPut e p,
      0x20), (.mGet e p, 0x21), (.mLoad e p, 0x22), (.mAtom e p, 0x23), (.mData e p, 0x24), (.mAck e p, 0x25),
      (.cUp e p, 0x28), (.cDown e p, 0x29), (.mMgmt e p, 0x2E)] ∧ nodeId s ≠ 0x8000 ∧ p.dstNode ≠ nodeId s ∧
      nodeOk s p.dstNode = true ∧ nextDir s p.dstNode = some (d, cross) ∧ passes s op (72 + e) (6 * p.port + d) ∧
      s.stored = true) ∧
    (∃ (e : Oe) (p : Mpk) (c : Instr) (op : Nat) (s : State) (d : Nat) (cross : Bool), (c, op) ∈ [(Instr.mPut e p,
      0x20), (.mGet e p, 0x21), (.mLoad e p, 0x22), (.mAtom e p, 0x23), (.mData e p, 0x24), (.mAck e p, 0x25),
      (.cUp e p, 0x28), (.cDown e p, 0x29), (.mMgmt e p, 0x2E)] ∧ nodeId s ≠ 0x8000 ∧ p.dstNode ≠ nodeId s ∧
      nodeOk s p.dstNode = true ∧ nextDir s p.dstNode = some (d, cross) ∧ passes s op (72 + e) (6 * p.port + d) ∧
      s.stored = true) ∧
    (∃ (e : Oe) (p : Mpk) (c : Instr) (op : Nat) (s : State) (d : Nat) (cross : Bool), (c, op) ∈ [(Instr.mPut e p,
      0x20), (.mGet e p, 0x21), (.mLoad e p, 0x22), (.mAtom e p, 0x23), (.mData e p, 0x24), (.mAck e p, 0x25),
      (.cUp e p, 0x28), (.cDown e p, 0x29), (.mMgmt e p, 0x2E)] ∧ nodeId s ≠ 0x8000 ∧ p.dstNode ≠ nodeId s ∧
      nodeOk s p.dstNode = true ∧ nextDir s p.dstNode = some (d, cross) ∧ passes s op (72 + e) (6 * p.port + d) ∧
      s.stored = true) ∧
    (∃ (e : Oe) (p : Mpk) (c : Instr) (op : Nat) (s : State) (d : Nat) (cross : Bool), (c, op) ∈ [(Instr.mPut e p,
      0x20), (.mGet e p, 0x21), (.mLoad e p, 0x22), (.mAtom e p, 0x23), (.mData e p, 0x24), (.mAck e p, 0x25),
      (.cUp e p, 0x28), (.cDown e p, 0x29), (.mMgmt e p, 0x2E)] ∧ nodeId s ≠ 0x8000 ∧ p.dstNode ≠ nodeId s ∧
      nodeOk s p.dstNode = true ∧ nextDir s p.dstNode = some (d, cross) ∧ passes s op (72 + e) (6 * p.port + d) ∧
      s.stored = true) ∧
    (∃ (e : Oe) (p : Mpk) (c : Instr) (op : Nat) (s : State) (d : Nat) (cross : Bool), (c, op) ∈ [(Instr.mPut e p,
      0x20), (.mGet e p, 0x21), (.mLoad e p, 0x22), (.mAtom e p, 0x23), (.mData e p, 0x24), (.mAck e p, 0x25),
      (.cUp e p, 0x28), (.cDown e p, 0x29), (.mMgmt e p, 0x2E)] ∧ nodeId s ≠ 0x8000 ∧ p.dstNode ≠ nodeId s ∧
      nodeOk s p.dstNode = true ∧ nextDir s p.dstNode = some (d, cross) ∧ passes s op (72 + e) (6 * p.port + d) ∧
      s.stored = true) ∧
    (∃ (e : Oe) (p : Mpk) (c : Instr) (op : Nat) (s : State) (d : Nat) (cross : Bool), (c, op) ∈ [(Instr.mPut e p,
      0x20), (.mGet e p, 0x21), (.mLoad e p, 0x22), (.mAtom e p, 0x23), (.mData e p, 0x24), (.mAck e p, 0x25),
      (.cUp e p, 0x28), (.cDown e p, 0x29), (.mMgmt e p, 0x2E)] ∧ nodeId s ≠ 0x8000 ∧ p.dstNode ≠ nodeId s ∧
      nodeOk s p.dstNode = true ∧ nextDir s p.dstNode = some (d, cross) ∧ passes s op (72 + e) (6 * p.port + d) ∧
      s.stored = true) ∧
    (∃ (e : Oe) (p : Mpk) (c : Instr) (op : Nat) (s : State) (d : Nat) (cross : Bool), (c, op) ∈ [(Instr.mPut e p,
      0x20), (.mGet e p, 0x21), (.mLoad e p, 0x22), (.mAtom e p, 0x23), (.mData e p, 0x24), (.mAck e p, 0x25),
      (.cUp e p, 0x28), (.cDown e p, 0x29), (.mMgmt e p, 0x2E)] ∧ nodeId s ≠ 0x8000 ∧ p.dstNode ≠ nodeId s ∧
      nodeOk s p.dstNode = true ∧ nextDir s p.dstNode = some (d, cross) ∧ passes s op (72 + e) (6 * p.port + d) ∧
      s.stored = true) ∧
    (∃ (e : Oe) (p : Mpk) (c : Instr) (s : State), c ∈ [Instr.mData e p, .mAck e p] ∧ nodeId s ≠ 0x8000 ∧
      p.dstNode ≠ nodeId s ∧ nodeOk s p.dstNode = false ∧ s.stored = true) ∧
    (∃ (e : Oe) (p : Mpk) (s : State), s.stored = true) ∧
    (∃ (e : Oe) (p : Mpk) (c : Instr) (s : State), c ∈ [Instr.mPut e p, .mGet e p, .mLoad e p, .mAtom e p, .mData e p,
      .mAck e p, .cUp e p, .cDown e p, .mMgmt e p] ∧ nodeId s = 0x8000 ∧ s.stored = true) ∧
    (∃ (e : Oe) (p : Mpk) (c : Instr) (s : State), c ∈ [Instr.mPut e p, .mGet e p, .mLoad e p, .mAtom e p, .mData e p,
      .mAck e p] ∧ nodeId s ≠ 0x8000 ∧ p.dstNode = nodeId s ∧ ctxAccepts s p.ctx p.gen = false ∧ ejects s e = true ∧
      s.stored = true ∧ (getCtx s p.ctx).state ≠ 0) ∧
    (∃ (e : Oe) (p : Mpk) (s : State), s.stored = true ∧ knownMop p.op = true) ∧
    (∃ (e : Oe) (p : Mpk) (s : State), s.stored = true ∧ knownMop p.op = false) ∧
    (∃ (e : Oe) (q : QPkt) (rest : List QPkt) (s : State), ((getOe s e).state = 7 ∨ (getOe s e).state = 0) ∧
      (getOe s e).queue = q :: rest ∧ q.src = 0 ∧ (getPd s (oePd e)).inject = [] ∧ (getPd s (oePd e)).landed = [] ∧
      (∀ x ∈ s.terms, x.pd ≠ oePd e) ∧ q.pkt.op = 0x20 ∧ q.pkt.srcNode = nodeId s ∧
      goesAtOnce s 1 (64 + oePd e) q.pkt.srcDie q.pkt.srcDie [mAnswer s q.pkt 8 q.pkt.addr []] = true ∧
      s.stored = true ∧ (tget {} s.latches (fenceKey q.pkt.srcDie q.pkt.slot)).status = 0) ∧
    (∃ (e : Oe) (p : Mpk) (c : Instr) (s : State), c ∈ [Instr.mPut e p, .mGet e p, .mLoad e p, .mAtom e p, .mData e p,
      .mAck e p, .cUp e p, .cDown e p, .mMgmt e p, .arrive e p, .release e p, .grant e p, .abort e p, .prune e p] ∧
      nodeId s ≠ 0x8000 ∧ p.dstNode = nodeId s ∧ isAdmitted s (64 + oePd e) = true ∧ (getLink s (108 + e)).state ≠ 3 ∧
      (getLink s (108 + e)).state ≠ 5) ∧
    (∃ (e : Oe) (p : Mpk) (c : Instr) (s : State), c ∈ [Instr.mData e p, .mAck e p, .cUp e p, .cDown e p, .mMgmt e p,
      .arrive e p, .release e p, .grant e p, .abort e p, .prune e p] ∧ nodeId s ≠ 0x8000 ∧ p.dstNode = nodeId s ∧
      isAdmitted s (64 + oePd e) = false ∧ s.stored = true) ∧
    (∃ (e : Oe) (p : Mpk) (c : Instr) (s : State), c ∈ [Instr.mData e p, .mAck e p, .cUp e p, .cDown e p, .mMgmt e p,
      .arrive e p, .release e p, .grant e p, .abort e p, .prune e p] ∧ nodeId s ≠ 0x8000 ∧ p.dstNode = nodeId s ∧
      (getLink s (108 + e)).state = 5 ∧ s.stored = true) ∧
    (∃ (e : Oe) (p : Mpk) (c : Instr) (op : Nat) (s : State), (c, op) ∈ [(Instr.mPut e p, 0x20), (.mGet e p, 0x21),
      (.mLoad e p, 0x22), (.mAtom e p, 0x23)] ∧ nodeId s ≠ 0x8000 ∧ p.dstNode = nodeId s ∧ p.srcNode ≠ nodeId s ∧
      isAdmitted s (64 + oePd e) = false ∧ s.stored = true) :=
  ⟨⟨0, mTo 1, .mPut 0 (mTo 1), 32, openAll (noded lit), 0, false,
      by refine ⟨by simp, ?_, ?_, ?_, ?_, (by unfold passes; decide +kernel),
           ?_⟩ <;> first | decide +kernel | (exact fun _ h => nomatch h) | (exact isErr (by decide +kernel)) | (exact isOk (by decide +kernel)) | rfl | (simp; done) | decide +kernel⟩,
    ⟨0, mTo 1, .mGet 0 (mTo 1), 33, openAll (noded lit), 0, false,
      by refine ⟨by simp, ?_, ?_, ?_, ?_, (by unfold passes; decide +kernel),
           ?_⟩ <;> first | decide +kernel | (exact fun _ h => nomatch h) | (exact isErr (by decide +kernel)) | (exact isOk (by decide +kernel)) | rfl | (simp; done) | decide +kernel⟩,
    ⟨0, mTo 1, .mLoad 0 (mTo 1), 34, openAll (noded lit), 0, false,
      by refine ⟨by simp, ?_, ?_, ?_, ?_, (by unfold passes; decide +kernel),
           ?_⟩ <;> first | decide +kernel | (exact fun _ h => nomatch h) | (exact isErr (by decide +kernel)) | (exact isOk (by decide +kernel)) | rfl | (simp; done) | decide +kernel⟩,
    ⟨0, mTo 1, .mAtom 0 (mTo 1), 35, openAll (noded lit), 0, false,
      by refine ⟨by simp, ?_, ?_, ?_, ?_, (by unfold passes; decide +kernel),
           ?_⟩ <;> first | decide +kernel | (exact fun _ h => nomatch h) | (exact isErr (by decide +kernel)) | (exact isOk (by decide +kernel)) | rfl | (simp; done) | decide +kernel⟩,
    ⟨0, mTo 1, .mData 0 (mTo 1), 36, openAll (noded lit), 0, false,
      by refine ⟨by simp, ?_, ?_, ?_, ?_, (by unfold passes; decide +kernel),
           ?_⟩ <;> first | decide +kernel | (exact fun _ h => nomatch h) | (exact isErr (by decide +kernel)) | (exact isOk (by decide +kernel)) | rfl | (simp; done) | decide +kernel⟩,
    ⟨0, mTo 1, .mAck 0 (mTo 1), 37, openAll (noded lit), 0, false,
      by refine ⟨by simp, ?_, ?_, ?_, ?_, (by unfold passes; decide +kernel),
           ?_⟩ <;> first | decide +kernel | (exact fun _ h => nomatch h) | (exact isErr (by decide +kernel)) | (exact isOk (by decide +kernel)) | rfl | (simp; done) | decide +kernel⟩,
    ⟨0, mTo 1, .cUp 0 (mTo 1), 40, openAll (noded lit), 0, false,
      by refine ⟨by simp, ?_, ?_, ?_, ?_, (by unfold passes; decide +kernel),
           ?_⟩ <;> first | decide +kernel | (exact fun _ h => nomatch h) | (exact isErr (by decide +kernel)) | (exact isOk (by decide +kernel)) | rfl | (simp; done) | decide +kernel⟩,
    ⟨0, mTo 1, .cDown 0 (mTo 1), 41, openAll (noded lit), 0, false,
      by refine ⟨by simp, ?_, ?_, ?_, ?_, (by unfold passes; decide +kernel),
           ?_⟩ <;> first | decide +kernel | (exact fun _ h => nomatch h) | (exact isErr (by decide +kernel)) | (exact isOk (by decide +kernel)) | rfl | (simp; done) | decide +kernel⟩,
    ⟨0, mTo 1, .mMgmt 0 (mTo 1), 46, openAll (noded lit), 0, false,
      by refine ⟨by simp, ?_, ?_, ?_, ?_, (by unfold passes; decide +kernel),
           ?_⟩ <;> first | decide +kernel | (exact fun _ h => nomatch h) | (exact isErr (by decide +kernel)) | (exact isOk (by decide +kernel)) | rfl | (simp; done) | decide +kernel⟩,
    ⟨0, mTo 4, .mData 0 (mTo 4), noded lit, by refine ⟨by simp [mTo], ?_⟩; decide +kernel⟩,
    ⟨0, { op := 0x2F }, lit, by decide +kernel⟩,
    ⟨0, mTo 1, .mPut 0 (mTo 1), lit, by refine ⟨by simp [mTo], ?_⟩; decide +kernel⟩,
    ⟨0, { mTo 0 with srcDie := 1 }, .mAck 0 ({ mTo 0 with srcDie := 1 }), linked (noded (ctxIn 1 { state := 5 })),
      by refine ⟨by simp [mTo], ?_⟩; decide +kernel⟩,
    ⟨0, { op := 0x2E }, lit, by decide +kernel⟩,
    ⟨0, { op := 0x2F }, lit, by decide +kernel⟩,
    ⟨23, { pkt := { op := 0x20, srcNode := 0, srcDie := 29 } }, [], linked (oeIn 23 { state := 7,
                                                                                      queue := [{ pkt := { op := 0x20,
                                                                                                           srcNode := 0,
                                                                                                           srcDie := 29 } }]
                                                                                      }), by decide +kernel⟩,
    ⟨23, mTo 0, .grant 23 (mTo 0), openAll (noded lit), by refine ⟨by simp [mTo], ?_⟩; decide +kernel⟩,
    ⟨23, mTo 0, .prune 23 (mTo 0), noded lit, by refine ⟨by simp [mTo], ?_⟩; decide +kernel⟩,
    ⟨23, mTo 0, .mMgmt 23 (mTo 0), openAll (noded (linkIn 131 { state := 5 })),
      by refine ⟨by simp [mTo], ?_⟩; decide +kernel⟩,
    ⟨23, { mTo 0 with srcNode := 1 }, .mGet 23 ({ mTo 0 with srcNode := 1 }), 0x21, noded lit,
      by refine ⟨by simp [mTo], ?_⟩; decide +kernel⟩⟩

theorem witness_MachineRequestsTerminate :
    (∃ (e : Oe) (p : Mpk) (c : Instr) (op n : Nat) (s : State), (c, op, n) ∈ [(Instr.mPut e p, 0x20,
      max 1 (32 * p.len)), (.mGet e p, 0x21, max 1 (32 * p.len)), (.mLoad e p, 0x22, max 1 (32 * p.len)), (.mAtom e p,
      0x23, 32)] ∧ nodeId s ≠ 0x8000 ∧ p.dstNode = nodeId s ∧ ctxAccepts s p.ctx p.gen = true ∧ ejects s e = true ∧
      s.stored = true ∧ remoteSpace p.addr = true ∧ remoteSpace (p.addr + n - 1) = true ∧ p.atop ≤ 4) ∧
    (∃ (e : Oe) (p : Mpk) (c : Instr) (op n : Nat) (s : State), (c, op, n) ∈ [(Instr.mPut e p, 0x20,
      max 1 (32 * p.len)), (.mGet e p, 0x21, max 1 (32 * p.len)), (.mLoad e p, 0x22, max 1 (32 * p.len)), (.mAtom e p,
      0x23, 32)] ∧ nodeId s ≠ 0x8000 ∧ p.dstNode = nodeId s ∧ ctxAccepts s p.ctx p.gen = true ∧ ejects s e = true ∧
      s.stored = true ∧ remoteSpace p.addr = true ∧ remoteSpace (p.addr + n - 1) = true ∧ p.atop ≤ 4) ∧
    (∃ (e : Oe) (p : Mpk) (c : Instr) (op n : Nat) (s : State), (c, op, n) ∈ [(Instr.mPut e p, 0x20,
      max 1 (32 * p.len)), (.mGet e p, 0x21, max 1 (32 * p.len)), (.mLoad e p, 0x22, max 1 (32 * p.len)), (.mAtom e p,
      0x23, 32)] ∧ nodeId s ≠ 0x8000 ∧ p.dstNode = nodeId s ∧ ctxAccepts s p.ctx p.gen = true ∧ ejects s e = true ∧
      s.stored = true ∧ remoteSpace p.addr = true ∧ remoteSpace (p.addr + n - 1) = true ∧ p.atop ≤ 4) ∧
    (∃ (e : Oe) (p : Mpk) (c : Instr) (op n : Nat) (s : State), (c, op, n) ∈ [(Instr.mPut e p, 0x20,
      max 1 (32 * p.len)), (.mGet e p, 0x21, max 1 (32 * p.len)), (.mLoad e p, 0x22, max 1 (32 * p.len)), (.mAtom e p,
      0x23, 32)] ∧ nodeId s ≠ 0x8000 ∧ p.dstNode = nodeId s ∧ ctxAccepts s p.ctx p.gen = true ∧ ejects s e = true ∧
      s.stored = true ∧ remoteSpace p.addr = true ∧ remoteSpace (p.addr + n - 1) = true ∧ p.atop ≤ 4) ∧
    (∃ (e : Oe) (p : Mpk) (c : Instr) (op n : Nat) (s : State), (c, op, n) ∈ [(Instr.mPut e p, 0x20,
      max 1 (32 * p.len)), (.mGet e p, 0x21, max 1 (32 * p.len)), (.mLoad e p, 0x22, max 1 (32 * p.len)), (.mAtom e p,
      0x23, 32)] ∧ nodeId s ≠ 0x8000 ∧ p.dstNode = nodeId s ∧ ctxAccepts s p.ctx p.gen = true ∧ ejects s e = true ∧
      s.stored = true ∧ 4 < p.atop) ∧
    (∃ (e : Oe) (p : Mpk) (c : Instr) (op n : Nat) (s : State), (c, op, n) ∈ [(Instr.mPut e p, 0x20,
      max 1 (32 * p.len)), (.mGet e p, 0x21, max 1 (32 * p.len)), (.mLoad e p, 0x22, max 1 (32 * p.len)), (.mAtom e p,
      0x23, 32)] ∧ nodeId s ≠ 0x8000 ∧ p.dstNode = nodeId s ∧ ctxAccepts s p.ctx p.gen = true ∧ ejects s e = true ∧
      s.stored = true ∧ ((s.terms.any fun u => u.pd == oePd e ∧ u.req.ctx == p.ctx ∧ openStore u) = true) ∧
      p.flag = true ∧ p.striped = false) ∧
    (∃ (u : TermSt) (id : Nat) (s : State), s.terms.find? (fun x => x.id == id) = some u ∧ u.started = true ∧
      u.waiting = 0 ∧ s.stored = true ∧ u.status ≠ 0 ∧ u.req.srcNode ≠ nodeId s) ∧
    (∃ (u : TermSt) (id : Nat) (s : State), s.terms.find? (fun x => x.id == id) = some u ∧ u.started = true ∧
      u.waiting = 0 ∧ s.stored = true ∧
      (decide (u.req.op = 0x20) && u.req.arrEn && !u.arrSent && u.status == 0) = true ∧
      (decide (u.req.ctx ≠ 0) && slotOn s u.req.ctx (homeDie u.req.addr / 8) == some (objSlot true u.req.arr)) = true) ∧
    (∃ (u : TermSt) (id : Nat) (s : State), s.terms.find? (fun x => x.id == id) = some u ∧ u.started = true ∧
      u.waiting = 0 ∧ s.stored = true ∧
      (decide (u.req.op = 0x20) && u.req.arrEn && !u.arrSent && u.status == 0) = true ∧
      (decide (u.req.ctx ≠ 0) && slotOn s u.req.ctx (homeDie u.req.addr / 8) == some (objSlot true u.req.arr)) = false ∧
      u.req.srcNode ≠ nodeId s) ∧
    (∃ (u : TermSt) (id : Nat) (s : State), s.terms.find? (fun x => x.id == id) = some u ∧ u.started = true ∧
      u.waiting = 0 ∧ s.stored = true ∧
      (decide (u.req.op = 0x20) && u.req.arrEn && !u.arrSent && u.status == 0) = false ∧ u.status = 0 ∧
      (u.req.op = 0x21 ∨ u.req.op = 0x22) ∧ u.req.srcNode ≠ nodeId s) ∧
    (∃ (u : TermSt) (id : Nat) (s : State), s.terms.find? (fun x => x.id == id) = some u ∧ u.started = true ∧
      u.waiting = 0 ∧ s.stored = true ∧
      (decide (u.req.op = 0x20) && u.req.arrEn && !u.arrSent && u.status == 0) = false ∧ u.status = 0 ∧
      (u.req.op = 0x20 ∨ (u.req.op = 0x23 ∧ u.req.ret = false)) ∧
      (getPd s u.pd).acks.find? (·.same (mAnswer s u.req 0 u.req.addr [])) = none) ∧
    (∃ (u : TermSt) (id : Nat) (s : State), s.terms.find? (fun x => x.id == id) = some u ∧ u.started = true ∧
      u.waiting = 0 ∧ s.stored = true ∧
      (decide (u.req.op = 0x20) && u.req.arrEn && !u.arrSent && u.status == 0) = false ∧ u.status = 0 ∧
      (u.req.op = 0x20 ∨ (u.req.op = 0x23 ∧ u.req.ret = false)) ∧
      (getPd s u.pd).acks = [((getPd s u.pd).acks.getD 0 {})] ∧
      ((getPd s u.pd).acks.getD 0 {}).same (mAnswer s u.req 0 u.req.addr []) = true ∧
      ((getPd s u.pd).acks.getD 0 {}).count + 1 < 65535) ∧
    (∃ (pd : Pd) (s : State), s.stored = true ∧ (getPd s pd).inject = [((getPd s pd).inject.getD 0 {})] ∧
      (getPd s pd).landed = [] ∧ ((getPd s pd).inject.getD 0 {}).accepted = true ∧
      sourceHeld s ((getPd s pd).inject.getD 0 {}) = false ∧
      (getLink s (108 + ((getPd s pd).inject.getD 0 {}).oe)).state ≠ 5 ∧ s.dirs.all (fun d => d.2.port == []) = true) ∧
    (∃ (pd : Pd) (s : State), s.stored = true ∧ (s.terms.map (·.id)).Nodup ∧ (s.terms.getD 0 {}).pd = pd ∧
      (s.terms.getD 0 {}).started = false ∧ termReady s (s.terms.getD 0 {}) = true ∧
      respBytesOf (s.terms.getD 0 {}).req = 0 ∧ (s.terms.getD 0 {}).heldFor = [6]) ∧
    (∃ (e : Oe) (p : Mpk) (s : State), nodeId s ≠ 0x8000 ∧ p.dstNode = nodeId s ∧ ctxAccepts s p.ctx p.gen = true ∧
      ejects s e = true ∧ s.stored = true ∧ p.striped = false ∧ termReady { s with
      terms := s.terms ++ [{ id := s.nextUid, pd := oePd e, port := p.port, req := { p with op := 0x20 },
                             started := false, heldFor := [] }] } { id := s.nextUid, pd := oePd e, port := p.port,
                                                                    req := { p with op := 0x20 }, started := false,
                                                                    heldFor := [] } = false) ∧
    (∃ (e : Oe) (p : Mpk) (u : TermSt) (x : Pkg × Nat) (s : State), nodeId s ≠ 0x8000 ∧ p.dstNode = nodeId s ∧
      ctxAccepts s p.ctx p.gen = true ∧ ejects s e = true ∧ s.stored = true ∧ u = { id := s.nextUid, pd := oePd e,
                                                                                    port := p.port, req := { p with
                                                                                    op := 0x20 }, started := true,
                                                                                    room := { src := e + 1 } } ∧
      tget 0 s.tags (64 + oePd e) < 4096 ∧ termPkgs u = [x] ∧ delivered s x.1 = true) :=
  ⟨⟨0, { mTo 0 with len := 1, data := [1] }, .mPut 0 ({ mTo 0 with len := 1, data := [1] }), 32, 32, linked nodeOne,
      by refine ⟨by simp [mTo], ?_⟩; decide +kernel⟩,
    ⟨0, { mTo 0 with len := 128 }, .mGet 0 ({ mTo 0 with len := 128 }), 33, 4096, linked nodeOne,
      by refine ⟨by simp [mTo], ?_⟩; decide +kernel⟩,
    ⟨0, { mTo 0 with len := 1 }, .mLoad 0 ({ mTo 0 with len := 1 }), 34, 32, linked nodeOne,
      by refine ⟨by simp [mTo], ?_⟩; decide +kernel⟩,
    ⟨0, mTo 0, .mAtom 0 (mTo 0), 35, 32, linked nodeOne, by refine ⟨by simp [mTo], ?_⟩; decide +kernel⟩,
    ⟨0, { mTo 0 with atop := 5 }, .mAtom 0 ({ mTo 0 with atop := 5 }), 35, 32, linked nodeOne,
      by refine ⟨by simp [mTo], ?_⟩; decide +kernel⟩,
    ⟨0, { mTo 0 with flag := true }, .mPut 0 ({ mTo 0 with flag := true }), 32, 1, linked { nodeOne with
      terms := [{ req := { mTo 0 with op := 0x20 } , waiting := 1 }] }, by refine ⟨by simp [mTo], ?_⟩; decide +kernel⟩,
    ⟨{ id := 7, status := 2, req := { op := 0x20, srcNode := 1 } }, 7, { nodeOne with terms := [{ id := 7,
                                                                                                  status := 2,
                                                                                                  req := { op := 0x20,
                                                                                                           srcNode := 1 } }]
                                                                                      }, by decide +kernel⟩,
    ⟨{ id := 7, req := { ctx := 1, op := 0x20, srcNode := 1, arrEn := true } }, 7, { nodeOne with terms := [{ id := 7,
                                                                                                              req := { ctx := 1,
                                                                                                                       op := 0x20,
                                                                                                                       srcNode := 1,
                                                                                                                       arrEn := true } }]
                                                                                                  },
      by decide +kernel⟩,
    ⟨{ id := 7, req := { ctx := 1, op := 0x20, srcNode := 1, arrEn := true, arr := 255 } }, 7, { nodeOne with
      terms := [{ id := 7, req := { ctx := 1, op := 0x20, srcNode := 1, arrEn := true, arr := 255 } }] },
      by decide +kernel⟩,
    ⟨{ id := 7, req := { ctx := 1, op := 0x21, srcNode := 1 } }, 7, { nodeOne with terms := [{ id := 7,
                                                                                               req := { ctx := 1,
                                                                                                        op := 0x21,
                                                                                                        srcNode := 1 } }]
                                                                                   }, by decide +kernel⟩,
    ⟨{ id := 7, req := { ctx := 1, op := 0x23 } }, 7, { nodeOne with terms := [{ id := 7, req := { ctx := 1,
                                                                                                   op := 0x23 } }] },
      by decide +kernel⟩,
    ⟨{ id := 7, req := { ctx := 1, op := 0x20 } }, 7, { nodeOne with terms := [{ id := 7, req := { ctx := 1,
                                                                                                   op := 0x20 } }],
                                                                     pds := [(0, { acks := [{ ctx := 1,
                                                                                              count := 65533 }] })] },
      by decide +kernel⟩,
    ⟨0, linked { nodeOne with pds := [(0, { inject := [{ die := 1, oe := 0, accepted := true, pkt := { op := 0x20 } }]
                                            })] }, by decide +kernel⟩,
    ⟨0, { nodeOne with terms := [{ id := 7, started := false, req := { op := 0x20 }, heldFor := [6] }, { id := 6,
                                                                                                         started := true,
                                                                                                         status := 0,
                                                                                                         waiting := 0,
                                                                                                         arrSent := true }]
                       }, by decide +kernel⟩,
    ⟨0, mTo 0, linked { nodeOne with nextUid := 1, terms := [{ started := false, req := { mTo 0 with op := 0x20 } }] },
      by decide +kernel⟩,
    ⟨0, { mTo 0 with len := 1, data := List.replicate 32 1 }, _, (termPkgs { pd := 0, req := { mTo 0 with op := 0x20,
                                                                                                          len := 1,
                                                                                                          data := List.replicate 32 1 } }).getD 0 ({},
      0), linked nodeOne,
      by refine ⟨by decide +kernel, by decide +kernel, by decide +kernel, by decide +kernel, by decide +kernel, rfl,
           ?_⟩; decide +kernel⟩⟩

theorem witness_MachineAnswersCreditsAndMarkersReturn :
    (∃ (pd : Pd) (h : AckHold) (s : State), (getPd s pd).acks = [h] ∧ h.srcNode ≠ nodeId s ∧ s.stored = true) ∧
    (∃ (e : Oe) (p : Mpk) (s : State), nodeId s ≠ 0x8000 ∧ ejects s e = true ∧ s.stored = true ∧ p.count ≠ 0 ∧
      atStep s p.ctx 6 = true ∧ (tearOf s p.ctx).oldGen = p.gen ∧ (tearOf s p.ctx).marker = p.tag ∧
      bit (tearOf s p.ctx).ports e = true ∧ wall s < (tearOf s p.ctx).drainStart + 15000000) ∧
    (∃ (e : Oe) (p : Mpk) (s : State), nodeId s ≠ 0x8000 ∧ ejects s e = true ∧ s.stored = true ∧ p.count ≠ 0 ∧
      atStep s p.ctx 6 = false) ∧
    (∃ (e : Oe) (p : Mpk) (s : State), nodeId s ≠ 0x8000 ∧ p.dstNode = nodeId s ∧ ctxAccepts s p.ctx p.gen = true ∧
      ejects s e = true ∧ (getPd s (oePd e)).landed = [] ∧ answerWaits s { p with op := 0x24 } = false ∧
      goesAtOnce s 1 (64 + oePd e) p.srcDie p.srcDie (diePieces { p with op := 0x24 }) = true ∧ s.stored = true ∧
      findMTxn s p.srcDie p.tag = none) ∧
    (∃ (e : Oe) (p : Mpk) (s : State), nodeId s ≠ 0x8000 ∧ p.dstNode = nodeId s ∧ ctxAccepts s p.ctx p.gen = true ∧
      ejects s e = true ∧ (getPd s (oePd e)).landed = [] ∧ answerWaits s { p with op := 0x24 } = false ∧
      goesAtOnce s 1 (64 + oePd e) p.srcDie p.srcDie (diePieces { p with op := 0x24 }) = true ∧ s.stored = true ∧
      findMTxn s p.srcDie p.tag = some (s.mtxns.getD 0 {}) ∧ p.status = 0 ∧
      (region (s.mtxns.getD 0 {}).dst = .near (s.mtxns.getD 0 {}).die ∨
      region (s.mtxns.getD 0 {}).dst = .scratch (s.mtxns.getD 0 {}).die ∧ (getCd s (s.mtxns.getD 0 {}).die).acc = [] ∧
      spFrom s (s.mtxns.getD 0 {}).die (s.mtxns.getD 0 {}).dst ≤ absCycle s ((s.mtxns.getD 0 {}).die / 8)) ∧
      (s.mtxns.getD 0 {}).isGet = true ∧ (s.mtxns.getD 0 {}).arrEn = true ∧
      ticking (getFacet s ((s.mtxns.getD 0 {}).die / 8)) = true) ∧
    (∃ (e : Oe) (p : Mpk) (s : State), nodeId s ≠ 0x8000 ∧ p.dstNode = nodeId s ∧ ctxAccepts s p.ctx p.gen = true ∧
      ejects s e = true ∧ (getPd s (oePd e)).landed = [] ∧ answerWaits s { p with op := 0x24 } = false ∧
      goesAtOnce s 1 (64 + oePd e) p.srcDie p.srcDie (diePieces { p with op := 0x24 }) = true ∧ s.stored = true ∧
      findMTxn s p.srcDie p.tag = some (s.mtxns.getD 0 {}) ∧ p.status = 0 ∧
      (region (s.mtxns.getD 0 {}).dst = .near (s.mtxns.getD 0 {}).die ∨
      region (s.mtxns.getD 0 {}).dst = .scratch (s.mtxns.getD 0 {}).die ∧ (getCd s (s.mtxns.getD 0 {}).die).acc = [] ∧
      spFrom s (s.mtxns.getD 0 {}).die (s.mtxns.getD 0 {}).dst ≤ absCycle s ((s.mtxns.getD 0 {}).die / 8)) ∧
      (s.mtxns.getD 0 {}).isLoad = true ∧
      findFly s (s.mtxns.getD 0 {}).die (s.mtxns.getD 0 {}).engine (s.mtxns.getD 0 {}).uid = some (((getEngine s 0 3).fly).getD 0 {})) ∧
    (∃ (e : Oe) (p : Mpk) (s : State), nodeId s ≠ 0x8000 ∧ p.dstNode = nodeId s ∧ ctxAccepts s p.ctx p.gen = true ∧
      ejects s e = true ∧ (getPd s (oePd e)).landed = [] ∧ answerWaits s { p with op := 0x24 } = false ∧
      goesAtOnce s 1 (64 + oePd e) p.srcDie p.srcDie (diePieces { p with op := 0x24 }) = true ∧ s.stored = true ∧
      findMTxn s p.srcDie p.tag = some (s.mtxns.getD 0 {}) ∧ p.status ≠ 0 ∧
      (tget {} s.latches (fenceKey (s.mtxns.getD 0 {}).die (s.mtxns.getD 0 {}).slot)).status = 0) ∧
    (∃ (e : Oe) (p : Mpk) (s : State), nodeId s ≠ 0x8000 ∧ p.dstNode = nodeId s ∧ ctxAccepts s p.ctx p.gen = true ∧
      ejects s e = true ∧ (getPd s (oePd e)).landed = [] ∧ answerWaits s { p with op := 0x24 } = false ∧
      goesAtOnce s 1 (64 + oePd e) p.srcDie p.srcDie (diePieces { p with op := 0x24 }) = true ∧ s.stored = true ∧
      findMTxn s p.srcDie p.tag = some (s.mtxns.getD 0 {}) ∧ p.status ≠ 0 ∧ (s.mtxns.getD 0 {}).isLoad = true ∧
      findFly s (s.mtxns.getD 0 {}).die (s.mtxns.getD 0 {}).engine (s.mtxns.getD 0 {}).uid = some (((getEngine s 0 3).fly).getD 0 {}) ∧
      statusReason p.status (((getEngine s 0 3).fly).getD 0 {}).desc.collHalt ≠ 0) ∧
    (∃ (e : Oe) (p : Mpk) (s : State), nodeId s ≠ 0x8000 ∧ p.dstNode = nodeId s ∧ ctxAccepts s p.ctx p.gen = true ∧
      ejects s e = true ∧ (getPd s (oePd e)).landed = [] ∧
      goesAtOnce s 1 (64 + oePd e) p.srcDie p.srcDie (diePieces { p with op := 0x25 }) = true ∧ s.stored = true ∧
      p.status = 0) ∧
    (∃ (e : Oe) (p : Mpk) (s : State), nodeId s ≠ 0x8000 ∧ p.dstNode = nodeId s ∧ ctxAccepts s p.ctx p.gen = true ∧
      ejects s e = true ∧ (getPd s (oePd e)).landed = [] ∧
      goesAtOnce s 1 (64 + oePd e) p.srcDie p.srcDie (diePieces { p with op := 0x25 }) = true ∧ s.stored = true ∧
      p.status ≠ 0 ∧ (tget {} s.latches (fenceKey p.srcDie p.slot)).status = 0) ∧
    (∃ (e : Oe) (p : Mpk) (s : State), nodeId s ≠ 0x8000 ∧ p.dstNode = nodeId s ∧ ctxAccepts s p.ctx p.gen = true ∧
      ejects s e = true ∧ (getPd s (oePd e)).landed = [] ∧
      goesAtOnce s 1 (64 + oePd e) p.srcDie p.srcDie (diePieces { p with op := 0x25 }) = true ∧ s.stored = true ∧
      p.status = 3 ∧ (getEngine s p.srcDie p.srcEngine).ratom.find? (fun r => r.1 == p.slot) = some (p.slot,
      (((getEngine s p.srcDie p.srcEngine).ratom.getD 0 (0, {})).2)) ∧
      (((getEngine s p.srcDie p.srcEngine).ratom.getD 0 (0, {})).2).ctx = p.ctx ∧
      (((getEngine s p.srcDie p.srcEngine).ratom.getD 0 (0, {})).2).gen = p.gen) ∧
    (∃ (e : Oe) (p : Mpk) (s : State), nodeId s ≠ 0x8000 ∧ p.dstNode = nodeId s ∧ ctxAccepts s p.ctx p.gen = true ∧
      ejects s e = true ∧ (getPd s (oePd e)).landed = [] ∧
      goesAtOnce s 1 (64 + oePd e) p.srcDie p.srcDie (diePieces { p with op := 0x25 }) = true ∧ s.stored = true ∧
      p.status ≠ 3) ∧
    (∃ (e : Oe) (res : List Nat) (sh : Nat) (s : State), (getOe s e).markers = [] ∧ (getPd s (oePd e)).inject = [] ∧
      (getPd s (oePd e)).landed = [] ∧ (∀ x ∈ s.terms, x.pd ≠ oePd e) ∧ (getOe s e).txTail = [] ∧
      0 < frameRoomBytes (getOe s e).width ∧ s.stored = true ∧ (getOe s e).queue = [] ∧
      rising none (getOe s e).resSpent = true ∧ engineShut s e = false) ∧
    (∃ (e : Oe) (res : List Nat) (sh : Nat) (s : State), (getOe s e).markers = [] ∧ (getPd s (oePd e)).inject = [] ∧
      (getPd s (oePd e)).landed = [] ∧ (∀ x ∈ s.terms, x.pd ≠ oePd e) ∧ (getOe s e).txTail = [] ∧
      0 < frameRoomBytes (getOe s e).width ∧ s.stored = true ∧ (getOe s e).queue = [((getOe s e).queue.getD 0 {})] ∧
      ((getOe s e).queue.getD 0 {}).pkt.tc < 4 ∧ ((getOe s e).queue.getD 0 {}).pkt.sub < 2 ∧ (getOe s e).state = 5 ∧
      (getOe s e).buffer.length < 96 ∧ epochDue (getOe s e) = false ∧ engineOpen s e = true ∧
      ((getOe s e).queue.getD 0 {}).inj = false ∧
      mpkUnits ((getOe s e).queue.getD 0 {}).pkt + ((getOe s e).sharedSpent - sh) ≤ sharedUnits) ∧
    (∃ (e : Oe) (s : State), pendBytes (getOe s e) ≠ 0 ∧ (getOe s e).queue = [] ∧ (getOe s e).markers = [] ∧
      (getPd s (oePd e)).inject = [] ∧ (getPd s (oePd e)).landed = [] ∧ (∀ x ∈ s.terms, x.pd ≠ oePd e) ∧
      s.stored = true) ∧
    (∃ (e : Oe) (p : Mpk) (s : State), nodeId s ≠ 0x8000 ∧ ejects s e = true ∧ s.stored = true ∧ p.count = 0 ∧
      (getOe s e).returns = [] ∧ (∀ k, k < 24 → ∀ q ∈ (getOe s k).queue, q.src ≠ e + 1) ∧ (∀ q ∈ roomHolders s,
      q.src ≠ e + 1) ∧ (getLink s (108 + e)).state ≠ 5) ∧
    (∃ (e : Oe) (p : Mpk) (c : Instr) (op : Nat) (s : State), (c, op) ∈ [(Instr.mData e p, 0x24), (.mAck e p, 0x25)] ∧
      nodeId s ≠ 0x8000 ∧ p.dstNode = nodeId s ∧ ctxAccepts s p.ctx p.gen = true ∧ ejects s e = true ∧
      (getPd s (oePd e)).landed = [] ∧ isAdmitted s p.srcDie = false ∧ s.stored = true) ∧
    (∃ (e : Oe) (p : Mpk) (s : State), nodeId s ≠ 0x8000 ∧ p.dstNode = nodeId s ∧ ctxAccepts s p.ctx p.gen = true ∧
      ejects s e = true ∧ (getPd s (oePd e)).landed = [] ∧ answerWaits s { p with op := 0x24 } = true ∧
      goesAtOnce s 1 (64 + oePd e) p.srcDie p.srcDie (diePieces { p with op := 0x24 }) = true ∧ s.stored = true) ∧
    (∃ (e : Oe) (p : Mpk) (s : State), nodeId s ≠ 0x8000 ∧ ejects s e = true ∧ s.stored = true ∧ p.count ≠ 0 ∧
      atStep s p.ctx 6 = true ∧ (tearOf s p.ctx).oldGen = p.gen ∧ (tearOf s p.ctx).marker = p.tag ∧
      bit (tearOf s p.ctx).ports e = true ∧ (tearOf s p.ctx).drainStart + 15000000 ≤ wall s) :=
  ⟨⟨7, { srcNode := 1 }, { nodeOne with pds := [(7, { acks := [{ srcNode := 1 }] })] }, by decide +kernel⟩,
    ⟨23, { count := 1, ctx := 255, gen := 7, tag := 3 }, linked (noded (tornAt 6 { oldGen := 7, marker := 3,
                                                                                   ports := 2 ^ 23 })),
      by decide +kernel⟩,
    ⟨23, { count := 1 }, linked (noded lit), by decide +kernel⟩,
    ⟨0, mTo 0, linked nodeOne, by decide +kernel⟩,
    ⟨0, { mTo 0 with data := [1], len := 1 }, linked { nodeOne with mtxns := [{ die := 0, len := 32, isGet := true,
                                                                                arrEn := true }], facets := [(0,
                                                                    { state := 2 })] }, by decide +kernel⟩,
    ⟨0, { mTo 0 with data := [1], len := 1 }, linked { nodeOne with mtxns := [{ die := 0, len := 32, isLoad := true,
                                                                                engine := 3, uid := 1, dst := 0 }],
                                                                    engines := [(engineKey 0 3, { fly := [{ uid := 1,
                                                                                                            outstanding := 1 }]
                                                                                                  })] },
      by decide +kernel⟩,
    ⟨0, { mTo 0 with status := 2 }, linked { nodeOne with mtxns := [{}] }, by decide +kernel⟩,
    ⟨0, { mTo 0 with status := 8 }, linked { nodeOne with mtxns := [{ die := 0, len := 32, isLoad := true,
                                                                      engine := 3, uid := 1, dst := 0 }],
                                                          engines := [(engineKey 0 3, { fly := [{ uid := 1,
                                                                                                  outstanding := 1 }]
                                                                                        })] }, by decide +kernel⟩,
    ⟨0, { mTo 0 with count := 65535 }, linked nodeOne, by decide +kernel⟩,
    ⟨0, { mTo 0 with status := 8 }, linked nodeOne, by decide +kernel⟩,
    ⟨0, { mTo 0 with status := 3, srcEngine := 3 }, linked { nodeOne with engines := [(engineKey 0 3, { ratom := [(0,
                                                                                                        { ctx := 1,
                                                                                                          gen := 1 })]
                                                                                                        })] },
      by decide +kernel⟩,
    ⟨0, mTo 0, linked nodeOne, by decide +kernel⟩,
    ⟨23, [1], 2, oeIn 23 { state := 5, sharedSpent := 1 }, by decide +kernel⟩,
    ⟨23, [], 1, linked (oeIn 23 { state := 5, txEpoch := 1, sharedSpent := sharedUnits,
                                  queue := [{ pkt := { op := 0x20 } }] }), by decide +kernel⟩,
    ⟨23, oeIn 23 { pendShared := 65536 }, by decide +kernel⟩,
    ⟨23, {}, linked (noded lit),
      by refine ⟨by decide +kernel, by decide +kernel, by decide +kernel, rfl, rfl, fun k _ q h => ?_,
           by decide +kernel, by decide +kernel⟩; exact nomatch h⟩,
    ⟨0, mTo 0, .mAck 0 (mTo 0), 0x25, { linked nodeOne with admitted := [(64, 1)] },
      by refine ⟨by simp [mTo], ?_⟩; decide +kernel⟩,
    ⟨0, mTo 0, linked { nodeOne with cds := [], mtxns := [{ die := 0, len := 32, isGet := true }] },
      by decide +kernel⟩,
    ⟨23, { count := 1, ctx := 255, gen := 7, tag := 3 }, linked { noded (tornAt 6 { oldGen := 7, marker := 3,
                                                                                    ports := 2 ^ 23 }) with
      time := 3 * 15000000 }, by decide +kernel⟩⟩

theorem witness_CollectivePacketsWaitOrAreDiscarded :
    (∃ (e : Oe) (p : Mpk) (c : Instr) (s : State), c ∈ [Instr.cUp e p, .cDown e p, .arrive e p, .release e p,
      .grant e p, .abort e p, .prune e p] ∧ ejects s e = true ∧ nodeId s ≠ 0x8000 ∧ p.dstNode = nodeId s ∧
      ((getCtx s p.ctx).state ∉ [3, 4, 5] ∨ (getCtx s p.ctx).gen ≠ p.gen) ∧ s.stored = true) ∧
    (∃ (e : Oe) (p : Mpk) (c : Instr) (s : State), c ∈ [Instr.cUp e p, .cDown e p, .arrive e p, .release e p,
      .grant e p, .abort e p, .prune e p] ∧ ejects s e = true ∧ nodeId s ≠ 0x8000 ∧ p.dstNode = nodeId s ∧
      ((getCtx s p.ctx).state ∉ [3, 4, 5] ∨ (getCtx s p.ctx).gen ≠ p.gen) ∧ s.stored = true) ∧
    (∃ (e : Oe) (p : Mpk) (c : Instr) (s : State), c ∈ [Instr.cUp e p, .cDown e p, .arrive e p, .release e p,
      .grant e p, .abort e p, .prune e p] ∧ ejects s e = true ∧ nodeId s ≠ 0x8000 ∧ p.dstNode = nodeId s ∧
      ((getCtx s p.ctx).state ∉ [3, 4, 5] ∨ (getCtx s p.ctx).gen ≠ p.gen) ∧ s.stored = true) ∧
    (∃ (e : Oe) (p : Mpk) (c : Instr) (s : State), c ∈ [Instr.cUp e p, .cDown e p, .arrive e p, .release e p,
      .grant e p, .abort e p, .prune e p] ∧ ejects s e = true ∧ nodeId s ≠ 0x8000 ∧ p.dstNode = nodeId s ∧
      ((getCtx s p.ctx).state ∉ [3, 4, 5] ∨ (getCtx s p.ctx).gen ≠ p.gen) ∧ s.stored = true) ∧
    (∃ (e : Oe) (p : Mpk) (c : Instr) (s : State), c ∈ [Instr.cUp e p, .cDown e p, .arrive e p, .release e p,
      .grant e p, .abort e p, .prune e p] ∧ ejects s e = true ∧ nodeId s ≠ 0x8000 ∧ p.dstNode = nodeId s ∧
      ((getCtx s p.ctx).state ∉ [3, 4, 5] ∨ (getCtx s p.ctx).gen ≠ p.gen) ∧ s.stored = true) ∧
    (∃ (e : Oe) (p : Mpk) (c : Instr) (s : State), c ∈ [Instr.cUp e p, .cDown e p, .arrive e p, .release e p,
      .grant e p, .abort e p, .prune e p] ∧ ejects s e = true ∧ nodeId s ≠ 0x8000 ∧ p.dstNode = nodeId s ∧
      ((getCtx s p.ctx).state ∉ [3, 4, 5] ∨ (getCtx s p.ctx).gen ≠ p.gen) ∧ s.stored = true) ∧
    (∃ (e : Oe) (p : Mpk) (c : Instr) (s : State), c ∈ [Instr.cUp e p, .cDown e p, .arrive e p, .release e p,
      .grant e p, .abort e p, .prune e p] ∧ ejects s e = true ∧ nodeId s ≠ 0x8000 ∧ p.dstNode = nodeId s ∧
      ((getCtx s p.ctx).state ∉ [3, 4, 5] ∨ (getCtx s p.ctx).gen ≠ p.gen) ∧ s.stored = true) ∧
    (∃ (e : Oe) (p : Mpk) (s : State), ejects s e = true ∧ nodeId s ≠ 0x8000 ∧ p.dstNode = nodeId s ∧
      (getCtx s p.ctx).state ∈ [3, 4, 5] ∧ (getCtx s p.ctx).gen = p.gen ∧
      (s.plans.find? (fun q => q.pd / 2 == oePd e / 2 ∧ q.ctx == p.ctx ∧ q.gen == p.gen ∧
      q.coll == (collHdrOf p.data).collId) = none) ∧ s.stored = true ∧
      (s.ctrlTable.filter fun x => x.1 == oePd e).length < 1024) ∧
    (∃ (e : Oe) (p : Mpk) (pl : Plan) (s : State), planHere s e p pl ∧ (collHdrOf p.data).seq = (pl.seq + 1) % 65536 ∧
      s.stored = true) ∧
    (∃ (e : Oe) (p : Mpk) (pl : Plan) (s : State), planHere s e p pl ∧ s.stored = true ∧
      findInst s pl.pd pl.ctx pl.coll = none ∧ pl.incs = []) ∧
    (∃ (e : Oe) (p : Mpk) (pl : Plan) (s : State), planHere s e p pl ∧ s.stored = true ∧
      findInst s pl.pd pl.ctx pl.coll = some { instOne with owed := [(1, { op := 0x28 })] } ∧
      (collHdrOf p.data).flow = opFlow 0x28 ∧ 0 < (collHdrOf p.data).grant ∧ isFenced s pl.pd { instOne with
      owed := [(1, { op := 0x28 })] } p.srcNode = false) ∧
    (∃ (e : Oe) (p : Mpk) (c : Instr) (s : State), c ∈ [Instr.cUp e p, .cDown e p, .arrive e p, .release e p,
      .grant e p, .abort e p, .prune e p] ∧ ejects s e = true ∧ nodeId s ≠ 0x8000 ∧ p.dstNode = nodeId s ∧
      ((getCtx s p.ctx).state ∉ [3, 4, 5] ∨ (getCtx s p.ctx).gen ≠ p.gen) ∧ s.stored = true ∧ (p.ctx, p.gen,
      (collHdrOf p.data).collId, (collHdrOf p.data).seq) ∈ (getPd s (oePd e)).pruneSent) ∧
    (∃ (e : Oe) (p : Mpk) (c : Instr) (s : State), c ∈ [Instr.cUp e p, .cDown e p, .arrive e p, .release e p,
      .grant e p, .abort e p, .prune e p] ∧ ejects s e = true ∧ nodeId s ≠ 0x8000 ∧ p.dstNode = nodeId s ∧
      ((getCtx s p.ctx).state ∉ [3, 4, 5] ∨ (getCtx s p.ctx).gen ≠ p.gen) ∧ s.stored = true ∧ (p.ctx, p.gen,
      (collHdrOf p.data).collId, (collHdrOf p.data).seq) ∉ (getPd s (oePd e)).pruneSent) ∧
    (∃ (e : Oe) (p : Mpk) (c : Instr) (k : Nat) (s : State), ejects s e = true ∧ nodeId s ≠ 0x8000 ∧
      p.dstNode = nodeId s ∧ (getCtx s p.ctx).state ∈ [3, 4, 5] ∧ (getCtx s p.ctx).gen = p.gen ∧
      (s.plans.find? (fun q => q.pd / 2 == oePd e / 2 ∧ q.ctx == p.ctx ∧ q.gen == p.gen ∧
      q.coll == (collHdrOf p.data).collId) = none) ∧ s.stored = true ∧ (c, k) ∈ [(Instr.arrive e p, 0), (.release e p,
      1), (.grant e p, 2), (.abort e p, 3), (.prune e p, 4)] ∧
      (s.ctrlTable.filter fun x => x.1 == oePd e).length < 1024) ∧
    (∃ (e : Oe) (p : Mpk) (c : Instr) (k : Nat) (s : State), ejects s e = true ∧ nodeId s ≠ 0x8000 ∧
      p.dstNode = nodeId s ∧ (getCtx s p.ctx).state ∈ [3, 4, 5] ∧ (getCtx s p.ctx).gen = p.gen ∧
      (s.plans.find? (fun q => q.pd / 2 == oePd e / 2 ∧ q.ctx == p.ctx ∧ q.gen == p.gen ∧
      q.coll == (collHdrOf p.data).collId) = none) ∧ s.stored = true ∧ (c, k) ∈ [(Instr.arrive e p, 0), (.release e p,
      1), (.grant e p, 2), (.abort e p, 3), (.prune e p, 4)] ∧
      1024 ≤ (s.ctrlTable.filter fun x => x.1 == oePd e).length) ∧
    (∃ (e : Oe) (p : Mpk) (pl : Plan) (c : Instr) (fl : Nat) (s : State), (c, fl) ∈ [(Instr.cUp e p, 0), (.cDown e p,
      1)] ∧ planHere s e p pl ∧ (p.srcNode, fl) ∉ pl.inbound ∧ s.stored = true) ∧
    (∃ (e : Oe) (p : Mpk) (pl : Plan) (s : State) (c : Instr) (op : Nat), planHere s e p pl ∧
      (collHdrOf p.data).seq = (pl.seq + 1) % 65536 ∧ pl.seq < 65536 ∧ s.stored = true ∧ (c, op) ∈ [(Instr.cUp e p,
      0x28), (.cDown e p, 0x29), (.arrive e p, 0x2A), (.release e p, 0x2A), (.prune e p, 0x2A)] ∧ (op = 0x2A ∨
      ((p.srcNode, op - 0x28) ∈ pl.inbound ∧ tget 0 pl.room (p.srcNode * 2 + (op - 0x28)) ≠ 0))) ∧
    (∃ (e : Oe) (p : Mpk) (pl : Plan) (s : State) (i : Inst) (m : Mpk), planHere s e p pl ∧ s.stored = true ∧
      findInst s pl.pd pl.ctx pl.coll = some i ∧ i.owed = [(p.srcNode, m)] ∧ m.op ≠ 0x2A ∧
      (collHdrOf p.data).flow = opFlow m.op ∧ 0 < (collHdrOf p.data).grant ∧ isFenced s pl.pd i p.srcNode = false ∧
      fencedNeed s pl i = false) ∧
    (∃ (e : Oe) (p : Mpk) (pl : Plan) (c : Instr) (fl : Nat) (s : State), (c, fl) ∈ [(Instr.cUp e p, 0), (.cDown e p,
      1)] ∧ planHere s e p pl ∧ tget 0 pl.room (p.srcNode * 2 + fl) = 0 ∧ s.stored = true ∧ (p.srcNode,
      fl) ∈ pl.inbound) ∧
    (∃ (e : Oe) (p : Mpk) (pl : Plan) (s : State), planHere s e p pl ∧ (collHdrOf p.data).seq = (pl.seq + 1) % 65536 ∧
      pl.seq < 65536 ∧ s.stored = true ∧ pl.kind = 5 ∧ p.srcNode ≠ pl.parent ∧ fencedNow s pl.pd p.srcNode = true) ∧
    (∃ (e : Oe) (p : Mpk) (pl : Plan) (i : Inst) (s : State), planHere s e p pl ∧ s.stored = true ∧
      findInst s pl.pd pl.ctx pl.coll = some i ∧ pl.kind = 5 ∧ p.srcNode ≠ pl.parent ∧
      isFenced s pl.pd i p.srcNode = true) :=
  ⟨⟨0, mTo 0, .cUp 0 (mTo 0), linked (noded lit), by refine ⟨by simp [mTo], ?_⟩; decide +kernel⟩,
    ⟨0, mTo 0, .cDown 0 (mTo 0), linked (noded lit), by refine ⟨by simp [mTo], ?_⟩; decide +kernel⟩,
    ⟨0, mTo 0, .arrive 0 (mTo 0), linked (noded lit), by refine ⟨by simp [mTo], ?_⟩; decide +kernel⟩,
    ⟨0, mTo 0, .release 0 (mTo 0), linked (noded lit), by refine ⟨by simp [mTo], ?_⟩; decide +kernel⟩,
    ⟨0, mTo 0, .grant 0 (mTo 0), linked (noded lit), by refine ⟨by simp [mTo], ?_⟩; decide +kernel⟩,
    ⟨0, mTo 0, .abort 0 (mTo 0), linked (noded lit), by refine ⟨by simp [mTo], ?_⟩; decide +kernel⟩,
    ⟨0, mTo 0, .prune 0 (mTo 0), linked (noded lit), by refine ⟨by simp [mTo], ?_⟩; decide +kernel⟩,
    ⟨0, mTo 0, linked nodeOne, by decide +kernel⟩,
    ⟨0, mTo 0, { planOne with seq := 65535 }, planned { planOne with seq := 65535 } [],
      by refine ⟨by unfold planHere; and_intros <;> first | (left; decide +kernel) | decide +kernel | (exact fun _ h => nomatch h) | (exact isErr (by decide +kernel)) | (exact isOk (by decide +kernel)) | rfl | (simp; done) | decide +kernel,
           ?_⟩; decide +kernel⟩,
    ⟨0, mTo 0, planOne, planned planOne [],
      by refine ⟨by unfold planHere; and_intros <;> first | (left; decide +kernel) | decide +kernel | (exact fun _ h => nomatch h) | (exact isErr (by decide +kernel)) | (exact isOk (by decide +kernel)) | rfl | (simp; done) | decide +kernel,
           ?_⟩; decide +kernel⟩,
    ⟨0, { mTo 0 with srcNode := 1, data := List.replicate 14 0 ++ [1] }, planOne, planned planOne [{ instOne with
      owed := [(1, { op := 0x28 })] }],
      by refine ⟨by unfold planHere; and_intros <;> first | (left; decide +kernel) | decide +kernel | (exact fun _ h => nomatch h) | (exact isErr (by decide +kernel)) | (exact isOk (by decide +kernel)) | rfl | (simp; done) | decide +kernel,
           ?_⟩; decide +kernel⟩,
    ⟨23, mTo 0, .prune 23 (mTo 0), { linked (noded lit) with pds := [(7, { pruneSent := [(1, 1, 0, 0)] })] },
      by refine ⟨by simp [mTo], ?_⟩; decide +kernel⟩,
    ⟨23, mTo 0, .cUp 23 (mTo 0), linked (noded lit), by refine ⟨by simp [mTo], ?_⟩; decide +kernel⟩,
    ⟨0, mTo 0, .prune 0 (mTo 0), 4, linked nodeOne,
      by refine ⟨by decide +kernel, by decide +kernel, by decide +kernel, by decide +kernel, by decide +kernel,
           by decide +kernel, by decide +kernel, by simp, by decide +kernel⟩⟩,
    ⟨0, mTo 0, .arrive 0 (mTo 0), 0, { linked nodeOne with ctrlTable := List.replicate 1024 (0, {}) },
      by refine ⟨by decide +kernel, by decide +kernel, by decide +kernel, by decide +kernel, by decide +kernel,
           by decide +kernel, by decide +kernel, by simp, by decide +kernel⟩⟩,
    ⟨0, mTo 0, planOne, .cDown 0 (mTo 0), 1, planned planOne [],
      by refine ⟨by simp, by unfold planHere; and_intros <;> first | (left; decide +kernel) | decide +kernel | rfl,
           ?_⟩; decide +kernel⟩,
    ⟨0, { mTo 0 with srcNode := 1 }, { planOne with seq := 65535, room := [(2, 1)] }, planned { planOne with
      seq := 65535, room := [(2, 1)] } [], .cUp 0 ({ mTo 0 with srcNode := 1 }), 0x28,
      by refine ⟨by unfold planHere; and_intros <;> first | (left; decide +kernel) | decide +kernel | rfl,
           by decide +kernel, by decide +kernel, by decide +kernel, by simp, ?_⟩; right; decide +kernel⟩,
    ⟨0, { mTo 0 with srcNode := 1, data := List.replicate 14 0 ++ [1] }, planOne, planned planOne [{ instOne with
      owed := [(1, { op := 0x28 })] }], { instOne with owed := [(1, { op := 0x28 })] }, { op := 0x28 },
      by refine ⟨by unfold planHere; and_intros <;> first | (left; decide +kernel) | decide +kernel | rfl, ?_⟩;
           decide +kernel⟩,
    ⟨0, { mTo 0 with srcNode := 1 }, planOne, .cUp 0 ({ mTo 0 with srcNode := 1 }), 0, planned planOne [],
      by refine ⟨by simp, by unfold planHere; and_intros <;> first | (left; decide +kernel) | decide +kernel | rfl,
           ?_⟩; decide +kernel⟩,
    ⟨0, { mTo 0 with srcNode := 1 }, { planOne with seq := 65535, kind := 5 }, { planned { planOne with seq := 65535,
                                                                                                        kind := 5 } []
                                                                                 with mg.blob := [(objKey oAxisSize 0,
                                                                                      [4, 1, 1]),
                                                                                      (objKey oCollFenceList 0, [1,
                                                                                      0])] },
      by refine ⟨by unfold planHere; decide +kernel, ?_⟩; decide +kernel⟩,
    ⟨0, { mTo 0 with srcNode := 1 }, { planOne with kind := 5 }, { instOne with fenced := [1] },
      planned { planOne with kind := 5 } [{ instOne with fenced := [1] }],
      by refine ⟨by unfold planHere; decide +kernel, ?_⟩; decide +kernel⟩⟩

theorem witness_CollectivePacketsAdvanceTheirInstance :
    (∃ (e : Oe) (p : Mpk) (pl : Plan) (i : Inst) (s : State), planHere s e p pl ∧ instHere s p pl i ∧
      s.stored = true ∧ i.owed = [] ∧ (p.data.drop 32) ≠ [] ∧ (p.srcNode, 0) ∈ pl.inbound ∧
      tget 0 pl.room (p.srcNode * 2) ≠ 0 ∧ fencedNeed s pl i = false ∧ pl.ring = true ∧ tget []
      i.src (chunkKey (collHdrOf p.data).piece ((collHdrOf p.data).offset / pl.chunk)) = []) ∧
    (∃ (e : Oe) (p : Mpk) (pl : Plan) (i : Inst) (s : State), planHere s e p pl ∧ instHere s p pl i ∧
      s.stored = true ∧ i.owed = [] ∧ (p.data.drop 32) ≠ [] ∧ (p.srcNode, 0) ∈ pl.inbound ∧
      tget 0 pl.room (p.srcNode * 2) ≠ 0 ∧ fencedNeed s pl i = false ∧ pl.ring = false ∧ tget []
      i.src ((collHdrOf p.data).offset / pl.chunk) = []) ∧
    (∃ (e : Oe) (p : Mpk) (pl : Plan) (i : Inst) (s : State), planHere s e p pl ∧ instHere s p pl i ∧
      s.stored = true ∧ i.owed = [] ∧ (p.data.drop 32) ≠ [] ∧ (p.srcNode, 0) ∈ pl.inbound ∧
      tget 0 pl.room (p.srcNode * 2) ≠ 0 ∧ fencedNeed s pl i = false ∧ pl.ring = true ∧ [1] = tget []
      i.src (chunkKey (collHdrOf p.data).piece ((collHdrOf p.data).offset / pl.chunk)) ∧ [1] ≠ [] ∧
      (collHdrOf p.data).piece ≠ pl.rank ∧ isFenced s pl.pd i pl.next = false ∧ tget 0 pl.grants (pl.next * 2) ≠ 0) ∧
    (∃ (e : Oe) (p : Mpk) (pl : Plan) (i : Inst) (s : State), planHere s e p pl ∧ instHere s p pl i ∧
      s.stored = true ∧ i.owed = [] ∧ pl.ring = false ∧ pl.children = [] ∧ (p.srcNode, 1) ∈ pl.inbound ∧
      tget 0 pl.room (p.srcNode * 2 + 1) ≠ 0 ∧ fencedNeed s pl i = false ∧ (p.data.drop 32).length ≤ 256 ∧
      p.data.drop 32 = [1] ∧
      delivered s ({ dst := homeStrap (pl.dstAt (collHdrOf p.data).piece ((collHdrOf p.data).offset / pl.chunk)),
                     src := 0x40 + pl.pd, op := 2, ctx := pl.ctx, gen := pl.gen, len := 0, origin := 1,
                     slot := pl.slot,
                     addr := pl.dstAt (collHdrOf p.data).piece ((collHdrOf p.data).offset / pl.chunk), data := [1]
                     }) = true ∧
      tget 0 i.wrote (chunkKey (collHdrOf p.data).piece ((collHdrOf p.data).offset / pl.chunk)) ≠ 1) ∧
    (∃ (e : Oe) (p : Mpk) (pl : Plan) (i : Inst) (s : State), planHere s e p pl ∧ instHere s p pl i ∧
      s.stored = true ∧ i.released = false ∧ (∀ n ∈ pl.children, n ∈ i.arrived ++ [p.srcNode]) ∧ (∀ n ∈ pl.children,
      isFenced s pl.pd i n = false) ∧ pl.isRoot = false ∧ isFenced s pl.pd i pl.parent = false) ∧
    (∃ (e : Oe) (p : Mpk) (pl : Plan) (i : Inst) (s : State), planHere s e p pl ∧ instHere s p pl i ∧
      s.stored = true ∧ i.released = false ∧ (∀ n ∈ pl.children, n ∈ i.arrived ++ [p.srcNode]) ∧ (∀ n ∈ pl.children,
      isFenced s pl.pd i n = false) ∧ pl.isRoot = true ∧ expired s i = false) ∧
    (∃ (e : Oe) (p : Mpk) (pl : Plan) (i : Inst) (s : State), planHere s e p pl ∧ instHere s p pl i ∧
      s.stored = true ∧ expired s i = true) ∧
    (∃ (e : Oe) (p : Mpk) (pl : Plan) (i : Inst) (s : State), planHere s e p pl ∧ instHere s p pl i ∧
      s.stored = true ∧ expired s i = false) ∧
    (∃ (e : Oe) (p : Mpk) (pl : Plan) (i : Inst) (s : State), planHere s e p pl ∧ instHere s p pl i ∧
      s.stored = true ∧ pl.kind ≠ 5) ∧
    (∃ (e : Oe) (p : Mpk) (pl : Plan) (i : Inst) (s : State), planHere s e p pl ∧ instHere s p pl i ∧
      s.stored = true ∧ pl.kind = 5 ∧ p.srcNode ≠ pl.parent ∧ i.owed = [] ∧ fencedNeed s pl i = false) ∧
    (∃ (e : Oe) (p : Mpk) (pl : Plan) (i : Inst) (s : State), planHere s e p pl ∧ instHere s p pl i ∧
      s.stored = true ∧ (pl.kind ≠ 5 ∨ p.srcNode = pl.parent)) ∧
    (∃ (e : Oe) (p : Mpk) (pl : Plan) (i : Inst) (s : State), planHere s e p pl ∧ instHere s p pl i ∧
      s.stored = true ∧ expired s i = false ∧ pl.children = []) :=
  ⟨⟨0, { mTo 0 with srcNode := 1, data := List.replicate 32 0 ++ [1] }, { planOne with shape := 0, rank := 1,
                                                                                        parent := 1, room := [(2, 1)]
                                                                                        }, instOne,
      planned { planOne with shape := 0, rank := 1, parent := 1, room := [(2, 1)] } [instOne],
      by refine ⟨by unfold planHere; and_intros <;> first | (left; decide +kernel) | decide +kernel | rfl,
           by unfold instHere; decide +kernel, ?_⟩; decide +kernel⟩,
    ⟨0, { mTo 0 with srcNode := 1, data := List.replicate 32 0 ++ [1] }, { planOne with room := [(2, 1)] }, instOne,
      planned { planOne with room := [(2, 1)] } [instOne],
      by refine ⟨by unfold planHere; and_intros <;> first | (left; decide +kernel) | decide +kernel | rfl,
           by unfold instHere; decide +kernel, ?_⟩; decide +kernel⟩,
    ⟨0, { mTo 0 with srcNode := 1, data := List.replicate 32 0 ++ [1] }, { planOne with shape := 0, rank := 1,
                                                                                        parent := 1, grants := [(2,
                                                                                        1)], room := [(2, 1)],
                                                                                        child0 := 1 }, { instOne with
      src := [(0, [1])] }, planned { planOne with shape := 0, rank := 1, parent := 1, grants := [(2, 1)], room := [(2,
                                                  1)], child0 := 1 } [{ instOne with src := [(0, [1])] }],
      by refine ⟨by unfold planHere; and_intros <;> first | (left; decide +kernel) | decide +kernel | rfl,
           by unfold instHere; decide +kernel, ?_⟩; decide +kernel⟩,
    ⟨0, { mTo 0 with srcNode := 1, data := List.replicate 32 0 ++ [1] }, { planOne with children := [], parent := 1,
                                                                                        room := [(3, 1)] }, instOne,
      linked (planned { planOne with children := [], parent := 1, room := [(3, 1)] } [instOne]),
      by refine ⟨by unfold planHere; and_intros <;> first | (left; decide +kernel) | decide +kernel | rfl,
           by unfold instHere; decide +kernel, ?_⟩; decide +kernel⟩,
    ⟨0, { mTo 0 with srcNode := 1, data := List.replicate 32 0 ++ [1] }, { planOne with parent := 2 }, instOne,
      planned { planOne with parent := 2 } [instOne],
      by refine ⟨by unfold planHere; and_intros <;> first | (left; decide +kernel) | decide +kernel | rfl,
           by unfold instHere; decide +kernel, ?_⟩; decide +kernel⟩,
    ⟨0, { mTo 0 with srcNode := 1, data := List.replicate 32 0 ++ [1] }, planOne, { instOne with timeout := 1 },
      planned planOne [{ instOne with timeout := 1 }],
      by refine ⟨by unfold planHere; and_intros <;> first | (left; decide +kernel) | decide +kernel | rfl,
           by unfold instHere; decide +kernel, ?_⟩; decide +kernel⟩,
    ⟨0, { mTo 0 with srcNode := 1, data := List.replicate 32 0 ++ [1] }, planOne, instOne, planned planOne [instOne],
      by refine ⟨by unfold planHere; and_intros <;> first | (left; decide +kernel) | decide +kernel | rfl,
           by unfold instHere; decide +kernel, ?_⟩; decide +kernel⟩,
    ⟨0, mTo 0, planOne, { instOne with timeout := 1 }, planned planOne [{ instOne with timeout := 1 }],
      by refine ⟨by unfold planHere; and_intros <;> first | (left; decide +kernel) | decide +kernel | rfl,
           by unfold instHere; decide +kernel, ?_⟩; decide +kernel⟩,
    ⟨0, { mTo 0 with srcNode := 1, data := List.replicate 32 0 ++ [1] }, planOne, instOne, planned planOne [instOne],
      by refine ⟨by unfold planHere; and_intros <;> first | (left; decide +kernel) | decide +kernel | rfl,
           by unfold instHere; decide +kernel, ?_⟩; decide +kernel⟩,
    ⟨0, { mTo 0 with srcNode := 1, data := List.replicate 32 0 ++ [1] }, { planOne with kind := 5, parent := 2 },
      instOne, planned { planOne with kind := 5, parent := 2 } [instOne],
      by refine ⟨by unfold planHere; and_intros <;> first | (left; decide +kernel) | decide +kernel | rfl,
           by unfold instHere; decide +kernel, ?_⟩; decide +kernel⟩,
    ⟨0, { mTo 0 with srcNode := 1, data := List.replicate 32 0 ++ [1] }, { planOne with kind := 5, parent := 1 },
      instOne, planned { planOne with kind := 5, parent := 1 } [instOne],
      by refine ⟨by unfold planHere; and_intros <;> first | (left; decide +kernel) | decide +kernel | rfl,
           by unfold instHere; decide +kernel, ?_⟩; decide +kernel⟩,
    ⟨0, mTo 0, { planOne with children := [] }, { instOne with timeout := 1 }, planned { planOne with children := []
                                                                                                      } [{ instOne with
      timeout := 1 }],
      by refine ⟨by unfold planHere; and_intros <;> first | (left; decide +kernel) | decide +kernel | rfl,
           by unfold instHere; decide +kernel, ?_⟩; decide +kernel⟩⟩

theorem witness_CollectiveInstancesEndAndGrantsReturn :
    (∃ (pd : Pd) (ctx coll : Nat) (pl : Plan) (i : Inst) (s : State), findPlan s pd ctx coll = some pl ∧
      findInst s pd ctx coll = some i ∧ s.stored = true ∧ i.aborting = false) ∧
    (∃ (pd : Pd) (ctx coll : Nat) (pl : Plan) (i : Inst) (s : State), findPlan s pd ctx coll = some pl ∧
      findInst s pd ctx coll = some i ∧ s.stored = true ∧ i.aborting = true) ∧
    (∃ (pd : Pd) (ctx coll : Nat) (pl : Plan) (i : Inst) (s : State), findPlan s pd ctx coll = some pl ∧
      findInst s pd ctx coll = some i ∧ s.stored = true ∧ i.aborting = false ∧ instDone pl i = true ∧
      expired s i = false ∧ i.doneAt = none) ∧
    (∃ (pd : Pd) (ctx coll : Nat) (pl : Plan) (i : Inst) (s : State), findPlan s pd ctx coll = some pl ∧
      findInst s pd ctx coll = some i ∧ s.stored = true ∧ i.aborting = false ∧ instDone pl i = true ∧
      expired s i = true ∧ i.doneAt = none) ∧
    (∃ (pd : Pd) (pl q : Plan) (k n : Nat) (s : State), pl.pd = pd ∧ pl.returns = [(k, n)] ∧
      (s.plans.filter (fun p => p.pd == (pd : Nat) ∧ !p.returns.isEmpty) = [pl]) ∧ s.stored = true ∧
      findPlan s pd pl.ctx pl.coll = some q) ∧
    (∃ (pd : Pd) (ctx coll : Nat) (pl : Plan) (i : Inst) (s : State), findPlan s pd ctx coll = some pl ∧
      findInst s pd ctx coll = some i ∧ s.stored = true ∧ i.doneAt ≠ none) :=
  ⟨⟨0, 1, 0, planOne, instOne, planned planOne [instOne], by decide +kernel⟩,
    ⟨0, 1, 0, planOne, { instOne with aborting := true }, planned planOne [{ instOne with aborting := true }],
      by decide +kernel⟩,
    ⟨0, 1, 0, planOne, { instOne with timeout := 1, aborting := false }, planned planOne [{ instOne with
      timeout := 1 }], by decide +kernel⟩,
    ⟨0, 1, 0, planOne, instOne, planned planOne [instOne], by decide +kernel⟩,
    ⟨0, { planOne with returns := [(2, 4096)] }, { planOne with returns := [(2, 4096)] }, 2, 4096,
      planned { planOne with returns := [(2, 4096)] } [], by decide +kernel⟩,
    ⟨0, 1, 0, planOne, { instOne with doneAt := some 0 }, planned planOne [{ instOne with doneAt := some 0 }],
      by decide +kernel⟩⟩

theorem witness_KeysAreRecovered :
    (∃ (p : Path) (arg : List Byte) (c : Nat) (s : State), c = (arg.getD 0 0).toNat ∧
      accepts s p oKeyRecover 0 arg = true ∧ s.stored = true ∧ arg.getD 1 0 = 0) ∧
    (∃ (p : Path) (arg : List Byte) (c : Nat) (s : State), c = (arg.getD 0 0).toNat ∧
      accepts s p oKeyRecover 0 arg = true ∧ s.stored = true ∧ arg.getD 1 0 ≠ 0) ∧
    (∃ (node : Nat) (r pub wrapped tag : List Byte) (x : Recovery) (s : State), s.sec.recovery = some x ∧
      x.node = node ∧ wall s < x.start + 1000000000 ∧ s.stored = true) ∧
    (∃ (x : Recovery) (s : State), s.sec.recovery = some x ∧ s.stored = true) :=
  ⟨⟨.mgt0, [1, 0, 0, 0, 0, 0, 0, 0] ++ List.replicate 16 0, _, { (ctxIn 1 { state := 1 }) with sec.lc := 3,
                                                                                                sec.recovered := [(1,
                                                                                                { key := [1],
                                                                                                  kcv := List.replicate 16 0 })]
                                                                                                },
      by refine ⟨rfl, ?_⟩; decide +kernel⟩,
    ⟨.mgt0, [255, 1, 0xFF, 0x7F, 0, 0, 0, 0] ++ List.replicate 16 0, _, { (ctxIn 255 { state := 1 }) with sec.lc := 3,
                                                                                                          sec.idSeed := [1]
                                                                                                          },
      by refine ⟨rfl, ?_⟩; decide +kernel⟩,
    ⟨5, [], [], [], [], { node := 5 }, { lit with time := 2999999999, sec.recovery := some { node := 5 } },
      by decide +kernel⟩,
    ⟨{ node := 5 }, { lit with sec.recovery := some { node := 5 } }, by decide +kernel⟩⟩

theorem witness_TamperAndLifeCycleWipeSecureMemory :
    (∃ (flags : Nat) (s : State), s.hub.on = true ∧ flags % 8 ≠ 0 ∧ s.stored = true ∧ (getCtx s 255).state = 3 ∧
      hasKey s 255 = true) ∧
    (∃ (s : State), hubUp s = true ∧ lcState s = 0 ∧ flashOk s = true ∧ s.stored = true) ∧
    (∃ (p : Path) (s : State), accepts s p oLcCommand 0 [1] = true ∧ s.stored = true) ∧
    (∃ (p : Path) (s : State), accepts s p oLcCommand 0 [2] = true ∧ s.stored = true) ∧
    (∃ (p : Path) (s : State), accepts s p oLcCommand 0 [2] = true ∧ s.stored = true) ∧
    (∃ (p : Path) (s : State), accepts s p oLcCommand 0 [3] = true ∧ s.stored = true) ∧
    (∃ (p : Path) (s : State), accepts s p oLcCommand 0 [4] = true ∧ s.stored = true) ∧
    (∃ (p : Path) (s : State), accepts s p oLcCommand 0 [5] = true ∧ s.stored = true) ∧
    (∃ (flags : Nat) (s : State), s.hub.on = true ∧ flags % 8 ≠ 0 ∧ s.stored = true ∧ (getCtx s 255).state = 3 ∧
      hasKey s 255 = true) ∧
    (∃ (flags : Nat) (s : State), s.hub.on = true ∧ flags % 8 ≠ 0 ∧ s.stored = true ∧ ((getCtx s 255).state ≠ 3 ∨
      hasKey s 255 = false)) ∧
    (∃ (s : State), hubUp s = true ∧ (lcState s ≠ 0 ∨ flashOk s = false) ∧ s.stored = true ∧ s.jrnl.closed = false ∧
      s.hub.resumed = true) :=
  ⟨⟨4, { ctxIn 255 { state := 3 } with sec.keys := [(255, { key := [1] })] }, by decide +kernel⟩,
    ⟨lit, by decide +kernel⟩,
    ⟨.mgt0, { lit with sec.lc := 1, mg.blob := [(objKey oDeviceCert 0, [1])] }, by decide +kernel⟩,
    ⟨.mgt0, { lit with sec.lc := 3 }, by decide +kernel⟩,
    ⟨.mgt0, { lit with sec.lc := 2 ^ 48 - 1 }, by decide +kernel⟩,
    ⟨.mgt0, { lit with sec.lc := 7 }, by decide +kernel⟩,
    ⟨.mgt0, { lit with sec.lc := 3 }, by decide +kernel⟩,
    ⟨.mgt0, lit, by decide +kernel⟩,
    ⟨4, { ctxIn 255 { state := 3 } with sec.keys := [(255, { key := [1] })] }, by decide +kernel⟩,
    ⟨1, ctxIn 255 { state := 3 }, by decide +kernel⟩,
    ⟨{ lit with sec.lc := 3 }, by decide +kernel⟩⟩

theorem witness_IoapRequestsAreAnswered :
    (∃ (p : Path) (src : List Byte) (req ix sub off len : Nat) (s : State), s.stored = true ∧ s.hub.loader = false ∧
      serves s p src req = true) ∧
    (∃ (p : Path) (src : List Byte) (req ix sub off len : Nat) (v : List Byte) (b : Bool) (x : Resp) (c : Instr) (s : State),
      c ∈ [Instr.read p src req ix sub off len, .describe p src req ix sub, .ioapPing p src req,
      .bootStatus p src req, .imageChunk p src req off v, .commit p src req,
      .write p src req ix sub off b (v.take 992)] ∧ isHst (pathCode p) = false ∧ pathLive s p = true ∧
      s.hub.loader = false ∧ allRefused s = false ∧ (s.mg.kept.find? (fun x => x.source == requester p src ∧
      x.path == pathCode p ∧ x.reqId == req) = some x) ∧ s.stored = true) ∧
    (∃ (p : Path) (dest : Sent) (m : List Byte) (s : State), (m.length < 32 ∨ slice m 0 3 ≠ [0x49, 0x4F, 1]) ∧
      pathLive s p = true ∧ p ≠ .mctp ∧ (p = .mgt0 → addressed s 0 dest = true) ∧ (p = .mgt1 →
      addressed s 1 dest = true) ∧ isHst (pathCode p) = false ∧ s.stored = true ∧ m.length < 32) ∧
    (∃ (p : Path) (dest : Sent) (m : List Byte) (s : State), (m.length < 32 ∨ slice m 0 3 ≠ [0x49, 0x4F, 1]) ∧
      pathLive s p = true ∧ p ≠ .mctp ∧ (p = .mgt0 → addressed s 0 dest = true) ∧ (p = .mgt1 →
      addressed s 1 dest = true) ∧ isHst (pathCode p) = false ∧ s.stored = true ∧ slice m 0 3 ≠ [0x49, 0x4F, 1]) ∧
    (∃ (p : Path) (src : List Byte) (req off : Nat) (v : List Byte) (s : State), s.stored = true ∧
      serves s p src req = true ∧ ((if p = .twn then 4 else if allRefused s then 1 else if 8388864 < off + v.length ∨
      992 < v.length then 6 else 0) ≠ 0)) ∧
    (∃ (p : Path) (src : List Byte) (req off : Nat) (v : List Byte) (s : State), s.stored = true ∧
      serves s p src req = true ∧ ((if p = .twn then 4 else if allRefused s then 1 else if 8388864 < off + v.length ∨
      992 < v.length then 6 else 0) ≠ 0)) ∧
    (∃ (p : Path) (src : List Byte) (req off : Nat) (v : List Byte) (s : State), s.stored = true ∧
      serves s p src req = true ∧ ((if p = .twn then 4 else if allRefused s then 1 else if 8388864 < off + v.length ∨
      992 < v.length then 6 else 0) = 0)) ∧
    (∃ (p : Path) (src : List Byte) (req off : Nat) (v : List Byte) (s : State), s.stored = true ∧
      serves s p src req = true ∧
      (if p = .twn then 4 else if s.hub.strapFault || allRefused s then 1 else if imageCheck s (stagedImage s) ≠ 0 then 2 else bnat (!flashOk s)) ≠ 4) ∧
    (∃ (p : Path) (dest : Sent) (v mid : List Byte) (req ix sub op off len : Nat) (b : Bool) (s : State),
      req < 2 ^ 32 ∧ p ≠ .mctp ∧ (p = .mgt0 → addressed s 0 dest = true) ∧ (p = .mgt1 → addressed s 1 dest = true) ∧
      ix < 2 ^ 16 ∧ sub < 256 ∧ off < 2 ^ 32 ∧ len < 2 ^ 16 ∧ mid.length = 10 ∧ v.length ≤ 992 ∧
      isHst (pathCode p) = false ∧ s.hub.loader = false ∧ serves s p dest.source req = true ∧ op < 256 ∧ op ∉ [1, 2,
      3, 4, 0x10, 0x11, 0x12] ∧ s.stored = true) ∧
    (∃ (p : Path) (dest : Sent) (m : List Byte) (s : State), ((p = .mgt0 ∧ addressed s 0 dest = false) ∨ (p = .mgt1 ∧
      addressed s 1 dest = false))) ∧
    (∃ (dest : Sent) (m : List Byte) (s : State), addressed s 0 dest = true ∧ m.length < 32 ∧
      pathLive s .mgt0 = true ∧ s.stored = true) ∧
    (∃ (dest : Sent) (dst eid seq tag : Nat) (m : List Byte) (s : State), pathLive s .mctp = true ∧ dst < 256 ∧
      eid < 256 ∧ (dst = 0 ∨ dst = numGet s oMctpEid 0) ∧ m.length ≤ 59) :=
  ⟨⟨.mgt0, [1], 0, oFrameCycles, 1, 0, 0, lit, by decide +kernel⟩,
    ⟨.mgt0, [1], 7, 0, 0, 0, 0, [], false, { path := 1, source := [1], reqId := 7 }, .ioapPing .mgt0 [1] 7, { lit with
      mg.kept := [{ path := 1, source := [1], reqId := 7 }] }, by refine ⟨by simp [mTo], ?_⟩; decide +kernel⟩,
    ⟨.svc, {}, List.replicate 31 0, served, by decide +kernel⟩,
    ⟨.svc, {}, List.replicate 32 0, served, by decide +kernel⟩,
    ⟨.svc, [], 1, 8388864, [1], served, by decide +kernel⟩,
    ⟨.twn, [], 1, 0, [], paired 2, by decide +kernel⟩,
    ⟨.mgt0, [1], 1, 8387872, List.replicate 992 1, lit, by decide +kernel⟩,
    ⟨.mgt1, [1], 1, 0, [], served, by decide +kernel⟩,
    ⟨.svc, {}, [], List.replicate 10 0, 2 ^ 32 - 1, 65535, 255, 0xFE, 2 ^ 32 - 1, 65535, true, served,
      by decide +kernel⟩,
    ⟨.mgt1, {}, [], lit, by exact .inr ⟨rfl, by simp [addressed]; decide +kernel⟩⟩,
    ⟨{ addr := linkLocal 0, port := 4520 }, [], lit,
      by refine ⟨by simp [addressed, portAddresses]; decide +kernel, ?_⟩; decide +kernel⟩,
    ⟨{}, 0, 255, 3, 7, List.replicate 59 1, lit, by decide +kernel⟩⟩

theorem witness_WritesAreJudgedStagedAndCommitted :
    (∃ (p : Path) (ix sub : Nat) (v : List Byte) (s : State), isHst (pathCode p) = false ∧ pathLive s p = true ∧
      s.hub.loader = false ∧ writeStatus s p ix sub v ≠ 0 ∧ s.stored = true) ∧
    (∃ (p : Path) (s : State), (tget {} s.mg.staged (pathCode p)).last ≠ 0 ∧ s.stored = true) ∧
    (∃ (p : Path) (src v : List Byte) (req ix sub : Nat) (s : State) (off : Nat) (b : Bool), s.hub.loader = false ∧
      serves s p src req = true ∧ ((tget {} s.mg.staged (pathCode p)).last = 0 ∨
      (tget {} s.mg.staged (pathCode p)).last - 1 + 10000000000 ≤ wall s) ∧ v.length ≤ 992 ∧ s.stored = true ∧
      off ≠ 0) ∧
    (∃ (p : Path) (src v : List Byte) (req ix sub : Nat) (s : State) (off : Nat) (b : Bool), s.hub.loader = false ∧
      serves s p src req = true ∧ ((tget {} s.mg.staged (pathCode p)).last = 0 ∨
      (tget {} s.mg.staged (pathCode p)).last - 1 + 10000000000 ≤ wall s) ∧ v.length ≤ 992 ∧ s.stored = true ∧
      off ≠ 0) ∧
    (∃ (p : Path) (src v : List Byte) (req ix sub : Nat) (s : State), s.hub.loader = false ∧
      serves s p src req = true ∧ ((tget {} s.mg.staged (pathCode p)).last = 0 ∨
      (tget {} s.mg.staged (pathCode p)).last - 1 + 10000000000 ≤ wall s) ∧ v.length ≤ 992 ∧ s.stored = true ∧
      writeStatus s p ix sub v ≠ 0) ∧
    (∃ (p : Path) (src v : List Byte) (req ix sub : Nat) (o : Obj) (s : State), s.hub.loader = false ∧
      serves s p src req = true ∧ ((tget {} s.mg.staged (pathCode p)).last = 0 ∨
      (tget {} s.mg.staged (pathCode p)).last - 1 + 10000000000 ≤ wall s) ∧ v.length ≤ 992 ∧ s.stored = true ∧
      writeStatus s p ix sub v = 0 ∧ findObj ix sub = some o ∧ isCommand o = false ∧ o.effect ≠ 1 ∧
      isGeometry (objKey ix sub) = false ∧ s.jrnl.closed = false ∧ o.persist = true) ∧
    (∃ (p : Path) (src v : List Byte) (req ix sub : Nat) (s : State), s.hub.loader = false ∧
      serves s p src req = true ∧ ((tget {} s.mg.staged (pathCode p)).last = 0 ∨
      (tget {} s.mg.staged (pathCode p)).last - 1 + 10000000000 ≤ wall s) ∧ v.length ≤ 992 ∧ s.stored = true ∧
      takesChunks ix sub = true) ∧
    (∃ (p : Path) (src v : List Byte) (req ix sub off : Nat) (b : Bool) (x : Staged) (s : State),
      s.hub.loader = false ∧ serves s p src req = true ∧ x = tget {} s.mg.staged (pathCode p) ∧ x.last ≠ 0 ∧
      wall s < x.last - 1 + 10000000000 ∧ v.length ≤ 992 ∧ s.stored = true ∧ x.source ≠ requester p src) ∧
    (∃ (p : Path) (src v : List Byte) (req ix sub off : Nat) (b : Bool) (x : Staged) (s : State),
      s.hub.loader = false ∧ serves s p src req = true ∧ x = tget {} s.mg.staged (pathCode p) ∧ x.last ≠ 0 ∧
      wall s < x.last - 1 + 10000000000 ∧ v.length ≤ 992 ∧ s.stored = true ∧ x.source = requester p src ∧ off ≠ 0 ∧
      (x.key ≠ objKey ix sub ∨ off ≠ x.bytes.length)) ∧
    (∃ (p : Path) (src v : List Byte) (req ix sub off : Nat) (b : Bool) (x : Staged) (s : State),
      s.hub.loader = false ∧ serves s p src req = true ∧ x = tget {} s.mg.staged (pathCode p) ∧ x.last ≠ 0 ∧
      wall s < x.last - 1 + 10000000000 ∧ v.length ≤ 992 ∧ s.stored = true ∧ x.source = requester p src ∧ off ≠ 0 ∧
      x.key = objKey ix sub ∧ off = x.bytes.length) ∧
    (∃ (p : Path) (ix sub : Nat) (o : Obj) (v : List Byte) (s : State), accepts s p ix sub v = true ∧
      findObj ix sub = some o ∧ isCommand o = false ∧ o.effect ≠ 1 ∧ isGeometry (objKey ix sub) = false ∧
      s.stored = true ∧ o.persist = true) ∧
    (∃ (w : PersistWait) (rest : List PersistWait) (s : State) (o : Obj), s.mg.persist = w :: rest ∧
      (liveImage s).1 < w.seq ∧ s.stored = true ∧ findObj (w.key / 256) (w.key % 256) = some o ∧
      rising none (liveImage s).2 = true ∧ w.value ≠ defaultBytes o (w.key % 256)) ∧
    (∃ (w : PersistWait) (rest : List PersistWait) (s : State) (o : Obj), s.mg.persist = w :: rest ∧
      (liveImage s).1 < w.seq ∧ s.stored = true ∧ findObj (w.key / 256) (w.key % 256) = some o ∧
      rising none (liveImage s).2 = true ∧ w.value = defaultBytes o (w.key % 256)) ∧
    (∃ (w : PersistWait) (rest : List PersistWait) (s : State) (r : Resp), s.mg.persist = w :: rest ∧
      (liveImage s).1 < w.seq ∧ s.stored = true ∧ w.resp = some r ∧ r.path ≠ 6) ∧
    (∃ (w : PersistWait) (rest : List PersistWait) (s : State) (hd : Hd), s.mg.persist = w :: rest ∧
      (liveImage s).1 < w.seq ∧ s.stored = true ∧ w.resp = none ∧ w.path = 4 + hd.val) ∧
    (∃ (p : Path) (ix sub : Nat) (o : Obj) (v : List Byte) (s : State), accepts s p ix sub v = true ∧
      findObj ix sub = some o ∧ isCommand o = false ∧ o.effect ≠ 1 ∧ isGeometry (objKey ix sub) = true ∧
      nodeId s = 0x8000 ∧ lowestOn s ≠ none ∧ s.stored = true) :=
  ⟨⟨.mgt0, 0, 0, [], lit, by decide +kernel⟩,
    ⟨.mgt0, { lit with mg.staged := [(1, { last := 1 })] }, by decide +kernel⟩,
    ⟨.mgt0, [1], [], 7, 0x2000, 1, lit, 1, true,
      by refine ⟨by decide +kernel, by decide +kernel, .inl (by decide +kernel), ?_⟩; decide +kernel⟩,
    ⟨.mgt0, [1], [], 7, 0x2000, 1, { lit with time := 30000000000, mg.staged := [(1, { last := 1 })] }, 992, true,
      by refine ⟨by decide +kernel, by decide +kernel, .inr (by decide +kernel), ?_⟩; decide +kernel⟩,
    ⟨.mgt0, [1], [0], 7, oFrameCycles, 4, lit,
      by refine ⟨by decide +kernel, by decide +kernel, .inl (by decide +kernel), ?_⟩; decide +kernel⟩,
    ⟨.mgt0, [1], [0xA0, 0x0F], 7, oFrameCycles, 4, _, lit,
      by refine ⟨by decide +kernel, by decide +kernel, .inl (by decide +kernel), by decide +kernel, by decide +kernel,
           by decide +kernel, rfl, ?_⟩; decide +kernel⟩,
    ⟨.mgt0, [1], [1], 7, oFwImage, 0, lit,
      by refine ⟨by decide +kernel, by decide +kernel, .inl (by decide +kernel), ?_⟩; decide +kernel⟩,
    ⟨.mgt0, [1], [1], 7, oFwImage, 0, 2, false, _, { lit with mg.staged := [(1, { source := [9], last := 1 })] },
      by refine ⟨?_, ?_, rfl, ?_⟩ <;> decide +kernel⟩,
    ⟨.mgt0, [1], [1], 7, oFwImage, 0, 2, false, _, { lit with time := 29999999999, mg.staged := [(1, { source := [1],
                                                                                                       key := objKey oFwImage 0,
                                                                                                       bytes := [1],
                                                                                                       last := 1 })] },
      by refine ⟨?_, ?_, rfl, ?_⟩ <;> decide +kernel⟩,
    ⟨.mgt0, [1], [1], 7, oFwImage, 0, 1, false, _, { lit with mg.staged := [(1, { source := [1],
                                                                                  key := objKey oFwImage 0,
                                                                                  bytes := [1], last := 1 })] },
      by refine ⟨?_, ?_, rfl, ?_⟩ <;> decide +kernel⟩,
    ⟨.mgt0, oFrameCycles, 4, _, [0xA0, 0x0F], lit, by refine ⟨by decide +kernel, rfl, ?_⟩; decide +kernel⟩,
    ⟨{ key := objKey oFrameCycles 4, value := [0xA0, 0x0F], seq := 1, path := 5 }, [], { lit with
      mg.persist := [{ key := objKey oFrameCycles 4, value := [0xA0, 0x0F], seq := 1, path := 5 }] }, _,
      by refine ⟨by decide +kernel, by decide +kernel, by decide +kernel, rfl, ?_⟩; decide +kernel⟩,
    ⟨{ key := objKey oFrameCycles 4, value := leBytes 2 12000, seq := 1, path := 5 }, [], { lit with
      mg.persist := [{ key := objKey oFrameCycles 4, value := leBytes 2 12000, seq := 1, path := 5 }] }, _,
      by refine ⟨by decide +kernel, by decide +kernel, by decide +kernel, rfl, ?_⟩; decide +kernel⟩,
    ⟨{ key := objKey oFrameCycles 4, seq := 1, path := 1, resp := some { path := 1 } }, [], { lit with
      mg.persist := [{ key := objKey oFrameCycles 4, seq := 1, path := 1, resp := some { path := 1 } }] },
      { path := 1 }, by decide +kernel⟩,
    ⟨{ key := objKey oFrameCycles 4, value := [0xA0, 0x0F], seq := 1, path := 5 }, [], { hosted with
      mg.persist := [{ key := objKey oFrameCycles 4, value := [0xA0, 0x0F], seq := 1, path := 5 }] }, 1,
      by decide +kernel⟩,
    ⟨.mgt0, oNodeId, 0, _, [5, 0], facetIn 0 { state := 2 }, by refine ⟨by decide +kernel, rfl, ?_⟩; decide +kernel⟩⟩

theorem witness_ManagementPortsAnswerAndMessagesReassemble :
    (∃ (port : Fin 2) (dst data : List Byte) (s : State), portsUp s = true ∧ dst ∈ portAddresses s port) ∧
    (∃ (port : Fin 2) (dst : List Byte) (s : State), portsUp s = true) ∧
    (∃ (port : Fin 2) (s : State), portsUp s = true) ∧
    (∃ (dyn eid : Nat) (s : State), portsUp s = true ∧ s.stored = true) ∧
    (∃ (port : Fin 2) (up : Bool) (s : State), s.hub.on = true ∧ s.stored = true) ∧
    (∃ (x : Reasm) (node id : Nat) (s : State), (s.mg.reasm.find? (fun x => x.node == node ∧
      x.msgId == id) = some x) ∧ s.stored = true) ∧
    (∃ (port : Fin 2) (dst data : List Byte) (s : State), portsUp s = true) ∧
    (∃ (e : Oe) (p : Mpk) (s : State), ejects s e = true ∧ nodeId s ≠ 0x8000 ∧ p.dstNode = nodeId s ∧ hubUp s = true ∧
      s.hub.resumed = true ∧ (∀ x ∈ s.mg.reasm, x.node = p.srcNode → x.msgId = leNat (slice p.data 0 4) →
      wall s < x.first + 100000000) ∧ s.stored = true ∧ (¬(1 ≤ ((p.data.getD 4 0).toNat) ∧
      ((p.data.getD 4 0).toNat) ≤ 7 ∧ (leNat (slice p.data 8 4)) ≤ 65536 ∧
      (leNat (slice p.data 12 4)) < (leNat (slice p.data 8 4)) ∧
      16 + (min 208 (leNat (slice p.data 8 4) - leNat (slice p.data 12 4))) ≤ p.data.length)) ∧
      ((s.mg.reasm).getD 0 {}).node = p.srcNode) ∧
    (∃ (e : Oe) (p : Mpk) (s : State), ejects s e = true ∧ nodeId s ≠ 0x8000 ∧ p.dstNode = nodeId s ∧ hubUp s = true ∧
      s.hub.resumed = true ∧ (∀ x ∈ s.mg.reasm, x.node = p.srcNode → x.msgId = leNat (slice p.data 0 4) →
      wall s < x.first + 100000000) ∧ s.stored = true ∧ (1 ≤ ((p.data.getD 4 0).toNat) ∧
      ((p.data.getD 4 0).toNat) ≤ 7 ∧ (leNat (slice p.data 8 4)) ≤ 65536 ∧
      (leNat (slice p.data 12 4)) < (leNat (slice p.data 8 4)) ∧
      16 + (min 208 (leNat (slice p.data 8 4) - leNat (slice p.data 12 4))) ≤ p.data.length) ∧
      65536 < rxHeld s + (min 208 ((leNat (slice p.data 8 4)) - (leNat (slice p.data 12 4))))) ∧
    (∃ (e : Oe) (p : Mpk) (s : State), ejects s e = true ∧ nodeId s ≠ 0x8000 ∧ p.dstNode = nodeId s ∧ hubUp s = true ∧
      s.hub.resumed = true ∧ (∀ x ∈ s.mg.reasm, x.node = p.srcNode → x.msgId = leNat (slice p.data 0 4) →
      wall s < x.first + 100000000) ∧ s.stored = true ∧ (1 ≤ ((p.data.getD 4 0).toNat) ∧
      ((p.data.getD 4 0).toNat) ≤ 7 ∧ (leNat (slice p.data 8 4)) ≤ 65536 ∧
      (leNat (slice p.data 12 4)) < (leNat (slice p.data 8 4)) ∧
      16 + (min 208 (leNat (slice p.data 8 4) - leNat (slice p.data 12 4))) ≤ p.data.length) ∧
      rxHeld s + (min 208 ((leNat (slice p.data 8 4)) - (leNat (slice p.data 12 4)))) ≤ 65536 ∧
      ((s.mg.reasm.find? fun x => x.node == p.srcNode ∧ x.msgId == (leNat (slice p.data 0 4))) = none) ∧
      (min 208 ((leNat (slice p.data 8 4)) - (leNat (slice p.data 12 4)))) < (leNat (slice p.data 8 4))) ∧
    (∃ (e : Oe) (p : Mpk) (s : State), ejects s e = true ∧ nodeId s ≠ 0x8000 ∧ p.dstNode = nodeId s ∧ hubUp s = true ∧
      s.hub.resumed = true ∧ (∀ x ∈ s.mg.reasm, x.node = p.srcNode → x.msgId = leNat (slice p.data 0 4) →
      wall s < x.first + 100000000) ∧ s.stored = true ∧ (1 ≤ ((p.data.getD 4 0).toNat) ∧
      ((p.data.getD 4 0).toNat) ≤ 7 ∧ (leNat (slice p.data 8 4)) ≤ 65536 ∧
      (leNat (slice p.data 12 4)) < (leNat (slice p.data 8 4)) ∧
      16 + (min 208 (leNat (slice p.data 8 4) - leNat (slice p.data 12 4))) ≤ p.data.length) ∧
      rxHeld s + (min 208 ((leNat (slice p.data 8 4)) - (leNat (slice p.data 12 4)))) ≤ 65536 ∧
      ((s.mg.reasm.find? fun x => x.node == p.srcNode ∧ x.msgId == (leNat (slice p.data 0 4))) = none) ∧
      (leNat (slice p.data 12 4)) = 0 ∧
      (min 208 ((leNat (slice p.data 8 4)) - (leNat (slice p.data 12 4)))) = (leNat (slice p.data 8 4)) ∧
      ((p.data.getD 4 0).toNat) = 2 ∧ s.twin.node = p.srcNode ∧ s.twin.state ≠ 0 ∧ ((s.twin.state = 2 ∨
      s.twin.state = 4) → wall s < s.twin.lastBeat + 100000000)) :=
  ⟨⟨1, linkLocal 1, [1], lit, by refine ⟨by decide +kernel, ?_⟩; simp [portAddresses]⟩,
    ⟨1, linkLocal 1, lit, by decide +kernel⟩,
    ⟨1, lit, by decide +kernel⟩,
    ⟨127, 255, lit, by decide +kernel⟩,
    ⟨1, true, lit, by decide +kernel⟩,
    ⟨{ node := 1, msgId := 3 }, 1, 3, { lit with mg.reasm := [{ node := 1, msgId := 3 }] }, by decide +kernel⟩,
    ⟨0, [], [], lit, by decide +kernel⟩,
    ⟨0, { mTo 0 with srcNode := 1, data := [0, 0, 0, 0, 8, 0, 0, 0]
                     ++ leBytes 4 1 ++ leBytes 4 0 ++ List.replicate 1 1 }, { linked (noded lit) with
      mg.reasm := [{ node := 1, msgId := 3 }] }, by decide +kernel⟩,
    ⟨0, { mTo 0 with srcNode := 1, data := [0, 0, 0, 0, 7, 0, 0, 0]
                     ++ leBytes 4 65536 ++ leBytes 4 65535 ++ List.replicate 1 1 }, { linked (noded lit) with
      mg.reasm := [{ node := 2, total := 65536, parts := [(0, List.replicate 65536 0)] }] }, by decide +kernel⟩,
    ⟨0, { mTo 0 with srcNode := 1, data := [0, 0, 0, 0, 1, 0, 0, 0]
                     ++ leBytes 4 209 ++ leBytes 4 208 ++ List.replicate 1 1 }, linked (noded lit), by decide +kernel⟩,
    ⟨0, { mTo 0 with srcNode := 1, data := [0, 0, 0, 0, 2, 0, 0, 0]
                     ++ leBytes 4 1 ++ leBytes 4 0 ++ List.replicate 1 1 }, { linked (noded lit) with
      twin := { state := 2, node := 1 } }, by decide +kernel⟩⟩

theorem witness_MasksHoldsFlushesAndCheckpoints :
    (∃ (p : Path) (v : Nat) (s : State), accepts s p oPortMask 0 [byte v] = true ∧ s.stored = true) ∧
    (∃ (p : Path) (v : Nat) (s : State), accepts s p oCollHoldRelease 0 [byte v] = true ∧ s.stored = true) ∧
    (∃ (p : Path) (v : Nat) (s : State), accepts s p oJournalFlush 0 [byte v] = true ∧ s.jrnl.closed = false ∧
      s.stored = true) ∧
    (∃ (c : Checkpoint) (rest : List Checkpoint) (s : State), s.standby.waiting = c :: rest ∧ s.stored = true ∧
      hubUp s = true ∧ flashOk s = true) :=
  ⟨⟨.mgt0, 15, lit, by decide +kernel⟩,
    ⟨.mgt0, 1, lit, by decide +kernel⟩,
    ⟨.mgt0, 1, lit, by decide +kernel⟩,
    ⟨{}, [], { lit with standby.waiting := [{}] }, by decide +kernel⟩⟩

theorem witness_TwinsPairDetachAndAreLost :
    (∃ (p : Path) (node : Nat) (id : List Byte) (c : Instr) (mode st : Nat) (s : State), (c, mode,
      st) ∈ [(Instr.twinPair p node id, 0, 1), (.twinReplace p node id, 1, 4)] ∧ node < 2 ^ 16 ∧
      accepts s p oTwinPair 0 (pairValue node mode id) = true ∧ s.stored = true) ∧
    (∃ (p : Path) (node : Nat) (id : List Byte) (c : Instr) (mode st : Nat) (s : State), (c, mode,
      st) ∈ [(Instr.twinPair p node id, 0, 1), (.twinReplace p node id, 1, 4)] ∧ node < 2 ^ 16 ∧
      accepts s p oTwinPair 0 (pairValue node mode id) = true ∧ s.stored = true) ∧
    (∃ (p : Path) (s : State), accepts s p oTwinDetach 0 [1] = true ∧ s.stored = true ∧ pathCode p = 6) ∧
    (∃ (s : State), s.stored = true ∧ s.twin.state = 4) ∧
    (∃ (s : State), s.stored = true ∧ s.twin.state ≠ 2 ∧ s.twin.state ≠ 4) ∧
    (∃ (s : State), s.twin.state = 1 ∧ s.stored = true) ∧
    (∃ (p : Path) (s : State), accepts s p oTwinDetach 0 [0] = true ∧ s.stored = true ∧ pathCode p ≠ 6 ∧
      s.twin.state = 2) ∧
    (∃ (p : Path) (s : State), accepts s p oTwinDetach 0 [1] = true ∧ s.stored = true ∧ pathCode p ≠ 6 ∧
      s.jrnl.closed = false) ∧
    (∃ (p : Path) (s : State), accepts s p oTwinDetach 0 [0] = true ∧ s.stored = true ∧ pathCode p ≠ 6 ∧
      s.twin.state = 3) ∧
    (∃ (node : Nat) (s : State), (¬((s.twin.state = 2 ∨ s.twin.state = 4) ∧ s.twin.lastBeat + 100000000 ≤ wall s))) ∧
    (∃ (node : Nat) (s : State), ((s.twin.state = 2 ∨ s.twin.state = 4) ∧ s.twin.lastBeat + 100000000 ≤ wall s) ∧
      s.twin.node ≠ node) ∧
    (∃ (node : Nat) (s : State), ((s.twin.state = 2 ∨ s.twin.state = 4) ∧ s.twin.lastBeat + 100000000 ≤ wall s) ∧
      s.twin.node = node) ∧
    (∃ (s : State), s.stored = true ∧ (s.twin.state = 2 ∨ s.twin.state = 4)) ∧
    (∃ (s : State), twinned s = true ∧ hubUp s = true ∧ s.hub.resumed = true ∧ s.twin.beatSent + 10000000 ≤ wall s ∧
      s.stored = true) :=
  ⟨⟨.mgt0, 0x7FFF, [], .twinPair .mgt0 0x7FFF [], 0, 1, { lit with sec.lc := 3 },
      by refine ⟨by simp [mTo], ?_⟩; decide +kernel⟩,
    ⟨.mgt0, 0x7FFF, [], .twinReplace .mgt0 0x7FFF [], 1, 4, { lit with sec.lc := 3 },
      by refine ⟨by simp [mTo], ?_⟩; decide +kernel⟩,
    ⟨.twn, paired 2, by decide +kernel⟩,
    ⟨paired 4, by decide +kernel⟩,
    ⟨paired 0, by decide +kernel⟩,
    ⟨paired 1, by decide +kernel⟩,
    ⟨.mgt0, paired 2, by decide +kernel⟩,
    ⟨.mgt0, paired 2, by decide +kernel⟩,
    ⟨.mgt0, paired 3, by decide +kernel⟩,
    ⟨0x400, paired 2, by decide +kernel⟩,
    ⟨1, { paired 4 with time := 300000015 }, by decide +kernel⟩,
    ⟨0x400, { paired 2 with time := 300000015 }, by decide +kernel⟩,
    ⟨paired 2, by decide +kernel⟩,
    ⟨{ paired 2 with time := 30000000 }, by decide +kernel⟩⟩

theorem witness_ReportsAreExchangedBeforeKeys :
    (∃ (node : Nat) (r pub : List Byte) (s : State), s.hub.resumed = true ∧ s.stored = true ∧
      (r.getD 385 0).toNat = 0 ∧ s.twin.state = 1 ∧ s.twin.node = node ∧ s.sec.pairKey = [] ∧
      wall s < s.twin.since + 10000000000) ∧
    (∃ (node : Nat) (r pub : List Byte) (s : State), s.hub.resumed = true ∧ s.stored = true ∧
      (r.getD 385 0).toNat = 0 ∧ s.twin.state = 4 ∧ s.twin.node = node ∧ s.sec.pairKey = []) ∧
    (∃ (node : Nat) (r pub : List Byte) (s : State), s.hub.resumed = true ∧ s.stored = true ∧
      (r.getD 385 0).toNat = 0 ∧ s.twin.state = 3) ∧
    (∃ (node : Nat) (r pub : List Byte) (s : State), s.hub.resumed = true ∧ s.stored = true ∧
      (r.getD 385 0).toNat = 0 ∧ s.twin.state = 0) ∧
    (∃ (node : Nat) (r pub : List Byte) (s : State), s.hub.resumed = true ∧ s.stored = true ∧
      (r.getD 385 0).toNat ≠ 0) :=
  ⟨⟨1, [], [], { lit with sec.lc := 3, twin := { state := 1, node := 1 } }, by decide +kernel⟩,
    ⟨1, [], [], { lit with sec.lc := 3, twin := { state := 4, node := 1 } }, by decide +kernel⟩,
    ⟨1, [], [], { lit with sec.lc := 3, twin := { state := 3, node := 1 } }, by decide +kernel⟩,
    ⟨1, [], [], { lit with sec.lc := 3, twin := { state := 0, node := 1 } }, by decide +kernel⟩,
    ⟨1, List.replicate 385 0 ++ [255], [], lit, by decide +kernel⟩⟩

theorem witness_MirrorsAreHeldAndAcknowledged :
    (∃ (n : Nat) (c tag : List Byte) (i : Instr) (s : State), i ∈ [Instr.journalMirrorUnit n c tag,
      .persistentImagePart n c tag, .keyBlob n c tag, .mgmtAcknowledgement n c tag] ∧ (s.twin.state = 0 ∨
      openTwin s n c tag = none) ∧ s.stored = true) ∧
    (∃ (n : Nat) (c tag m : List Byte) (s : State), openTwin s n c tag = some m ∧ s.twin.state = 2 ∧ s.stored = true) ∧
    (∃ (n : Nat) (c tag m : List Byte) (s : State), openTwin s n c tag = some m ∧ s.twin.state = 4 ∧ s.stored = true) :=
  ⟨⟨0, [], [], .keyBlob 0 [] [], lit, by refine ⟨by simp [mTo], ?_⟩; decide +kernel⟩,
    ⟨2, [5], slice (Config.gcmTag [1]
      (leBytes 4 4 ++ leBytes 8 2) (leBytes 2 0x400 ++ leBytes 2 (nodeId (paired 2))) [5]) 0 16, (Config.gcmDec [1]
      (leBytes 4 4 ++ leBytes 8 2) [5]).take 1, paired 2, by refine ⟨opens 2, ?_⟩; decide +kernel⟩,
    ⟨2, [5], slice (Config.gcmTag [1]
      (leBytes 4 4 ++ leBytes 8 2) (leBytes 2 0x400 ++ leBytes 2 (nodeId (paired 4))) [5]) 0 16, (Config.gcmDec [1]
      (leBytes 4 4 ++ leBytes 8 2) [5]).take 1, paired 4, by refine ⟨opens 4, ?_⟩; decide +kernel⟩⟩

theorem witness_TheSupplySagsAndStops :
    (∃ (v : Nat) (s : State), s.hub.on = true ∧ s.pw.supply = 0 ∧ v < 4000 ∧ s.stored = true) ∧
    (∃ (c : Instr) (v : Nat) (s : State), s.stored = true ∧ (c = .sagTimeout ∧ s.pw.supply = 1 ∧ v = s.pw.volts ∨
      c = .orderlyStop false v ∧ s.hub.on = true ∧ s.pw.supply < 2 ∧ v < 3600 ∨ c = .orderlyStop true v ∧
      s.hub.on = true ∧ s.pw.supply < 2 ∧ 6000 < v)) ∧
    (∃ (c : Instr) (v : Nat) (s : State), s.stored = true ∧ (c = .sagTimeout ∧ s.pw.supply = 1 ∧ v = s.pw.volts ∨
      c = .orderlyStop false v ∧ s.hub.on = true ∧ s.pw.supply < 2 ∧ v < 3600 ∨ c = .orderlyStop true v ∧
      s.hub.on = true ∧ s.pw.supply < 2 ∧ 6000 < v)) ∧
    (∃ (c : Instr) (v : Nat) (s : State), s.stored = true ∧ (c = .sagTimeout ∧ s.pw.supply = 1 ∧ v = s.pw.volts ∨
      c = .orderlyStop false v ∧ s.hub.on = true ∧ s.pw.supply < 2 ∧ v < 3600 ∨ c = .orderlyStop true v ∧
      s.hub.on = true ∧ s.pw.supply < 2 ∧ 6000 < v)) ∧
    (∃ (s : State), s.pw.supply = 2) ∧
    (∃ (v : Nat) (s : State), s.hub.on = true ∧ s.pw.supply = 0 ∧ s.stored = true ∧ (getFacet s 3).state ≠ 0 ∧
      v < 4000) ∧
    (∃ (v : Nat) (s : State), s.pw.supply = 1 ∧ s.pw.sagStart + 10000000 ≤ wall s ∧ 4050 ≤ v ∧ v ≤ 6000) ∧
    (∃ (v : Nat) (s : State), s.pw.supply = 1 ∧ wall s < s.pw.sagStart + 10000000 ∧ s.stored = true ∧ 4050 ≤ v ∧
      v ≤ 6000) ∧
    (∃ (c : Instr) (v : Nat) (s : State), s.stored = true ∧ (c = .sagTimeout ∧ s.pw.supply = 1 ∧ v = s.pw.volts ∨
      c = .orderlyStop false v ∧ s.hub.on = true ∧ s.pw.supply < 2 ∧ v < 3600 ∨ c = .orderlyStop true v ∧
      s.hub.on = true ∧ s.pw.supply < 2 ∧ 6000 < v) ∧ (getLsm s 11).state ≠ 0) :=
  ⟨⟨3999, lit, by decide +kernel⟩,
    ⟨.sagTimeout, 5400, { lit with pw := { supply := 1 } },
      by refine ⟨by decide +kernel, ?_⟩;
           first | (left; and_intros <;> first | rfl | decide +kernel) | (right; left; and_intros <;> first | rfl | decide +kernel) | (right; right; and_intros <;> first | rfl | decide +kernel)⟩,
    ⟨.orderlyStop false 3599, 3599, lit,
      by refine ⟨by decide +kernel, ?_⟩;
           first | (left; and_intros <;> first | rfl | decide +kernel) | (right; left; and_intros <;> first | rfl | decide +kernel) | (right; right; and_intros <;> first | rfl | decide +kernel)⟩,
    ⟨.orderlyStop true 6001, 6001, lit,
      by refine ⟨by decide +kernel, ?_⟩;
           first | (left; and_intros <;> first | rfl | decide +kernel) | (right; left; and_intros <;> first | rfl | decide +kernel) | (right; right; and_intros <;> first | rfl | decide +kernel)⟩,
    ⟨{ lit with pw := { supply := 2 } }, by decide +kernel⟩,
    ⟨3999, { lit with facets := [(3, { state := 3 })] }, by decide +kernel⟩,
    ⟨4050, { lit with time := 30000000, pw := { supply := 1 } }, by decide +kernel⟩,
    ⟨6000, { lit with time := 29999999, pw := { supply := 1 } }, by decide +kernel⟩,
    ⟨.orderlyStop true 6001, 6001, { lit with lsms := [(11, { state := 3 })] },
      by refine ⟨by decide +kernel, .inr (.inr ?_),
           ?_⟩ <;> first | decide +kernel | (and_intros <;> first | rfl | decide +kernel)⟩⟩

theorem witness_PowerAndHeatAreMeasured :
    (∃ (mj : Nat) (s : State), s.hub.on = true) ∧
    (∃ (p : Nat) (l : List TempEst) (s : State), s.hub.on = true ∧ s.stored = true ∧ (getFacet s 0).state ≠ 0) ∧
    (∃ (c : Instr) (l : List SensorRead) (s : State), s.stored = true ∧ (l.map fun r => (r.site, r.sensor)).Nodup ∧
      (c = .thermalAnchor l ∧ s.hub.resumed = true ∨ ∃ p x o, c = .dieSensors p x l ∧
      findObj oDieSensors (x + 1) = some o ∧ bit (access o p) 0 = true ∧ s.hub.firmware = true ∧ ∀ r ∈ l,
      r.site = (x : Nat))) ∧
    (∃ (c : Instr) (l : List SensorRead) (s : State), s.stored = true ∧ (l.map fun r => (r.site, r.sensor)).Nodup ∧
      (c = .thermalAnchor l ∧ s.hub.resumed = true ∨ ∃ p x o, c = .dieSensors p x l ∧
      findObj oDieSensors (x + 1) = some o ∧ bit (access o p) 0 = true ∧ s.hub.firmware = true ∧ ∀ r ∈ l,
      r.site = (x : Nat))) ∧
    (∃ (site : SiteNo) (sensor : Option Nat) (temp : Int) (v : Nat) (s : State), tripIdle site sensor temp s = false ∧
      s.stored = true) ∧
    (∃ (site : SiteNo) (sensor : Option Nat) (temp : Int) (v : Nat) (s : State), tripIdle site sensor temp s = false ∧
      s.stored = true) ∧
    (∃ (d : Int) (s : State), hubUp s = true) ∧
    (∃ (p : Nat) (l : List TempEst) (s : State), s.hub.on = true ∧ s.stored = true ∧ (getFacet s 3).state ≠ 0) ∧
    (∃ (c : Instr) (l : List SensorRead) (s : State) (r : SensorRead), s.stored = true ∧ (l.map fun r => (r.site,
      r.sensor)).Nodup ∧ c = .thermalAnchor l ∧ s.hub.resumed = true ∧ r ∈ l ∧ r.site < 100 ∧
      r.sensor < sensorCount r.site ∧ sitePowered s r.site = true ∧
      bit (tget 0 s.pw.sensorFailed r.site) r.sensor = false) ∧
    (∃ (c : Instr) (l : List SensorRead) (s : State) (x k : Nat), s.stored = true ∧ (l.map fun r => (r.site,
      r.sensor)).Nodup ∧ c = .thermalAnchor l ∧ s.hub.resumed = true ∧ k < 8 ∧ (∀ r ∈ l, r.site ≠ x ∨ r.sensor ≠ k)) ∧
    (∃ (site : SiteNo) (sensor : Option Nat) (temp : Int) (v : Nat) (s : State), tripIdle site sensor temp s = false ∧
      s.stored = true ∧ (getLsm s 11).state ≠ 0) ∧
    (∃ (site : SiteNo) (sensor : Option Nat) (temp : Int) (v : Nat) (s : State), tripIdle site sensor temp s = false ∧
      s.stored = true ∧ hubHot ({ s with pw.volts := v,
                                         pw.temp := if sensor.isNone then tset 0 s.pw.temp site temp else s.pw.temp } : State) = true) ∧
    (∃ (site : SiteNo) (sensor : Option Nat) (temp : Int) (v : Nat) (s : State), tripIdle site sensor temp s = false ∧
      s.stored = true ∧ hubHot ({ s with pw.volts := v,
                                         pw.temp := if sensor.isNone then tset 0 s.pw.temp site temp else s.pw.temp } : State) = false ∧
      flashOk ({ s with pw.volts := v,
                        pw.temp := if sensor.isNone then tset 0 s.pw.temp site temp else s.pw.temp } : State) = true) ∧
    (∃ (site : SiteNo) (sensor : Option Nat) (temp : Int) (v : Nat) (s : State), tripIdle site sensor temp s = false ∧
      s.stored = true ∧ hubHot ({ s with pw.volts := v,
                                         pw.temp := if sensor.isNone then tset 0 s.pw.temp site temp else s.pw.temp } : State) = false ∧
      flashOk ({ s with pw.volts := v,
                        pw.temp := if sensor.isNone then tset 0 s.pw.temp site temp else s.pw.temp } : State) = false) :=
  ⟨⟨5, lit, by decide +kernel⟩,
    ⟨5, [], facetIn 0 { state := 2 }, by decide +kernel⟩,
    ⟨.thermalAnchor [{ site := 99, sensor := 0, reading := 100 }], [{ site := 99, sensor := 0, reading := 100 }], lit,
      by refine ⟨?_, ?_, Or.inl ⟨rfl, ?_⟩⟩ <;> decide +kernel⟩,
    ⟨.dieSensors .mgt0 99 [], [], lit, by refine ⟨?_, ?_, Or.inr ⟨.mgt0, 99, _, rfl, rfl, ?_⟩⟩ <;> decide +kernel⟩,
    ⟨0, none, 11500, 5400, facetIn 0 { state := 2 }, by decide +kernel⟩,
    ⟨99, some 0, 11500, 5400, lit, by decide +kernel⟩,
    ⟨250, lit, by decide +kernel⟩,
    ⟨5, [], facetIn 3 { state := 2 }, by decide +kernel⟩,
    ⟨.thermalAnchor [{ site := 96, sensor := 0, reading := 100 }], [{ site := 96, sensor := 0, reading := 100 }], lit,
      { site := 96, sensor := 0, reading := 100 },
      by refine ⟨by decide +kernel, by decide +kernel, rfl, rfl, List.mem_singleton.2 rfl, ?_⟩; decide +kernel⟩,
    ⟨.thermalAnchor [{ site := 96, sensor := 0, reading := 100 }], [{ site := 96, sensor := 0, reading := 100 }], lit,
      96, 7, by refine ⟨by decide +kernel, by decide +kernel, rfl, rfl, by decide +kernel, by decide +kernel⟩⟩,
    ⟨0, none, 11500, 5400, { facetIn 0 { state := 2 } with lsms := [(11, { state := 3 })] }, by decide +kernel⟩,
    ⟨96, none, 11500, 5400, lit, by decide +kernel⟩,
    ⟨0, none, 11500, 5400, facetIn 0 { state := 2 }, by decide +kernel⟩,
    ⟨0, none, 11500, 5400, { facetIn 0 { state := 2 } with pw.temp := [(96, -1)] }, by decide +kernel⟩⟩

theorem witness_EveryStepKeepsTheTablesCanonical :
    ∃ (s t : State), s.stored = true ∧ step s = .next t :=
  ⟨{ lit with pending := [.heartbeat] }, { lit with hub.lastBeat := 0 }, by refine ⟨by decide +kernel, rfl⟩⟩

theorem witness_FusesAreNeverCleared :
    ∃ (s t : State) (i : Nat), step s = .next t ∧ bit s.sec.lc i = true ∧ lcState s ≠ 0 ∧
      s.pending.head? ≠ some .provision :=
  ⟨{ served with pending := [.heartbeat] }, { served with hub.lastBeat := 0 }, 2, by refine ⟨rfl, ?_⟩; decide +kernel⟩

theorem witness_AStoppedDeviceNeverRestarts :
    (∃ (s t : State), step s = .next t ∧ s.pw.supply = 2 ∧ t.pw.supply ≠ 2 ∧ t.pw.supply ≠ 3) ∧
    (∃ (s : State), s.pw.supply = 2) ∧
    (∃ (s t : State), step s = .next t ∧ s.pw.supply = 3 ∧ t.pw.supply ≠ 3) ∧
    (∃ (s t : State), step s = .next t ∧ s.hub.on = false ∧ t.hub.on = true) ∧
    (∃ (c : Instr) (s : State), hubUp s = true ∧ (c = .hubTakeover true ∧ s.hub.hb1Primary = false ∧
      s.hub.hb1Failed = true ∨ c = .standbyHubFailure ∧ s.hub.hb1Failed = false ∧ s.hub.hb0Failed = true) ∧
      getCtx s 255 ≠ {} ∧ 0 ∈ maskDies (getCtx s 255).mask ∧ (getLsm s 11).state ≠ 0) ∧
    (∃ (c : Instr) (s : State), hubUp s = true ∧ (c = .hubTakeover true ∧ s.hub.hb1Primary = false ∧
      s.hub.hb1Failed = true ∨ c = .standbyHubFailure ∧ s.hub.hb1Failed = false ∧ s.hub.hb0Failed = true)) ∧
    (∃ (c : Instr) (s : State) (f : Facet) (u : State), hubUp s = true ∧ (c = .hubTakeover true ∧
      s.hub.hb1Primary = false ∧ s.hub.hb1Failed = true ∨ c = .standbyHubFailure ∧ s.hub.hb1Failed = false ∧
      s.hub.hb0Failed = true) ∧ u.hub.bothFailed = true ∧ ticking (getFacet u f) = true) :=
  ⟨⟨{ lit with pending := [.powerDown true], pw := { supply := 2 } }, _,
      by refine ⟨rfl, rfl, ?_, ?_⟩ <;> decide +kernel⟩,
    ⟨{ lit with pw := { supply := 2 } }, by decide +kernel⟩,
    ⟨{ lit with pending := [.powerDown true], pw := { supply := 3 } }, _, by refine ⟨rfl, rfl, ?_⟩; decide +kernel⟩,
    ⟨{ pending := [.powerUp {}] }, _, by refine ⟨rfl, rfl, ?_⟩; rfl⟩,
    ⟨.hubTakeover true, { ctxIn 255 { state := 3, mask := 1 } with hub.hb1Failed := true, lsms := [(11,
                                                                   { state := 3 })] },
      by refine ⟨by decide +kernel, .inl ⟨rfl, ?_⟩, ?_⟩ <;> decide +kernel⟩,
    ⟨.standbyHubFailure, { lit with hub.hb0Failed := true, hub.hb1Primary := true },
      by refine ⟨by decide +kernel, .inr ⟨rfl, ?_⟩⟩; decide +kernel⟩,
    ⟨.hubTakeover true, { lit with hub.hb1Failed := true }, 3, { facetIn 3 { state := 2 } with
      hub.bothFailed := true }, by refine ⟨by decide +kernel, .inl ⟨rfl, ?_⟩, ?_⟩ <;> decide +kernel⟩⟩

theorem witness_TheLifeCycleIsReadFromItsFuses :
    (∃ (s : State), s.sec.leavePending = false) ∧
    (∃ (c : Instr) (p : Path) (code : Nat) (s : State), (c = .enterService p ∧ code = 2 ∨ c = .leaveService p ∧
      code = 3) ∧ accepts s p oLcCommand 0 [byte code] = true ∧ (∀ i, 2 ≤ i → i < 50 → bit s.sec.lc i = true → ∀ j,
      2 ≤ j → j < i → bit s.sec.lc j = true) ∧ toggles s.sec.lc < 48 ∧ s.stored = true) ∧
    (∃ (p : Path) (s : State), toggles s.sec.lc = 48) :=
  ⟨⟨lit, by decide +kernel⟩,
    ⟨.enterService .mgt0, .mgt0, 2, { lit with sec.lc := 2 ^ 48 - 1 },
      by refine ⟨Or.inl ⟨rfl, rfl⟩, ?_, fun i h hi hb j hj hji => toggled i hi h hb j hji hj, ?_,
           ?_⟩ <;> decide +kernel⟩,
    ⟨.mgt0, { lit with sec.lc := 2 ^ 50 - 1 }, by decide +kernel⟩⟩

theorem witness_CommandsLeaveTheQueueTheClockAndTheSitesAlone :
    (∃ (c : Instr) (s t : State), exec c s = .next t ∧ (∀ i, c ≠ .powerUp i) ∧ (∀ h, c ≠ .powerDown h)) ∧
    (∃ (c : Instr) (s t : State), exec c s = .next t ∧ t.siteStatus ≠ s.siteStatus) :=
  ⟨⟨.heartbeat, lit, { lit with hub.lastBeat := 0 }, by refine ⟨rfl, ?_, ?_⟩ <;> simp⟩,
    ⟨.hostSidebandTimeout 1, lit, _, by refine ⟨rfl, ?_⟩; decide +kernel⟩⟩

theorem witness_MemoryReadsWhatWasWritten :
    (∃ (a x : Nat) (bs : List Byte) (s : State), Memory.wf s.mem = true ∧ a ≤ x ∧ x < a + bs.length) ∧
    (∃ (a n x : Nat) (s : State), Memory.wf s.mem = true ∧ a ≤ x ∧ x < a + n) ∧
    (∃ (a v i : Nat) (s : State), Memory.wf s.mem = true ∧ i < 8) :=
  ⟨⟨0, 0, [1], lit, by decide +kernel⟩,
    ⟨0, 1, 0, lit, by decide +kernel⟩,
    ⟨0, 1, 7, lit, by decide +kernel⟩⟩

/-- An image whose digest field holds what the hash is taken to answer. -/
def imgOf : List Byte :=
  [0x49, 0x53, 0x4B, 0x46, 1, 0, 0, 0, 0, 0, 0, 0, 0, 0, 0, 0, 0, 16] ++ List.replicate 4334 0
def sess : State :=
  { ctxIn 255 { state := 1, gen := 9 } with
    sec.lc := 3, sec.idSeed := [1], sec.sessions := [{ ctx := 255, gen := 9, key := [1] }] }
/-- The clauses whose conditions name free functions (log 7) are met where those functions answer as assumed here; no value
of theirs is known to the model. -/
theorem witness_ImagesCertificatesReportsAndSessions
    (hash : ∀ b, Config.sha512 b = List.replicate 64 0) (verify : ∀ k m g, Config.ed25519Verify k m g = true)
    (cert : ∀ d, Config.certKey d = List.replicate 32 0) (pub : ∀ k, Config.ed25519Pub k = List.replicate 32 0)
    (tag : ∀ k iv a c, Config.gcmTag k iv a c = List.replicate 16 0) :
    (∃ (p : Path) (img : List Byte) (s : State), accepts s p oFwImage 0 img = true ∧ s.stored = true) ∧
    (∃ (img : List Byte) (s : State), s.pending = [] ∧ quiet s ∧ s.hub.loader = false ∧ s.flash.fwNew = some img) ∧
    (∃ (p : Path) (der : List Byte) (s : State), accepts s p oDeviceCert 0 der = true ∧ s.stored = true) ∧
    (∃ (p : Path) (nonce : List Byte) (s : State), accepts s p oAttest 0 nonce = true ∧ s.stored = true) ∧
    (∃ (p : Path) (arg : List Byte) (s : State), accepts s p oSessionOpen 0 arg = true ∧ s.stored = true ∧
      s.sec.sessions.length ≤ 16) ∧
    (∃ (p : Path) (arg : List Byte) (c : Nat) (s : State), c = (arg.getD 0 0).toNat ∧
      accepts s p oKeyProvision 0 arg = true ∧ s.stored = true) ∧
    (∃ (p : Path) (arg : List Byte) (s : State), isHst (pathCode p) = false ∧ pathLive s p = true ∧ s.hub.loader = false ∧
      writeStatus s p oKeyProvision 0 arg = 2 ∧ arg.length = 56 ∧ s.stored = true) ∧
    (∃ (hd : Hd) (p : Path) (s : State), p = (if hd = 0 then .hd0 else .hd1) ∧ mailReady s hd = true ∧ s.stored = true) ∧
    (∃ (hd : Hd) (n due jn : Nat) (r : List Byte) (s : State), (getHost s hd).keyAns = some (n, due, jn, r) ∧ s.stored = true) ∧
    (∃ (c : Nat) (y : Session) (s : State), s.sec.sessions.find? (fun z => z.ctx == c) = some y) := by
  refine ⟨⟨.mgt0, imgOf, lit, ?_, by decide +kernel⟩,
    ⟨imgOf, { lit with flash.fwNew := some imgOf }, rfl, quietOf rfl rfl rfl rfl rfl rfl rfl rfl rfl, rfl, rfl⟩, ⟨.mgt0, [1], { lit with sec.lc := 1 }, ?_, by decide +kernel⟩,
    ⟨.mgt0, List.replicate 32 0, { lit with sec.lc := 3, sec.idSeed := [1] }, by decide +kernel, by decide +kernel⟩,
    ⟨.mgt0, [255, 9] ++ List.replicate 66 0, sess, by decide +kernel, by decide +kernel, by decide +kernel⟩,
    ⟨.mgt0, [255, 9] ++ List.replicate 54 0, 255, sess, by decide +kernel, ?_, by decide +kernel⟩,
    ⟨.mgt0, [255, 9] ++ List.replicate 53 0 ++ [1], sess, by decide +kernel, by decide +kernel, by decide +kernel, ?_,
      by decide +kernel, by decide +kernel⟩,
    ⟨1, .hd1, hosted, by decide +kernel, by decide +kernel, by decide +kernel⟩,
    ⟨1, 7, 9, 2, [1], { lit with hosts := [(1, { keyAns := some (7, 9, 2, [1]) })] }, by decide +kernel, by decide +kernel⟩,
    ⟨255, { ctx := 255, gen := 9, key := [1] }, sess, by decide +kernel⟩⟩
  · simp only [accepts, writeStatus, stepFour, ownStatus, commandStatus, imageCheck, hash, verify]; decide +kernel
  · simp only [accepts, writeStatus, stepFour, ownStatus, commandStatus, certStatus, cert, pub]; decide +kernel
  · simp only [accepts, writeStatus, stepFour, ownStatus, commandStatus, provisionStatus, tag]; decide +kernel
  · simp only [writeStatus, stepFour, ownStatus, commandStatus, provisionStatus, tag]; decide +kernel

/-- The clause on a recovery's report, whose condition `goodPeer` reads what free functions (log 7) answer. -/
theorem witness_ReportsForRecovery (hash : ∀ b, Config.sha512 b = List.replicate 64 0)
    (verify : ∀ k m g, Config.ed25519Verify k m g = true) (known : ∀ k, Config.endorsed k = true) :
    ∃ (r pub : List Byte) (s : State), s.hub.resumed = true ∧ s.stored = true ∧ (r.getD 385 0).toNat ≠ 0 ∧
      goodPeer r pub = true ∧ repMeasure r = slice s.sec.fwMeasure 0 64 ∧ (getKey s (r.getD 385 0).toNat).key ≠ [] ∧
      (getKey s (r.getD 385 0).toNat).recover = true ∧ (getKey s (r.getD 385 0).toNat).kcv = slice r 288 16 ∧
      noReports s = false ∧ s.sec.tamper = 0 ∧ lcState s = 2 := by
  refine ⟨[1, 0, 0, 2, 2] ++ List.replicate 379 0 ++ [4, 255] ++ List.replicate 126 0, [],
    { lit with sec.lc := 3, sec.idSeed := [1], sec.keys := [(255, { key := [1], recover := true, kcv := List.replicate 16 0 })] },
    by decide +kernel, by decide +kernel, by decide +kernel, ?_, by decide +kernel⟩
  simp only [goodPeer, repOk, hash, verify, known]; decide +kernel

/-- The content of a message from the twin, where the cipher is taken to keep the text as it is and to answer zero tags. -/
theorem opensAs (dec : ∀ k iv c, Config.gcmDec k iv c = c) (tag : ∀ k iv a c, Config.gcmTag k iv a c = List.replicate 16 0)
    {s : State} (c : List Byte) (hk : s.sec.pairKey = [1]) (hr : s.twin.rxCount = 2) :
    openTwin s 2 c (List.replicate 16 0) = some c := by
  simp [openTwin, dec, tag, hk, hr]
/-- An entry of 64 bytes, SEQ 1 and a chain that is not zero. -/
def broken : List Byte := [1, 0, 0, 0, 0, 0, 0, 0] ++ List.replicate 40 0 ++ [1] ++ List.replicate 15 0
/-- A whole image of 64 bytes. -/
def wholeImage : List Byte := [0x49, 0x53, 0x4B, 0x44, 1, 0, 0, 0, 0, 0, 0, 0, 64, 0, 0, 0] ++ List.replicate 48 0
/-- The inner clauses of the mirrored messages, whose conditions read what free functions (log 7) answer. -/
theorem witness_MirroredContents (dec : ∀ k iv c, Config.gcmDec k iv c = c)
    (tag : ∀ k iv a c, Config.gcmTag k iv a c = List.replicate 16 0) (hash : ∀ b, Config.sha512 b = List.replicate 64 0) :
    (∃ (c m : List Byte) (s : State), openTwin s 2 c (List.replicate 16 0) = some m ∧ s.twin.state = 2 ∧ s.stored = true ∧
      m.length = 64 ∧ (parseEntry m).seq = 0) ∧
    (∃ (c m : List Byte) (s : State), openTwin s 2 c (List.replicate 16 0) = some m ∧ s.twin.state = 2 ∧ s.stored = true ∧
      m.length = 64 ∧ (parseEntry m).seq ≠ 0 ∧ (tget {} s.twin.holdJournal ((parseEntry m).seq - 1)).chain ≠ [] ∧
      (parseEntry m).kind ≠ 0x10 ∧
      chainsFrom (tget {} s.twin.holdJournal ((parseEntry m).seq - 1)).chain (parseEntry m) = false) ∧
    (∃ (c m : List Byte) (u : List JEntry × List Checkpoint) (s : State), openTwin s 2 c (List.replicate 16 0) = some m ∧
      s.twin.state = 2 ∧ s.stored = true ∧ m.length ≠ 64 ∧ openUnit s.twin.pub s.twin.pub true m = some u) ∧
    (∃ (c m : List Byte) (s : State), openTwin s 2 c (List.replicate 16 0) = some m ∧ s.twin.state = 2 ∧ s.stored = true ∧
      leNat (slice m 0 4) = 0 ∧ leNat (slice m 4 4) = (m.drop 8).length ∧ (m.drop 8).length < 64) ∧
    (∃ (c m : List Byte) (s : State), openTwin s 2 c (List.replicate 16 0) = some m ∧ s.twin.state = 2 ∧ s.stored = true ∧
      leNat (slice m 0 4) = 0 ∧ leNat (slice m 4 4) = (m.drop 8).length ∧ 64 ≤ (m.drop 8).length ∧
      (m.drop 8).length = leNat (slice (m.drop 8) 12 4) ∧ slice (m.drop 8) 0 8 = [0x49, 0x53, 0x4B, 0x44, 1, 0, 0, 0]) ∧
    (∃ (c m : List Byte) (s : State), openTwin s 2 c (List.replicate 16 0) = some m ∧ s.twin.state = 2 ∧ s.stored = true ∧
      24 ≤ m.length ∧ s.twin.handover = none) ∧
    (∃ (c m : List Byte) (q : Nat) (s : State), openTwin s 2 c (List.replicate 16 0) = some m ∧ s.twin.state = 2 ∧
      s.stored = true ∧ s.twin.handover = some q ∧ (m.getD 0 0).toNat = 4 ∧ q ≤ leNat (slice m 8 8)) ∧
    (∃ (c m : List Byte) (q : Nat) (s : State), openTwin s 2 c (List.replicate 16 0) = some m ∧ s.twin.state = 2 ∧
      s.stored = true ∧ s.twin.handover = some q ∧ (m.getD 0 0).toNat ≠ 4) ∧
    (∃ (c m : List Byte) (s : State), openTwin s 2 c (List.replicate 16 0) = some m ∧ s.twin.state = 4 ∧ s.stored = true ∧
      m.length = 64 ∧ tget {} s.twin.inhJournal ((parseEntry m).seq - 1) = {} ∧ (m.getD 0 0).toNat = 0) ∧
    (∃ (c m : List Byte) (s : State), openTwin s 2 c (List.replicate 16 0) = some m ∧ s.twin.state = 4 ∧ s.stored = true ∧
      24 ≤ m.length ∧ slice (Config.gcmTag s.sec.pairKey (leBytes 4 3 ++ leBytes 8 (leNat (slice m 0 8)))
        (leBytes 2 s.twin.node ++ leBytes 2 (nodeId s)) ((m.drop 8).take (m.length - 24))) 0 16 =
        slice m (m.length - 16) 16) := by
  refine ⟨⟨_, _, paired 2, opensAs dec tag (List.replicate 64 0) rfl rfl, ?_⟩,
    ⟨_, _, { paired 2 with twin.holdJournal := [(0, { chain := [1] })] }, opensAs dec tag broken rfl rfl, ?_⟩,
    ⟨_, _, ([], [parseCkpt (List.replicate 128 0)]), paired 2, opensAs dec tag (List.replicate 320 0) rfl rfl, ?_⟩,
    ⟨_, _, paired 2, opensAs dec tag ([0, 0, 0, 0, 1, 0, 0, 0, 1]) rfl rfl, ?_⟩,
    ⟨_, _, paired 2, opensAs dec tag ([0, 0, 0, 0, 64, 0, 0, 0] ++ wholeImage) rfl rfl, ?_⟩,
    ⟨_, _, paired 2, opensAs dec tag (List.replicate 24 0) rfl rfl, ?_⟩,
    ⟨_, _, 7, { paired 2 with twin.handover := some 7 }, opensAs dec tag [4, 0, 0, 0, 0, 0, 0, 0, 7] rfl rfl, ?_⟩,
    ⟨_, _, 7, { paired 2 with twin.handover := some 7 }, opensAs dec tag [6, 0, 0, 0, 0, 0, 0, 0, 7] rfl rfl, ?_⟩,
    ⟨_, _, paired 4, opensAs dec tag (List.replicate 64 0) rfl rfl, ?_⟩,
    ⟨_, _, paired 4, opensAs dec tag (List.replicate 24 0) rfl rfl, ?_⟩⟩
  · decide +kernel
  · simp only [chainsFrom, hash]; decide +kernel
  all_goals first | decide +kernel | (simp only [tag]; decide +kernel)

/-- The indices 0 to 255, as the B unit of a scatter. -/
def distinctIdx : List Byte := (List.range 256).flatMap fun i => [byte i, 0, 0, 0]
def scatterWith (bs : List Byte) : State := { runIn 2 (nearFly 97 0 10 0 65536) with mem := putBytes [] 0x100000 bs }
def scatterSt : State := scatterWith distinctIdx

theorem distinctIdx_length : distinctIdx.length = 1024 := by decide +kernel

theorem scatterWith_reads (bs : List Byte) : readBytes (scatterWith bs) 0x100000 bs.length = bs :=
  readBytes_putBytes rfl rfl

theorem scatterWith_stored (bs : List Byte) : (scatterWith bs).stored = true := by
  have h : Memory.wf (scatterWith bs).mem = true := putBytes_wf _ _ rfl
  unfold State.stored
  rw [h]
  rfl

theorem scatterSt_reads : elems 10 256 (readBytes scatterSt 0x100000 1024) = List.range 256 := by
  have h := scatterWith_reads distinctIdx
  rw [distinctIdx_length] at h
  rw [scatterSt, h]
  decide +kernel

theorem witness_VectorUnitsScatterDistinct :
  (∃ (d : Die) (s : State) (x : InFlight),
  (nextExec s d 2 0x61 = some x) ∧ (spHeld s d x.desc = false) ∧ (fmtOk x.desc = true) ∧ (s.stored = true) ∧
  (plainRun s x = true) ∧ (spClear s d x = true) ∧ (x.desc.iters = 1) ∧ (x.issue + x.stalls + 32 ≤ x.deadline) ∧
  (∀ b ∈ elems 10 256 (readBytes s (offset (x.desc.addrAt x.desc.b 0)) x.desc.unitB), goodIndex x.desc b = true) ∧
  (elems 10 256 (readBytes s (offset (x.desc.addrAt x.desc.b 0)) x.desc.unitB)).Nodup) := by
  have ha : offset ((nearFly 97 0 10 0 65536).desc.addrAt (nearFly 97 0 10 0 65536).desc.b 0) = 0x100000 := by decide +kernel
  have hu : (nearFly 97 0 10 0 65536).desc.unitB = 1024 := by decide +kernel
  refine ⟨0, scatterSt, nearFly 97 0 10 0 65536, by decide +kernel, by decide +kernel, by decide +kernel, scatterWith_stored _,
    by decide +kernel, by decide +kernel, by decide +kernel, by decide +kernel, ?_, ?_⟩
  · rw [ha, hu, scatterSt_reads]; decide +kernel
  · rw [ha, hu, scatterSt_reads]; exact List.nodup_range

end Sys2Proof.Tests
end

/-! The statements of 00_scope.md: what every step keeps, and what memory reads after a write and after zeroing. -/
namespace Sys2Proof.Machine
open Sys2Proof

/-! ## Every step keeps the canonical form

The frame lemma of each command says in its part `sto` that the command keeps it; `exec_stored` joins them. -/

theorem exec_stored {i : Instr} {s t : State} (hx : exec i s = .next t) : s.stored = true → t.stored = true := by
  cases i with
  | powerUp surroundings => exact (execPowerUp_same surroundings s t hx).sto
  | startupResume => exact (execStartupResume_same s t hx).sto
  | facetPowerOn f => exact (execFacetPowerOn_same f s t hx).sto
  | strapLatch site strap => exact (execStrapLatch_same site strap s t hx).sto
  | dieAdmission together => exact (execDieAdmission_same together s t hx).sto
  | linkSelfTestDone link end_ failingLanes redundant =>
    exact (execLinkSelfTestDone_same link end_ failingLanes redundant s t hx).sto
  | pkgLinkTrained link modules repairs => exact (execPkgLinkTrained_same link modules repairs s t hx).sto
  | pkgLinkRetrainDone link ok => exact (execPkgLinkRetrainDone_same link ok s t hx).sto
  | pkgLinkTest path link kind => exact (execPkgLinkTest_same path link kind s t hx).sto
  | nearTrainingDone die failingLanes => exact (execNearTrainingDone_same die failingLanes s t hx).sto
  | nearZeroingDone die => exact (execNearZeroingDone_same die s t hx).sto
  | farTrainingDone fd failingLanes => exact (execFarTrainingDone_same fd failingLanes s t hx).sto
  | farZeroingDone fd => exact (execFarZeroingDone_same fd s t hx).sto
  | frameTick f m => exact (execFrameTick_same f m s t hx).sto
  | joinHold f => exact (execJoinHold_same f s t hx).sto
  | spDomainWake die dom => exact (execSpDomainWake_same die dom s t hx).sto
  | spZeroingDone die dom => exact (execSpZeroingDone_same die dom s t hx).sto
  | descriptorFetch die engine slot cycle => exact (execDescriptorFetch_same die engine slot cycle s t hx).sto
  | descriptorIssue die engine cycle expectStalls =>
    exact (execDescriptorIssue_same die engine cycle expectStalls s t hx).sto
  | descriptorRetire die engine cycle => exact (execDescriptorRetire_same die engine cycle s t hx).sto
  | frameOverrun die engine => exact (execFrameOverrun_same die engine s t hx).sto
  | signalArrival die sem set code remote value =>
    exact (execSignalArrival_same die sem set code remote value s t hx).sto
  | sync die engine => exact (execSync_same die engine s t hx).sto
  | dmemSwap die engine => exact (execDmemSwap_same die engine s t hx).sto
  | swapRequest hd die tag => exact (execSwapRequest_same hd die tag s t hx).sto
  | swapRequestAccept die => exact (execSwapRequestAccept_same die s t hx).sto
  | swapCancel hd die tag => exact (execSwapCancel_same hd die tag s t hx).sto
  | hostDmemWrite hd offset data tag => exact (execHostDmemWrite_same hd offset data tag s t hx).sto
  | mm die ma => exact (execMm_same die ma s t hx).sto
  | mmX3 die ma => exact (execMmX3_same die ma s t hx).sto
  | mmC3 die ma => exact (execMmC3_same die ma s t hx).sto
  | mmC4 die ma => exact (execMmC4_same die ma s t hx).sto
  | mmSlice die ma => exact (execMmSlice_same die ma s t hx).sto
  | ewMul die ma => exact (execEwMul_same die ma s t hx).sto
  | vadd die => exact (execVadd_same die s t hx).sto
  | vsub die => exact (execVsub_same die s t hx).sto
  | vmul die => exact (execVmul_same die s t hx).sto
  | vfma die => exact (execVfma_same die s t hx).sto
  | vmax die => exact (execVmax_same die s t hx).sto
  | vmin die => exact (execVmin_same die s t hx).sto
  | vselect die => exact (execVselect_same die s t hx).sto
  | vexp die => exact (execVexp_same die s t hx).sto
  | vlog die => exact (execVlog_same die s t hx).sto
  | vrecip die => exact (execVrecip_same die s t hx).sto
  | vrsqrt die => exact (execVrsqrt_same die s t hx).sto
  | vtanh die => exact (execVtanh_same die s t hx).sto
  | vsigmoid die => exact (execVsigmoid_same die s t hx).sto
  | vcvt die => exact (execVcvt_same die s t hx).sto
  | vquant die => exact (execVquant_same die s t hx).sto
  | vdequant die => exact (execVdequant_same die s t hx).sto
  | vslice die => exact (execVslice_same die s t hx).sto
  | vred die => exact (execVred_same die s t hx).sto
  | vhred die => exact (execVhred_same die s t hx).sto
  | vgather die => exact (execVgather_same die s t hx).sto
  | vscatter die => exact (execVscatter_same die s t hx).sto
  | copy die ce expectLost => exact (execCopy_same die ce expectLost s t hx).sto
  | fill die ce expectLost => exact (execFill_same die ce expectLost s t hx).sto
  | atom die ce expectLost => exact (execAtom_same die ce expectLost s t hx).sto
  | nbLoad die => exact (execNbLoad_same die s t hx).sto
  | nbStore die => exact (execNbStore_same die s t hx).sto
  | nbMv die => exact (execNbMv_same die s t hx).sto
  | nbReduce die => exact (execNbReduce_same die s t hx).sto
  | nbAxpy die => exact (execNbAxpy_same die s t hx).sto
  | nbScale die => exact (execNbScale_same die s t hx).sto
  | nbSearch die => exact (execNbSearch_same die s t hx).sto
  | nbTopk die => exact (execNbTopk_same die s t hx).sto
  | put die ce => exact (execPut_same die ce s t hx).sto
  | putFlag die ce => exact (execPutFlag_same die ce s t hx).sto
  | get die ce => exact (execGet_same die ce s t hx).sto
  | load die ce => exact (execLoad_same die ce s t hx).sto
  | ratom die ce => exact (execRatom_same die ce s t hx).sto
  | fence die ce => exact (execFence_same die ce s t hx).sto
  | fenceComplete die slot => exact (execFenceComplete_same die slot s t hx).sto
  | fenceTimeout die slot => exact (execFenceTimeout_same die slot s t hx).sto
  | planLoad die ce => exact (execPlanLoad_same die ce s t hx).sto
  | collStart die ce => exact (execCollStart_same die ce s t hx).sto
  | bankAtomic die offset swap etype value expectCollides =>
    exact (execBankAtomic_same die offset swap etype value expectCollides s t hx).sto
  | eccWriteback addr => exact (execEccWriteback_same addr s t hx).sto
  | refreshWindowStart f marginal => exact (execRefreshWindowStart_same f marginal s t hx).sto
  | refreshDebtAccrue die => exact (execRefreshDebtAccrue_same die s t hx).sto
  | rowGroupRefresh die => exact (execRowGroupRefresh_same die s t hx).sto
  | farPriorityWindow fd => exact (execFarPriorityWindow_same fd s t hx).sto
  | farLaneMarginCheck fd channel below => exact (execFarLaneMarginCheck_same fd channel below s t hx).sto
  | updateBufferEvict line => exact (execUpdateBufferEvict_same line s t hx).sto
  | farScrub fd => exact (execFarScrub_same fd s t hx).sto
  | rd p => exact (execRd_same p s t hx).sto
  | wr p expectCollides => exact (execWr_same p expectCollides s t hx).sto
  | sigAdd p => exact (execSigAdd_same p s t hx).sto
  | sigSet p => exact (execSigSet_same p s t hx).sto
  | atAdd p => exact (execAtAdd_same p s t hx).sto
  | atMin p => exact (execAtMin_same p s t hx).sto
  | atMax p => exact (execAtMax_same p s t hx).sto
  | atSwap p => exact (execAtSwap_same p s t hx).sto
  | atCas p => exact (execAtCas_same p s t hx).sto
  | rdRsp p => exact (execRdRsp_same p s t hx).sto
  | wrAck p => exact (execWrAck_same p s t hx).sto
  | atRsp p => exact (execAtRsp_same p s t hx).sto
  | arrAdd p => exact (execArrAdd_same p s t hx).sto
  | host p => exact (execHost_same p s t hx).sto
  | mgmt p => exact (execMgmt_same p s t hx).sto
  | pkgReservedOp router p => exact (execPkgReservedOp_same router p s t hx).sto
  | flitReceive link dir flit => exact (execFlitReceive_same link dir flit s t hx).sto
  | replay link dir seq => exact (execReplay_same link dir seq s t hx).sto
  | flitReplayTimeout link dir => exact (execFlitReplayTimeout_same link dir s t hx).sto
  | hostAdmission hd modules rate agreed identity =>
    exact (execHostAdmission_same hd modules rate agreed identity s t hx).sto
  | hostSidebandTimeout hd => exact (execHostSidebandTimeout_same hd s t hx).sto
  | hostRequest hd r => exact (execHostRequest_same hd r s t hx).sto
  | fwTableWrite path hd value => exact (execFwTableWrite_same path hd value s t hx).sto
  | semRing hd ctx die value => exact (execSemRing_same hd ctx die value s t hx).sto
  | xchTail hd ctx value => exact (execXchTail_same hd ctx value s t hx).sto
  | exchangeRequest hd ctx => exact (execExchangeRequest_same hd ctx s t hx).sto
  | exchangeComplete hd => exact (execExchangeComplete_same hd s t hx).sto
  | hostReset hd => exact (execHostReset_same hd s t hx).sto
  | hostLinkLost hd retrained => exact (execHostLinkLost_same hd retrained s t hx).sto
  | msixHoldoffExpiry hd vector => exact (execMsixHoldoffExpiry_same hd vector s t hx).sto
  | go hd => exact (execGo_same hd s t hx).sto
  | ctxCreate hd => exact (execCtxCreate_same hd s t hx).sto
  | ctxAssign hd ctx kind die first count => exact (execCtxAssign_same hd ctx kind die first count s t hx).sto
  | ctxUnassign hd ctx kind die first count =>
    exact (execCtxUnassign_same hd ctx kind die first count s t hx).sto
  | ctxBind hd ctx mask slot dumpHd dumpOff dumpSize maps =>
    exact (execCtxBind_same hd ctx mask slot dumpHd dumpOff dumpSize maps s t hx).sto
  | ctxReset hd ctx dumpHd dumpOff dumpSize =>
    exact (execCtxReset_same hd ctx dumpHd dumpOff dumpSize s t hx).sto
  | ctxRelease hd ctx => exact (execCtxRelease_same hd ctx s t hx).sto
  | objRead hd index sub => exact (execObjRead_same hd index sub s t hx).sto
  | objWrite hd index sub value => exact (execObjWrite_same hd index sub value s t hx).sto
  | teardownResume ctx => exact (execTeardownResume_same ctx s t hx).sto
  | drainTimeout ctx => exact (execDrainTimeout_same ctx s t hx).sto
  | teardownClear ctx => exact (execTeardownClear_same ctx s t hx).sto
  | unitZeroingDone kind die unit => exact (execUnitZeroingDone_same kind die unit s t hx).sto
  | facetReset path f value => exact (execFacetReset_same path f value s t hx).sto
  | facetResetOffEnd f => exact (execFacetResetOffEnd_same f s t hx).sto
  | logDelivery site n => exact (execLogDelivery_same site n s t hx).sto
  | logEntryClose seq => exact (execLogEntryClose_same seq s t hx).sto
  | logDropPoll => exact (execLogDropPoll_same s t hx).sto
  | optLinkEnable path oe value => exact (execOptLinkEnable_same path oe value s t hx).sto
  | optLsmEnable path m value => exact (execOptLsmEnable_same path m value s t hx).sto
  | lsmInsert m => exact (execLsmInsert_same m s t hx).sto
  | lsmModuleReady m identity => exact (execLsmModuleReady_same m identity s t hx).sto
  | lsmRemove m => exact (execLsmRemove_same m s t hx).sto
  | lsmFault m flag => exact (execLsmFault_same m flag s t hx).sto
  | openFibreTimeout oe => exact (execOpenFibreTimeout_same oe s t hx).sto
  | laserProbe oe => exact (execLaserProbe_same oe s t hx).sto
  | rxLightReturn oe => exact (execRxLightReturn_same oe s t hx).sto
  | feedsGood oe => exact (execFeedsGood_same oe s t hx).sto
  | feedsLost oe => exact (execFeedsLost_same oe s t hx).sto
  | ringLockDone oe rxFibres => exact (execRingLockDone_same oe rxFibres s t hx).sto
  | alignDone oe a => exact (execAlignDone_same oe a s t hx).sto
  | optSetupTimeout oe => exact (execOptSetupTimeout_same oe s t hx).sto
  | relockTimeout oe => exact (execRelockTimeout_same oe s t hx).sto
  | downRetry oe => exact (execDownRetry_same oe s t hx).sto
  | laneFrame oe fibre line h errs => exact (execLaneFrame_same oe fibre line h errs s t hx).sto
  | linkFrame oe x => exact (execLinkFrame_same oe x s t hx).sto
  | nakRepeat oe => exact (execNakRepeat_same oe s t hx).sto
  | optReplayTimeout oe => exact (execOptReplayTimeout_same oe s t hx).sto
  | keyEpochAdvance oe side => exact (execKeyEpochAdvance_same oe side s t hx).sto
  | mislockRelock oe side fibre line verified =>
    exact (execMislockRelock_same oe side fibre line verified s t hx).sto
  | ringHoldTimeout oe side fibre line => exact (execRingHoldTimeout_same oe side fibre line s t hx).sto
  | txRingUnlockTimeout oe fibre line => exact (execTxRingUnlockTimeout_same oe fibre line s t hx).sto
  | urgentRecentre oe side fibre line => exact (execUrgentRecentre_same oe side fibre line s t hx).sto
  | lineJudgeWindow oe seen => exact (execLineJudgeWindow_same oe seen s t hx).sto
  | calSlotStart oe fibre => exact (execCalSlotStart_same oe fibre s t hx).sto
  | calSlotFinish oe fibre ok => exact (execCalSlotFinish_same oe fibre ok s t hx).sto
  | monitorWindow oe laser pm fc ri => exact (execMonitorWindow_same oe laser pm fc ri s t hx).sto
  | ping oe m => exact (execPing_same oe m s t hx).sto
  | echo oe m => exact (execEcho_same oe m s t hx).sto
  | ident oe m => exact (execIdent_same oe m s t hx).sto
  | moveToSpare oe m => exact (execMoveToSpare_same oe m s t hx).sto
  | moveBack oe m => exact (execMoveBack_same oe m s t hx).sto
  | lineFailed oe m => exact (execLineFailed_same oe m s t hx).sto
  | txSuspect oe m => exact (execTxSuspect_same oe m s t hx).sto
  | monReport oe m => exact (execMonReport_same oe m s t hx).sto
  | calBegin oe m => exact (execCalBegin_same oe m s t hx).sto
  | calEnd oe m => exact (execCalEnd_same oe m s t hx).sto
  | attestFrag oe m => exact (execAttestFrag_same oe m s t hx).sto
  | keyShare oe m signature => exact (execKeyShare_same oe m signature s t hx).sto
  | keyConfirm oe m => exact (execKeyConfirm_same oe m s t hx).sto
  | refuse oe m => exact (execRefuse_same oe m s t hx).sto
  | width oe m => exact (execWidth_same oe m s t hx).sto
  | unknownControlType oe m => exact (execUnknownControlType_same oe m s t hx).sto
  | mPut oe p => exact (execMPut_same oe p s t hx).sto
  | mGet oe p => exact (execMGet_same oe p s t hx).sto
  | mLoad oe p => exact (execMLoad_same oe p s t hx).sto
  | mAtom oe p => exact (execMAtom_same oe p s t hx).sto
  | mTerminationComplete term => exact (execMTerminationComplete_same term s t hx).sto
  | mData oe p => exact (execMData_same oe p s t hx).sto
  | mAck oe p => exact (execMAck_same oe p s t hx).sto
  | ackCoalesceTimeout pd => exact (execAckCoalesceTimeout_same pd s t hx).sto
  | mCredit oe reserved shared => exact (execMCredit_same oe reserved shared s t hx).sto
  | creditReturnTimer oe => exact (execCreditReturnTimer_same oe s t hx).sto
  | mDrain oe p => exact (execMDrain_same oe p s t hx).sto
  | mMgmt oe p => exact (execMMgmt_same oe p s t hx).sto
  | machineReservedOp oe p => exact (execMachineReservedOp_same oe p s t hx).sto
  | portDownDiscard oe => exact (execPortDownDiscard_same oe s t hx).sto
  | flaggedStoreRelease pd => exact (execFlaggedStoreRelease_same pd s t hx).sto
  | portMask path value => exact (execPortMask_same path value s t hx).sto
  | cUp oe p => exact (execCUp_same oe p s t hx).sto
  | cDown oe p => exact (execCDown_same oe p s t hx).sto
  | arrive oe p => exact (execArrive_same oe p s t hx).sto
  | release oe p => exact (execRelease_same oe p s t hx).sto
  | grant oe p => exact (execGrant_same oe p s t hx).sto
  | abort oe p => exact (execAbort_same oe p s t hx).sto
  | prune oe p => exact (execPrune_same oe p s t hx).sto
  | collComplete pd ctx collId => exact (execCollComplete_same pd ctx collId s t hx).sto
  | collTimeout pd ctx collId => exact (execCollTimeout_same pd ctx collId s t hx).sto
  | settleWindowClose pd ctx collId => exact (execSettleWindowClose_same pd ctx collId s t hx).sto
  | collHoldRelease path value => exact (execCollHoldRelease_same path value s t hx).sto
  | heartbeat => exact (execHeartbeat_same s t hx).sto
  | hubTakeover fatal => exact (execHubTakeover_same fatal s t hx).sto
  | tamperWipe flags => exact (execTamperWipe_same flags s t hx).sto
  | fwImage path image => exact (execFwImage_same path image s t hx).sto
  | deviceCert path der => exact (execDeviceCert_same path der s t hx).sto
  | attest path nonce => exact (execAttest_same path nonce s t hx).sto
  | sessionOpen path arg => exact (execSessionOpen_same path arg s t hx).sto
  | keyProvision path arg => exact (execKeyProvision_same path arg s t hx).sto
  | sessionTimeout ctx => exact (execSessionTimeout_same ctx s t hx).sto
  | keyRecover path arg => exact (execKeyRecover_same path arg s t hx).sto
  | keyRecoverResponse node report pub wrapped tag =>
    exact (execKeyRecoverResponse_same node report pub wrapped tag s t hx).sto
  | keyRecoverTimeout => exact (execKeyRecoverTimeout_same s t hx).sto
  | provision => exact (execProvision_same s t hx).sto
  | deploy path => exact (execDeploy_same path s t hx).sto
  | enterService path => exact (execEnterService_same path s t hx).sto
  | leaveService path => exact (execLeaveService_same path s t hx).sto
  | retire path => exact (execRetire_same path s t hx).sto
  | svCommit path => exact (execSvCommit_same path s t hx).sto
  | ioapMessage path by_ bytes => exact (execIoapMessage_same path by_ bytes s t hx).sto
  | read path source reqId index sub offset length =>
    exact (execRead_same path source reqId index sub offset length s t hx).sto
  | write path source reqId index sub offset last value =>
    exact (execWrite_same path source reqId index sub offset last value s t hx).sto
  | objectWrite path index sub value => exact (execObjectWrite_same path index sub value s t hx).sto
  | describe path source reqId index sub => exact (execDescribe_same path source reqId index sub s t hx).sto
  | ioapPing path source reqId => exact (execIoapPing_same path source reqId s t hx).sto
  | bootStatus path source reqId => exact (execBootStatus_same path source reqId s t hx).sto
  | imageChunk path source reqId offset value =>
    exact (execImageChunk_same path source reqId offset value s t hx).sto
  | commit path source reqId => exact (execCommit_same path source reqId s t hx).sto
  | stagedWriteTimeout path => exact (execStagedWriteTimeout_same path s t hx).sto
  | fragmentTimeout node msgId => exact (execFragmentTimeout_same node msgId s t hx).sto
  | icmpv6Echo port dst payload => exact (execIcmpv6Echo_same port dst payload s t hx).sto
  | neighbourDiscovery port target => exact (execNeighbourDiscovery_same port target s t hx).sto
  | multicastListenerQuery port => exact (execMulticastListenerQuery_same port s t hx).sto
  | mctpAddressAssign dynAddr eid => exact (execMctpAddressAssign_same dynAddr eid s t hx).sto
  | coolantInletReport tenthC => exact (execCoolantInletReport_same tenthC s t hx).sto
  | checkpointCommit => exact (execCheckpointCommit_same s t hx).sto
  | journalFlush path value => exact (execJournalFlush_same path value s t hx).sto
  | twinPair path node twinId => exact (execTwinPair_same path node twinId s t hx).sto
  | twinReplace path node twinId => exact (execTwinReplace_same path node twinId s t hx).sto
  | twinDetachRelease path => exact (execTwinDetachRelease_same path s t hx).sto
  | twinDetachHandover path => exact (execTwinDetachHandover_same path s t hx).sto
  | twinHeartbeat node => exact (execTwinHeartbeat_same node s t hx).sto
  | twinHeartbeatTimeout => exact (execTwinHeartbeatTimeout_same s t hx).sto
  | twinPairingTimeout => exact (execTwinPairingTimeout_same s t hx).sto
  | reportExchange node report pub => exact (execReportExchange_same node report pub s t hx).sto
  | journalMirrorUnit count sealed tag => exact (execJournalMirrorUnit_same count sealed tag s t hx).sto
  | persistentImagePart count sealed tag => exact (execPersistentImagePart_same count sealed tag s t hx).sto
  | keyBlob count sealed tag => exact (execKeyBlob_same count sealed tag s t hx).sto
  | mgmtAcknowledgement count sealed tag => exact (execMgmtAcknowledgement_same count sealed tag s t hx).sto
  | sagEnter volts10mV => exact (execSagEnter_same volts10mV s t hx).sto
  | sagExit volts10mV => exact (execSagExit_same volts10mV s t hx).sto
  | sagTimeout => exact (execSagTimeout_same s t hx).sto
  | orderlyStop high volts10mV => exact (execOrderlyStop_same high volts10mV s t hx).sto
  | stopComplete => exact (execStopComplete_same s t hx).sto
  | powerCapWindow energyMj => exact (execPowerCapWindow_same energyMj s t hx).sto
  | sharedModelUpdate inputPower temps => exact (execSharedModelUpdate_same inputPower temps s t hx).sto
  | thermalAnchor reads => exact (execThermalAnchor_same reads s t hx).sto
  | dieSensors path site reads => exact (execDieSensors_same path site reads s t hx).sto
  | thermalTrip site sensor temp volts10mV =>
    exact (execThermalTrip_same site sensor temp volts10mV s t hx).sto
  | powerDown vstbyHeld => exact (execPowerDown_same vstbyHeld s t hx).sto
  | standbyHubFailure => exact (execStandbyHubFailure_same s t hx).sto
  | pkgLinkTrainingBoundExceeded link => exact (execPkgLinkTrainingBoundExceeded_same link s t hx).sto
  | mgtPortLinkChange port up => exact (execMgtPortLinkChange_same port up s t hx).sto
  | persistentWriteCommitted => exact (execPersistentWriteCommitted_same s t hx).sto
  | grantReturnDeadline pd => exact (execGrantReturnDeadline_same pd s t hx).sto

theorem step_stored {s t : State} (hs : s.stored = true) (h : step s = .next t) : t.stored = true := by
  unfold step at h
  split at h
  · exact (Same.next h (idleStep_same s)).sto hs
  · exact exec_stored h hs

/-- Settles O55: each command by its own frame lemma, the idle step by `idleStep_same`. -/
theorem everyStepKeepsTheTablesCanonical : Obligations.EveryStepKeepsTheTablesCanonical :=
  fun _ _ => step_stored

/-! ## What memory reads -/

/-- A string of bytes put into a table is read back byte by byte, and no other key changes. -/
theorem tget_putBytes {m : List Host.Cell} {a x : Nat} (bs : List Byte) (h : rising none m = true) :
    tget 0 (putBytes m a bs) x = if a ≤ x ∧ x < a + bs.length then bs.getD (x - a) 0 else tget 0 m x := by
  induction bs generalizing m a with
  | nil => rw [if_neg (by simp)]; rfl
  | cons b bs ih =>
    rcases Nat.lt_trichotomy x a with hx | rfl | hx
    · rw [tget_putBytes_below _ h hx, if_neg (by omega)]
    · rw [putBytes, tget_putBytes_below _ (rising_tset h) (Nat.lt_succ_self x), tget_tset_same h, if_pos (by simp)]
      simp
    · have hidx : x - a = x - (a + 1) + 1 := by omega
      have hin : (a + 1 ≤ x ∧ x < a + 1 + bs.length) ↔ (a ≤ x ∧ x < a + (b :: bs).length) := by
        rw [List.length_cons]; omega
      rw [putBytes, ih (rising_tset h), tget_tset_ne h (Nat.ne_of_gt hx), hidx, List.getD_cons_succ]
      simp only [hin]

theorem memGet_writeBytes {s : State} (a x : Nat) (bs : List Byte) (h : Memory.wf s.mem = true) :
    memGet (writeBytes a bs s) x = if a ≤ x ∧ x < a + bs.length then bs.getD (x - a) 0 else memGet s x :=
  tget_putBytes bs (wf_rising h)

theorem memGet_zeroBytes {s : State} (a n x : Nat) (h : Memory.wf s.mem = true) :
    memGet (zeroBytes a n s) x = if a ≤ x ∧ x < a + n then 0 else memGet s x :=
  tget_tclear (wf_rising h)

/-- A string written is what a read of its length gives back. -/
theorem readBytes_writeBytes {s : State} (a : Nat) (bs : List Byte) (h : Memory.wf s.mem = true) :
    readBytes (writeBytes a bs s) a bs.length = bs :=
  readBytes_putBytes (wf_rising h) rfl

@[simp] theorem leBytes_length (k n : Nat) : (leBytes k n).length = k := by
  induction k generalizing n with
  | zero => rfl
  | succ k ih => rw [leBytes, List.length_cons, ih]

/-- Byte `i` of a little-endian number, lowest byte first (R6). -/
theorem leBytes_getD {k i : Nat} (n : Nat) (hi : i < k) : (leBytes k n).getD i 0 = byte (n / 256 ^ i) := by
  induction k generalizing n i with
  | zero => omega
  | succ k ih =>
    cases i with
    | zero => simp [leBytes]
    | succ i => rw [leBytes, List.getD_cons_succ, ih _ (by omega), Nat.div_div_eq_div_mul, Nat.pow_succ']

/-- The bytes of a number hold it modulo their range. -/
theorem leNat_leBytes (k n : Nat) : leNat (leBytes k n) = n % 256 ^ k := by
  induction k generalizing n with
  | zero => simp [leBytes, leNat, Nat.mod_one]
  | succ k ih =>
    rw [leBytes, leNat, ih, Nat.pow_succ', Nat.mod_mul, BitVec.toNat_ofNat]

theorem read64_writeBytes_u64 {s : State} (a v : Nat) (h : Memory.wf s.mem = true) :
    read64 (writeBytes a (u64 v) s) a = v % 2 ^ 64 := by
  have hread : readBytes (writeBytes a (u64 v) s) a 8 = u64 v := by
    simpa [u64] using readBytes_writeBytes a (u64 v) h
  rw [read64, hread, u64, leNat_leBytes, show 256 ^ 8 = 2 ^ 64 from rfl]

/-- Settles O60: byte by byte by `memGet_writeBytes` and `memGet_zeroBytes`, the 64-bit value by its little-endian
bytes. -/
theorem memoryReadsWhatWasWritten : Obligations.MemoryReadsWhatWasWritten := by
  refine ⟨fun a x bs _ h => memGet_writeBytes a x bs h, fun a n x _ h => memGet_zeroBytes a n x h,
    fun a v i _ h hi => ⟨?_, read64_writeBytes_u64 a v h⟩⟩
  have hin : a ≤ a + i ∧ a + i < a + (u64 v).length := by simp [u64, hi]
  rw [memGet_writeBytes _ _ _ h, if_pos hin, Nat.add_sub_cancel_left, u64, leBytes_getD v hi]

end Sys2Proof.Machine

/-! M_DATA at its source (R274): a counterexample to O38. `goesAtOnce` adds the flits of all pieces to what a direction has
outstanding before the first, and `State.stored` does not say that *oldest* is a SEQ, below 4,096. Where it is not,
`LinkDir.outstanding` truncates to 0, so `packStream` moves *nextSeq* and *oldest* on modulo 4,096 as if nothing were
outstanding; the two then lie 4,095 apart, and the next piece finds no room for its flits. The commands keep both below 4,096: a premise that says so is what
the statement lacks here. -/
namespace Sys2Proof.Machine
open Sys2Proof

/-- The direction of link 84 from prism die 0 to compute die 1. -/
def answerDir : Nat := 169

/-- Node 0 awaits one answer for compute die 1; the oldest unacknowledged SEQ on the answer's only link is 4,097. -/
def straySeqState : State :=
  { mg := { num := [(objKey oNodeId 0, 0)] }, admitted := [(1, 1), (64, 1)],
    links := [(84, { state := 3 }), (108, { state := 3 })], dirs := [(answerDir, { oldest := 4097 })],
    outst := [(outKey 1 0 0, 1)] }

/-- An answer of 8 data units: two pieces on the package (R204). -/
def twoPieceAnswer : Mpk := { op := 0x24, srcDie := 1, len := 8, data := List.replicate 256 1 }

/-- `straySeqState` after the answer has come in by engine 0. -/
def strayAnswered : State := receive true 0 twoPieceAnswer (toDie (oePd 0)) straySeqState

theorem execMData_twoPieceAnswer : exec (.mData 0 twoPieceAnswer) straySeqState = .next strayAnswered := rfl

theorem straySeqState_stored : straySeqState.stored = true := by decide +kernel

theorem straySeqState_ejects : ejects straySeqState 0 = true := by decide +kernel

/-- No flit counts as outstanding, so both pieces have room for their flits. -/
theorem twoPieceAnswer_goesAtOnce :
    goesAtOnce straySeqState 1 (64 + oePd 0) 1 1 (diePieces twoPieceAnswer) = true := by decide +kernel

/-- The flits of the first piece leave 4,095 outstanding: the second waits at its port, and the answer still counts as awaited. -/
theorem strayAnswered_waits :
    (getDir strayAnswered answerDir).outstanding = 4095 ∧ (getDir strayAnswered answerDir).port.length = 1 ∧
      outCount strayAnswered 1 0 0 = 1 := by decide +kernel

/-- Refutes O38: M_DATA that is to pass at once takes nothing from the outstanding count where its second piece waits for room
for its flits (`strayAnswered_waits`). -/
theorem not_machineAnswersCreditsAndMarkersReturn : ¬ Obligations.MachineAnswersCreditsAndMarkersReturn := by
  unfold Obligations.MachineAnswersCreditsAndMarkersReturn
  rintro ⟨-, -, hdata, -⟩
  obtain ⟨t, ht, hcount, -⟩ := hdata 0 twoPieceAnswer straySeqState (by decide) rfl rfl straySeqState_ejects rfl rfl
    twoPieceAnswer_goesAtOnce straySeqState_stored
  obtain rfl : strayAnswered = t := Host.Outcome.next.inj (execMData_twoPieceAnswer.symm.trans ht)
  have hbefore : outCount straySeqState 1 0 0 = 1 := by decide
  obtain ⟨-, -, hafter⟩ := strayAnswered_waits
  have hcount : outCount strayAnswered 1 0 0 = outCount straySeqState 1 0 0 - 1 := hcount
  omega

end Sys2Proof.Machine
